-- ==== Sys2Proof/Word.lean ====
section
/-! DEFINITION. The word types of the model: a byte and a 32-bit register word (00, Conventions: bit 0 is the least significant). -/

namespace Sys2Proof

/-- One byte of a payload, a frame or host memory. -/
abbrev Byte := BitVec 8

/-- One 32-bit register, constant, scratch word or engine operand. -/
abbrev Word := BitVec 32

end Sys2Proof
end

