-- ==== Sys2Proof/Config.lean ====
section
/-! DEFINITION. The two build parameters of the block (R1, R78) and the FREE VALUES: opaque constants for what the manual leaves open.
Nothing can evaluate a free value, so a claim holds whatever it is. Each one is named in the assumption log. -/

namespace Sys2Proof

/-- P_CONFIG (R1, R78): the six configurations. -/
inductive BuildConfig where
  | S1 | S2 | S4 | S8 | S16 | S32
deriving DecidableEq, Repr

/-- The build parameters of one block (R78): fixed at integration, never changed by a step. -/
structure Build where
  config : BuildConfig
  owlHz : Nat
deriving DecidableEq, Repr

namespace Config

/-- FREE VALUE (log 10): whether the signature of a patch image holds (R121; the Kwathen key is not given). -/
opaque patchSigOk : List Byte → Bool
/-- FREE VALUE (log 10): whether a patch image names firmware 3.2.0 (R121; the image's layout is not given). -/
opaque patchBaseOk : List Byte → Bool
/-- FREE VALUE (log 10): the level a patch image carries (R121). -/
opaque patchLevel : List Byte → Nat
/-- FREE VALUE (log 11): where a bank's free ring stands at the n-th cell taken (R251 gives the ring no initial order). -/
opaque freeCell : Nat → Nat
/-- FREE VALUE (log 12): which FREE buffer of a pool the n-th ALLOC takes (R254 gives the ring no order). -/
opaque freeBuffer : Nat → Nat
/-- FREE VALUE (log 13): whether an insert beyond a table's GUARANTEED count finds its bucket line and the overflow stash full (R203, R259). -/
opaque bucketFull : Nat → Bool
/-- FREE VALUE (log 14): byte i of a memory line whose content the manual gives no layout for (MEM_READ: memory, index, line, byte). -/
opaque memLine : Nat → Nat → Nat → Nat → Byte
/-- FREE VALUE (log 15): the default Tw_sys_tx in ns of a rate (R141 names IEEE 802.3 clause 78 and gives no figure). -/
opaque twDefault : Nat → Nat
/-- FREE VALUE (log 16): the 8-byte NONCE of the n-th draw (R380). -/
opaque nonce : Nat → BitVec 64
/-- FREE VALUE (log 17): the droop-monitor code at a capture (R162). -/
opaque droop : Nat → Byte
/-- FREE VALUE (log 18): the priority 0 to 15 that firmware gives a slice cause (R448). -/
opaque causePriority : Nat → Nat
/-- FREE VALUE (log 19): the CRC-32 of an Otdiuri ROM that fails its check (R402: the value computed is reported). -/
opaque badRomCrc : Word
/-- FREE VALUE (log 21): the ADDR field of a fault log entry, which names a word, line, cell or bundle that no row of the table states. -/
opaque faultAddr : Nat → Word

/-- FREE VALUE (log 23): a number that firmware or hardware chooses freely (an ID, a slot, a handle, a page line), by kind and draw. -/
opaque fwChoice : Nat → Nat → Nat

/-- FREE VALUE (log 24): HCLK in MHz (R271 sets a host port's speed by it; R62 gives up to 1 250). -/
opaque hclkMhz : Nat
/-- FREE VALUE (log 25): the 48-bit source address of pause and PFC frames of a port (R139 gives none). -/
opaque macSource : Nat → Nat
/-- FREE VALUE (log 113): HPI_REQ_ID of the n-th thing that the block drives, before it is taken mod 256 (R58 gives the tags no values). -/
opaque hpiId : Nat → Nat
/-- FREE VALUE (log 112): what the n-th read of a mapped debug window returns (R77 maps the windows and says nothing of their contents). -/
opaque debugRead : Nat → BitVec 64
/-- The holdover limit of a PTP profile in ns (R150; log 23). -/
opaque holdoverNs : Nat → Nat

end Config

end Sys2Proof
end

