-- ==== Sys2Proof/Syntax.lean ====
section
/-! DEFINITION. The commands and events of the block: one constructor per row of spec/opcode_table.json, with the operands the row needs.
A host command (142 rows) carries its envelope; an event row carries what the agent behind it supplies: a word written, the bytes of a frame,
the level of a pin, the outcome of a physical test (an error found by a check, a response of the host interconnect). -/

namespace Sys2Proof

/-- The path a command came by: the boot mailbox, the admin queue (with its ring index, R94) or the Otdiuri mailbox. -/
inductive Path where
  | mailbox
  | admin (index : Nat)
  | otd
deriving DecidableEq, Repr

/-- A command's envelope (R95) less the OPCODE, which the row fixes. `rsvd` is header bytes 12 to 15 with the phase bit taken as 0.
`payload` is the payload inline or, with PTR, the bytes that PTR points at (R87, R91); `ptrFault` says that their read still ended in a
bus error after 3 retries (R87). -/
structure Env where
  path : Path
  flags : Byte
  fmt : Byte
  setId : Nat
  plen : Nat
  tag : Word
  rsvd : Word
  payload : List Byte
  ptrFault : Bool
deriving DecidableEq, Repr

/-- What a fetch of one entry brings (R410 to R414): the entry's bytes, the data it points at (frame data or a PTR payload), the fragment
table as (address, length) pairs, and the bus error that 3 retries left (0 none, 1 data, 2 fragment table). -/
structure Fetched where
  bytes : List Byte
  data : List Byte
  frags : List (Nat × Nat)
  busErr : Nat
deriving DecidableEq, Repr

/-- How a received frame ended (R45, R46, R52). -/
inductive RxEnd where
  | eof
  | codingErr
  | newSof
deriving DecidableEq, Repr

/-- A received frame at its last word (R50, R127, R154): the bytes from DA through FCS, the wire-time parts of its stamp (what the phase sampler
measured for the SOF word's lane-clock edge: 1/16 ns of local TIME after the latest bus word, negative before it; HINT in 1/16 ns, the index b of the
first byte), and how it ended. -/
structure RxFrame where
  port : Nat
  bytes : List Byte
  edge : Int
  hint : Nat
  sofIndex : Nat
  ending : RxEnd
deriving DecidableEq, Repr

/-- Bit errors that one frame meets on its way through the lookups and engines (R30, R196, R231, R233): the stages with a double-bit error, the key
ports as engine position × 4 + port, the scratch words as (engine position, word), and the memories, by Badger's unit indices, in which the check bits
corrected a word and in which they found a double-bit error. -/
structure LookupFaults where
  stages : List Nat
  keyPorts : List Nat
  words : List (Nat × Nat)
  corrected : List Nat
  bad : List Nat
deriving DecidableEq, Repr

/-- Bit errors that the reads of a flow's contexts and recovery entries meet (R30, R321): the flow-store banks, by Badger's unit indices, in which the
check bits corrected a word and in which they found a double-bit error. -/
structure CtxReads where
  corrected : List Nat
  bad : List Nat
deriving DecidableEq, Repr

/-- Bit errors that a copy meets as the crossbar reads its frame and E2 runs (R30, R231, R233, R245, R328): the banks of bad cells and of corrected
ones, and E2's. -/
structure CellReads where
  badBanks : List Nat
  corrected : List Nat
  faults : LookupFaults
deriving DecidableEq, Repr

/-- What the first word of a transmitted frame meets (R50, R154, R310): its lane-clock edge in 1/16 ns of local TIME after the latest bus word, and the
combined-word index b. -/
structure TxFirst where
  edge : Nat
  sofIndex : Nat
deriving DecidableEq, Repr

/-- What the banks of the buffer have to do in the CCLK clock of a cell's write (R244, R251): the banks that have taken a write, and those whose cache
waits on its free ring. -/
structure BankClock where
  wrote : List Nat
  waiting : List Nat
deriving DecidableEq, Repr

/-- What verification of preemption meets (R140): the partner's response, a verify frame of the partner's, or nothing by VERIFY_TIME. -/
inductive VerifyEvent where
  | response
  | request
  | timer
deriving DecidableEq, Repr

/-- Why a frame is stomped (R130). -/
inductive StompCause where
  | badIngress
  | fifoEmpty
  | linkDown
deriving DecidableEq, Repr

/-- The STAT inputs of a port (R45). -/
structure LinkStat where
  linkUp : Bool
  localFault : Bool
  remoteFault : Bool
deriving DecidableEq, Repr

/-- A ring that raises a vector under R294 or R422. -/
inductive RingKind where
  | foxtrot
  | gen1
  | cq
deriving DecidableEq, Repr

/-- The stamps of one calibration exchange in 1/256 ns (R490). -/
structure CalReply where
  t1 : Nat
  t2 : Nat
  t3 : Nat
  t4 : Nat
deriving DecidableEq, Repr

/-- One tap summary (R390): the events of one local port, direction, flow and outcome class that the tap holds; `spilled` says that the tap's
flush queue was full (R391). -/
structure TapSummary where
  port : Nat
  transmit : Bool
  flow : Nat
  outcome : Nat
  spilled : Bool
deriving DecidableEq, Repr

/-- How firmware's boot goes on (R88, R89): its next step begins, it is ready, or the BOOT_ERR code of the step that failed. -/
inductive BootResult where
  | step
  | ok
  | failed (err : Nat)
deriving DecidableEq, Repr

/-- A block's answer in an ask round (R467). -/
inductive Answer where
  | ack
  | delay
  | refused
deriving DecidableEq, Repr

/-- The step of a wake that timed out, and whether it is the retry that failed (R479, R480). -/
inductive WakeStep where
  | pswAck (retry : Bool)
  | regReady (retry : Bool)
  | pllLock (retry : Bool)
deriving DecidableEq, Repr

/-- One burst's answer on HPI (R440, R441, R444): a read burst's or a write burst's, the burst's start address, the bytes of the range that a read
brings, and HPI_RSP_STATUS (0 OK). -/
structure Burst where
  write : Bool
  addr : Nat
  data : List Byte
  status : Nat
deriving DecidableEq, Repr

/-- One request on HPT (R55): HPT_REQ_ADDR, HPT_REQ_WRITE, HPT_REQ_BE, HPT_REQ_WDATA and HPT_REQ_ID. -/
structure HptReq where
  addr : Nat
  write : Bool
  be : BitVec 8
  data : BitVec 64
  id : Nat
deriving DecidableEq, Repr

/-- What one test access of Badger finds, and whether it completes the unit (R485 to R488). -/
inductive TestOutcome where
  | more
  | done (corrected : Nat)
  | fail
deriving DecidableEq, Repr

/-- A line of an isolated cluster bank that firmware could not read (R497): its number and the handles (for the MAC table, the slots) of the
entries it holds. -/
structure LostLine where
  line : Nat
  handles : List Nat
deriving DecidableEq, Repr

/-- Why an engine resets itself (R240). -/
inductive EngineFault where
  | bundle (index : Nat)
  | parity
  | signature
deriving DecidableEq, Repr

/-- The commands and events of the block. -/
inductive Instr where
  /-- SYS_INFO (R117): Returns firmware version, patch level, ROM CRC, journal depth and open set count. -/
  | sysInfo (e : Env)
  /-- SYS_ADMINQ_SET (R90): Boot-mailbox command that sets up the admin queue rings, response slots, head write-back and vector. -/
  | sysAdminqSet (e : Env)
  /-- SYS_RESET_WARM (R499): Writes its response and completion, waits for HPI acknowledgement, then applies a warm reset. -/
  | sysResetWarm (e : Env)
  /-- SYS_RESET_COLD (R499): Writes its response and completion, waits for acknowledgement, then applies a cold reset. -/
  | sysResetCold (e : Env)
  /-- SYS_RESET_SLICE (R499): Resets one slice core and returns once it is back in RUN. -/
  | sysResetSlice (e : Env)
  /-- SYS_RESET_CTL (R499): Writes its response, then restarts the control pair without clearing control RAM. -/
  | sysResetCtl (e : Env)
  /-- SYS_EVENT_CFG (R118): Sets or reads THERM_LIMIT and THERM_HYST and returns the die sensor readings. -/
  | sysEventCfg (e : Env)
  /-- SYS_JOURNAL_STATUS (R119): Reports the command journal's held, unwritten, replayed and rewritten counts and the admin head. -/
  | sysJournalStatus (e : Env)
  /-- SYS_NOP (R120): Does nothing and completes, showing that earlier admin commands have completed. -/
  | sysNop (e : Env)
  /-- SYS_PATCH_LOAD (R121): Checks a signed firmware patch image and, if it is valid, brings it into force between two commands. -/
  | sysPatchLoad (e : Env)
  /-- QUAD_OPEN (R101): Opens a Quadrille set with an optional domain flag and idle limit. -/
  | quadOpen (e : Env)
  /-- QUAD_CHECK (R103): Checks a set's coupled pairs and capacity, returns disagreement records, and marks the set CHECKED when it agrees. -/
  | quadCheck (e : Env)
  /-- QUAD_APPLY_NOW (R108): Revalidates a CHECKED set and arms it to flip at the first OWL tick after arming completes. -/
  | quadApplyNow (e : Env)
  /-- QUAD_APPLY_AT_TIME (R109): Revalidates and arms a set to flip at APPLY_TIME, refusing or adjusting the time when arming cannot meet it. -/
  | quadApplyAtTime (e : Env)
  /-- QUAD_APPLY_AT_DOMAIN (R364): Puts a domain set in VOTING and floods PROPOSE to every member of the domain. -/
  | quadApplyAtDomain (e : Env)
  /-- QUAD_ABORT (R112): Aborts a set, or an ARMED set taken at least 10 µs before its flip. -/
  | quadAbort (e : Env)
  /-- QUAD_STATUS (R102): Reports a set's state, change count, effective time and domain culprit. -/
  | quadStatus (e : Env)
  /-- PORT_CFG (R123): Binds a port to lanes with speed, lane kind, sub-port, wake filtering and MAX_FRAME. -/
  | portCfg (e : Env)
  /-- PORT_ADMIN_UP (R106): Checks every coupled pair of the port and sets it admin-up, starting its link state machine in DOWN. -/
  | portAdminUp (e : Env)
  /-- PORT_ADMIN_DOWN (R137): Sets a port admin-down, stomps the frame in progress, flushes unguarded frames and requests local fault. -/
  | portAdminDown (e : Env)
  /-- PORT_STATUS (R136): Reports a port's admin, link, fault, speed, preemption, LPI, pause and slot state. -/
  | portStatus (e : Env)
  /-- PORT_COUNTERS (R507): Reads, and optionally clears, the counters of a port or a slice. -/
  | portCounters (e : Env)
  /-- PORT_FC (R138): Sets a port's pause or PFC mode, thresholds, quanta and refresh. -/
  | portFc (e : Env)
  /-- PORT_PREEMPT (R140): Enables frame preemption on a port and marks each queue express or preemptable. -/
  | portPreempt (e : Env)
  /-- PORT_EEE (R141): Enables energy-efficient Ethernet on a port with LPI_IDLE and TW. -/
  | portEee (e : Env)
  /-- PORT_WAKE_FILTER (R145): Sets one of a slice's 16 wake-pattern filters. -/
  | portWakeFilter (e : Env)
  /-- PORT_LINK_HOLD (R137): Sets a port's DOWN_FILTER, LINK_HOLD and UP_DEBOUNCE. -/
  | portLinkHold (e : Env)
  /-- PARSE_NODE_SET (R192): Defines or undefines one parse node in the named slices, pausing their parsers for an immediate change. -/
  | parseNodeSet (e : Env)
  /-- PARSE_NODE_GET (R181): Returns one parse node of one slice. -/
  | parseNodeGet (e : Env)
  /-- PARSE_GRAPH_DEFAULT (R187): Replaces the parse graph of the named slices with the default graph. -/
  | parseGraphDefault (e : Env)
  /-- PARSE_COUNTERS (R507): Reads, and optionally clears, a slice's parse and lookup counters. -/
  | parseCounters (e : Env)
  /-- TABLE_CREATE (R203): Allocates banks for a match table in the named clusters and reports the guaranteed entry count. -/
  | tableCreate (e : Env)
  /-- TABLE_DELETE (R206): Frees a table's banks in every cluster. -/
  | tableDelete (e : Env)
  /-- ENTRY_WRITE (R204): Inserts or replaces a table entry in every replica, immediately or staged. -/
  | entryWrite (e : Env)
  /-- ENTRY_DELETE (R204): Deletes a table entry by key or by handle. -/
  | entryDelete (e : Env)
  /-- ENTRY_READ (R201): Returns one entry of a table replica by handle. -/
  | entryRead (e : Env)
  /-- KEY_PROFILE_SET (R197): Sets the key profile and table binding of a lookup stage or an engine key port. -/
  | keyProfileSet (e : Env)
  /-- TABLE_DUMP (R201): Returns one page of a table's entries in handle order. -/
  | tableDump (e : Env)
  /-- PROG_LOAD (R236): Verifies an Ezette image and writes it into the named engines and the image store. -/
  | progLoad (e : Env)
  /-- PROG_UNLOAD (R238): Removes an image that is not mapped or claimed. -/
  | progUnload (e : Env)
  /-- PROG_BIND_MAP (R238): Maps a PROG_ID of an engine to a loaded image, or unmaps it. -/
  | progBindMap (e : Env)
  /-- PROG_BIND_DEFAULT (R225): Sets the default PROG_ID of local and host ports on an engine. -/
  | progBindDefault (e : Env)
  /-- ENGINE_STATUS (R507): Reports an engine's state, last fault, mapping, free bundles and counters. -/
  | engineStatus (e : Env)
  /-- ENGINE_RESET (R240): Resets an engine and returns once it is back in RUN. -/
  | engineReset (e : Env)
  /-- CONST_SET (R239): Writes engine constants, pausing the engine for an immediate change. -/
  | constSet (e : Env)
  /-- SCRATCH_READ (R232): Reads scratch words, optionally clearing them in the same indivisible access. -/
  | scratchRead (e : Env)
  /-- POOL_CREATE (R252): Creates a host buffer pool with every buffer FREE. -/
  | poolCreate (e : Env)
  /-- POOL_DELETE (R256): Deletes a pool whose buffers are all FREE and which no queue uses. -/
  | poolDelete (e : Env)
  /-- FLOW_MIN_SET (R250): Sets a flow's guaranteed buffer minimum and recomputes SHARED_CELLS. -/
  | flowMinSet (e : Env)
  /-- SHARED_LIMIT_SET (R247): Sets a queue's ALPHA and MAX_CELLS for the shared pool. -/
  | sharedLimitSet (e : Env)
  /-- BUF_STATUS (R507): Reports buffer, queue, pool, slice or flow accounting and counters. -/
  | bufStatus (e : Env)
  /-- CUT_THROUGH_SET (R270): Enables or disables cut-through on an egress port. -/
  | cutThroughSet (e : Env)
  /-- VLAN_SET_VLAN (R258): Sets or deletes a VLAN with its FID, member set and untagged set. -/
  | vlanSetVlan (e : Env)
  /-- VLAN_SET_PORT (R258): Sets a port's S_TAG, ACCEPT, PVID and DEFAULT_PCP. -/
  | vlanSetPort (e : Env)
  /-- MAC_ADD (R259): Writes a static MAC entry into every replica of the MAC table. -/
  | macAdd (e : Env)
  /-- MAC_DELETE (R259): Removes a static or dynamic MAC entry. -/
  | macDelete (e : Env)
  /-- MAC_FLUSH (R264): Flushes MAC entries by port or FID through the learn arbiter. -/
  | macFlush (e : Env)
  /-- LEARN_CFG_GLOBAL (R263): Sets FLUSH_ON_DOWN, MOVE_LIMIT, AGE_TIME and FREEZE. -/
  | learnCfgGlobal (e : Env)
  /-- LEARN_CFG_PORT (R262): Sets a port's learning, LEARN_LIMIT and LIMIT_DISCARD. -/
  | learnCfgPort (e : Env)
  /-- MCAST_GROUP_SET (R265): Sets a multicast group's validity and members. -/
  | mcastGroupSet (e : Env)
  /-- LAG_SET (R267): Sets a LAG's members, distributing state, hash fields and seed, and moves buckets. -/
  | lagSet (e : Env)
  /-- MAC_DUMP (R259): Returns a page of MAC table entries from cluster 0. -/
  | macDump (e : Env)
  /-- QUEUE_MAP_SET (R272): Sets a port's queue map: mapped queues, traffic classes, default queue and priority queues. -/
  | queueMapSet (e : Env)
  /-- SCHED_SET (R278): Sets a port's whole scheduler hierarchy of queues and nodes. -/
  | schedSet (e : Env)
  /-- SHAPER_SET (R285): Sets a queue or node shaper and resets its tokens or credit. -/
  | shaperSet (e : Env)
  /-- POLICER_SET (R287): Sets or deletes a two-rate policer and resets its tokens. -/
  | policerSet (e : Env)
  /-- STREAM_FILTER_SET (R289): Sets, deletes or unblocks a stream filter bound to a flow. -/
  | streamFilterSet (e : Env)
  /-- SAMPLE_CFG (R291): Sets the sample interval and delay alarm of a port's queues. -/
  | sampleCfg (e : Env)
  /-- TM_STATUS (R290): Reports queue, policer, filter, slice or ring statistics. -/
  | tmStatus (e : Env)
  /-- GATE_LIST_SET (R316): Installs a port's gate list, computing its start for an immediate command on an enabled port. -/
  | gateListSet (e : Env)
  /-- GATE_ENABLE_ON (R305): Enables an installed gate list and computes its START. -/
  | gateEnableOn (e : Env)
  /-- GATE_ENABLE_OFF (R318): Disables a gate list, opening every gate and releasing HOLD. -/
  | gateEnableOff (e : Env)
  /-- GATE_STATUS (R307): Reports a gate list's state, entry, gates, start and counters. -/
  | gateStatus (e : Env)
  /-- GATE_OVERHEAD_SET (R280): Sets a port's OVERHEAD for charged lengths and recomputes the MAX_WINDOW comparisons. -/
  | gateOverheadSet (e : Env)
  /-- FLOW_ADD (R320): Creates a flow's home context, key entries and recovery contexts. -/
  | flowAdd (e : Env)
  /-- FLOW_MODIFY (R322): Changes the selected fields of a flow. -/
  | flowModify (e : Env)
  /-- FLOW_DELETE (R320): Frees every slot of a disabled flow and returns its minimum to the shared pool. -/
  | flowDelete (e : Env)
  /-- FLOW_READ (R322): Returns a flow's home or recovery context and a key slot. -/
  | flowRead (e : Env)
  /-- FLOW_COUNTERS (R338): Reads a flow's counters and latched event causes, or lists flows with latched causes. -/
  | flowCounters (e : Env)
  /-- PRP_HSR_SET (R341): Sets or frees a PRP or HSR redundancy node. -/
  | prpHsrSet (e : Env)
  /-- STAMP_PORT_CFG (R165): Sets a port's HINT_PRED and calibration coefficients. -/
  | stampPortCfg (e : Env)
  /-- CAL_RECORD_SET (R162): Writes or empties a calibration record slot of a port. -/
  | calRecordSet (e : Env)
  /-- CAL_RUN (R167): Queues a loopback calibration run for a port. -/
  | calRun (e : Env)
  /-- PTP_PORT_CFG (R169): Sets a port's PTP role, flags, peer delay, asymmetry and servo clock fields. -/
  | ptpPortCfg (e : Env)
  /-- TIMER_SET (R178): Sets one of the 16 timers to off, one-shot or periodic. -/
  | timerSet (e : Env)
  /-- PPS_CFG (R176): Enables PPS input and output and sets the pulse width. -/
  | ppsCfg (e : Env)
  /-- SYNT_CFG (R177): Selects the source of SYNT_CTRL. -/
  | syntCfg (e : Env)
  /-- SEZAL_CFG (R344): Sets the instance ID, UID, domain number, EtherType, timers and enable of the Sezal domain. -/
  | sezalCfg (e : Env)
  /-- DOMAIN_PORT_SET (R345): Flags a port as a domain port, or removes it, with its control queue and asymmetry. -/
  | domainPortSet (e : Env)
  /-- SEZAL_STATUS (R362): Reports domain state, time state, keeper, members and counters. -/
  | sezalStatus (e : Env)
  /-- SEZAL_MEMBERS (R355): Returns a page of the member table. -/
  | sezalMembers (e : Env)
  /-- SEZAL_RESYNC_FOLLOW (R368): Floods OUTCOME_QUERY and settles a held set by the answer, leaving OUT_OF_STEP. -/
  | sezalResyncFollow (e : Env)
  /-- SEZAL_RESYNC_FORCE_APPLY (R368): Applies a set held in VOTING without asking and leaves OUT_OF_STEP. -/
  | sezalResyncForceApply (e : Env)
  /-- SEZAL_RESYNC_FORCE_DISCARD (R368): Discards a set held in VOTING without asking and leaves OUT_OF_STEP. -/
  | sezalResyncForceDiscard (e : Env)
  /-- KEEPER_PRIO_SET (R358): Sets this instance's keeper priority. -/
  | keeperPrioSet (e : Env)
  /-- RING_CREATE (R403): Creates a Gen-1 ring, DISABLED. -/
  | ringCreate (e : Env)
  /-- QP_CREATE (R403): Creates a Gen-2 queue pair bound to a completion ring. -/
  | qpCreate (e : Env)
  /-- CQ_CREATE (R403): Creates an enabled completion ring. -/
  | cqCreate (e : Env)
  /-- QUEUE_DISABLE (R427): Stops fetching on a queue, discards unaccepted fetched entries and writes the head word. -/
  | queueDisable (e : Env)
  /-- QUEUE_ENABLE (R428): Enables a queue from DISABLED or ERROR, setting its tail to the published head. -/
  | queueEnable (e : Env)
  /-- QUEUE_DESTROY (R426): Removes a DISABLED queue, or an unbound completion ring, that has no accepted entry pending. -/
  | queueDestroy (e : Env)
  /-- QUEUE_RESET (R429): Flushes unfilled RX buffers and resets a queue's or completion ring's indices. -/
  | queueReset (e : Env)
  /-- QUEUE_STATUS (R426): Reports a queue's state, indices, pending count and counters. -/
  | queueStatus (e : Env)
  /-- RX_FILTER_SET (R433): Sets a receive dispatch filter or the default target of a host port. -/
  | rxFilterSet (e : Env)
  /-- RSS_SET (R433): Sets an RSS group's hash fields, seed and table. -/
  | rssSet (e : Env)
  /-- OFFLOAD_SET (R432): Sets a host port's checksum and VLAN-strip offloads. -/
  | offloadSet (e : Env)
  /-- PWR_STATE_SET (R464): Sets a domain's sleep policy, and with NOW asks for its target at once. -/
  | pwrStateSet (e : Env)
  /-- HIBERNATE (R474): Starts an ask round for Hibernate and returns once every block has acknowledged. -/
  | hibernate (e : Env)
  /-- WAKE_SRC_SET (R476): Sets the wake enables of sources 0 to 191. -/
  | wakeSrcSet (e : Env)
  /-- PWR_STATUS (R470): Reports the block state, wake failures, last entry and power counters. -/
  | pwrStatus (e : Env)
  /-- DRAIN_LIMIT_SET (R469): Sets the drain limit of one domain or of all domains. -/
  | drainLimitSet (e : Env)
  /-- BADGER_CFG (R487): Sets Badger's enable, ISO_DISCARD, FORCE_LOG2 and RESET_LIMIT. -/
  | badgerCfg (e : Env)
  /-- BADGER_WINDOW (R489): Opens a test window over a range of units. -/
  | badgerWindow (e : Env)
  /-- BADGER_RUN (R489): Tests one unit at once and reports the result. -/
  | badgerRun (e : Env) (outcome : TestOutcome) (us : Nat)
  /-- BADGER_STATUS (R503): Reports one unit's test state and counts. -/
  | badgerStatus (e : Env)
  /-- LOOPBACK_CAL (R490): Sets a port's loopback mode, fixed delay, RX share, AUTO and reflect, and optionally starts a run. -/
  | loopbackCal (e : Env)
  /-- FOXTROT_RING_SET (R292): Starts or stops a Foxtrot ring. -/
  | foxtrotRingSet (e : Env)
  /-- CAP_RULE_SET (R297): Sets a capture rule and restarts its match counts. -/
  | capRuleSet (e : Env)
  /-- MIRROR_SET (R300): Sets a mirror session. -/
  | mirrorSet (e : Env)
  /-- CAP_ENABLE (R297): Enables the capture rules named in a mask. -/
  | capEnable (e : Env)
  /-- MEM_READ (R30): Returns one memory line as stored, with its error masks. -/
  | memRead (e : Env)
  /-- ERR_COUNTERS (R507): Reads a unit's corrected and uncorrected error counters. -/
  | errCounters (e : Env)
  /-- FAULT_LOG (R494): Returns a page of fault log entries. -/
  | faultLog (e : Env)
  /-- ISOLATE (R495): Takes a unit out of service. -/
  | isolate (e : Env)
  /-- RESTORE (R496): Tests an isolated unit and returns it to service when the test passes. -/
  | restore (e : Env) (outcome : TestOutcome)
  /-- OSYS_INFO (R376): Returns Otdiuri's version, ROM CRC, meter ID and capacities. -/
  | osysInfo (e : Env)
  /-- OSYS_STATUS (R387): Reads, and optionally clears, Otdiuri's diagnostic counters. -/
  | osysStatus (e : Env)
  /-- OTIME_READ (R147): Returns the time counters captured from one OWL tick. -/
  | otimeRead (e : Env)
  /-- OTIME_SET_INC (R148): Sets DISC_INC from the host mailbox from the next tick, logging it under R385. -/
  | otimeSetInc (e : Env)
  /-- OTIME_STEP (R150): Steps OFFSET at the next tick with optional VALID or INVALIDATE, and logs the step. -/
  | otimeStep (e : Env)
  /-- OTIME_AUTHORITY (R384): Sets TIME_AUTHORITY while UNSEALED, and logs the change. -/
  | otimeAuthority (e : Env)
  /-- OMAP_SET (R389): Writes flow map entries or port defaults into the pending map, and logs them. -/
  | omapSet (e : Env)
  /-- OMAP_READ (R388): Returns a page of the map in force or of the pending map. -/
  | omapRead (e : Env)
  /-- OMAP_CLEAR (R389): Clears the pending flow map, the pending port defaults, or both, and logs it. -/
  | omapClear (e : Env)
  /-- ORECORD_RING_SET (R393): Starts or stops the Otdiuri record ring. -/
  | orecordRingSet (e : Env)
  /-- ORECORD_INTERVAL (R392): Sets the record interval from the next boundary, and logs it. -/
  | orecordInterval (e : Env)
  /-- ORECORD_STATUS (R393): Reports the interval, ring indices and record counts. -/
  | orecordStatus (e : Env)
  /-- OSEAL_STATUS (R380): Reports the seal state, switch, key, ledger and NONCE. -/
  | osealStatus (e : Env)
  /-- OSEAL_SEAL (R379): Seals Otdiuri with a METER_ID when the conditions hold, writing the ledger and the log. -/
  | osealSeal (e : Env)
  /-- OSEAL_UNSEAL (R380): Judges AUTH against the key and NONCE, unsealing or denying, and draws a new NONCE. -/
  | osealUnseal (e : Env)
  /-- OLOG_READ (R399): Returns up to 4 audit log entries from START. -/
  | ologRead (e : Env)
  /-- OLOG_ACK (R399): Frees read log entries up to UPTO and writes a LOG_ACK entry. -/
  | ologAck (e : Env)
  /-- MB_GO (R84): A write of GO submits the mailbox command, locks CMD and sets BUSY, or sets GO_LOST. -/
  | mbGo (data : Word)
  /-- MB_ACK (R85): A write of ACK clears DONE and GO_LOST and unlocks CMD. -/
  | mbAck (data : Word)
  /-- MB_CMD_WRITE (R84): A write to CMD is stored, or ignored while CMD is locked. -/
  | mbCmdWrite (off : Nat) (data : List Byte)
  /-- MB_COMMAND_DONE (R84): Firmware writes RSP, then LAST_TAG, then sets DONE and clears BUSY together. -/
  | mbCommandDone
  /-- OMB_GO (R400): A write of GO to the Otdiuri mailbox submits the command held in OCMD. -/
  | ombGo (data : Word)
  /-- OMB_ACK (R400): A write of ACK clears DONE and unlocks OCMD on the Otdiuri page. -/
  | ombAck (data : Word)
  /-- ORING_CONS_WRITE (R401): The driver writes the record ring consumer index, which is ignored and counted when it runs ahead of the producer. -/
  | oringConsWrite (data : Word)
  /-- SNAP_TIME_LO_READ (R158): A read of SNAP_TIME_LO captures every field of the snapshot slot from one OWL tick. -/
  | snapTimeLoRead (slot : Nat) (wide : Bool)
  /-- PPS_GLITCH_READ (R157): A read of PPS_GLITCH returns the count and clears it. -/
  | ppsGlitchRead
  /-- REGISTER_WRITE (R20): A write to a register that has no row of its own takes effect under its access code. -/
  | registerWrite (addr : Nat) (be : BitVec 8) (data : BitVec 64) (write : Bool := true) (id : Nat := 0)
  /-- SQ_DB (R410): A submission doorbell write records a new tail, checked for overrun and bad values. -/
  | sqDb (queue : Nat) (data : Word)
  /-- CQ_DB (R421): A completion doorbell write frees completion ring entries, or is ignored when invalid. -/
  | cqDb (ring : Nat) (data : Word)
  /-- ENTRY_FETCH (R410): Untos fetches entries between head and tail, or speculatively beyond the tail, and checks their phase. -/
  | entryFetch (queue : Nat) (entry : Fetched)
  /-- PHASE_RETRY (R410): An entry covered by a doorbell with the wrong phase is read again after 1 µs, and a second mismatch makes it malformed. -/
  | phaseRetry (queue : Nat) (entry : Fetched)
  /-- TX (R414): A TX entry is accepted once its frame is wholly held in the transmit staging store. -/
  | tx (queue : Nat)
  /-- NOP (R412): A NOP work entry does nothing and completes with OK. -/
  | nop (queue : Nat)
  /-- ALLOC (R253): A pool operation allocates a FREE buffer to the requester, or fails with EMPTY. -/
  | alloc (queue : Nat) (same : Bool := false)
  /-- SHARE (R253): A pool operation raises a buffer's share count. -/
  | share (queue : Nat) (same : Bool := false)
  /-- RELEASE (R253): A pool operation lowers a buffer's share count. -/
  | release (queue : Nat) (same : Bool := false)
  /-- HANDOVER (R253): A pool operation hands a buffer to a new owner. -/
  | handover (queue : Nat) (same : Bool := false)
  /-- FREE (R253): A pool operation returns an owned, unshared buffer to the free ring. -/
  | free (queue : Nat) (same : Bool := false)
  /-- HEAD_WB (R415): Untos writes a queue's head word after 1 µs, after 16 entries, or when the head reaches the tail. -/
  | headWb (queue : Nat)
  /-- HEAD_WB_ACK (R415): The HPI acknowledgement of a head word allows completions for the entries it covers. -/
  | headWbAck (queue : Nat)
  /-- COMPLETION_WRITE (R416): Untos writes a Gen-1 or Gen-2 completion, or places it in the backlog. -/
  | completionWrite (queue : Nat) (pos : Nat)
  /-- COMPLETION_ACK (R423): The HPI acknowledgement of a completion write records the completion as written. -/
  | completionAck (queue : Nat) (pos : Nat)
  /-- TX_HOST_INJECT (R431): A staged host frame leaves staging toward its host port's slice core, is stamped, and may complete. -/
  | txHostInject (queue : Nat)
  /-- RX_DISPATCH (R433): A copy leaving a host-port queue is dispatched by filter or RSS to a receive queue and written into a posted buffer. -/
  | rxDispatch (port : Nat) (q : Nat)
  /-- RX_WAIT_EXPIRY (R435): A copy waiting for a receive buffer past RX_WAIT_US is discarded when it is unguarded. -/
  | rxWaitExpiry (port : Nat) (q : Nat)
  /-- RX_FRAME (R127): The receive MAC judges a frame at its EOF word and discards, acts on, or passes it to the slice core or the den. -/
  | rxFrame (frame : RxFrame)
  /-- STRAY_WORD (R506): A valid word for an unused or admin-down sub-port is discarded and counted. -/
  | strayWord (slice : Nat) (lane : Nat) (sub : Nat)
  /-- PAUSE_EXPIRY (R138): A pause timer runs out and transmission resumes. -/
  | pauseExpiry (port : Nat) (prio : Nat)
  /-- DEN_DRAIN (R143): A slice core back in RUN reads its den in arrival order. -/
  | denDrain (slice : Nat)
  /-- CLASSIFY (R24): Once the head stage holds the frame head, the slice core runs parse, E0, L0 to L7, E1, policing and the forwarding decision. -/
  | classify (slice : Nat) (faults : LookupFaults)
  /-- CELL_WRITE (R247): Each arriving cell is placed in a bank and charged to an account, or its frame is refused. -/
  | cellWrite (slice : Nat) (banks : BankClock := ⟨[], []⟩)
  /-- XOFF_REFRESH (R139): XOFF is resent every REFRESH quanta while the count stays above XON_CELLS. -/
  | xoffRefresh (port : Nat) (prio : Nat)
  /-- ADMIT (R25): A frame is admitted once its last byte is received, its FCS is good and its cells are written, then numbered and enqueued. -/
  | admitFrame (slice : Nat) (reads : CtxReads := ⟨[], []⟩)
  /-- HANDOFF (R333): A descriptor reaches an egress slice, passes recovery, and is enqueued or discarded. -/
  | handoff (frame : Nat) (slice : Nat) (reads : CtxReads := ⟨[], []⟩)
  /-- GAP_TIMEOUT (R331): A recovery gap older than REC_TIMEOUT is closed. -/
  | gapTimeout (slice : Nat) (flow : Nat)
  /-- SCHED_RELEASE (R278): The scheduler picks a queue and releases its head copy through the crossbar, E2 and the pacing queue. -/
  | schedRelease (port : Nat) (reads : CellReads)
  /-- E3_PASS (R208): A copy leaves the pacing queue through E3 toward the port front. -/
  | e3Pass (port : Nat) (faults : LookupFaults)
  /-- TX_START (R131): A frame's first byte transfers, is stamped and judged against its gate, and a guarded frame's slot becomes STARTED. -/
  | txStart (port : Nat) (tx : TxFirst)
  /-- TX_DONE (R132): A frame's last byte transfers, and a guarded frame writes a DONE entry. -/
  | txDone (port : Nat)
  /-- TX_STOMP (R130): The port front stomps a frame after its FIFO has stayed empty for 256 ns, or at a link drop or admin-down. -/
  | txStomp (port : Nat) (cause : StompCause)
  /-- TX_HINT (R51): The PCS returns TX_HINT for a SOF word. -/
  | txHint (port : Nat) (hint : Nat) (early : Bool := false)
  /-- HINT_MISSING (R51): No hint arrives within 64 TXCLK clocks, so the frame is stamped with hint 0 and counted. -/
  | hintMissing (port : Nat)
  /-- STALL (R52): TX_READY low for more than 10 µs adds one to STALL. -/
  | stall (port : Nat)
  /-- DONE_LOG_CONSUME (R133): The slice core consumes a DONE log entry and frees cells under R28. -/
  | doneLogConsume (slice : Nat)
  /-- SLICE_CORE_RECOVER (R334): A slice core back in RUN after a reset consumes the DONE log and puts in-flight copies back. -/
  | sliceCoreRecover (slice : Nat)
  /-- AGE_SCAN (R336): An egress slice discards head guarded copies older than AGE_LIMIT. -/
  | ageScan (slice : Nat)
  /-- LPI_ENTER (R141): A port enters low-power idle after LPI_IDLE with empty queues. -/
  | lpiEnter (port : Nat)
  /-- LPI_EXIT (R141): A queued frame or a coming gate opening ends low-power idle. -/
  | lpiExit (port : Nat)
  /-- PREEMPT_VERIFY (R140): A verify frame is sent, or verification ends, at each VERIFY_TIME. -/
  | preemptVerify (port : Nat) (event : VerifyEvent)
  /-- LINK_FAULT (R136): A fault lasting DOWN_FILTER moves the port to HELD or DOWN and raises its link event. -/
  | linkFault (port : Nat) (stat : LinkStat)
  /-- LINK_FAULT_CLEAR (R136): When a fault clears, a DOWN or FLUSHED port moves to COMING_UP. -/
  | linkFaultClear (port : Nat)
  /-- LINK_UP (R136): UP_DEBOUNCE passes without fault and the port reaches UP or resumes from HELD. -/
  | linkUp (port : Nat)
  /-- LINK_HOLD_EXPIRY (R137): LINK_HOLD runs out, the port enters FLUSHED and its unguarded frames are flushed. -/
  | linkHoldExpiry (port : Nat)
  /-- LEARN_APPLY (R260): The learn arbiter applies a queued learn or flush event to every replica. -/
  | learnApply
  /-- MAC_AGE_SCAN (R263): Every AGE_TIME/4 the arbiter scans dynamic entries and removes stale ones. -/
  | macAgeScan
  /-- FREEZE_EXPIRY (R261): A frozen MAC entry's FREEZE time ends. -/
  | freezeExpiry (fid : Nat) (mac : Nat)
  /-- MCAST_STORE_EXPIRY (R266): A multicast frame leaves the slice's multicast store after 10 µs. -/
  | mcastStoreExpiry (slice : Nat) (frame : Nat)
  /-- SAMPLE (R291): At each sample instant every sampled queue produces a sample event. -/
  | sample (port : Nat)
  /-- FOXTROT_RECORD_WRITE (R294): A capture record's second half is written after the first half is acknowledged. -/
  | foxtrotRecordWrite (ring : Nat)
  /-- FOXTROT_CONS_POLL (R293): Untos reads CONS_ADDR of a full ring, at most once per 1 µs. -/
  | foxtrotConsPoll (ring : Nat) (word : Word)
  /-- COALESCE_TIMER (R294): A ring's vector is raised COAL_US after the first record or completion not yet covered. -/
  | coalesceTimer (kind : RingKind) (id : Nat)
  /-- OWL_TICK (R147): At each OWL tick Otdiuri advances RAW_T and CORR, forms TIME and sends it on the time bus. -/
  | owlTick (skewed : List Nat)
  /-- SERVO_INC (R148): The servo port delivers a DISC_INC action, accepted or refused by authority. -/
  | servoInc (inc : BitVec 40)
  /-- SERVO_STEP (R148): The servo port delivers a step, accepted or refused by authority. -/
  | servoStep (amount : BitVec 80) (valid : Bool) (invalidate : Bool)
  /-- TIMER_FIRE (R178): A timer's comparator fires and raises its source. -/
  | timerFire (timer : Nat)
  /-- PPS_IN_EDGE (R176): A rising edge of PPS_IN is stamped, or counted as a glitch. -/
  | ppsInEdge (sixteenths : Nat)
  /-- PPS_OUT_EDGE (R176): PPS_OUT rises at a whole second of TIME. -/
  | ppsOutEdge
  /-- PPS_OUT_FALL (R176): PPS_OUT falls after WIDTH_US. -/
  | ppsOutFall
  /-- CAL_EVAL (R163): Every 1 ms Untos takes each port's operating point, picks its record and updates latencies and CAL_STALE. -/
  | calEval (temps : List Int)
  /-- THERM_EVAL (R81): Every 1 ms the sensors are compared with THERM_LIMIT and THERM_ALERT is driven or released. -/
  | thermEval (readings : List Int)
  /-- CAL_REQUEST_RX (R491): A REFLECT_EN port answers a calibration request within 10 µs. -/
  | calRequestRx (port : Nat) (reqId : Nat) (t2 : Nat)
  /-- CAL_REQUEST_TX (R492): A calibration run sends a request when the port is idle and its gate allows it. -/
  | calRequestTx (port : Nat)
  /-- CAL_REPLY_RX (R490): A calibration reply completes one exchange, and the 16th writes the record. -/
  | calReplyRx (port : Nat) (reply : CalReply)
  /-- CAL_EXCHANGE_TIMEOUT (R490): An exchange whose reply has not arrived within 100 µs is sent again. -/
  | calExchangeTimeout (port : Nat)
  /-- CAL_FAIL (R490): A run not complete within 1 s writes nothing and raises CAL_FAIL. -/
  | calFail (port : Nat)
  /-- QUAD_ARMED (R107): Arming completes and the flip tick is loaded into every affected unit. -/
  | quadArmed (set : Nat)
  /-- QUAD_FLIP (R110): At the flip tick every affected unit switches bank and the epoch parity toggles. -/
  | quadFlip (set : Nat)
  /-- NORMALISE (R114): Once the last old-epoch frame has left admission, firmware normalises visibility and the set becomes DONE. -/
  | normalise (set : Nat)
  /-- QUAD_IDLE_LIMIT (R101): A set idle past its IDLE_LIMIT is aborted. -/
  | quadIdleLimit (set : Nat)
  /-- GATE_LIST_START (R305): A gate list starts at START, or at its BASE_NS after a flip. -/
  | gateListStart (port : Nat)
  /-- GATE_ENTRY (R307): A running list passes into its next entry and opens or closes gates. -/
  | gateEntry (port : Nat)
  /-- HOLD_ASSERT (R313): HOLD asserts HOLD_ADVANCE_NS before a held entry or a held list start. -/
  | holdAssert (port : Nat)
  /-- HELLO_TX (R354): Each UP domain port sends a HELLO every HELLO_US. -/
  | helloTx (port : Nat)
  /-- HELLO_RX (R354): A received HELLO updates the port's adjacency state. -/
  | helloRx (port : Nat) (frame : List Byte)
  /-- ADJACENCY_TIMEOUT (R354): No HELLO for 4 × HELLO_US puts the adjacency in DOWN. -/
  | adjacencyTimeout (port : Nat)
  /-- MEMBER_TX (R355): A member floods its MEMBER record every 100 ms and at each change of its adjacencies. -/
  | memberTx
  /-- MEMBER_RX (R355): A received MEMBER record updates the member table, paths, keeper and conflicts. -/
  | memberRx (port : Nat) (frame : List Byte)
  /-- LEAVE_RX (R355): A received LEAVE removes the member at once. -/
  | leaveRx (port : Nat) (frame : List Byte)
  /-- MEMBER_AGE (R355): A member whose record has aged past MEMBER_AGE_MS is removed. -/
  | memberAge (inst : Nat)
  /-- SYNC_REQ_TX (R359): A member sends SYNC_REQ on its upstream port every SYNC_US. -/
  | syncReqTx (t1 : Nat)
  /-- SYNC_REQ_RX (R359): A domain port answers SYNC_REQ with SYNC_RESP. -/
  | syncReqRx (port : Nat) (frame : List Byte) (t2 : Nat)
  /-- SYNC_RESP_RX (R361): A SYNC_RESP yields delay and offset, which drive the servo, steps and time state. -/
  | syncRespRx (port : Nat) (frame : List Byte) (t4 : Nat)
  /-- HOLDOVER_EXPIRY (R362): A member in HOLDOVER for 1 s becomes FREE. -/
  | holdoverExpiry
  /-- PROPOSE_REPEAT (R364): The coordinator repeats PROPOSE every 200 µs. -/
  | proposeRepeat
  /-- PROPOSE_RX (R365): A member receiving PROPOSE votes and sends its VOTE. -/
  | proposeRx (port : Nat) (frame : List Byte)
  /-- VOTE_REPEAT (R365): A member repeats its vote every 200 µs. -/
  | voteRepeat
  /-- VOTE_RX (R366): The coordinator collects a vote and floods COMMIT or ABORT when it decides. -/
  | voteRx (port : Nat) (frame : List Byte)
  /-- VOTE_DEADLINE (R366): At VOTE_DEADLINE with a vote missing, the coordinator floods ABORT. -/
  | voteDeadline
  /-- OUTCOME_REPEAT (R366): The coordinator floods OUTCOME three times, 100 µs apart. -/
  | outcomeRepeat
  /-- OUTCOME_RX (R367): A member arms or aborts its set by the outcome received. -/
  | outcomeRx (port : Nat) (frame : List Byte)
  /-- OUTCOME_QUERY_RX (R366): An instance that knows the outcome answers OUTCOME_QUERY. -/
  | outcomeQueryRx (port : Nat) (frame : List Byte)
  /-- APPLY_TIME_NO_OUTCOME (R367): APPLY_TIME passes without an outcome: a READY voter becomes OUT_OF_STEP, the others abort. -/
  | applyTimeNoOutcome (set : Nat)
  /-- INTERVAL_BOUNDARY (R392): An Otdiuri interval ends, the pending map comes into force, and records are written when room allows. -/
  | intervalBoundary
  /-- TAP_SUMMARY (R390): Otdiuri applies a tap summary to its accounts. -/
  | tapSummary (summary : TapSummary)
  /-- OTD_RECORD_WRITE_ACK (R393): A record half is acknowledged on HPI, and the next write follows. -/
  | otdRecordWriteAck
  /-- OTD_RECORD_RETRY (R393): A record write that ended in a bus error is tried again after 1 ms. -/
  | otdRecordRetry
  /-- UNSEAL_BLOCK_EXPIRY (R380): The 10 s block after a denied unseal ends. -/
  | unsealBlockExpiry
  /-- SEAL_SWITCH_CHANGE (R378): The debounced seal switch changes, giving BREAK while SEALED or SWITCH while UNSEALED. -/
  | sealSwitchChange (level : Bool)
  /-- OTD_POWER_ON (R376): Otdiuri's power-on detector releases and Otdiuri runs its start sequence. -/
  | otdPowerOn (romOk : Bool) (level : Bool)
  /-- KEY_WORD (R73): The integrator answers a key word request. -/
  | keyWord (word : Word)
  /-- KEY_TIMEOUT (R73): A key word not answered within 1 024 OWL ticks makes the key absent. -/
  | keyTimeout
  /-- POWER_ON_RESET (R63): PORST_N or the Owl detector resets every domain except OTD. -/
  | powerOnReset
  /-- COLD_RESET (R499): BLKRST_N resets every domain except OWL and OTD. -/
  | coldReset
  /-- WARM_RESET (R500): WARMRST_N stomps frames in transmission and applies the warm reset. -/
  | warmReset
  /-- BOOT (R88): At reset release firmware checks ROM and RAM or the journal, initialises units and sets READY. -/
  | boot (result : BootResult)
  /-- JOURNAL_REPLAY (R93): After a warm or control-pair reset firmware executes unfinished journalled commands and rewrites completions. -/
  | journalReplay
  /-- DEBUG_EN_CHANGE (R77): DEBUG_EN maps or unmaps the debug windows. -/
  | debugEnChange (level : Bool)
  /-- VRET_LOST (R68): VRET_GOOD falls and the retained state of sleeping domains is lost. -/
  | vretLost
  /-- PLL_FAULT (R33): A PLL loses lock and its clocks switch to the partner PLL. -/
  | pllFault (pair : Nat) (pll : Bool)
  /-- BROWN_OUT (R482): The brown-out detector trips in low-power mode, and the LDO goes to full mode and wakes the block. -/
  | brownOut
  /-- BROWN_OUT_END (R482): The LDO output returns above 0.70 V and the brown-out duration is recorded. -/
  | brownOutEnd
  /-- WAKE_REQ (R484): A write of WAKE_REQ wakes the block from Hibernate. -/
  | wakeReq
  /-- RETRY_FAILED (R481): A write of RETRY_FAILED runs the wake again for the domains in WAKE_FAIL. -/
  | retryFailed
  /-- BO_ACK (R484): A write of BO_ACK clears BO_PENDING. -/
  | boAck
  /-- AUTO_SLEEP_ASK (R464): A domain idle for its idle time asks for NAP or DOZE. -/
  | autoSleepAsk (domain : Nat)
  /-- ASK_ANSWER (R467): A block answers ACK, DELAY or REFUSED, which may complete or abort the entry. -/
  | askAnswer (domain : Nat) (block : Nat) (answer : Answer)
  /-- DRAIN_TIMEOUT (R469): A block still answering DELAY at the drain limit aborts the entry. -/
  | drainTimeout (domain : Nat)
  /-- BADGER_DELAY_END (R469): Badger answers ACK when its test step ends or after 2 ms. -/
  | badgerDelayEnd (domain : Nat)
  /-- SLEEP_ENTRY (R472): After the last ACK the domain stops its clock, retains state and opens its switch. -/
  | sleepEntry (domain : Nat)
  /-- PSW_LATE (R472): A switch that does not show open within 5 µs is logged as PSW_LATE. -/
  | pswLate (domain : Nat)
  /-- WAKE (R473): A wake source starts the exit of a sleeping domain or of Hibernate. -/
  | wake (domain : Nat)
  /-- PSW_ACK (R473): The switch closes, and state is restored and the clock started. -/
  | pswAck (domain : Nat)
  /-- REG_READY (R475): REG_READY rises and the PLLs and switches are enabled. -/
  | regReady
  /-- PLL_LOCK (R475): The PLLs lock, the woken domains reach RUN, and WAKE_DONE is raised. -/
  | pllLock
  /-- WAKE_TIMEOUT (R479): A wake step times out and is retried once, or the domain is marked WAKE_FAIL. -/
  | wakeTimeout (domain : Nat) (step : WakeStep)
  /-- OWL_LATCH_EDGE (R463): An interrupt edge while HST sleeps is held in an Owl latch that wakes HST. -/
  | owlLatchEdge (source : Nat)
  /-- DMA_GO (R439): A GO write marks the shadow set valid, or sets GO_LOST. -/
  | dmaGo (ch : Nat)
  /-- DMA_SHADOW_WRITE (R439): A write to the shadow set is stored, or ignored with SHADOW_LOST. -/
  | dmaShadowWrite (ch : Nat) (off : Nat) (data : Word)
  /-- DMA_LOAD (R439): An idle channel with a valid shadow set loads it, checks the range and starts. -/
  | dmaLoad (ch : Nat)
  /-- DMA_ZERO_LEN_DONE (R442): A zero-length transfer completes at the edge after its load. -/
  | dmaZeroLenDone (ch : Nat)
  /-- DMA_BURST_RESPONSE (R441): A burst response counts done bytes, retries or halts on error, and may complete the transfer. -/
  | dmaBurstResponse (ch : Nat) (burst : Burst)
  /-- DMA_ABORT (R445): ABORT stops new bursts of a busy channel. -/
  | dmaAbort (ch : Nat)
  /-- DMA_RESUME (R445): RESUME reissues the failed burst of a HALTED channel. -/
  | dmaResume (ch : Nat)
  /-- DMA_CLEAR (R445): CLEAR abandons a HALTED transfer. -/
  | dmaClear (ch : Nat)
  /-- CH_CAUSE_READ (R438): A read of CH_CAUSE returns the cause bits and clears them. -/
  | chCauseRead (ch : Nat)
  /-- SLICE_CAUSE_READ (R447): A read of SLICE_CAUSE returns and clears the slice causes. -/
  | sliceCauseRead (slice : Nat)
  /-- SLICE_LINK_READ (R447): A read of SLICE_LINK returns and clears the port bits. -/
  | sliceLinkRead (slice : Nat)
  /-- EVENT_TAKE (R448): Firmware takes the offered slice cause and pushes its priority. -/
  | eventTake
  /-- EVENT_EOI (R448): Firmware's end-of-interrupt pops the event port stack. -/
  | eventEoi (slice : Nat) (cause : Nat)
  /-- CLAIM (R457): A read of CLAIM claims the best eligible source or returns SPURIOUS. -/
  | claim (target : Nat)
  /-- EOI (R458): An EOI write ends the source on top of the target's stack. -/
  | eoi (target : Nat) (data : Word)
  /-- PEND_SET (R452): A write sets shared sources pending. -/
  | pendSet (k : Nat) (data : Word)
  /-- PEND_CLR (R452): A write clears pending shared sources. -/
  | pendClr (k : Nat) (data : Word)
  /-- EN_SET (R452): A write unmasks shared sources. -/
  | enSet (k : Nat) (data : Word)
  /-- EN_CLR (R452): A write masks shared sources. -/
  | enClr (k : Nat) (data : Word)
  /-- SRC_CFG_WRITE (R453): A write of a source's priority, target and fallback clears DIVERTED. -/
  | srcCfgWrite (source : Nat) (data : Word)
  /-- PRIV_PEND_SET (R462): A write sets private sources of a target pending. -/
  | privPendSet (target : Nat) (data : Word)
  /-- PRIV_PEND_CLR (R462): A write clears private sources. -/
  | privPendClr (target : Nat) (data : Word)
  /-- PRIV_EN_SET (R462): A write unmasks private sources. -/
  | privEnSet (target : Nat) (data : Word)
  /-- PRIV_EN_CLR (R462): A write masks private sources. -/
  | privEnClr (target : Nat) (data : Word)
  /-- TARGET_COUNTS_READ (R454): A read of a target's counter word returns and clears its counts. -/
  | targetCountsRead (target : Nat)
  /-- TGT_AWAKE_CHANGE (R460): A target's TGT_AWAKE changes, and waiting sources are offered or offers withdrawn. -/
  | tgtAwakeChange (target : Nat) (level : Bool)
  /-- WAKE_WAIT_EXPIRY (R460): WAKE_WAIT runs out and the waiting source is diverted to its fallback. -/
  | wakeWaitExpiry (source : Nat)
  /-- MSG_WRITE_RETRY (R456): A message write that ended in a bus error is repeated every 1 µs. -/
  | msgWriteRetry (target : Nat)
  /-- BADGER_SLOT (R486): Badger uses an idle or forced slot for one test access of its current unit. -/
  | badgerSlot (unit : Nat) (outcome : TestOutcome)
  /-- BADGER_OVERDUE (R487): A unit's last complete test becomes more than 24 h old. -/
  | badgerOverdue (unit : Nat)
  /-- BADGER_WINDOW_END (R489): A test window's duration ends. -/
  | badgerWindowEnd
  /-- RELOCATE_DONE (R497): The copy of an isolated cluster bank into a free bank ends. -/
  | relocateDone (unit : Nat) (lost : List LostLine)
  /-- REBUILD_DONE (R340): Mirrors of a faulty flow-store bank are rebuilt. -/
  | rebuildDone (unit : Nat)
  /-- ENGINE_FAULT (R240): A bundle double-bit error or parity failure resets the engine. -/
  | engineFault (engine : Nat) (fault : EngineFault)
  /-- ENGINE_RESET_DONE (R240): An engine reset ends and the engine returns to RUN. -/
  | engineResetDone (engine : Nat)
  /-- SLICE_CORE_FAULT (R495): A logic parity fault in a slice core outside the engines resets the slice core. -/
  | sliceCoreFault (slice : Nat)
  /-- LOCKSTEP_MISMATCH (R502): The control pair's outputs differ, and the pair stops and restarts from ROM. -/
  | lockstepMismatch
  /-- CTL_RESTART_DONE (R502): The control pair is ready again after a lockstep reset, and CTL_RESET is raised. -/
  | ctlRestartDone
  /-- CONTROL_RAM_FAULT (R495): A double-bit error in control RAM holds the control pair. -/
  | controlRamFault
  /-- VRET_GOOD_RESTORED (R68): VRET_GOOD rises again after a loss, so DOZE and Hibernate entries are no longer refused for it. -/
  | vretGoodRestored
  /-- TEST_ACCESS (R398): The IEEE 1687 segment of OTD is selected while UNSEALED, and Otdiuri logs a TEST_ACCESS entry. -/
  | testAccess
  /-- RESYNC_FOLLOW_TIMEOUT (R368): SEZAL_RESYNC with ACTION FOLLOW finds no answer within 10 ms and completes with TIMEOUT, changing nothing. -/
  | resyncFollowTimeout
  /-- DUPLICATE_ENTRY_FORGET (R343): A source not seen for ENTRY_FORGET ms is dropped from a redundancy node's duplicate table. -/
  | duplicateEntryForget (node : Nat) (sa : Nat)
  /-- PARTNER_LPI (R141): The link partner enters or leaves low-power idle, shown by receive control words with VALID 0 and ERR 1, which drives LPI_RX_TIME and the partner bit of PORT_STATUS. -/
  | partnerLpi (port : Nat) (level : Bool)
deriving DecidableEq, Repr

end Sys2Proof
end

