-- ==== Sys2Proof/Decode.lean ====
section
/-! DEFINITION. Commands as words of the opcode table. No row of spec/opcode_table.json gives bits: the block is commanded by accesses, frames and
pins, and no word of the table spells a command. -/

namespace Sys2Proof

/-- The command that `w`, of `nbits` bits, spells by the table's bits: the table gives no row any bits, so none. -/
def decodeTableWord (_nbits _w : Nat) : Option Instr := none

end Sys2Proof
end

