-- ==== Sys2Proof/Machine/Bytes.lean ====
section
/-! DEFINITION. Byte strings: little-endian fields of payloads, responses and host structures (R19), big-endian network fields, and bits. -/

namespace Sys2Proof.Machine

/-- The number that `n` bytes spell, least significant byte first (R19). -/
def leNat : List Byte → Nat
  | [] => 0
  | b :: l => b.toNat + 256 * leNat l

/-- The number that bytes spell in wire order, most significant byte first (R19). -/
def beNat (l : List Byte) : Nat := l.foldl (fun n b => 256 * n + b.toNat) 0

/-- `n` bytes of `v`, least significant first. -/
def leB : Nat → Nat → List Byte
  | 0, _ => []
  | n + 1, v => BitVec.ofNat 8 v :: leB n (v / 256)

/-- `n` bytes of `v` in wire order. -/
def beB (n v : Nat) : List Byte := (leB n v).reverse

/-- `n` bytes from offset `off`; bytes beyond the end read as 0. -/
def sub (p : List Byte) (off n : Nat) : List Byte :=
  let q := (p.drop off).take n
  q ++ List.replicate (n - q.length) 0

/-- The little-endian field of `n` bytes at offset `off`. -/
def fld (p : List Byte) (off n : Nat) : Nat := leNat (sub p off n)

/-- The byte at offset `off`. -/
def byteAt (p : List Byte) (off : Nat) : Nat := (p.getD off 0).toNat

/-- The wire-order field of `n` bytes at offset `off`. -/
def nfld (p : List Byte) (off n : Nat) : Nat := beNat (sub p off n)

/-- Bit `i` of a number. -/
def bitN (v i : Nat) : Bool := (v / 2 ^ i) % 2 = 1

/-- Bits [hi:lo] of a number. -/
def bitsN (v hi lo : Nat) : Nat := (v / 2 ^ lo) % 2 ^ (hi + 1 - lo)

/-- 1 for true. -/
def b2n (b : Bool) : Nat := if b then 1 else 0

/-- The signed value of a two's-complement number of `w` bits. -/
def signedN (w v : Nat) : Int := if v % 2 ^ w < 2 ^ (w - 1) then (v % 2 ^ w : Nat) else (v % 2 ^ w : Nat) - (2 ^ w : Nat)

/-- The two's-complement number of `w` bits of an integer. -/
def unsignedN (w : Nat) (v : Int) : Nat := (v % ((2 ^ w : Nat) : Int)).toNat

/-- The set bits of the low `n` bits, in rising order. -/
def setBits (n v : Nat) : List Nat := (List.range n).filter (bitN v)

/-- Replace the bytes from `off` by `q`; the string grows with zeros when it is too short. -/
def patch (p : List Byte) (off : Nat) (q : List Byte) : List Byte :=
  sub p 0 off ++ q ++ p.drop (off + q.length)

/-- Insert `q` before offset `off`. -/
def insertAt (p : List Byte) (off : Nat) (q : List Byte) : List Byte := p.take off ++ q ++ p.drop off

/-- Remove `n` bytes at offset `off`. -/
def removeAt (p : List Byte) (off n : Nat) : List Byte := p.take off ++ p.drop (off + n)

/-- `v / d` rounded up. -/
def ceilDiv (v d : Nat) : Nat := (v + d - 1) / d

/-- A power of two from `lo` to `hi`. -/
def isPow2 (v lo hi : Nat) : Bool := lo ≤ v && v ≤ hi && decide (2 ^ v.log2 = v)

/-- All bytes zero. -/
def allZero (l : List Byte) : Bool := l.all (· = 0)

end Sys2Proof.Machine
end

