-- ==== Sys2Proof/Machine/Map.lean ====
section
/-! DEFINITION. Finite maps as association lists: every sparse table of the block (ports, queues, flows, entries, counters) is one of these.
A key stands at most once; setting a key that stands replaces its value in place, and a new key goes to the end. -/

namespace Sys2Proof.Machine

/-- A finite map as a list of key and value pairs, each key at most once. -/
abbrev KMap (κ α : Type) := List (κ × α)

/-- The value that stands under `k`. -/
def KMap.get? {κ α : Type} [DecidableEq κ] : KMap κ α → κ → Option α
  | [], _ => none
  | (k', v) :: m, k => if k' = k then some v else KMap.get? m k

/-- The value under `k`, or `d` when none stands. -/
def KMap.getD {κ α : Type} [DecidableEq κ] (m : KMap κ α) (k : κ) (d : α) : α := (m.get? k).getD d

/-- Whether a value stands under `k`. -/
def KMap.has {κ α : Type} [DecidableEq κ] (m : KMap κ α) (k : κ) : Bool := (m.get? k).isSome

/-- Put `v` under `k`. -/
def KMap.set {κ α : Type} [DecidableEq κ] : KMap κ α → κ → α → KMap κ α
  | [], k, v => [(k, v)]
  | (k', v') :: m, k, v => if k' = k then (k, v) :: m else (k', v') :: KMap.set m k v

/-- Remove `k`. -/
def KMap.del {κ α : Type} [DecidableEq κ] (m : KMap κ α) (k : κ) : KMap κ α := m.filter (fun p => p.1 ≠ k)

/-- Change the value under `k`, taken as `d` when none stands. -/
def KMap.upd {κ α : Type} [DecidableEq κ] (m : KMap κ α) (k : κ) (d : α) (f : α → α) : KMap κ α := m.set k (f (m.getD k d))

/-- Change every value. -/
def KMap.mapV {κ α : Type} (m : KMap κ α) (f : κ → α → α) : KMap κ α := m.map (fun p => (p.1, f p.1 p.2))

/-- The keys that stand. -/
def KMap.keys {κ α : Type} (m : KMap κ α) : List κ := m.map Prod.fst

/-- The values that stand. -/
def KMap.vals {κ α : Type} (m : KMap κ α) : List α := m.map Prod.snd

/-- Put `k` into a list without repeats. -/
def addTo {α : Type} [DecidableEq α] (l : List α) (k : α) : List α := if k ∈ l then l else l ++ [k]

/-- Take `k` out of a list. -/
def dropFrom {α : Type} [DecidableEq α] (l : List α) (k : α) : List α := l.filter (· ≠ k)

/-- Take away the first member that satisfies `p`. -/
def eraseFirst {α : Type} (p : α → Bool) : List α → List α
  | [] => []
  | a :: l => if p a then l else a :: eraseFirst p l

/-- Insert by a key, before the first member with a larger key. -/
def insertBy {α : Type} (key : α → Nat) (a : α) : List α → List α
  | [] => [a]
  | b :: l => if key a < key b then a :: b :: l else b :: insertBy key a l

/-- The member with the least key, the first of equals. -/
def leastBy {α : Type} (key : α → Nat) : List α → Option α
  | [] => none
  | a :: l =>
    match leastBy key l with
    | none => some a
    | some b => if key b < key a then some b else some a

/-- Change member `i`. -/
def modifyAt {α : Type} (f : α → α) : Nat → List α → List α
  | _, [] => []
  | 0, a :: l => f a :: l
  | i + 1, a :: l => a :: modifyAt f i l

/-- The sum of a list of numbers. -/
def sumOf {α : Type} (f : α → Nat) (l : List α) : Nat := l.foldl (fun n a => n + f a) 0

end Sys2Proof.Machine
end

