-- ==== Sys2Proof/Machine/Types/Badger.lean ====
section
/-! DEFINITION. State of Badger, the fault log and the resets (17). A field's note ends with its rule and reset value. -/

namespace Sys2Proof.Machine

/-- What Badger keeps of a unit (R485, R487, R503). -/
structure UnitRt where
  /-- RUNNING; R503; reset 0. -/
  running : Bool := false
  /-- RESULT; R503; reset 0. -/
  result : Nat := 0
  /-- ISOLATED; R503; reset 0. -/
  isolated : Bool := false
  /-- Last complete test, ns of RAW_T (the age counts from it); R487; reset the time of cold boot. -/
  last : Nat := 0
  /-- BADGER_OVERDUE has been raised for the present lapse; R487; reset 0. -/
  overdue : Bool := false
  /-- Completed since the last CYCLE_DONE; R487; reset 0. -/
  cycled : Bool := false
  /-- LAST_TEST_NS, TESTS, CORRECTED, FAILS; BADGER_STATUS; reset 0. -/
  lastNs : Int := 0
  tests : Nat := 0
  corrected : Nat := 0
  fails : Nat := 0
deriving DecidableEq, Repr

/-- A fault log entry (R494, FAULT_LOG). -/
structure FaultEntry where
  seq : Nat
  code : Nat
  action : Nat
  unit : Nat
  addr : Nat
  timeNs : Int
deriving DecidableEq, Repr

/-- LOOPBACK_CAL of a port (R490, R491). -/
structure LoopCfg where
  /-- MODE; R490; reset LOCAL (DESIGN CHOICE, log 3). -/
  mode : Nat := 0
  /-- AUTO; R492; reset 0 (DESIGN CHOICE, log 3). -/
  auto : Bool := false
  /-- REFLECT_EN; R491; reset 0 (DESIGN CHOICE, log 3). -/
  reflect : Bool := false
  /-- FIXED, 1/256 ns; R490; reset 0 (DESIGN CHOICE, log 3). -/
  fixed : Nat := 0
  /-- RX_SHARE; R490; reset 0 (DESIGN CHOICE, log 3). -/
  rxShare : Nat := 0
deriving DecidableEq, Repr

/-- A calibration run (R490, R492): its slot, loops so far in 1/256 ns, the request in flight and when it was sent, its start. -/
structure CalRun where
  slot : Nat
  loops : List Int := []
  sentAt : Option Nat := none
  start : Nat
  reqId : Nat := 0
  /-- When the last request was sent, ns of RAW_T (R492). -/
  last : Option Nat := none
deriving DecidableEq, Repr

/-- A window of R489: first unit, count, when it opened and when it ends, ns of RAW_T. -/
structure Window where
  first : Nat
  count : Nat
  opened : Nat
  until' : Nat
deriving DecidableEq, Repr

/-- Badger and the fault log (17). -/
structure Badger where
  /-- ENABLED; R487; reset 1. -/
  enabled : Bool := true
  /-- ISO_DISCARD; R498; reset 0 (DESIGN CHOICE, log 3). -/
  isoDiscard : Bool := false
  /-- FORCE_LOG2 of 2^FORCE_LOG2 slots; R488; reset 12. -/
  forceLog2 : Nat := 12
  /-- RESET_LIMIT; R498; reset 3. -/
  resetLimit : Nat := 3
  /-- Units whose record differs from reset; R485; reset as UnitRt. -/
  units : KMap Nat UnitRt := []
  /-- When the ages began, ns of RAW_T; R487; reset 0. -/
  epoch : Nat := 0
  /-- The open window; R489; reset none. -/
  window : Option Window := none
  /-- CYCLES, 32 bits; R503; reset 0. -/
  cycles : BitVec 32 := 0
  /-- LOOPBACK_CAL per port; R490; reset as LoopCfg. -/
  loop : KMap Nat LoopCfg := []
  /-- Runs in progress or queued, per port; R490; reset none. -/
  runs : KMap Nat CalRun := []
  /-- The fault log, oldest first, at most 256 entries; R494; reset empty. -/
  log : List FaultEntry := []
  /-- FAULT_SEQ of the next entry; R494; reset 0. -/
  seq : Nat := 0
  /-- Consecutive misaligned ticks per slice, and consecutive good ticks of a receiver in fault; R493; reset 0. -/
  misaligned : KMap Nat Nat := []
  recovering : KMap Nat Nat := []
  /-- Lockstep mismatches within 10 s, ns of RAW_T; R502; reset none. -/
  mismatches : List Nat := []
  /-- The control pair is held or restarting: 0 running, 1 restarting, 2 held; R495, R502; reset 0. -/
  ctlHeld : Nat := 0
  /-- Engine bundle faults with their ns of RAW_T: engine and bundle; R498; reset none. -/
  bundles : List (Nat × Nat × Nat) := []
  /-- Slice resets that owe their response; SYS_RESET; reset none. -/
  sliceOwed : KMap Nat Env := []
  /-- Flow-store banks whose mirrors firmware rewrites; R340; reset none. -/
  rebuilding : List Nat := []
  /-- Cluster banks with no spare bank after isolation; R497; reset none. -/
  noSpare : List Nat := []
deriving DecidableEq, Repr

end Sys2Proof.Machine
end

