-- ==== Sys2Proof/Machine/Types/Cfg.lean ====
section
/-! DEFINITION. The configuration that Quadrille can stage (R100, commands marked s): each register-like unit has an A and a B bank (R107, R110),
held here as two values of one record Cfg. A field's note ends with its rule and reset value. -/

namespace Sys2Proof.Machine

/-- PORT_CFG of one port (R123, R124). -/
structure PortCfg where
  speed : Nat
  kind : Nat
  first : Nat
  count : Nat
  sub : Nat
  wakeFiltered : Bool
  maxFrame : Nat
deriving DecidableEq, Repr

/-- PORT_FC (R138, R139). -/
structure FcCfg where
  /-- MODE; R138; reset 0 (DESIGN CHOICE, log 3: PORT_FC gives MODE no default). -/
  mode : Nat := 0
  /-- PFC_ENABLE, 8 bits; R138; reset 0 (DESIGN CHOICE, log 3). -/
  pfcEnable : Nat := 0
  /-- RX_HONOR; R138; reset 0 (DESIGN CHOICE, log 3). -/
  rxHonor : Bool := false
  /-- QUANTA; R139; reset 0xFFFF. -/
  quanta : Nat := 0xFFFF
  /-- XOFF_CELLS; R139; reset 0xFFFF_FFFF (DESIGN CHOICE, log 3). -/
  xoff : Nat := 0xFFFFFFFF
  /-- XON_CELLS; R139; reset 0 (DESIGN CHOICE, log 3). -/
  xon : Nat := 0
  /-- REFRESH; R139; reset 0x8000. -/
  refresh : Nat := 0x8000
deriving DecidableEq, Repr

/-- PORT_PREEMPT (R140). -/
structure PreCfg where
  /-- ENABLE; R140; reset 0 (DESIGN CHOICE, log 3). -/
  enable : Bool := false
  /-- VERIFY; R140; reset 0 (DESIGN CHOICE, log 3). -/
  verify : Bool := false
  /-- ADD_FRAG; R140; reset 0 (DESIGN CHOICE, log 3). -/
  addFrag : Nat := 0
  /-- PREEMPTABLE_MASK, 16 bits; R140; reset 0 (DESIGN CHOICE, log 3). -/
  mask : Nat := 0
  /-- VERIFY_TIME, ms; R140; reset 10. -/
  verifyTime : Nat := 10
deriving DecidableEq, Repr

/-- PORT_EEE (R141). -/
structure EeeCfg where
  /-- ENABLE; R141; reset 0 (DESIGN CHOICE, log 3). -/
  enable : Bool := false
  /-- LPI_IDLE, µs; R141; reset 20. -/
  idle : Nat := 20
  /-- TW, ns, 0 for the default of the rate; R141; reset 0. -/
  tw : Nat := 0
deriving DecidableEq, Repr

/-- PORT_LINK_HOLD (R136, R137). -/
structure HoldCfg where
  /-- DOWN_FILTER, ns; R136; reset 1 000. -/
  downFilter : Nat := 1000
  /-- LINK_HOLD, µs; R137; reset 0. -/
  hold : Nat := 0
  /-- UP_DEBOUNCE, µs; R136; reset 10 000. -/
  debounce : Nat := 10000
deriving DecidableEq, Repr

/-- A wake-pattern filter (R145). -/
structure WakeFilter where
  portMask : Nat
  offset : Nat
  enable : Bool
  magic : Bool
  pattern : List Byte
  mask : Nat
deriving DecidableEq, Repr

/-- A transition of a parse node (R181). -/
structure Transition where
  value : Nat
  mask : Nat
  next : Nat
deriving DecidableEq, Repr

/-- A parse node (R181, R192). -/
structure ParseNode where
  hdrId : Nat := 0
  ipv4Csum : Bool := false
  ipv4Frag : Bool := false
  ipv6Frag : Bool := false
  failAction : Nat := 0
  pre : Nat := 0
  lenMode : Nat := 0
  fixedLen : Nat := 0
  lenOff : Nat := 0
  lenShift : Nat := 0
  lenMask : Nat := 0
  lenMul : Nat := 0
  lenAdd : Nat := 0
  minLen : Nat := 0
  maxLen : Nat := 0
  checkOff : Nat := 0
  checkMask : Nat := 0
  checkValue : Nat := 0
  keyOff : Nat := 0
  keyBits : Nat := 0
  defaultNext : Nat := 0xFF
  trans : List Transition := []
deriving DecidableEq, Repr

/-- A field of a key profile (R197, R198). -/
structure KeyField where
  source : Nat
  sel : Nat
  inst : Nat
  off : Nat
  len : Nat
  lastMask : Nat
  dest : Nat
deriving DecidableEq, Repr

/-- A key profile with its bound table and chain controls (R195, R197). -/
structure KeyProfile where
  tableId : Nat
  onHit : Nat
  onMiss : Nat
  onErr : Nat
  keyBytes : Nat
  fields : List KeyField
  /-- The payload of KEY_PROFILE_SET from offset 8, from which DIGEST is formed (R235). -/
  raw : List Byte
deriving DecidableEq, Repr

/-- SHARED_LIMIT_SET (R247). -/
structure SharedLim where
  /-- ALPHA code; R247; reset 6. -/
  alpha : Nat := 6
  /-- MAX_CELLS; R247; reset 0xFFFF_FFFF. -/
  maxCells : Nat := 0xFFFFFFFF
deriving DecidableEq, Repr

/-- A VLAN (R258). A member set lists ports. -/
structure Vlan where
  learn : Bool
  fid : Nat
  /-- Whether port p is a member: every port with `allMembers`, else the ports listed. -/
  all : Bool
  members : List Nat
  untagged : List Nat
deriving DecidableEq, Repr

/-- VLAN_SET KIND 1 (R258). -/
structure PortVlan where
  /-- S_TAG; R258; reset 0 (DESIGN CHOICE, log 3: R258 names no cold-boot S_TAG). -/
  sTag : Bool := false
  /-- ACCEPT; R258; reset ADMIT_ALL. -/
  accept : Nat := 0
  /-- PVID; R258; reset 1. -/
  pvid : Nat := 1
  /-- DEFAULT_PCP; R258; reset 0 (DESIGN CHOICE, log 3). -/
  pcp : Nat := 0
deriving DecidableEq, Repr

/-- LEARN_CFG KIND 0 (R261, R263, R264). -/
structure LearnG where
  /-- FLUSH_ON_DOWN; R264; reset 0 (DESIGN CHOICE, log 3). -/
  flushOnDown : Bool := false
  /-- MOVE_LIMIT; R261; reset 16. -/
  moveLimit : Nat := 16
  /-- AGE_TIME, s; R263; reset 300. -/
  ageTime : Nat := 300
  /-- FREEZE, s; R261; reset 10. -/
  freeze : Nat := 10
deriving DecidableEq, Repr

/-- LEARN_CFG KIND 1 (R262). -/
structure LearnP where
  /-- LEARN; R258, R262; reset 1. -/
  learn : Bool := true
  /-- LIMIT_DISCARD; R262; reset 0 (DESIGN CHOICE, log 3). -/
  limitDiscard : Bool := false
  /-- LEARN_LIMIT; R262; reset 0 (DESIGN CHOICE, log 3). -/
  limit : Nat := 0
deriving DecidableEq, Repr

/-- A multicast group (R265). -/
structure Group where
  members : List Nat
  lags : List Nat
deriving DecidableEq, Repr

/-- LAG_SET (R267). -/
structure Lag where
  hashFields : Nat
  seed : Nat
  members : List Nat
  distributing : Nat
deriving DecidableEq, Repr

/-- A queue map (R272, R275). -/
structure QMap where
  /-- MAPPED, 16 bits; R275; reset all mapped. -/
  mapped : Nat := 0xFFFF
  /-- DEFAULT_Q; R275; reset 0. -/
  defaultQ : Nat := 0
  /-- PRIO_QUEUE[p]; R275; reset 2p. -/
  prioQueue : List Nat := [0, 2, 4, 6, 8, 10, 12, 14]
  /-- TC[q]; R275; reset q >> 1. -/
  tc : List Nat := [0, 0, 1, 1, 2, 2, 3, 3, 4, 4, 5, 5, 6, 6, 7, 7]
deriving DecidableEq, Repr

/-- One queue of the hierarchy (R278). -/
structure SchedQ where
  parent : Nat
  prio : Nat
  weight : Nat
deriving DecidableEq, Repr

/-- One node of the hierarchy (R278). -/
structure SchedN where
  prio : Nat
  weight : Nat
deriving DecidableEq, Repr

/-- A port's hierarchy (R275, R278). -/
structure Sched where
  /-- Queues; R275; reset queue q on node q >> 1, PRIO 0, WEIGHT 1. -/
  queues : List SchedQ := (List.range 16).map (fun q => ⟨q / 2, 0, 1⟩)
  /-- Nodes; R275; reset PRIO n, WEIGHT 1. -/
  nodes : List SchedN := (List.range 8).map (fun n => ⟨n, 1⟩)
deriving DecidableEq, Repr

/-- A shaper: mode 1 token bucket, mode 2 credit-based (R283, R284). -/
structure Shaper where
  mode : Nat
  cir : Nat
  pir : Nat
  cburst : Nat
  pburst : Nat
deriving DecidableEq, Repr

/-- A policer (R287, R288). -/
structure Policer where
  aware : Bool
  yellow : Nat
  lenAdj : Int
  cir : Nat
  pir : Nat
  cbs : Nat
  pbs : Nat
deriving DecidableEq, Repr

/-- A stream filter (R289). -/
structure StreamFilter where
  flow : Nat
  blockOversize : Bool
  maxSdu : Nat
  policer : Nat
  gatePort : Nat
  gateQ : Nat
deriving DecidableEq, Repr

/-- SAMPLE_CFG (R291). -/
structure SampleCfg where
  qMask : Nat
  intervalUs : Nat
  alarmNs : Nat
deriving DecidableEq, Repr

/-- A capture rule (R297). -/
structure CapRule where
  point : Nat
  port : Nat
  qMask : Nat
  sampleN : Nat
  flowValue : Nat
  flowMask : Nat
  minSojourn : Nat
  ring : Nat
  mirror : Nat
  snapLen : Nat
deriving DecidableEq, Repr

/-- A mirror session (R300). -/
structure Mirror where
  port : Nat
  q : Nat
  truncate : Nat
  maxPending : Nat
deriving DecidableEq, Repr

/-- An entry of a gate list (R302). -/
structure GateEntry where
  gates : Nat
  op : Nat
  interval : Nat
deriving DecidableEq, Repr

/-- An installed gate list (R301, R303). -/
structure GateList where
  base : Nat
  cycle : Nat
  holdAdvance : Nat
  entries : List GateEntry
deriving DecidableEq, Repr

/-- A flow's configuration (R320, R322). -/
structure FlowCfg where
  enabled : Bool
  guarded : Bool
  recover : Bool
  seqMode : Nat
  tagKind : Nat
  replicaCount : Nat
  ageLimit : Nat
  replicas : List Nat
  recTimeout : Nat
  recHold : Nat
  recSlices : Nat
  keySlices : Nat
  minCells : Nat
  user : List Byte
  key : List Byte
  /-- Home slice and home slot. -/
  slice : Nat
  slot : Nat
  /-- The key slots: slice and the index that HANDLE shows (R323). -/
  keySlots : KMap Nat Nat
deriving DecidableEq, Repr

/-- A redundancy node (R341). -/
structure PrpNode where
  mode : Nat
  portA : Nat
  portB : Nat
  forget : Nat
  mac : List Byte
deriving DecidableEq, Repr

/-- STAMP_PORT_CFG (R165, R173). -/
structure StampCfg where
  /-- HINT_PRED; R173; reset 0 (DESIGN CHOICE, log 3: R173 gives no default). -/
  hintPred : Nat := 0
  /-- RX_TEMP_COEF, 0.01 ps per °C; R165; reset 0 (DESIGN CHOICE, log 3). -/
  rxTemp : Int := 0
  /-- TX_TEMP_COEF; R165; reset 0 (DESIGN CHOICE, log 3). -/
  txTemp : Int := 0
  /-- RX_UTIL_COEF, 0.01 ps per 10 points; R165; reset 0 (DESIGN CHOICE, log 3). -/
  rxUtil : Int := 0
  /-- TX_UTIL_COEF; R165; reset 0 (DESIGN CHOICE, log 3). -/
  txUtil : Int := 0
deriving DecidableEq, Repr

/-- PTP_PORT_CFG (R169, R175). -/
structure PtpCfg where
  role : Nat
  oneStepSync : Bool
  oneStepPdelay : Bool
  v20 : Bool
  v21 : Bool
  peerDelay : Nat
  asym : Int
  profile : Nat
  domain : Nat
  prio1 : Nat
  prio2 : Nat
  clockId : List Byte
deriving DecidableEq, Repr

/-- DOMAIN_PORT_SET (R345). -/
structure DomPort where
  q : Nat
  asym : Int
deriving DecidableEq, Repr

/-- An RX filter of a host port, or its default target (R433, RX_FILTER_SET). -/
structure RxFilter where
  toGroup : Bool
  fields : Nat
  da : Nat
  vid : Nat
  etherType : Nat
  q : Nat
  flow : Nat
  target : Nat
deriving DecidableEq, Repr

/-- An RSS group (R433, RSS_SET). -/
structure RssCfg where
  hostPort : Nat
  hashFields : Nat
  seed : Nat
  table : List Nat
deriving DecidableEq, Repr

/-- Everything that Quadrille can stage, in one bank (R100, R107). -/
structure Cfg where
  /-- Configured ports; R123; reset none. -/
  ports : KMap Nat PortCfg := []
  /-- PORT_FC per port; R138; reset as FcCfg. -/
  fc : KMap Nat FcCfg := []
  /-- PORT_PREEMPT per port; R140; reset as PreCfg. -/
  preempt : KMap Nat PreCfg := []
  /-- PORT_EEE per port; R141; reset as EeeCfg. -/
  eee : KMap Nat EeeCfg := []
  /-- PORT_LINK_HOLD per port; R136; reset as HoldCfg. -/
  hold : KMap Nat HoldCfg := []
  /-- Wake-pattern filters at slice × 16 + index; R145; reset none (DESIGN CHOICE, log 3). -/
  wake : KMap Nat WakeFilter := []
  /-- Parse graphs that differ from the default, per slice; R187; reset the default graph. -/
  graphs : KMap Nat (KMap Nat ParseNode) := []
  /-- Stage profiles at slice × 8 + stage; R193; reset empty (DESIGN CHOICE, log 3). -/
  stages : KMap Nat KeyProfile := []
  /-- Key-port profiles at engine × 4 + port; R199; reset none (DESIGN CHOICE, log 3). -/
  keyPorts : KMap Nat KeyProfile := []
  /-- Mapped images at engine × 64 + PROG_ID; R224; reset none (PROG_ID 0 is the pass-through program). -/
  progMap : KMap Nat Nat := []
  /-- Default PROG_ID at engine × 2048 + port; R225; reset 0. -/
  progDef : KMap Nat Nat := []
  /-- Engine constants at engine × 64 + index; R210; reset 0 (DESIGN CHOICE, log 3: R216 gives scratch a reset value and constants none). -/
  consts : KMap Nat Word := []
  /-- SHARED_LIMIT_SET per queue ID; R247; reset as SharedLim. -/
  sharedLim : KMap Nat SharedLim := []
  /-- Ports with cut-through enabled; R270; reset none (DESIGN CHOICE, log 3). -/
  cut : List Nat := []
  /-- VLANs; R258; reset VID 1 valid with FID 1, every port an untagged member, learning on. -/
  vlans : KMap Nat Vlan := [(1, ⟨true, 1, true, [], []⟩)]
  /-- VLAN_SET KIND 1 per port; R258; reset as PortVlan. -/
  portVlan : KMap Nat PortVlan := []
  /-- LEARN_CFG KIND 0; R263; reset as LearnG. -/
  learnG : LearnG := {}
  /-- LEARN_CFG KIND 1 per port; R262; reset as LearnP. -/
  learnP : KMap Nat LearnP := []
  /-- Valid multicast groups; R265; reset none (DESIGN CHOICE, log 3). -/
  mcast : KMap Nat Group := []
  /-- Valid LAGs; R267; reset none (DESIGN CHOICE, log 3). -/
  lags : KMap Nat Lag := []
  /-- Queue maps per port; R275; reset as QMap. -/
  qmap : KMap Nat QMap := []
  /-- Hierarchies per port; R275; reset as Sched. -/
  sched : KMap Nat Sched := []
  /-- Shapers at port × 24 + q, or port × 24 + 16 + node; R275; reset none. -/
  shaper : KMap Nat Shaper := []
  /-- Policers at slice × 4096 + index; R275; reset none. -/
  policer : KMap Nat Policer := []
  /-- Stream filters at slice × 1024 + index; R275; reset none. -/
  filter : KMap Nat StreamFilter := []
  /-- SAMPLE_CFG per port; R275; reset interval 0. -/
  sample : KMap Nat SampleCfg := []
  /-- Installed gate lists; R301; reset none. -/
  gate : KMap Nat GateList := []
  /-- Ports whose gate list is enabled; R305; reset none. -/
  gateOn : List Nat := []
  /-- OVERHEAD per port; R280; reset 20. -/
  overhead : KMap Nat Nat := []
  /-- Flows; R320; reset none. -/
  flows : KMap Nat FlowCfg := []
  /-- Redundancy nodes; R341; reset none (DESIGN CHOICE, log 3). -/
  prp : KMap Nat PrpNode := []
  /-- STAMP_PORT_CFG per port; R165; reset as StampCfg. -/
  stampP : KMap Nat StampCfg := []
  /-- PTP_PORT_CFG per port; R169; reset ROLE 0 (DESIGN CHOICE, log 3). -/
  ptp : KMap Nat PtpCfg := []
  /-- Domain ports; R345; reset none (DESIGN CHOICE, log 3). -/
  domPort : KMap Nat DomPort := []
  /-- RX filters at host port × 256 + index, the default target at index 0xFF; R433; reset none (DESIGN CHOICE, log 3). -/
  rxFilter : KMap Nat RxFilter := []
  /-- RSS groups 0 to 63; R433; reset none (DESIGN CHOICE, log 3). -/
  rss : KMap Nat RssCfg := []
  /-- OFFLOAD_SET flags per host port; OFFLOAD_SET; reset RX_CSUM and TX_CSUM set. -/
  offload : KMap Nat Nat := []
  /-- Capture rules; R275; reset none. -/
  capRule : KMap Nat CapRule := []
  /-- Mirror sessions; R275; reset none. -/
  mirror : KMap Nat Mirror := []
  /-- The Sezal EtherType of the parse graphs; R189; reset 0x88B5. -/
  etherType : Nat := 0x88B5
  /-- RULE_MASK of CAP_ENABLE; R297; reset none (DESIGN CHOICE, log 3). -/
  capEn : List Nat := []
deriving DecidableEq, Repr

end Sys2Proof.Machine
end

