-- ==== Sys2Proof/Machine/Types/Ctl.lean ====
section
/-! DEFINITION. State of the control complex: boot mailbox, boot, admin queue, journal, Quadrille sets, firmware (03). A field's note ends with
its rule and reset value. -/

namespace Sys2Proof.Machine

/-- A response (R96). -/
structure Response where
  opcode : Nat
  status : Nat
  detail : Nat
  fieldOffset : Nat
  tag : Word
  data : List Byte
deriving DecidableEq, Repr

/-- The boot mailbox page (R83). -/
structure Mailbox where
  /-- CMD, 256 bytes, where they differ from 0, by offset; R83; reset 0 (DESIGN CHOICE, log 3: R83 gives CMD no reset value). -/
  cmd : List Host.Cell := []
  /-- RSP, the last response written, 256 bytes; R83; reset none, reading 0 (DESIGN CHOICE, log 3). -/
  rsp : Option Response := none
  /-- BUSY, 1 bit; R83; reset 0. -/
  busy : Bool := false
  /-- DONE, 1 bit; R83; reset 0. -/
  done : Bool := false
  /-- GO_LOST, 1 bit; R83; reset 0. -/
  goLost : Bool := false
  /-- DONE_IRQ of MB_CFG, 1 bit; R83; reset 0. -/
  doneIrq : Bool := false
  /-- MB_LAST_TAG, 32 bits; R83; reset 0. -/
  lastTag : Word := 0
  /-- CMD is locked from an accepted GO until ACK; R84, R85; reset 0. -/
  locked : Bool := false
  /-- The response of the mailbox command that firmware has executed, with whether it took effect, until MB_COMMAND_DONE; R84; reset none. -/
  ready : Option (Response × Bool) := none
deriving DecidableEq, Repr

/-- BOOT_STAGE and BLK_READY (R65, R83, R88). -/
structure BootRegs where
  /-- STAGE, 8 bits; R83; reset 0x00. -/
  stage : Nat := 0
  /-- BOOT_ERR, 8 bits; R83; reset 0x00. -/
  err : Nat := 0
  /-- WARM, 1 bit; R83; reset 0. -/
  warm : Bool := false
  /-- BLK_READY, which READY of MB_STATE equals, 1 bit; R65, R83; reset 0. -/
  ready : Bool := false
  /-- What the boot that is owed follows: 0 none, 1 cold or power-on, 2 warm, 3 control-pair restart; R88, R502; reset 1. -/
  owed : Nat := 1
  /-- DEBUG_EN, the pin's level, 1 bit; R77; reset 0 (DESIGN CHOICE, log 3: pin). -/
  debugEn : Bool := false
  /-- THERM_ALERT, 1 bit; R81; reset 0. -/
  thermAlert : Bool := false
  /-- THERM_LIMIT, signed, 0.1 °C; R118; reset 1 200. -/
  thermLimit : Int := 1200
  /-- THERM_HYST, 0.1 °C; R118; reset 50. -/
  thermHyst : Nat := 50
  /-- The sensors' 1 ms averages of the last evaluation, 0.1 °C; R118; reset empty, reading 0 (DESIGN CHOICE, log 3). -/
  sensors : List Int := []
  /-- PATCH_LEVEL, 8 bits; R117; reset 0. -/
  patchLevel : Nat := 0
  /-- A SYS_RESET of KIND 0, 1 or 3 whose response is on its way, with its command; SYS_RESET; reset none. -/
  resetAsked : Option (Nat × Env) := none
  /-- WARMRST_N fell in Hibernate: the warm reset follows the wake; R64; reset 0. -/
  warmWaits : Bool := false
  /-- A warm reset aborted sets, and source 18 follows once firmware is ready; R116; reset 0. -/
  abortIrq : Bool := false
  /-- The IEEE 1500 wrapper holds BYPASS; R75; reset 1 (DESIGN CHOICE, log 117: WRSTN is low at power-on). -/
  bypass : Bool := true
  /-- Untos is in test: an instruction other than BYPASS has been loaded since the last cold reset; R75; reset 0 (DESIGN CHOICE, log 117). -/
  inTest : Bool := false
deriving DecidableEq, Repr

/-- A journalled admin command (R92, R93). -/
structure JEntry where
  index : Nat
  opcode : Nat
  env : Env
  done : Bool := false
  status : Nat := 0
  /-- The completion is in host memory (HPI has acknowledged it). -/
  acked : Bool := false
  /-- A warm or control-pair reset found it not done, so that firmware executes it from the journal (R93, R119). -/
  again : Bool := false
deriving DecidableEq, Repr

/-- The admin queue and the command journal (R90 to R94, R119). -/
structure Admin where
  /-- Whether SYS_ADMINQ_SET has set the queue up and it is not disabled; R90, R94; reset 0. -/
  set : Bool := false
  /-- RSP_BASE, 64 bits; R94; reset 0 (DESIGN CHOICE, log 3). -/
  rspBase : Nat := 0
  /-- HEAD_WB, 64 bits; R94; reset 0 (DESIGN CHOICE, log 3). -/
  headWb : Nat := 0
  /-- SIZE, 32 bits; R94; reset 0 (DESIGN CHOICE, log 3). -/
  size : Nat := 0
  /-- VECTOR, 16 bits; R94; reset 0 (DESIGN CHOICE, log 3). -/
  vector : Nat := 0
  /-- The journal, oldest first, at most 64 entries (JOURNAL_DEPTH) that are not done; R92, R119; reset empty. -/
  journal : List JEntry := []
  /-- LAST_RESET, 8 bits; R119; reset 0. -/
  lastReset : Nat := 0
  /-- REPLAYED, 32 bits; R119; reset 0. -/
  replayed : Nat := 0
  /-- Firmware has still to execute journalled commands after a reset; R88, R93; reset 0. -/
  replayOwed : Bool := false
  /-- REWRITTEN, 32 bits; R119; reset 0. -/
  rewritten : Nat := 0
deriving DecidableEq, Repr

/-- States of a Quadrille set, in the order QUAD_STATUS counts them (R102). -/
inductive SetSt where
  | opened | checked | voting | armed | normalising | done | aborted
deriving DecidableEq, Repr

/-- What a staged change claims (R103): a register field, a table entry or a list, named by its opcode, its unit and the field. -/
structure Claim where
  op : Nat
  unit : Nat
  field : Nat := 0
deriving DecidableEq, Repr

/-- A staged change (R101, R104). -/
structure Change where
  cmd : Instr
  claims : List Claim
  table : Bool
  /-- It counts among the set's changes: the set did not hold all its fields already (R101). -/
  counted : Bool := true
deriving DecidableEq, Repr

/-- A Quadrille set (R101, R102). -/
structure QSet where
  /-- SET_ID. -/
  id : Nat
  /-- DOMAIN flag. -/
  domain : Bool
  /-- IDLE_LIMIT in seconds. -/
  idleLimit : Nat
  st : SetSt := .opened
  changes : List Change := []
  /-- When a command last named the set, ns of RAW_T (R101, IDLE_LIMIT). -/
  named : Nat := 0
  /-- MODE of the apply: 0 NOW, 1 AT_TIME, 2 AT_DOMAIN. -/
  mode : Nat := 0
  /-- APPLY_TIME in whole ns of TIME. -/
  applyTime : Nat := 0
  /-- QUAD_APPLY has been taken and the set waits for its arming. -/
  applying : Bool := false
  /-- The earliest end of the arming, ns of RAW_T (R107). -/
  armEnd : Nat := 0
  /-- EFFECTIVE_NS and EFFECTIVE_FRAC as TIME in 2^-16 ns. -/
  effective : Nat := 0
  /-- The instance that voted CONFLICT or missed the deadline; 0xFFFF none. -/
  culprit : Nat := 0xFFFF
  /-- When the set reached NORMALISING, DONE or ABORTED, ns of RAW_T (R102, R114). -/
  since : Nat := 0
  /-- The response that QUAD_APPLY still owes (R93, R107). -/
  owed : Option Env := none
  /-- A tick has reached or skipped APPLY_TIME (R159, R160). -/
  hit : Bool := false
deriving DecidableEq, Repr

/-- Quadrille (R101 to R116). -/
structure Quad where
  /-- The sets, oldest first, ended ones until 60 s have passed; R101, R102; reset none. -/
  sets : List QSet := []
  /-- Epoch parity, 1 bit; R110; reset 0 (DESIGN CHOICE, log 3: R110 names no first parity). -/
  parity : Bool := false
  /-- When the parity last changed, 2^-16 ns of RAW_T; R111; reset none. -/
  flipAt : Option Nat := none
deriving DecidableEq, Repr

end Sys2Proof.Machine
end

