-- ==== Sys2Proof/Machine/Types/Data.lean ====
section
/-! DEFINITION. State of the data path: frames on their way, ports, slices, buffer, tables, queues, gate lists, flows, Foxtrot (04, 06 to 11).
A field's note ends with its rule and reset value. -/

namespace Sys2Proof.Machine

/-- A header-vector entry (R183): HDR_ID, offset, TRUNC, and whether an edit removed it (R221). -/
structure Hdr where
  id : Nat
  off : Nat
  trunc : Bool := false
  removed : Bool := false
deriving DecidableEq, Repr

/-- The parse result of a frame (R183). -/
structure ParseRes where
  hdrs : List Hdr := []
  nodes : Nat := 0
  endOff : Nat := 0
  part : Bool := false
  malformed : Bool := false
  reason : Nat := 0
  /-- The frame is to be discarded by FAIL_ACTION DROP (R186). -/
  drop : Bool := false
deriving DecidableEq, Repr

/-- A table result slot (R194). -/
structure TRes where
  result : List Byte := List.replicate 16 0
  handle : Nat := 0
  tableId : Nat := 0
  hit : Bool := false
  skipped : Bool := false
  err : Bool := false
deriving DecidableEq, Repr

/-- What a host-sent frame carries from its TX entry (R411, R174, R432): its queue and number there, and the descriptor's fields. -/
structure HostTx where
  queue : Nat
  num : Nat
  flags : Nat
  tref : Nat
deriving DecidableEq, Repr

/-- The meter event of a received frame that waits for its flow (R390): of the open interval, of one whose boundary has passed, or charged already. -/
inductive TapMark where
  | fresh | old | charged
deriving DecidableEq, Repr

/-- A frame in a slice before admission (R24, R50, R111). `data` runs from DA to the byte before the FCS. -/
structure Frame where
  portIn : Nat
  data : List Byte
  /-- Ingress stamp: whole ns and sixteenths as TIME in 1/16 ns. -/
  stamp : Nat
  /-- Flag bits of the stamp (R155): TIME_INVALID is bit 1, CAL_STALE bit 0. -/
  stampFlags : Nat
  /-- Epoch parity (R111). -/
  epoch : Bool
  /-- The MAC judged the frame bad; only a cut-through copy goes on, to be stomped (R130). -/
  bad : Bool := false
  /-- Length from DA through FCS as received (R287). -/
  rxLen : Nat := 0
  /-- How its meter event stands with the interval boundaries (R390). -/
  tap : TapMark := .fresh
  host : Option HostTx := none
deriving DecidableEq, Repr

/-- A frame that classification has sent on (R257): its egress copies as (port, queue) and what it needs later. -/
structure Classified where
  frame : Frame
  /-- Metadata words M0 to M31 as E1 left them (R212). -/
  m : List Word
  /-- The egress set: (port, queue); the mirror copies of POINT 0 as (session, port, queue) (R300). -/
  copies : List (Nat × Nat)
  mirrors : List (Nat × Nat × Nat)
  /-- The forwarding decision named one port, so that a guarded frame's copies form one delivery group (R329). -/
  single : Bool
  flow : Nat
  guarded : Bool
  seq : Option Nat
  flood : Bool
  cut : Bool
  /-- VID of the frame, and the offset of the VLAN header that its port uses (R258). -/
  vid : Nat
  vtag : Option Nat
  /-- The frame came over a domain port with a Sezal tag (R347). -/
  sezal : Bool
  /-- The learn event that a good FCS releases (R260): FID and MAC. -/
  learn : Option (Nat × Nat)
  /-- The parse result, for key ports of E2 and E3 (R198). -/
  parse : ParseRes
  /-- The redundancy node whose tag the copies outside the node lose (R343). -/
  node : Option Nat
  /-- Cells once CELL_WRITE has written them: primary and replica chain. -/
  cells : List Nat := []
  replica : List Nat := []
  /-- The frame number under which a cut-through frame was admitted as its classification completed (R27). -/
  admitted : Option Nat := none
  /-- Charges (R247): cells charged to the flow minimum, and to the shared pool through the charging queue. -/
  minCharged : Nat := 0
  sharedCharged : Nat := 0
  chargeQ : Nat := 0
deriving DecidableEq, Repr

/-- A frame admitted to the buffer (R25, R27, R28). -/
structure Stored where
  c : Classified
  /-- Slices whose handoff mark stands (R333). -/
  marks : List Nat
  /-- Copies that are not done and not discarded. -/
  left : Nat
  /-- Delivery groups with a DONE: group numbers (R337). -/
  doneGroups : List Nat := []
  /-- The crossbar reads the replica chain (R328). -/
  onReplica : Bool := false
  /-- Slices whose multicast store holds the frame, with the ns of RAW_T at which it entered (R266). -/
  mcast : KMap Nat Nat := []
  /-- Some copy has been scheduled (R266). -/
  read : Bool := false
  /-- A cut-through frame whose cells are not all written yet (R27). -/
  writing : Bool := false
deriving DecidableEq, Repr

/-- A copy on a queue or beyond (R276, R281). -/
structure Copy where
  frame : Nat
  port : Nat
  q : Nat
  /-- TIME in whole ns at enqueue (R290). -/
  enq : Int
  /-- Length at enqueue, DA through FCS (R223). -/
  len : Nat
  /-- Delivery group within the frame (R329). -/
  group : Nat := 0
  /-- Mirror session, none for an original (R300). -/
  mirror : Option Nat := none
  /-- Node tag: MODE, number, LanId or PathId (R342). -/
  node : Option (Nat × Nat × Nat) := none
  /-- The data as rewritten so far, and the metadata, from its release on (E2, E3). -/
  data : List Byte := []
  m : List Word := []
  hdrs : List Hdr := []
  /-- Charged length at release (R280), and its projected wire start and end in 1/16 ns of TIME (R308). -/
  charged : Nat := 0
  wireEnd : Int := 0
  sojourn : Nat := 0
  relOrder : Nat := 0
  /-- The port front has counted it in GATE_LATE (R310). -/
  late : Bool := false
  /-- The parity in force at its release, by which E2 and E3 act (R111). -/
  epoch : Bool := false
deriving DecidableEq, Repr

/-- What the transmit FIFO of a port holds (R129): a copy, or a frame of firmware or the MAC (Sezal, PTP, pause). -/
inductive TxItem where
  | copy (c : Copy)
  | own (data : List Byte) (tag : Nat)
deriving DecidableEq, Repr

/-- A frame in transmission (R131). -/
structure TxCur where
  item : TxItem
  /-- Transmit stamp of the first byte: TIME in 1/16 ns, with the hint still awaited (R50, R51). -/
  stamp : Int
  stampFlags : Nat
  hintWait : Bool
  preempted : Bool := false
  /-- The frame carries a one-step field, written with the HINT_PRED given here; its bytes before the field was written (R173). -/
  pred : Option (Nat × List Byte) := none
deriving DecidableEq, Repr

/-- A TX_HINT that the PCS owes for a begun frame, in transfer order (R51): whether its frame was stomped before the hint came. -/
structure OwedHint where
  gone : Bool := false
deriving DecidableEq, Repr

/-- States of the link state machine, in the order of PORT_STATUS (R136). -/
inductive LinkSt where
  | down | comingUp | up | held | flushed
deriving DecidableEq, Repr

/-- Preemption states, in the order of PORT_STATUS (R140). -/
inductive PreSt where
  | disabled | verifying | active | failed | suspended
deriving DecidableEq, Repr

/-- A record slot (R131): the flow and sequence number of a STARTED frame. -/
structure RecSlot where
  flow : Nat
  seq : Nat
deriving DecidableEq, Repr

/-- A DONE log entry (R132). -/
structure DoneEntry where
  flow : Nat
  seq : Nat
  localPort : Nat
  done : Bool
  preemptable : Bool
  stamp : Nat
  copy : Copy
deriving DecidableEq, Repr

/-- A calibration record (R162): latencies in 1/256 ns, temperature in 0.1 °C, utilisation in points. -/
structure CalRec where
  rx : Nat
  tx : Nat
  temp : Int
  util : Nat
  droop : Nat
deriving DecidableEq, Repr

/-- Runtime state of a port (04, 05). -/
structure PortRt where
  /-- ADMIN; R106, R136; reset 0. -/
  admin : Bool := false
  /-- LINK; R136; reset DOWN. -/
  link : LinkSt := .down
  /-- When the link state was entered, ns of RAW_T; R136; reset 0. -/
  since : Nat := 0
  /-- STAT's last levels: link up, local fault, remote fault; R45; reset 1, 0, 0 (DESIGN CHOICE, log 3: pins). -/
  statUp : Bool := true
  localFault : Bool := false
  remoteFault : Bool := false
  /-- When the fault condition last cleared, ns of RAW_T; R136; reset 0. -/
  clearSince : Nat := 0
  /-- LINK_HOLD and UP_DEBOUNCE in µs as they stood at the entry to HELD or COMING_UP; PORT_LINK_HOLD; reset 0 and 10 000. -/
  holdUs : Nat := 0
  debounceUs : Nat := 10000
  /-- LF[j] requested because the port was set admin-down; R137; reset 0. -/
  lfDown : Bool := false
  /-- PREEMPT; R140; reset DISABLED. -/
  pre : PreSt := .disabled
  /-- Verify frames sent; R140; reset 0. -/
  verifyTries : Nat := 0
  /-- When the last verify frame was sent, ns of RAW_T; R140; reset 0. -/
  verifyAt : Nat := 0
  /-- Transmit is in low-power idle, since a ns of RAW_T; R141; reset no. -/
  lpiTx : Option Nat := none
  /-- No frame starts before this ns of RAW_T after low-power idle; R141; reset 0. -/
  lpiReady : Nat := 0
  /-- The partner is in low-power idle, since a ns of RAW_T; R141; reset no. -/
  lpiRx : Option Nat := none
  /-- When the port's queues all became empty, ns of RAW_T; R141; reset 0. -/
  emptySince : Nat := 0
  /-- Priorities paused by the partner and until which ns of RAW_T (0 alone in pause mode); R138; reset none. -/
  paused : KMap Nat Nat := []
  /-- Priorities under XOFF and when XOFF was last sent, ns of RAW_T; R139; reset none. -/
  xoff : KMap Nat Nat := []
  /-- Ingress cells in the buffer per priority; R139; reset 0. -/
  ingressCells : KMap Nat Nat := []
  /-- EXPRESS slot; R131; reset IDLE. -/
  express : Option RecSlot := none
  /-- PREEMPTABLE slot; R131; reset IDLE. -/
  preemptable : Option RecSlot := none
  /-- Copies released and in E2's pacing queue; R208, R281; reset none. -/
  pacing : List Copy := []
  /-- The transmit FIFO behind E3; R129; reset empty. -/
  fifo : List TxItem := []
  /-- The frame in transmission; R129; reset none. -/
  cur : Option TxCur := none
  /-- A preempted frame whose later fragments wait; R282, R312; reset none. -/
  preempted : Option TxCur := none
  /-- TX_HINTs owed, oldest first; R51; reset none. -/
  hints : List OwedHint := []
  /-- The last TX_HINT values, newest first, at most 256; STAMP_PORT_CFG HINT_PRED 0xFFFF; reset none. -/
  hintLog : List Nat := []
  /-- Projected wire end of the copies released, TIME in 1/16 ns, express and preemptable hierarchy; R284, R308; reset 0. -/
  wireEnd : Int := 0
  wireEndP : Int := 0
  /-- Modelled end of the copies released, for the credit-based shapers, 1/16 ns of RAW_T; R284; reset 0. -/
  modelEnd : Nat := 0
  /-- Calibration record slots; R162; reset empty. -/
  cal : KMap Nat CalRec := []
  /-- CAL_STALE; R157, R164; reset 0. -/
  calStale : Bool := false
  /-- Effective RX_LAT and TX_LAT in 1/256 ns; R165; reset 0. -/
  rxLat : Int := 0
  txLat : Int := 0
  /-- Latencies of the last evaluation that take effect at the next OWL tick; R165; reset none. -/
  latNext : Option (Int × Int) := none
  /-- Bytes received on the wire since the last evaluation, 20 more for each frame; R163; reset 0. -/
  loadRx : Nat := 0
  /-- Bytes transmitted, counted likewise; R163; reset 0. -/
  loadTx : Nat := 0
  /-- Operating point of the last evaluation: temperature and utilisation; R163; reset 0. -/
  opTemp : Int := 0
  opUtil : Nat := 0
deriving DecidableEq, Repr

/-- A frame in the den (R142). -/
structure DenFrame where
  frame : Frame
  /-- Bytes it occupies. -/
  size : Nat
deriving DecidableEq, Repr

/-- Runtime state of a slice (R23, R26, R41, R142). -/
structure SliceRt where
  /-- Frames in the ingress staging FIFO and the head stage; R24, R41; reset none. -/
  ingress : List Frame := []
  /-- Frames whose classification is done and whose cells are not all written; R24; reset none. -/
  toWrite : List Classified := []
  /-- Frames whose cells are written and that wait for admission; R25; reset none. -/
  written : List Classified := []
  /-- The den buffer; R142; reset empty. -/
  den : List DenFrame := []
  /-- A hold of the DONE log lasts, and DONE_LOG_STALL has counted its clocks up to this instant, 2^-16 ns of RAW_T; R133; reset none. -/
  stallFrom : Option Nat := none
  /-- LF is requested on the slice's admin-up ports, for a den drop or a failed wake; R144, R480; reset 0. -/
  denLf : Bool := false
  /-- The DONE log, oldest first, at most 512 entries; R133; reset empty. -/
  doneLog : List DoneEntry := []
  /-- Released guarded copies without a consumed entry; R334; reset none. -/
  inFlight : List Copy := []
  /-- The slice core is out of RUN by a reset, since a ns of RAW_T; R499; reset none. -/
  inReset : Option Nat := none
  /-- ns of RAW_T at which the 1 ms periods of the rate-limited events began: overrun, DELAY_ALARM, GATE_BLOCK; R41, R291, R311; reset none. -/
  overrunAt : Option Nat := none
  alarmAt : Option Nat := none
  gateBlockAt : Option Nat := none
  /-- Frames held in the reorder store: frame id, flow; R331; reset none. -/
  reorder : List (Nat × Nat) := []
  /-- UNMIRRORED; R340; reset 0. -/
  unmirrored : Nat := 0
  /-- Flow-store banks with a detected fault; R321, R340; reset none. -/
  badFlowBanks : List Nat := []
  /-- The slice is isolated (R496, ISOLATE). Reset none. -/
  isolated : Bool := false
deriving DecidableEq, Repr

/-- A stored line of a match table (R201, R204). -/
structure Entry where
  handle : Nat
  vis : Nat
  /-- The set that staged this copy or its deletion; 0 none (R104, R113). -/
  staged : Nat := 0
  key : List Byte
  mask : List Byte
  prefixLen : Nat
  prio : Nat
  ranges : List Nat
  index : Nat
  next : Nat
  result : List Byte
  /-- Order of writing (R201). -/
  order : Nat
deriving DecidableEq, Repr

/-- A match table (R201, R203). -/
structure Table where
  kind : Nat
  clusters : Nat
  keyBytes : Nat
  indexBits : Nat
  fieldOff : Nat
  fieldBytes : Nat
  slotBytes : Nat
  banks : Nat
  guaranteed : Nat
  entries : List Entry := []
  /-- Staged changes that found no free slot (R206): set, entry. -/
  heldBack : List (Nat × Entry) := []
  /-- Entries whose line was lost at a relocation, as (cluster, handle) (R497). -/
  lost : List (Nat × Nat) := []
deriving DecidableEq, Repr

/-- A MAC entry (R259). -/
structure MacEntry where
  fid : Nat
  mac : Nat
  target : Nat
  mcast : Bool
  static : Bool
  dsa : Bool
  dda : Bool
  vis : Nat := 3
  staged : Nat := 0
  /-- Slot index (MAC_DUMP). -/
  slot : Nat
  active : Bool := false
  age : Nat := 0
  /-- Frozen until this ns of RAW_T (R261). -/
  frozen : Option Nat := none
  /-- ns of RAW_T of its moves within the last second (R261). -/
  moves : List Nat := []
  /-- Clusters in which its line was lost at a relocation (R497). -/
  lost : List Nat := []
  /-- The learn events issued so far when the arbiter created it (R260). -/
  learnedAt : Nat := 0
deriving DecidableEq, Repr

/-- A learn event (R260), or a flush that passes the arbiter (R264). -/
structure LearnEv where
  slice : Nat
  fid : Nat
  mac : Nat
  target : Nat
  port : Nat
  /-- How many events had been issued before it. -/
  seq : Nat
deriving DecidableEq, Repr

/-- A staged change of a flow's key entries (R104, R113): the set, and the flow as inserted, none for a delete. The entry in force then shows only the
parity in force; the inserted one shows only the other. -/
structure FlowKey where
  set : Nat
  ins : Option FlowCfg
deriving DecidableEq, Repr

/-- Match tables, MAC table and learning (06, 08). -/
structure Tables where
  /-- Match tables by TABLE_ID; R201; reset none. -/
  tables : KMap Nat Table := []
  /-- The MAC table; R259; reset empty. -/
  mac : List MacEntry := []
  /-- Key entries of table 0x0200 that a set has staged, by flow; R104, R113; reset none. -/
  flowKeys : KMap Nat FlowKey := []
  /-- The learn arbiter's queue, at most 4 096 events; R260; reset empty. -/
  learn : List LearnEv := []
  /-- Learn events issued so far; R260; reset 0. -/
  learnSeq : Nat := 0
  /-- Last scan of the MAC table, ns of RAW_T, and when the first one falls; R263; reset 0. -/
  lastScan : Nat := 0
  /-- When LEARN_OVERFLOW was last raised; R260; reset none. -/
  overflowAt : Option Nat := none
  /-- Buckets of each LAG: member port per bucket; R268, R269; reset none. -/
  buckets : KMap Nat (List Nat) := []
  /-- A cluster bank whose relocation runs, and the tables it touches (0x0100 the MAC table); R497; reset none. -/
  relocating : KMap Nat Nat := []
  /-- Owner of a cluster bank at cluster × 64 + bank, where it differs from cold boot: a TABLE_ID, 0 free; R203, R259; reset: the MAC table (0x0100)
  holds the lowest-numbered banks of each cluster (DESIGN CHOICE, log 40), the others are free. -/
  place : KMap Nat Nat := []
deriving DecidableEq, Repr

/-- A host pool's buffer (R252). -/
structure PoolBuf where
  owner : Nat
  shares : Nat
deriving DecidableEq, Repr

/-- A host pool (R252). -/
structure Pool where
  bufLog2 : Nat
  count : Nat
  base : Nat
  /-- Buffers that are not FREE. -/
  bufs : KMap Nat PoolBuf := []
  /-- The cache of free indices, at most 64, in the order in which they are taken; R254; none at creation (every index is on the free ring). -/
  cache : List Nat := []
  /-- The requester ID served last in the pool's present round; R255; 0 at creation. -/
  roundLast : Nat := 0
  /-- The ALLOCs granted in that round, at most 4; R254; 0 at creation. -/
  roundAllocs : Nat := 0
deriving DecidableEq, Repr

/-- The packet buffer and the pool manager (R242 to R256). -/
structure Buffer where
  /-- Cells in use, by cell address; R251; reset none (every cell free). -/
  used : List Nat := []
  /-- Free cells in each bank's cache, at most 32, in the order in which they are taken; R251; reset none (every cell is on its free ring). -/
  cache : KMap Nat (List Nat) := []
  /-- Bytes of cells in use; R243; reset none. -/
  cells : KMap Nat (List Byte) := []
  /-- Banks isolated or stopped for allocation; R245; reset none. -/
  stopped : List Nat := []
  /-- Banks isolated; R496; reset none. -/
  isolated : List Nat := []
  /-- Cells of a faulty bank that wait for its restoration; R245; reset none. -/
  parked : List Nat := []
  /-- Bad cells found; R245, R328; reset none. -/
  badCells : List Nat := []
  /-- SHARED_IN_USE; R246; reset 0. -/
  sharedInUse : Nat := 0
  /-- SHARED_CELLS as last computed; R246; reset per configuration. -/
  sharedCells : Nat := 1040384
  /-- SHARED_USED per queue (0xFFFF_FFFF the multicast account); R247; reset 0. -/
  sharedUsed : KMap Nat Nat := []
  /-- MIN_USED per flow; R247; reset 0. -/
  minUsed : KMap Nat Nat := []
  /-- Shared cells per flow (BUF_STATUS SCOPE 4); R247; reset 0. -/
  flowShared : KMap Nat Nat := []
  /-- Admitted frames by frame number; R25; reset none. -/
  frames : KMap Nat Stored := []
  /-- Next frame number; the model's own; reset 0. -/
  nextFrame : Nat := 0
  /-- Host pools; R252; reset none. -/
  pools : KMap Nat Pool := []
  /-- When POOL_EMPTY was last raised; R254; reset none. -/
  emptyAt : Option Nat := none
deriving DecidableEq, Repr

/-- Token or credit state of a shaper or policer: tokens in 1/16 byte (credit in 1/256 byte), and the TIME base of the last update. -/
structure Tokens where
  c : Int
  p : Int
  /-- When they stood so, 1/16 ns of RAW_T. -/
  last : Nat
deriving DecidableEq, Repr

/-- Statistics of a queue (R290). -/
structure QStat where
  maxDepth : Nat := 0
  maxSojourn : Nat := 0
  lastSojourn : Nat := 0
  /-- MAX_SOJOURN_NS of the current sample interval (R295). -/
  intervalMax : Nat := 0
deriving DecidableEq, Repr

/-- Traffic manager (09). -/
structure Tm where
  /-- Copies per queue ID; R271, R276; reset none. -/
  queues : KMap Nat (List Copy) := []
  /-- Statistics per queue ID; R290; reset 0. -/
  stat : KMap Nat QStat := []
  /-- Deficits D at port × 24 + q (queue) or port × 24 + 16 + node; R279; reset 0. -/
  deficit : KMap Nat Nat := []
  /-- DRR pointers, at (port × 9 + node, or port × 9 + 8 for the port) × 256 + PRIO: one for each group of equal PRIO; R279; reset 0. -/
  pointer : KMap Nat Nat := []
  /-- Shaper tokens, keys as the shapers; R283, R284; reset none. -/
  tokens : KMap Nat Tokens := []
  /-- Policer buckets, keys as the policers; R287; reset none. -/
  polTokens : KMap Nat Tokens := []
  /-- Blocked stream filters; R289; reset none. -/
  blocked : List Nat := []
  /-- Releases so far, which orders released copies; R334; reset 0. -/
  releases : Nat := 0
  /-- TIME in ns up to which each port has taken its sample instants; R291; reset none. -/
  sampled : KMap Nat Int := []
deriving DecidableEq, Repr

/-- Runtime of a port's gate list (10). -/
structure GateRt where
  /-- The list in force, and its START in ns of TIME; R305; reset none. -/
  run : Option (GateList × Int) := none
  /-- A list that waits for its START; R305, R316; reset none. -/
  next : Option (GateList × Int) := none
  /-- The waiting list came with a flip; R316, R317; reset 0. -/
  flipWait : Bool := false
  /-- HOLD asserted; R313; reset 0. -/
  hold : Bool := false
  /-- The entry in force; R303; reset 0. -/
  entry : Nat := 0
  /-- What `run` and `next` were before each change, newest first, with the TIME in 1/16 ns until which they were; R289; reset none. -/
  past : List (Int × Option (GateList × Int) × Option (GateList × Int)) := []
deriving DecidableEq, Repr

/-- Runtime of a flow's home context (R322, R325, R338). -/
structure FlowRt where
  /-- GEN_SEQ, 16 bits; R325; reset 0 at FLOW_ADD. -/
  genSeq : BitVec 16 := 0
  /-- MIRRORED bit; R320; as FLOW_ADD. -/
  mirrored : Bool := false
  /-- Latched event causes, 5 bits; R338; reset 0. -/
  events : Nat := 0
deriving DecidableEq, Repr

/-- A recovery context (R322, R330). -/
structure RecCtx where
  takeAny : Bool := true
  recSeq : BitVec 16 := 0
  ahead : BitVec 64 := 0
  past : BitVec 64 := 0
  gapSince : Nat := 0
  rogueRun : Nat := 0
  /-- Held frames: number and frame. -/
  held : List (Nat × Nat) := []
deriving DecidableEq, Repr

/-- An entry of a node's duplicate table (R343): source, its window of numbers, last use. -/
structure DupEntry where
  sa : Nat
  top : BitVec 16
  window : BitVec 64
  lastNs : Nat
deriving DecidableEq, Repr

/-- Flow store and guarded delivery (11). -/
structure Flows where
  /-- Home contexts by flow ID; R322; reset none. -/
  rt : KMap Nat FlowRt := []
  /-- Recovery contexts at (flow, slice); R322; reset none. -/
  recs : KMap (Nat × Nat) RecCtx := []
  /-- FLOW_EVENT: when last raised, and whether a newly latched cause waits; R338; reset none. -/
  eventAt : Option Nat := none
  /-- Send counters of the redundancy nodes, 16 bits; R341; reset 0 (DESIGN CHOICE, log 3). -/
  send : KMap Nat (BitVec 16) := []
  /-- Duplicate tables of the redundancy nodes, most recently used last, at most 4 096 entries; R341; reset empty. -/
  dup : KMap Nat (List DupEntry) := []
deriving DecidableEq, Repr

/-- A Foxtrot ring (R292, R294). -/
structure Foxtrot where
  vector : Nat
  size : Nat
  base : Nat
  consAddr : Nat
  coalesce : Nat
  coalUs : Nat
  /-- Producer index with wrap: index + size × wrap. -/
  prod : Nat := 0
  /-- Consumer index with wrap as last read. -/
  cons : Nat := 0
  /-- PHASE of the lap. -/
  phase : Bool := true
  /-- Records waiting in the slices' capture FIFOs for this ring, in producer order: slice and bytes. -/
  fifo : List (Nat × List Byte) := []
  /-- Records written since the last raise, and the ns of RAW_T of the first of them. -/
  since : Nat := 0
  sinceAt : Nat := 0
  /-- When the producer last read CONS_ADDR in the present spell of a full ring, ns of RAW_T; R293. -/
  lastPoll : Option Nat := none
  running : Bool := true
deriving DecidableEq, Repr

/-- Foxtrot and capture (09). -/
structure Capture where
  /-- Rings set up; R292; reset none. -/
  rings : KMap Nat Foxtrot := []
  /-- Matches of each rule per slice, at slice × 64 + rule; R297; reset 0. -/
  matched : KMap Nat Nat := []
  /-- Records in each slice's capture FIFO, at most 64; R298; reset 0. -/
  fifo : KMap Nat Nat := []
deriving DecidableEq, Repr

/-- A loaded Ezette image (R234, R237). -/
structure Image where
  kinds : Nat
  maxGrowth : Nat
  counts : List Nat
  /-- Key declarations: USED and DIGEST of each key port. -/
  keyDecl : List (Bool × Nat)
  bundles : List Byte
  engines : List Nat
  /-- The first index of its run of bundles in the memory of stage p of engine g, by 16·g + p; R237. -/
  base : KMap Nat Nat := []
deriving DecidableEq, Repr

/-- Runtime of an engine (07). -/
structure EngineRt where
  /-- In reset since a ns of RAW_T; R240; reset none. -/
  resetAt : Option Nat := none
  /-- ENGINE_RESET owes its response; ENGINE_RESET; reset none. -/
  owed : Option Env := none
  /-- Isolated; R498; reset 0. -/
  isolated : Bool := false
  /-- LAST_FAULT; ENGINE_STATUS; reset 0. -/
  lastFault : Nat := 0
  /-- RESET_COUNT, saturating; ENGINE_STATUS; reset 0. -/
  resets : Nat := 0
  /-- Scratch words that are not 0; R216; reset 0. -/
  scratch : KMap Nat Word := []
  /-- ns of RAW_T of the resets that R498 counts; reset none. -/
  faultTimes : List Nat := []
deriving DecidableEq, Repr

/-- The engines (07). -/
structure Engines where
  /-- Loaded images by LOAD_ID; R236; reset none. -/
  images : KMap Nat Image := []
  /-- Engine runtimes by global number; R22; reset as EngineRt. -/
  rt : KMap Nat EngineRt := []
deriving DecidableEq, Repr

/-- A timer (R178). -/
structure Timer where
  mode : Nat
  target : Nat
  period : Nat
  /-- A tick has reached or skipped the target, and the firing is owed (R159, R160). -/
  hit : Bool := false
deriving DecidableEq, Repr

/-- A snapshot slot (R158). -/
structure Snap where
  /-- TIME in 2^-16 ns, RAW_T in 2^-16 ns, TIME_VALID. -/
  time : Nat := 0
  raw : Nat := 0
  valid : Bool := false
deriving DecidableEq, Repr

/-- What the firmware servo has taken from a port and not yet used (R169, R174): a PTP event message with its stamp. -/
structure ServoMsg where
  port : Nat
  transmit : Bool
  stamp : Nat
  data : List Byte
  /-- The servo ran a boundary clock then (R175). -/
  boundary : Bool
deriving DecidableEq, Repr

/-- The time unit (05). -/
structure TimeUnit where
  /-- RAW_T, 64.16 bits; R147, R149; OTD power-on 0. -/
  raw : BitVec 80 := 0
  /-- What RAW_T had counted before it was last set to 0, 2^-16 ns: the block's own timers run on over an OTD power-on; the model's own; reset 0 (DESIGN
  CHOICE, log 106). -/
  base : Nat := 0
  /-- CORR, signed 64.32 bits; R147, R149; OTD power-on 0. -/
  corr : BitVec 96 := 0
  /-- OFFSET, signed 64.16 bits; R147, R149; OTD power-on 0. -/
  offset : BitVec 80 := 0
  /-- DISC_INC, 8.32 bits; R147, R149; OTD power-on NOM_INC. -/
  discInc : BitVec 40 := 0
  /-- A DISC_INC that takes effect at the next tick; R148; reset none. -/
  incNext : Option (BitVec 40) := none
  /-- A step that takes effect at the next tick: amount, VALID, INVALIDATE; R148; reset none. -/
  stepNext : Option (Int × Bool × Bool) := none
  /-- Steps that take effect at the next tick; R157; reset 0. -/
  stepsNext : Nat := 0
  /-- TIME_VALID; R149; OTD power-on 0. -/
  valid : Bool := false
  /-- CONT_UNCERTAIN; R151; OTD power-on 0. -/
  uncertain : Bool := false
  /-- STEP_COUNT, 16 bits; R157; OTD power-on 0. -/
  stepCount : BitVec 16 := 0
  /-- The time receivers of the slices that differ from TIME: local TIME at the last bus word, and the difference absorbed over the tick that runs, both
  in 2^-40 ns; R152, R153; reset none (they show TIME). -/
  recv : KMap Nat (Int × Int) := []
  /-- INC_S, 2^-40 ns per slice clock; R152; reset that of NOM_INC. -/
  incS : Nat := 0
  /-- OWL ticks so far, by which the slice clocks of a tick are counted; R153; the model's own; reset 0. -/
  ticks : Nat := 0
  /-- The last step of TIME: when it took effect, 2^-16 ns of RAW_T, and by how much, 1/16 ns; R154; reset none. -/
  stepped : Option (Nat × Int) := none
  /-- DISCONT_COUNT, 16 bits; R149, R157; kept, counts OTD power-ons; reset 1. -/
  discont : BitVec 16 := 1
  /-- TIME of the tick before, in 2^-16 ns, by which comparators see what a tick passed; R159, R160; reset 0. -/
  prev : Int := 0
  /-- Snapshot slots; R157; reset 0. -/
  snaps : KMap Nat Snap := []
  /-- PPS_NS, PPS_FRAC: stamp of the last PPS_IN edge in 2^-16 ns; R157; reset 0. -/
  ppsIn : Nat := 0
  /-- PPS_VALID; R157; reset 0. -/
  ppsValid : Bool := false
  /-- PPS_SEQ, 8 bits; R157; reset 0. -/
  ppsSeq : BitVec 8 := 0
  /-- PPS_GLITCH, 16 bits, saturating; R157; reset 0. -/
  ppsGlitch : Nat := 0
  /-- The last PPS_IN edge, ns of RAW_T in 1/16 ns; R70; reset none. -/
  ppsEdge : Option Nat := none
  /-- IN_ENABLE, OUT_ENABLE; R504; reset 0. -/
  ppsInEn : Bool := false
  ppsOutEn : Bool := false
  /-- WIDTH_US; R504; reset 100 000. -/
  ppsWidth : Nat := 100000
  /-- PPS_OUT's level, with the ns of RAW_T at which the pulse ends; R69; reset 0. -/
  ppsOut : Option Nat := none
  /-- The last whole second for which PPS_OUT rose; R176; reset none. -/
  ppsLast : Option Nat := none
  /-- SYNT_CFG MODE; R504; reset 0. -/
  syntMode : Nat := 0
  /-- SYNT_CFG VALUE; R177; reset 0. -/
  syntValue : Int := 0
  /-- SYNT_CTRL, 32 bits; R71; reset 0. -/
  synt : BitVec 32 := 0
  /-- The word that the firmware servo last asked for, which MODE 2 drives; R177; reset 0 (DESIGN CHOICE, log 3). -/
  syntServo : Int := 0
  /-- SYNT_STB; R71; reset 0. -/
  syntStb : Bool := false
  /-- Timers that run; R178; reset all off. -/
  timers : KMap Nat Timer := []
  /-- The clock-level PTP fields of the most recent ROLE 4 PTP_PORT_CFG; R175; reset none. -/
  servo : Option PtpCfg := none
  /-- The firmware servo is locked to a reference; R150, R157; reset 0. -/
  lock : Bool := false
  /-- When the servo last had a usable reference, ns of RAW_T; R150; reset 0. -/
  refAt : Nat := 0
  /-- Event messages and stamps that the servo holds, oldest first; R169, R174; reset none. -/
  inbox : List ServoMsg := []
  /-- Slices whose time receiver is in fault; R493; reset none. -/
  skewed : List Nat := []
  /-- When the last 1 ms calibration and thermal evaluations were, ns of RAW_T; R163, R118; reset 0. -/
  calEval : Nat := 0
  thermEval : Nat := 0
  /-- Since when every sensor has stayed below THERM_LIMIT - THERM_HYST; R81; reset none. -/
  coolSince : Option Nat := none
deriving DecidableEq, Repr

end Sys2Proof.Machine
end

