-- ==== Sys2Proof/Machine/Types/Host.lean ====
section
/-! DEFINITION. State of the host queue engine (14). A field's note ends with its rule and reset value. -/

namespace Sys2Proof.Machine

/-- States of a submission queue (R426). PAUSED is ENABLED with no place free (R420) and is computed. -/
inductive QueueSt where
  | disabled | enabled | error
deriving DecidableEq, Repr

/-- Kinds of a decoded work entry (R411, R412). -/
inductive WorkKind where
  | tx | rxPost | poolOp | nop | admin
deriving DecidableEq, Repr

/-- An accepted or fetched entry (R411): its fields, the frame data read for it, and its position. -/
structure Work where
  pos : Nat
  kind : WorkKind
  addr : Nat
  len : Nat
  flags : Nat
  subop : Nat
  refStamp : Nat
  poolId : Nat
  shareN : Nat
  bufIndex : Nat
  newOwner : Nat
  tag : Nat
  data : List Byte
  /-- The entry's reads ended in a bus error (R414). -/
  busErr : Bool
  /-- The result: a status once the entry is complete (R419), with DETAIL and what the completion carries. -/
  result : Option Nat := none
  detail : Nat := 0
  stamp : Nat := 0
  outLen : Nat := 0
  outIndex : Nat := 0
  hash : Nat := 0
  rxFlags : Nat := 0
  tci : Nat := 0
  port : Nat := 0
  /-- The command's 32-bit TAG of an admin entry (R417). -/
  tag32 : Nat := 0
  /-- The frame has left staging (R431). -/
  left : Bool := false
  /-- CSUM_SKIPPED (R432). -/
  skipped : Bool := false
  /-- The completion has been issued, and HPI has acknowledged it (R415, R423). -/
  issued : Bool := false
  /-- The copy that this buffer took, as frame and delivery group: the acknowledgement is its report of R28 (R435). -/
  doneFor : Option (Nat × Nat) := none
  /-- Malformed reason of a fetched entry, 0 none (R424). -/
  bad : Nat := 0
  /-- The command of an admin entry: opcode and envelope (R91). -/
  cmd : Option (Nat × Env) := none
  /-- How many entries its queue had accepted before it. -/
  num : Nat := 0
deriving DecidableEq, Repr

/-- A submission queue (R403, R407, R426). -/
structure SubQ where
  gen : Nat
  rx : Bool
  hostPort : Nat
  size : Nat
  base : Nat
  headWb : Nat
  /-- Completion ring (Gen-2) or vector (Gen-1). -/
  cq : Nat
  vector : Nat
  coalesce : Nat
  coalUs : Nat
  pool : Nat
  maxRx : Nat
  rxWait : Nat
  st : QueueSt := .disabled
  /-- Positions mod 2N: published head, recorded tail (R407). -/
  head : Nat := 0
  tail : Nat := 0
  /-- Entries accepted since creation; as many at the last head word written, and at the last one acknowledged; R415; reset 0. -/
  accepted : Nat := 0
  wbN : Nat := 0
  ackN : Nat := 0
  /-- Head words written and not acknowledged, oldest first, by that number; R415; reset none. -/
  wbOpens : List Nat := []
  /-- When the head word was last written, ns of RAW_T; R415; reset 0. -/
  wbAt : Nat := 0
  /-- STATE changed since the last head word (R415). -/
  wbState : Bool := false
  reason : Nat := 0
  errIndex : Nat := 0
  /-- The position whose PHASE mismatched once and is read again after 1 µs (R410). -/
  phaseWait : Option Nat := none
  /-- No entry beyond the tail is fetched before a doorbell moves it: one had the wrong PHASE (R410), or the queue has been enabled (R428). -/
  specMiss : Bool := false
  phaseAt : Nat := 0
  /-- Entries fetched and not yet accepted, in ring order (R410). -/
  fetched : List Work := []
  /-- Accepted entries without an acknowledged completion, in ring order (R414). -/
  works : List Work := []
  /-- Completions since the last raise of a Gen-1 ring, and when the first came (R422). -/
  since : Nat := 0
  sinceAt : Nat := 0
deriving DecidableEq, Repr

/-- A completion that waits in a ring's backlog, or is written and not acknowledged (R420, R423). -/
structure Cqe where
  queue : Nat
  pos : Nat
  bytes : List Byte
deriving DecidableEq, Repr

/-- A completion ring (R403, R420). -/
structure CompQ where
  size : Nat
  base : Nat
  vector : Nat
  coalesce : Nat
  coalUs : Nat
  enabled : Bool := true
  /-- Producer and consumer position mod 2N. -/
  prod : Nat := 0
  cons : Nat := 0
  /-- Reservations held. -/
  held : Nat := 0
  backlog : List Cqe := []
  since : Nat := 0
  sinceAt : Nat := 0
deriving DecidableEq, Repr

/-- A written completion that HPI has not acknowledged (R423): its queue, position, address and bytes. -/
structure OpenCqe where
  queue : Nat
  pos : Nat
  addr : Nat
  bytes : List Byte
deriving DecidableEq, Repr

/-- The host queue engine (14). -/
structure HostQ where
  /-- Submission queues by number; R403; reset none but what R90 reserves. -/
  sq : KMap Nat SubQ := []
  /-- Completion rings by number; R403; reset none. -/
  cq : KMap Nat CompQ := []
  /-- Completions issued and not acknowledged; R423; reset none. -/
  open' : List OpenCqe := []
  /-- Host ports' round robin among their transmit queues: the queue served last; R431; reset none. -/
  lastTx : KMap Nat Nat := []
  /-- When HQ_BACKLOG was last raised; R420; reset none. -/
  backlogAt : Option Nat := none
  /-- Copies that wait at the head of a host-port queue since a ns of RAW_T; R435; reset none. -/
  rxWaitAt : KMap Nat Nat := []
deriving DecidableEq, Repr

end Sys2Proof.Machine
end

