-- ==== Sys2Proof/Machine/Types/Irq.lean ====
section
/-! DEFINITION. State of the DMA channels, the slice event controllers and the interrupt distributor (15). A field's note ends with its rule and reset value. -/

namespace Sys2Proof.Machine

/-- STATE of a DMA channel (R438). -/
inductive DmaState where
  | idle | busy | halted | aborting
deriving DecidableEq, Repr

/-- One set of transfer registers, shadow or active (R438). -/
structure DmaSet where
  /-- SRC, 64 bits; R438; reset 0. -/
  src : Nat := 0
  /-- DST, 64 bits; R438; reset 0. -/
  dst : Nat := 0
  /-- LEN, 32 bits; R438; reset 0. -/
  len : Nat := 0
  /-- FLAGS IRQ_HALF, IRQ_FULL and BARRIER, 3 bits; R438; reset 0. -/
  flags : BitVec 3 := 0
deriving DecidableEq, Repr

/-- One DMA channel (R438). -/
structure DmaCh where
  /-- The shadow set; R438; reset 0. -/
  shadow : DmaSet := {}
  /-- The active set; R438; reset 0. -/
  active : DmaSet := {}
  /-- STATE, 2 bits; R438; reset IDLE. -/
  st : DmaState := .idle
  /-- SHADOW_VALID, 1 bit; R438; reset 0. -/
  shadowValid : Bool := false
  /-- CH_CAUSE: HALF, FULL, HALT, GO_LOST, SHADOW_LOST, ABORTED from bit 0, 6 bits; R438; reset 0. -/
  cause : BitVec 6 := 0
  /-- RETRY_MAX, 3 bits; R438; reset 3. -/
  retryMax : Nat := 3
  /-- HALT_KIND, 3 bits; R438; reset 0. -/
  haltKind : Nat := 0
  /-- HPI_STATUS, 2 bits; R438; reset 0. -/
  hpiStatus : Nat := 0
  /-- ERR_ADDR, 64 bits; R438; reset 0. -/
  errAddr : Nat := 0
  /-- BYTES_DONE, 32 bits; R438; reset 0. -/
  bytesDone : Nat := 0
  /-- DONE_COUNT, 32 bits; R438; reset 0. -/
  doneCount : BitVec 32 := 0
  /-- Bytes of the active transfer acknowledged (R446); R441; reset 0. -/
  acked : Nat := 0
  /-- Whether HALF of the active transfer was reached; R441; reset 0. -/
  halfSeen : Bool := false
  /-- Bytes of the source read so far; R440; reset 0. -/
  readPos : Nat := 0
  /-- Write bursts issued and not answered: start address and bytes; R440, R444; reset none. -/
  writes : KMap Nat (List Byte) := []
  /-- The same of transfers that are over: without BARRIER a transfer does not wait for its writes' answers; R441; reset none. -/
  oldWrites : List (Nat × List Byte) := []
  /-- Failed attempts of each burst that failed and waits for its retry, keyed by its start address; R444; reset none. -/
  tries : KMap Nat Nat := []
deriving DecidableEq, Repr

/-- SRC_CFG of one shared source (R453). -/
structure SrcCfg where
  /-- PRIORITY, 8 bits; R453; reset 0x80. -/
  prio : Nat := 0x80
  /-- TARGET, 6 bits; R453; reset 0. -/
  target : Nat := 0
  /-- FALLBACK, 6 bits; R453; reset 0. -/
  fallback : Nat := 0
deriving DecidableEq, Repr

/-- One entry of a target's running-priority stack: the claimed source and its group at the claim (R457). -/
structure RunEntry where
  id : Nat
  group : Nat
deriving DecidableEq, Repr

/-- One host target (R454, R462). -/
structure Target where
  /-- ENABLE, 1 bit; R454; reset 0. -/
  enable : Bool := false
  /-- MODE, 1 bit, true for message writes; R454; reset 0. -/
  mode : Bool := false
  /-- BP, 3 bits; R454; reset 0. -/
  bp : Nat := 0
  /-- PRIO_MASK, 8 bits; R454; reset 0xFF. -/
  prioMask : Nat := 0xFF
  /-- The stack, top first, at most 8 entries (RUNNING and DEPTH read it); R454; reset empty. -/
  stack : List RunEntry := []
  /-- WAKE_WAIT, 16 bits, µs; R454; reset 50. -/
  wakeWait : Nat := 50
  /-- MSG_ADDR, 64 bits; R454; reset 0. -/
  msgAddr : Nat := 0
  /-- MSG_DATA, 32 bits; R454; reset 0. -/
  msgData : Nat := 0
  /-- SPURIOUS_COUNT, 16 bits; R454; reset 0. -/
  spurious : Nat := 0
  /-- EOI_ERR_COUNT, 8 bits; R454; reset 0. -/
  eoiErr : Nat := 0
  /-- FALLBACK_COUNT, 8 bits; R454; reset 0. -/
  fallbacks : Nat := 0
  /-- PRIV_PEND, 32 bits; R454; reset 0. -/
  privPend : BitVec 32 := 0
  /-- PRIV_EN, 32 bits; R454; reset 0. -/
  privEn : BitVec 32 := 0
  /-- PRIV_ACTIVE, 32 bits; R454; reset 0. -/
  privActive : BitVec 32 := 0
  /-- PRIV_PRIO, 32 × 8 bits, where it differs from 0x80; R454; reset 0x80 each. -/
  privPrio : KMap Nat Nat := []
  /-- TGT_AWAKE[n], the pin's level, 1 bit; R61; reset 1 (DESIGN CHOICE, log 3: the pin's level is the integrator's). -/
  awake : Bool := true
  /-- Whether the target was offered a source at the last edge, 1 bit; R456; reset 0. -/
  offered : Bool := false
  /-- Whether a message write has been issued that a bus error may end, 1 bit; R456; reset 0. -/
  msgOpen : Bool := false
deriving DecidableEq, Repr

/-- One slice cause of the event port: slice and cause bit (R448). -/
structure SliceCauseId where
  slice : Nat
  bit : Nat
deriving DecidableEq, Repr

/-- The interrupt logic (R447 to R463). -/
structure Irq where
  /-- Distributor ENABLE, 1 bit; R452; reset 0. -/
  enable : Bool := false
  /-- PEND: shared sources pending, rising order, no repeats (4096 bits); R452; reset none. -/
  pend : List Nat := []
  /-- EN: unmasked shared sources, 4096 bits; R452; reset 0. -/
  en : BitVec 4096 := 0
  /-- ACTIVE: shared sources active (4096 bits); R452; reset none. -/
  active : List Nat := []
  /-- DIVERTED: shared sources diverted (4096 bits); R452; reset none. -/
  diverted : List Nat := []
  /-- SRC_CFG words that differ from reset; R453; reset 0x80, 0, 0 each. -/
  cfg : KMap Nat SrcCfg := []
  /-- The 64 targets, where they differ from reset; R454; reset as each field says. -/
  tgt : KMap Nat Target := []
  /-- Sources that wait for an asleep target with their WAKE_WAIT running: source and its start in ns of RAW_T; R460; reset none. -/
  waits : KMap Nat Nat := []
  /-- Owl latches of sources 0 to 191 that hold an edge; R463; reset none. -/
  latched : List Nat := []
  /-- SLICE_CAUSE words, 32 bits each; R447; reset 0. -/
  sliceCause : KMap Nat (BitVec 32) := []
  /-- SLICE_LINK words, 32 bits each; R447; reset 0. -/
  sliceLink : KMap Nat (BitVec 32) := []
  /-- Causes pending at the event port; R448; reset none. -/
  evPend : List SliceCauseId := []
  /-- The event port's stack of causes taken, top first, at most 16; R448; reset empty. -/
  evStack : List SliceCauseId := []
  /-- ALARM_QUEUE per slice; R291, R447; reset 0. -/
  alarmQueue : KMap Nat Nat := []
deriving DecidableEq, Repr

end Sys2Proof.Machine
end

