-- ==== Sys2Proof/Machine/Types/Otd.lean ====
section
/-! DEFINITION. State of Otdiuri, but for the time counters (13). A field's note ends with its rule and reset value; "reset" here is OTD power-on. -/

namespace Sys2Proof.Machine

/-- Seal states (R378). -/
inductive SealSt where
  | isUnsealed | isSealed | isBroken
deriving DecidableEq, Repr

/-- An entry of the flow map or a port default (R388). -/
structure MapEntry where
  rxAccount : Nat
  txAccount : Nat
  rxBill : Bool
  txBill : Bool
deriving DecidableEq, Repr

/-- The map and the port defaults (R388, R389). -/
structure OMap where
  flows : KMap Nat MapEntry := []
  ports : KMap Nat MapEntry := []
deriving DecidableEq, Repr

/-- Counts of an account in the open interval (R395). -/
structure Account where
  rxFrames : Nat := 0
  rxBytes : Nat := 0
  txFrames : Nat := 0
  txBytes : Nat := 0
  rxErr : Nat := 0
  txErr : Nat := 0
deriving DecidableEq, Repr

/-- Interval counts that belong to no account (R388, R391, R395). -/
structure IntervalSum where
  unRxFrames : Nat := 0
  unRxBytes : Nat := 0
  unTxFrames : Nat := 0
  unTxBytes : Nat := 0
  spillRx : Nat := 0
  spillTx : Nat := 0
deriving DecidableEq, Repr

/-- A log entry (R397). -/
structure LogEntry where
  seq : Nat
  code : Nat
  source : Nat
  discont : Nat
  rawNs : Nat
  timeNs : Int
  detail : Nat
  tag : List Byte
deriving DecidableEq, Repr

/-- The record ring (R393). -/
structure ORing where
  vector : Nat
  size : Nat
  base : Nat
  /-- Producer index with wrap, 0 to 2 × size - 1. -/
  prod : Nat := 0
  /-- VALID = 0 was given while a record was being written: the ring ends after it. -/
  stopping : Bool := false
deriving DecidableEq, Repr

/-- A record that waits: its 128 bytes with PHASE 0, and whether it is the summary record that ends its interval (R394, R395). -/
structure ORec where
  bytes : List Byte
  last : Bool
deriving DecidableEq, Repr

/-- The record write in progress (R393): whether it is that of bytes 0 to 63, and when it was issued, ns of RAW_T. -/
structure OWrite where
  second : Bool := false
  at' : Nat := 0
deriving DecidableEq, Repr

/-- A summary that a tap holds (R390, R391): its key (outcome class 0 good, 1 errored, 2 MAC control; the spill counters of a port and direction have a
key of their own), the frames and bytes coalesced into it, whether it waits in the flush queue, and whether its events belong to an interval whose boundary
has passed. -/
structure TapHeld where
  key : TapSummary
  frames : Nat
  bytes : Nat
  queued : Bool := false
  old : Bool := false
deriving DecidableEq, Repr

/-- A boundary that waits for its taps (R390): when it fell, ns of RAW_T; RAW_T and TIME of its tick, 2^-16 ns; and what the interval saw up to it. -/
structure Closing where
  at' : Nat
  raw : Nat
  time : Int
  invalid : Bool
  uncertain : Bool
deriving DecidableEq, Repr

/-- Steps of the start (R376). -/
inductive OStart where
  | off | romCheck | keyRead | ready | romFailed
deriving DecidableEq, Repr

/-- Otdiuri (13). -/
structure Otd where
  /-- Start step; R376; State.reset stands after a finished start (DESIGN CHOICE, log 4). -/
  start : OStart := .ready
  /-- OCMD, 256 bytes where they differ from 0; R400; reset 0 (DESIGN CHOICE, log 3). -/
  ocmd : List Host.Cell := []
  /-- ORSP; R400; reset none, reading 0 (DESIGN CHOICE, log 3). -/
  orsp : Option Response := none
  /-- OMB BUSY; R400; reset 0. -/
  busy : Bool := false
  /-- OMB DONE; R400; reset 0. -/
  done : Bool := false
  /-- OMB GO_LOST; R400; reset 0. -/
  goLost : Bool := false
  /-- OMB_LAST_TAG; R400; reset 0. -/
  lastTag : Word := 0
  /-- OCMD is locked from an accepted GO until ACK; R400; reset 0. -/
  locked : Bool := false
  /-- Key words read so far, word 0 first; R73; reset none. -/
  keyWords : List Word := []
  /-- The 256-bit key; R73; reset absent (DESIGN CHOICE, log 4). -/
  key : Option (List Byte) := none
  /-- OTD_KEY_REQ with OTD_KEY_ADDR; R72; reset none. -/
  keyReq : Option Nat := none
  /-- OTD_SEAL_IN debounced (SWITCH); R74; reset 1 (DESIGN CHOICE, log 3: pin). -/
  switch : Bool := true
  /-- Seal state; R376; reset UNSEALED. -/
  sealSt : SealSt := .isUnsealed
  /-- Cells of the power-on counter written; R375; reset 1 (DESIGN CHOICE, log 4: the first power-on). -/
  cells : Nat := 1
  /-- The seal ledger: 1 SEALED, 2 UNSEALED, 3 BROKEN, oldest first; R375; reset empty (DESIGN CHOICE, log 4). -/
  ledger : List Nat := []
  /-- METER_ID of the last seal; R395; reset 0. -/
  meterId : Nat := 0
  /-- NONCE, 64 bits; R380; reset the first draw (free value, log 16). -/
  nonce : BitVec 64 := Config.nonce 0
  /-- Draws of the NONCE so far; R380; reset 1. -/
  draws : Nat := 1
  /-- Until when OSEAL_UNSEAL is blocked, ns of RAW_T; R380; reset none. -/
  blockUntil : Option Nat := none
  /-- TIME_AUTHORITY; R376; reset 0. -/
  authority : Bool := false
  /-- The value that TIME_AUTHORITY takes at the next OWL tick; R384; reset none. -/
  authNext : Option Bool := none
  /-- Actions accepted for the next tick, which logs them: DISC_INCs and steps, each with its SOURCE; R386, R397; reset none. -/
  incNote : List (Nat × Nat) := []
  stepNote : List (Nat × Int × Bool × Bool) := []
  /-- The last INC_SET value, reference of R385; reset NOM_INC. -/
  incRef : Nat := 0
  /-- DISC_INC summary: changes, largest and smallest; R385; reset none. -/
  incCount : Nat := 0
  incMax : Nat := 0
  incMin : Nat := 0
  /-- RAW_T whole ns of the last INC_SUMMARY; R385; reset 0. -/
  incSumAt : Nat := 0
  /-- The log's held entries, oldest first, at most 4 096; R397; reset the entries of R376 (log 4). -/
  log : List LogEntry := []
  /-- LOG_NEXT_SEQ; R397; reset 1 or 2. -/
  logNext : Nat := 0
  /-- TAG of the entry written last; R397; reset 16 zero bytes. -/
  lastLogTag : List Byte := List.replicate 16 0
  /-- LOST_EVENTS since the last LOST entry; R383; reset 0. -/
  lost : Nat := 0
  /-- LOG_LOST; R383; reset 0. -/
  logLost : Bool := false
  /-- One more than the highest LOG_SEQ that OLOG_READ has returned; R399; reset 0. -/
  logRead : Nat := 0
  /-- Map in force; R376; reset empty. -/
  map : OMap := {}
  /-- Pending copy; R389; reset empty. -/
  pendMap : OMap := {}
  /-- The pending copy differs since the last boundary; R389; reset 0. -/
  mapDirty : Bool := false
  /-- Accounts that have a record under the map in force; R389; reset none. -/
  mapSeen : List Nat := []
  /-- The map has changed since OTD power-on; R389; reset 0. -/
  mapChanged : Bool := false
  /-- Accounts of the open interval; R388; reset 0. -/
  accounts : KMap Nat Account := []
  /-- Counts with no account; R388; reset 0. -/
  sum : IntervalSum := {}
  /-- INTERVAL in force and the one that follows, s; R392; reset 900. -/
  interval : Nat := 900
  intervalNext : Nat := 900
  /-- Opening RAW_T and TIME, 2^-16 ns; R395; reset 0. -/
  startRaw : Nat := 0
  startTime : Int := 0
  /-- RAW_T and TIME of the last boundary, from which the next one is found, 2^-16 ns; R392; reset 0. -/
  baseRaw : Nat := 0
  baseTime : Int := 0
  /-- TIME_VALID was 0 at some point of the interval; R395; reset 1. -/
  sawInvalid : Bool := true
  /-- CONT_UNCERTAIN at some point of the interval; R395; reset 0. -/
  sawUncertain : Bool := false
  /-- The interval has been extended; R394; reset 0. -/
  extended : Bool := false
  /-- A tap spilled in the interval; R391; reset 0. -/
  spilled : Bool := false
  /-- A TIME_VALID change ends the interval at this tick; R392; reset 0. -/
  validChanged : Bool := false
  /-- NEXT_REC_SEQ; R393; reset 0. -/
  recSeq : Nat := 0
  /-- Records written since OTD power-on; ORECORD_STATUS; reset 0. -/
  records : Nat := 0
  /-- The ring; R393; reset none. -/
  ring : Option ORing := none
  /-- ORING_CONS, index and wrap; R400; reset 0. -/
  cons : Nat := 0
  consWrap : Bool := false
  /-- The pending store, at most 2 048 records; R394; reset empty. -/
  pending : List ORec := []
  /-- Records with a place in the ring, of which the first is being written; R393; reset none. -/
  writing : List ORec := []
  /-- The write in progress; R393; reset none. -/
  write : Option OWrite := none
  /-- The summaries that the taps hold, oldest first; R390, R391; reset none. -/
  taps : List TapHeld := []
  /-- A boundary whose interval is not closed yet; R390; reset none. -/
  closing : Option Closing := none
  /-- The twelve counters of OSYS_STATUS; reset 0. -/
  ctr : KMap Nat Nat := []
deriving DecidableEq, Repr

end Sys2Proof.Machine
end

