-- ==== Sys2Proof/Machine/Types/Pwr.lean ====
section
/-! DEFINITION. State of the power controller, the Owl log and the wake sequencer (16). A field's note ends with its rule and reset value. -/

namespace Sys2Proof.Machine

/-- State of a power domain (R34, R484). A port front is run (On) or off. -/
inductive DomState where
  | run | nap | doze | off
deriving DecidableEq, Repr

/-- What a domain is going through (TRANSITION of R484; R471, R472, R473). -/
inductive Trans where
  | none
  | ask
  /-- Its round has its last ACK; SLEEP_ENTRY follows. -/
  | entry (target : DomState)
  /-- PSW_EN is 1 and the switch has not shown closed. -/
  | wakePsw
  /-- The switch is closed and the domain waits for its PLL to lock (Hibernate exit). -/
  | wakePll
deriving DecidableEq, Repr

/-- One power domain, index d of R67. -/
structure Dom where
  /-- STATE, 2 bits; R484; reset Off for PF, else RUN. -/
  st : DomState := .run
  /-- TRANSITION; R484; reset none. -/
  trans : Trans := .none
  /-- WAKE_FAIL, 1 bit; R484; reset 0. -/
  wakeFail : Bool := false
  /-- CAUSE, 3 bits; R484; reset 0. -/
  cause : Nat := 0
  /-- PARTNER_PLL, 1 bit; R484; reset 0. -/
  partner : Bool := false
  /-- Policy TARGET, 2 bits; R464; reset RUN (0). -/
  target : Nat := 0
  /-- NAP_IDLE_NS, 32 bits; R464; reset 0 (DESIGN CHOICE, log 3: R464 gives the policy RUN at cold boot and no times). -/
  napIdle : Nat := 0
  /-- DOZE_IDLE_US, 32 bits; R464; reset 0 (DESIGN CHOICE, log 3). -/
  dozeIdle : Nat := 0
  /-- Drain limit in µs; R469; reset 100. -/
  drain : Nat := 100
  /-- PSW_EN[d], 1 bit; R67; reset 1 but for port fronts (DESIGN CHOICE, log 3: R67 gives no reset level). -/
  pswEn : Bool := true
  /-- When the domain's idle time last restarted, ns of RAW_T; R465; reset 0. -/
  idleSince : Nat := 0
  /-- Whether the domain's retained state was lost; R481; reset 0. -/
  stateLost : Bool := false
  /-- The present step of the domain's wake is its retry; R479; reset 0. -/
  retried : Bool := false
  /-- RETRY_FAILED has asked for the domain's wake to run again; R481; reset 0. -/
  again : Bool := false
  /-- PSW_LATE has been written for the present opening of the switch; R472; reset 0. -/
  lateLogged : Bool := false
deriving DecidableEq, Repr

/-- Who asked for an entry (R466). -/
inductive AskBy where
  | auto
  | now (e : Env)
  | hibernate (e : Env)
deriving DecidableEq, Repr

/-- An ask round (R467). -/
structure AskRound where
  by' : AskBy
  target : DomState
  domains : List Nat
  /-- The state that CTR goes to in this round, which may be less deep than the slice cores' (R36). -/
  ctr : DomState := .run
  /-- The blocks that have not answered ACK, as (domain, block kind of R484). -/
  waitingFor : List (Nat × Nat)
  /-- The blocks that answer REFUSED, as (domain, block kind, DETAIL), as they stood when the round began (R468, R477). -/
  refuse : List (Nat × Nat × Nat) := []
  start : Nat
deriving DecidableEq, Repr

/-- BLOCK_STATE (R484). -/
inductive BlockState where
  | run | entering | hibernate | exiting
deriving DecidableEq, Repr

/-- One Owl log entry (R484). -/
structure OwlEntry where
  code : Nat
  domain : Nat
  detail : Nat
  time : Nat
deriving DecidableEq, Repr

/-- LAST_ENTRY (R484). -/
structure LastEntry where
  /-- DETAIL, 8 bits; R484; reset 0. -/
  detail : Nat := 0
  /-- DOMAIN, 7 bits; R484; reset 0. -/
  domain : Nat := 0
  /-- BLOCK, 4 bits; R484; reset 0. -/
  block : Nat := 0
  /-- ENTRY_SEQ, 8 bits; R484; reset 0. -/
  seq : BitVec 8 := 0
deriving DecidableEq, Repr

/-- Two PLLs of a pair: whether each has lock, and which clocks the pair's domains (R32, R33). -/
structure PllPair where
  /-- PLL A has lock; R33; reset 1. -/
  aOk : Bool := true
  /-- PLL B has lock; R33; reset 1. -/
  bOk : Bool := true
  /-- PLL B clocks the pair's domains; R33; reset 0 (DESIGN CHOICE, log 3: the manual does not say which PLL of a pair starts). -/
  onB : Bool := false
deriving DecidableEq, Repr

/-- The power controller (16). -/
structure Pwr where
  /-- The domains whose record differs from reset, keyed by the index of R67; R34; reset as each field says. -/
  dom : KMap Nat Dom := []
  /-- The ask rounds that run; R467; reset none. -/
  rounds : List AskRound := []
  /-- BLOCK_STATE, 2 bits; R484; reset RUN. -/
  block : BlockState := .run
  /-- LDO_LOW, 1 bit; R484; reset 0. -/
  ldoLow : Bool := false
  /-- VCORE_MODE, 1 bit; R484; reset 1. -/
  vcoreMode : Bool := true
  /-- REG_READY, the pin's level; R67, R484; reset 1 (DESIGN CHOICE, log 3: pin). It falls as VCORE_MODE falls (DESIGN CHOICE, log 115). -/
  regReady : Bool := true
  /-- VCORE_MODE has been driven low and high again for a late REG_READY; R479; reset 0. -/
  regRetried : Bool := false
  /-- The command whose Hibernate or CTL entry waits for its own response to be delivered; R474; reset none. -/
  handover : Option Env := none
  /-- VRET_GOOD, the pin's level; R67, R484; reset 1 (DESIGN CHOICE, log 3: pin). -/
  vretGood : Bool := true
  /-- BO_PENDING, 1 bit; R484; reset 0. -/
  boPending : Bool := false
  /-- BROWNOUT_COUNT, 16 bits, saturating; R484; reset 0. -/
  boCount : Nat := 0
  /-- LAST_BO_US, 32 bits; R484; reset 0. -/
  lastBoUs : Nat := 0
  /-- LAST_BO_NS, 64 bits; R484; reset 0. -/
  lastBoNs : Nat := 0
  /-- The trip of the brown-out that still lasts, ns of RAW_T; R482; reset none. -/
  boTrip : Option Nat := none
  /-- LAST_ENTRY; R470, R484; reset 0. -/
  last : LastEntry := {}
  /-- The Owl log, newest last, at most 16 entries; R484; reset empty. -/
  log : List OwlEntry := []
  /-- LOG_TOTAL, 16 bits (LOG_NEXT is its low 4 bits); R484; reset 0. -/
  logTotal : BitVec 16 := 0
  /-- WAKE_EN of WAKE_SRC_SET, 192 bits; R476; reset all 1. -/
  wakeEn : BitVec 192 := BitVec.allOnes 192
  /-- Domains for which a wake source has fired and whose wake has not begun; R476, R477; reset none. -/
  wakePend : List Nat := []
  /-- A wake of the block from Hibernate is owed; R476; reset 0. -/
  blockWake : Bool := false
  /-- PLL pairs that differ from reset: slice pair p at p, centre at 16, control at 17; R32; reset as each field says. -/
  pll : KMap Nat PllPair := []
  /-- When a pair's domains last switched to the other PLL, ns of RAW_T, by pair; R33, R142; reset none. -/
  pllSwitch : KMap Nat Nat := []
  /-- When the last SLEEP_REFUSED of an automatic entry was raised, ns of RAW_T; R470; reset none. -/
  lastRefusedIrq : Option Nat := none
  /-- HIB_ENTRIES of PWR_STATUS, 64 bits; R499 (OWL); reset 0. -/
  hibEntries : Nat := 0
  /-- HIB_REFUSED, 64 bits; PWR_STATUS; reset 0. -/
  hibRefused : Nat := 0
  /-- AUTO_REFUSED, 64 bits; R466; reset 0. -/
  autoRefused : Nat := 0
  /-- DOZE_ENTRIES, 64 bits; PWR_STATUS; reset 0. -/
  dozeEntries : Nat := 0
  /-- DRAIN_TIMEOUTS, 64 bits; PWR_STATUS; reset 0. -/
  drainTimeouts : Nat := 0
  /-- WAKE_RETRIES, 64 bits; PWR_STATUS; reset 0. -/
  wakeRetries : Nat := 0
  /-- WAKE_FAILS, 64 bits; PWR_STATUS; reset 0. -/
  wakeFails : Nat := 0
  /-- BROWN_OUTS, 64 bits; PWR_STATUS; reset 0. -/
  brownOuts : Nat := 0
  /-- Switches that showed open late (counted by R472); R472; reset 0. -/
  pswLate : Nat := 0
deriving DecidableEq, Repr

end Sys2Proof.Machine
end

