-- ==== Sys2Proof/Machine/Types/Sezal.lean ====
section
/-! DEFINITION. State of the Sezal domain logic (12). A field's note ends with its rule and reset value. -/

namespace Sys2Proof.Machine

/-- Adjacency states (R354). -/
inductive AdjSt where
  | down | init | up
deriving DecidableEq, Repr

/-- What a domain port knows of its neighbour (R353, R354). -/
structure Adj where
  st : AdjSt := .down
  /-- Instance, UID, keeper data of the last HELLO. -/
  inst : Nat := 0xFFFF
  uid : Nat := 0
  keeper : Nat := 0xFFFF
  keeperPrio : Nat := 255
  hops : Nat := 255
  timeState : Nat := 0
  timeValid : Bool := false
  /-- ns of RAW_T of the last HELLO heard and the last HELLO sent. -/
  heard : Nat := 0
  sent : Nat := 0
deriving DecidableEq, Repr

/-- A MEMBER record (R353, R355). -/
structure Member where
  uid : Nat
  recSeq : Nat
  prio : Nat
  locked : Bool
  outOfStep : Bool
  neighbours : List Nat
  /-- ns of RAW_T at which it was last refreshed. -/
  heard : Nat
deriving DecidableEq, Repr

/-- Time states (R362). -/
inductive TimeSt where
  | free | acquiring | locked | holdover
deriving DecidableEq, Repr

/-- A domain-wide apply that this instance coordinates (R364, R366). -/
structure Coord where
  set : Nat
  applyTime : Nat
  deadline : Nat
  voters : List Nat
  ready : List Nat
  sent : Nat
deriving DecidableEq, Repr

/-- A vote that this instance repeats until the outcome (R365). -/
structure Voting where
  set : Nat
  coord : Nat
  vote : Nat
  applyTime : Nat
  deadline : Nat
  sent : Nat
deriving DecidableEq, Repr

/-- An outcome that is known (R366): result 0 COMMIT, 1 ABORT. -/
structure Outcome' where
  set : Nat
  coord : Nat
  result : Nat
  culprit : Nat
  at' : Nat
  /-- Floods of it still to make, and when the last was. -/
  floods : Nat
  sent : Nat
deriving DecidableEq, Repr

/-- The Sezal logic (12). -/
structure Sezal where
  /-- ENABLE; R344; reset 0. -/
  enabled : Bool := false
  /-- TIME_FOLLOW; R360; reset 0 (DESIGN CHOICE, log 3). -/
  follow : Bool := false
  /-- INSTANCE, 9 bits; R344; reset 0. -/
  inst : Nat := 0
  /-- DOMAIN_NUM, 16 bits; R344; reset 0 (DESIGN CHOICE, log 3). -/
  domainNum : Nat := 0
  /-- ETHERTYPE; R189; reset 0x88B5. -/
  etherType : Nat := 0x88B5
  /-- UID, 64 bits; R344; reset 0 (DESIGN CHOICE, log 3). -/
  uid : Nat := 0
  /-- HELLO_US; R354; reset 1 000. -/
  helloUs : Nat := 1000
  /-- SYNC_US; R359; reset 1 000. -/
  syncUs : Nat := 1000
  /-- MEMBER_AGE_MS; SEZAL_CFG; reset 1 000. -/
  memberAgeMs : Nat := 1000
  /-- STEP_TOL_PS; R362; reset 10 000. -/
  stepTolPs : Nat := 10000
  /-- KEEPER_PRIO; KEEPER_PRIO_SET; reset 128. -/
  prio : Nat := 128
  /-- Adjacencies per domain port; R354; reset DOWN. -/
  adj : KMap Nat Adj := []
  /-- Member table of the other instances; R355; reset empty. -/
  members : KMap Nat Member := []
  /-- The higher UID that claims an instance's ID beside its member record, with the ns of RAW_T of its last record; R356; reset none. -/
  rivals : KMap Nat (Nat × Nat) := []
  /-- The present set, this instance included; R355; reset empty. -/
  present : List Nat := []
  /-- MEMBER_GEN, 32 bits; R355; reset 0 (DESIGN CHOICE, log 3). -/
  memberGen : BitVec 32 := 0
  /-- REC_SEQ of this instance's next MEMBER record; R355; reset 0 (DESIGN CHOICE, log 3). -/
  recSeq : BitVec 32 := 0
  /-- When MEMBER was last flooded, and whether a change asks for a flood; R355; reset 0. -/
  memberSent : Nat := 0
  memberDirty : Bool := false
  /-- ID_CONFLICT; R356; reset 0. -/
  idConflict : Bool := false
  /-- Instances beyond 16 links; R355; reset 0. -/
  far : Nat := 0
  /-- Keeper; R358; reset none. -/
  keeper : Option Nat := none
  /-- Upstream port; R359; reset none. -/
  upstream : Option Nat := none
  /-- Time state; R362; reset FREE. -/
  time : TimeSt := .free
  /-- Consecutive exchanges within STEP_TOL; R362; reset 0. -/
  good : Nat := 0
  /-- When HOLDOVER began, ns of RAW_T; R362; reset 0. -/
  holdSince : Nat := 0
  /-- Last offset to upstream in ps; SEZAL_STATUS; reset 0. -/
  offsetPs : Int := 0
  /-- SYNC_REQ in flight: REQ_ID and T1 in 2^-16 ns; R359; reset none. -/
  req : Option (Nat × Nat) := none
  /-- REQ_ID of the next SYNC_REQ, 16 bits; R353; reset 0 (DESIGN CHOICE, log 3). -/
  reqId : BitVec 16 := 0
  /-- When the last SYNC_REQ was sent; R359; reset 0. -/
  syncSent : Nat := 0
  /-- SEQ of the next control message, 16 bits; R352; reset 0 (DESIGN CHOICE, log 3). -/
  msgSeq : BitVec 16 := 0
  /-- Message numbers seen per sender, newest first, at most 1 024; R353; reset none. -/
  seen : KMap Nat (List Nat) := []
  /-- OUT_OF_STEP; R367; reset 0. -/
  outOfStep : Bool := false
  /-- The set held in VOTING, or flipped, while OUT_OF_STEP; R368; reset none. -/
  heldSet : Option Nat := none
  /-- The applies that this instance coordinates; R364; reset none. -/
  coord : List Coord := []
  /-- The votes of this instance whose outcome is not known; R365; reset none. -/
  voting : List Voting := []
  /-- Outcomes known for 60 s; R366; reset none. -/
  outcomes : List Outcome' := []
  /-- SEZAL_RESYNC FOLLOW that waits for an answer: its command, its set, and when it was sent; R368; reset none. -/
  following : Option (Env × Nat × Nat) := none
  /-- Control messages that a slice took off the data path: the port and the frame from DA; R352; reset none. -/
  inbox : List (Nat × List Byte) := []
deriving DecidableEq, Repr

end Sys2Proof.Machine
end

