-- ==== Sys2Proof/Machine/State.lean ====
section
/-! DEFINITION. The state of one Untos block: every register, FIFO, buffer, counter, mode and pin the manual gives it, and the queue of commands
and events that wait. Plain data throughout. -/

namespace Sys2Proof.Machine

/-- Whose counter it is (R507 and the chapters' counter tables). -/
inductive CtrFam where
  | port | slice | parse | engine | queue | pool | flow | policer | filter | ring | gate | sezal | hostq | test | err | fwd | tm | block
deriving DecidableEq, Repr

/-- One counter: family, unit, sub-unit, and its number in the family's table. -/
structure Ctr where
  fam : CtrFam
  unit : Nat
  sub : Nat
  idx : Nat
deriving DecidableEq, Repr

/-- What the block drives outside itself. -/
inductive Output where
  /-- A frame on a port's transmit lanes: the bytes from DA through FCS, and whether it was stomped (R47, R130). -/
  | frame (port : Nat) (bytes : List Byte) (stomped : Bool)
  /-- The low-power-idle code on a port's transmit lanes begins or ends: the MII or GMII code on a legacy lane, a TXC word with VALID 0 and ERR 1 in each
  clock on a ULI lane (R141). -/
  | lpi (port : Nat) (on : Bool)
  /-- A write burst on HPI (R58): HPI_REQ_ADDR, HPI_REQ_ID and its write beats in order, LAST with the last one; of each beat the strobes and the bytes that
  they select. -/
  | hpiWrite (addr id : Nat) (beats : List (BitVec 64 × List Byte))
  /-- A read burst on HPI (R58): HPI_REQ_ADDR, HPI_REQ_ID and how many beats. -/
  | hpiRead (addr id beats : Nat)
  /-- A message-signalled interrupt of a target: its MSG_ADDR and MSG_DATA (R456). -/
  | msgWrite (target addr data : Nat)
deriving DecidableEq, Repr

/-- Why a command stops the block. -/
inductive Fault where
  /-- Raised by nobody: the manual gives every row of the table an effect. Safe. -/
  | neverRaised
deriving DecidableEq, Repr

/-- Why the model has no answer. -/
inductive Refusal where
  /-- Raised by an arm of `exec` that has no meaning yet, with the row's mnemonic. Safe: nothing is claimed of it. -/
  | notModelled (mnemonic : String)
deriving DecidableEq, Repr

/-- A response on HPT (R55): HPT_RSP_ID, HPT_RSP_STATUS (0 OK, 1 ERR, 2 NOADDR) and HPT_RSP_RDATA. -/
structure HptRsp where
  id : Nat
  status : Nat
  data : Nat
deriving DecidableEq, Repr

/-- An access on HPT outside the Owl-served pages (R55, R57): a request, or the access of a row of its own. -/
inductive HptAccess where
  | request (q : HptReq)
  | mbGo (data : Word) | mbAck (data : Word) | mbCmdWrite (off : Nat) (data : List Byte)
  | sqDb (n : Nat) (data : Word) | cqDb (r : Nat) (data : Word)
  | dmaGo (c : Nat) | dmaShadowWrite (c off : Nat) (data : Word) | dmaAbort (c : Nat) | dmaResume (c : Nat) | dmaClear (c : Nat) | chCauseRead (c : Nat)
  | sliceCauseRead (sl : Nat) | sliceLinkRead (sl : Nat) | claim (n : Nat) | eoi (n : Nat) (data : Word)
  | pendSet (k : Nat) (data : Word) | pendClr (k : Nat) (data : Word) | enSet (k : Nat) (data : Word) | enClr (k : Nat) (data : Word)
  | srcCfgWrite (i : Nat) (data : Word)
  | privPendSet (n : Nat) (data : Word) | privPendClr (n : Nat) (data : Word) | privEnSet (n : Nat) (data : Word) | privEnClr (n : Nat) (data : Word)
  | targetCountsRead (n : Nat)
deriving DecidableEq, Repr

/-- The target port HPT (R55 to R57). -/
structure Hpt where
  /-- HPT_REQ_ID as the input shows it, 6 bits; R55; reset 0 (DESIGN CHOICE, log 112). -/
  tag : Nat := 0
  /-- Requests that wait for HST, or for CTL with it, to wake, oldest first, each with its tag; R56, R57; reset none. -/
  waiting : List (Nat × HptAccess) := []
  /-- Responses given, oldest first; the model's own record; reset empty. -/
  rsp : List HptRsp := []
deriving DecidableEq, Repr

/-- The block. -/
structure State where
  /-- P_CONFIG and P_OWL_HZ; R78; no step changes them. -/
  build : Build
  /-- The boot mailbox page; R83. -/
  mb : Mailbox
  /-- Boot, thermal and patch registers; R83, R118. -/
  boot : BootRegs
  /-- Admin queue and command journal; R90, R92. -/
  adm : Admin
  /-- Quadrille sets and the epoch parity; R101, R110. -/
  quad : Quad
  /-- Bank A of every stageable unit, which parity 0 selects; R107, R110. -/
  bank0 : Cfg
  /-- Bank B, which parity 1 selects; R107, R110. -/
  bank1 : Cfg
  /-- Match tables, MAC table and learning; R201, R259. -/
  tables : Tables
  /-- Runtime state of the ports that differ from reset; R136. -/
  ports : KMap Nat PortRt
  /-- Runtime state of the slices that differ from reset; R21. -/
  slices : KMap Nat SliceRt
  /-- Packet buffer and host pools; R242, R252. -/
  buf : Buffer
  /-- Queues, shaper and policer buckets; R271. -/
  tm : Tm
  /-- Gate list runtime per port; R305. -/
  gate : KMap Nat GateRt
  /-- Flow contexts and redundancy nodes; R322. -/
  flows : Flows
  /-- Foxtrot rings and capture; R292. -/
  cap : Capture
  /-- Ezette engines and the image store; R208. -/
  eng : Engines
  /-- The time unit; R147. -/
  time : TimeUnit
  /-- Otdiuri; R371. -/
  otd : Otd
  /-- Sezal; R344. -/
  sez : Sezal
  /-- Host queues; R403. -/
  hq : HostQ
  /-- The 64 DMA channels that differ from reset; R438. -/
  dma : KMap Nat DmaCh
  /-- Interrupt distributor and event port; R447. -/
  irq : Irq
  /-- Power controller; R464. -/
  pwr : Pwr
  /-- Badger and the fault log; R485. -/
  badger : Badger
  /-- Counters that differ from 0; R507. -/
  ctr : KMap Ctr Nat
  /-- The target port HPT; R55. -/
  hpt : Hpt
  /-- What the block has driven outside, oldest first; the model's own record; reset empty. -/
  out : List Output
  /-- Draws of free values so far; the model's own counter; reset 0 (DESIGN CHOICE, log 22). -/
  fresh : Nat
  /-- Commands and events that wait, first in, first out; the model's own queue; reset empty. -/
  pending : List Instr
deriving DecidableEq, Repr

/-- Slices of a configuration (R1). -/
def slicesOf : BuildConfig → Nat
  | .S1 => 1 | .S2 => 2 | .S4 => 4 | .S8 => 8 | .S16 => 16 | .S32 => 32

/-- NOM_INC in 2^-16 ns: 10^9 / P_OWL_HZ ns, rounded to the nearest (R79). -/
def nomInc (owlHz : Nat) : Nat := (2 * 10 ^ 9 * 65536 + owlHz) / (2 * owlHz)

/-- INC_S of a DISC_INC in 2^-32 ns, held to 2^-40 ns (R152). -/
def incPerClock (owlHz inc : Nat) : Nat := inc * 256 * owlHz / 1600000000

/-- SHARED_CELLS at cold boot (R242, R246): 32 Ki cells and a skew reserve of 256 cells for each slice, no minimum, no isolated bank. -/
def coldSharedCells (c : BuildConfig) : Nat := 32768 * slicesOf c - 256 * slicesOf c

/-- One log entry that Otdiuri writes at its start (R376, R397). -/
def startLogEntry (seq code detail : Nat) : LogEntry :=
  { seq, code, source := 0, discont := 1, rawNs := 0, timeNs := 0, detail, tag := List.replicate 16 0 }

/-- The block right after a reset at which nothing has run, for build parameters `b` (R20, R88; Otdiuri's start has run: log 4). -/
def State.resetOf (b : Build) : State where
  build := b
  mb := {}
  boot := {}
  adm := {}
  quad := {}
  bank0 := {}
  bank1 := {}
  tables := {}
  ports := []
  slices := []
  buf := { sharedCells := coldSharedCells b.config }
  tm := {}
  gate := []
  flows := {}
  cap := {}
  eng := {}
  time := { discInc := BitVec.ofNat 40 (nomInc b.owlHz * 65536), incS := incPerClock b.owlHz (nomInc b.owlHz * 65536) }
  otd := { incRef := nomInc b.owlHz * 65536, log := [startLogEntry 0 1 1, startLogEntry 1 2 0], logNext := 2 }
  sez := {}
  hq := {}
  dma := []
  irq := {}
  pwr := {}
  badger := {}
  ctr := []
  hpt := {}
  out := []
  fresh := 0
  pending := []

/-- The block right after reset: S32 at 25 MHz (R2, R62). -/
def State.reset : State := State.resetOf ⟨.S32, 25000000⟩

end Sys2Proof.Machine
end

