-- ==== Sys2Proof/Machine/Ops.lean ====
section
/-! DEFINITION. Shared operations over the state: what the configuration has, the time, ports and slices, counters, outputs. -/

namespace Sys2Proof.Machine

/-- SLICES (R1). -/
def nSlices (s : State) : Nat := slicesOf s.build.config

/-- GEN2: Gen-2 queue pairs exist (R1). -/
def gen2 (s : State) : Bool := 8 ≤ nSlices s

/-- LEGACY_MII: legacy lanes exist (R1). -/
def legacyLanes (s : State) : Bool := nSlices s ≤ 4

/-- CLUSTERS (R4). -/
def nClusters (s : State) : Nat := if nSlices s = 32 then 4 else if nSlices s = 16 then 2 else 1

/-- Banks of a table cluster (R29). -/
def clusterBanks (s : State) : Nat := if nSlices s = 1 then 16 else if nSlices s = 2 then 32 else 64

/-- The cluster that serves slice `sl` (R21). -/
def clusterOf (s : State) (sl : Nat) : Nat := if nSlices s < 8 then 0 else sl / 8

/-- Flow contexts (R1). -/
def nFlows (s : State) : Nat := 65536 * nSlices s

/-- Action engines (R22). -/
def nEngines (s : State) : Nat := 4 * nSlices s

/-- Cells of the packet buffer (R242). -/
def nCells (s : State) : Nat := 32768 * nSlices s

/-- A host port (R404). -/
def isHostPort (p : Nat) : Bool := 1024 ≤ p && p < 1088

/-- A port number that the configuration has (R1, R404). -/
def portPresent (s : State) (p : Nat) : Bool := p < 32 * nSlices s || isHostPort p

/-- The slice of a port (R123, R404). -/
def sliceOf (s : State) (p : Nat) : Nat := if isHostPort p then (p - 1024) % nSlices s else p / 32

/-- The bank that parity `e` selects (R107, R110). -/
def cfgAt (s : State) (e : Bool) : Cfg := if e then s.bank1 else s.bank0

/-- The configuration in force. -/
def cfg (s : State) : Cfg := cfgAt s s.quad.parity

/-- Change both banks: an immediate command. -/
def updCfg (f : Cfg → Cfg) (s : State) : State := { s with bank0 := f s.bank0, bank1 := f s.bank1 }

/-- RAW_T in 2^-16 ns as software and Otdiuri see it. -/
def rawT (s : State) : Nat := s.time.raw.toNat

/-- RAW_T in 2^-16 ns, counted on over every OTD power-on: the clock of the block's own timers (log 106). -/
def raw16 (s : State) : Nat := s.time.base + rawT s

/-- The same in whole ns. -/
def rawNs (s : State) : Nat := raw16 s / 65536

/-- TIME of a time unit in 2^-16 ns: RAW_T + CORR + OFFSET, truncated to 16 fraction bits (R147). -/
def timeOf (t : TimeUnit) : Int := (t.raw.toNat * 65536 + t.corr.toInt + t.offset.toInt * 65536) / 65536

/-- TIME in 2^-16 ns. -/
def time16 (s : State) : Int := timeOf s.time

/-- Ports with ROLE 4 (R169, R175). -/
def servoPorts (s : State) : List Nat := ((cfg s).ptp.filter (fun x => decide (x.2.role = 4))).map Prod.fst

/-- The firmware servo takes the Sezal domain as its only reference: on a member with TIME_FOLLOW that is not the keeper (R360). -/
def followsDomain (s : State) : Bool := s.sez.enabled && s.sez.follow && decide (s.sez.keeper ≠ some s.sez.inst)

/-- The firmware servo runs, while AUTHORITY is 1: for a ROLE 4 port (R175), or for the domain (R360). -/
def servoRuns (s : State) : Bool := s.otd.authority && (!(servoPorts s).isEmpty || followsDomain s)

/-- It runs a boundary clock: two or more ROLE 4 ports exist (R175). -/
def servoBoundary (s : State) : Bool := 2 ≤ (servoPorts s).length

/-- The servo takes an event message of a port with its stamp, while it runs (R169, R174). -/
def tellServo (p : Nat) (transmit : Bool) (stamp : Nat) (data : List Byte) (s : State) : State :=
  if servoRuns s then { s with time := { s.time with inbox := s.time.inbox ++ [⟨p, transmit, stamp, data, servoBoundary s⟩] } } else s

/-- TIME in whole ns. -/
def timeNs (s : State) : Int := time16 s / 65536

/-- The runtime state of port `p`. -/
def port (s : State) (p : Nat) : PortRt := s.ports.getD p {}

/-- Change port `p`. -/
def updPort (p : Nat) (f : PortRt → PortRt) (s : State) : State := { s with ports := s.ports.upd p {} f }

/-- The runtime state of slice `sl`. -/
def slice (s : State) (sl : Nat) : SliceRt := s.slices.getD sl {}

/-- Change slice `sl`. -/
def updSlice (sl : Nat) (f : SliceRt → SliceRt) (s : State) : State := { s with slices := s.slices.upd sl {} f }

/-- The value of a counter. -/
def ctrOf (s : State) (c : Ctr) : Nat := s.ctr.getD c 0

/-- Add `n` to a counter of 64 bits (R507). -/
def addCtr (c : Ctr) (n : Nat) (s : State) : State := { s with ctr := s.ctr.upd c 0 (fun v => (v + n) % 2 ^ 64) }

/-- Count once. -/
def bump (c : Ctr) (s : State) : State := addCtr c 1 s

/-- Counter `i` of port `p`. -/
def pCtr (p i : Nat) : Ctr := ⟨.port, p, 0, i⟩

/-- Counter `i` of slice `sl`. -/
def sCtr (sl i : Nat) : Ctr := ⟨.slice, sl, 0, i⟩

/-- Clear every counter that satisfies `p`. -/
def clearCtrs (p : Ctr → Bool) (s : State) : State := { s with ctr := s.ctr.filter (fun c => !p c.1) }

/-- Drive something outside. -/
def emit (o : Output) (s : State) : State := { s with out := s.out ++ [o] }

/-- Bytes from address `a` on that one burst can carry: to the end of 16 lines of 64 bytes, and not across a 4 KiB boundary (R58, R59). -/
def burstRoom (a : Nat) : Nat := min (a / 64 * 64 + 1024) (a / 4096 * 4096 + 4096) - a

/-- The bursts that carry `n` bytes from address `a`, each as first byte and length (R58, R59). -/
def burstSpans : Nat → Nat → Nat → List (Nat × Nat)
  | 0, _, _ => []
  | k + 1, a, n => if n = 0 then [] else (a, min n (burstRoom a)) :: burstSpans k (a + burstRoom a) (n - burstRoom a)

/-- The bursts of an access. -/
def burstsAt (a n : Nat) : List (Nat × Nat) := burstSpans n a n

/-- The beats of one write burst from address `a`: the strobes of each line and the bytes that they select (R58, R440). -/
def beatsOf : Nat → Nat → List Byte → List (BitVec 64 × List Byte)
  | 0, _, _ => []
  | k + 1, a, d =>
    if d.isEmpty then []
    else
      let n := min d.length (64 - a % 64)
      (BitVec.ofNat 64 ((2 ^ n - 1) * 2 ^ (a % 64)), d.take n) :: beatsOf k (a + n) (d.drop n)

/-- HPI_REQ_ID of the request that the block drives next (free value, log 113). -/
def hpiTag (s : State) : Nat := Config.hpiId s.out.length % 256

/-- A write on HPI, in bursts (R58, R59). -/
def hpiWrite (addr : Nat) (bytes : List Byte) (s : State) : State :=
  (burstsAt addr bytes.length).foldl (fun s x => emit (.hpiWrite (x.1 / 64 * 64) (hpiTag s) (beatsOf x.2 x.1 (sub bytes (x.1 - addr) x.2))) s) s

/-- A read on HPI of `n` bytes, in bursts of whole lines (R58, R59, R440). -/
def hpiRead (addr n : Nat) (s : State) : State :=
  (burstsAt addr n).foldl (fun s x => emit (.hpiRead (x.1 / 64 * 64) (hpiTag s) (ceilDiv (x.1 % 64 + x.2) 64)) s) s

/-- Write requests on HPI whose acknowledgement a row of the table reports and has not yet (R59): bursts of the DMA channels, completions, head words and
the record of Otdiuri. -/
def hpiOpen (s : State) : Nat :=
  sumOf (fun x => x.2.writes.length + x.2.oldWrites.length) s.dma + s.hq.open'.length + sumOf (fun x => x.2.wbOpens.length) s.hq.sq + b2n s.otd.write.isSome

/-- `n` more requests keep the limit of 256 outstanding ones (R59; log 113). -/
def hpiRoom (n : Nat) (s : State) : Bool := decide (hpiOpen s + n ≤ 256)

/-- Answer an HPT request (R55, R56). -/
def hptAnswer (status data : Nat) (s : State) : State := { s with hpt := { s.hpt with rsp := s.hpt.rsp ++ [⟨s.hpt.tag, status, data⟩] } }

/-- Answer an HPT request with status OK and data. -/
def hptOk (data : Nat) (s : State) : State := hptAnswer 0 data s

/-- Draw a free value's index. -/
def draw (s : State) : Nat × State := (s.fresh, { s with fresh := s.fresh + 1 })

/-- Power domain `d` (R67). The PSW_EN bits of slices that the configuration lacks are tied off, to 1 for a slice core and 0 for a port front (DESIGN CHOICE,
log 115: R67 gives no level). -/
def dom (s : State) (d : Nat) : Dom := s.pwr.dom.getD d (if d < 32 then { st := .off, pswEn := false } else {})

/-- Change power domain `d`. -/
def updDom (d : Nat) (f : Dom → Dom) (s : State) : State := { s with pwr := { s.pwr with dom := s.pwr.dom.set d (f (dom s d)) } }

/-- Block `b` of domain `d` has answered ACK in a round, or the entry has begun: it starts no work of its own (R467). While a command's own
response is still to be delivered, the entry is not yet handed over (R474). -/
def blockAcked (s : State) (d b : Nat) : Bool :=
  s.pwr.handover.isNone
    && ((dom s d).trans = .entry .doze || s.pwr.rounds.any (fun r => decide (d ∈ r.domains) && !decide ((d, b) ∈ r.waitingFor)))

/-- HST sleeps for an interrupt source: DOZE, Hibernate, or an entry to which the distributor has agreed (R463, R467). -/
def hstAsleep (s : State) : Bool := (dom s 66).st = .doze || s.pwr.block = .hibernate || blockAcked s 66 8

/-- Block `b` of HST works: HST is in RUN and the block has agreed to no entry. -/
def hstWorks (b : Nat) (s : State) : Bool := (dom s 66).st = .run && !blockAcked s 66 b

/-- A wake source of domain `d` fires (R476, R477). A domain in RUN, with no ask round or entry, has nothing to wake; else the source is held. -/
def askWake (d : Nat) (s : State) : State :=
  if (dom s d).st = .run && (dom s d).trans = .none && !s.pwr.rounds.any (fun r => decide (d ∈ r.domains)) then s
  else { s with pwr := { s.pwr with wakePend := addTo s.pwr.wakePend d, blockWake := s.pwr.blockWake || decide (s.pwr.block = .hibernate) } }

/-- The clocks of PLL pair `k` (slice pair k, centre 16, control 17) stop for a switch to the partner (R33): for the whole of the at most 1 µs that the
manual allows (DESIGN CHOICE, log 99). -/
def pllSwitching (s : State) (k : Nat) : Bool :=
  match s.pwr.pllSwitch.get? k with
  | some t => decide (rawNs s < t + 1000)
  | none => false

/-- Slice core `sl` runs: its domain is in RUN, it is in no reset, it is not held by WAKE_FAIL, its clock does not stop for a PLL switch (R142), and it
has agreed to no entry: in an ask round it drains until then (R467, R468). -/
def coreRuns (s : State) (sl : Nat) : Bool :=
  let d := dom s (32 + sl)
  d.st = .run && (decide (d.trans = .none) || (decide (d.trans = .ask) && !blockAcked s (32 + sl) 2)) && (slice s sl).inReset.isNone
    && !d.wakeFail && !pllSwitching s (sl / 2)

/-- Slice core `sl` takes frames: it runs, and no ask round has sent them to its den (R142, R467). -/
def coreTakes (s : State) (sl : Nat) : Bool := coreRuns s sl && decide ((dom s (32 + sl)).trans = .none)

/-- The centre runs (R23): CTR is in RUN, not held by WAKE_FAIL, has agreed to no entry, and its clock does not stop for a PLL switch (R33). -/
def centreRuns (s : State) : Bool := (dom s 64).st = .run && !(dom s 64).wakeFail && !blockAcked s 64 4 && !pllSwitching s 16

/-- The time receiver of slice `sl` (R153): local TIME at the last bus word, and what it absorbs over the tick that runs, in 2^-40 ns. -/
def receiver (s : State) (sl : Nat) : Int × Int := s.time.recv.getD sl (time16 s * 16777216, 0)

/-- Local TIME of slice `sl` at the last bus word, in 1/16 ns (R153, R154). -/
def localSix (s : State) (sl : Nat) : Int := (receiver s sl).1 / 68719476736

/-- The first number from `k` on, in cyclic order over `lo` to `lo + n - 1`, that is not taken. -/
def pickFree (lo n : Nat) (taken : Nat → Bool) : Nat → Nat → Option Nat
  | 0, _ => none
  | fuel + 1, k => if taken (lo + k % n) then pickFree lo n taken fuel (k + 1) else some (lo + k % n)

/-- A number of `lo` to `lo + n - 1` that is not taken, at the chooser's discretion (free value, log 23). -/
def fwPick (kind draw lo n : Nat) (taken : Nat → Bool) : Option Nat := pickFree lo n taken n (Config.fwChoice kind draw)

end Sys2Proof.Machine
end

