-- ==== Sys2Proof/Machine/Flags.lean ====
section
/-! DEFINITION. Event flags: how a source fires, which sources are eligible, what a target is offered (R447 to R463). -/

namespace Sys2Proof.Machine

/-- Sources that never become pending (R450). -/
def reservedSource (i : Nat) : Bool := (6 ≤ i && i < 16) || (51 ≤ i && i < 64) || (192 ≤ i && i < 256) || 4096 ≤ i

/-- Target `n` of the distributor. -/
def tgtOf (q : Irq) (n : Nat) : Target := q.tgt.getD n {}

/-- SRC_CFG of shared source `i` (R453). -/
def srcCfgOf (q : Irq) (i : Nat) : SrcCfg := q.cfg.getD i {}

/-- The target that a shared source's route leads to (R460). -/
def routeOf (q : Irq) (i : Nat) : Nat :=
  if i ∈ q.diverted then (srcCfgOf q i).fallback else (srcCfgOf q i).target

/-- RUNNING (R454). -/
def runningOf (t : Target) : Nat :=
  match t.stack with
  | [] => 0x100
  | e :: _ => e.group

/-- The conditions of R455 that do not depend on whose source it is. -/
def fitsTarget (q : Irq) (t : Target) (prio : Nat) : Bool :=
  q.enable && t.enable && prio ≤ t.prioMask && prio / 2 ^ t.bp < runningOf t && t.stack.length < 8

/-- A shared source meets every condition of R455 at target `n` but the route. -/
def sharedFits (q : Irq) (n i : Nat) : Bool :=
  decide (i ∈ q.pend) && q.en.getLsbD i && !decide (i ∈ q.active) && fitsTarget q (tgtOf q n) (srcCfgOf q i).prio

/-- PRIORITY of private source `p` of a target (R454). -/
def privPrioOf (t : Target) (p : Nat) : Nat := t.privPrio.getD p 0x80

/-- A private source is eligible at its target (R455, R462). -/
def privFits (q : Irq) (t : Target) (p : Nat) : Bool :=
  t.privPend.getLsbD p && t.privEn.getLsbD p && !t.privActive.getLsbD p && fitsTarget q t (privPrioOf t p)

/-- The eligible sources of target `n` as (claim ID, PRIORITY), shared ones first (R455, R457). -/
def eligible (q : Irq) (n : Nat) : List (Nat × Nat) :=
  let t := tgtOf q n
  ((q.pend.filter (fun i => decide (routeOf q i = n) && sharedFits q n i)).map (fun i => (i, (srcCfgOf q i).prio)))
    ++ (((List.range 32).filter (privFits q t)).map (fun p => (0x1000 + p, privPrioOf t p)))

/-- The eligible source that wins: the lowest PRIORITY, then the lowest claim ID (R455). -/
def winner (q : Irq) (n : Nat) : Option (Nat × Nat) := leastBy (fun e => e.2 * 8192 + e.1) (eligible q n)

/-- What target `n` is offered: something eligible while it is awake (R456). -/
def offeredNow (q : Irq) (n : Nat) : Bool := (tgtOf q n).awake && (winner q n).isSome

/-- IRQ_OUT[n] (R61, R456). -/
def irqOut (s : State) (n : Nat) : Bool := !hstAsleep s && !(tgtOf s.irq n).mode && offeredNow s.irq n

/-- A shared source waits for an asleep target (R460). -/
def waitsFor (q : Irq) (i : Nat) : Bool := !(tgtOf q (routeOf q i)).awake && sharedFits q (routeOf q i) i

/-- TGT_WAKE[n] (R460, R462). -/
def tgtWake (q : Irq) (n : Nat) : Bool := !(tgtOf q n).awake && !(eligible q n).isEmpty

/-- Start and stop the WAKE_WAIT of the sources that wait (R460): one that is diverted, or whose FALLBACK is its TARGET, runs none. -/
def settleWaits (now : Nat) (q : Irq) : Irq :=
  let runs := fun i => waitsFor q i && !decide (i ∈ q.diverted) && decide ((srcCfgOf q i).fallback ≠ (srcCfgOf q i).target)
  let kept := q.waits.filter (fun w => runs w.1)
  let new := (q.pend.filter (fun i => runs i && !KMap.has kept i)).map (fun i => (i, now))
  { q with waits := kept ++ new }

/-- Issue the message write of target `n` (R456). -/
def msgWrite (n : Nat) (s : State) : State :=
  let t := tgtOf s.irq n
  { emit (.msgWrite n t.msgAddr t.msgData) s with irq := { s.irq with tgt := s.irq.tgt.upd n {} (fun t => { t with msgOpen := true }) } }

/-- The next offer to one target (R456): a message write when the offered set turns from empty to non-empty. -/
def settleTarget (s : State) (n : Nat) : State :=
  let now := offeredNow s.irq n
  let t := tgtOf s.irq n
  if now = t.offered then s
  else
    let s1 := { s with irq := { s.irq with tgt := s.irq.tgt.upd n {} (fun t => { t with offered := now }) } }
    if now && t.mode then msgWrite n s1 else s1

/-- The next offer to every target, after any change of the distributor (R456, R460, R461). -/
def settle (s : State) : State :=
  let s1 := { s with irq := settleWaits (rawNs s) s.irq }
  s1.irq.tgt.keys.foldl settleTarget s1

/-- A shared source fires (R450, R451, R459, R463): pending, or held in its Owl latch while HST sleeps. -/
def fire (i : Nat) (s : State) : State :=
  if reservedSource i then s
  else if hstAsleep s && i < 192 then
    let s1 := { s with irq := { s.irq with latched := addTo s.irq.latched i } }
    if s.pwr.wakeEn.getLsbD i then askWake 66 s1 else s1
  else settle { s with irq := { s.irq with pend := addTo s.irq.pend i } }

/-- A slice cause arises (R447, R448): its bit of SLICE_CAUSE, the event port, source 128 + slice. It wakes CTL (R476). -/
def sliceCause (sl bit : Nat) (s : State) : State :=
  let q := s.irq
  fire (128 + sl) <| askWake 65 { s with irq := { q with sliceCause := q.sliceCause.upd sl 0 (fun w => w ||| BitVec.ofNat 32 (2 ^ bit)), evPend := addTo q.evPend ⟨sl, bit⟩ } }

/-- A port's link event (R136, R447). -/
def linkEvent (p : Nat) (s : State) : State :=
  let sl := sliceOf s p
  sliceCause sl 0 { s with irq := { s.irq with sliceLink := s.irq.sliceLink.upd sl 0 (fun w => w ||| BitVec.ofNat 32 (2 ^ (p % 32))) } }

end Sys2Proof.Machine
end

