-- ==== Sys2Proof/Machine/Operands.lean ====
section
/-! DEFINITION. Operands of commands: the envelope, the order of the checks, the status codes, the response on each path (R82 to R100). -/

namespace Sys2Proof.Machine

/-- A response in the making: STATUS, DETAIL, FIELD_OFFSET, data (R96). -/
structure Verdict where
  status : Nat
  detail : Nat := 0
  off : Nat := 0xFFFF
  data : List Byte := []
deriving DecidableEq, Repr

/-- OK with data. -/
def okV (data : List Byte) : Verdict := { status := 0x00, data }
/-- BUSY. -/
def busyV (d : Nat) : Verdict := { status := 0x01, detail := d }
/-- BAD_OPCODE, naming OPCODE. -/
def badOpV : Verdict := { status := 0x02, off := 0xFF00 }
/-- BAD_LENGTH. -/
def badLenV : Verdict := { status := 0x03 }
/-- BAD_FIELD at a payload offset, or 0xFF00 + n for header byte n. -/
def badFieldV (off : Nat) : Verdict := { status := 0x04, off }
/-- NO_RESOURCE. -/
def noResV (d : Nat) : Verdict := { status := 0x05, detail := d }
/-- CONFLICT with an open set, whose SET_ID forms the data. -/
def heldV (setId : Nat) : Verdict := { status := 0x06, detail := 0xFF, data := leB 2 setId }
/-- CONFLICT with a pair code and the pair records. -/
def pairV (code : Nat) (data : List Byte) : Verdict := { status := 0x06, detail := code, data }
/-- SEALED. -/
def sealedV : Verdict := { status := 0x07 }
/-- STATE. -/
def stateV (d : Nat) : Verdict := { status := 0x08, detail := d }
/-- TIMEOUT. -/
def timeoutV (d : Nat) : Verdict := { status := 0x09, detail := d }
/-- REFUSED. -/
def refusedV (d : Nat) : Verdict := { status := 0x0A, detail := d }
/-- NOT_PRESENT. -/
def absentV : Verdict := { status := 0x0B }
/-- TIME_ADJUSTED. -/
def adjustedV (data : List Byte) : Verdict := { status := 0x0C, data }
/-- FAULT. -/
def faultV (d : Nat) : Verdict := { status := 0x0D, detail := d }
/-- NEED_QUAD with a pair code. -/
def needQuadV (code : Nat) : Verdict := { status := 0x0E, detail := code }
/-- LOG_FULL. -/
def logFullV : Verdict := { status := 0x0F }

/-- A command took effect, or was staged (R98). -/
def tookEffect (status : Nat) : Bool := status = 0x00 || status = 0x0C

/-- FLAGS bit 0, STAGED (R95). -/
def staged (e : Env) : Bool := e.flags.getLsbD 0
/-- FLAGS bit 1, NO_RSP. -/
def noRsp (e : Env) : Bool := e.flags.getLsbD 1
/-- FLAGS bit 2, PTR. -/
def ptr (e : Env) : Bool := e.flags.getLsbD 2

/-- The 16 header bytes and the data of a response (R96). -/
def rspBytes (r : Response) : List Byte :=
  leB 2 r.opcode ++ leB 1 r.status ++ leB 1 r.detail ++ leB 2 r.data.length ++ leB 2 r.fieldOffset ++ leB 4 r.tag.toNat ++ leB 4 0 ++ r.data

/-- A set that still stands: OPEN, CHECKED, VOTING, ARMED or NORMALISING (R97, R103). -/
def QSet.live (q : QSet) : Bool := decide (q.st ≠ .done) && decide (q.st ≠ .aborted)

/-- The live set with an ID. -/
def findSet (s : State) (id : Nat) : Option QSet := s.quad.sets.find? (fun q => q.live && decide (q.id = id))

/-- Change the live set with an ID. -/
def updSet (id : Nat) (f : QSet → QSet) (s : State) : State :=
  { s with quad := { s.quad with sets := s.quad.sets.map (fun q => if q.live && decide (q.id = id) then f q else q) } }

/-- The inline limit of a path (R83, R91). -/
def inlineLimit (s : State) (p : Path) : Nat :=
  match p with
  | .mailbox => 240
  | .otd => 240
  | .admin _ => if gen2 s then 48 else 16

/-- The first of some verdicts. -/
def firstOf : List (Option Verdict) → Option Verdict
  | [] => none
  | some v :: _ => some v
  | none :: l => firstOf l

/-- A verdict under a condition. -/
def unlessOk (ok : Bool) (v : Verdict) : Option Verdict := if ok then none else some v

/-- The header checks (R97, R100). -/
def headerVerdict (stageable : Bool) (e : Env) (s : State) : Option Verdict :=
  firstOf [
    unlessOk (e.fmt = 1) (badFieldV 0xFF03),
    unlessOk (e.flags.toNat < 8) (badFieldV 0xFF02),
    match (leB 4 e.rsvd.toNat).findIdx? (· ≠ 0) with
      | some k => some (badFieldV (0xFF0C + k))
      | none => none,
    unlessOk (staged e == decide (e.setId ≠ 0)) (badFieldV 0xFF02),
    unlessOk (!staged e || stageable) (badFieldV 0xFF02),
    unlessOk (!staged e || (findSet s e.setId).isSome) (badFieldV 0xFF04)]

/-- The length check: PTR with PAYLOAD_LEN 12 and 1 to 65 536 bytes, or an inline payload of PAYLOAD_LEN bytes that the path holds; and the
command's own length rule (R87, R91, R95). -/
def lengthVerdict (len : Nat → Bool) (e : Env) (s : State) : Option Verdict :=
  let n := e.payload.length
  let form := if ptr e then decide (e.plen = 12) && decide (0 < n) && decide (n ≤ 65536)
    else decide (e.plen = n) && decide (n ≤ inlineLimit s e.path)
  unlessOk (form && len n) badLenV

/-- What a command's own checks find, in the order of R99; `fields` are (offset, good) in payload order. -/
structure Chk where
  present : Bool := true
  fields : List (Nat × Bool) := []
  held : Option Nat := none
  needQuad : Option Nat := none
  busy : Option Nat := none
  st : Option Nat := none
  pair : Option (Nat × List Byte) := none
  resource : Option Nat := none

/-- The first bad field. -/
def fieldVerdict (fs : List (Nat × Bool)) : Option Verdict := (fs.find? (fun f => !f.2)).map (fun f => badFieldV f.1)

/-- The verdict of a command's own checks (R99). -/
def chkVerdict (c : Chk) : Option Verdict :=
  firstOf [unlessOk c.present absentV, fieldVerdict c.fields, c.held.map heldV, c.needQuad.map needQuadV, c.busy.map busyV, c.st.map stateV,
    c.pair.map (fun p => pairV p.1 p.2), c.resource.map noResV]

/-! Whose turn it is (R82, R93). -/

/-- The power controller still owes a command its answer (R474). -/
def owesCommand (r : AskRound) : Bool := match r.by' with | .auto => false | _ => true

/-- A command has begun whose response is still to come (R82); a QUAD_APPLY that waits for its set is not among them (R93). -/
def commandRuns (s : State) : Bool :=
  s.eng.rt.any (fun x => x.2.owed.isSome) || !s.badger.sliceOwed.isEmpty || s.pwr.rounds.any owesCommand || s.sez.following.isSome

/-- A QUAD_APPLY taken on a path waits for its set to be armed (R93). -/
def appliesOn (s : State) (p : Path) : Bool := s.quad.sets.any (fun q => match q.owed with | some e => decide (e.path = p) | none => false)

/-- A mailbox command waits for firmware, or firmware executes one (R82). -/
def mailboxFirst (s : State) : Bool := s.mb.busy && s.mb.ready.isNone && !appliesOn s .mailbox

/-- Journalled commands that firmware has not taken up, oldest first (R93). -/
def journalTodo (s : State) : List JEntry := s.adm.journal.filter (fun j => !j.done && !appliesOn s (.admin j.index))

/-- Whether firmware may execute a command now (R82, R93): no other is in progress; an admin one waits for a mailbox command and for the journalled
ones before it. Otdiuri executes its own (R400). -/
def inTurn (e : Env) (s : State) : Bool :=
  match e.path with
  | .otd => true
  | .mailbox => !commandRuns s
  | .admin i => !commandRuns s && !mailboxFirst s && !appliesOn s (.admin i) && (match journalTodo s with | [] => true | j :: _ => decide (j.index = i))

/-- `f`, if it is the command's turn (R82, R93). -/
def ifTurn (e : Env) (f : State → State) (s : State) : State := if inTurn e s then f s else s

/-- The opcodes of classes 0x01 to 0x12 (R98). -/
def knownOps : List Nat :=
  let upTo := fun (c n : Nat) => (List.range n).map (fun k => 256 * c + k + 1)
  upTo 0x01 7 ++ upTo 0x02 5 ++ upTo 0x03 9 ++ upTo 0x04 4 ++ upTo 0x05 7 ++ upTo 0x06 6 ++ upTo 0x07 6 ++ upTo 0x08 8 ++ upTo 0x09 7 ++ upTo 0x0A 4
    ++ upTo 0x0B 6 ++ upTo 0x0C 7 ++ upTo 0x0D 6 ++ upTo 0x0E 9 ++ upTo 0x0F 5 ++ upTo 0x10 5 ++ upTo 0x11 4 ++ upTo 0x12 5

/-- The opcodes that Otdiuri knows (R98, R402). -/
def knownOtdOps : List Nat :=
  [0x8001, 0x8002, 0x8101, 0x8102, 0x8103, 0x8104, 0x8201, 0x8202, 0x8203, 0x8301, 0x8302, 0x8303, 0x8401, 0x8402, 0x8403, 0x8501, 0x8502]

/-- Mark the journal entry of ring index `i` done (R93). -/
def journalDone (i status : Nat) : List JEntry → List JEntry
  | [] => []
  | j :: l => if j.index = i && !j.done then { j with done := true, status } :: l else j :: journalDone i status l

/-- Completing the command of ring index `i` completes one from the journal after a reset (R119). -/
def replaysNow (i : Nat) (l : List JEntry) : Nat := match l.find? (fun j => decide (j.index = i) && !j.done) with | some j => b2n j.again | none => 0

/-- Give the oldest accepted admin entry of ring index `i` its result (R93, R417). -/
def adminResult (i : Nat) (v : Verdict) (tag : Word) (q : SubQ) : SubQ :=
  let rec go : List Work → List Work
    | [] => []
    | w :: l =>
      if w.kind = .admin && w.pos % q.size = i && w.result.isNone then
        { w with result := some v.status, detail := v.detail, outLen := v.data.length, tag32 := tag.toNat } :: l
      else w :: go l
  { q with works := go q.works }

/-- Give a command its response on its path (R84, R94, R96, R400). -/
def respond (e : Env) (op : Nat) (v : Verdict) (s : State) : State :=
  let r : Response := ⟨op, v.status, v.detail, v.off, e.tag, v.data⟩
  match e.path with
  | .mailbox => { s with mb := { s.mb with ready := some (r, tookEffect v.status) } }
  | .admin i =>
    let s1 := if noRsp e && v.status = 0 then s else hpiWrite (s.adm.rspBase + 256 * i) (rspBytes r) s
    { s1 with
      adm := { s1.adm with journal := journalDone i v.status s1.adm.journal, replayed := s1.adm.replayed + replaysNow i s1.adm.journal }
      hq := { s1.hq with sq := s1.hq.sq.mapV (fun q x => if q = 0 then adminResult i v e.tag x else x) } }
  | .otd =>
    { s with otd := { s.otd with
        orsp := some r, done := true, busy := false, lastTag := if tookEffect v.status then e.tag else s.otd.lastTag } }

/-- The class of an opcode fits the path (R86): classes 0x80 to 0x8F on the Otdiuri mailbox alone, the others on the boot mailbox and admin queue. -/
def pathVerdict (op : Nat) (e : Env) : Option Verdict :=
  unlessOk (decide (e.path = .otd) == decide (0x8000 ≤ op)) badOpV

/-- The verdict before a command's own checks: path, header, length, and the read of a PTR payload (R87, R99). -/
def envVerdict (op : Nat) (stageable : Bool) (len : Nat → Bool) (e : Env) (s : State) : Option Verdict :=
  firstOf [pathVerdict op e, headerVerdict stageable e s, lengthVerdict len e s, unlessOk (!e.ptrFault || !ptr e) (faultV 0x20)]

/-- Every check of a command that is not stageable. -/
def cmdVerdict (op : Nat) (len : Nat → Bool) (chk : Chk) (e : Env) (s : State) : Option Verdict :=
  firstOf [envVerdict op false len e s, chkVerdict chk]

/-- Run a command that is not stageable in its turn: refuse it by its first failing check, or take its effect, which gives the response itself. -/
def runCmd (op : Nat) (len : Nat → Bool) (chk : Chk) (e : Env) (eff : State → State) (s : State) : State :=
  ifTurn e (fun s => match cmdVerdict op len chk e s with
    | some v => respond e op v s
    | none => eff s) s

/-- Run a command whose response is OK with data formed from the state before it. -/
def runOk (op : Nat) (len : Nat → Bool) (chk : Chk) (e : Env) (data : State → List Byte) (eff : State → State) (s : State) : State :=
  runCmd op len chk e (fun s => respond e op (okV (data s)) (eff s)) s

/-- A payload of exactly `n` bytes. -/
def lenIs (n : Nat) : Nat → Bool := fun k => k = n

/-- Reserved payload bytes: `n` zeros from `off`; a bad one is named by the offset of its field's first byte. -/
def zeroAt (p : List Byte) (off n : Nat) : Nat × Bool := (off, fld p off n = 0)

/-- A field below a bound. -/
def below (p : List Byte) (off n bound : Nat) : Nat × Bool := (off, fld p off n < bound)

/-- A field within bounds. -/
def within (p : List Byte) (off n lo hi : Nat) : Nat × Bool := (off, decide (lo ≤ fld p off n) && decide (fld p off n ≤ hi))

end Sys2Proof.Machine
end

