-- ==== Sys2Proof/Machine/CfgPort.lean ====
section
/-! DEFINITION. PORT commands that can be staged: rates and lanes, and what each command writes (R123 to R145). -/

namespace Sys2Proof.Machine

/-- The rate of a speed code in Mbit/s (R124); 0 for an unknown code. -/
def speedMbps (code : Nat) : Nat :=
  [0, 10, 100, 1000, 2500, 5000, 10000, 25000, 40000, 50000, 100000, 200000, 400000, 800000, 1600000].getD code 0

/-- The number of lanes of a speed code (R48, R124). -/
def speedLanes (code : Nat) : Nat := if code = 0x0C then 2 else if code = 0x0D then 4 else if code = 0x0E then 8 else 1

/-- A speed code exists on a lane kind (R124). -/
def speedOnKind (code kind : Nat) : Bool :=
  if kind = 0 then 3 ≤ code && code ≤ 0x0E else if kind = 3 then code = 3 else code = 1 || code = 2

/-- A rate that may share a ULI lane (R124). -/
def speedShares (code : Nat) : Bool := 3 ≤ code && code ≤ 9

/-- A rate with energy-efficient Ethernet (R124). -/
def speedEee (code : Nat) : Bool := 2 ≤ code && code ≤ 7

/-- A rate with preemption (R124, R140). -/
def speedPreempts (code : Nat) : Bool := code ≤ 0x0A

/-- The pair 0x01 agrees: the lane set matches the speed (R48, R105, R124). -/
def lanesAgree (speed first count : Nat) : Bool := count = speedLanes speed && first % speedLanes speed = 0

/-- Two ports of one slice can stand beside each other on their lanes (R125). -/
def lanesMeet (a b : PortCfg) : Bool :=
  if (a.kind = 0) != (b.kind = 0) then true
  else if a.kind ≠ 0 then a.first ≠ b.first
  else a.first + a.count ≤ b.first || b.first + b.count ≤ a.first
    || (speedShares a.speed && speedShares b.speed && a.count = 1 && b.count = 1 && a.sub ≠ b.sub)

/-- The rates of the sub-ports on a lane (R125). -/
def laneLoad (ports : KMap Nat PortCfg) (sl lane : Nat) : Nat :=
  sumOf (fun q => if q.1 / 32 = sl && q.2.kind = 0 && q.2.first ≤ lane && lane < q.2.first + q.2.count then speedMbps q.2.speed else 0) ports

/-- PORT_CFG as the payload gives it. -/
def portCfgOf (p : List Byte) : PortCfg :=
  ⟨byteAt p 2, byteAt p 3, byteAt p 4, byteAt p 5, byteAt p 6, bitN (byteAt p 7) 0, fld p 8 2⟩

/-- PORT_CFG writes the port's configuration (R123). -/
def portCfgUpd (_b : Build) (e : Env) (c : Cfg) : Cfg := { c with ports := c.ports.set (fld e.payload 0 2) (portCfgOf e.payload) }

/-- The lane claims of a configuration (R103, worked apply of 03). -/
def laneClaims (port : Nat) (x : PortCfg) : List Claim :=
  (List.range x.count).flatMap (fun k =>
    if speedShares x.speed && x.kind = 0 then [⟨0, port / 32 * 64 + x.first + k, x.sub⟩]
    else (List.range 4).map (fun j => ⟨0, port / 32 * 64 + (if x.kind = 0 then 0 else 32) + x.first + k, j⟩))

/-- What PORT_CFG claims: the port, its present lanes and its new ones. -/
def portCfgClaims (e : Env) (s : State) : List Claim :=
  let p := fld e.payload 0 2
  ⟨0x0301, p, 0⟩ :: (laneClaims p (portCfgOf e.payload) ++ (match (cfg s).ports.get? p with | some x => laneClaims p x | none => []))

/-- PORT_FC writes the pause settings (R138, R139). -/
def portFcUpd (_b : Build) (e : Env) (c : Cfg) : Cfg :=
  let p := e.payload
  { c with fc := c.fc.set (fld p 0 2) ⟨byteAt p 2, byteAt p 3, byteAt p 4 = 1, fld p 6 2, fld p 8 4, fld p 12 4, fld p 16 2⟩ }

/-- PORT_PREEMPT writes the preemption settings (R140). -/
def portPreemptUpd (_b : Build) (e : Env) (c : Cfg) : Cfg :=
  let p := e.payload
  { c with preempt := c.preempt.set (fld p 0 2) ⟨byteAt p 2 = 1, byteAt p 3 = 1, byteAt p 4, fld p 6 2, fld p 8 2⟩ }

/-- PORT_EEE writes the low-power-idle settings (R141). -/
def portEeeUpd (_b : Build) (e : Env) (c : Cfg) : Cfg :=
  let p := e.payload
  { c with eee := c.eee.set (fld p 0 2) ⟨byteAt p 2 = 1, fld p 4 2, fld p 8 4⟩ }

/-- PORT_WAKE_FILTER writes a filter (R145). -/
def portWakeFilterUpd (_b : Build) (e : Env) (c : Cfg) : Cfg :=
  let p := e.payload
  let f : WakeFilter := ⟨fld p 2 4, byteAt p 6, bitN (byteAt p 7) 0, bitN (byteAt p 7) 1, sub p 8 32, fld p 40 4⟩
  { c with wake := c.wake.set (byteAt p 0 * 16 + byteAt p 1) f }

/-- PORT_LINK_HOLD writes the link timers (R136, R137). -/
def portLinkHoldUpd (_b : Build) (e : Env) (c : Cfg) : Cfg :=
  let p := e.payload
  { c with hold := c.hold.set (fld p 0 2) ⟨fld p 2 2, fld p 4 4, fld p 8 4⟩ }

/-- A port number of a port command: present, and below the bound that its table gives. -/
def portThere (s : State) (port bound : Nat) : Bool := bound ≤ port || portPresent s port

end Sys2Proof.Machine
end

