-- ==== Sys2Proof/Machine/CfgTime.lean ====
section
/-! DEFINITION. What the stageable commands of class STAMP do to the configuration (R165, R169). -/

namespace Sys2Proof.Machine

/-- A signed field of `n` bytes. -/
def sfld (p : List Byte) (off n : Nat) : Int := signedN (8 * n) (fld p off n)

/-- STAMP_PORT_CFG (R165, R173). -/
def stampPortCfgUpd (_b : Build) (e : Env) (c : Cfg) : Cfg :=
  let p := e.payload
  { c with stampP := c.stampP.set (fld p 0 2) ⟨fld p 2 2, sfld p 4 2, sfld p 6 2, sfld p 8 2, sfld p 10 2⟩ }

/-- The settings that PTP_PORT_CFG names. -/
def ptpCfgOf (p : List Byte) : PtpCfg :=
  { role := byteAt p 2, oneStepSync := bitN (byteAt p 3) 0, oneStepPdelay := bitN (byteAt p 3) 1, v20 := bitN (byteAt p 3) 2, v21 := bitN (byteAt p 3) 3
    peerDelay := fld p 4 4, asym := sfld p 8 4, profile := byteAt p 12, domain := byteAt p 13, prio1 := byteAt p 14, prio2 := byteAt p 15, clockId := sub p 16 8 }

/-- PTP_PORT_CFG (R169). -/
def ptpPortCfgUpd (_b : Build) (e : Env) (c : Cfg) : Cfg := { c with ptp := c.ptp.set (fld e.payload 0 2) (ptpCfgOf e.payload) }

end Sys2Proof.Machine
end

