-- ==== Sys2Proof/Machine/CfgDomain.lean ====
section
/-! DEFINITION. What DOMAIN_PORT_SET does to the configuration (R345). -/

namespace Sys2Proof.Machine

/-- DOMAIN_PORT_SET (R345). -/
def domainPortSetUpd (_b : Build) (e : Env) (c : Cfg) : Cfg :=
  let p := e.payload
  { c with domPort := if byteAt p 2 = 1 then c.domPort.set (fld p 0 2) ⟨byteAt p 3, sfld p 4 4⟩ else c.domPort.del (fld p 0 2) }

end Sys2Proof.Machine
end

