-- ==== Sys2Proof/Machine/CfgEngine.lean ====
section
/-! DEFINITION. ENGINE commands that can be staged: what each writes into the configuration (R224, R225, R239). -/

namespace Sys2Proof.Machine

/-- PROG_BIND MAP (R224): LOAD_ID 0 unmaps. -/
def progBindMapUpd (_b : Build) (e : Env) (c : Cfg) : Cfg :=
  let p := e.payload
  let k := fld p 0 2 * 64 + byteAt p 3
  { c with progMap := if fld p 4 2 = 0 then c.progMap.del k else c.progMap.set k (fld p 4 2) }

/-- The ports that a PROG_BIND DEFAULT names (R225). -/
def bindPorts (p : List Byte) : List Nat :=
  (setBits 32 (fld p 8 4)).map (fun i => fld p 0 2 / 4 * 32 + i) ++ (setBits 64 (fld p 12 8)).map (fun h => 1024 + h)

/-- PROG_BIND DEFAULT (R225). -/
def progBindDefaultUpd (_b : Build) (e : Env) (c : Cfg) : Cfg :=
  let p := e.payload
  { c with progDef := (bindPorts p).foldl (fun m x => m.set (fld p 0 2 * 2048 + x) (byteAt p 3)) c.progDef }

/-- CONST_SET (R239). -/
def constSetUpd (_b : Build) (e : Env) (c : Cfg) : Cfg :=
  let p := e.payload
  { c with consts := (List.range (byteAt p 3)).foldl (fun m i => m.set (fld p 0 2 * 64 + byteAt p 2 + i) (BitVec.ofNat 32 (fld p (4 + 4 * i) 4))) c.consts }

end Sys2Proof.Machine
end

