-- ==== Sys2Proof/Machine/CfgFlow.lean ====
section
/-! DEFINITION. FLOW commands that can be staged: what each writes into the configuration (R319 to R343). -/

namespace Sys2Proof.Machine

/-- The REPLICAS of a FLOW_ADD or FLOW_MODIFY payload. -/
def replicasOf (p : List Byte) : List Nat := (List.range (byteAt p 7)).map (fun i => fld p (16 + 2 * i) 2)

/-- The home slice of a flow (R319): from its ID, or as the command names it for a foreign flow. -/
def homeSlice (inst flow named : Nat) : Nat := if flow / 2 ^ 21 = inst then (flow / 65536) % 32 else named

/-- The key slots of a flow: one that no other flow has, of firmware's choosing, in each slice of KEY_SLICES (R320, R323; free value, log 23). -/
def keySlotsOf (c : Cfg) (flow mask : Nat) : KMap Nat Nat :=
  (setBits 32 mask).map (fun sl =>
    (sl, (fwPick 1 (flow * 32 + sl) 0 65535 (fun k => c.flows.any (fun y => decide (y.1 ≠ flow) && decide (y.2.keySlots.get? sl = some k)))).getD 0))

/-- The instance bits of a flow that the payload names; a local one bears the instance in force, which FLOW_ADD has checked (R319): a foreign
flow is told by its FROM_TAG and its named slice, so the slot of either is a function of the payload. -/
def flowOfPayload (c : Cfg) (p : List Byte) (flow slot sl : Nat) : FlowCfg :=
  { enabled := bitN (byteAt p 5) 0, guarded := bitN (byteAt p 5) 1, recover := bitN (byteAt p 5) 2
    seqMode := bitsN (byteAt p 6) 1 0, tagKind := bitsN (byteAt p 6) 3 2, replicaCount := byteAt p 7, ageLimit := fld p 8 2
    replicas := replicasOf p, recTimeout := fld p 10 2, recHold := byteAt p 12, recSlices := fld p 28 4, keySlices := fld p 32 4
    minCells := fld p 24 4, user := sub p 36 10, key := sub p 48 44, slice := sl, slot, keySlots := keySlotsOf c flow (fld p 32 4) }

/-- FLOW_ADD creates the flow (R320). Reserved bytes, which a sender leaves 0, carry here what the meaning has settled: bit 15 of bytes 46 and 47 says
that the flow is foreign, and bytes 22 and 23 hold the slot that firmware has chosen for it. -/
def flowAddUpd (_b : Build) (e : Env) (c : Cfg) : Cfg :=
  let p := e.payload
  let f := fld p 0 4
  let foreign := bitN (fld p 46 2) 15
  let sl := if foreign then byteAt p 4 else (f / 65536) % 32
  let slot := if foreign then fld p 22 2 else f % 65536
  { c with flows := c.flows.set f (flowOfPayload c p f slot sl) }

/-- FLOW_MODIFY changes the selected fields; a stored field that the flow no longer uses becomes 0 (FLOW_MODIFY). -/
def flowModified (p : List Byte) (x : FlowCfg) : FlowCfg :=
  let ch := byteAt p 4
  let x := if bitN ch 0 then { x with enabled := bitN (byteAt p 5) 0, guarded := bitN (byteAt p 5) 1, recover := bitN (byteAt p 5) 2 } else x
  let x := if bitN ch 1 then { x with ageLimit := fld p 8 2 } else x
  let x := if bitN ch 2 then { x with recTimeout := fld p 10 2, recHold := byteAt p 12 } else x
  let x := if bitN ch 3 then { x with replicaCount := byteAt p 7, replicas := replicasOf p } else x
  let x := if bitN ch 4 then { x with minCells := fld p 24 4 } else x
  let x := if bitN ch 5 then { x with recSlices := fld p 28 4 } else x
  let x := if bitN ch 6 then { x with user := sub p 36 10 } else x
  let x := if x.guarded then x else { x with ageLimit := 0 }
  if x.recover then x else { x with recTimeout := 0, recHold := 0, recSlices := 0 }

/-- FLOW_MODIFY. -/
def flowModifyUpd (_b : Build) (e : Env) (c : Cfg) : Cfg :=
  { c with flows := c.flows.mapV (fun f x => if f = fld e.payload 0 4 then flowModified e.payload x else x) }

/-- FLOW_DELETE. -/
def flowDeleteUpd (_b : Build) (e : Env) (c : Cfg) : Cfg := { c with flows := c.flows.del (fld e.payload 0 4) }

/-- PRP_HSR_SET; MODE 0 frees the ports (R341). -/
def prpHsrSetUpd (_b : Build) (e : Env) (c : Cfg) : Cfg :=
  let p := e.payload
  { c with prp := if byteAt p 1 = 0 then c.prp.del (byteAt p 0)
      else c.prp.set (byteAt p 0) ⟨byteAt p 1, fld p 2 2, fld p 4 2, fld p 6 2, sub p 8 6⟩ }

end Sys2Proof.Machine
end

