-- ==== Sys2Proof/Machine/CfgFwd.lean ====
section
/-! DEFINITION. BUF and FWD commands that can be staged: what each writes into the configuration (R242 to R270). -/

namespace Sys2Proof.Machine

/-- The members of a bitmap of bytes: bit p of byte p / 8 at bit position p mod 8 (VLAN_SET). -/
def bitmapPorts (l : List Byte) : List Nat := (List.range (8 * l.length)).filter (fun p => bitN (byteAt l (p / 8)) (p % 8))

/-- FLOW_MIN_SET writes a flow's MIN_CELLS (R250). -/
def flowMinSetUpd (_b : Build) (e : Env) (c : Cfg) : Cfg :=
  { c with flows := c.flows.mapV (fun f x => if f = fld e.payload 0 4 then { x with minCells := fld e.payload 4 4 } else x) }

/-- SHARED_LIMIT_SET writes a queue's ALPHA and MAX_CELLS (R247). -/
def sharedLimitSetUpd (_b : Build) (e : Env) (c : Cfg) : Cfg :=
  { c with sharedLim := c.sharedLim.set (fld e.payload 0 4) ⟨byteAt e.payload 4, fld e.payload 8 4⟩ }

/-- CUT_THROUGH_SET (R270). -/
def cutThroughSetUpd (_b : Build) (e : Env) (c : Cfg) : Cfg :=
  let p := fld e.payload 0 2
  { c with cut := if byteAt e.payload 2 = 1 then addTo c.cut p else dropFrom c.cut p }

/-- VLAN_SET KIND 0: set or delete a VLAN (R258). -/
def vlanSetVlanUpd (_b : Build) (e : Env) (c : Cfg) : Cfg :=
  let p := e.payload
  let v := fld p 2 2
  { c with vlans := if bitN (byteAt p 1) 1 then
      c.vlans.set v ⟨bitN (byteAt p 1) 0, fld p 4 2, false, bitmapPorts (sub p 8 136), bitmapPorts (sub p 144 136)⟩ else c.vlans.del v }

/-- VLAN_SET KIND 1: a port's VLAN settings (R258). -/
def vlanSetPortUpd (_b : Build) (e : Env) (c : Cfg) : Cfg :=
  let p := e.payload
  { c with portVlan := c.portVlan.set (fld p 2 2) ⟨bitN (byteAt p 1) 0, bitsN (byteAt p 1) 2 1, fld p 4 2, byteAt p 6⟩ }

/-- LEARN_CFG KIND 0 (R261, R263, R264). -/
def learnCfgGlobalUpd (_b : Build) (e : Env) (c : Cfg) : Cfg :=
  let p := e.payload
  { c with learnG := ⟨bitN (byteAt p 1) 0, fld p 2 2, fld p 4 4, fld p 8 4⟩ }

/-- LEARN_CFG KIND 1 (R262). -/
def learnCfgPortUpd (_b : Build) (e : Env) (c : Cfg) : Cfg :=
  let p := e.payload
  { c with learnP := c.learnP.set (fld p 2 2) ⟨bitN (byteAt p 1) 0, bitN (byteAt p 1) 1, fld p 4 4⟩ }

/-- MCAST_GROUP_SET (R265). -/
def mcastGroupSetUpd (_b : Build) (e : Env) (c : Cfg) : Cfg :=
  let p := e.payload
  { c with mcast := if bitN (byteAt p 2) 0 then c.mcast.set (fld p 0 2) ⟨bitmapPorts (sub p 4 136), bitmapPorts (sub p 140 16)⟩
                    else c.mcast.del (fld p 0 2) }

/-- The member ports of a LAG_SET payload. -/
def lagMembersOf (p : List Byte) : List Nat := (List.range (byteAt p 8)).map (fun i => fld p (16 + 2 * i) 2)

/-- LAG_SET (R267). -/
def lagSetUpd (_b : Build) (e : Env) (c : Cfg) : Cfg :=
  let p := e.payload
  { c with lags := if bitN (byteAt p 1) 0 then c.lags.set (byteAt p 0) ⟨fld p 2 2, fld p 4 4, lagMembersOf p, fld p 12 4⟩
                   else c.lags.del (byteAt p 0) }

end Sys2Proof.Machine
end

