-- ==== Sys2Proof/Machine/CfgHost.lean ====
section
/-! DEFINITION. What the stageable commands of class HQ do to the configuration (R432, R433). -/

namespace Sys2Proof.Machine

/-- The filter that RX_FILTER_SET names. -/
def rxFilterOf (p : List Byte) : RxFilter :=
  { toGroup := bitN (byteAt p 2) 1, fields := byteAt p 3, da := nfld p 4 6, vid := fld p 10 2, etherType := fld p 12 2, q := byteAt p 14, flow := fld p 16 4
    target := fld p 20 2 }

/-- RX_FILTER_SET (R433). -/
def rxFilterSetUpd (_b : Build) (e : Env) (c : Cfg) : Cfg :=
  let p := e.payload
  let k := byteAt p 0 * 256 + byteAt p 1
  { c with rxFilter := if bitN (byteAt p 2) 0 then c.rxFilter.set k (rxFilterOf p) else c.rxFilter.del k }

/-- RSS_SET (R433). -/
def rssSetUpd (_b : Build) (e : Env) (c : Cfg) : Cfg :=
  let p := e.payload
  let x : RssCfg := ⟨byteAt p 1, fld p 4 2, fld p 8 4, (List.range 128).map (fun i => fld p (16 + 2 * i) 2)⟩
  { c with rss := if bitN (byteAt p 2) 0 then c.rss.set (byteAt p 0) x else c.rss.del (byteAt p 0) }

/-- OFFLOAD_SET (R432, R436). -/
def offloadSetUpd (_b : Build) (e : Env) (c : Cfg) : Cfg :=
  { c with offload := c.offload.set (byteAt e.payload 0) (byteAt e.payload 1) }

end Sys2Proof.Machine
end

