-- ==== Sys2Proof/Machine/Frames.lean ====
section
/-! DEFINITION. Frames on their way: lengths, stamps, charges and cells, meter events, capture events, pause frames, discards (04, 08, 09, 11). -/

namespace Sys2Proof.Machine

/-- "No flow" (R319). -/
def noFlow : Nat := 0x3FFFFFFF

/-- A number of metadata word `i`. -/
def mWord (m : List Word) (i : Nat) : Nat := (m.getD i 0).toNat

/-- M5.QUEUE (R211). -/
def m5Queue (m : List Word) : Nat := bitsN (mWord m 5) 3 0
/-- M5.PRIO (R211). -/
def m5Prio (m : List Word) : Nat := bitsN (mWord m 5) 6 4

/-- Length from DA through FCS: shorter data is padded to 60 bytes (R222, R431). -/
def wireLen (data : List Byte) : Nat := max data.length 60 + 4

/-- Queue ID (R271). -/
def qid (p q : Nat) : Nat := 16 * p + q

/-- The copies on a queue. -/
def queueOf (s : State) (id : Nat) : List Copy := s.tm.queues.getD id []

/-- Put copies on a queue. The port's idle time starts when a queue of it turns empty (R141). -/
def setQueue (id : Nat) (l : List Copy) (s : State) : State :=
  let s1 := { s with tm := { s.tm with queues := s.tm.queues.set id l } }
  if l.isEmpty && !(queueOf s id).isEmpty then updPort (id / 16) (fun x => { x with emptySince := rawNs s }) s1 else s1

/-- An admitted frame. -/
def storedOf (s : State) (f : Nat) : Option Stored := s.buf.frames.get? f

/-- Change an admitted frame. -/
def updStored (f : Nat) (g : Stored → Stored) (s : State) : State :=
  match s.buf.frames.get? f with
  | none => s
  | some x => { s with buf := { s.buf with frames := s.buf.frames.set f (g x) } }

/-- The rate of a port in Mbit/s: as configured, or the HPI rate of 512 bits per HCLK clock for a host port (R271). -/
def rateOf (s : State) (c : Cfg) (p : Nat) : Nat :=
  if isHostPort p then 512 * (Config.hclkMhz + 0 * nSlices s) else
  match c.ports.get? p with
  | some x => speedMbps x.speed
  | none => 0

/-- A port can carry copies out: a host port always, another while its link is UP. -/
def portUp (s : State) (p : Nat) : Bool := isHostPort p || decide ((port s p).link = .up)

/-- The 40-bit stamp of a time in 1/16 ns with its flags (R155). -/
def stampBits (t16 : Int) (flags : Nat) : Nat := unsignedN 32 (t16 / 16) * 256 + (unsignedN 4 t16) * 16 + flags % 4

/-- CAL_STALE of a port: its record's, or its slice's time receiver is in fault (R164, R493). -/
def portStale (s : State) (p : Nat) : Bool := (port s p).calStale || decide (sliceOf s p ∈ s.time.skewed)

/-- Flags of a stamp that a port takes now (R155). -/
def stampFlags (s : State) (p : Nat) : Nat := 2 * b2n (!s.time.valid) + b2n (portStale s p)

/-- TIME now in 1/16 ns, rounded down. -/
def timeSixteenths (s : State) : Int := time16 s / 4096

/-- A stamp of local TIME now, as slice core `sl` takes it (R153). -/
def stampNow (s : State) (sl : Nat) : Nat := stampBits (localSix s sl) (2 * b2n (!s.time.valid))

/-- CRC-32 of IEEE 802.3 is computed over bytes with this reflected polynomial step (R117). -/
def crcStep (poly : BitVec 32) : Nat → BitVec 32 → BitVec 32
  | 0, c => c
  | n + 1, c => crcStep poly n (if c.getLsbD 0 then (c >>> 1) ^^^ poly else c >>> 1)

/-- A reflected CRC of 32 bits over bytes from an initial register value, without the final inversion. The manual names CRC-32 and CRC-32C and gives neither
polynomial nor bit order (PRESUMED, log 126). -/
def crcRun (poly : BitVec 32) (init : BitVec 32) (l : List Byte) : BitVec 32 :=
  l.foldl (fun c b => crcStep poly 8 (c ^^^ b.setWidth 32)) init

/-- CRC-32 of IEEE 802.3. -/
def crc32 (l : List Byte) : BitVec 32 := ~~~ (crcRun 0xEDB88320 0xFFFFFFFF l)

/-- CRC-32C with an initial register value (R268). -/
def crc32c (init : BitVec 32) (l : List Byte) : BitVec 32 := ~~~ (crcRun 0x82F63B78 init l)

/-- The FCS of frame data, first transmitted byte first. -/
def fcsOf (data : List Byte) : List Byte := leB 4 (crc32 data).toNat

/-- Data padded with zeros to 60 bytes. -/
def padded (data : List Byte) : List Byte := data ++ List.replicate (60 - data.length) 0

/-- The bytes of a frame as they leave whole: padded data and FCS. -/
def wholeFrame (data : List Byte) : List Byte := padded data ++ fcsOf (padded data)

/-- The bytes of a stomped frame: FCS XOR 0xFFFF_FFFF (R129). -/
def stompedFrame (data : List Byte) : List Byte := padded data ++ (fcsOf (padded data)).map (fun b => ~~~ b)

/-- The stomped end of a preempted frame after its first `n` bytes (R130): the mCRC of IEEE 802.3br (the CRC of what the frame has sent, with its upper
half inverted) inverted. -/
def stompedFragment (data : List Byte) (n : Nat) : List Byte :=
  let sent := (padded data).take n
  sent ++ leB 4 (~~~ (crc32 sent ^^^ 0xFFFF0000)).toNat

/-- Count a frame for the utilisation of its port, with 20 bytes of preamble and gap (R163). -/
def countLoad (p : Nat) (transmit : Bool) (len : Nat) (s : State) : State :=
  updPort p (fun x => if transmit then { x with loadTx := x.loadTx + len + 20 } else { x with loadRx := x.loadRx + len + 20 }) s

/-- Change the first element that satisfies `p`. -/
def modifyFirst {α : Type} (p : α → Bool) (f : α → α) : List α → List α
  | [] => []
  | x :: l => if p x then f x :: l else x :: modifyFirst p f l

/-- The outcome class of a tap event (R387, R390): 0 good, 2 MAC control, 1 any other of R135's outcomes. -/
def tapClass (outcome : Nat) : Nat := if outcome = 0 then 0 else if outcome = 7 then 2 else 1

/-- An event of `len` bytes joins the first summary that `here` picks, else it begins one under `k`. -/
def tapJoin (here : TapHeld → Bool) (old : Bool) (k : TapSummary) (len : Nat) (l : List TapHeld) : List TapHeld :=
  if l.any here then modifyFirst here (fun h => { h with frames := h.frames + 1, bytes := h.bytes + len }) l else l ++ [{ key := k, frames := 1, bytes := len, old }]

/-- A tap takes an event (R390, R391): it joins the open summary of its key. With none, and a full flush queue, it goes to the spill counters of its port
and direction; else it opens a summary, for which the oldest open one moves to the flush queue when the coalescer holds 4 096 (DESIGN CHOICE, log 120). -/
def tapTake (old : Bool) (k : TapSummary) (len : Nat) (l : List TapHeld) : List TapHeld :=
  let mine := fun (h : TapHeld) => decide (h.key.port / 32 = k.port / 32) && !h.key.spilled
  let isOpen := fun (h : TapHeld) => mine h && !h.queued
  let here := fun (h : TapHeld) => isOpen h && decide (h.key = k) && decide (h.old = old)
  let spill : TapSummary := ⟨k.port, k.transmit, noFlow, 0, true⟩
  if l.any here then tapJoin here old k len l
  else if 256 ≤ (l.filter (fun h => mine h && h.queued)).length then tapJoin (fun h => decide (h.key = spill) && decide (h.old = old)) old spill len l
  else tapJoin here old k len (if (l.filter isOpen).length < 4096 then l else modifyFirst isOpen (fun h => { h with queued := true }) l)

/-- A meter event of an interval at the tap of a port whose port front is On. -/
def meterAs (old : Bool) (p : Nat) (transmit : Bool) (len outcome flow : Nat) (s : State) : State :=
  if (dom s (sliceOf s p)).st = .run && !isHostPort p then
    { s with otd := { s.otd with taps := tapTake old ⟨p, transmit, flow, tapClass outcome, false⟩ len s.otd.taps } }
  else s

/-- A meter event at the tap of a port (R135): outcome 0 good, 1 FCS error, 2 runt, 3 oversize, 4 coding error, 5 fragment, 6 stomped, 7 MAC control. -/
def meterEvent (p : Nat) (transmit : Bool) (len outcome flow : Nat) (s : State) : State := meterAs false p transmit len outcome flow s

/-- The meter event of a frame that the MAC has passed on, with the flow that it returns with: it belongs to the interval of its last byte, and one that
its boundary has charged is not charged again (R390). A bad frame has been reported by the MAC (R135). -/
def meterFrame (f : Frame) (outcome flow : Nat) (s : State) : State :=
  if f.bad then s
  else match f.tap with
  | .fresh => meterAs false f.portIn false (f.data.length + 4) outcome flow s
  | .old => meterAs true f.portIn false (f.data.length + 4) outcome flow s
  | .charged => s

/-- Count for a flow in a slice (FLOW_COUNTERS index). -/
def flowCount (flow sl idx : Nat) (s : State) : State := if flow = noFlow then s else bump ⟨.flow, flow, sl, idx⟩ s

/-- Latch an event cause of a flow and raise FLOW_EVENT at most once per 1 ms (R338): 0 aged, 1 late, 2 rogue reset, 3 gap forced, 4 unmirrored. -/
def flowEvent (flow cause : Nat) (s : State) : State :=
  let old := (s.flows.rt.getD flow {}).events
  if bitN old cause then s
  else
    let s1 := { s with flows := { s.flows with rt := s.flows.rt.upd flow {} (fun r => { r with events := old + 2 ^ cause }) } }
    let due := match s.flows.eventAt with
      | none => true
      | some t => decide (t + 1000000 ≤ rawNs s)
    if due then fire 22 { s1 with flows := { s1.flows with eventAt := some (rawNs s) } } else s1

/-- A rate-limited event: due when none was raised in the last 1 ms. -/
def dueMs (s : State) (at' : Option Nat) : Bool :=
  match at' with
  | none => true
  | some t => decide (t + 1000000 ≤ rawNs s)

/-! Cells and charges (R242 to R250). -/

/-- The bank of a cell address. -/
def bankOf (cell : Nat) : Nat := cell / 8192

/-- Free cells of a bank group in the banks that allocate (R243, R245). -/
def freeInGroup (s : State) (g : Nat) : Nat :=
  sumOf (fun b => if b % 2 = g && !decide (b ∈ s.buf.stopped) then
    8192 - (s.buf.used.filter (fun c => bankOf c = b)).length - (s.buf.badCells.filter (fun c => bankOf c = b && !decide (c ∈ s.buf.used))).length else 0)
    (List.range (4 * nSlices s))

/-- Return the charges of a frame to their accounts (R250). -/
def returnCharges (c : Classified) (s : State) : State :=
  let b := s.buf
  { s with buf := { b with
      minUsed := if c.minCharged = 0 then b.minUsed else b.minUsed.upd c.flow 0 (· - c.minCharged)
      sharedUsed := if c.sharedCharged = 0 then b.sharedUsed else b.sharedUsed.upd c.chargeQ 0 (· - c.sharedCharged)
      flowShared := if c.sharedCharged = 0 || c.flow = noFlow then b.flowShared else b.flowShared.upd c.flow 0 (· - c.sharedCharged)
      sharedInUse := b.sharedInUse - c.sharedCharged } }

/-- A freed cell enters its bank's cache of 32 indices, and goes to the free ring when the cache is full (R251). -/
def cacheFreed (m : KMap Nat (List Nat)) (c : Nat) : KMap Nat (List Nat) :=
  let l := m.getD (bankOf c) []
  if l.length < 32 then m.set (bankOf c) (l ++ [c]) else m

/-- Free cells: those of a bank that has stopped wait for its restoration (R245). -/
def freeCells (cells : List Nat) (s : State) : State :=
  let b := s.buf
  let wait := cells.filter (fun c => decide (bankOf c ∈ b.stopped))
  { s with buf := { b with
      cache := (cells.filter (fun c => !decide (c ∈ wait) && !decide (c ∈ b.badCells))).foldl cacheFreed b.cache
      used := b.used.filter (fun c => !decide (c ∈ cells) || decide (c ∈ wait)), parked := b.parked ++ wait
      cells := b.cells.filter (fun x => !decide (x.1 ∈ cells)) } }

/-- A pause frame (quanta) or, with `prio`, a PFC frame for one priority, from DA to the byte before the FCS (R138, R139; the layout of IEEE 802.3 Annex 31B and
802.1Qbb is PRESUMED, log 126). -/
def pauseFrame (p quanta : Nat) (prio : Option Nat) : List Byte :=
  let head := [0x01, 0x80, 0xC2, 0x00, 0x00, 0x01] ++ beB 6 (Config.macSource p) ++ [0x88, 0x08]
  padded (match prio with
    | none => head ++ [0x00, 0x01] ++ beB 2 quanta
    | some i => head ++ [0x01, 0x01] ++ beB 2 (2 ^ i) ++ (List.range 8).flatMap (fun j => beB 2 (if j = i then quanta else 0)))

/-- Send a pause or PFC frame: ahead of everything that has not started (R139). Tag 1 pause, 2 PFC. -/
def sendPause (p quanta : Nat) (prio : Option Nat) (s : State) : State :=
  updPort p (fun x => { x with fifo := .own (pauseFrame p quanta prio) (if prio.isNone then 1 else 2) :: x.fifo }) s

/-- PORT_FC in force for a port. -/
def fcOf (s : State) (p : Nat) : FcCfg := (cfg s).fc.getD p {}

/-- Ingress cells of a port for a priority, or for all of them in pause mode (R139). -/
def ingressCount (s : State) (p prio : Nat) : Nat :=
  let x := port s p
  if (fcOf s p).mode = 1 then sumOf Prod.snd x.ingressCells else x.ingressCells.getD prio 0

/-- The priority under which a port's pause state is kept: 0 in pause mode. -/
def fcKey (s : State) (p prio : Nat) : Nat := if (fcOf s p).mode = 1 then 0 else prio

/-- The port sends pause or PFC for the priority (R138). -/
def fcActive (s : State) (p prio : Nat) : Bool :=
  let f := fcOf s p
  !isHostPort p && (f.mode = 1 || (f.mode = 2 && bitN f.pfcEnable prio))

/-- Send XOFF when the count reaches XOFF_CELLS (R139). -/
def xoffCheck (p prio : Nat) (s : State) : State :=
  let k := fcKey s p prio
  if fcActive s p prio && (fcOf s p).xoff ≤ ingressCount s p prio && !(port s p).xoff.has k then
    sendPause p (fcOf s p).quanta (if (fcOf s p).mode = 1 then none else some prio)
      (updPort p (fun x => { x with xoff := x.xoff.set k (rawNs s) }) s)
  else s

/-- Send quanta 0 when the count has fallen to XON_CELLS (R139). -/
def xonCheck (p prio : Nat) (s : State) : State :=
  let k := fcKey s p prio
  if (port s p).xoff.has k && ingressCount s p prio ≤ (fcOf s p).xon then
    sendPause p 0 (if (fcOf s p).mode = 1 then none else some prio) (updPort p (fun x => { x with xoff := x.xoff.del k }) s)
  else s

/-- Release the cells and charges of a frame, whole (R28). -/
def releaseFrame (c : Classified) (s : State) : State :=
  let n := c.cells.length
  let pr := m5Prio c.m
  let s1 := freeCells (c.cells ++ c.replica) (returnCharges c s)
  if isHostPort c.frame.portIn then s1
  else xonCheck c.frame.portIn pr (updPort c.frame.portIn (fun x => { x with ingressCells := x.ingressCells.upd pr 0 (· - n) }) s1)

/-- Give the transmit entry of a host frame its result, unless it has one (R419, R431). -/
def txResult (h : HostTx) (status stamp : Nat) (s : State) : State :=
  { s with hq := { s.hq with sq := s.hq.sq.mapV (fun n x => if n = h.queue then
      { x with works := x.works.map (fun w => if w.num = h.num && w.result.isNone then { w with result := some status, stamp } else w) } else x) } }

/-- A host frame with TS_REQ has been discarded before any copy left a port: TS_LOST with a stamp of 0 (R431). -/
def txLost (f : Frame) (s : State) : State :=
  match f.host with
  | some h => txResult h 1 0 s
  | none => s

/-- The first copy of a host frame with TS_REQ has left with a stamp (R431). -/
def txLeft (f : Frame) (stamp : Nat) (s : State) : State :=
  match f.host with
  | some h => txResult h 0 stamp s
  | none => s

/-- Free an admitted frame once no copy of it is left, no slice has still to take it and all its cells are written (R27, R28, R333). -/
def freeIfDone (f : Nat) (s : State) : State :=
  match storedOf s f with
  | none => s
  | some x =>
    if x.left = 0 && x.marks.isEmpty && !x.writing then releaseFrame x.c <| txLost x.c.frame { s with buf := { s.buf with frames := s.buf.frames.del f } }
    else s

/-- A copy of a frame is done or discarded (R28). -/
def copyEnds (f : Nat) (s : State) : State := freeIfDone f (updStored f (fun x => { x with left := x.left - 1 }) s)

/-! Capture (R292 to R300). -/

/-- What a capture event shows of its frame. -/
structure CapEvent where
  point : Nat
  reason : Nat := 0
  slice : Nat
  portIn : Nat := 0
  portOut : Option (Nat × Nat) := none
  flow : Nat := noFlow
  guarded : Bool := false
  mcast : Bool := false
  stampIn : Nat := 0
  stampEv : Nat
  len : Nat := 0
  sojourn : Nat := 0
  data : List Byte := []
deriving DecidableEq, Repr

/-- A rule matches an event (R297). -/
def ruleMatches (r : CapRule) (v : CapEvent) : Bool :=
  let out := v.point = 1 || v.point = 2 || v.point = 3 || v.point = 5
  decide (r.point = v.point)
    && (r.port = 0xFFFF || (if out then (match v.portOut with | some o => decide (o.1 = r.port) | none => false) else decide (v.portIn = r.port)))
    && (!out || (match v.portOut with | some o => bitN r.qMask o.2 | none => false))
    && decide (Nat.land v.flow r.flowMask = r.flowValue)
    && (!(v.point = 2 || v.point = 3) || decide (r.minSojourn ≤ v.sojourn))

/-- Cells of a copy for depth counts: its frame's primary chain (R276). -/
def copyCells (s : State) (c : Copy) : Nat :=
  match storedOf s c.frame with
  | some x => x.c.cells.length
  | none => 0

/-- DEPTH_CELLS of a queue (R276). -/
def depthCells (s : State) (id : Nat) : Nat := sumOf (copyCells s) (queueOf s id)

/-- A record (R295), PHASE left 0. -/
def capRecord (s : State) (rule : Nat) (r : CapRule) (v : CapEvent) : List Byte :=
  let info := v.point * 2 + v.reason * 256 + rule * 65536 + r.snapLen * 2 ^ 24
  let q := match v.portOut with
    | some o => o.1 + o.2 * 2048
    | none => 0x7FFF
  let depth := match v.portOut with
    | some o => depthCells s (qid o.1 o.2)
    | none => 0
  leB 4 info ++ leB 4 (v.flow + b2n v.guarded * 2 ^ 30 + b2n v.mcast * 2 ^ 31) ++ leB 5 v.stampIn ++ leB 5 v.stampEv ++ leB 2 v.len
    ++ leB 2 v.portIn ++ leB 2 q ++ leB 4 depth ++ leB 4 v.sojourn ++ (sub (sub v.data 0 r.snapLen) 0 96)

/-- Put a record into the slice's capture FIFO for its ring (R293, R298). -/
def pushRecord (sl ring : Nat) (bytes : List Byte) (s : State) : State :=
  match s.cap.rings.get? ring with
  | none => bump ⟨.ring, ring, 0, 1⟩ s
  | some r =>
    if !r.running then bump ⟨.ring, ring, 0, 1⟩ s
    else if 64 ≤ s.cap.fifo.getD sl 0 then bump ⟨.tm, sl, 0, 0⟩ s
    else bump ⟨.tm, sl, 0, 2⟩ { s with cap := { s.cap with
        rings := s.cap.rings.set ring { r with fifo := r.fifo ++ [(sl, bytes)] }, fifo := s.cap.fifo.upd sl 0 (· + 1) } }

/-- One rule meets an event: count the match, and act on every SAMPLE_N-th, from the first (R297). The sessions that acted are collected. -/
def ruleStep (v : CapEvent) (a : State × List Nat) (rule : Nat) : State × List Nat :=
  match (cfg a.1).capRule.get? rule with
  | none => a
  | some r =>
    if !ruleMatches r v then a
    else
      let k := v.slice * 64 + rule
      let n := a.1.cap.matched.getD k 0
      let s1 := { a.1 with cap := { a.1.cap with matched := a.1.cap.matched.set k (n + 1) } }
      if n % r.sampleN = 0 then
        (if r.ring < 16 then pushRecord v.slice r.ring (capRecord s1 rule r v) s1 else s1, if r.mirror < 16 then addTo a.2 r.mirror else a.2)
      else (s1, a.2)

/-- A capture event: the records of every rule that acts, and the mirror sessions they name (R296, R297). -/
def capEvent (v : CapEvent) (s : State) : State × List Nat := (cfg s).capEn.foldl (ruleStep v) (s, [])

/-- A POINT 4 event: the slice core discards a frame (R296, R299). -/
def capDrop (sl reason : Nat) (c : Classified) (out : Option (Nat × Nat)) (s : State) : State :=
  (capEvent { point := 4, reason, slice := sl, portIn := c.frame.portIn, portOut := out, flow := c.flow, guarded := c.guarded
              mcast := decide (1 < c.copies.length), stampIn := stampBits c.frame.stamp c.frame.stampFlags, stampEv := stampNow s sl
              len := wireLen c.frame.data, data := c.frame.data } s).1

/-- Discard one copy that was enqueued: its share of the frame is freed and the discard is captured (R28, R296). -/
def discardCopy (reason : Nat) (x : Copy) (s : State) : State :=
  match storedOf s x.frame with
  | none => s
  | some f => copyEnds x.frame (capDrop (sliceOf s x.port) reason f.c (some (x.port, x.q)) s)

/-- A copy is of a guarded frame and no mirror copy (R300). -/
def guardedCopy (s : State) (x : Copy) : Bool :=
  x.mirror.isNone && (match storedOf s x.frame with | some f => f.c.guarded | none => false)

/-- The flow of a copy's frame. -/
def flowOfCopy (s : State) (x : Copy) : Nat := match storedOf s x.frame with | some f => f.c.flow | none => noFlow

/-- The number a copy's frame carries, 0 for none (R327). -/
def seqOfCopy (s : State) (x : Copy) : Nat := match storedOf s x.frame with | some f => f.c.seq.getD 0 | none => 0

/-- Flush the unguarded copies of a port's queues, counting LINK_FLUSH (R137); guarded copies stay under their AGE_LIMIT. -/
def flushPort (p : Nat) (s : State) : State :=
  (List.range 16).foldl (fun s q =>
    let l := queueOf s (qid p q)
    let drop := l.filter (fun c => !guardedCopy s c)
    if drop.isEmpty then s
    else
      let s1 := setQueue (qid p q) (l.filter (guardedCopy s)) s
      drop.foldl (fun s c => discardCopy 0x0C c (bump (pCtr p 16) s)) s1) s

/-- Put copies back at the head of their queues, in the given order (R241, R334, R335). -/
def putBack (cs : List Copy) (s : State) : State :=
  cs.reverse.foldl (fun s c => setQueue (qid c.port c.q) ({ c with data := [], m := [], hdrs := [] } :: queueOf s (qid c.port c.q)) s) s

/-- Write an entry into a slice's DONE log (R132, R133). -/
def pushDone (sl : Nat) (e : DoneEntry) (s : State) : State := updSlice sl (fun x => { x with doneLog := x.doneLog ++ [e] }) s

/-- A port's queues are all empty: nothing queued, released or in transmission. -/
def portEmpty (s : State) (p : Nat) : Bool :=
  (List.range 16).all (fun q => (queueOf s (qid p q)).isEmpty) && (port s p).pacing.isEmpty && (port s p).fifo.isEmpty && (port s p).cur.isNone

/-- Note when a port's queues became empty (R141). -/
def noteEmpty (p : Nat) (s : State) : State := if portEmpty s p then updPort p (fun x => { x with emptySince := rawNs s }) s else s

end Sys2Proof.Machine
end

