-- ==== Sys2Proof/Machine/Parse.lean ====
section
/-! DEFINITION. The parser: the parse graph, its default, and the walk over a frame's head (R179 to R192). -/

namespace Sys2Proof.Machine

/-- Set T_ETH (R187), under the Sezal EtherType in force (R189). -/
def tEth (etherT : Nat) : List Transition :=
  [⟨0x8100, 0xFFFF, 1⟩, ⟨0x88A8, 0xFFFF, 1⟩, ⟨0xF1C1, 0xFFFF, 2⟩, ⟨etherT, 0xFFFF, 3⟩, ⟨0x892F, 0xFFFF, 4⟩, ⟨0x0800, 0xFFFF, 5⟩, ⟨0x86DD, 0xFFFF, 6⟩,
   ⟨0x88F7, 0xFFFF, 10⟩, ⟨0x88BA, 0xFFFF, 12⟩, ⟨0x88B8, 0xFFFF, 13⟩]

/-- Set T_IP6 (R187). -/
def tIp6 : List Transition := [⟨17, 0xFF, 8⟩, ⟨6, 0xFF, 9⟩, ⟨0, 0xFF, 7⟩, ⟨43, 0xFF, 7⟩, ⟨60, 0xFF, 7⟩, ⟨44, 0xFF, 15⟩]

/-- The default graph (R187). -/
def defaultGraph (etherT : Nat) : KMap Nat ParseNode :=
  let tEth := tEth etherT
  let n := fun (id pre len keyOff keyBits : Nat) (t : List Transition) => ({ hdrId := id, pre, fixedLen := len, keyOff, keyBits, trans := t } : ParseNode)
  [(0, n 0x01 0 12 12 16 tEth), (1, n 0x02 0 4 4 16 tEth), (2, n 0x03 0 6 6 16 tEth), (3, n 0x04 0 16 16 16 tEth), (4, n 0x05 0 6 6 16 tEth),
   (5, { n 0x06 2 0 9 8 [⟨17, 0xFF, 8⟩, ⟨6, 0xFF, 9⟩] with lenMode := 1, lenMask := 0x0F, lenMul := 4, minLen := 20, maxLen := 60, checkMask := 0xF0, checkValue := 0x40, ipv4Frag := true }),
   (6, { n 0x07 2 40 6 8 tIp6 with checkMask := 0xF0, checkValue := 0x60 }),
   (7, { n 0x08 0 0 0 8 tIp6 with lenMode := 1, lenOff := 1, lenMask := 0xFF, lenMul := 8, lenAdd := 8, minLen := 8, maxLen := 64 }),
   (8, n 0x09 0 8 2 16 [⟨319, 0xFFFF, 11⟩, ⟨320, 0xFFFF, 11⟩, ⟨4713, 0xFFFF, 14⟩]),
   (9, { n 0x0A 0 0 2 16 [⟨4712, 0xFFFF, 14⟩] with lenMode := 1, lenOff := 12, lenShift := 4, lenMask := 0x0F, lenMul := 4, minLen := 20, maxLen := 60 }),
   (10, n 0x0B 2 34 0 0 []), (11, n 0x0B 0 34 0 0 []), (12, n 0x0C 2 8 0 0 []), (13, n 0x0D 2 8 0 0 []),
   (14, { n 0x0E 0 14 0 0 [] with checkMask := 0xFF, checkValue := 0xAA }),
   (15, { n 0x08 0 8 0 8 [⟨17, 0xFF, 8⟩, ⟨6, 0xFF, 9⟩] with ipv6Frag := true })]

/-- The graph of a slice (R187, R191). -/
def graphOf (c : Cfg) (sl : Nat) : KMap Nat ParseNode := c.graphs.getD sl (defaultGraph c.etherType)

/-- A graph under a new Sezal EtherType (R189): every transition with the old one to a node of HDR_ID 0x04 takes the new one. -/
def sezalGraph (old new : Nat) (g : KMap Nat ParseNode) : KMap Nat ParseNode :=
  g.mapV (fun _ n => { n with trans := n.trans.map (fun t =>
    if t.value = old && (match g.get? t.next with | some x => decide (x.hdrId = 4) | none => false) then { t with value := new } else t) })

/-- Every graph of a configuration under a new Sezal EtherType (R189). -/
def sezalGraphs (new : Nat) (c : Cfg) : Cfg := { c with etherType := new, graphs := c.graphs.mapV (fun _ g => sezalGraph c.etherType new g) }

/-- Wire-order number of `n` bytes of the parse window of 128 bytes; a byte outside it or beyond the frame's data reads 0 (R179; DESIGN CHOICE, log
110). -/
def winNat (data : List Byte) (off n : Nat) : Nat := (List.range n).foldl (fun v i => 256 * v + (if off + i < 128 then byteAt data (off + i) else 0)) 0

/-- The one's-complement sum over a header is all ones (R182). -/
def csumGood (bytes : List Byte) : Bool :=
  let sum := sumOf (fun i => nfld bytes (2 * i) 2) (List.range ((bytes.length + 1) / 2))
  let f := fun v => v % 65536 + v / 65536
  f (f sum) = 0xFFFF

/-- The length of a node's header at `h` (R181). -/
def nodeLen (n : ParseNode) (data : List Byte) (h : Nat) : Nat :=
  if n.lenMode = 0 then n.fixedLen else Nat.land (byteAt data (h + n.lenOff) / 2 ^ n.lenShift) n.lenMask * n.lenMul + n.lenAdd

/-- The walk's state: what it has found, the node that named the present one, the byte position. -/
structure Walk where
  res : ParseRes := {}
  from' : ParseNode := {}
  at' : Nat := 0
deriving DecidableEq, Repr

/-- End a walk as malformed, charged to a node (R185, R186). -/
def walkFail (w : Walk) (charged : ParseNode) (reason endOff : Nat) : ParseRes :=
  { w.res with endOff, malformed := decide (charged.failAction = 1), reason, drop := decide (charged.failAction = 0) }

/-- The bytes that a node wants lie beyond the parse bound (R179, R185). -/
def nodeShort (n : ParseNode) (data : List Byte) (h len : Nat) : Bool :=
  (n.lenMode = 1 && data.length ≤ h + n.lenOff) || data.length < h + len || (0 < n.keyBits && data.length < h + n.keyOff + n.keyBits / 8)

/-- What visiting a node does: end the parse, or go on to another node. -/
inductive Visit where
  | stop (r : ParseRes)
  | go (next : Nat) (w : Walk)

/-- CHECK of R185 fails: its byte lies in the parse window, which is all that the parser reads (R179), and is wrong. A byte beyond the window is not
checked (DEDUCED, log 110); one beyond the frame's own data reads 0 (DESIGN CHOICE, log 110). -/
def checkFails (n : ParseNode) (data : List Byte) (h : Nat) : Bool :=
  n.checkMask ≠ 0 && h + n.checkOff < 128 && decide (Nat.land (byteAt data (h + n.checkOff)) n.checkMask ≠ n.checkValue)

/-- Visit a node (R181 to R185). A length byte beyond the window leaves the header's length unknown: the header is recorded TRUNC, neither its range nor its
end is judged, and IPV4_CSUM is not judged over a header that runs past the window (DESIGN CHOICE, log 110). -/
def visitNode (n : ParseNode) (data : List Byte) (w : Walk) : Visit :=
  let p := w.at'
  let h := p + n.pre
  let w := { w with res := { w.res with nodes := w.res.nodes + 1 } }
  let hidden := n.lenMode = 1 && 128 ≤ h + n.lenOff
  let len := if hidden then 0 else nodeLen n data h
  let trunc := hidden || decide (128 < h + len)
  if nodeShort n data h len then .stop (walkFail w n 1 p)
  else if !hidden && n.lenMode = 1 && (len < n.minLen || n.maxLen < len) then .stop (walkFail w n 2 p)
  else if checkFails n data h then .stop (walkFail w n 3 p)
  else if n.ipv4Csum && !trunc && !csumGood (sub data h len) then .stop (walkFail w n 7 p)
  else
    let hdrs := if n.hdrId = 0 then w.res.hdrs else w.res.hdrs ++ [{ id := n.hdrId, off := h, trunc }]
    let r := { w.res with hdrs }
    if trunc then .stop { r with endOff := p, part := true }
    else if 0 < n.keyBits && 128 < h + n.keyOff + n.keyBits / 8 then .stop { r with endOff := h + len, part := true }
    else
      let frag := (n.ipv4Frag && winNat data (h + 6) 2 % 8192 ≠ 0) || (n.ipv6Frag && winNat data (h + 2) 2 / 8 ≠ 0)
      let key := winNat data (h + n.keyOff) (n.keyBits / 8)
      let next := if frag || n.keyBits = 0 then n.defaultNext
        else match n.trans.find? (fun t => Nat.land key t.mask = t.value) with
          | some t => t.next
          | none => n.defaultNext
      if next = 0xFF then .stop { r with endOff := h + len }
      else if next = 0xFE then .stop (walkFail { w with res := r } n 6 (h + len))
      else .go next { res := r, from' := n, at' := h + len }

/-- The 16 parse steps (R180). -/
def walkGraph (g : KMap Nat ParseNode) (data : List Byte) : Nat → Nat → Walk → ParseRes
  | 0, _, w => walkFail w w.from' 4 w.at'
  | fuel + 1, k, w =>
    match g.get? k with
    | none => walkFail w w.from' 5 w.at'
    | some n => match visitNode n data w with
      | .stop r => r
      | .go next w' => walkGraph g data fuel next w'

/-- Parse a frame's head under a slice's graph (R179 to R186). -/
def parseFrame (c : Cfg) (sl : Nat) (data : List Byte) : ParseRes := walkGraph (graphOf c sl) data 16 0 {}

/-- VLAN_COUNT (R183). -/
def vlanCount (r : ParseRes) : Nat := min 3 (r.hdrs.filter (fun h => decide (h.id = 2))).length

/-- The instance `k` (0 to 2, 3 the last) of a header that still stands. -/
def hdrAt (hs : List Hdr) (id k : Nat) : Option Hdr :=
  let l := hs.filter (fun h => decide (h.id = id) && !h.removed)
  if k = 3 then l.getLast? else l[k]?

end Sys2Proof.Machine
end

