-- ==== Sys2Proof/Machine/CfgParse.lean ====
section
/-! DEFINITION. PARSE and KEY_PROFILE_SET: what each command writes (R181, R187, R197). -/

namespace Sys2Proof.Machine

/-- The node that a PARSE_NODE_SET payload describes (R181). -/
def nodeOfPayload (p : List Byte) : ParseNode :=
  let b := byteAt p
  { hdrId := b 5, ipv4Csum := bitN (b 6) 1, ipv4Frag := bitN (b 6) 2, ipv6Frag := bitN (b 6) 3, failAction := b 7, pre := b 8, lenMode := b 9, fixedLen := b 10
    lenOff := b 11, lenShift := b 12, lenMask := b 13, lenMul := b 14, lenAdd := b 15, minLen := b 16, maxLen := b 17, checkOff := b 18, checkMask := b 19
    checkValue := b 20, keyOff := b 21, keyBits := b 22, defaultNext := b 23
    trans := (List.range (b 24)).map (fun i => ⟨fld p (28 + 8 * i) 2, fld p (30 + 8 * i) 2, b (32 + 8 * i)⟩) }

/-- Slices of a slice mask. -/
def maskSlices (p : List Byte) (off : Nat) : List Nat := setBits 32 (fld p off 4)

/-- PARSE_NODE_SET. -/
def parseNodeSetUpd (_b : Build) (e : Env) (c : Cfg) : Cfg :=
  let p := e.payload
  { c with graphs := (maskSlices p 0).foldl (fun g sl =>
      let old := g.getD sl (defaultGraph c.etherType)
      g.set sl (if bitN (byteAt p 6) 0 then old.set (byteAt p 4) (nodeOfPayload p) else old.del (byteAt p 4))) c.graphs }

/-- PARSE_GRAPH_DEFAULT (R187). -/
def parseGraphDefaultUpd (_b : Build) (e : Env) (c : Cfg) : Cfg :=
  { c with graphs := (maskSlices e.payload 0).foldl (fun g sl => g.del sl) c.graphs }

/-- The key profile that a payload describes (R197, R198). -/
def profileOfPayload (p : List Byte) : KeyProfile :=
  { tableId := fld p 8 2, onHit := byteAt p 10, onMiss := byteAt p 11, onErr := byteAt p 12, keyBytes := byteAt p 14
    fields := (List.range (byteAt p 13)).map (fun i =>
      let o := 16 + 8 * i
      ⟨byteAt p o, byteAt p (o + 1), byteAt p (o + 2), byteAt p (o + 3), byteAt p (o + 4), byteAt p (o + 5), byteAt p (o + 6)⟩)
    raw := p.drop 8 }

/-- KEY_PROFILE_SET for stages or for a key port (R199); TABLE_ID 0 leaves it empty. -/
def keyProfileSetUpd (_b : Build) (e : Env) (c : Cfg) : Cfg :=
  let p := e.payload
  let x := profileOfPayload p
  if byteAt p 0 = 0 then { c with stages := (maskSlices p 4).foldl (fun m sl => m.set (sl * 8 + byteAt p 1) x) c.stages }
  else { c with keyPorts := c.keyPorts.set (fld p 2 2 * 4 + byteAt p 1) x }

end Sys2Proof.Machine
end

