-- ==== Sys2Proof/Machine/CfgTm.lean ====
section
/-! DEFINITION. TM, CAP and GATE commands that can be staged: what each writes into the configuration (R271 to R318). -/

namespace Sys2Proof.Machine

/-- QUEUE_MAP_SET (R272). -/
def queueMapSetUpd (_b : Build) (e : Env) (c : Cfg) : Cfg :=
  let p := e.payload
  { c with qmap := c.qmap.set (fld p 0 2) ⟨fld p 2 2, byteAt p 4, (List.range 8).map (fun i => byteAt p (8 + i)), (List.range 16).map (fun i => byteAt p (16 + i))⟩ }

/-- The hierarchy of a SCHED_SET payload. -/
def schedOf (p : List Byte) : Sched :=
  { queues := (List.range 16).map (fun q => ⟨byteAt p (4 + 4 * q), byteAt p (5 + 4 * q), byteAt p (6 + 4 * q)⟩)
    nodes := (List.range 8).map (fun n => ⟨byteAt p (68 + 4 * n), byteAt p (69 + 4 * n)⟩) }

/-- SCHED_SET (R278). -/
def schedSetUpd (_b : Build) (e : Env) (c : Cfg) : Cfg := { c with sched := c.sched.set (fld e.payload 0 2) (schedOf e.payload) }

/-- The key of a shaper: port × 24 + q for a queue, port × 24 + 16 + n for a node. -/
def shaperKey (p : List Byte) : Nat := fld p 0 2 * 24 + (if byteAt p 2 = 0 then byteAt p 3 else 16 + byteAt p 3)

/-- SHAPER_SET (R283, R284); MODE 0 removes the shaper. -/
def shaperSetUpd (_b : Build) (e : Env) (c : Cfg) : Cfg :=
  let p := e.payload
  { c with shaper := if byteAt p 4 = 0 then c.shaper.del (shaperKey p)
      else c.shaper.set (shaperKey p) ⟨byteAt p 4, fld p 8 4, fld p 12 4, fld p 16 4, fld p 20 4⟩ }

/-- POLICER_SET (R287). -/
def policerSetUpd (_b : Build) (e : Env) (c : Cfg) : Cfg :=
  let p := e.payload
  let k := byteAt p 0 * 4096 + fld p 2 2
  { c with policer := if bitN (byteAt p 1) 0 then
      c.policer.set k ⟨bitN (byteAt p 1) 1, byteAt p 4, signedN 8 (byteAt p 6), fld p 8 4, fld p 12 4, fld p 16 4, fld p 20 4⟩ else c.policer.del k }

/-- STREAM_FILTER_SET (R289). -/
def streamFilterSetUpd (_b : Build) (e : Env) (c : Cfg) : Cfg :=
  let p := e.payload
  let k := byteAt p 0 * 1024 + fld p 2 2
  { c with filter := if bitN (byteAt p 1) 0 then
      c.filter.set k ⟨fld p 4 4, bitN (byteAt p 1) 1, fld p 8 2, fld p 10 2, fld p 12 2, byteAt p 14⟩ else c.filter.del k }

/-- SAMPLE_CFG (R291). -/
def sampleCfgUpd (_b : Build) (e : Env) (c : Cfg) : Cfg :=
  let p := e.payload
  { c with sample := c.sample.set (fld p 0 2) ⟨fld p 2 2, fld p 4 4, fld p 8 4⟩ }

/-- CAP_RULE_SET (R297). -/
def capRuleSetUpd (_b : Build) (e : Env) (c : Cfg) : Cfg :=
  let p := e.payload
  let r : CapRule := ⟨byteAt p 1, fld p 2 2, fld p 4 2, fld p 6 2, fld p 8 4, fld p 12 4, fld p 16 4, byteAt p 20, byteAt p 21, byteAt p 22⟩
  { c with capRule := c.capRule.set (byteAt p 0) r }

/-- MIRROR_SET (R300). -/
def mirrorSetUpd (_b : Build) (e : Env) (c : Cfg) : Cfg :=
  let p := e.payload
  { c with mirror := if bitN (byteAt p 1) 0 then c.mirror.set (byteAt p 0) ⟨fld p 2 2, byteAt p 4, fld p 6 2, fld p 8 2⟩
                     else c.mirror.del (byteAt p 0) }

/-- CAP_ENABLE (R297). -/
def capEnableUpd (_b : Build) (e : Env) (c : Cfg) : Cfg := { c with capEn := setBits 64 (fld e.payload 0 8) }

/-- The list of a GATE_LIST_SET payload (R302, R303). -/
def gateListOf (p : List Byte) : GateList :=
  ⟨fld p 8 8, fld p 16 4, fld p 20 4, (List.range (fld p 2 2)).map (fun i => ⟨fld p (24 + 8 * i) 2, byteAt p (26 + 8 * i), fld p (28 + 8 * i) 4⟩)⟩

/-- GATE_LIST_SET installs a list (R301). -/
def gateListSetUpd (_b : Build) (e : Env) (c : Cfg) : Cfg := { c with gate := c.gate.set (fld e.payload 0 2) (gateListOf e.payload) }

/-- GATE_ENABLE with ENABLE 1 (R305). -/
def gateEnableOnUpd (_b : Build) (e : Env) (c : Cfg) : Cfg := { c with gateOn := addTo c.gateOn (fld e.payload 0 2) }

/-- GATE_ENABLE with ENABLE 0 (R318). -/
def gateEnableOffUpd (_b : Build) (e : Env) (c : Cfg) : Cfg := { c with gateOn := dropFrom c.gateOn (fld e.payload 0 2) }

/-- GATE_OVERHEAD_SET (R280). -/
def gateOverheadSetUpd (_b : Build) (e : Env) (c : Cfg) : Cfg := { c with overhead := c.overhead.set (fld e.payload 0 2) (byteAt e.payload 2) }

/-- The sum of a list's intervals (R303). -/
def gateSum (g : GateList) : Nat := sumOf GateEntry.interval g.entries

end Sys2Proof.Machine
end

