-- ==== Sys2Proof/Machine/Stage.lean ====
section
/-! DEFINITION. Staging (R101 to R104): what a staged command does to the configuration, claims, and the frame of every stageable command. -/

namespace Sys2Proof.Machine

/-- What a stageable command does to a bank of the configuration (R107). -/
def cfgUpd (b : Build) (i : Instr) (c : Cfg) : Cfg :=
  match i with
  | .portCfg e => portCfgUpd b e c
  | .portFc e => portFcUpd b e c
  | .portPreempt e => portPreemptUpd b e c
  | .portEee e => portEeeUpd b e c
  | .portWakeFilter e => portWakeFilterUpd b e c
  | .portLinkHold e => portLinkHoldUpd b e c
  | .parseNodeSet e => parseNodeSetUpd b e c
  | .parseGraphDefault e => parseGraphDefaultUpd b e c
  | .keyProfileSet e => keyProfileSetUpd b e c
  | .progBindMap e => progBindMapUpd b e c
  | .progBindDefault e => progBindDefaultUpd b e c
  | .constSet e => constSetUpd b e c
  | .flowMinSet e => flowMinSetUpd b e c
  | .sharedLimitSet e => sharedLimitSetUpd b e c
  | .cutThroughSet e => cutThroughSetUpd b e c
  | .vlanSetVlan e => vlanSetVlanUpd b e c
  | .vlanSetPort e => vlanSetPortUpd b e c
  | .learnCfgGlobal e => learnCfgGlobalUpd b e c
  | .learnCfgPort e => learnCfgPortUpd b e c
  | .mcastGroupSet e => mcastGroupSetUpd b e c
  | .lagSet e => lagSetUpd b e c
  | .queueMapSet e => queueMapSetUpd b e c
  | .schedSet e => schedSetUpd b e c
  | .shaperSet e => shaperSetUpd b e c
  | .policerSet e => policerSetUpd b e c
  | .streamFilterSet e => streamFilterSetUpd b e c
  | .sampleCfg e => sampleCfgUpd b e c
  | .gateListSet e => gateListSetUpd b e c
  | .gateEnableOn e => gateEnableOnUpd b e c
  | .gateEnableOff e => gateEnableOffUpd b e c
  | .gateOverheadSet e => gateOverheadSetUpd b e c
  | .flowAdd e => flowAddUpd b e c
  | .flowModify e => flowModifyUpd b e c
  | .flowDelete e => flowDeleteUpd b e c
  | .prpHsrSet e => prpHsrSetUpd b e c
  | .stampPortCfg e => stampPortCfgUpd b e c
  | .ptpPortCfg e => ptpPortCfgUpd b e c
  | .domainPortSet e => domainPortSetUpd b e c
  | .rxFilterSet e => rxFilterSetUpd b e c
  | .rssSet e => rssSetUpd b e c
  | .offloadSet e => offloadSetUpd b e c
  | .capRuleSet e => capRuleSetUpd b e c
  | .mirrorSet e => mirrorSetUpd b e c
  | .capEnable e => capEnableUpd b e c
  | _ => c

/-- The configuration that a set's changes would give (R103, R107). -/
def setCfg (b : Build) (changes : List Change) (c : Cfg) : Cfg := changes.foldl (fun c ch => cfgUpd b ch.cmd c) c

/-- The state as a set sees it: the configuration in force plus the set's own changes (QUAD_CHECK; R103). -/
def setView (id : Nat) (s : State) : State :=
  match findSet s id with
  | none => s
  | some q => let c := setCfg s.build q.changes (cfg s); { s with bank0 := c, bank1 := c }

/-- The kind of unit that a claim's opcode configures, so that a unit's claims and commands meet (R110). -/
def unitKind (op : Nat) : Nat :=
  if op = 0x0308 || (0x0400 ≤ op && op < 0x0500) || op = 0x0506 || op = 0x0904 || op = 0x0905 then 2
  else if (0x0300 ≤ op && op < 0x0400) || op = 0x0706 || op = 0x0704 || (0x0900 ≤ op && op < 0x0A00) || (0x0A00 ≤ op && op < 0x0B00)
      || op = 0x0C01 || op = 0x0C02 || op = 0x0C03 || op = 0x0C04 || op = 0x0D02 then 1
  else if 0x0600 ≤ op && op < 0x0700 then 3
  else if op = 0x0703 || (0x0B00 ≤ op && op < 0x0B06) then 4
  else op

/-- The open set that holds one of the claims, other than set `me` (R103). -/
def claimHolder (s : State) (me : Nat) (cs : List Claim) : Option Nat :=
  (s.quad.sets.find? (fun q => q.live && decide (q.id ≠ me) && q.changes.any (fun ch => ch.claims.any (fun c => decide (c ∈ cs))))).map QSet.id

/-- One of the claims' units belongs to an ARMED set (R110). -/
def armedUnit (s : State) (cs : List Claim) : Bool :=
  s.quad.sets.any (fun q => decide (q.st = .armed) && q.changes.any (fun ch => ch.claims.any (fun c =>
    cs.any (fun d => decide (unitKind c.op = unitKind d.op) && decide (c.unit = d.unit)))))

/-- Every target that `old` changes is changed by `new` too, so that `new` replaces it (R101); lane claims (opcode 0) do not count. -/
def replaces (new old : Change) : Bool :=
  (old.claims.filter (fun c => decide (c.op ≠ 0))).all (fun c => decide (c ∈ new.claims))

/-- The claims of a change on targets; lane claims (opcode 0) do not count. -/
def targetsOf (ch : Change) : List Claim := ch.claims.filter (fun c => decide (c.op ≠ 0))

/-- A set already holds every field that a change stages (R101). -/
def holdsAll (q : QSet) (ch : Change) : Bool := !(targetsOf ch).isEmpty && (targetsOf ch).all (fun c => q.changes.any (fun o => decide (c ∈ o.claims)))

/-- Whether a change counts once it is staged (R101): it brings a field that the set does not hold, or takes the place of a change that counted. -/
def countsIn (q : QSet) (ch : Change) : Bool := !holdsAll q ch || q.changes.any (fun o => o.counted && replaces ch o)

/-- A set's changes with one more staged (R101). -/
def withChange (q : QSet) (ch : Change) : List Change := q.changes.filter (fun o => !replaces ch o) ++ [{ ch with counted := countsIn q ch }]

/-- Staged changes of a set (R101). -/
def changeCount (l : List Change) : Nat := (l.filter Change.counted).length

/-- Add a change to a set (R101, R103): an OPEN or CHECKED set is OPEN after it. -/
def stageChange (id : Nat) (ch : Change) (s : State) : State :=
  updSet id (fun q => { q with st := .opened, changes := withChange q ch, named := rawNs s }) s

/-- The set takes no further change: it is committed (R103). -/
def setCommitted (s : State) (id : Nat) : Bool :=
  match findSet s id with
  | none => false
  | some q => decide (q.st = .voting) || decide (q.st = .armed) || decide (q.st = .normalising) || q.applying

/-- The set has room for a change (R101). -/
def setHasRoom (s : State) (id : Nat) (ch : Change) : Bool :=
  match findSet s id with
  | none => true
  | some q => decide (changeCount (withChange q ch) ≤ 65536)

/-- The checks of a stageable command (R99, R103, R106, R110). A staged one is judged in the view of its set; only an immediate one meets
NEED_QUAD, an ARMED unit, a pair and the capacity. -/
def stageVerdict (op : Nat) (len : Nat → Bool) (ch : Change) (chk : State → Chk) (e : Env) (s : State) : Option Verdict :=
  firstOf [envVerdict op true len e s,
    if staged e then
      let c := chk (setView e.setId s)
      chkVerdict { present := c.present, fields := c.fields, held := claimHolder s e.setId ch.claims,
                   busy := c.busy, st := if setCommitted s e.setId then some 2 else c.st, resource := if setHasRoom s e.setId ch then none else some 0 }
    else
      let c := chk s
      chkVerdict { c with held := claimHolder s 0 ch.claims, busy := if armedUnit s ch.claims then some 1 else c.busy }]

/-- Run a stageable command in its turn (R97, R103): refuse it, stage it, or take its effect at once, which gives the verdict as well. `atStage` is what
staging itself does to the tables (R104). -/
def runStagedV (i : Instr) (op : Nat) (len : Nat → Bool) (claims : List Claim) (table : Bool) (chk : State → Chk) (atStage : State → State)
    (stagedData : List Byte) (imm : State → State × Verdict) (e : Env) (s : State) : State :=
  let ch : Change := { cmd := i, claims, table }
  ifTurn e (fun s => match stageVerdict op len ch chk e s with
    | some v => respond e op v s
    | none =>
      if staged e then respond e op (okV stagedData) (stageChange e.setId ch (atStage s))
      else respond e op (imm s).2 (imm s).1) s

/-- Run a stageable command of register-like changes with an empty response: `side` is what the change does beside the configuration. -/
def runStaged (i : Instr) (op : Nat) (len : Nat → Bool) (claims : List Claim) (chk : State → Chk) (side : State → State) (e : Env) (s : State) : State :=
  runStagedV i op len claims false chk (fun s => s) [] (fun s => (side (updCfg (cfgUpd s.build i) s), okV [])) e s

end Sys2Proof.Machine
end

