-- ==== Sys2Proof/Machine/GateOps.lean ====
section
/-! DEFINITION. Gate lists as functions of TIME: entries, windows, starts, HOLD (R301 to R318). Times here are TIME in 1/16 ns. -/

namespace Sys2Proof.Machine

/-- The entry in which a position of the cycle lies, with its start: both in 1/16 ns (R303). Entries of no time are passed over. -/
def gateEntryAt (pos : Nat) : List GateEntry → Nat → Nat → Option (Nat × GateEntry × Nat)
  | [], _, _ => none
  | g :: l, k, start => if pos < start + 16 * g.interval then some (k, g, start) else gateEntryAt pos l (k + 1) (start + 16 * g.interval)

/-- The position of an instant in the cycle of a list started at `start` ns (R307). -/
def gatePos (g : GateList) (start : Int) (t : Int) : Nat := ((t - 16 * start) % ((16 * g.cycle : Nat) : Int)).toNat

/-- The entry in force at an instant at or after START: its number, itself, and how long it has lasted. -/
def gateIn (g : GateList) (start t : Int) : Option (Nat × GateEntry × Nat) :=
  let pos := gatePos g start t
  (gateEntryAt pos g.entries 0 0).map (fun r => (r.1, r.2.1, pos - r.2.2))

/-- GateRt of a port. -/
def gateRt (s : State) (p : Nat) : GateRt := s.gate.getD p {}

/-- Change the GateRt of a port. -/
def updGate (p : Nat) (f : GateRt → GateRt) (s : State) : State := { s with gate := s.gate.upd p {} f }

/-- The list that decides the gates of a port at an instant: one whose START has come (R301, R305). -/
def listAt (r : GateRt) (t : Int) : Option (GateList × Int) :=
  match r.next with
  | some (g, st) => if 16 * st ≤ t then some (g, st) else
      (match r.run with | some (g', st') => if 16 * st' ≤ t then some (g', st') else none | none => none)
  | none => match r.run with
    | some (g', st') => if 16 * st' ≤ t then some (g', st') else none
    | none => none

/-- The 16 gates of a port at an instant (R301, R302). -/
def gatesAt (r : GateRt) (t : Int) : Nat :=
  match listAt r t with
  | none => 0xFFFF
  | some (g, st) =>
    match gateIn g st t with
    | none => 0xFFFF
    | some (_, x, _) => x.gates

/-- The gate of queue `q` is open at an instant. -/
def gateOpenAt (r : GateRt) (q : Nat) (t : Int) : Bool := bitN (gatesAt r t) q

/-- How long a gate stays open from `t` on, in 1/16 ns: through consecutive entries that open it, across the cycle's end (R308); none for ever.
The list of entries is walked twice at most. -/
def openFor (q : Nat) (skip : Nat) : List GateEntry → Nat → Option Nat
  | [], acc => if acc = 0 then none else some acc
  | g :: l, acc =>
    if skip ≥ 16 * g.interval then openFor q (skip - 16 * g.interval) l acc
    else if bitN g.gates q then openFor q 0 l (acc + (16 * g.interval - skip))
    else some acc

/-- How long a list keeps the gate of queue `q` open from an instant on, in 1/16 ns (R301, R308): none for ever; without a list every gate is open. -/
def listLeft (l : Option (GateList × Int)) (q : Nat) (t : Int) : Option Nat :=
  match l with
  | none => none
  | some (g, st) =>
    if g.entries.all (fun x => x.interval = 0 || bitN x.gates q) then none
    else some ((openFor q (gatePos g st t) (g.entries ++ g.entries ++ g.entries) 0).getD 0)

/-- The lists that take over after an instant, in order, with their START in 1/16 ns (R305, R307, R316): the waiting one, and before it the running one
whose START a backward step has put ahead. -/
def listsAhead (r : GateRt) (t : Int) : List (Int × GateList × Int) :=
  match r.next with
  | some (g, st) =>
    if 16 * st ≤ t then []
    else (match r.run with
      | some (g', st') => if t < 16 * st' && st' < st then [(16 * st', g', st')] else []
      | none => []) ++ [(16 * st, g, st)]
  | none => match r.run with
    | some (g', st') => if t < 16 * st' then [(16 * st', g', st')] else []
    | none => []

/-- How long the gate of queue `q` stays open from `t` on, first under list `l`, then under those ahead. -/
def openLeft (q : Nat) (l : Option (GateList × Int)) (t : Int) : List (Int × GateList × Int) → Option Nat
  | [] => listLeft l q t
  | (st, g) :: rest =>
    let on := (openLeft q (some g) st rest).map (fun n => n + (st - t).toNat)
    match listLeft l q t with
    | some w => if t + w < st then some w else on
    | none => on

/-- The window left for queue `q` at an instant, in 1/16 ns: none when it never closes (R301, R308). -/
def windowLeft (r : GateRt) (q : Nat) (t : Int) : Option Nat := openLeft q (listAt r t) t (listsAhead r t)

/-- The gate of queue `q` is open at `t` and stays open for `dur` (R308). -/
def fitsAt (r : GateRt) (q : Nat) (t : Int) (dur : Nat) : Bool :=
  gateOpenAt r q t && (match windowLeft r q t with
    | none => true
    | some w => decide (dur ≤ w))

/-- The instants of a cycle, in 1/16 ns from its start, at which the gate of queue `q` opens after nonzero entries that close it. -/
def openings (q : Nat) : List GateEntry → Bool → Nat → List Nat
  | [], _, _ => []
  | g :: l, was, pos =>
    if g.interval = 0 then openings q l was pos
    else (if bitN g.gates q && !was then [pos] else []) ++ openings q l (bitN g.gates q) (pos + 16 * g.interval)

/-- Under a list, the gate of queue `q` opens after `a` and by `b`. -/
def listOpens (l : Option (GateList × Int)) (q : Nat) (a b : Int) : Bool :=
  match l with
  | none => false
  | some (g, st) =>
    let cyc : Int := ((16 * g.cycle : Nat) : Int)
    let last := (g.entries.reverse.find? (fun x => decide (0 < x.interval))).elim true (fun x => bitN x.gates q)
    (openings q g.entries last 0).any (fun o => decide (a + cyc - ((a - 16 * st - o) % cyc) ≤ b))

/-- The same under list `l` first, then under those ahead, where a change of list opens the gate too. -/
def opensBy (q : Nat) (b : Int) (l : Option (GateList × Int)) (a : Int) : List (Int × GateList × Int) → Bool
  | [] => listOpens l q a b
  | (st, g) :: rest =>
    listOpens l q a (min b (st - 1)) || (decide (st ≤ b)
      && ((listLeft l q (st - 1) = some 0 && listLeft (some g) q st ≠ some 0) || opensBy q b (some g) st rest))

/-- The gate of queue `q` opens after `t` and within `dur` (R141). -/
def opensWithin (r : GateRt) (q : Nat) (t : Int) (dur : Nat) : Bool := opensBy q (t + dur) (listAt r t) t (listsAhead r t)

/-- MAX_WINDOW of a queue in ns (R311): none when every entry opens it. -/
def maxWindow (g : GateList) (q : Nat) : Option Nat :=
  let es := g.entries.filter (fun x => decide (0 < x.interval))
  if es.all (fun x => bitN x.gates q) then none
  else
    let step := fun (a : Nat × Nat) (x : GateEntry) => if bitN x.gates q then (a.1 + x.interval, max a.2 (a.1 + x.interval)) else (0, a.2)
    some ((es ++ es).foldl step (0, 0)).2

/-- MAX_WINDOW of a queue of a port under the list in force or to come (R311). -/
def portMaxWindow (s : State) (p q : Nat) : Option Nat :=
  match listAt (gateRt s p) (timeSixteenths s) with
  | none => none
  | some (g, _) => maxWindow g q

/-- signed32 of a difference (R156, R159). -/
def signed32 (d : Int) : Int := signedN 32 (unsignedN 32 d)

/-- A target in absolute TIME: as given while TIME_VALID is 1, otherwise now + the signed 32-bit difference (R160). -/
def absTarget (s : State) (ns : Nat) : Int := if s.time.valid then ns else timeNs s + signed32 (ns - timeNs s)

/-- A target that firmware refuses while TIME_VALID is 0: more than 2^30 ns from now (R159). -/
def targetTooFar (s : State) (ns : Nat) : Bool :=
  !s.time.valid && (decide (2 ^ 30 < signed32 (ns - timeNs s)) || decide (signed32 (ns - timeNs s) < -(2 ^ 30)))

/-- START of a list (R305), and whether it differs from BASE_NS. -/
def gateStart (s : State) (g : GateList) : Int × Bool :=
  let now := timeNs s + 2000
  let base := absTarget s g.base
  if now ≤ base then (base, false)
  else (base + ((now - base + g.cycle - 1) / g.cycle) * g.cycle, true)

/-- First nonzero entry of a list. -/
def firstEntry (g : GateList) : Option GateEntry := g.entries.find? (fun x => decide (0 < x.interval))

/-- The instants within a cycle, in ns from its start, at which HOLD asserts: each held nonzero entry after one that does not hold (R313). -/
def holdPoints (es : List GateEntry) (prev : Bool) (at' : Nat) : List Nat :=
  match es with
  | [] => []
  | x :: l =>
    if x.interval = 0 then holdPoints l prev at'
    else
      let now := if x.op = 1 then true else if x.op = 2 then false else prev
      (if x.op = 1 && !prev then [at'] else []) ++ holdPoints l now (at' + x.interval)

/-- Whether a list leaves HOLD asserted after a walk of its entries. -/
def holdAfter (es : List GateEntry) (prev : Bool) : Bool :=
  es.foldl (fun h x => if x.interval = 0 then h else if x.op = 1 then true else if x.op = 2 then false else h) prev

/-- Whether an asserted hold is in force as entry `k` of a running list begins: the last entry before it that sets or releases decides. -/
def holdAtEntry (g : GateList) (k : Nat) : Bool := holdAfter (g.entries ++ g.entries.take (k + 1)) false

/-- When HOLD asserts for a list that is about to start (R313): none when its first nonzero entry does not hold. -/
def startHold (g : GateList) (st : Int) : Option Int :=
  match firstEntry g with
  | some x => if x.op = 1 then some (16 * (st - g.holdAdvance)) else none
  | none => none

/-- The instants after `t`, in 1/16 ns, at which HOLD asserts under a running list. -/
def listHolds (l : Option (GateList × Int)) (t : Int) : List Int :=
  match l with
  | none => []
  | some (g, st) =>
    let pts := holdPoints g.entries (holdAfter g.entries false) 0
    let c0 := t - gatePos g st t
    ([0, 1, 2].flatMap (fun k => pts.map (fun p => c0 + 16 * ((k * g.cycle + p : Nat) : Int) - 16 * g.holdAdvance))).filter (fun x => decide (t < x))

/-- The next instant after `t`, in 1/16 ns, at which HOLD asserts on a port (R312, R313). -/
def nextHold (r : GateRt) (t : Int) : Option Int :=
  leastBy (fun x => (x - t).toNat) (((listsAhead r t).filterMap (fun x => startHold x.2.1 x.2.2)).filter (fun x => decide (t < x)) ++ listHolds (listAt r t) t)

/-- HOLD as the lists alone give it at an instant (R301, R307, R313): an entry in force holds, an entry of the running list is about to hold, or a list
that is about to start asserts it. -/
def holdAt (r : GateRt) (t : Int) : Bool :=
  (listsAhead r t).any (fun x => match startHold x.2.1 x.2.2 with
    | some h => decide (h ≤ t)
    | none => false)
  || (match listAt r t with
    | none => false
    | some (g, st) => match gateIn g st t with
      | none => false
      | some (k, _, _) => holdAtEntry g k || (listHolds (some (g, st)) (t - 16 * g.holdAdvance)).any (fun h => decide (h ≤ t)))

/-- Change the lists of a port, keeping what they were (R289). -/
def changeLists (p : Nat) (f : GateRt → GateRt) (s : State) : State :=
  updGate p (fun r => { f r with past := (timeSixteenths s, r.run, r.next) :: r.past }) s

/-- The lists of a port as they stood at an instant of TIME in 1/16 ns (R289). -/
def listsThen (r : GateRt) (t : Int) : GateRt :=
  match (r.past.filter (fun x => decide (t < x.1))).getLast? with
  | some x => { run := x.2.1, next := x.2.2 }
  | none => r

end Sys2Proof.Machine
end

