-- ==== Sys2Proof/Machine/TmOps.lean ====
section
/-! DEFINITION. Buckets and credits of shapers and policers, pause state, statistics (R276 to R291). -/

namespace Sys2Proof.Machine

/-- RAW_T in 1/16 ns. -/
def rawSix (s : State) : Nat := raw16 s / 4096

/-- Tokens in 1/16 byte that a rate in kbit/s has brought by an instant in 1/16 ns. -/
def filled (kbps t : Nat) : Nat := kbps * t / 8000000

/-- A bucket in 1/16 byte at an instant: filled at its rate up to its depth in bytes (R283, R287). -/
def bucketAt (kbps depth : Nat) (v : Int) (last now : Nat) : Int :=
  min (16 * depth : Nat) (v + (filled kbps now - filled kbps last : Int))

/-- A full or empty pair of buckets (R285); TOKENS 0 is FULL. -/
def freshTokens (full : Bool) (cDepth pDepth now : Nat) : Tokens :=
  if full then ⟨(16 * cDepth : Nat), (16 * pDepth : Nat), now⟩ else ⟨0, 0, now⟩

/-- The committed depth that counts: a CIR of 0 acts as a CBURST of 0 (R283). -/
def cDepthOf (x : Shaper) : Nat := if x.cir = 0 then 0 else x.cburst

/-- Tokens of a token-bucket shaper at an instant. -/
def shaperTokens (x : Shaper) (t : Tokens) (now : Nat) : Tokens :=
  ⟨bucketAt x.cir (cDepthOf x) t.c t.last now, bucketAt x.pir x.pburst t.p t.last now, now⟩

/-- Time for which a queue's gate is open within the first `pos` of a cycle (1/16 ns). -/
def openBefore (q pos : Nat) : List GateEntry → Nat → Nat → Nat
  | [], _, acc => acc
  | g :: l, start, acc =>
    if pos ≤ start then acc
    else
      let e := min pos (start + 16 * g.interval)
      openBefore q pos l (start + 16 * g.interval) (if bitN g.gates q then acc + (e - start) else acc)

/-- Open time of a queue's gate from `a` to `b`, in 1/16 ns of TIME, under a list; before its START, and without a list, the gate is open. -/
def listOpenTime (l : Option (GateList × Int)) (q : Nat) (a b : Int) : Nat :=
  match l with
  | none => (b - a).toNat
  | some (g, st) =>
    let upTo := fun (x : Int) => (x / ((16 * g.cycle : Nat) : Int)) * (openBefore q (16 * g.cycle) g.entries 0 0 : Nat)
      + (openBefore q (gatePos g st (x + 16 * st)) g.entries 0 0 : Nat)
    let from' := max a (16 * st)
    if b ≤ from' then (b - a).toNat else (upTo (b - 16 * st) - upTo (from' - 16 * st)).toNat + (from' - a).toNat

/-- Open time of a queue's gate over the `dt` before the instant `t` of TIME, in 1/16 ns (R284: a closed gate stops the credit): before the START of the
waiting list the running one counts. Every change of the lists settles the credits first. -/
def openTime (r : GateRt) (q : Nat) (t : Int) (dt : Nat) : Nat :=
  let a := t - dt
  match r.next with
  | some (g, st) =>
    let m := max a (min t (16 * st))
    listOpenTime r.run q a m + listOpenTime (some (g, st)) q m t
  | none => listOpenTime r.run q a t

/-- The credit of a CBS queue at an instant, in 1/256 byte (R284): `now` and `at` in 1/16 ns of RAW_T; TIME is taken as running beside it. -/
def creditAt (s : State) (p q : Nat) (x : Shaper) (t : Tokens) (holds : Bool) (at' : Nat) : Int :=
  if at' ≤ t.last then (if holds then t.c else min t.c 0)
  else
    let dt := at' - t.last
    let open' := openTime (gateRt s p) q (timeSixteenths s + ((at' : Int) - rawSix s)) dt
    let c := t.c + (x.cir * open' / 500000 : Nat)
    if holds then min (256 * x.cburst : Nat) c else min 0 c

/-- The tokens or credit of a shaper key. -/
def tokensOf (s : State) (key : Nat) : Tokens := s.tm.tokens.getD key ⟨0, 0, 0⟩

/-- Set the tokens of a shaper key. -/
def setTokens (key : Nat) (t : Tokens) (s : State) : State := { s with tm := { s.tm with tokens := s.tm.tokens.set key t } }

/-- Settle the credit of a queue that is about to hold its first copy (R284). -/
def settleCredit (p q : Nat) (s : State) : State :=
  match (cfg s).shaper.get? (p * 24 + q) with
  | none => s
  | some x =>
    if x.mode = 2 && (queueOf s (qid p q)).isEmpty then
      setTokens (p * 24 + q) ⟨creditAt s p q x (tokensOf s (p * 24 + q)) false (rawSix s), 0, max (rawSix s) (tokensOf s (p * 24 + q)).last⟩ s
    else s

/-- Settle the credit of every CBS queue of a port before its gate lists change (R284). -/
def settleGateCredits (p : Nat) (s : State) : State :=
  (List.range 16).foldl (fun s q => match (cfg s).shaper.get? (p * 24 + q) with
    | none => s
    | some x =>
      let t := tokensOf s (p * 24 + q)
      if x.mode = 2 && decide (t.last < rawSix s) then
        setTokens (p * 24 + q) ⟨creditAt s p q x t (!(queueOf s (qid p q)).isEmpty) (rawSix s), 0, rawSix s⟩ s
      else s) s

/-- Colours (R287). -/
inductive Colour where
  | red | yellow | green
deriving DecidableEq, Repr

/-- A policer judges a frame of `len` bytes whose outermost DEI is `dei` (R287). -/
def police (x : Policer) (t : Tokens) (now len : Nat) (dei : Bool) : Colour × Tokens :=
  let lp : Int := max 1 ((len : Int) + x.lenAdj)
  let c := bucketAt x.cir x.cbs t.c t.last now
  let p := bucketAt x.pir x.pbs t.p t.last now
  if p < 16 * lp then (.red, ⟨c, p, now⟩)
  else if (x.aware && dei) || c < 16 * lp then (.yellow, ⟨c, p - 16 * lp, now⟩)
  else (.green, ⟨c - 16 * lp, p - 16 * lp, now⟩)

/-- The queue map of a port. -/
def qmapOf (c : Cfg) (p : Nat) : QMap := c.qmap.getD p {}

/-- The hierarchy of a port. -/
def schedOfPort (c : Cfg) (p : Nat) : Sched := c.sched.getD p {}

/-- A queue is paused by the partner: its port in pause mode, or its traffic class in PFC mode, until its quanta end (R138, R274). -/
def queuePaused (s : State) (p q : Nat) : Bool :=
  let until' := fun (k : Nat) => match (port s p).paused.get? k with
    | some t => decide (rawNs s < t)
    | none => false
  if (fcOf s p).mode = 1 then until' 0
  else if (fcOf s p).mode = 2 then until' ((qmapOf (cfg s) p).tc.getD q 0)
  else false

/-- OVERHEAD of a port (R280). -/
def overheadOf (c : Cfg) (p : Nat) : Nat := c.overhead.getD p 20

/-- The largest MAX_GROWTH of the programs mapped on an engine (R223). -/
def engineGrowth (s : State) (g : Nat) : Nat :=
  ((cfg s).progMap.filter (fun x => x.1 / 64 = g)).foldl (fun n x => max n (match s.eng.images.get? x.2 with | some im => im.maxGrowth | none => 0)) 0

/-- GROWTH of the egress slice of a port (R223). -/
def growthOf (s : State) (p : Nat) : Nat := engineGrowth s (4 * sliceOf s p + 2) + engineGrowth s (4 * sliceOf s p + 3)

/-- The charged length of a copy: with its node tag's 6 bytes (R280, R342). -/
def chargedLen (s : State) (c : Copy) : Nat := c.len + growthOf s c.port + overheadOf (cfg s) c.port + (if c.node.isSome then 6 else 0)

/-- The time that charged bytes take at a port's rate, in 1/16 ns, rounded up (R308). -/
def wireTime (s : State) (p bytes : Nat) : Nat :=
  let r := rateOf s (cfg s) p
  if r = 0 then 0 else ceilDiv (bytes * 8 * 16 * 1000) r

/-- Statistics of a queue. -/
def qstat (s : State) (id : Nat) : QStat := s.tm.stat.getD id {}

/-- Change the statistics of a queue. -/
def updQstat (id : Nat) (f : QStat → QStat) (s : State) : State := { s with tm := { s.tm with stat := s.tm.stat.upd id {} f } }

/-- Keys of the deficit counters and pointers of a hierarchy (R282). -/
def treeKey (h k : Nat) : Nat := h * 2 ^ 32 + k

/-- The deficits of a queue that was empty, and of its node when that was empty too, stand at 0 as it takes a copy (R279). -/
def freshDeficit (p q : Nat) (s : State) : State :=
  let x := schedOfPort (cfg s) p
  let node := match x.queues[q]? with | some y => y.parent | none => 8
  let idle := fun (i : Nat) => (queueOf s (qid p i)).isEmpty
  let nodeIdle := (List.range 16).all (fun i => idle i || (match x.queues[i]? with | some y => decide (y.parent ≠ node) | none => true))
  let gone := (if idle q then [p * 24 + q] else []) ++ (if nodeIdle then [p * 24 + 16 + node] else [])
  { s with tm := { s.tm with deficit := s.tm.deficit.filter (fun d => !decide (d.1 % 2 ^ 32 ∈ gone)) } }

/-- Put a copy at the end of its queue, with its statistics and capture point 1, and wake what must send it (R276, R290, R296, R476). -/
def enqueueCopy (c : Copy) (s : State) : State :=
  let id := qid c.port c.q
  let s0 := freshDeficit c.port c.q <| settleCredit c.port c.q (askWake (if isHostPort c.port then 66 else 32 + sliceOf s c.port) (askWake (32 + sliceOf s c.port) s))
  let s1 := setQueue id (queueOf s0 id ++ [c]) s0
  let s2 := updQstat id (fun x => { x with maxDepth := max x.maxDepth (depthCells s1 id) }) s1
  match storedOf s2 c.frame with
  | none => s2
  | some f => (capEvent { point := 1, slice := sliceOf s2 c.port, portIn := f.c.frame.portIn, portOut := some (c.port, c.q), flow := f.c.flow
                          guarded := f.c.guarded, mcast := decide (1 < f.c.copies.length)
                          stampIn := stampBits f.c.frame.stamp f.c.frame.stampFlags, stampEv := stampNow s2 (sliceOf s2 c.port), len := c.len, data := f.c.frame.data } s2).1

end Sys2Proof.Machine
end

