-- ==== Sys2Proof/Machine/Gate.lean ====
section
/-! DEFINITION. The GATE class and the events of gate lists (R301 to R318). -/

namespace Sys2Proof.Machine

/-- The port of a command that names it in its first two bytes. -/
def ePort (e : Env) : Nat := fld e.payload 0 2

/-- Admin state of a port; a host port counts as always carrying traffic (R106). -/
def carriesTraffic (s : State) (p : Nat) : Bool := isHostPort p || (port s p).admin

/-- A coupled pair's record (R505, QUAD_CHECK). -/
structure PairRec where
  pair : Nat
  kind : Nat
  unit : Nat
  a : Nat
  b : Nat
deriving DecidableEq, Repr

/-- The 16 bytes of a pair record. -/
def pairBytes (r : PairRec) : List Byte := leB 1 r.pair ++ leB 1 r.kind ++ leB 2 0 ++ leB 4 r.unit ++ leB 4 r.a ++ leB 4 r.b

/-- The record that an immediate command's pair leaves, as the check wants it. -/
def pairChk (rs : List PairRec) : Option (Nat × List Byte) :=
  match rs with
  | [] => none
  | r :: _ => some (r.pair, (rs.take 14).flatMap pairBytes)

/-- Pair 0x02 of a port: the list's intervals and its cycle (R303, R505). -/
def pair02 (c : Cfg) (p : Nat) : List PairRec :=
  match c.gate.get? p with
  | none => []
  | some g => if gateSum g = g.cycle then [] else [⟨2, 1, p, gateSum g, g.cycle⟩]

/-- The checks of GATE_LIST_SET. -/
def gateListSetChk (e : Env) (s : State) : Chk :=
  let p := e.payload
  let n := fld p 2 2
  { present := portThere s (ePort e) 1024
    fields := [below p 0 2 1024, within p 2 2 1 256, zeroAt p 4 4, (8, !targetTooFar s (fld p 8 8)), within p 16 4 1000 1000000000,
        within p 20 4 0 1000000] ++ (List.range n).flatMap (fun i => [below p (26 + 8 * i) 1 3, zeroAt p (27 + 8 * i) 1,
          (28 + 8 * i, fld p (28 + 8 * i) 4 = 0 || (decide (32 ≤ fld p (28 + 8 * i) 4) && decide (fld p (28 + 8 * i) 4 ≤ 1000000000)))])
    needQuad := if (port s (ePort e)).admin then some 2 else none
    busy := if (gateRt s (ePort e)).flipWait then some 3 else none
    st := if (cfg s).ports.has (ePort e) then none else some 0
    pair := pairChk (pair02 (gateListSetUpd s.build e (cfg s)) (ePort e)) }

/-- HOLD of a port as its lists give it: it acts only while preemption is ACTIVE (R313, R314). -/
def settleHold (p : Nat) (s : State) : State :=
  updGate p (fun r => { r with hold := decide ((port s p).pre = .active) && holdAt r (timeSixteenths s) }) s

/-- A change of gate list or enable that comes with a flip (R316): in phase at once when BASE_NS has passed, else waiting for BASE_NS. -/
def gateFlip (p : Nat) (s : State) : State :=
  match (cfg s).gate.get? p with
  | none => s
  | some g =>
    if !decide (p ∈ (cfg s).gateOn) then s
    else
      let base := absTarget s g.base
      let s1 := settleGateCredits p s
      settleHold p (if base ≤ timeNs s then changeLists p (fun _ => { run := some (g, base), entry := (gateIn g base (timeSixteenths s)).elim 0 (·.1) }) s1
        else changeLists p (fun r => { r with next := some (g, base), flipWait := true }) s1)

/-- Let an immediate list or enable wait for its START, while the list in force runs on (R305). A START that it replaces no longer asserts HOLD. -/
def gateArm (p : Nat) (g : GateList) (s : State) : State × Verdict :=
  let r := gateStart s g
  (settleHold p (changeLists p (fun x => { x with next := some (g, r.1), flipWait := false }) s),
    if r.2 then adjustedV (leB 8 (unsignedN 64 r.1)) else okV (leB 8 (unsignedN 64 r.1)))

/-- GATE_LIST_SET (R301, R305, R316): an immediate list on a port whose list is enabled gets its START. -/
def execGateListSet (e : Env) (s : State) : Host.Outcome State Fault Refusal :=
  .next (runStagedV (.gateListSet e) 0x0A01 (fun n => n = 24 + 8 * fld e.payload 2 2) [⟨0x0A01, ePort e, 0⟩] false (gateListSetChk e) id (leB 8 0)
    (fun s => let s1 := updCfg (cfgUpd s.build (.gateListSet e)) s
      if ePort e ∈ (cfg s1).gateOn then gateArm (ePort e) (gateListOf e.payload) s1 else (s1, okV (leB 8 0))) e s)

/-- The flip of a staged GATE_LIST_SET (R316). -/
def gateListSetSide (e : Env) (s : State) : State := gateFlip (ePort e) s

/-- The checks that the two GATE_ENABLE rows share. -/
def gateEnableChk (e : Env) (s : State) : Chk :=
  let p := e.payload
  let l := (cfg s).gate.get? (ePort e)
  { present := portThere s (ePort e) 1024
    fields := [below p 0 2 1024, below p 2 1 2, zeroAt p 3 1]
    st := match l with
      | none => some 1
      | some g => if byteAt p 2 = 1 && !decide (ePort e ∈ (cfg s).gateOn) && targetTooFar s g.base then some 0x0B else none }

/-- The START that a port's enabled list has: of the waiting one, else of the running one. -/
def startOf (r : GateRt) : Int :=
  match r.next with
  | some (_, st) => st
  | none => match r.run with
    | some (_, st) => st
    | none => 0

/-- GATE_ENABLE with ENABLE 1 (R305): a list that is enabled already keeps its START. -/
def execGateEnableOn (e : Env) (s : State) : Host.Outcome State Fault Refusal :=
  .next (runStagedV (.gateEnableOn e) 0x0A02 (lenIs 4) [⟨0x0A02, ePort e, 0⟩] false (gateEnableChk e) id (leB 8 0)
    (fun s => if ePort e ∈ (cfg s).gateOn then (s, okV (leB 8 (unsignedN 64 (startOf (gateRt s (ePort e))))))
      else match (cfg s).gate.get? (ePort e) with
        | none => (s, okV (leB 8 0))
        | some g => gateArm (ePort e) g (updCfg (cfgUpd s.build (.gateEnableOn e)) s)) e s)

/-- The flip of a staged GATE_ENABLE with ENABLE 1 (R316). -/
def gateEnableOnSide (e : Env) (s : State) : State :=
  if (gateRt s (ePort e)).run.isSome || (gateRt s (ePort e)).next.isSome then s else gateFlip (ePort e) s

/-- All gates open, HOLD releases, a waiting start is discarded (R318). -/
def gateEnableOffSide (e : Env) (s : State) : State := changeLists (ePort e) (fun _ => {}) (settleGateCredits (ePort e) s)

/-- GATE_ENABLE with ENABLE 0 (R318). -/
def execGateEnableOff (e : Env) (s : State) : Host.Outcome State Fault Refusal :=
  .next (runStagedV (.gateEnableOff e) 0x0A02 (lenIs 4) [⟨0x0A02, ePort e, 0⟩] false (gateEnableChk e) id (leB 8 0)
    (fun s => (gateEnableOffSide e (updCfg (cfgUpd s.build (.gateEnableOff e)) s), okV (leB 8 0))) e s)

/-- The response data of GATE_STATUS. -/
def gateStatusData (s : State) (p : Nat) : List Byte :=
  let r := gateRt s p
  let t := timeSixteenths s
  let inForce := listAt r t
  let st := match inForce with | some _ => 2 | none => if r.next.isSome || r.run.isSome then 1 else 0
  let entry := match inForce with | some (g, b) => (gateIn g b t).elim 0 (·.1) | none => 0
  let start := match inForce, r.run, r.next with
    | some (_, b), _, _ => b
    | none, some (_, b), _ => b
    | none, none, some (_, b) => b
    | none, none, none => 0
  let nextStart := match r.next with | some (_, b) => if r.flipWait then b else 0 | none => 0
  let cyc := match inForce with | some (g, b) => ((timeNs s - b) / g.cycle, g.cycle) | none => (0, 0)
  leB 1 st ++ leB 1 entry ++ leB 2 (gatesAt r t) ++ leB 1 (b2n r.hold) ++ leB 3 0 ++ leB 8 (unsignedN 64 start) ++ leB 8 (unsignedN 64 nextStart)
    ++ leB 8 (unsignedN 64 cyc.1) ++ leB 4 cyc.2 ++ leB 4 0 ++ (List.range 4).flatMap (fun i => leB 8 (ctrOf s ⟨.gate, p, 0, i⟩))

/-- The checks of GATE_STATUS (R307). -/
def gateStatusChk (e : Env) (s : State) : Chk :=
  let p := e.payload
  { present := portThere s (ePort e) 1024, fields := [below p 0 2 1024, below p 2 1 2, zeroAt p 3 1] }

/-- GATE_STATUS (R307). -/
def execGateStatus (e : Env) (s : State) : Host.Outcome State Fault Refusal :=
  let p := e.payload
  .next (runOk 0x0A03 (lenIs 4) (gateStatusChk e s) e (fun s => gateStatusData s (ePort e))
    (fun s => if bitN (byteAt p 2) 0 then clearCtrs (fun c => decide (c.fam = .gate) && decide (c.unit = ePort e)) s else s) s)

/-- The checks of GATE_OVERHEAD_SET (R280). -/
def gateOverheadSetChk (e : Env) (s : State) : Chk :=
  let p := e.payload
  { present := portThere s (ePort e) 1088, fields := [below p 0 2 1088, within p 2 1 0 64, zeroAt p 3 1] }

/-- GATE_OVERHEAD_SET (R280). -/
def execGateOverheadSet (e : Env) (s : State) : Host.Outcome State Fault Refusal :=
  .next (runStaged (.gateOverheadSet e) 0x0A04 (lenIs 4) [⟨0x0A04, ePort e, 0⟩]
    (gateOverheadSetChk e) id e s)

/-- HOLD as an entry's OP leaves it; it acts only while preemption is ACTIVE (R313, R314). -/
def holdOp (s : State) (p : Nat) (op : Nat) (old : Bool) : Bool :=
  if (port s p).pre ≠ .active then false else if op = 1 then true else if op = 2 then false else old

/-- End the current fragment of a preemptable frame in transmission when HOLD is asserted or its gate has closed (R312). -/
def cutFragment (p : Nat) (s : State) : State :=
  let x := port s p
  let r := gateRt s p
  match x.cur with
  | none => s
  | some cur => match cur.item with
    | .own _ _ => s
    | .copy c =>
      if x.pre = .active && bitN ((cfg s).preempt.getD p {}).mask c.q && (r.hold || !gateOpenAt r c.q (timeSixteenths s)) then
        bump (pCtr p 23) (updPort p (fun x => { x with cur := none, preempted := some { cur with preempted := true } }) s)
      else s

/-- GATE_LIST_START: the waiting list's START has come (R305, R307, R316). -/
def execGateListStart (p : Nat) (s : State) : Host.Outcome State Fault Refusal :=
  let r := gateRt s p
  match r.next with
  | none => .next s
  | some (g, st) =>
    if timeNs s < st then .next s
    else
      let k := gateIn g st (timeSixteenths s)
      .next (cutFragment p (changeLists p (fun x => { run := some (g, st), next := none, flipWait := false, entry := k.elim 0 (·.1)
                                                      hold := holdOp s p (k.elim 0 (·.2.1.op)) x.hold }) (settleGateCredits p s)))

/-- GATE_ENTRY: the running list is in another entry (R303, R307, R313). -/
def execGateEntry (p : Nat) (s : State) : Host.Outcome State Fault Refusal :=
  match listAt (gateRt s p) (timeSixteenths s) with
  | none => .next s
  | some (g, st) =>
    match gateIn g st (timeSixteenths s) with
    | none => .next s
    | some (k, x, _) => .next (cutFragment p (updGate p (fun r => { r with entry := k, hold := holdOp s p x.op r.hold }) s))

/-- HOLD_ASSERT: HOLD asserts HOLD_ADVANCE_NS before a held entry or a held list start (R313). -/
def execHoldAssert (p : Nat) (s : State) : Host.Outcome State Fault Refusal :=
  .next (if holdAt (gateRt s p) (timeSixteenths s) && decide ((port s p).pre = .active) then cutFragment p (updGate p (fun r => { r with hold := true }) s) else s)

end Sys2Proof.Machine
end

