-- ==== Sys2Proof/Machine/CtlOps.lean ====
section
/-! DEFINITION. The control pair: host accesses that reach it, the delivery of a command's response, its reset (R57, R86, R449, R499, R502). -/

namespace Sys2Proof.Machine

/-- A host access answered ERR (R57). -/
def hptErr (s : State) : State := hptAnswer 1 0 s

/-- An access that HST serves keeps it awake (R476). -/
def atHst (f : State → State) (s : State) : State := f (askWake 66 s)

/-- An access to the boot mailbox keeps CTL awake too (R476). -/
def atCtl (f : State → State) (s : State) : State := atHst (fun s => f (askWake 65 s)) s

/-- A request waits until HST, or CTL with it, has woken (R56, R57, R476). A 33rd outstanding request is not accepted: HPT_REQ_READY stays low. -/
def hptDefer (i : HptAccess) (ctl : Bool) (s : State) : State :=
  if 32 ≤ s.hpt.waiting.length then s
  else
    let s1 := askWake 66 { s with hpt := { s.hpt with waiting := s.hpt.waiting ++ [(s.hpt.tag, i)] } }
    if ctl then askWake 65 s1 else s1

/-- Whether an HPT request outside the Owl-served pages can be answered now: no earlier one waits, and HST runs, or has failed to wake (R56, R57, R480);
of the boot mailbox, CTL likewise. -/
def hptServed (ctl : Bool) (s : State) : Bool :=
  let here := fun (d : Nat) => (dom s d).wakeFail || (dom s d).st = .run
  s.hpt.waiting.isEmpty && here 66 && (!ctl || here 65 || (dom s 66).wakeFail)

/-- The access `i` that HST serves: it wakes HST, waits until it has woken, and is answered ERR when HST fails to wake (R57, R476, R480). -/
def viaHst (i : HptAccess) (f : State → State) (s : State) : State :=
  if !hptServed false s then hptDefer i false s else if (dom s 66).wakeFail then hptErr s else atHst f s

/-- The access `i` to the boot mailbox: CTL beside HST (R476, R480). -/
def viaCtl (i : HptAccess) (f : State → State) (s : State) : State :=
  if !hptServed true s then hptDefer i true s else if (dom s 66).wakeFail || (dom s 65).wakeFail then hptErr s else atCtl f s

/-- A control-pair reset gives the active causes of the event port back (R449). -/
def eventReset (q : Irq) : Irq := { q with evPend := q.evStack.foldl addTo q.evPend, evStack := [] }

/-- The response of a command stands where its path delivers it (R84, R94, R474). -/
def delivered (s : State) (e : Env) : Bool :=
  match e.path with
  | .mailbox => s.mb.ready.isNone
  | .admin i => !s.adm.journal.any (fun j => decide (j.index = i))
  | .otd => true

/-- A reset meets the boot mailbox (R86): a command in progress is complete or without effect, BUSY and DONE clear. -/
def mailboxReset (m : Mailbox) : Mailbox :=
  { m with
    busy := false, done := false, locked := false, ready := none
    lastTag := match m.ready with
      | some (r, true) => r.tag
      | _ => m.lastTag }

/-- A command of the boot mailbox. -/
def isMailbox (e : Env) : Bool := decide (e.path = .mailbox)

/-- The mailbox command that a control-pair reset meets with its effect begun, as complete (R86): an engine or slice core that resets, a policy whose
entry is asked for, a set in VOTING. -/
def mailboxCompletes (s : State) : Option Word :=
  ((s.eng.rt.filterMap (fun x => x.2.owed)) ++ s.badger.sliceOwed.map Prod.snd
      ++ s.pwr.rounds.filterMap (fun r => match r.by' with | .now e => some e | _ => none)
      ++ s.quad.sets.filterMap (fun q => if q.st = .voting then q.owed else none)).find? isMailbox |>.map (fun e => e.tag)

/-- Nobody waits any more for the answer of a mailbox command (R86). A QUAD_APPLY that waits for its arming, a HIBERNATE in its ask round and a
SEZAL_RESYNC that waits for an answer end without effect; the rest goes on as complete. Which of the two R86 leaves open (DESIGN CHOICE, log 61). -/
def forgetMailbox (s : State) : State :=
  let mine := fun (o : Option Env) => match o with | some e => isMailbox e | none => false
  let dropped := s.pwr.rounds.filter (fun r => match r.by' with | .hibernate e => isMailbox e | _ => false)
  let settle := fun (r : AskRound) => match r.by' with | .now e => if isMailbox e then { r with by' := .auto } else r | _ => r
  let s1 := dropped.foldl (fun s r => r.domains.foldl (fun s d => updDom d (fun x => { x with trans := .none }) s) s) s
  { s1 with
    eng := { s1.eng with rt := s1.eng.rt.mapV (fun _ r => if mine r.owed then { r with owed := none } else r) }
    badger := { s1.badger with sliceOwed := s1.badger.sliceOwed.filter (fun x => !isMailbox x.2) }
    pwr := { s1.pwr with rounds := (s1.pwr.rounds.filter (fun r => decide (r ∉ dropped))).map settle }
    sez := { s1.sez with following := match s1.sez.following with | some (e, r) => if isMailbox e then none else some (e, r) | none => none }
    quad := { s1.quad with sets := s1.quad.sets.map (fun q =>
      if mine q.owed then { q with owed := none, applying := q.applying && decide (q.st = .voting), hit := q.hit && decide (q.st = .voting) } else q) } }

/-- The journal after a warm or control-pair reset (R93, R119): firmware executes again what is not marked done. -/
def journalAgain (a : Admin) (why : Nat) : Admin :=
  { a with
    lastReset := why, replayOwed := true, replayed := 0, rewritten := 0
    journal := a.journal.map (fun j => { j with again := !j.done }) }

/-- The control pair restarts (R499, R502): cores and event-port stack clear, control RAM and the sets stay, the data path runs on. -/
def ctlReset (s0 : State) : State :=
  let s := if s0.mb.busy then forgetMailbox s0 else s0
  { s with
    mb := if s0.mb.busy then { mailboxReset s0.mb with lastTag := (mailboxCompletes s0).getD (mailboxReset s0.mb).lastTag } else s0.mb
    boot := { s.boot with ready := false, stage := 1, owed := 3, resetAsked := none }
    adm := journalAgain s.adm 2
    irq := eventReset s.irq
    badger := { s.badger with ctlHeld := 1 } }

/-- A SYS_RESET CTL takes effect once its response is delivered. -/
def ctlDue (s : State) : State :=
  match s.boot.resetAsked with
  | some (3, e) => if delivered s e then ctlReset s else s
  | _ => s

end Sys2Proof.Machine
end

