-- ==== Sys2Proof/Machine/Admit.lean ====
section
/-! DEFINITION. Admission: numbering, ports that take nothing, the descriptor (R24, R25, R27, R137, R325, R333). -/

namespace Sys2Proof.Machine

/-- A port that takes no unguarded copy at admission: DOWN, COMING_UP or FLUSHED (R137). -/
def portRefuses (s : State) (p : Nat) : Bool :=
  !isHostPort p && (match (port s p).link with
    | .up => false
    | .held => false
    | _ => true)

/-- Number a guarded GENERATE frame (R325). -/
def numberFrame (k : Classified) (s : State) : Classified × State :=
  let gen := match (cfgAt s k.frame.epoch).flows.get? k.flow with
    | some x => decide (x.seqMode = 1)
    | none => false
  if k.guarded && gen then
    let n := (s.flows.rt.getD k.flow {}).genSeq
    ({ k with seq := some n.toNat }, { s with flows := { s.flows with rt := s.flows.rt.upd k.flow {} (fun r => { r with genSeq := n + 1 }) } })
  else (k, s)

/-- Discard at admission the unguarded copies, mirror copies among them, whose ports are not there to take them (R137, R300). -/
def dropAtDownPorts (sl : Nat) (k : Classified) (s : State) : Classified × State :=
  let lost := fun (s : State) (x : Nat × Nat) => capDrop sl 0x0C k (some x) (bump (pCtr x.1 17) s)
  let here := fun (x : Nat × Nat) => k.guarded || !portRefuses s x.1
  let mirrorHere := fun (x : Nat × Nat × Nat) => !portRefuses s x.2.1
  ({ k with copies := k.copies.filter here, mirrors := k.mirrors.filter mirrorHere },
    ((k.mirrors.filter (fun x => !mirrorHere x)).map Prod.snd).foldl lost ((k.copies.filter (fun x => !here x)).foldl lost s))

/-- Count the copies that do not take the queue that M5.QUEUE names, at that queue (R273). -/
def countRemaps (k : Classified) (s : State) : State :=
  k.copies.foldl (fun s x => if x.2 = m5Queue k.m then s else bump ⟨.queue, qid x.1 (m5Queue k.m), 0, 3⟩ s) s

/-- Write an admitted frame's descriptor, marked for each egress slice that holds a copy (R333). -/
def storeFrame (writing : Bool) (k : Classified) (s : State) : State :=
  let n := s.buf.nextFrame
  let ports := k.copies.map Prod.fst ++ k.mirrors.map (fun x => x.2.1)
  let marks := ports.foldl (fun l p => addTo l (sliceOf s p)) []
  let x : Stored := { c := k, marks, left := ports.length, writing }
  { s with buf := { s.buf with frames := s.buf.frames.set n x, nextFrame := n + 1 } }

/-- Admit a frame: it gets the next frame number (R25, R27, R325). `writing` says that it travels cut-through and its cells are still to be written. -/
def admitNow (sl : Nat) (writing : Bool) (k : Classified) (s : State) : State :=
  let (k1, s1) := numberFrame k s
  let (k2, s2) := dropAtDownPorts sl k1 s1
  let s3 := countRemaps k2 (if k2.frame.bad then s2
    else flowCount k2.flow sl 0 (if k2.flow = noFlow then s2 else addCtr ⟨.flow, k2.flow, sl, 1⟩ (wireLen k2.frame.data) s2))
  freeIfDone s3.buf.nextFrame (storeFrame writing k2 s3)

end Sys2Proof.Machine
end

