-- ==== Sys2Proof/Machine/FwdOps.lean ====
section
/-! DEFINITION. The MAC table, learning, LAG buckets, the shared pool (R246, R259 to R269). -/

namespace Sys2Proof.Machine

/-- The VIS value that shows only one parity (R113). -/
def visOnly (parity : Bool) : Nat := if parity then 2 else 1

/-- An entry is visible in a parity (R113). -/
def visIn (vis : Nat) (parity : Bool) : Bool := bitN vis (b2n parity)

/-- An entry stands in the view of a set (0: no set): the set's own staged changes as they will be, other sets' as they are now (R103, R113). -/
def standsFor (parity : Bool) (setId vis staged : Nat) : Bool :=
  if setId ≠ 0 && staged = setId then visIn vis (!parity) else visIn vis parity

/-- The claim of a MAC address (R103). -/
def macClaim (fid mac : Nat) : Claim := ⟨0x0802, 0x0100, fid * 2 ^ 48 + mac⟩

/-- The entry of an address that a lookup in parity `e` finds. -/
def macFind (s : State) (fid mac : Nat) (e : Bool) : Option MacEntry :=
  s.tables.mac.find? (fun x => decide (x.fid = fid) && decide (x.mac = mac) && visIn x.vis e)

/-- The entry that a lookup from slice `sl` finds in its cluster's replica (R259, R497). -/
def macSeen (s : State) (sl fid mac : Nat) (e : Bool) : Option MacEntry :=
  (macFind s fid mac e).filter (fun x => !decide (clusterOf s sl ∈ x.lost))

/-- Entries that never fail to insert (R242). -/
def macGuaranteed (s : State) : Nat := if nSlices s = 1 then 221184 else if nSlices s = 2 then 442368 else 884736

/-- Entries at most (R242). -/
def macMax (s : State) : Nat := if nSlices s = 1 then 262144 else if nSlices s = 2 then 524288 else 1048576

/-- An insert succeeds (R259): beyond the guaranteed count by a free value, log 13. -/
def macRoom (s : State) : Bool :=
  let n := s.tables.mac.length
  n < macGuaranteed s || (n < macMax s && !Config.bucketFull s.fresh)

/-- MAC slots of a replica (R242). -/
def macSlots (s : State) : Nat := if nSlices s = 1 then 294912 else if nSlices s = 2 then 589824 else 1179648

/-- A free slot of the MAC table: which one is a free value (R259 leaves the bucket line open). Numbers from `macSlots` on are the places of the overflow
stash (DESIGN CHOICE, log 13). -/
def macSlot (s : State) : Nat :=
  (pickFree 0 (macSlots s + 1024) (fun k => s.tables.mac.any (fun y => decide (y.slot = k))) (s.tables.mac.length + 1) (Config.fwChoice 4 s.fresh)).getD 0

/-- Insert a MAC entry, in a free slot. -/
def macInsert (x : MacEntry) (s : State) : State :=
  { s with fresh := s.fresh + 1, tables := { s.tables with mac := s.tables.mac ++ [{ x with slot := macSlot s }] } }

/-- The 16 bytes of a MAC entry as stored (R259). -/
def macLine (x : MacEntry) : List Byte :=
  leB 2 (1 + 2 * x.vis + 8 * b2n x.static + 16 * b2n x.dsa + 32 * b2n x.dda + 256 * (x.target % 256))
    ++ leB 2 (x.target / 256 + 8 * b2n x.mcast + 16 * x.fid) ++ leB 6 x.mac ++ leB 6 0

/-- Change the MAC entries that satisfy `p`. -/
def macMap (p : MacEntry → Bool) (f : MacEntry → MacEntry) (s : State) : State :=
  { s with tables := { s.tables with mac := s.tables.mac.map (fun x => if p x then f x else x) } }

/-- Remove the MAC entries that satisfy `p`. -/
def macDrop (p : MacEntry → Bool) (s : State) : State := { s with tables := { s.tables with mac := s.tables.mac.filter (fun x => !p x) } }

/-- The address is claimed by an open set (R260, R264). -/
def macClaimed (s : State) (fid mac : Nat) : Bool := (claimHolder s 0 [macClaim fid mac]).isSome

/-- Count in the slice's forwarding counters (BUF_STATUS SCOPE 3). -/
def fwdCount (sl i : Nat) (s : State) : State := bump ⟨.fwd, sl, 0, i⟩ s

/-- LEARN_OVERFLOW, at most once per 1 ms (R260). -/
def learnOverflow (s : State) : State :=
  if dueMs s s.tables.overflowAt then fire 21 { s with tables := { s.tables with overflowAt := some (rawNs s) } } else s

/-- A move of a dynamic entry (R261): count it, forget moves older than one second, freeze the entry beyond MOVE_LIMIT. -/
def macMove (v : LearnEv) (x : MacEntry) (s : State) : State :=
  let now := rawNs s
  let moves := (x.moves.filter (fun t => decide (now < t + 1000000000))) ++ [now]
  let g := (cfg s).learnG
  let freeze := g.moveLimit ≠ 0 && g.moveLimit < moves.length
  let s1 := fwdCount v.slice 5 (macMap (fun y => decide (y.fid = v.fid) && decide (y.mac = v.mac))
    (fun y => { y with target := v.target, lost := [], moves, active := true, frozen := if freeze then some (now + g.freeze * 1000000000) else y.frozen }) s)
  if freeze then fire 20 (fwdCount v.slice 6 s1) else s1

/-- The learn arbiter applies one event (R260, R261). -/
def applyLearn (v : LearnEv) (s : State) : State :=
  if macClaimed s v.fid v.mac then fwdCount v.slice 8 s
  else match macFind s v.fid v.mac s.quad.parity with
    | some x =>
      if x.static || x.mcast || decide (v.seq < x.learnedAt) then s
      else if x.target = v.target then macMap (fun y => decide (y = x)) (fun y => { y with lost := [] }) s
      else if x.frozen.isSome then s
      else macMove v x s
    | none =>
      if macRoom s then
        macInsert { fid := v.fid, mac := v.mac, target := v.target, mcast := false, static := false, dsa := false, dda := false, slot := 0, active := true
                    learnedAt := s.tables.learnSeq } s
      else learnOverflow (fwdCount v.slice 7 s)

/-- Apply every queued learn event: a flush passes the arbiter behind them (R264). -/
def drainLearn (s : State) : State := s.tables.learn.foldl (fun s v => applyLearn v s) { s with tables := { s.tables with learn := [] } }

/-- The entries that a flush removes (R264): dynamic ones, static ones when asked, never one that an open set claims. -/
def flushMatches (s : State) (p : MacEntry → Bool) (staticToo : Bool) (x : MacEntry) : Bool :=
  p x && (staticToo || !x.static) && !macClaimed s x.fid x.mac

/-- The LAG that a port belongs to. -/
def lagOf (c : Cfg) (p : Nat) : Option Nat := (c.lags.find? (fun l => decide (p ∈ l.2.members))).map Prod.fst

/-- The learning target of an ingress port: its LAG port when it is a member (R260). -/
def lagTarget (c : Cfg) (p : Nat) : Nat := match lagOf c p with
  | some g => 1536 + g
  | none => p

/-- Members of a LAG that carry: distributing, with their link UP (R267). -/
def carrying (s : State) (l : Lag) : List Nat :=
  (List.range l.members.length).filterMap (fun i => match l.members[i]? with
    | some p => if bitN l.distributing i && decide ((port s p).link = .up) then some p else none
    | none => none)

/-- FLUSH_ON_DOWN for a port that enters FLUSHED (R264): its own entries, and its LAG's when no member is UP. -/
def flushOnDown (p : Nat) (s : State) : State :=
  if !(cfg s).learnG.flushOnDown then s
  else
    let s1 := drainLearn s
    let lagDown := match lagOf (cfg s) p with
      | none => false
      | some g => match (cfg s).lags.get? g with
        | none => false
        | some l => l.members.all (fun m => decide ((port s1 m).link ≠ .up))
    let tgt := lagTarget (cfg s) p
    macDrop (flushMatches s1 (fun x => !x.mcast && (decide (x.target = p) || (lagDown && decide (x.target = tgt)))) false) s1

/-- Deal the buckets of members that no longer carry round-robin to those that do, in ascending bucket order (R269). -/
def dealBuckets (carry : List Nat) : List Nat → Nat → List Nat
  | [], _ => []
  | b :: l, k => if b ∈ carry then b :: dealBuckets carry l k else carry.getD (k % carry.length) b :: dealBuckets carry l (k + 1)

/-- How many buckets a member holds. -/
def held' (bs : List Nat) (p : Nat) : Nat := (bs.filter (fun b => decide (b = p))).length

/-- Move one bucket from `a` to `b`: the lowest-numbered one (DESIGN CHOICE, log 30). -/
def moveBucket (a b : Nat) : List Nat → List Nat
  | [] => []
  | x :: l => if x = a then b :: l else x :: moveBucket a b l

/-- Move buckets one at a time from the member holding the most to the one holding the least, until none differ by more than one (R269). -/
def balance (carry : List Nat) : Nat → List Nat → List Nat
  | 0, bs => bs
  | n + 1, bs =>
    match leastBy (fun p => 256 - held' bs p) carry, leastBy (held' bs) carry with
    | some most, some least => if held' bs least + 1 < held' bs most then balance carry n (moveBucket most least bs) else bs
    | _, _ => bs

/-- The buckets of a LAG after a change of its carrying members (R269): those of a member that stops go to the members that go on carrying, and then a
member that starts draws its own. -/
def newBuckets (carry : List Nat) (old : Option (List Nat)) : Option (List Nat) :=
  if carry.isEmpty then old
  else
    let was := old.getD (List.replicate 256 0xFFFF)
    let stay := carry.filter (fun p => decide (p ∈ was))
    let bs := dealBuckets (if stay.isEmpty then carry else stay) was 0
    some (if carry.any (fun p => decide (held' bs p = 0)) then balance carry 256 bs else bs)

/-- Settle the buckets of one LAG. -/
def rebalance (g : Nat) (s : State) : State :=
  match (cfg s).lags.get? g with
  | none => { s with tables := { s.tables with buckets := s.tables.buckets.del g } }
  | some l => match newBuckets (carrying s l) (s.tables.buckets.get? g) with
    | none => s
    | some bs => { s with tables := { s.tables with buckets := s.tables.buckets.set g bs } }

/-- A port's link or distributing state changed: its LAG's buckets move (R269). -/
def rebalancePort (p : Nat) (s : State) : State := match lagOf (cfg s) p with
  | none => s
  | some g => rebalance g s

/-- The sum of MIN_CELLS over all flows of a configuration (R246). -/
def minSum (c : Cfg) : Nat := sumOf (fun x => x.2.minCells) c.flows

/-- SHARED_CELLS (R246), floored at 0. -/
def sharedCellsOf (s : State) : Nat :=
  let iso := 8192 * s.buf.isolated.length
  32768 * nSlices s - iso - minSum (cfg s) - 256 * nSlices s - iso

/-- Recompute SHARED_CELLS. -/
def recomputeShared (s : State) : State := { s with buf := { s.buf with sharedCells := sharedCellsOf s } }

/-- A Quadrille set with a table change of table `t` is normalising (BUSY DETAIL 0x02). -/
def tableNormalising (s : State) (t : Nat) : Bool :=
  s.quad.sets.any (fun q => decide (q.st = .normalising) && q.changes.any (fun c => c.table && c.claims.any (fun x => decide (x.unit = t))))

/-- A bank of table `t` is being relocated (R497). -/
def relocatingTable (s : State) (t : Nat) : Bool := s.tables.relocating.any (fun x => decide (x.2 = t))

/-- BUSY of a table command. -/
def tableBusy (s : State) (t : Nat) : Option Nat := if relocatingTable s t then some 3 else if tableNormalising s t then some 2 else none

/-- A bit that a bitmap of 136 bytes may not carry: none lies above port 1 087, and 136 bytes end there; a port beyond the configuration is absent. -/
def bitmapPresent (s : State) (l : List Byte) : Bool := (bitmapPorts l).all (fun p => portPresent s p)

end Sys2Proof.Machine
end

