-- ==== Sys2Proof/Machine/Fwd.lean ====
section
/-! DEFINITION. The BUF and FWD classes, learning and ageing (R242 to R270). -/

namespace Sys2Proof.Machine

/-- Host-pool buffers in all (R242). -/
def hostPoolBuffers (s : State) : Nat := if nSlices s ≤ 4 then 65536 else 262144

/-- Buffers of every pool. -/
def poolBuffers (s : State) : Nat := sumOf (fun x => x.2.count) s.buf.pools

/-- The POOL_ID that POOL_CREATE takes: as asked, or firmware's choice (free value, log 23). -/
def poolIdOf (e : Env) (s : State) : Option Nat :=
  if byteAt e.payload 0 ≠ 0 then some (byteAt e.payload 0) else fwPick 5 s.fresh 1 63 (fun i => s.buf.pools.has i)

/-- The checks of POOL_CREATE (R252). -/
def poolCreateChk (e : Env) (s : State) : Chk :=
  let p := e.payload
  let id := poolIdOf e s
  { fields := [within p 0 1 0 63, within p 1 1 8 16, zeroAt p 2 2, within p 4 4 16 (hostPoolBuffers s), (8, fld p 8 8 % 64 = 0)]
    st := if byteAt p 0 ≠ 0 && s.buf.pools.has (byteAt p 0) then some 2 else none
    resource := if id.isNone || 63 ≤ s.buf.pools.length || hostPoolBuffers s < poolBuffers s + fld p 4 4 then some 0 else none }

/-- POOL_CREATE (R252). -/
def execPoolCreate (e : Env) (s : State) : Host.Outcome State Fault Refusal :=
  let p := e.payload
  let id := poolIdOf e s
  .next (runOk 0x0701 (lenIs 16) (poolCreateChk e s) e
    (fun _ => leB 1 (id.getD 0) ++ leB 3 0)
    (fun s => { s with fresh := s.fresh + 1, buf := { s.buf with pools := s.buf.pools.set (id.getD 0) { bufLog2 := byteAt p 1, count := fld p 4 4, base := fld p 8 8 } } }) s)

/-- The checks of POOL_DELETE (R256). -/
def poolDeleteChk (e : Env) (s : State) : Chk :=
  let p := e.payload
  let id := byteAt p 0
  let inUse := match s.buf.pools.get? id with
    | none => false
    | some x => !x.bufs.isEmpty || s.hq.sq.any (fun q => q.2.rx && decide (q.2.pool = id))
  { fields := [(0, s.buf.pools.has id), zeroAt p 1 3], st := if inUse then some 9 else none }

/-- POOL_DELETE (R256). -/
def execPoolDelete (e : Env) (s : State) : Host.Outcome State Fault Refusal :=
  let p := e.payload
  let id := byteAt p 0
  .next (runOk 0x0702 (lenIs 4) (poolDeleteChk e s) e (fun _ => [])
    (fun s => { s with buf := { s.buf with pools := s.buf.pools.del id } }) s)

/-- The checks of FLOW_MIN_SET (R250). -/
def flowMinSetChk (e : Env) (s : State) : Chk :=
  let p := e.payload
  { fields := [below p 0 4 (2 ^ 30), within p 4 4 0 65536]
    st := match (cfg s).flows.get? (fld p 0 4) with
      | none => some 3
      | some x => if x.guarded && decide (fld p 4 4 = 0) then some 7 else none
    resource := if 16384 * nSlices s < minSum (flowMinSetUpd s.build e (cfg s)) then some 0 else none }

/-- FLOW_MIN_SET recomputes SHARED_CELLS (R246). -/
def flowMinSetSide (_e : Env) (s : State) : State := recomputeShared s

/-- FLOW_MIN_SET (R250). -/
def execFlowMinSet (e : Env) (s : State) : Host.Outcome State Fault Refusal :=
  .next (runStaged (.flowMinSet e) 0x0703 (lenIs 8) [⟨0x0703, fld e.payload 0 4, 0⟩] (flowMinSetChk e) (flowMinSetSide e) e s)

/-- The checks of SHARED_LIMIT_SET (R247). -/
def sharedLimitSetChk (e : Env) (s : State) : Chk :=
  let p := e.payload
  let q := fld p 0 4
  { present := decide (q = 0xFFFFFFFF) || portThere s (q / 16) 1088
    fields := [(0, decide (q < 17408) || decide (q = 0xFFFFFFFF)), within p 4 1 0 9, zeroAt p 5 3] }

/-- SHARED_LIMIT_SET (R247). -/
def execSharedLimitSet (e : Env) (s : State) : Host.Outcome State Fault Refusal :=
  let p := e.payload
  let q := fld p 0 4
  .next (runStaged (.sharedLimitSet e) 0x0704 (lenIs 12) [⟨0x0704, q / 16, q⟩]
    (sharedLimitSetChk e) id e s)

/-- Response data of BUF_STATUS. -/
def bufStatusData (s : State) (scope id : Nat) : List Byte :=
  let b := s.buf
  let lim := (cfg s).sharedLim.getD id {}
  if scope = 0 then
    leB 4 (32768 * nSlices s - 8192 * b.isolated.length) ++ leB 4 b.sharedCells ++ leB 4 b.sharedInUse ++ leB 4 (minSum (cfg s))
      ++ leB 4 (freeInGroup s 0) ++ leB 4 (freeInGroup s 1) ++ leB 16 (sumOf (fun i => if i ∈ b.isolated then 2 ^ i else 0) (List.range 128))
      ++ leB 8 (ctrOf s ⟨.block, 0, 0, 0⟩) ++ leB 8 (ctrOf s ⟨.block, 0, 0, 1⟩)
  else if scope = 1 then leB 4 (b.sharedUsed.getD id 0) ++ leB 4 lim.maxCells ++ leB 1 lim.alpha ++ leB 3 0 ++ leB 8 (ctrOf s ⟨.queue, id, 0, 4⟩)
  else if scope = 2 then
    let x := b.pools.getD id { bufLog2 := 8, count := 0, base := 0 }
    let sh := (x.bufs.filter (fun y => decide (0 < y.2.shares))).length
    leB 4 (x.count - x.bufs.length) ++ leB 4 (x.bufs.length - sh) ++ leB 4 sh ++ leB 4 0 ++ leB 8 (ctrOf s ⟨.pool, id, 0, 0⟩) ++ leB 8 (ctrOf s ⟨.pool, id, 0, 1⟩)
  else if scope = 3 then (List.range 13).flatMap (fun i => leB 8 (ctrOf s ⟨.fwd, id, 0, i⟩))
  else
    let x := (cfg s).flows.get? id
    leB 4 (match x with | some f => f.minCells | none => 0) ++ leB 4 (b.minUsed.getD id 0) ++ leB 4 (b.flowShared.getD id 0) ++ leB 4 0

/-- The checks of BUF_STATUS (R507). -/
def bufStatusChk (e : Env) (s : State) : Chk :=
  let p := e.payload
  let scope := byteAt p 0
  let id := fld p 4 4
  { present := (scope ≠ 1 || decide (id = 0xFFFFFFFF) || portThere s (id / 16) 1088) && (scope ≠ 3 || 32 ≤ id || id < nSlices s)
    fields := [below p 0 1 5, below p 1 1 2, zeroAt p 2 2, (4, if scope = 0 then decide (id = 0) else if scope = 1 then decide (id < 17408) || decide (id = 0xFFFFFFFF)
      else if scope = 2 then s.buf.pools.has id else if scope = 3 then decide (id < 32) else decide (id < 2 ^ 30))]
    st := if scope = 4 && !(cfg s).flows.has id then some 3 else none }

/-- BUF_STATUS (R507). -/
def execBufStatus (e : Env) (s : State) : Host.Outcome State Fault Refusal :=
  let p := e.payload
  let scope := byteAt p 0
  let id := fld p 4 4
  let wipe := fun (f : CtrFam) (u : Nat) (s : State) => clearCtrs (fun c => decide (c.fam = f) && decide (c.unit = u) && (f ≠ .queue || c.idx = 4)) s
  .next (runOk 0x0705 (lenIs 8) (bufStatusChk e s) e (fun s => bufStatusData s scope id)
    (fun s => if !bitN (byteAt p 1) 0 then s
      else if scope = 0 then wipe .block 0 s else if scope = 1 then wipe .queue id s else if scope = 2 then wipe .pool id s
      else if scope = 3 then wipe .fwd id s else s) s)

/-- The checks of CUT_THROUGH_SET (R270). -/
def cutThroughSetChk (e : Env) (s : State) : Chk :=
  let p := e.payload
  { present := portThere s (ePort e) 1024, fields := [below p 0 2 1024, below p 2 1 2, zeroAt p 3 1]
    st := if (cfg s).ports.has (ePort e) then none else some 0 }

/-- CUT_THROUGH_SET (R270). -/
def execCutThroughSet (e : Env) (s : State) : Host.Outcome State Fault Refusal :=
  .next (runStaged (.cutThroughSet e) 0x0706 (lenIs 4) [⟨0x0706, ePort e, 0⟩]
    (cutThroughSetChk e) id e s)

/-- The checks of VLAN_SET_VLAN (R258). -/
def vlanSetVlanChk (e : Env) (s : State) : Chk :=
  let p := e.payload
  let mem := bitmapPorts (sub p 8 136)
  { present := bitmapPresent s (sub p 8 136) && bitmapPresent s (sub p 144 136)
    fields := [(0, byteAt p 0 = 0), below p 1 1 4, within p 2 2 1 4094, below p 4 2 4096, zeroAt p 6 2,
      (144, (bitmapPorts (sub p 144 136)).all (fun x => decide (x ∈ mem)))] }

/-- VLAN_SET KIND 0 (R258). -/
def execVlanSetVlan (e : Env) (s : State) : Host.Outcome State Fault Refusal :=
  let p := e.payload
  .next (runStaged (.vlanSetVlan e) 0x0801 (lenIs 280) [⟨0x0801, fld p 2 2, 0⟩]
    (vlanSetVlanChk e) id e s)

/-- The checks of VLAN_SET_PORT (R258). -/
def vlanSetPortChk (e : Env) (s : State) : Chk :=
  let p := e.payload
  { present := portThere s (fld p 2 2) 1088
    fields := [(0, byteAt p 0 = 1), (1, decide (byteAt p 1 < 8) && decide (bitsN (byteAt p 1) 2 1 ≠ 3)), below p 2 2 1088, within p 4 2 1 4094,
      below p 6 1 8, zeroAt p 7 1] }

/-- VLAN_SET KIND 1 (R258). -/
def execVlanSetPort (e : Env) (s : State) : Host.Outcome State Fault Refusal :=
  let p := e.payload
  .next (runStaged (.vlanSetPort e) 0x0801 (lenIs 8) [⟨0x0801, fld p 2 2, 1⟩]
    (vlanSetPortChk e) id e s)

/-- A MAC target of R259: a port, a LAG port, or a group with MCAST. -/
def macTargetOk (t : Nat) : Bool := bitN t 15 || t < 1088 || (1536 ≤ t && t < 1664)

/-- The MAC of a payload at offset 2, as a number in wire order. -/
def ePayMac (e : Env) : Nat := nfld e.payload 2 6

/-- The entry of an address as set `id` sees it. -/
def macStanding (s : State) (id fid mac : Nat) : Option MacEntry :=
  s.tables.mac.find? (fun x => decide (x.fid = fid) && decide (x.mac = mac) && standsFor s.quad.parity id x.vis x.staged)

/-- The set ID under which a command is judged. -/
def eSet (e : Env) : Nat := if staged e then e.setId else 0

/-- The checks of MAC_ADD. -/
def macAddChk (e : Env) (s : State) : Chk :=
  let p := e.payload
  let t := fld p 8 2
  let old := macStanding s (eSet e) (fld p 0 2) (ePayMac e)
  { fields := [below p 0 2 4096, (8, macTargetOk t && decide (bitsN t 14 11 = 0)), below p 10 1 4, zeroAt p 11 5]
    busy := tableBusy s 0x0100
    st := match old with
      | some x => if x.static then some 2 else none
      | none => none
    resource := if old.isSome || macRoom s then none else some 1 }

/-- The static entry of MAC_ADD. -/
def macAddEntry (e : Env) (vis staged : Nat) : MacEntry :=
  let p := e.payload
  let t := fld p 8 2
  { fid := fld p 0 2, mac := ePayMac e, target := t % 2048, mcast := bitN t 15, static := true, dsa := bitN (byteAt p 10) 0, dda := bitN (byteAt p 10) 1
    vis, staged, slot := 0 }

/-- The address of a MAC command. -/
def macIs (e : Env) (x : MacEntry) : Bool := decide (x.fid = fld e.payload 0 2) && decide (x.mac = ePayMac e)

/-- Mark the standing entry of an address as deleted by a set: it shows only the present parity (R113); the set's own earlier insert goes. -/
def macStageDelete (e : Env) (s : State) : State :=
  let parity := s.quad.parity
  macMap (fun x => macIs e x && x.staged = 0) (fun x => { x with vis := visOnly parity, staged := e.setId })
    (macDrop (fun x => macIs e x && decide (x.staged = e.setId) && decide (x.vis = visOnly (!parity))) s)

/-- An immediate MAC_ADD (R205, R259): over a dynamic entry it rewrites that entry's slot. -/
def macAddNow (e : Env) (s : State) : State :=
  let old := fun (x : MacEntry) => macIs e x && decide (x.staged = 0)
  if s.tables.mac.any old then macMap old (fun x => { macAddEntry e 3 0 with slot := x.slot }) s else macInsert (macAddEntry e 3 0) s

/-- MAC_ADD (R204, R259). -/
def execMacAdd (e : Env) (s : State) : Host.Outcome State Fault Refusal :=
  .next (runStagedV (.macAdd e) 0x0802 (lenIs 16) [macClaim (fld e.payload 0 2) (ePayMac e)] true (macAddChk e)
    (fun s => macInsert (macAddEntry e (visOnly (!s.quad.parity)) e.setId) (macStageDelete e s)) []
    (fun s => (macAddNow e s, okV [])) e s)

/-- The checks of MAC_DELETE. -/
def macDeleteChk (e : Env) (s : State) : Chk :=
  { fields := [below e.payload 0 2 4096], busy := tableBusy s 0x0100
    st := if (macStanding s (eSet e) (fld e.payload 0 2) (ePayMac e)).isSome then none else some 3 }

/-- MAC_DELETE (R259). -/
def execMacDelete (e : Env) (s : State) : Host.Outcome State Fault Refusal :=
  .next (runStagedV (.macDelete e) 0x0803 (lenIs 8) [macClaim (fld e.payload 0 2) (ePayMac e)] true (macDeleteChk e) (macStageDelete e) []
    (fun s => (macDrop (fun x => macIs e x && x.staged = 0) s, okV [])) e s)

/-- What MAC_FLUSH selects. -/
def macFlushSel (e : Env) (x : MacEntry) : Bool :=
  let p := e.payload
  (!bitN (byteAt p 0) 0 || (!x.mcast && decide (x.target = fld p 2 2))) && (!bitN (byteAt p 0) 1 || decide (x.fid = fld p 4 2))

/-- The checks of MAC_FLUSH (R264). -/
def macFlushChk (e : Env) (s : State) : Chk :=
  let p := e.payload
  { fields := [below p 0 1 8, zeroAt p 1 1, (2, !bitN (byteAt p 0) 0 || decide (fld p 2 2 < 1088) || (decide (1536 ≤ fld p 2 2) && decide (fld p 2 2 < 1664))),
      (4, !bitN (byteAt p 0) 1 || decide (fld p 4 2 < 4096)), zeroAt p 6 2], busy := tableBusy s 0x0100 }

/-- MAC_FLUSH (R264): behind the events already taken. -/
def execMacFlush (e : Env) (s : State) : Host.Outcome State Fault Refusal :=
  let p := e.payload
  .next (runCmd 0x0804 (lenIs 8) (macFlushChk e s) e
    (fun s => let s1 := drainLearn s
      let m := flushMatches s1 (macFlushSel e) (bitN (byteAt p 0) 2)
      respond e 0x0804 (okV (leB 4 (s1.tables.mac.filter m).length)) (macDrop m s1)) s)

/-- LEARN_CFG KIND 0 with a first AGE_TIME starts the scans from the command (R263). -/
def ageRestart (old new : Nat) (s : State) : State :=
  if old = 0 && new ≠ 0 then { s with tables := { s.tables with lastScan := rawNs s } } else s

/-- The checks of LEARN_CFG_GLOBAL (R261, R263, R264). -/
def learnCfgGlobalChk (e : Env) (_ : State) : Chk :=
  let p := e.payload
  { fields := [(0, byteAt p 0 = 0), below p 1 1 2, within p 2 2 0 1000,
  (4, decide (fld p 4 4 = 0) || (decide (10 ≤ fld p 4 4) && decide (fld p 4 4 ≤ 1000000))), within p 8 4 1 3600] }

/-- LEARN_CFG KIND 0 (R261, R263, R264). -/
def execLearnCfgGlobal (e : Env) (s : State) : Host.Outcome State Fault Refusal :=
  let p := e.payload
  .next (runStagedV (.learnCfgGlobal e) 0x0805 (lenIs 12) [⟨0x0805, 0xFFFF, 0⟩] false
    (learnCfgGlobalChk e) id []
    (fun s => (ageRestart (cfg s).learnG.ageTime (fld p 4 4) (updCfg (cfgUpd s.build (.learnCfgGlobal e)) s), okV [])) e s)

/-- The flip of a staged LEARN_CFG KIND 0. -/
def learnCfgGlobalSide (_e : Env) (s : State) : State := ageRestart (cfgAt s (!s.quad.parity)).learnG.ageTime (cfg s).learnG.ageTime s

/-- The checks of LEARN_CFG_PORT (R262). -/
def learnCfgPortChk (e : Env) (s : State) : Chk :=
  let p := e.payload
  { present := decide (1088 ≤ fld p 2 2) || portPresent s (fld p 2 2)
    fields := [(0, byteAt p 0 = 1), below p 1 1 4, (2, decide (fld p 2 2 < 1088) || (decide (1536 ≤ fld p 2 2) && decide (fld p 2 2 < 1664)))] }

/-- LEARN_CFG KIND 1 (R262). -/
def execLearnCfgPort (e : Env) (s : State) : Host.Outcome State Fault Refusal :=
  let p := e.payload
  .next (runStaged (.learnCfgPort e) 0x0805 (lenIs 8) [⟨0x0805, fld p 2 2, 1⟩]
    (learnCfgPortChk e) id e s)

/-- The checks of MCAST_GROUP_SET (R265). -/
def mcastGroupSetChk (e : Env) (s : State) : Chk :=
  let p := e.payload
  { present := bitmapPresent s (sub p 4 136), fields := [below p 0 2 2048, below p 2 1 2, zeroAt p 3 1] }

/-- MCAST_GROUP_SET (R265). -/
def execMcastGroupSet (e : Env) (s : State) : Host.Outcome State Fault Refusal :=
  let p := e.payload
  .next (runStaged (.mcastGroupSet e) 0x0806 (lenIs 156) [⟨0x0806, fld p 0 2, 0⟩]
    (mcastGroupSetChk e) id e s)

/-- The checks of LAG_SET. -/
def lagSetChk (e : Env) (s : State) : Chk :=
  let p := e.payload
  let ms := lagMembersOf p
  { present := ms.all (fun x => decide (1024 ≤ x) || portPresent s x)
    fields := [below p 0 1 128, below p 1 1 2, below p 2 2 2048, within p 8 1 0 32, zeroAt p 9 3, (12, decide (fld p 12 4 < 2 ^ byteAt p 8))]
      ++ (List.range ms.length).map (fun i => (16 + 2 * i, decide (ms.getD i 0 < 1024) && !decide (ms.getD i 0 ∈ ms.take i)))
    st := if bitN (byteAt p 1) 0 && ms.any (fun x => match lagOf (cfg s) x with | some g => decide (g ≠ byteAt p 0) | none => false) then some 8 else none }

/-- LAG_SET moves buckets (R269). -/
def lagSetSide (e : Env) (s : State) : State := rebalance (byteAt e.payload 0) s

/-- LAG_SET (R267, R269). -/
def execLagSet (e : Env) (s : State) : Host.Outcome State Fault Refusal :=
  .next (runStaged (.lagSet e) 0x0807 (fun n => n = 16 + 2 * byteAt e.payload 8) [⟨0x0807, byteAt e.payload 0, 0⟩] (lagSetChk e) (lagSetSide e) e s)

/-- The MAC entries in slot order from a slot on (MAC_DUMP). -/
def macPage (s : State) (start : Nat) (p : MacEntry → Bool) : List MacEntry :=
  (s.tables.mac.filter (fun x => decide (start ≤ x.slot) && p x)).foldl (fun l x => insertBy MacEntry.slot x l) []

/-- The 16 bytes of a MAC_DUMP entry. -/
def macDumpBytes (x : MacEntry) : List Byte :=
  leB 2 x.fid ++ beB 6 x.mac ++ leB 2 (x.target + 32768 * b2n x.mcast)
    ++ leB 1 (b2n x.static + 2 * b2n x.dsa + 4 * b2n x.dda + 8 * b2n x.frozen.isSome) ++ leB 1 x.age ++ leB 4 0

/-- The checks of MAC_DUMP (R259). -/
def macDumpChk (e : Env) (_ : State) : Chk :=
  let p := e.payload
  { fields := [(4, decide (fld p 4 2 < 4096) || decide (fld p 4 2 = 0xFFFF)), below p 6 1 2, zeroAt p 7 1] }

/-- MAC_DUMP (R259). -/
def execMacDump (e : Env) (s : State) : Host.Outcome State Fault Refusal :=
  let p := e.payload
  .next (runOk 0x0808 (lenIs 8) (macDumpChk e s) e
    (fun s => let l := macPage s (fld p 0 4) (fun x => (decide (fld p 4 2 = 0xFFFF) || decide (x.fid = fld p 4 2)) && (!bitN (byteAt p 6) 0 || x.static))
      leB 4 (match l[14]? with | some x => x.slot | none => 0xFFFFFFFF) ++ leB 2 (min 14 l.length) ++ leB 2 0 ++ (l.take 14).flatMap macDumpBytes) id s)

/-- LEARN_APPLY: the arbiter applies the oldest event (R260); events wait while a bank of the MAC table is relocated (R497). -/
def execLearnApply (s : State) : Host.Outcome State Fault Refusal :=
  match s.tables.learn with
  | [] => .next s
  | v :: l => .next (if relocatingTable s 0x0100 then s else applyLearn v { s with tables := { s.tables with learn := l } })

/-- One scan of one entry (R263). -/
def ageEntry (x : MacEntry) : MacEntry :=
  if x.static then x else if x.active then { x with active := false, age := 0 } else { x with age := x.age + 1 }

/-- MAC_AGE_SCAN: A / 4 seconds after the last scan (R263). -/
def execMacAgeScan (s : State) : Host.Outcome State Fault Refusal :=
  let a := (cfg s).learnG.ageTime
  if a = 0 || rawNs s < s.tables.lastScan + a * 250000000 then .next s
  else .next (macDrop (fun x => !x.static && decide (4 ≤ x.age)) (macMap (fun _ => true) ageEntry { s with tables := { s.tables with lastScan := rawNs s } }))

/-- FREEZE_EXPIRY: a frozen entry's FREEZE time has ended (R261). -/
def execFreezeExpiry (fid mac : Nat) (s : State) : Host.Outcome State Fault Refusal :=
  let now := rawNs s
  .next (macMap (fun x => decide (x.fid = fid) && decide (x.mac = mac) && (match x.frozen with | some t => decide (t ≤ now) | none => false))
    (fun x => { x with frozen := none }) s)

end Sys2Proof.Machine
end

