-- ==== Sys2Proof/Machine/Recover.lean ====
section
/-! DEFINITION. What an egress slice does with a handed-off frame: its copies, redundancy-node numbers, in-order recovery (R329 to R333, R342). -/

namespace Sys2Proof.Machine

/-- The redundancy node that a port belongs to (R341). -/
def nodeOf (c : Cfg) (p : Nat) : Option (Nat × PrpNode) := c.prp.find? (fun x => decide (x.2.portA = p) || decide (x.2.portB = p))

/-- The other port of a node. -/
def nodePeer (n : PrpNode) (p : Nat) : Nat := if n.portA = p then n.portB else n.portA

/-- The IEEE 802.1D reserved addresses 01-80-C2-00-00-0x, which a node never duplicates (R342). -/
def reservedDa (data : List Byte) : Bool := nfld data 0 6 / 16 = 0x0180C200000

/-- The egress set with a copy for the other port of every node that it meets in one port alone; a frame received on the node keeps its set (R342). -/
def withPeers (c : Cfg) (node : Option Nat) (data : List Byte) (l : List (Nat × Nat)) : List (Nat × Nat) :=
  if reservedDa data then l
  else l.foldl (fun acc x => match nodeOf c x.1 with
    | none => acc
    | some n => if some n.1 = node || acc.any (fun y => decide (y.1 = nodePeer n.2 x.1)) then acc else acc ++ [(nodePeer n.2 x.1, x.2)]) l

/-- The bytes by which a PRP trailer or HSR tag counts its LSDU: what follows the addresses and the EtherType, less a VLAN tag (R342;
IEC 62439-3, log 31). -/
def lsduSize (data : List Byte) : Nat := data.length - 14 - (if nfld data 12 2 = 0x8100 then 4 else 0)

/-- The 6-byte redundancy control trailer of a frame that will be `data` and the trailer (R342). -/
def prpTrailer (data : List Byte) (num lan : Nat) : List Byte := beB 2 num ++ beB 2 (lan * 4096 + (lsduSize data + 6) % 4096) ++ [0x88, 0xFB]

/-- The frame with an HSR tag after its SA (R342). -/
def hsrTagged (data : List Byte) (num path : Nat) : List Byte :=
  insertAt data 12 ([0x89, 0x2F] ++ beB 2 (path * 4096 + (lsduSize data + 6) % 4096) ++ beB 2 num)

/-- A valid PRP trailer: its suffix, a LanId of 0xA or 0xB, and the size of what it ends (R343; log 31). -/
def prpNumber (data : List Byte) : Option Nat :=
  let t := data.drop (data.length - 6)
  if 20 ≤ data.length && nfld t 4 2 = 0x88FB && (nfld t 2 2 / 4096 = 0xA || nfld t 2 2 / 4096 = 0xB) && nfld t 2 2 % 4096 = lsduSize data then some (nfld t 0 2)
  else none

/-- An HSR tag after the SA (R343). -/
def hsrNumber (data : List Byte) : Option Nat := if 20 ≤ data.length && nfld data 12 2 = 0x892F then some (nfld data 16 2) else none

/-- The number that a frame received on a node's port carries (R343). -/
def nodeNumber (n : PrpNode) (data : List Byte) : Option Nat := if n.mode = 1 then prpNumber data else hsrNumber data

/-- The frame without its node tag (R343). -/
def withoutNodeTag (n : PrpNode) (data : List Byte) : List Byte :=
  if n.mode = 1 then (match prpNumber data with | some _ => data.take (data.length - 6) | none => data)
  else (match hsrNumber data with | some _ => removeAt data 12 6 | none => data)

/-- Shift the header offsets at or above `a` by an insertion of `n` bytes (R221). -/
def shiftUp (a n : Nat) (hs : List Hdr) : List Hdr := hs.map (fun h => if a ≤ h.off then { h with off := h.off + n } else h)

/-- Header offsets after `n` bytes are removed at `a` (R221). -/
def shiftDown (a n : Nat) (hs : List Hdr) : List Hdr :=
  hs.map (fun h => if a + n ≤ h.off then { h with off := h.off - n } else if a ≤ h.off then { h with removed := true } else h)

/-- M7 after an insertion of `n` bytes at `a` (R221); M7 without a header stands as it is. -/
def m7Up (a n : Nat) (m : List Word) : List Word :=
  let w := mWord m 7
  let f := fun (v : Nat) => if a ≤ v then (v + n) % 128 else v
  if w = 0 then m else m.set 7 (BitVec.ofNat 32 (f (bitsN w 6 0) + bitsN w 7 7 * 128 + f (bitsN w 14 8) * 256 + bitsN w 15 15 * 32768 + bitsN w 31 16 * 65536))

/-- M7 after a deletion: an offset above moves down, one inside clears its header (R221). -/
def m7Down (a n : Nat) (m : List Word) : List Word :=
  let w := mWord m 7
  let f := fun (v : Nat) => if a + n ≤ v then v - n else v
  let gone := fun (v : Nat) => decide (a ≤ v) && decide (v < a + n)
  let po := bitsN w 6 0
  let lo := bitsN w 14 8
  if w = 0 then m
  else m.set 7 (BitVec.ofNat 32 (f po + (if gone po then 0 else bitsN w 7 7) * 128 + f lo * 256 + (if gone lo then 0 else bitsN w 15 15) * 32768 + bitsN w 31 16 * 65536))

/-- A copy's data and metadata as the egress slice core shapes them. -/
structure Shape where
  data : List Byte
  m : List Word
  hdrs : List Hdr
deriving DecidableEq, Repr

/-- Insert bytes and move the offsets of M7 and of the header vector (R221). -/
def shapeIns (a : Nat) (q : List Byte) (x : Shape) : Shape := ⟨insertAt x.data a q, m7Up a q.length x.m, shiftUp a q.length x.hdrs⟩

/-- Remove bytes and move the offsets of M7 and of the header vector (R221). -/
def shapeDel (a n : Nat) (x : Shape) : Shape := ⟨removeAt x.data a n, m7Down a n x.m, shiftDown a n x.hdrs⟩

/-- The Sezal tag that an egress slice core inserts (R347, R348). -/
def newSezalTag (s : State) (c : Classified) : List Byte :=
  let route := s.sez.inst * 2 ^ 23 + 1 * 2 ^ 9 + m5Prio c.m * 2 ^ 6
  beB 2 s.sez.etherType ++ beB 1 1 ++ beB 1 (4 + b2n c.guarded) ++ beB 4 route ++ beB 4 c.flow ++ beB 2 (if c.guarded then c.seq.getD 0 else 0) ++ beB 2 s.sez.domainNum

/-- HOPS of a Sezal tag (R347). -/
def tagHops (tag : List Byte) : Nat := bitsN (nfld tag 4 4) 13 9

/-- The tag with HOPS raised by 1 (R350). -/
def hopOn (tag : List Byte) : List Byte := patch tag 4 (beB 4 (nfld tag 4 4 + 2 ^ 9))

/-- The VLAN tag that the VID's sets want at a port: the outermost one removed, or one inserted (R258). -/
def vlanShape (g : Cfg) (c : Classified) (p : Nat) (vt : Option Nat) (x : Shape) : Shape :=
  match g.vlans.get? c.vid with
  | none => x
  | some v =>
    if !(v.all || decide (p ∈ v.members)) then x
    else match vt, v.all || decide (p ∈ v.untagged) with
      | some t, true => shapeDel t 4 x
      | none, false => shapeIns 12 (beB 2 (if (g.portVlan.getD p {}).sTag then 0x88A8 else 0x8100) ++ beB 2 (m5Prio c.m * 8192 + c.vid)) x
      | _, _ => x

/-- A copy that stays inside the redundancy node on which its frame arrived (R343). -/
def insideNode (g : Cfg) (c : Classified) (p : Nat) : Bool :=
  match c.node, nodeOf g p with
  | some n, some m => decide (m.1 = n)
  | _, _ => false

/-- The frame as its egress slice core shapes it for a port before E2, by the epoch in force (R111): the node tag and the Sezal tag that do not go
on, the VLAN tag of R258, the Sezal tag of a domain port (R343, R348, R350). A copy inside the node of its frame goes on unchanged. -/
def egressShape (s : State) (c : Classified) (p : Nat) : Shape :=
  let g := cfg s
  let x0 : Shape := ⟨c.frame.data, c.m, c.parse.hdrs⟩
  if insideNode g c p then x0
  else
    let node := match c.node with
      | some n => g.prp.get? n
      | none => none
    let x1 := match node with
      | some n => if n.mode = 2 then (if (hsrNumber x0.data).isSome then shapeDel 12 6 x0 else x0) else { x0 with data := withoutNodeTag n x0.data }
      | none => x0
    let tag := sub x1.data 12 16
    let x2 := if c.sezal then shapeDel 12 16 x1 else x1
    let vt := c.vtag.map (fun v => v - (if c.sezal then 16 else 0) - (match node with | some n => if n.mode = 2 && (hsrNumber x0.data).isSome then 6 else 0 | none => 0))
    let x3 := vlanShape g c p vt x2
    if g.domPort.has p then shapeIns 12 (if c.sezal then hopOn tag else newSezalTag s c) x3 else x3

/-- The data of a copy for a port. -/
def egressData (s : State) (c : Classified) (p : Nat) : List Byte := (egressShape s c p).data

/-- The copies of a frame in an egress slice (R333). -/
def copiesIn (c : Classified) (sl : Nat → Bool) : List (Nat × Nat) := c.copies.filter (fun x => sl x.1)

/-- The delivery group of a guarded frame's copy: one for a single decision, else each port its own, a node's pair one (R329, R342). -/
def groupOf (g : Cfg) (c : Classified) (p : Nat) : Nat :=
  if c.single then 0
  else 1 + (match nodeOf g p with
    | some n => if some n.1 = c.node then p else min n.2.portA n.2.portB
    | none => p)

/-- The copies of a frame in a slice, as they are enqueued: a node's pair takes the next number of its send counter (R342). -/
def copyRecords (f sl : Nat) (c : Classified) (s : State) : List Copy × State :=
  let here := copiesIn c (fun p => decide (sliceOf s p = sl))
  let g := cfg s
  let nodes := (g.prp.filter (fun n => some n.1 ≠ c.node && here.any (fun x => decide (x.1 = n.2.portA)) && here.any (fun x => decide (x.1 = n.2.portB)))).map Prod.fst
  let tag := fun (p : Nat) => match nodeOf g p with
    | none => none
    | some n => if n.1 ∈ nodes then some (n.2.mode, (s.flows.send.getD n.1 0).toNat, if n.2.mode = 1 then (if n.2.portA = p then 0xA else 0xB) else 0) else none
  let orig := here.map (fun x => ({ frame := f, port := x.1, q := x.2, enq := timeNs s, len := wireLen (egressData s c x.1), group := groupOf g c x.1
                                    node := tag x.1 } : Copy))
  (orig, { s with flows := { s.flows with send := nodes.foldl (fun m n => m.upd n 0 (· + 1)) s.flows.send } })

/-- The length with which a mirror copy of a session leaves: cut to TRUNCATE (R300). -/
def mirrorLen (s : State) (sess : Nat) (c : Classified) (p : Nat) : Nat :=
  let n := wireLen (egressData s c p)
  match (cfg s).mirror.get? sess with
  | some m => if m.truncate = 0 then n else min n m.truncate
  | none => n

/-- A mirror copy (R300). -/
def mirrorCopy (s : State) (f sess p q : Nat) (c : Classified) : Copy :=
  { frame := f, port := p, q, enq := timeNs s, len := mirrorLen s sess c p, mirror := some sess }

/-- The mirror copies of POINT 0 in a slice (R300). -/
def mirrorRecords (f sl : Nat) (c : Classified) (s : State) : List Copy :=
  (c.mirrors.filter (fun x => decide (sliceOf s x.2.1 = sl))).map (fun x => mirrorCopy s f x.1 x.2.1 x.2.2 c)

/-- Copies of a mirror session in a queue (R300). -/
def mirrorPending (s : State) (id sess : Nat) : Nat := ((queueOf s id).filter (fun c => decide (c.mirror = some sess))).length

/-- Enqueue a mirror copy, or discard it when its session already holds MAX_PENDING copies there (R300). -/
def enqueueMirror (x : Copy) (s : State) : State :=
  let sess := x.mirror.getD 16
  let room := match (cfg s).mirror.get? sess with
    | none => false
    | some m => decide (mirrorPending s (qid x.port x.q) sess < m.maxPending)
  if room then enqueueCopy x s else copyEnds x.frame (bump ⟨.tm, sliceOf s x.port, 0, 1⟩ s)

/-- Take the mark of a slice off a frame (R333). -/
def dropMark (f sl : Nat) (s : State) : State := freeIfDone f (updStored f (fun x => { x with marks := dropFrom x.marks sl }) s)

/-- Enqueue the mirror copies of a frame that a slice holds. -/
def releaseMirrors (f sl : Nat) (c : Classified) (s : State) : State := (mirrorRecords f sl c s).foldl (fun s x => enqueueMirror x s) s

/-- Release: enqueue a frame's copies in a slice on every queue they name, and remove its mark (R330, R333). -/
def releaseHere (sl f : Nat) (s : State) : State :=
  match storedOf s f with
  | none => s
  | some x =>
    let r := copyRecords f sl x.c s
    dropMark f sl (releaseMirrors f sl x.c (r.1.foldl (fun s c => enqueueCopy c s) r.2))

/-- Discard: free a slice's share of a frame (R330); its mirror copies go on. -/
def discardHere (sl f : Nat) (s : State) : State :=
  match storedOf s f with
  | none => s
  | some x =>
    let n := (copiesIn x.c (fun p => decide (sliceOf s p = sl))).length
    dropMark f sl (releaseMirrors f sl x.c (updStored f (fun y => { y with left := y.left - n }) s))

/-! In-order recovery (R330, R331). -/

/-- A recovery context on its way through R330: the context, the frames released in order, the numbers skipped. -/
structure RecStep where
  ctx : RecCtx
  out : List Nat := []
  skipped : Nat := 0
deriving DecidableEq, Repr

/-- Release the held frame that REC_SEQ names. -/
def recTake (r : RecStep) : RecStep :=
  let c := r.ctx
  { r with
    ctx := { c with held := c.held.filter (fun h => decide (h.1 ≠ c.recSeq.toNat)) }
    out := r.out ++ (c.held.filter (fun h => decide (h.1 = c.recSeq.toNat))).map Prod.snd }

/-- Move REC_SEQ on by one, noting in PAST whether it was released; answers whether the next number is held. -/
def recShift (released : Bool) (r : RecStep) : Bool × RecStep :=
  let c := r.ctx
  (c.ahead.getLsbD 0, { r with ctx := { c with
    past := (c.past <<< 1) ||| (if released then 1 else 0), recSeq := c.recSeq + 1, ahead := c.ahead >>> 1 } })

/-- The loop of advance(). -/
def recRun : Nat → Bool × RecStep → RecStep
  | 0, x => x.2
  | n + 1, (held, r) => if held then recRun n (recShift true (recTake r)) else r

/-- advance(), once REC_SEQ has been released. -/
def recAdvance (nowNs : Nat) (r : RecStep) : RecStep :=
  let x := recRun 65 (recShift true r)
  if x.ctx.held.isEmpty then x else { x with ctx := { x.ctx with gapSince := nowNs % 2 ^ 32 } }

/-- The loop of close_gap(): skip numbers until REC_SEQ names a held frame. -/
def recSkip : Nat → RecStep → RecStep
  | 0, r => r
  | n + 1, r =>
    let x := recShift false r
    let y := { x.2 with skipped := x.2.skipped + 1 }
    if x.1 then y else recSkip n y

/-- close_gap(). -/
def recCloseGap (nowNs : Nat) (r : RecStep) : RecStep :=
  if r.ctx.held.isEmpty then r else recAdvance nowNs (recTake (recSkip 65 r))

/-- close_all(). -/
def recCloseAll (nowNs : Nat) : Nat → RecStep → RecStep
  | 0, r => r
  | n + 1, r => if r.ctx.held.isEmpty then r else recCloseAll nowNs n (recCloseGap nowNs r)

/-- What R330 does with the frame that arrives. -/
inductive RecOut where
  | release | hold | dup | late | rogue | rogueReset
deriving DecidableEq, Repr

/-- Judge a frame of number `seq` (R330): at most one gap closes for each held frame. -/
def recJudge (nowNs recHold seq f : Nat) : Nat → RecStep → RecOut × RecStep
  | 0, r => (.dup, r)
  | n + 1, r =>
    let c := r.ctx
    let d := signedN 16 (seq + 65536 - c.recSeq.toNat)
    if c.takeAny then
      let r1 := { r with ctx := { c with recSeq := BitVec.ofNat 16 seq, past := 0, ahead := 0, takeAny := false, rogueRun := 0 } }
      (.release, recAdvance nowNs { r1 with out := r1.out ++ [f] })
    else if d = 0 then (.release, recAdvance nowNs { r with ctx := { c with rogueRun := 0 }, out := r.out ++ [f] })
    else if 1 ≤ d && d ≤ 64 then
      let i := (d - 1).toNat
      let r0 := { r with ctx := { c with rogueRun := 0 } }
      if c.ahead.getLsbD i then (.dup, r0)
      else if c.held.length = recHold then recJudge nowNs recHold seq f n (recCloseGap nowNs r0)
      else (.hold, { r0 with ctx := { r0.ctx with
        ahead := c.ahead ||| BitVec.ofNat 64 (2 ^ i), held := c.held ++ [(seq, f)], gapSince := if c.held.isEmpty then nowNs % 2 ^ 32 else c.gapSince } })
    else if -64 ≤ d && d ≤ -1 then
      (if c.past.getLsbD (-d - 1).toNat then .dup else .late, { r with ctx := { c with rogueRun := 0 } })
    else if c.rogueRun + 1 = 8 then
      let x := recCloseAll nowNs 65 { r with ctx := { c with rogueRun := 8 } }
      (.rogueReset, { x with ctx := { x.ctx with takeAny := true } })
    else (.rogue, { r with ctx := { c with rogueRun := c.rogueRun + 1 } })

/-- Whole ns of TIME, as recovery and ageing count it. -/
def nowWhole (s : State) : Nat := unsignedN 64 (timeNs s)

/-- Put a recovery step into the state: the context, the skips, the releases in order, the reorder store (R331). -/
def recCommit (sl flow : Nat) (r : RecStep) (s : State) : State :=
  let s1 := { s with flows := { s.flows with recs := s.flows.recs.set (flow, sl) r.ctx } }
  let s2 := addCtr ⟨.flow, flow, sl, 11⟩ r.skipped s1
  let s3 := updSlice sl (fun x => { x with reorder := x.reorder.filter (fun y => !decide (y.1 ∈ r.out)) }) s2
  r.out.foldl (fun s f => releaseHere sl f s) s3

/-- Close the gap of a context (R331). -/
def closeGapOf (sl flow : Nat) (s : State) : State :=
  match s.flows.recs.get? (flow, sl) with
  | none => s
  | some c => recCommit sl flow (recCloseGap (nowWhole s) { ctx := c }) s

/-- Close every gap of a context. -/
def closeAllOf (sl flow : Nat) (s : State) : State :=
  match s.flows.recs.get? (flow, sl) with
  | none => s
  | some c => recCommit sl flow (recCloseAll (nowWhole s) 65 { ctx := c }) s

/-- Age of a gap: whole ns of TIME less GAP_SINCE, mod 2^32. -/
def gapAge (s : State) (c : RecCtx) : Nat := (nowWhole s + 2 ^ 32 - c.gapSince % 2 ^ 32) % 2 ^ 32

/-- The context of a slice whose gap is oldest (R331). -/
def oldestGap (s : State) (sl : Nat) : Option Nat :=
  ((s.flows.recs.filter (fun x => decide (x.1.2 = sl) && !x.2.held.isEmpty)).foldl (fun best x => match best with
    | none => some (x.1.1, gapAge s x.2)
    | some b => if b.2 < gapAge s x.2 then some (x.1.1, gapAge s x.2) else best) none).map Prod.fst

/-- R330 would hold a frame of this number, and does not first close the gap of its own full context, which makes room. -/
def wouldHold (c : RecCtx) (recHold seq : Nat) : Bool :=
  let d := signedN 16 (seq + 65536 - c.recSeq.toNat)
  !c.takeAny && 1 ≤ d && d ≤ 64 && !c.ahead.getLsbD (d - 1).toNat && decide (c.held.length ≠ recHold)

/-- Make room in a full reorder store before an arrival that is to be held (R331). -/
def forceRoom (sl : Nat) (s : State) : State :=
  match oldestGap s sl with
  | none => s
  | some flow => closeGapOf sl flow (flowEvent flow 3 (bump ⟨.flow, flow, sl, 12⟩ s))

/-- Recovery of an arriving frame in a slice that has its flow's context (R330, R331). -/
def recover (sl flow recHold seq f : Nat) (s : State) : State :=
  let full := decide (8192 ≤ (slice s sl).reorder.length)
  let s0 := match s.flows.recs.get? (flow, sl) with
    | some c => if full && wouldHold c recHold seq then forceRoom sl s else s
    | none => s
  match s0.flows.recs.get? (flow, sl) with
  | none => releaseHere sl f s0
  | some c =>
    let (o, r) := recJudge (nowWhole s0) recHold seq f 66 { ctx := c }
    let count := fun (i : Nat) (s : State) => bump ⟨.flow, flow, sl, i⟩ s
    match o with
    | .release => recCommit sl flow r s0
    | .hold => updSlice sl (fun x => { x with reorder := x.reorder ++ [(f, flow)] }) (recCommit sl flow r s0)
    | .dup => discardHere sl f (count 8 (recCommit sl flow r s0))
    | .late => discardHere sl f (flowEvent flow 1 (count 9 (recCommit sl flow r s0)))
    | .rogue => discardHere sl f (count 10 (recCommit sl flow r s0))
    | .rogueReset => discardHere sl f (flowEvent flow 2 (count 10 (recCommit sl flow r s0)))

/-- A handed-off frame reaches an egress slice (R330, R333): recovery where its flow has a context there, else release. -/
def takeHandoff (sl f : Nat) (s : State) : State :=
  match storedOf s f with
  | none => s
  | some x =>
    match s.flows.recs.get? (x.c.flow, sl), x.c.seq, (cfg s).flows.get? x.c.flow with
    | some _, some n, some fc => recover sl x.c.flow fc.recHold n f s
    | _, _, _ => releaseHere sl f s

end Sys2Proof.Machine
end

