-- ==== Sys2Proof/Machine/Flow.lean ====
section
/-! DEFINITION. The FLOW class (R319 to R343) and the gap timer of recovery. -/

namespace Sys2Proof.Machine

/-- The instance in force, 0 when no Sezal domain is configured (R319). -/
def instNow (s : State) : Nat := if s.sez.enabled then s.sez.inst else 0

/-- A flow whose instance bits name another instance (R319). -/
def foreignFlow (s : State) (f : Nat) : Bool := f / 2 ^ 21 ≠ instNow s

/-- Pair 0x04 of a flow (R105, R505). -/
def pair04 (c : Cfg) (f : Nat) : List PairRec :=
  match c.flows.get? f with
  | none => []
  | some x =>
    let bad := fun (i : Nat) =>
      let p := x.replicas.getD i 0
      !x.guarded || !c.ports.has p || decide (p ∈ x.replicas.take i)
    match (List.range x.replicas.length).find? bad with
    | none => []
    | some i => [⟨4, 3, f, b2n x.guarded, x.replicas.getD i 0⟩]

/-- Context slots that a flow takes in a slice (R320). -/
def ctxUse (x : FlowCfg) (sl : Nat) : Nat := (if x.slice = sl then (if x.guarded then 2 else 1) else 0) + (if bitN x.recSlices sl then 2 else 0)

/-- Key slots that a flow takes in a slice (R320). -/
def keyUse (x : FlowCfg) (sl : Nat) : Nat := (if bitN x.keySlices sl then (if x.guarded then 2 else 1) else 0) + (if bitN x.recSlices sl then 2 else 0)

/-- The home slots of a flow: its own and, when guarded, the mirror's (R320). -/
def homeSlots (x : FlowCfg) : List Nat := if x.guarded then [x.slot, Nat.xor x.slot 4] else [x.slot]

/-- The home slots that flows other than `f` hold in a slice; slot 0xFFFF is never allocated (R320). -/
def takenSlots (s : State) (f sl : Nat) : List Nat :=
  0xFFFF :: ((cfg s).flows.filter (fun y => decide (y.1 ≠ f) && decide (y.2.slice = sl))).flatMap (fun y => homeSlots y.2)

/-- Flows other than `f` whose key entries stand in the table as staged inserts that the configuration does not hold (R104). -/
def stagedKeys (s : State) (f : Nat) : List FlowCfg :=
  let held := fun (g : Nat) (x : FlowCfg) => match (cfg s).flows.get? g with | some y => decide (y.key = x.key) && decide (y.keySlices = x.keySlices) | none => false
  s.tables.flowKeys.filterMap (fun k => match k.2.ins with | some x => if k.1 = f || held k.1 x then none else some x | none => none)

/-- What a flow lacks of key slots (1), context slots or a mirror partner (2), the sum of minimums (3), in that order (R242, R320). -/
def flowRoom (s : State) (f : Nat) (x : FlowCfg) : Option Nat :=
  let others := ((cfg s).flows.filter (fun y => decide (y.1 ≠ f))).map Prod.snd
  let tooMany := fun (use : FlowCfg → Nat → Nat) (l : List FlowCfg) => (List.range (nSlices s)).any (fun sl => decide (65535 < use x sl + sumOf (fun y => use y sl) l))
  if tooMany keyUse (others ++ stagedKeys s f) then some 1
  else if tooMany ctxUse others || ((homeSlots x).any (fun k => decide (k ∈ takenSlots s f x.slice))) then some 2
  else if 16384 * nSlices s < x.minCells + sumOf FlowCfg.minCells others then some 3
  else none

/-- The flow that FLOW_ADD creates: as named, or a local one with a slot of firmware's choosing (R320; free value, log 23). -/
def flowChosen (e : Env) (s : State) : Option Nat :=
  let p := e.payload
  if fld p 0 4 ≠ 0xFFFFFFFF then some (fld p 0 4)
  else
    let sl := byteAt p 4
    let g := bitN (byteAt p 5) 1
    let t := takenSlots s 0xFFFFFFFF sl
    let id := fun k => instNow s * 2 ^ 21 + sl * 65536 + k
    (fwPick 2 s.fresh 0 65535 (fun k => decide (k ∈ t) || (g && decide (Nat.xor k 4 ∈ t)) || (claimHolder s 0 [⟨0x0B01, id k, 0⟩]).isSome)).map id

/-- The home slot of a foreign flow, of firmware's choosing: a free one, with a free mirror when the flow is guarded; 0xFFFF when there is none (R319,
R320; free value, log 23). -/
def foreignSlot (e : Env) (f : Nat) (s : State) : Nat :=
  let t := takenSlots s f (byteAt e.payload 4)
  (fwPick 2 s.fresh 0 65535 (fun k => decide (k ∈ t) || (bitN (byteAt e.payload 5) 1 && decide (Nat.xor k 4 ∈ t)))).getD 0xFFFF

/-- FLOW_ADD with its flow, the foreign mark and a foreign flow's slot settled (R319). -/
def flowAddEnv (e : Env) (f : Nat) (s : State) : Env :=
  let p := patch e.payload 0 (leB 4 f)
  { e with payload := if foreignFlow s f then patch (patch p 22 (leB 2 (foreignSlot e f s))) 46 (leB 2 0x8000) else p }

/-- The payload offsets that the two commands share: replicas, then their reserved bytes. -/
def replicaField (p : List Byte) : Nat × Bool :=
  (16, (List.range 3).all (fun i => if i < byteAt p 7 then decide (fld p (16 + 2 * i) 2 < 1024) else decide (fld p (16 + 2 * i) 2 = 0)))

/-- The replica ports named exist (R7). -/
def replicasPresent (s : State) (p : List Byte) : Bool := (replicasOf p).all (fun r => decide (1024 ≤ r) || portPresent s r)

/-- The checks of FLOW_ADD. -/
def flowAddChk (e : Env) (s : State) : Chk :=
  let p := e.payload
  let f0 := fld p 0 4
  let choose := decide (f0 = 0xFFFFFFFF)
  let loc := !choose && !foreignFlow s f0
  let home := if loc then (f0 / 65536) % 32 else byteAt p 4
  let g := bitN (byteAt p 5) 1
  let r := bitN (byteAt p 5) 2
  let m := bitsN (byteAt p 6) 1 0
  let f := (flowChosen e s).getD 0
  let c := flowAddUpd s.build (flowAddEnv e f s) (cfg s)
  { present := decide (home < nSlices s) && decide (fld p 28 4 < 2 ^ nSlices s) && decide (fld p 32 4 < 2 ^ nSlices s) && replicasPresent s p
    fields := [(0, choose || (decide (f0 < noFlow) && (loc || m = 2))), (4, !loc || byteAt p 4 = 0), (5, decide (byteAt p 5 < 8) && (!r || m = 2)),
      (6, decide (byteAt p 6 < 16) && m ≠ 3 && (!g || m ≠ 0)), below p 7 1 4, if g then within p 8 2 1 2000 else zeroAt p 8 2,
      if r then within p 10 2 1 50 else zeroAt p 10 2, if r then within p 12 1 1 64 else zeroAt p 12 1, zeroAt p 13 3, replicaField p, zeroAt p 22 2,
      within p 24 4 0 65536, (28, r || fld p 28 4 = 0), (32, m ≠ 1 || Nat.land (fld p 32 4) (2 ^ 32 - 1 - 2 ^ home) = 0), zeroAt p 46 2]
    st := if (cfg s).flows.has f || (cfg s).flows.any (fun y => decide (y.2.key = sub p 48 44) && Nat.land y.2.keySlices (fld p 32 4) ≠ 0) then some 2
      else if g && fld p 24 4 = 0 then some 7 else none
    pair := pairChk (pair04 c f)
    resource := if (flowChosen e s).isNone then some 2 else match c.flows.get? f with
      | some x => flowRoom s f x
      | none => some 2 }

/-- What a command on a whole flow claims (R103): the flow's entry, its fields and its minimum. -/
def flowClaims (f : Nat) : List Claim := ⟨0x0B01, f, 0⟩ :: ⟨0x0703, f, 0⟩ :: (List.range 7).map (fun i => ⟨0x0B02, f, i⟩)

/-- Contexts of a flow in a slice where it has newly got one, and the release of those it has lost (R322, FLOW_MODIFY). -/
def flowContext (f : Nat) (old new : Nat) (s : State) (sl : Nat) : State :=
  if bitN new sl && !bitN old sl then { s with flows := { s.flows with recs := s.flows.recs.set (f, sl) {} } }
  else if !bitN new sl && bitN old sl then
    let s1 := closeAllOf sl f s
    { s1 with flows := { s1.flows with recs := s1.flows.recs.del (f, sl) } }
  else s

/-- A flow that is enabled takes any number next; what it still holds leaves first (R330; log 32). -/
def flowEnabled (f : Nat) (s : State) : State :=
  ((s.flows.recs.keys).filter (fun k => decide (k.1 = f))).foldl (fun s k =>
    let s1 := closeAllOf k.2 f s
    { s1 with flows := { s1.flows with recs := s1.flows.recs.mapV (fun k' r => if k' = k then { r with takeAny := true } else r) } }) s

/-- FLOW_MODIFY moves an unmirrored context of a guarded flow when its slice has a free slot in a bank that works (R320, R340). -/
def mirrorAgain (f : Nat) (x : FlowCfg) (s : State) : State :=
  let used := sumOf (fun y => ctxUse y.2 x.slice) (cfg s).flows
  let bad := (slice s x.slice).unmirrored
  if !x.guarded || (s.flows.rt.getD f {}).mirrored || 65535 < used - bad + 1 + 8192 * (slice s x.slice).badFlowBanks.length then s
  else updSlice x.slice (fun y => { y with unmirrored := y.unmirrored - 1 })
    { s with flows := { s.flows with rt := s.flows.rt.upd f {} (fun r => { r with mirrored := true }) } }

/-- What a change of a flow's configuration does to its running state (R320, R330, R246, R340). -/
def flowSettle (f : Nat) (old new : Option FlowCfg) (s : State) : State :=
  let recOf := fun (x : Option FlowCfg) => match x with | some y => y.recSlices | none => 0
  let on := fun (x : Option FlowCfg) => match x with | some y => y.enabled | none => false
  let s1 := (List.range 32).foldl (flowContext f (recOf old) (recOf new)) s
  let s2 := if on new && !on old then flowEnabled f s1 else s1
  let s3 := match new with
    | none => { s2 with flows := { s2.flows with rt := s2.flows.rt.del f } }
    | some x =>
      let g := match old with | some y => y.guarded | none => false
      if old.isNone then { s2 with flows := { s2.flows with rt := s2.flows.rt.set f { mirrored := x.guarded } } }
      else if g = x.guarded then mirrorAgain f x s2
      else { s2 with flows := { s2.flows with rt := s2.flows.rt.upd f {} (fun r => { r with mirrored := x.guarded }) } }
  recomputeShared s3

/-- The flow of a flow change, before and after, once a flip has switched the banks (R110). -/
def flowFlip (f : Nat) (s : State) : State := flowSettle f ((cfgAt s (!s.quad.parity)).flows.get? f) ((cfg s).flows.get? f) s

/-- FLOW_ADD at a flip. -/
def flowAddSide (e : Env) (s : State) : State := flowFlip (fld e.payload 0 4) s
/-- FLOW_MODIFY at a flip. -/
def flowModifySide (e : Env) (s : State) : State := flowFlip (fld e.payload 0 4) s
/-- FLOW_DELETE at a flip. -/
def flowDeleteSide (e : Env) (s : State) : State := flowFlip (fld e.payload 0 4) s

/-- A change of one flow at once. -/
def flowNow (i : Instr) (f : Nat) (s : State) : State :=
  let old := (cfg s).flows.get? f
  let s1 := updCfg (cfgUpd s.build i) s
  flowSettle f old ((cfg s1).flows.get? f) s1

/-- Staging a change of a flow writes its key entries in the flow table (R104, R113): a delete of a flow that only this set inserts frees them. -/
def stageKey (f set : Nat) (ins : Option FlowCfg) (s : State) : State :=
  let l := s.tables.flowKeys
  { s with tables := { s.tables with flowKeys := if ins.isNone && !(cfg s).flows.has f then l.del f else l.set f ⟨set, ins⟩ } }

/-- FLOW_ADD (R104, R320). -/
def execFlowAdd (e : Env) (s : State) : Host.Outcome State Fault Refusal :=
  let f := (flowChosen e s).getD 0
  let i : Instr := .flowAdd (flowAddEnv e f s)
  let drawn := fun (s : State) => if fld e.payload 0 4 = 0xFFFFFFFF || foreignFlow s f then { s with fresh := s.fresh + 1 } else s
  .next (runStagedV i 0x0B01 (lenIs 92) (flowClaims f) false (flowAddChk e)
    (fun s => stageKey f e.setId ((cfgUpd s.build i (cfg s)).flows.get? f) (drawn s)) (leB 4 f)
    (fun s => (drawn (flowNow i f s), okV (leB 4 f))) e s)

/-- The checks of FLOW_MODIFY. -/
def flowModifyChk (e : Env) (s : State) : Chk :=
  let p := e.payload
  let f := fld p 0 4
  let ch := byteAt p 4
  let base := [below p 0 4 noFlow, (4, ch < 128)]
  match (cfg s).flows.get? f with
  | none => { present := true, fields := base, st := some 3 }
  | some x =>
    let y := flowModified p x
    let raw := fun (bit off n : Nat) (old : Nat) => if bitN ch bit then fld p off n else old
    let age := raw 1 8 2 x.ageLimit
    let tmo := raw 2 10 2 x.recTimeout
    let hold := raw 2 12 1 x.recHold
    { present := (!bitN ch 5 || decide (fld p 28 4 < 2 ^ nSlices s)) && (!bitN ch 3 || replicasPresent s p)
      fields := base ++ [(5, (!bitN ch 0 || decide (byteAt p 5 < 8)) && (!y.recover || x.seqMode = 2)), (6, !y.guarded || x.seqMode ≠ 0),
        (7, !bitN ch 3 || decide (byteAt p 7 < 4)),
        (8, if y.guarded then decide (1 ≤ age) && decide (age ≤ 2000) else !bitN ch 1 || age = 0),
        (10, if y.recover then decide (1 ≤ tmo) && decide (tmo ≤ 50) else !bitN ch 2 || tmo = 0),
        (12, if y.recover then decide (1 ≤ hold) && decide (hold ≤ 64) else !bitN ch 2 || hold = 0), zeroAt p 13 3,
        if bitN ch 3 then replicaField p else (16, true), zeroAt p 22 2, (24, !bitN ch 4 || decide (fld p 24 4 ≤ 65536)),
        (28, !bitN ch 5 || y.recover || fld p 28 4 = 0), zeroAt p 46 2]
      needQuad := if x.enabled && (decide (y.guarded ≠ x.guarded) || decide (y.replicas ≠ x.replicas)) then some 4 else none
      st := if byteAt p 6 ≠ x.seqMode + 4 * x.tagKind || fld p 32 4 ≠ x.keySlices then some 0x0C
        else if y.guarded && decide (y.minCells = 0) then some 7 else none
      pair := if (y.enabled && !x.enabled) || (bitN ch 0 && bitN ch 3) then pairChk (pair04 (flowModifyUpd s.build e (cfg s)) f) else none
      resource := flowRoom s f y }

/-- What FLOW_MODIFY claims: the fields it changes (R103). -/
def flowModifyClaims (e : Env) : List Claim :=
  let f := fld e.payload 0 4
  (setBits 7 (byteAt e.payload 4)).map (fun b => if b = 4 then ⟨0x0703, f, 0⟩ else ⟨0x0B02, f, b⟩)

/-- FLOW_MODIFY. -/
def execFlowModify (e : Env) (s : State) : Host.Outcome State Fault Refusal :=
  .next (runStagedV (.flowModify e) 0x0B02 (lenIs 48) (flowModifyClaims e) false (flowModifyChk e) id []
    (fun s => (flowNow (.flowModify e) (fld e.payload 0 4) s, okV [])) e s)

/-- The checks of FLOW_DELETE. -/
def flowDeleteChk (e : Env) (s : State) : Chk :=
  let f := fld e.payload 0 4
  { fields := [below e.payload 0 4 noFlow]
    st := match (cfg s).flows.get? f with
      | none => some 3
      | some x => if x.enabled then some 0x0E else if s.buf.frames.any (fun y => decide (y.2.c.flow = f)) then some 0x0D else none }

/-- FLOW_DELETE (R104). -/
def execFlowDelete (e : Env) (s : State) : Host.Outcome State Fault Refusal :=
  let f := fld e.payload 0 4
  .next (runStagedV (.flowDelete e) 0x0B03 (lenIs 4) (flowClaims f) false (flowDeleteChk e) (stageKey f e.setId none) []
    (fun s => (flowNow (.flowDelete e) f s, okV [])) e s)

/-- CTRL and SEQ of a context (R322). -/
def ctxHead (x : FlowCfg) (mirrored : Bool) (kind : Nat) : List Byte :=
  leB 1 (1 + 2 * b2n x.enabled + 4 * b2n x.guarded + 8 * b2n mirrored + 16 * kind + 64 * b2n x.recover)

/-- The home context of a flow as stored (R322). -/
def homeCtx (s : State) (f : Nat) (x : FlowCfg) : List Byte :=
  let r := s.flows.rt.getD f {}
  ctxHead x r.mirrored 0 ++ leB 1 (x.seqMode + 4 * x.tagKind) ++ leB 1 x.replicaCount ++ leB 1 0 ++ leB 2 r.genSeq.toNat ++ leB 2 x.ageLimit
    ++ (List.range 3).flatMap (fun i => leB 2 (match x.replicas[i]? with | some p => 0x8000 + p | none => 0)) ++ leB 2 x.recTimeout ++ leB 1 x.recHold ++ leB 3 0
    ++ leB 4 x.recSlices ++ leB 4 f ++ leB 4 0

/-- A recovery context as stored (R322). -/
def recCtxBytes (f : Nat) (x : FlowCfg) (r : RecCtx) : List Byte :=
  ctxHead x true 1 ++ leB 1 (b2n r.takeAny + 2 * r.held.length) ++ leB 2 r.recSeq.toNat ++ leB 8 r.ahead.toNat ++ leB 8 r.past.toNat
    ++ leB 4 r.gapSince ++ leB 4 f ++ leB 4 r.rogueRun

/-- VIS of the key entry in force of a flow (R113): while a set stages a change of it, until its normalisation ends, it shows only the parity in
force. -/
def flowVis (s : State) (f : Nat) : Nat := if s.tables.flowKeys.has f then visOnly s.quad.parity else 3

/-- The result half of a key slot: FLOW, CONTEXT, USER (R322). -/
def keyResult (f : Nat) (x : FlowCfg) : List Byte := leB 4 (f + 2 ^ 30 * b2n x.guarded) ++ leB 2 x.slot ++ sub x.user 0 10

/-- The key slot of a flow as stored, NEXT 0xF for the stage's own successor (R195, R322; log 33). -/
def keySlotBytes (s : State) (f : Nat) (x : FlowCfg) : List Byte :=
  if x.keySlices = 0 then List.replicate 64 0
  else leB 4 (1 + 2 * flowVis s f + 16 * 0xF) ++ sub x.key 0 44 ++ keyResult f x

/-- The checks of FLOW_READ (R322). -/
def flowReadChk (e : Env) (s : State) : Chk :=
  let p := e.payload
  let f := fld p 0 4
  let part := byteAt p 4
  { present := part ≠ 1 || decide (32 ≤ byteAt p 5) || decide (byteAt p 5 < nSlices s)
    fields := [below p 0 4 (2 ^ 30), below p 4 1 2, (5, if part = 1 then decide (byteAt p 5 < 32) else byteAt p 5 = 0), zeroAt p 6 2]
    st := if !(cfg s).flows.has f || (part = 1 && !s.flows.recs.has (f, byteAt p 5)) then some 3 else none }

/-- FLOW_READ (R322). -/
def execFlowRead (e : Env) (s : State) : Host.Outcome State Fault Refusal :=
  let p := e.payload
  let f := fld p 0 4
  let part := byteAt p 4
  .next (runOk 0x0B04 (lenIs 8) (flowReadChk e s) e
    (fun s => match (cfg s).flows.get? f with
      | none => []
      | some x => if part = 0 then homeCtx s f x ++ keySlotBytes s f x
          else match s.flows.recs.get? (f, byteAt p 5) with
            | some r => recCtxBytes f x r
            | none => []) id s)

/-- Response data of FLOW_COUNTERS. -/
def flowCountersData (s : State) (f sl : Nat) : List Byte :=
  if f = 0xFFFFFFFF then
    (((s.flows.rt.filter (fun x => decide (x.2.events ≠ 0))).foldl (fun l x => insertBy id x.1 l) []).take 56).flatMap (leB 4)
  else
    leB 1 (s.flows.rt.getD f {}).events ++ leB 7 0 ++ (List.range 14).flatMap (fun i =>
      leB 8 (if sl = 0xFF then sumOf (fun k => ctrOf s ⟨.flow, f, k, i⟩) (List.range (nSlices s)) % 2 ^ 64 else ctrOf s ⟨.flow, f, sl, i⟩))

/-- What reading FLOW_COUNTERS clears: the latched causes, and the counters when asked (R338, R507). -/
def flowCountersRead (clear : Bool) (f sl : Nat) (s : State) : State :=
  if f = 0xFFFFFFFF then s
  else
    let s1 := { s with flows := { s.flows with rt := s.flows.rt.upd f {} (fun r => { r with events := 0 }) } }
    if clear then clearCtrs (fun c => decide (c.fam = .flow) && decide (c.unit = f) && (decide (sl = 0xFF) || decide (c.sub = sl))) s1 else s1

/-- The checks of FLOW_COUNTERS (R338). -/
def flowCountersChk (e : Env) (s : State) : Chk :=
  let p := e.payload
  let f := fld p 0 4
  let sl := byteAt p 5
  { present := decide (32 ≤ sl) || decide (sl < nSlices s)
    fields := [(0, decide (f < 2 ^ 30) || f = 0xFFFFFFFF), below p 4 1 2, (5, sl = 0xFF || decide (sl < 32)), zeroAt p 6 2]
    st := if f ≠ 0xFFFFFFFF && !(cfg s).flows.has f then some 3 else none }

/-- FLOW_COUNTERS (R338). -/
def execFlowCounters (e : Env) (s : State) : Host.Outcome State Fault Refusal :=
  let p := e.payload
  let f := fld p 0 4
  let sl := byteAt p 5
  .next (runOk 0x0B05 (lenIs 8) (flowCountersChk e s) e
    (fun s => flowCountersData s f sl) (flowCountersRead (bitN (byteAt p 4) 0) f sl) s)

/-- The checks of PRP_HSR_SET; MODE 0 uses no other field (log 34). -/
def prpHsrSetChk (e : Env) (s : State) : Chk :=
  let p := e.payload
  let a := fld p 2 2
  let b := fld p 4 2
  let off := decide (byteAt p 1 = 0)
  let taken := fun q => (cfg s).prp.any (fun n => decide (n.1 ≠ byteAt p 0) && (decide (n.2.portA = q) || decide (n.2.portB = q))) || (lagOf (cfg s) q).isSome
  let speed := fun q => ((cfg s).ports.get? q).map PortCfg.speed
  { present := off || (portThere s a 1024 && portThere s b 1024)
    fields := [below p 0 1 32, below p 1 1 3, (2, off || decide (a < 1024)), (4, off || (decide (b < 1024) && decide (a / 32 = b / 32) && decide (a ≠ b))),
      (6, off || decide (fld p 6 2 ≠ 0)), zeroAt p 14 2]
    st := if off then none else if taken a || taken b then some 8 else if speed a = speed b then none else some 1 }

/-- MODE 0 clears the node's table (R341). -/
def prpHsrSetSide (e : Env) (s : State) : State :=
  if byteAt e.payload 1 = 0 then { s with flows := { s.flows with dup := s.flows.dup.del (byteAt e.payload 0) } } else s

/-- PRP_HSR_SET (R341). -/
def execPrpHsrSet (e : Env) (s : State) : Host.Outcome State Fault Refusal :=
  .next (runStaged (.prpHsrSet e) 0x0B06 (lenIs 16) [⟨0x0B06, byteAt e.payload 0, 0⟩] (prpHsrSetChk e) (prpHsrSetSide e) e s)

/-- A recovery context that holds a frame and whose gap has stood for REC_TIMEOUT closes it (R331). -/
def execGapTimeout (sl flow : Nat) (s : State) : Host.Outcome State Fault Refusal :=
  .next (match s.flows.recs.get? (flow, sl), (cfg s).flows.get? flow with
    | some c, some x => if !c.held.isEmpty && decide (x.recTimeout * 1000 ≤ gapAge s c) then closeGapOf sl flow s else s
    | _, _ => s)

end Sys2Proof.Machine
end

