-- ==== Sys2Proof/Machine/Lookup.lean ====
section
/-! DEFINITION. Keys, table lookups and the chain of stages (R193 to R202, R323). -/

namespace Sys2Proof.Machine

/-- What a key is built from (R198). -/
structure KeyIn where
  portIn : Nat
  data : List Byte
  parse : ParseRes
  hdrs : List Hdr
  m : List Word
  trs : List TRes
deriving DecidableEq, Repr

/-- The 24 bytes of a table result slot (R194). -/
def tresBytes (t : TRes) : List Byte :=
  sub t.result 0 16 ++ beB 4 t.handle ++ beB 2 t.tableId ++ beB 1 (b2n t.hit + 2 * b2n t.skipped + 4 * b2n t.err) ++ [0]

/-- Parse flags as a key reads them (R198). -/
def parseFlags (r : ParseRes) : Nat := b2n r.malformed * 32768 + r.reason * 2048 + b2n r.part * 1024 + vlanCount r * 256 + r.nodes

/-- A field's bytes, none when it is absent (R198). -/
def keyFieldBytes (k : KeyIn) (f : KeyField) : Option (List Byte) :=
  if f.source = 0 then
    match hdrAt k.hdrs f.sel f.inst with
    | none => none
    | some h =>
      let a := h.off + f.off
      if k.data.length < a + f.len || 128 < a + f.len then none else some (sub k.data a f.len)
  else if f.source = 1 then some (sub (k.m.flatMap (fun w => beB 4 w.toNat)) (4 * f.sel + f.off) f.len)
  else if f.source = 2 then
    let t := k.trs.getD f.sel {}
    if t.skipped || t.tableId = 0 then none else some (sub (tresBytes t) f.off f.len)
  else
    let item := if f.sel = 0 then k.portIn else if f.sel = 1 then k.data.length + 4 else parseFlags k.parse
    some (sub (beB 2 item) f.off f.len)

/-- AND the last byte with LAST_MASK (R197). -/
def maskLast (mask : Nat) (l : List Byte) : List Byte := modifyAt (fun b => b &&& BitVec.ofNat 8 mask) (l.length - 1) l

/-- Build a key (R197). -/
def buildKey (x : KeyProfile) (k : KeyIn) : List Byte :=
  let r := (List.range x.fields.length).foldl (fun (a : List Byte × Nat) i => match x.fields[i]? with
    | none => a
    | some f => match keyFieldBytes k f with
      | none => a
      | some b => (patch a.1 f.dest (maskLast f.lastMask b), a.2 + 2 ^ i)) (List.replicate x.keyBytes (0 : Byte), 0)
  patch r.1 0 (beB 2 r.2)

/-- Two byte strings agree under a mask. -/
def maskedEq (a b m : List Byte) : Bool := (List.range m.length).all (fun i => a.getD i 0 &&& m.getD i 0 = b.getD i 0 &&& m.getD i 0)

/-- The first `n` bits agree. -/
def prefixEq (a b : List Byte) (n : Nat) : Bool :=
  decide (a.take (n / 8) = b.take (n / 8)) && (n % 8 = 0 || decide (byteAt a (n / 8) / 2 ^ (8 - n % 8) = byteAt b (n / 8) / 2 ^ (8 - n % 8)))

/-- An entry of a table matches a key (R201). -/
def entryMatches (t : Table) (key : List Byte) (e : Entry) : Bool :=
  if t.kind = 1 then e.key = key
  else if t.kind = 2 then maskedEq key e.key e.mask
  else if t.kind = 3 then
    let a := nfld key t.fieldOff 2
    let b := nfld key t.fieldBytes 2
    maskedEq key e.key e.mask && e.ranges.getD 0 0 ≤ a && a ≤ e.ranges.getD 1 0 && e.ranges.getD 2 0 ≤ b && b ≤ e.ranges.getD 3 0
  else if t.kind = 4 then
    prefixEq (sub key t.fieldOff t.fieldBytes) (sub e.key t.fieldOff t.fieldBytes) e.prefixLen
      && decide (patch key t.fieldOff (List.replicate t.fieldBytes 0) = patch e.key t.fieldOff (List.replicate t.fieldBytes 0))
  else e.index = nfld key (key.length - 3) 3 % 2 ^ t.indexBits

/-- The entry that wins among those that match: the lowest PRIORITY and then the earliest, or the longest prefix (R201). -/
def bestEntry (t : Table) (l : List Entry) : Option Entry :=
  if t.kind = 2 || t.kind = 3 then leastBy (fun e => e.prio * 2 ^ 64 + e.order) l
  else if t.kind = 4 then leastBy (fun e => 128 - e.prefixLen) l
  else l.head?

/-- The entry that a lookup in a cluster's replica and a parity finds (R113, R201, R497). -/
def findEntry (t : Table) (cl : Nat) (parity : Bool) (key : List Byte) : Option Entry :=
  bestEntry t (t.entries.filter (fun e => visIn e.vis parity && entryMatches t key e && !decide ((cl, e.handle) ∈ t.lost)))

/-- The flow whose key entry in a slice a key hits: an enabled one (R323). -/
def findFlow (c : Cfg) (sl : Nat) (key : List Byte) : Option (Nat × FlowCfg) :=
  c.flows.find? (fun x => x.2.enabled && bitN x.2.keySlices sl && decide (x.2.key = key))

/-- A lookup's outcome: the slot, and NEXT of the entry hit. -/
structure Hit where
  slot : TRes
  next : Nat := 0x0F
deriving DecidableEq, Repr

/-- Look a key up in a table from a slice, by the frame's epoch (R193, R202, R323). -/
def lookupTable (s : State) (c : Cfg) (parity : Bool) (sl tid : Nat) (key : List Byte) : Hit :=
  let miss : TRes := { handle := 0xFFFFFFFF, tableId := tid }
  if tid = 0x0200 then
    match findFlow c sl key with
    | none => ⟨miss, 0x0F⟩
    | some (f, x) => ⟨{ result := keyResult f x, handle := x.keySlots.getD sl 0, tableId := tid, hit := true }, 0x0F⟩
  else match s.tables.tables.get? tid with
    | none => ⟨miss, 0x0F⟩
    | some t => match findEntry t (clusterOf s sl) parity key with
      | none => ⟨miss, 0x0F⟩
      | some e => ⟨{ result := e.result, handle := e.handle, tableId := tid, hit := true }, e.next⟩

/-- The result of a lookup that reads a word with a double-bit error (R196, R231). -/
def errSlot (tid : Nat) : TRes := { handle := 0xFFFFFFFF, tableId := tid, err := true }

/-- M4 as the first hit of the flow table writes it: the entry's bytes 48 to 51 with FLOW_HIT (R323). -/
def flowWord (t : TRes) : Word := BitVec.ofNat 32 (leNat (t.result.take 4) % 2 ^ 31 + 2 ^ 31)

/-- M4 of a frame without a hit (R323). -/
def noFlowWord : Word := BitVec.ofNat 32 noFlow

/-- The stages on their way: the slots, M4, and what is counted. -/
structure Stages where
  trs : List TRes := []
  m4 : Word := noFlowWord
  back : Nat := 0
  errs : Nat := 0
  drop : Bool := false
deriving DecidableEq, Repr

/-- The stage that a chain code leads to from stage `k`; 8 is E1 (R195). -/
def chainTo (k code : Nat) : Nat := if code = 0 then k + 1 else if code = 8 then 8 else code

/-- Run stages L0 to L7 from stage `k` on, `next` being the stage that is to run (R193 to R196). -/
def runStages (s : State) (c : Cfg) (sl : Nat) (parity : Bool) (inp : KeyIn) (faults : List Nat) : Nat → Nat → Nat → Stages → Stages
  | 0, _, _, r => r
  | fuel + 1, k, next, r =>
    if k < next then runStages s c sl parity inp faults fuel (k + 1) next { r with trs := r.trs ++ [{ skipped := true }] }
    else match c.stages.get? (sl * 8 + k) with
      | none => runStages s c sl parity inp faults fuel (k + 1) (k + 1) { r with trs := r.trs ++ [{}] }
      | some x =>
        if x.tableId = 0 then runStages s c sl parity inp faults fuel (k + 1) (k + 1) { r with trs := r.trs ++ [{}] }
        else if k ∈ faults then
          runStages s c sl parity inp faults fuel (k + 1) (chainTo k x.onMiss)
            { r with trs := r.trs ++ [errSlot x.tableId], errs := r.errs + 1, drop := r.drop || decide (x.onErr = 1) }
        else
          let h := lookupTable s c parity sl x.tableId (buildKey x { inp with trs := r.trs, m := inp.m.set 4 r.m4 })
          let named := h.slot.hit && x.tableId = 0x0200 && !r.m4.getLsbD 31
          let isBack := h.slot.hit && h.next ≠ 0x0F && h.next ≠ 0 && h.next ≠ 8 && h.next ≤ k
          let code := if !h.slot.hit then x.onMiss else if h.next = 0x0F then x.onHit else if isBack then 0 else h.next
          runStages s c sl parity inp faults fuel (k + 1) (chainTo k code)
            { r with trs := r.trs ++ [h.slot], m4 := if named then flowWord h.slot else r.m4, back := r.back + b2n isBack }

/-- L0 to L7 of a frame. -/
def lookups (s : State) (c : Cfg) (sl : Nat) (parity : Bool) (inp : KeyIn) (faults : List Nat) : Stages := runStages s c sl parity inp faults 8 0 0 {}

end Sys2Proof.Machine
end

