-- ==== Sys2Proof/Machine/Ezette.lean ====
section
/-! DEFINITION. The Ezette instruction set: bundles, operands, one pass of a program over a frame (R208 to R231), and the verifier (R234 to R236). -/

namespace Sys2Proof.Machine

/-- One op (R218). -/
structure EzOp where
  op : Nat
  neg : Bool
  pred : Nat
  d : Nat
  a : Nat
  b : Nat
  ext : Nat
deriving DecidableEq, Repr

/-- A bundle (R217). -/
structure EzBundle where
  ops : List EzOp
  nextT : Nat
  nextF : Nat
  brPred : Nat
  brNeg : Bool
  last : Bool
  rsvd : Nat
deriving DecidableEq, Repr

/-- Decode an op of 56 bits (R218). -/
def ezOp (w : Nat) : EzOp := ⟨bitsN w 55 50, bitN w 49, bitsN w 48 46, bitsN w 45 38, bitsN w 37 30, bitsN w 29 22, bitsN w 21 0⟩

/-- Decode a bundle of 32 bytes (R217). -/
def ezBundle (bytes : List Byte) : EzBundle :=
  let w := leNat (bytes.take 32)
  { ops := (List.range 4).map (fun i => ezOp (bitsN w (56 * i + 55) (56 * i))), nextT := bitsN w 231 224, nextF := bitsN w 239 232, brPred := bitsN w 242 240
    brNeg := bitN w 243, last := bitN w 244, rsvd := bitsN w 255 245 }

/-- Bundles before stage `p` of an image. -/
def stageBase (counts : List Nat) (p : Nat) : Nat := sumOf id (counts.take p)

/-- Bundle `i` of stage `p` of an image. -/
def bundleAt (counts : List Nat) (bundles : List Byte) (p i : Nat) : EzBundle := ezBundle (bundles.drop (32 * (stageBase counts p + i)))

/-- What a pass runs in: the engine, its configuration bank, the state for lookups and time (R226). -/
structure EzEnv where
  kind : Nat
  engine : Nat
  slice : Nat
  parity : Bool
  now : Nat
  consts : KMap Nat Word
  portIn : Nat
  parse : ParseRes
  trs : List TRes
  faults : List Nat
  /-- Scratch words that read with a double-bit error (R233). -/
  badWords : List Nat := []
deriving DecidableEq, Repr

/-- A pass on its way: the frame's data with how much of it the head buffer holds (R214), and the operand spaces (R210). -/
structure EzPass where
  data : List Byte
  headLen : Nat
  hdrs : List Hdr
  m : List Word
  /-- Where the VLAN tag that the bridge uses stands, followed through every edit (R258; log 43). -/
  vtag : Option Nat := none
  x : List Word := List.replicate 16 0
  p : List Bool := [true, false, false, false, false, false, false, false]
  krs : List TRes := List.replicate 4 {}
  scratch : KMap Nat Word
  /-- Addresses past the head that a header store of this pass has filled (R214; DESIGN CHOICE, log 111). -/
  held : List Nat := []
  /-- Scratch words that this pass has written with good check bits (R233). -/
  good : List Nat := []
  drop : Bool := false
  ranged : Nat := 0
  errs : Nat := 0
  /-- Scratch reads that met a double-bit error (R233). -/
  scratchErrs : Nat := 0
deriving DecidableEq, Repr

/-- The immediate of an ALU op, sign-extended (R218). -/
def ezImm (o : EzOp) : Word := BitVec.ofInt 32 (signedN 22 o.ext)

/-- Read an operand (R210): every read is of the state at the start of the stage. -/
def ezRead (v : EzEnv) (s : EzPass) (o : EzOp) (d : Nat) : Word :=
  if d < 0x10 then s.x.getD d 0
  else if d < 0x30 then s.m.getD (d - 0x10) 0
  else if 0x40 ≤ d && d < 0x80 then v.consts.getD (v.engine * 64 + (d - 0x40)) 0
  else if d = 0xF1 then BitVec.ofNat 32 (s.data.length + 4)
  else if d = 0xF2 then BitVec.ofNat 32 v.now
  else if d = 0xF3 then BitVec.ofNat 32 v.engine
  else if d = 0xF4 then BitVec.ofNat 32 (b2n v.parity)
  else if d = 0xFE then ezImm o
  else 0

/-- The bits of a metadata word that a program may write in an engine of a kind (R211). -/
def ezMask (kind w : Nat) : Word :=
  if w = 2 then (if kind < 2 then 0x007F7F7F else 0)
  else if w = 3 then (if kind < 2 then 0x00001FFF else 0)
  else if w = 5 then (if kind < 2 then 0x000000FF else 0)
  else if w < 8 then 0
  else 0xFFFFFFFF

/-- Write bits `mask` of a register or metadata word (R211, R220). -/
def ezWrite (kind d : Nat) (v mask : Word) (s : EzPass) : EzPass :=
  if d < 0x10 then { s with x := s.x.set d v }
  else if d = 0x17 then
    let old := s.m.getD 7 0
    { s with m := s.m.set 7 (old &&& ~~~ (0x00008080 &&& mask &&& ~~~ v)) }
  else
    let w := d - 0x10
    let k := mask &&& ezMask kind w
    { s with m := s.m.set w ((s.m.getD w 0 &&& ~~~ k) ||| (v &&& k)) }

/-- A byte of the head buffer at an address: of the head, or stored there since; every other one reads 0, and so does one past the frame's data (R214). -/
def ezByte (s : EzPass) (i : Nat) : Nat := if decide (i < s.headLen) || decide (i ∈ s.held) then byteAt s.data i else 0

/-- 16-bit ones'-complement addition. -/
def add1c (a b : Nat) : Nat := (a + b) % 65536 + (a + b) / 65536

/-- CSADJ (R219). -/
def ezCsadj (d a b : Nat) : Nat := 65535 - add1c (add1c (65535 - d % 65536) (65535 - a % 65536)) (b % 65536)

/-- HINS on a pass (R221): header-vector entries move in E0 alone. -/
def ezShiftUp (kind a n : Nat) (s : EzPass) : EzPass :=
  { s with
    data := insertAt s.data (min a s.data.length) (List.replicate n 0), headLen := if a ≤ s.headLen then s.headLen + n else s.headLen
    held := (s.held.map (fun i => if a ≤ i then i + n else i)).filter (fun i => decide (i < 160))
    m := m7Up a n s.m, vtag := s.vtag.map (fun v => if a ≤ v then v + n else v), hdrs := if kind = 0 then shiftUp a n s.hdrs else s.hdrs }

/-- HDEL on a pass (R221). -/
def ezShiftDown (kind a n : Nat) (s : EzPass) : EzPass :=
  { s with
    data := removeAt s.data a n, headLen := if s.headLen ≤ a then s.headLen else s.headLen - min n (s.headLen - a)
    held := s.held.filterMap (fun i => if a + n ≤ i then some (i - n) else if a ≤ i then none else some i)
    m := m7Down a n s.m, vtag := s.vtag.bind (fun v => if a + n ≤ v then some (v - n) else if a ≤ v then none else some v), hdrs := if kind = 0 then shiftDown a n s.hdrs else s.hdrs }

/-- A byte store at a header address (R219): it changes the frame's data there and is read back, past the head too; past the frame's data nothing is
stored (R214; log 111). -/
def ezStore (a : Nat) (bytes : List Byte) (s : EzPass) : EzPass :=
  { s with
    data := (List.range bytes.length).foldl (fun d i => d.set (a + i) (bytes.getD i 0)) s.data
    held := s.held ++ ((List.range bytes.length).map (a + ·)).filter (fun i => decide (s.headLen ≤ i)) }

/-- A scratch word reads with a double-bit error: its check bits are bad and this pass has not rewritten it (R233). -/
def ezBadWord (v : EzEnv) (r : EzPass) (w : Nat) : Bool := decide (w ∈ v.badWords) && !decide (w ∈ r.good)

/-- Write a scratch word, with good check bits. -/
def ezPutWord (w : Nat) (x : Word) (s : EzPass) : EzPass := { s with scratch := s.scratch.set w x, good := w :: s.good }

/-- The key that LKP builds, from the state at the start of its stage (R227). -/
def ezKeyIn (v : EzEnv) (s : EzPass) : KeyIn := { portIn := v.portIn, data := s.data, parse := v.parse, hdrs := s.hdrs, m := s.m, trs := v.trs }

/-- One op of a bundle: `r` is the state at the start of the stage, `s` the state with the lower slots written (R219, R220). -/
def ezExec (st : State) (c : Cfg) (v : EzEnv) (r : EzPass) (o : EzOp) (s : EzPass) : EzPass :=
  let a := ezRead v r o o.a
  let b := ezRead v r o o.b
  let d := fun (w : Word) => ezWrite v.kind o.d w 0xFFFFFFFF s
  let pset := fun (t : Bool) => if o.d = 0x80 then s else { s with p := s.p.set (o.d - 0x80) t }
  let prd := fun (x : Nat) => r.p.getD (x - 0x80) false
  let pos := bitsN o.ext 21 17
  let wid := bitsN o.ext 16 12
  let addr := (a.toNat + bitsN o.ext 21 15) % 2 ^ 32
  let n := bitsN o.ext 14 10 + 1
  let word := (a.toNat + bitsN o.ext 21 8) % 16384
  let ranged := { s with ranged := s.ranged + 1 }
  if o.op = 0x01 then d a
  else if o.op = 0x02 then d (a + b)
  else if o.op = 0x03 then d (a - b)
  else if o.op = 0x04 then d (a &&& b)
  else if o.op = 0x05 then d (a ||| b)
  else if o.op = 0x06 then d (a ^^^ b)
  else if o.op = 0x07 then d (a <<< (b.toNat % 32))
  else if o.op = 0x08 then d (a >>> (b.toNat % 32))
  else if o.op = 0x09 then d (a.sshiftRight (b.toNat % 32))
  else if o.op = 0x0A then d (if a.toNat ≤ b.toNat then a else b)
  else if o.op = 0x0B then d (if a.toNat ≤ b.toNat then b else a)
  else if o.op = 0x0C then d (BitVec.ofNat 32 (a.toNat / 2 ^ pos % 2 ^ (wid + 1)))
  else if o.op = 0x0D then
    let mask := BitVec.ofNat 32 ((2 ^ (wid + 1) - 1) * 2 ^ pos)
    let val := (a <<< pos) &&& mask
    ezWrite v.kind o.d ((ezRead v r o o.d &&& ~~~ mask) ||| val) (if o.d < 0x10 then 0xFFFFFFFF else mask) s
  else if o.op = 0x0E then d (BitVec.ofNat 32 (ezCsadj (ezRead v r o o.d).toNat a.toNat b.toNat))
  else if o.op = 0x0F then d (crc32c 0xFFFFFFFF (beB 4 a.toNat ++ beB 4 b.toNat))
  else if o.op = 0x10 then pset (a == b)
  else if o.op = 0x11 then pset (a != b)
  else if o.op = 0x12 then pset (decide (a.toNat < b.toNat))
  else if o.op = 0x13 then pset (decide (b.toNat ≤ a.toNat))
  else if o.op = 0x14 then pset (decide (a.toInt < b.toInt))
  else if o.op = 0x15 then pset (a &&& b != 0)
  else if o.op = 0x16 then pset (prd o.a && prd o.b)
  else if o.op = 0x17 then pset (prd o.a || prd o.b)
  else if o.op = 0x18 then
    if 160 < addr + n then ranged else d (BitVec.ofNat 32 ((List.range n).foldl (fun w i => 256 * w + ezByte r (addr + i)) 0))
  else if o.op = 0x19 then if 160 < addr + n then ranged else ezStore addr ((beB 4 b.toNat).drop (4 - n)) s
  else if o.op = 0x1A then
    let slot := bitsN o.ext 21 18
    let t := if slot < 8 then (if v.kind = 1 then v.trs.getD slot {} else {}) else r.krs.getD (slot - 8) {}
    d (BitVec.ofNat 32 (nfld (tresBytes t) (bitsN o.ext 17 13) 4))
  else if o.op = 0x1B then
    if ezBadWord v r word then { ezPutWord word 0 (d 0) with scratchErrs := s.scratchErrs + 1 } else d (r.scratch.getD word 0)
  else if o.op = 0x1C then ezPutWord word b s
  else if o.op = 0x1D then
    if ezBadWord v r word then { ezPutWord word b (d 0) with scratchErrs := s.scratchErrs + 1 }
    else { d (r.scratch.getD word 0) with scratch := s.scratch.set word (r.scratch.getD word 0 + b) }
  else if o.op = 0x20 then
    let j := o.ext % 4
    match c.keyPorts.get? (v.engine * 4 + j) with
    | none => { s with krs := s.krs.set j {} }
    | some x =>
      if x.tableId = 0 then { s with krs := s.krs.set j {} }
      else if v.kind * 4 + j ∈ v.faults then { s with krs := s.krs.set j (errSlot x.tableId), errs := s.errs + 1 }
      else { s with krs := s.krs.set j (lookupTable st c v.parity v.slice x.tableId (buildKey x (ezKeyIn v r))).slot }
  else if o.op = 0x21 then if 160 < addr + n then ranged else ezShiftUp v.kind addr n s
  else if o.op = 0x22 then if 160 < addr + n || r.data.length < addr + n then ranged else ezShiftDown v.kind addr n s
  else if o.op = 0x23 then { s with drop := true }
  else s

/-- An op executes (R218). -/
def ezRuns (r : EzPass) (o : EzOp) : Bool := (r.p.getD o.pred false) != o.neg

/-- A bundle as one step (R220). -/
def ezStep (st : State) (c : Cfg) (v : EzEnv) (b : EzBundle) (r : EzPass) : EzPass :=
  b.ops.foldl (fun s o => if ezRuns r o then ezExec st c v r o s else s) r

/-- Where an image's run of bundles begins in the memory of stage `p` of engine `g` (R237). -/
def Image.baseAt (im : Image) (g p : Nat) : Nat := im.base.getD (16 * g + p) 0

/-- Index `i` of the memory of stage `p` of engine `g`, in the run of an image: its bundle, with NEXT_T and NEXT_F as absolute indices (R237). -/
def stageWord (im : Image) (g p i : Nat) : EzBundle :=
  let b := bundleAt im.counts im.bundles p (i - im.baseAt g p)
  { b with nextT := im.baseAt g (p + 1) + b.nextT, nextF := im.baseAt g (p + 1) + b.nextF }

/-- The stages of a pass from index `i` of stage `p` on (R209, R220). -/
def ezRun (st : State) (c : Cfg) (v : EzEnv) (im : Image) : Nat → Nat → Nat → EzPass → EzPass
  | 0, _, _, r => r
  | fuel + 1, p, i, r =>
    let b := stageWord im v.engine p i
    let s := ezStep st c v b r
    if b.last || p = 15 then s else ezRun st c v im fuel (p + 1) (if (s.p.getD b.brPred false) != b.brNeg then b.nextT else b.nextF) s

/-! The verifier (R236). -/

/-- Formats of R218. -/
inductive EzFmt where
  | alu | bf | hdr | res | scr | kp
deriving DecidableEq, Repr

/-- The format of an op of ISA level 2; none for a reserved OP (R219). -/
def ezFmt (op : Nat) : Option EzFmt :=
  if op ≤ 0x0B then some .alu
  else if op = 0x0C || op = 0x0D then some .bf
  else if op ≤ 0x17 then some .alu
  else if op = 0x18 || op = 0x19 || op = 0x21 || op = 0x22 then some .hdr
  else if op = 0x1A then some .res
  else if 0x1B ≤ op && op ≤ 0x1D then some .scr
  else if op = 0x20 then some .kp
  else if op = 0x23 then some .alu
  else none

/-- Which operand fields an op uses: D, A, B (R219). -/
def ezUses (op : Nat) : Bool × Bool × Bool :=
  if op = 0x00 || op = 0x20 || op = 0x23 then (false, false, false)
  else if op = 0x01 || op = 0x0C || op = 0x0D || op = 0x18 || op = 0x1B then (true, true, false)
  else if op = 0x19 || op = 0x1C then (false, true, true)
  else if op = 0x1A then (true, false, false)
  else if op = 0x21 || op = 0x22 then (false, true, false)
  else (true, true, true)

/-- Check 0x03 of an op: no reserved OP, no bit or field that the op does not use (R218, R219; log 38). -/
def ezBitsOk (o : EzOp) : Bool :=
  match ezFmt o.op with
  | none => false
  | some f =>
    let u := ezUses o.op
    (u.1 || o.d = 0xF0) && (u.2.1 || o.a = 0xF0) && (u.2.2 || o.b = 0xF0)
      && match f with
        | .alu => o.b = 0xFE || o.ext = 0
        | .bf => o.ext % 4096 = 0 && bitsN o.ext 21 17 + bitsN o.ext 16 12 ≤ 31
        | .hdr => o.ext % 1024 = 0 && (o.op = 0x21 || o.op = 0x22 || bitsN o.ext 14 10 ≤ 3)
        | .res => o.ext % 8192 = 0 && bitsN o.ext 21 18 ≤ 11 && bitsN o.ext 17 13 ≤ 20 && bitsN o.ext 17 13 % 4 = 0
        | .scr => o.ext % 256 = 0
        | .kp => o.ext < 4

/-- Check 0x04: an op stands in a slot that R219 allows. -/
def ezSlotOk (i : Nat) (o : EzOp) : Bool :=
  if o.op = 0x18 || o.op = 0x19 then i < 3 else if 0x1B ≤ o.op && o.op ≤ 0x1D then i = 2 else if 0x20 ≤ o.op then i = 3 else true

/-- Check 0x04 of a bundle: the slots, and at most two HLD or HST (R220). -/
def ezSlotsOk (b : EzBundle) : Bool :=
  (List.range 4).all (fun i => match b.ops[i]? with | some o => ezSlotOk i o | none => true)
    && decide ((b.ops.filter (fun o => o.op = 0x18 || o.op = 0x19)).length ≤ 2)

/-- A designator that may be read as A or, without IMM, as B (R210). -/
def ezReadable (d : Nat) : Bool := d < 0x30 || (0x40 ≤ d && d < 0x80) || (0xF0 ≤ d && d ≤ 0xF4)

/-- A designator that an image of some kinds may write (R210, R211). -/
def ezWritable (kinds d : Nat) : Bool :=
  d < 0x10 || (0x10 ≤ d && d < 0x30 && (0x17 ≤ d || ((d = 0x12 || d = 0x13 || d = 0x15) && bitsN kinds 3 2 = 0)))

/-- Check 0x05 of an op (R210, R211, R219). -/
def ezDesigOk (kinds : Nat) (o : EzOp) : Bool :=
  let u := ezUses o.op
  let cmp := 0x10 ≤ o.op && o.op ≤ 0x15
  let pp := o.op = 0x16 || o.op = 0x17
  let isP := fun (d : Nat) => decide (0x80 ≤ d) && decide (d < 0x88)
  (!u.1 || (if cmp then isP o.d && o.d ≠ 0x80 else if pp then isP o.d else ezWritable kinds o.d))
    && (!u.2.1 || (if pp then isP o.a else ezReadable o.a))
    && (!u.2.2 || (if pp then isP o.b else ezReadable o.b || (o.b = 0xFE && ezFmt o.op = some .alu)))

/-- Every bundle of an image, as (stage, index). -/
def ezAll (counts : List Nat) : List (Nat × Nat) := (List.range 16).flatMap (fun p => (List.range (counts.getD p 0)).map (fun i => (p, i)))

/-- Check 0x06 of a bundle (R234, R236). -/
def ezNextOk (counts : List Nat) (p : Nat) (b : EzBundle) : Bool :=
  if p = 15 then b.last else b.last || (b.nextT < counts.getD (p + 1) 0 && b.nextF < counts.getD (p + 1) 0)

/-- What the paths into a bundle have in common and may hold: per key port, whether some path has issued it, whether some has not, and the
latest stage of issue; and the largest growth (R223, R229). -/
structure EzFlow where
  some' : List Bool := [false, false, false, false]
  none' : List Bool := [true, true, true, true]
  late : List Nat := [0, 0, 0, 0]
  growth : Int := 0
deriving DecidableEq, Repr

/-- Join two paths. -/
def ezJoin (x y : EzFlow) : EzFlow :=
  ⟨List.zipWith or x.some' y.some', List.zipWith or x.none' y.none', List.zipWith max x.late y.late, max x.growth y.growth⟩

/-- The growth that an op adds at most: an insertion that may run, less a deletion that always runs (R223; log 38). -/
def ezGrowth (o : EzOp) : Int :=
  let n : Int := bitsN o.ext 14 10 + 1
  let always := o.pred = 0 && !o.neg
  let never := o.pred = 0 && o.neg
  if o.op = 0x21 && !never then n else if o.op = 0x22 && always then -n else 0

/-- The path facts after a bundle of stage `p`. -/
def ezAfter (p : Nat) (b : EzBundle) (x : EzFlow) : EzFlow :=
  b.ops.foldl (fun x o =>
    let y := { x with growth := x.growth + ezGrowth o }
    if o.op = 0x20 then { y with some' := y.some'.set (o.ext % 4) true, none' := y.none'.set (o.ext % 4) false, late := y.late.set (o.ext % 4) p } else y) x

/-- LKP stands only in stages 0 to 9, in a bundle that no path reaches too (R229). -/
def ezStageOk (p : Nat) (b : EzBundle) : Bool := b.ops.all (fun o => o.op ≠ 0x20 || p ≤ 9)

/-- A bundle keeps the rules of R229 on paths, given the paths into it. -/
def ezLookOk (p : Nat) (b : EzBundle) (x : EzFlow) : Bool :=
  b.ops.all (fun o =>
    if o.op = 0x20 then !x.some'.getD (o.ext % 4) false
    else if o.op = 0x1A && 8 ≤ bitsN o.ext 21 18 then
      let j := bitsN o.ext 21 18 - 8
      !x.none'.getD j true && x.late.getD j 0 + 6 ≤ p
    else true)

/-- The paths into the bundles of the next stage. -/
def ezNextFlows (p : Nat) (at' : Nat → EzBundle) (fs : KMap Nat EzFlow) : KMap Nat EzFlow :=
  fs.foldl (fun (m : KMap Nat EzFlow) (x : Nat × EzFlow) =>
    let b := at' x.1
    if b.last then m
    else
      let y := ezAfter p b x.2
      let put := fun (m : KMap Nat EzFlow) (i : Nat) => m.set i (match m.get? i with | some z => ezJoin z y | none => y)
      put (put m b.nextT) b.nextF) []

/-- The reachable bundles of every stage from `p` on, each with the paths into it. -/
def ezFlows (counts : List Nat) (bundles : List Byte) : Nat → Nat → KMap Nat EzFlow → List (Nat × Nat × EzFlow)
  | 0, _, _ => []
  | fuel + 1, p, fs =>
    fs.map (fun x => (p, x.1, x.2)) ++ ezFlows counts bundles fuel (p + 1) (ezNextFlows p (bundleAt counts bundles p) fs)

/-- The payload offset of a bundle. -/
def bundleOff (counts : List Nat) (p i : Nat) : Nat := 24 + 64 + 32 * (stageBase counts p + i)

/-- The first bundle that fails a check, as its payload offset. -/
def ezFirstBad (counts : List Nat) (bundles : List Byte) (ok : Nat → EzBundle → Bool) : Option Nat :=
  ((ezAll counts).find? (fun x => !ok x.1 (bundleAt counts bundles x.1 x.2))).map (fun x => bundleOff counts x.1 x.2)

/-- Check 0x03 of a bundle: the byte in it of the first op or of the control word that fails (R236). -/
def ezBadField (b : EzBundle) : Option Nat :=
  match (List.range 4).find? (fun i => match b.ops[i]? with | some o => !ezBitsOk o | none => false) with
  | some i => some (7 * i)
  | none => if b.rsvd = 0 then none else some 28

/-- Check 0x03 of an image: the payload offset of the first field that fails (R236). -/
def ezFirstField (counts : List Nat) (bundles : List Byte) : Option Nat :=
  (ezAll counts).findSome? (fun x => (ezBadField (bundleAt counts bundles x.1 x.2)).map (bundleOff counts x.1 x.2 + ·))

/-- The lower of two payload offsets. -/
def lowerOff (a b : Option Nat) : Option Nat :=
  match a, b with
  | some x, some y => some (min x y)
  | some x, none => some x
  | none, y => y

/-- The net growth of the paths that end with a bundle keeps MAX_GROWTH (R223); a path is judged whole, and the bundle named is its last (log 38). -/
def ezGrowthOk (max : Nat) (p : Nat) (b : EzBundle) (x : EzFlow) : Bool := !(b.last || p = 15) || decide ((ezAfter p b x).growth ≤ max)

/-- The first reachable bundle that fails a check of its paths. -/
def ezFirstBadFlow (counts : List Nat) (bundles : List Byte) (ok : Nat → EzBundle → EzFlow → Bool) : Option Nat :=
  ((ezFlows counts bundles 16 0 [(0, {})]).find? (fun x => !ok x.1 (bundleAt counts bundles x.1 x.2.1) x.2.2)).map
    (fun x => bundleOff counts x.1 x.2.1)

/-- The counts of an image at payload offset 24. -/
def imageCounts (p : List Byte) : List Nat := (List.range 16).map (fun i => byteAt p (32 + i))

/-- Check 0x01: the header's fields with no check of their own count here (R234; log 38). The offset of the first bad one. -/
def imageHead (p : List Byte) : Option Nat :=
  let im := p.drop 24
  let d := fun (off : Nat) (b : Bool) => (off, b)
  let ok : List (Nat × Bool) := [d 0 (im.take 4 = [0x45, 0x5A, 0x54, 0x32]), d 5 (byteAt im 5 ≠ 0 && byteAt im 5 < 16), d 6 (byteAt im 6 ≤ 32), d 7 (byteAt im 7 = 0),
    d 8 (1 ≤ byteAt im 8)] ++ (List.range 4).flatMap (fun j => [d (24 + 8 * j) (byteAt im (24 + 8 * j) ≤ 1), d (25 + 8 * j) (fld im (25 + 8 * j) 3 = 0)])
    ++ [d 56 (fld im 56 4 = (crc32 (patch im 56 [0, 0, 0, 0])).toNat), d 60 (fld im 60 4 = 0)]
  (ok.find? (fun x => !x.2)).map (fun x => 24 + x.1)

/-- Verify the image of a PROG_LOAD payload (R236): the failing check and its payload offset. -/
def ezVerify (engines : List Nat) (p : List Byte) : Option (Nat × Nat) :=
  let kinds := byteAt p 29
  let growth := byteAt p 30
  let counts := imageCounts p
  let bs := p.drop 88
  let bad := fun (d : Nat) (o : Option Nat) => o.map (fun x => (d, x))
  let all := fun (ok : Nat → EzBundle → Bool) => ezFirstBad counts bs ok
  [bad 1 (imageHead p), bad 2 (if byteAt p 28 = 2 then none else some 28),
   bad 3 (ezFirstField counts bs), bad 4 (all (fun _ b => ezSlotsOk b)),
   bad 5 (all (fun _ b => b.ops.all (ezDesigOk kinds))), bad 6 (all (ezNextOk counts)), bad 7 (lowerOff (all ezStageOk) (ezFirstBadFlow counts bs ezLookOk)),
   bad 8 (all (fun _ b => b.ops.all (fun o => !(ezFmt o.op = some .hdr && o.a = 0xF0) || decide (bitsN o.ext 21 15 + bitsN o.ext 14 10 ≤ 159)))),
   bad 9 (ezFirstBadFlow counts bs (ezGrowthOk growth)),
   bad 10 (if engines.all (fun e => bitN kinds (e % 4)) then none else some 4)].findSome? id

end Sys2Proof.Machine
end

