-- ==== Sys2Proof/Machine/SezalOps.lean ====
section
/-! DEFINITION. What the Sezal logic knows and sends: adjacencies, paths, keeper, time state, control messages (R344 to R362). -/

namespace Sys2Proof.Machine

/-- Change the Sezal logic. -/
def updSez (f : Sezal → Sezal) (s : State) : State := { s with sez := f s.sez }

/-- Add one to a counter of SEZAL_STATUS: 0 BAD_VERSION, 1 DOMAIN_MISMATCH, 2 LOOP_DROP, 3 UNTAGGED_DROP, 4 HOP_LIMIT, 5 MISDELIVERED,
6 STEP_REFUSED, 7 CTRL_UNROUTED, 8 CTRL_RX, 9 CTRL_TX. -/
def sezBump (i : Nat) (s : State) : State := bump ⟨.sezal, 0, 0, i⟩ s

/-- The adjacency of a port. -/
def adjOf (s : State) (p : Nat) : Adj := s.sez.adj.getD p {}

/-- Change the adjacency of a port. -/
def updAdj (p : Nat) (f : Adj → Adj) (s : State) : State := updSez (fun z => { z with adj := z.adj.upd p {} f }) s

/-- A domain port (R344, R345). -/
def isDomainPort (s : State) (p : Nat) : Bool := s.sez.enabled && (cfg s).domPort.has p

/-- A port's link is UP. -/
def linkIsUp (s : State) (p : Nat) : Bool := (port s p).admin && decide ((port s p).link = .up)

/-- A domain port whose adjacency is UP (R354). -/
def adjUp (s : State) (p : Nat) : Bool := isDomainPort s p && linkIsUp s p && decide ((adjOf s p).st = .up)

/-- The UP domain ports in ascending order. -/
def upPorts (s : State) : List Nat := (s.sez.adj.keys.foldl (fun l p => insertBy id p l) []).filter (adjUp s)

/-- The neighbours of an instance as its record names them; this instance's are its UP neighbours (R355). -/
def neighboursOf (s : State) (i : Nat) : List Nat :=
  if i = s.sez.inst then ((upPorts s).map (fun p => (adjOf s p).inst)).foldl addTo []
  else match s.sez.members.get? i with
  | some m => m.neighbours
  | none => []

/-- Hop counts from a frontier at distance `d`, breadth first, over instances that have a record. -/
def spread (s : State) : Nat → Nat → List Nat → KMap Nat Nat → KMap Nat Nat
  | 0, _, _, known => known
  | fuel + 1, d, front, known =>
    let next := ((front.flatMap (neighboursOf s)).filter (fun i => s.sez.members.has i && !known.has i)).foldl addTo []
    if next.isEmpty then known else spread s fuel (d + 1) next (known ++ next.map (fun i => (i, d + 1)))

/-- Hop counts from this instance (R355). -/
def hopsMap (s : State) : KMap Nat Nat := spread s 512 0 [s.sez.inst] [(s.sez.inst, 0)]

/-- The port of the shortest path toward an instance: ties go to the neighbour of lower instance, then to the lower port (R355). -/
def pathPort (s : State) (dst : Nat) : Option Nat :=
  let via := fun p =>
    let n := (adjOf s p).inst
    ((spread s 16 0 [n] [(s.sez.inst, 0), (n, 0)]).get? dst).map (fun d => (p, d * 1024 + n))
  (leastBy Prod.snd ((upPorts s).filterMap via)).map Prod.fst

/-- The present set, this instance included (R355). -/
def presentSet (s : State) : List Nat :=
  ((hopsMap s).filter (fun x => decide (x.2 ≤ 16))).foldl (fun l x => insertBy id x.1 l) []

/-- Priority and UID of an instance. -/
def rankOf (s : State) (i : Nat) : Nat × Nat :=
  if i = s.sez.inst then (s.sez.prio, s.sez.uid) else match s.sez.members.get? i with
  | some m => (m.prio, m.uid)
  | none => (255, 0)

/-- The keeper (R358). -/
def keeperOf (s : State) (present : List Nat) : Option Nat :=
  leastBy (fun i => (rankOf s i).1 * 2 ^ 64 + (rankOf s i).2) (present.filter (fun i => decide ((rankOf s i).1 < 255)))

/-- This instance is the keeper. -/
def isKeeper (s : State) : Bool := s.sez.keeper = some s.sez.inst

/-- The upstream port (R359): none on the keeper. -/
def upstreamOf (s : State) (keeper : Option Nat) : Option Nat :=
  if keeper.isNone || keeper = some s.sez.inst then none
  else leastBy (fun p => (adjOf s p).hops * 2 ^ 20 + (adjOf s p).inst * 1024 + p) ((upPorts s).filter (fun p => decide ((adjOf s p).hops < 255)))

/-- In step (R362). -/
def inStep (s : State) : Bool := s.sez.enabled && (decide (s.sez.time = .locked) || decide (s.sez.time = .holdover)) && !s.sez.outOfStep

/-- Become OUT_OF_STEP over a set (R367, R368): source 30. -/
def goOutOfStep (set : Nat) (s : State) : State :=
  if s.sez.outOfStep then s else fire 30 (updSez (fun z => { z with outOfStep := true, heldSet := some set, memberDirty := true }) s)

/-- Enter a time state (R362): source 29 at a change; a member that leaves in step while a domain set is ARMED becomes OUT_OF_STEP (R367). -/
def setTimeState (t : TimeSt) (s : State) : State :=
  if s.sez.time = t then s
  else
    let was := inStep s
    let s1 := fire 29 (updSez (fun z => { z with time := t, good := 0, holdSince := if t = .holdover then rawNs s else z.holdSince }) s)
    match s.quad.sets.find? (fun q => decide (q.st = .armed) && decide (q.mode = 2)) with
    | some q => if was && !inStep s1 then goOutOfStep q.id s1 else s1
    | none => s1

/-- The time state that the keeper and the upstream port give (R362). -/
def nextTime (s : State) (keeper upstream : Option Nat) : TimeSt :=
  if keeper = some s.sez.inst then .locked
  else if keeper.isNone || !s.sez.follow then .free
  else if upstream.isNone then (if s.sez.time = .locked then .holdover else s.sez.time)
  else if upstream ≠ s.sez.upstream || s.sez.time = .free || s.sez.time = .holdover then .acquiring
  else s.sez.time

/-- Work out the present set, the keeper, the upstream port and the time state again (R355, R358, R359, R362). -/
def sezResolve (s : State) : State :=
  let present := presentSet s
  let s1 := if present = s.sez.present then s
    else fire 28 (updSez (fun z => { z with present, memberGen := z.memberGen + 1 }) s)
  let far := ((hopsMap s).filter (fun x => decide (16 < x.2))).length
  let keeper := keeperOf s present
  let s2 := if keeper = s.sez.keeper then s1 else fire 29 (updSez (fun z => { z with keeper }) s1)
  let up := upstreamOf s keeper
  let t := nextTime s keeper up
  setTimeState t (updSez (fun z => { z with far, upstream := up }) s2)

/-! Control messages (R352, R353). -/

/-- The frame of a control message from DA: addresses (free value, log 23: the manual gives a control message none), tag, MSG, LEN, body. -/
def ctlFrame (s : State) (p : Nat) (dst : Option Nat) (src hops seq msg : Nat) (body : List Byte) : List Byte :=
  let route := src * 2 ^ 23 + dst.getD 0 * 2 ^ 14 + hops * 2 ^ 9
  beB 6 (Config.fwChoice 12 p) ++ beB 6 (Config.macSource p) ++ beB 2 s.sez.etherType ++ beB 1 1 ++ beB 1 (2 + 4 * b2n dst.isNone) ++ beB 4 route ++ beB 4 noFlow
    ++ beB 2 seq ++ beB 2 s.sez.domainNum ++ beB 1 msg ++ beB 1 body.length ++ body

/-- Put a control message on the DOMAIN_Q of a domain port (R352); `tag` 16 for one as it is, 32 for one whose T3 the port front writes. -/
def ctlOn (tag p : Nat) (data : List Byte) (s : State) : State :=
  match (cfg s).domPort.get? p with
  | none => s
  | some d => sezBump 9 (updPort p (fun x => { x with fifo := x.fifo ++ [.own data (tag + d.q)] }) s)

/-- The number of the next message that this instance originates (R352). -/
def takeSeq (s : State) : Nat × State := (s.sez.msgSeq.toNat, updSez (fun z => { z with msgSeq := z.msgSeq + 1 }) s)

/-- A control message may go out: in ID_CONFLICT only HELLO and MEMBER do, whether this instance originates or forwards them (R356). -/
def maySend (s : State) (msg : Nat) : Bool := !s.sez.idConflict || msg = 1 || msg = 2

/-- Originate a link-local message on a port. -/
def sendLocal (tag p msg : Nat) (body : List Byte) (s : State) : State :=
  if !maySend s msg then s
  else
    let (n, s1) := takeSeq s
    ctlOn tag p (ctlFrame s p none s.sez.inst 1 n msg body) s1

/-- Originate a flooded message on every UP domain port. -/
def flood (msg : Nat) (body : List Byte) (s : State) : State :=
  if !maySend s msg then s
  else
    let (n, s1) := takeSeq s
    (upPorts s).foldl (fun t p => ctlOn 16 p (ctlFrame s p none s.sez.inst 1 n msg body) t) s1

/-- A received control message with HOPS raised by 1, and none past 16 (R350). -/
def hopUp (data : List Byte) : Option (List Byte) :=
  let r := nfld data 16 4
  if 16 ≤ bitsN r 13 9 then none else some (patch data 16 (beB 4 (r + 2 ^ 9)))

/-- Forward a flooded message on every other UP domain port (R353). -/
def forwardFlood (p : Nat) (data : List Byte) (s : State) : State :=
  if !maySend s (byteAt data 28) then s
  else match hopUp data with
  | none => sezBump 4 s
  | some d => ((upPorts s).filter (fun q => decide (q ≠ p))).foldl (fun t q => ctlOn 16 q d t) s

/-- Send a directed message toward its member (R353). -/
def sendToward (dst : Nat) (data : List Byte) (s : State) : State :=
  if !maySend s (byteAt data 28) then s
  else match pathPort s dst with
  | none => sezBump 7 s
  | some p => ctlOn 16 p data s

/-- Originate a directed message. -/
def sendDirected (dst msg : Nat) (body : List Byte) (s : State) : State :=
  if !maySend s msg then s
  else
    let (n, s1) := takeSeq s
    sendToward dst (ctlFrame s ((pathPort s dst).getD 0) (some dst) s.sez.inst 1 n msg body) s1

/-- Flood an OUTCOME. -/
def floodOutcome (set result culprit : Nat) (s : State) : State :=
  flood 8 (beB 2 set ++ beB 1 result ++ beB 1 0 ++ beB 2 culprit) s

/-- A set that is VOTING is aborted by command: its coordinator floods ABORT with no culprit, and a voter stops its vote (R366, R367; log 55). -/
def cancelVote (set : Nat) (s : State) : State :=
  let s1 := updSez (fun z => { z with voting := z.voting.filter (fun v => decide (v.set ≠ set)) }) s
  if s.sez.coord.any (fun c => decide (c.set = set)) then
    floodOutcome set 1 0xFFFF (updSez (fun z => { z with
      coord := z.coord.filter (fun c => decide (c.set ≠ set))
      outcomes := z.outcomes.filter (fun o => decide (o.set ≠ set)) ++ [⟨set, z.inst, 1, 0xFFFF, rawNs s, 2, rawNs s⟩] }) s1)
  else s1

/-- A port's adjacency goes DOWN (R354): it has left UP or the domain, or hears nothing but itself. A port of the domain keeps the time of its HELLO. -/
def leaveDomain (p : Nat) (s : State) : State :=
  let a := adjOf s p
  let gone := fun (m : KMap Nat Adj) => if isDomainPort s p && m.has p then m.set p { sent := a.sent } else m.del p
  let s1 := updSez (fun z => { z with adj := gone z.adj, memberDirty := z.memberDirty || decide (a.st = .up) }) s
  if a.st = .down then s1 else sezResolve s1

/-- DOMAIN_PORT_SET comes into force (R345, R354). -/
def domainPortSetSide (e : Env) (s : State) : State :=
  let p := fld e.payload 0 2
  if byteAt e.payload 2 = 1 then s else leaveDomain p s

end Sys2Proof.Machine
end

