-- ==== Sys2Proof/Machine/Link.lean ====
section
/-! DEFINITION. The stomper, link drops, and the link state machine (R129 to R137), coupled pairs of a port (R105, R505). -/

namespace Sys2Proof.Machine

/-- The data of what a port has in transmission. -/
def txData (t : TxItem) : List Byte :=
  match t with
  | .copy c => c.data
  | .own d _ => d

/-- The slot of a guarded frame's class: PREEMPTABLE for a preemptable queue while preemption is active (R131, R140). -/
def slotPreemptable (s : State) (c : Copy) : Bool := (port s c.port).pre = .active && bitN ((cfg s).preempt.getD c.port {}).mask c.q

/-- The entry that a guarded copy leaves in the DONE log, and its slot IDLE again (R132). -/
def recordDone (p : Nat) (done : Bool) (t : TxCur) (c : Copy) (s : State) : State :=
  let pre := match (port s p).preemptable with
    | some r => decide (r.flow = flowOfCopy s c) && decide (r.seq = seqOfCopy s c)
    | none => false
  let e : DoneEntry := ⟨flowOfCopy s c, seqOfCopy s c, p % 32, done, pre, stampBits t.stamp t.stampFlags, c⟩
  pushDone (sliceOf s p) e (updPort p (fun x => if pre then { x with preemptable := none } else { x with express := none }) s)

/-- Capture point 3: the last byte of a copy has left, whole or stomped (R296). -/
def capTransmit (p reason : Nat) (t : TxCur) (c : Copy) (s : State) : State :=
  match storedOf s c.frame with
  | none => s
  | some f => (capEvent { point := 3, reason, slice := sliceOf s p, portIn := f.c.frame.portIn, portOut := some (c.port, c.q), flow := f.c.flow, guarded := f.c.guarded
                          mcast := decide (1 < f.c.copies.length), stampIn := stampBits f.c.frame.stamp f.c.frame.stampFlags
                          stampEv := stampBits t.stamp t.stampFlags, len := wireLen c.data, sojourn := c.sojourn, data := c.data } s).1

/-- A stomped frame's TX_HINT stays owed, for no frame (R51): the older of two frames that await one is the preempted one. -/
def loseHint (p : Nat) (t : TxCur) (s : State) : State :=
  let gone := modifyFirst (fun h : OwedHint => !h.gone) (fun h => { h with gone := true })
  if !t.hintWait then s
  else updPort p (fun x => { x with hints := if t.preempted then gone x.hints else (gone x.hints.reverse).reverse }) s

/-- A one-step field has used HINT_PRED (R173). -/
def countPred (p : Nat) (t : TxCur) (s : State) : State := if t.pred.isSome then bump (pCtr p 25) s else s

/-- Stomp a frame whose first byte has transferred (R129, R130): its inverted FCS, or the inverted mCRC of a preempted frame's current fragment (how much
of it has left is a free value, log 101); TX_STOMPED, the meter tap, a guarded frame's STOMPED entry. An unguarded copy ends here. -/
def stompItem (p : Nat) (t : TxCur) (s : State) : State :=
  let d := txData t.item
  let flow := match t.item with
    | .copy c => flowOfCopy s c
    | .own _ _ => noFlow
  let (n, s0) := draw (countPred p t (loseHint p t s))
  let s1 := meterEvent p true (wireLen d) 6 flow (bump (pCtr p 11) <| countLoad p true (wireLen d)
    (emit (.frame p (if t.preempted then stompedFragment d (1 + Config.fwChoice 9 n) else stompedFrame d) true) s0))
  match t.item with
  | .own _ _ => s1
  | .copy c =>
    let s2 := capTransmit p 1 t c s1
    if guardedCopy s2 c then recordDone p false t c s2 else copyEnds c.frame s2

/-- Stomp what a port has begun: the frame in transmission and a preempted one (R130). -/
def stompPort (p : Nat) (s : State) : State :=
  let x := port s p
  let s1 := match x.cur with
    | none => s
    | some t => stompItem p t (updPort p (fun x => { x with cur := none }) s)
  match x.preempted with
  | none => s1
  | some t => stompItem p t (updPort p (fun x => { x with preempted := none }) s1)

/-- The copies that a port front and the pacing queue hold and have not begun, oldest first. -/
def unbegun (s : State) (p : Nat) : List Copy :=
  (port s p).fifo.filterMap (fun t => match t with | .copy c => some c | .own _ _ => none) ++ (port s p).pacing

/-- Count a resent copy (R334). -/
def countResent (c : Copy) (s : State) : State := if guardedCopy s c then flowCount (flowOfCopy s c) (sliceOf s c.port) 5 s else s

/-- Take copies off a slice's in-flight list. -/
def dropInFlight (sl : Nat) (cs : List Copy) (s : State) : State :=
  updSlice sl (fun x => { x with inFlight := x.inFlight.filter (fun c => !cs.any (fun d => decide (c.frame = d.frame) && decide (c.port = d.port) && decide (c.mirror = d.mirror))) }) s

/-- Leave transmit low-power idle, counting its time (R141). -/
def endLpi (p : Nat) (s : State) : State :=
  match (port s p).lpiTx with
  | none => s
  | some t => emit (.lpi p false) (addCtr (pCtr p 21) ((rawNs s - t) / 1000) (updPort p (fun x => { x with lpiTx := none }) s))

/-- An item of the transmit FIFO is a pause or PFC frame of the MAC. -/
def isPause (t : TxItem) : Bool :=
  match t with
  | .own _ tag => tag = 1 || tag = 2
  | .copy _ => false

/-- Stop a port's transmission: stomp, forget pause and PFC state (R130, R136). What it had released and not begun stays with it (R281). -/
def stopTransmit (p : Nat) (s : State) : State :=
  updPort p (fun x => { x with paused := [], xoff := [], fifo := x.fifo.filter (fun t => !isPause t) }) (endLpi p (stompPort p s))

/-- A released item that a flush of the port discards: every one but a guarded copy (R137). -/
def flushesItem (s : State) (t : TxItem) : Bool :=
  match t with
  | .copy c => !guardedCopy s c
  | .own _ _ => true

/-- Flush a port (R137): the unguarded copies of its queues, and what it has released and not begun but its guarded copies, counting LINK_FLUSH. -/
def flushAll (p : Nat) (s : State) : State :=
  let x := port s p
  let copies := (x.fifo.filterMap (fun t => match t with | .copy c => some c | .own _ _ => none) ++ x.pacing).filter (fun c => !guardedCopy s c)
  let own := (x.fifo.filter (fun t => match t with | .own _ tag => decide (16 ≤ tag) | .copy _ => false)).length
  let s1 := updPort p (fun x => { x with fifo := x.fifo.filter (fun t => !flushesItem s t), pacing := x.pacing.filter (guardedCopy s) }) (flushPort p s)
  noteEmpty p (copies.foldl (fun s c => discardCopy 0x0C c (bump (pCtr p 16) s)) (addCtr (pCtr p 16) own s1))

/-- LINK_HOLD and UP_DEBOUNCE as they stand at an entry to HELD or COMING_UP (PORT_LINK_HOLD). -/
def holdTimers (s : State) (p : Nat) (x : PortRt) : PortRt :=
  let h := (cfg s).hold.getD p {}
  { x with holdUs := h.hold, debounceUs := h.debounce }

/-- A link-state change wakes the slice core of an admin-up port (R146). -/
def linkWake (p : Nat) (s : State) : State := askWake (32 + sliceOf s p) s

/-- A port enters HELD (R136): LINK_DOWN_EVENTS and its link event; its adjacency goes DOWN (R354). -/
def enterHeld (p : Nat) (s : State) : State :=
  let s1 := updPort p (fun x => holdTimers s p { x with link := .held, since := rawNs s }) (stopTransmit p s)
  leaveDomain p (rebalancePort p (linkWake p (linkEvent p (bump (pCtr p 15) s1))))

/-- A port enters COMING_UP (R136). -/
def enterComingUp (p : Nat) (s : State) : State :=
  linkWake p (updPort p (fun x => holdTimers s p { x with link := .comingUp, since := rawNs s }) s)

/-- No fault condition is present on a port (R136). -/
def noFault (x : PortRt) : Bool := x.statUp && !x.localFault && !x.remoteFault

/-- UP_DEBOUNCE has passed without fault, from the entry to COMING_UP, or in HELD from the clearing of the fault and not before a flip (R136, R137). -/
def debounced (s : State) (x : PortRt) : Bool :=
  noFault x && decide ((if x.link = .held then x.clearSince else max x.since x.clearSince) + x.debounceUs * 1000 ≤ rawNs s)

/-- LINK_FAULT: a fault has lasted DOWN_FILTER ns (R136). Levels without a fault are no such event. -/
def execLinkFault (p : Nat) (stat : LinkStat) (s : State) : Host.Outcome State Fault Refusal :=
  .next (if stat.linkUp && !stat.localFault && !stat.remoteFault then s
    else
      let s1 := updPort p (fun x => { x with statUp := stat.linkUp, localFault := stat.localFault, remoteFault := stat.remoteFault }) s
      if !(port s p).admin then s1
      else match (port s p).link with
        | .up => enterHeld p s1
        | .comingUp => linkWake p (updPort p (fun x => { x with link := .down, since := rawNs s }) s1)
        | _ => s1)

/-- LINK_FAULT_CLEAR: no fault condition is present at a tick (R136). -/
def execLinkFaultClear (p : Nat) (s : State) : Host.Outcome State Fault Refusal :=
  let s1 := updPort p (fun x => { x with statUp := true, localFault := false, remoteFault := false, clearSince := if noFault x then x.clearSince else rawNs s }) s
  .next (if !(port s p).admin then s1
    else match (port s p).link with
      | .down => enterComingUp p s1
      | .flushed => enterComingUp p s1
      | _ => s1)

/-- LINK_UP: UP_DEBOUNCE has passed without fault (R136, R137). -/
def execLinkUp (p : Nat) (s : State) : Host.Outcome State Fault Refusal :=
  let x := port s p
  .next (if x.admin && (decide (x.link = .comingUp) || decide (x.link = .held)) && debounced s x then
      rebalancePort p (linkWake p (updPort p (fun x => { x with link := .up, since := rawNs s }) s))
    else s)

/-- LINK_HOLD_EXPIRY: the hold of a HELD port runs out, and the port does not reach UP at the same tick (R137). -/
def execLinkHoldExpiry (p : Nat) (s : State) : Host.Outcome State Fault Refusal :=
  let x := port s p
  .next (if x.admin && decide (x.link = .held) && decide (x.since + x.holdUs * 1000 ≤ rawNs s) && !debounced s x then
      linkWake p (flushOnDown p (flushAll p (updPort p (fun x => { x with link := .flushed, since := rawNs s }) s)))
    else s)

/-! Coupled pairs of a port. -/

/-- Pair 0x01 of a port (R105, R505). -/
def pair01 (c : Cfg) (p : Nat) : List PairRec :=
  match c.ports.get? p with
  | none => []
  | some x => if lanesAgree x.speed x.first x.count then [] else [⟨1, 1, p, speedMbps x.speed, x.count⟩]

/-- kbit/s in whole Mbit/s, rounded up (R505). -/
def mbpsUp (kbps : Nat) : Nat := ceilDiv kbps 1000

/-- Pair 0x03 of a port (R105, R505): the shapers of its queues, each its own unit, then the first faulty one of its nodes, whose unit is the port. -/
def pair03 (s : State) (c : Cfg) (p : Nat) : List PairRec :=
  if !isHostPort p && !c.ports.has p then []
  else
    let r := rateOf s c p
    let faults := fun (i : Nat) => match c.shaper.get? (p * 24 + i) with
      | none => none
      | some x =>
        let hi := max x.cir x.pir
        if x.mode = 0 || hi ≤ r * 1000 then none else some (if i < 16 then (⟨3, 2, qid p i, mbpsUp hi, r⟩ : PairRec) else ⟨3, 1, p, mbpsUp hi, r⟩)
    (List.range 16).filterMap faults ++ (((List.range 8).map (16 + ·)).filterMap faults).take 1

/-- Pair 0x06 of a port (R105, R505). -/
def pair06 (c : Cfg) (p : Nat) : List PairRec :=
  let m := qmapOf c p
  let h := schedOfPort c p
  (List.range 16).filterMap (fun q =>
    let w := match h.queues[q]? with | some x => x.weight | none => 0
    if bitN m.mapped q = decide (w ≠ 0) then none else some ⟨6, 2, qid p q, b2n (bitN m.mapped q), w⟩)

/-- Every coupled pair of a port, in code order. -/
def portPairs (s : State) (c : Cfg) (p : Nat) : List PairRec := pair01 c p ++ pair02 c p ++ pair03 s c p ++ pair06 c p

end Sys2Proof.Machine
end

