-- ==== Sys2Proof/Machine/Table.lean ====
section
/-! DEFINITION. The PARSE and TABLE classes (R187 to R206). -/

namespace Sys2Proof.Machine

/-! PARSE. -/

/-- Slices of a mask exist (R7). -/
def maskPresent (s : State) (p : List Byte) (off : Nat) : Bool := decide (fld p off 4 < 2 ^ nSlices s)

/-- A slice number in a byte field: absent within 0 to 31, else a bad field. -/
def slicePresent (s : State) (n : Nat) : Bool := 32 ≤ n || decide (n < nSlices s)

/-- A HDR_ID that a node may have (R188). -/
def hdrIdOk (n : Nat) : Bool := n ≤ 0x0E || (0x20 ≤ n && n ≤ 0x3F)

/-- Bits of `v` lie within `mask`. -/
def inMask (v mask : Nat) : Bool := Nat.land v mask = v

/-- The fields of a defined node (R181, PARSE_NODE_SET). -/
def nodeFields (p : List Byte) : List (Nat × Bool) :=
  let m := byteAt p 9 = 1
  let ok := fun (off : Nat) (b : Bool) => (off, b)
  [ok 5 (hdrIdOk (byteAt p 5)), below p 6 1 16, below p 7 1 2, below p 8 1 4, below p 9 1 2,
   if m then zeroAt p 10 1 else within p 10 1 0 64, if m then within p 11 1 0 63 else zeroAt p 11 1, if m then within p 12 1 0 7 else zeroAt p 12 1,
   if m then within p 13 1 1 255 else zeroAt p 13 1, if m then within p 14 1 1 16 else zeroAt p 14 1, if m then within p 15 1 0 64 else zeroAt p 15 1,
   if m then within p 16 1 0 128 else zeroAt p 16 1, if m then within p 17 1 (byteAt p 16) 128 else zeroAt p 17 1,
   if byteAt p 19 = 0 then zeroAt p 18 1 else within p 18 1 0 63, ok 20 (inMask (byteAt p 20) (byteAt p 19)),
   if byteAt p 22 = 0 then zeroAt p 21 1 else within p 21 1 0 126, ok 22 (decide (byteAt p 22 = 0) || decide (byteAt p 22 = 8) || decide (byteAt p 22 = 16)),
   within p 24 1 0 16, zeroAt p 25 3]
  ++ (List.range (byteAt p 24)).flatMap (fun i =>
    let o := 28 + 8 * i
    [ok o (inMask (fld p o 2) (fld p (o + 2) 2) && (byteAt p 22 ≠ 8 || decide (fld p o 2 < 256))), ok (o + 2) (byteAt p 22 ≠ 8 || decide (fld p (o + 2) 2 < 256)),
     zeroAt p (o + 5) 3])

/-- The checks of PARSE_NODE_SET. -/
def parseNodeSetChk (e : Env) (s : State) : Chk :=
  let p := e.payload
  { present := maskPresent s p 0
    fields := (4, decide (byteAt p 4 ≤ 253)) :: (if bitN (byteAt p 6) 0 then nodeFields p
      else zeroAt p 5 1 :: (6, decide (byteAt p 6 = 0) && byteAt p 4 ≠ 0) :: (List.range 18).map (fun i => zeroAt p (7 + i) 1) ++ [zeroAt p 25 3]) }

/-- PARSE_NODE_SET (R181, R190 to R192). -/
def execParseNodeSet (e : Env) (s : State) : Host.Outcome State Fault Refusal :=
  let p := e.payload
  .next (runStaged (.parseNodeSet e) 0x0401 (fun n => n = 28 + 8 * byteAt p 24) ((maskSlices p 0).map (fun sl => ⟨0x0401, sl, byteAt p 4⟩))
    (parseNodeSetChk e) id e s)

/-- A node in the layout of PARSE_NODE_SET from offset 4; undefined as zeros (PARSE_NODE_GET). -/
def nodeBytes (k : Nat) (n : Option ParseNode) : List Byte :=
  match n with
  | none => leB 1 k ++ List.replicate 23 0
  | some n =>
    leB 1 k ++ [n.hdrId, 1 + 2 * b2n n.ipv4Csum + 4 * b2n n.ipv4Frag + 8 * b2n n.ipv6Frag, n.failAction, n.pre, n.lenMode, n.fixedLen, n.lenOff, n.lenShift, n.lenMask,
      n.lenMul, n.lenAdd, n.minLen, n.maxLen, n.checkOff, n.checkMask, n.checkValue, n.keyOff, n.keyBits, n.defaultNext, n.trans.length].flatMap (leB 1)
      ++ leB 3 0 ++ n.trans.flatMap (fun t => leB 2 t.value ++ leB 2 t.mask ++ leB 1 t.next ++ leB 3 0)

/-- The checks of PARSE_NODE_GET (R181). -/
def parseNodeGetChk (e : Env) (s : State) : Chk :=
  let p := e.payload
  { present := slicePresent s (byteAt p 0), fields := [below p 0 1 32, within p 1 1 0 253, zeroAt p 2 2] }

/-- PARSE_NODE_GET (R181). -/
def execParseNodeGet (e : Env) (s : State) : Host.Outcome State Fault Refusal :=
  let p := e.payload
  .next (runOk 0x0402 (lenIs 4) (parseNodeGetChk e s) e
    (fun s => nodeBytes (byteAt p 1) ((graphOf (cfg s) (byteAt p 0)).get? (byteAt p 1))) id s)

/-- The checks of PARSE_GRAPH_DEFAULT (R187). -/
def parseGraphDefaultChk (e : Env) (s : State) : Chk :=
  { present := maskPresent s e.payload 0 }

/-- PARSE_GRAPH_DEFAULT (R187): it claims every node of each slice. -/
def execParseGraphDefault (e : Env) (s : State) : Host.Outcome State Fault Refusal :=
  .next (runStaged (.parseGraphDefault e) 0x0403 (lenIs 4) ((maskSlices e.payload 0).flatMap (fun sl => (List.range 254).map (fun n => ⟨0x0401, sl, n⟩)))
    (parseGraphDefaultChk e) id e s)

/-- The checks of PARSE_COUNTERS (R507). -/
def parseCountersChk (e : Env) (s : State) : Chk :=
  let p := e.payload
  { present := slicePresent s (byteAt p 0), fields := [below p 0 1 32, below p 1 1 2, zeroAt p 2 2] }

/-- PARSE_COUNTERS (R507). -/
def execParseCounters (e : Env) (s : State) : Host.Outcome State Fault Refusal :=
  let p := e.payload
  .next (runOk 0x0404 (lenIs 4) (parseCountersChk e s) e
    (fun s => (List.range 15).flatMap (fun i => leB 8 (ctrOf s ⟨.parse, byteAt p 0, 0, i⟩)))
    (fun s => if bitN (byteAt p 1) 0 then clearCtrs (fun c => decide (c.fam = .parse) && decide (c.unit = byteAt p 0)) s else s) s)

/-! TABLE. -/

/-- MAC banks per cluster (R242). -/
def macBanks (s : State) : Nat := if nSlices s = 1 then 12 else if nSlices s = 2 then 24 else 48

/-- Who holds bank `b` of cluster `c`: a TABLE_ID, 0 for free (R203). -/
def bankOwner (s : State) (c b : Nat) : Nat := s.tables.place.getD (c * 64 + b) (if b < macBanks s then 0x0100 else 0)

/-- A unit of Badger is isolated (R495). -/
def unitIsolated (s : State) (u : Nat) : Bool := (s.badger.units.getD u {}).isolated

/-- The banks of a cluster that TABLE_CREATE may take: free and in service (R203). -/
def freeBanks (s : State) (c : Nat) : List Nat :=
  (List.range (clusterBanks s)).filter (fun b => decide (bankOwner s c b = 0) && !unitIsolated s (384 + 64 * c + b))

/-- Slot bytes of a kind (R201). -/
def slotBytesOf (kind keyBytes : Nat) : Nat :=
  let n := if kind = 2 then 4 + 2 * keyBytes + 16 else if kind = 3 then 4 + 2 * keyBytes + 8 + 16 else 4 + keyBytes + 16
  if kind = 5 || n ≤ 32 then 32 else if n ≤ 64 then 64 else 128

/-- Entries per bank (R201). -/
def entriesPerBank (kind slot : Nat) : Nat := if kind = 5 then 12288 else if kind = 1 then 393216 / slot else 196608 / slot

/-- The most entries that a kind may want; EXACT by its banks alone (R201). -/
def entryLimit (kind : Nat) : Nat := if kind = 2 then 65536 else if kind = 3 then 16384 else if kind = 4 then 262144 else 2 ^ 32 - 1

/-- The largest KEY_BYTES of a kind (R201). -/
def keyLimit (kind : Nat) : Nat := if kind = 2 then 52 else if kind = 3 then 48 else if kind = 5 then 4 else 64

/-- Access cost (R201). -/
def accessCost (kind : Nat) : Nat := if kind = 2 || kind = 3 then 2 else if kind = 4 then 3 else 1

/-- The table that a TABLE_CREATE payload describes, empty (R203). -/
def tableOfPayload (p : List Byte) : Table :=
  let kind := byteAt p 2
  let slot := slotBytesOf kind (byteAt p 4)
  let want := if kind = 5 then 2 ^ byteAt p 5 else fld p 8 4
  let banks := max (ceilDiv want (entriesPerBank kind slot)) (byteAt p 12)
  { kind, clusters := byteAt p 3, keyBytes := byteAt p 4, indexBits := byteAt p 5, fieldOff := byteAt p 6, fieldBytes := byteAt p 7, slotBytes := slot, banks
    guaranteed := if kind = 1 then banks * entriesPerBank 1 slot * 3 / 4 else want }

/-- The TABLE_ID that TABLE_CREATE takes: as asked, or firmware's choice (free value, log 23). -/
def tableIdOf (e : Env) (s : State) : Option Nat :=
  if fld e.payload 0 2 ≠ 0 then some (fld e.payload 0 2) else fwPick 7 s.fresh 1 255 (fun i => s.tables.tables.has i)

/-- Tables in a cluster, the MAC table among them (R203). -/
def tablesIn (s : State) (c : Nat) : Nat := 1 + (s.tables.tables.filter (fun t => bitN t.2.clusters c)).length

/-- A PREFIX or RANGE field lies within bytes 2 to KEY_BYTES - 1 (TABLE_CREATE). -/
def tableFieldsOk (p : List Byte) : List (Nat × Bool) :=
  let kind := byteAt p 2
  let k := byteAt p 4
  if kind = 3 then [(6, decide (2 ≤ byteAt p 6) && decide (byteAt p 6 + 2 ≤ k)), (7, decide (2 ≤ byteAt p 7) && decide (byteAt p 7 + 2 ≤ k))]
  else if kind = 4 then [(6, decide (2 ≤ byteAt p 6) && decide (byteAt p 6 < k)), (7, decide (1 ≤ byteAt p 7) && decide (byteAt p 7 ≤ 16) && decide (byteAt p 6 + byteAt p 7 ≤ k))]
  else []

/-- Give the first `n` free banks of a cluster to a table. -/
def takeBanks (id n : Nat) (s : State) (c : Nat) : State :=
  { s with tables := { s.tables with place := ((freeBanks s c).take n).foldl (fun m b => m.set (c * 64 + b) id) s.tables.place } }

/-- The checks of TABLE_CREATE (R203). -/
def tableCreateChk (e : Env) (s : State) : Chk :=
  let p := e.payload
  let t := tableOfPayload p
  let id := tableIdOf e s
  let cs := (List.range 4).filter (bitN (byteAt p 3))
  let short := cs.any (fun c => decide ((freeBanks s c).length < t.banks) || decide (64 ≤ tablesIn s c))
  { present := decide (byteAt p 3 < 2 ^ nClusters s)
    fields := [below p 0 2 256, within p 2 1 1 5,
      (4, decide (4 ≤ t.keyBytes) && decide (t.keyBytes % 4 = 0) && decide (t.keyBytes ≤ keyLimit t.kind)),
      if t.kind = 5 then within p 5 1 1 20 else zeroAt p 5 1] ++ tableFieldsOk p ++
      [(8, t.kind = 5 || fld p 8 4 ≤ entryLimit t.kind), within p 12 1 0 64, zeroAt p 13 3]
    st := if fld p 0 2 ≠ 0 && s.tables.tables.has (fld p 0 2) then some 2 else none
    resource := if id.isNone || short then some 0 else none }

/-- TABLE_CREATE (R203). -/
def execTableCreate (e : Env) (s : State) : Host.Outcome State Fault Refusal :=
  let p := e.payload
  let t := tableOfPayload p
  let id := tableIdOf e s
  let cs := (List.range 4).filter (bitN (byteAt p 3))
  .next (runOk 0x0501 (lenIs 16) (tableCreateChk e s) e
    (fun _ => leB 2 (id.getD 0) ++ leB 1 t.slotBytes ++ leB 1 t.banks ++ leB 4 t.guaranteed ++ leB 1 (accessCost t.kind))
    (fun s =>
      let s1 := cs.foldl (takeBanks (id.getD 0) t.banks) s
      { s1 with fresh := s1.fresh + 1, tables := { s1.tables with tables := s1.tables.tables.set (id.getD 0) t } }) s)

/-- A profile of either bank binds table `t`. -/
def tableBound (s : State) (t : Nat) : Bool :=
  [s.bank0, s.bank1].any (fun c => c.stages.any (fun x => decide (x.2.tableId = t)) || c.keyPorts.any (fun x => decide (x.2.tableId = t)))

/-- The open set that has staged a change of table `t` (R103). -/
def tableHolder (s : State) (t : Nat) : Option Nat :=
  (s.quad.sets.find? (fun q => q.live && q.changes.any (fun ch => ch.claims.any (fun c => decide (c.op = 0x0503) && decide (c.unit = t))))).map QSet.id

/-- The checks of TABLE_DELETE (R203, R206). -/
def tableDeleteChk (e : Env) (s : State) : Chk :=
  let t := fld e.payload 0 2
  { fields := [(0, s.tables.tables.has t), zeroAt e.payload 2 2], held := tableHolder s t, busy := tableBusy s t
    st := if tableBound s t then some 6 else none }

/-- TABLE_DELETE (R203). -/
def execTableDelete (e : Env) (s : State) : Host.Outcome State Fault Refusal :=
  let t := fld e.payload 0 2
  .next (runOk 0x0502 (lenIs 4) (tableDeleteChk e s) e (fun _ => [])
    (fun s => { s with tables := { s.tables with tables := s.tables.tables.del t
                                                 place := s.tables.place.mapV (fun _ o => if o = t then 0 else o) } }) s)

/-! Entries. -/

/-- What an ENTRY_WRITE payload writes; handle, order and staging are set later. -/
def entryOfPayload (t : Table) (p : List Byte) : Entry :=
  let k := if t.kind = 5 then 0 else t.keyBytes
  { handle := 0, vis := 3, key := sub p 28 k, mask := if t.kind = 2 || t.kind = 3 then sub p (28 + k) k else [], prefixLen := byteAt p 3, prio := fld p 4 2
    ranges := if t.kind = 3 then (List.range 4).map (fun i => nfld p (28 + 2 * k + 2 * i) 2) else []
    index := if t.kind = 5 then fld p 8 4 else 0, next := byteAt p 6, result := sub p 12 16, order := 0 }

/-- The length of an entry payload of a table (ENTRY_WRITE). -/
def entryLen (t : Table) : Nat := if t.kind = 5 then 28 else if t.kind = 2 then 28 + 2 * t.keyBytes else if t.kind = 3 then 36 + 2 * t.keyBytes else 28 + t.keyBytes

/-- Two entries have the same match (R205). -/
def sameMatch (a b : Entry) : Bool :=
  decide (a.key = b.key) && decide (a.mask = b.mask) && decide (a.prefixLen = b.prefixLen) && decide (a.prio = b.prio) && decide (a.ranges = b.ranges) && decide (a.index = b.index)

/-- A match as a number, by which claims name it (R103). -/
def matchNum (x : Entry) : Nat := leNat (x.key ++ x.mask ++ x.ranges.flatMap (leB 2) ++ leB 2 x.prio ++ leB 1 x.prefixLen ++ leB 4 x.index)

/-- The claim of an entry. -/
def entryClaim (t : Nat) (x : Entry) : Claim := ⟨0x0503, t, matchNum x⟩

/-- Bits of a prefix field beyond PREFIX_LEN are 0 (ENTRY_WRITE). -/
def prefixClean (t : Table) (x : Entry) : Bool :=
  let f := sub x.key t.fieldOff t.fieldBytes
  decide (beNat f % 2 ^ (8 * t.fieldBytes - x.prefixLen) = 0)

/-- The fields of an entry that its match takes, and for a write NEXT (ENTRY_WRITE). -/
def entryFields (t : Table) (p : List Byte) (write : Bool) : List (Nat × Bool) :=
  let x := entryOfPayload t p
  let masked := t.kind = 2 || t.kind = 3
  let ok := fun (off : Nat) (b : Bool) => (off, b)
  [ok 2 (byteAt p 2 < (if write then 4 else 8)), if t.kind = 4 then within p 3 1 0 (8 * t.fieldBytes) else zeroAt p 3 1,
   ok 4 (masked || decide (fld p 4 2 = 0)), ok 6 (!write || byteAt p 6 ≤ 8 || byteAt p 6 = 0x0F), zeroAt p 7 1,
   if t.kind = 5 then below p 8 4 (2 ^ t.indexBits) else zeroAt p 8 4,
   ok 28 ((!masked || (List.range t.keyBytes).all (fun i => inMask (byteAt x.key i) (byteAt x.mask i))) && (t.kind ≠ 4 || prefixClean t x)),
   ok (28 + 2 * t.keyBytes) (x.ranges.getD 0 0 ≤ x.ranges.getD 1 0), ok (32 + 2 * t.keyBytes) (x.ranges.getD 2 0 ≤ x.ranges.getD 3 0)]

/-- A table of the TABLE class by its number. -/
def userTable (s : State) (id : Nat) : Option Table := s.tables.tables.get? id

/-- The standing entry of a match, as set `id` sees it. -/
def entryStanding (s : State) (t : Table) (setId : Nat) (x : Entry) : Option Entry :=
  t.entries.find? (fun y => sameMatch x y && standsFor s.quad.parity setId y.vis y.staged)

/-- The table has a free slot for one more entry (R203): beyond GUARANTEED, while slots (and an EXACT table's stash of 1 Ki) last within the
kind's entry limit (R201), by a free value, log 13. -/
def tableRoom (s : State) (t : Table) : Bool :=
  let n := t.entries.length
  let slots := min (t.banks * entriesPerBank t.kind t.slotBytes + (if t.kind = 1 then 1024 else 0)) (if t.kind = 5 then 2 ^ t.indexBits else entryLimit t.kind)
  n < t.guaranteed || (n < slots && !Config.bucketFull s.fresh)

/-- The handle of a new entry: one that no entry of the table has (free value, log 23; ENTRY_WRITE leaves it open). -/
def newHandle (s : State) (t : Table) : Nat :=
  (fwPick 6 s.fresh 0 0xFFFFFFFF (fun h => t.entries.any (fun x => decide (x.handle = h)) || t.heldBack.any (fun x => decide (x.2.handle = h))
    || t.lost.any (fun l => decide (l.2 = h)))).getD 0

/-- Change a table. -/
def updTable (id : Nat) (f : Table → Table) (s : State) : State :=
  match userTable s id with
  | none => s
  | some t => { s with tables := { s.tables with tables := s.tables.tables.set id (f t) } }

/-- The order of an entry written now (R201). -/
def nextOrder (t : Table) : Nat := t.entries.foldl (fun n x => max n (x.order + 1)) 0

/-- Write an entry at once (R204, R205): in place when its match stands and the handle and the order stay. -/
def entryPut (s : State) (x : Entry) (t : Table) : Table :=
  match entryStanding s t 0 x with
  | some y => { t with
      entries := t.entries.map (fun z => if z = y then { y with next := x.next, result := x.result } else z)
      lost := t.lost.filter (fun l => decide (l.2 ≠ y.handle)) }
  | none => { t with entries := t.entries ++ [{ x with handle := newHandle s t, order := nextOrder t }] }

/-- Take a match out of a set's view: the set's own insert goes, and the standing entry shows only the present parity (R113, R206). -/
def entryStageOut (parity : Bool) (setId : Nat) (x : Entry) (t : Table) : Table :=
  { t with
    entries := (t.entries.filter (fun y => !(sameMatch x y && decide (y.staged = setId) && decide (y.vis = visOnly (!parity))))).map (fun y =>
      if sameMatch x y && y.staged = 0 then { y with vis := visOnly parity, staged := setId } else y)
    heldBack := t.heldBack.filter (fun h => !(decide (h.1 = setId) && sameMatch x h.2)) }

/-- Write a staged entry (R104, R206): a replacement keeps its place in the order (log 39). -/
def entryStageIn (parity : Bool) (setId : Nat) (x : Entry) (t : Table) : Table :=
  let order := match t.entries.find? (fun y => sameMatch x y) with
    | some y => y.order
    | none => nextOrder t
  let t1 := entryStageOut parity setId x t
  { t1 with entries := t1.entries ++ [{ x with vis := visOnly (!parity), staged := setId, order }] }

/-- Stage a write: into a free slot, or held back until one is found (R206). -/
def entryStage (id setId : Nat) (x : Entry) (s : State) : State :=
  let s1 := updTable id (fun t =>
    let y := { x with handle := newHandle s t }
    if tableRoom s t then entryStageIn s.quad.parity setId y t
    else { t with heldBack := (t.heldBack.filter (fun h => !(decide (h.1 = setId) && sameMatch x h.2))) ++ [(setId, y)] }) s
  { s1 with fresh := s1.fresh + 1 }

/-- An empty table stands for an unknown one until its field is refused. -/
def noTable : Table := { kind := 5, clusters := 0, keyBytes := 4, indexBits := 0, fieldOff := 0, fieldBytes := 0, slotBytes := 32, banks := 0, guaranteed := 0 }

/-- The checks of ENTRY_WRITE. -/
def entryWriteChk (e : Env) (s : State) : Chk :=
  let p := e.payload
  match userTable s (fld p 0 2) with
  | none => { fields := [(0, false)] }
  | some t =>
    let old := entryStanding s t (eSet e) (entryOfPayload t p)
    { fields := entryFields t p true, busy := tableBusy s (fld p 0 2)
      st := if old.isSome && !bitN (byteAt p 2) 0 then some 2 else if old.isNone && byteAt p 2 % 4 = 3 then some 3 else none
      resource := if old.isSome || tableRoom s t then none else some 1 }

/-- The table that a command names, or a stand-in. -/
def eTable (e : Env) (s : State) : Table := (userTable s (fld e.payload 0 2)).getD noTable

/-- ENTRY_WRITE (R204 to R206). -/
def execEntryWrite (e : Env) (s : State) : Host.Outcome State Fault Refusal :=
  let p := e.payload
  let id := fld p 0 2
  let t := eTable e s
  let x := entryOfPayload t p
  let h := newHandle s t
  let shown := match entryStanding s t 0 x with
    | some y => y.handle
    | none => h
  .next (runStagedV (.entryWrite e) 0x0503 (fun n => !s.tables.tables.has id || n = entryLen t) [entryClaim id x] true (entryWriteChk e)
    (entryStage id e.setId x) (leB 4 h) (fun s =>
      let s1 := updTable id (entryPut s x) s
      ({ s1 with fresh := s1.fresh + 1 }, okV (leB 4 shown))) e s)

/-- The entry that an ENTRY_DELETE names, as set `setId` sees it. -/
def entryNamed (e : Env) (s : State) (t : Table) (setId : Nat) : Option Entry :=
  let p := e.payload
  if bitN (byteAt p 2) 2 then t.entries.find? (fun y => decide (y.handle = fld p 8 4) && standsFor s.quad.parity setId y.vis y.staged)
  else entryStanding s t setId (entryOfPayload t p)

/-- The claims that an ENTRY_DELETE meets (R103, R206): that of the match it gives, or of whatever entry has the handle it gives, held back or not yet
visible as it may be. -/
def deleteClaims (e : Env) (t : Table) : List Claim :=
  let p := e.payload
  if bitN (byteAt p 2) 2 then
    ((t.entries ++ t.heldBack.map Prod.snd).filter (fun y => decide (y.handle = fld p 8 4))).map (entryClaim (fld p 0 2))
  else [entryClaim (fld p 0 2) (entryOfPayload t p)]

/-- The checks of ENTRY_DELETE. -/
def entryDeleteChk (e : Env) (s : State) : Chk :=
  let p := e.payload
  match userTable s (fld p 0 2) with
  | none => { fields := [(0, false)] }
  | some t =>
    { fields := if bitN (byteAt p 2) 2 then [below p 2 1 8, zeroAt p 7 1] else entryFields t p false
      busy := tableBusy s (fld p 0 2), st := if (entryNamed e s t (eSet e)).isSome then none else some 3 }

/-- ENTRY_DELETE (R204, R206). -/
def execEntryDelete (e : Env) (s : State) : Host.Outcome State Fault Refusal :=
  let p := e.payload
  let id := fld p 0 2
  let t := eTable e s
  let x := entryNamed e (if staged e then setView e.setId s else s) t (eSet e)
  .next (runStagedV (.entryDelete e) 0x0504 (fun n => if bitN (byteAt p 2) 2 then n = 12 else !s.tables.tables.has id || n = entryLen t)
    (deleteClaims e t) true (entryDeleteChk e)
    (fun s => match x with | some y => updTable id (entryStageOut s.quad.parity e.setId y) s | none => s) []
    (fun s => (match x with | some y => updTable id (fun t => { t with entries := t.entries.filter (fun z => z ≠ y) }) s | none => s, okV [])) e s)

/-- An entry in the layout of ENTRY_WRITE from offset 2, with VALID and VIS in byte 7 (ENTRY_READ). -/
def entryBytes (x : Entry) : List Byte :=
  leB 1 0 ++ leB 1 x.prefixLen ++ leB 2 x.prio ++ leB 1 x.next ++ leB 1 (1 + 2 * x.vis) ++ leB 4 x.index ++ x.result ++ x.key ++ x.mask ++ x.ranges.flatMap (beB 2)

/-- The checks that ENTRY_READ and TABLE_DUMP share. -/
def replicaFields (e : Env) (s : State) : List (Nat × Bool) :=
  let p := e.payload
  [(0, s.tables.tables.has (fld p 0 2)), (2, bitN (eTable e s).clusters (byteAt p 2)), zeroAt p 3 1]

/-- The checks of ENTRY_READ (R201). -/
def entryReadChk (e : Env) (s : State) : Chk :=
  let p := e.payload
  let x := (eTable e s).entries.find? (fun y => decide (y.handle = fld p 4 4) && !decide ((byteAt p 2, y.handle) ∈ (eTable e s).lost))
  { present := decide (byteAt p 2 < nClusters s), fields := replicaFields e s, st := if x.isNone then some 3 else none }

/-- ENTRY_READ (R201). -/
def execEntryRead (e : Env) (s : State) : Host.Outcome State Fault Refusal :=
  let p := e.payload
  let x := (eTable e s).entries.find? (fun y => decide (y.handle = fld p 4 4) && !decide ((byteAt p 2, y.handle) ∈ (eTable e s).lost))
  .next (runOk 0x0505 (lenIs 8) (entryReadChk e s) e
    (fun _ => match x with | some y => entryBytes y | none => []) id s)

/-- The longest run of records from the front whose bytes fit. -/
def fitting (room : Nat) : List (List Byte) → List (List Byte)
  | [] => []
  | r :: l => if r.length ≤ room then r :: fitting (room - r.length) l else []

/-- The checks of TABLE_DUMP (R201). -/
def tableDumpChk (e : Env) (s : State) : Chk :=
  let p := e.payload
  { present := decide (byteAt p 2 < nClusters s), fields := replicaFields e s }

/-- TABLE_DUMP (R201): NEXT_START, COUNT and whole entries in handle order within 240 bytes. -/
def execTableDump (e : Env) (s : State) : Host.Outcome State Fault Refusal :=
  let p := e.payload
  let es := (eTable e s).entries.foldl (fun l x => if fld p 4 4 ≤ x.handle && !decide ((byteAt p 2, x.handle) ∈ (eTable e s).lost) then insertBy Entry.handle x l else l) []
  let page := fitting 232 (es.map (fun x => leB 4 x.handle ++ entryBytes x))
  let next := match es[page.length]? with
    | some x => x.handle
    | none => 0xFFFFFFFF
  .next (runOk 0x0507 (lenIs 8) (tableDumpChk e s) e
    (fun _ => leB 4 next ++ leB 2 page.length ++ leB 2 0 ++ page.flatten) id s)

/-! Key profiles. -/

/-- A chain code that a stage may have (R195). -/
def chainOk (k code : Nat) : Bool := decide (code = 0) || decide (code = 8) || (decide (k < code) && decide (code < 8))

/-- The bytes of a key that fields before `i` cover. -/
def fieldOverlap (fs : List KeyField) (i : Nat) (f : KeyField) : Bool :=
  (fs.take i).any (fun g => decide (g.dest < f.dest + f.len) && decide (f.dest < g.dest + g.len))

/-- The checks of field `i` of a profile (R197, R198). -/
def keyFieldFields (p : List Byte) (fs : List KeyField) (i : Nat) (f : KeyField) : List (Nat × Bool) :=
  let o := 16 + 8 * i
  let stage := byteAt p 0 = 0
  let ok := fun (off : Nat) (b : Bool) => (off, b)
  [below p o 1 4,
   ok (o + 1) (if f.source = 0 then f.sel ≠ 0 && hdrIdOk f.sel else if f.source = 1 then f.sel < 32 else if f.source = 2 then f.sel < (if stage then byteAt p 1 else 8) else f.sel < 3),
   ok (o + 2) (if f.source = 0 then f.inst < 4 else f.inst = 0),
   ok (o + 3) (if f.source = 0 then true else if f.source = 1 then f.off < 4 else if f.source = 2 then f.off < 24 else f.off < 2),
   ok (o + 4) (1 ≤ f.len && f.len ≤ 16 && (if f.source = 1 then 4 * f.sel + f.off + f.len ≤ 128 else if f.source = 2 then f.off + f.len ≤ 24 else if f.source = 3 then f.off + f.len ≤ 2 else true)),
   ok (o + 6) (2 ≤ f.dest && f.dest + f.len ≤ byteAt p 14 && !fieldOverlap fs i f), zeroAt p (o + 7) 1]

/-- A program other than pass-through is mapped on engine `g` (R106, R238). -/
def programBound (c : Cfg) (g : Nat) : Bool := c.progMap.any (fun x => decide (x.1 / 64 = g))

/-- STATE of a profile's table: unknown 1, another key width 4, no replica in a slice's cluster 5 (R200, R202). -/
def profileState (s : State) (p : List Byte) : Option Nat :=
  let id := fld p 8 2
  let slices := if byteAt p 0 = 0 then maskSlices p 4 else [fld p 2 2 / 4]
  if id = 0 then none
  else if id = 0x0200 then (if byteAt p 14 = 44 then none else some 4)
  else match userTable s id with
    | none => some 1
    | some t => if t.keyBytes ≠ byteAt p 14 then some 4
      else if slices.all (fun sl => bitN t.clusters (clusterOf s sl)) then none else some 5

/-- The checks of KEY_PROFILE_SET. -/
def keyProfileSetChk (e : Env) (s : State) : Chk :=
  let p := e.payload
  let stage := byteAt p 0 = 0
  let g := fld p 2 2
  let fs := (profileOfPayload p).fields
  let k := byteAt p 1
  { present := if stage then maskPresent s p 4 else decide (128 ≤ g) || decide (g < nEngines s)
    fields := [below p 0 1 2, below p 1 1 (if stage then 8 else 4), if stage then zeroAt p 2 2 else below p 2 2 128, (4, stage || fld p 4 4 = 0), (8, fld p 8 2 ≠ 0x0100),
      (10, if stage then chainOk k (byteAt p 10) else byteAt p 10 = 0), (11, if stage then chainOk k (byteAt p 11) else byteAt p 11 = 0), below p 12 1 2, within p 13 1 0 16,
      (14, decide (4 ≤ byteAt p 14) && decide (byteAt p 14 ≤ 64) && decide (byteAt p 14 % 4 = 0)), zeroAt p 15 1]
      ++ (List.range fs.length).flatMap (fun i => match fs[i]? with | some f => keyFieldFields p fs i f | none => [])
    needQuad := if !stage && programBound (cfg s) g then some 5 else none
    st := profileState s p }

/-- KEY_PROFILE_SET (R197 to R202). -/
def execKeyProfileSet (e : Env) (s : State) : Host.Outcome State Fault Refusal :=
  let p := e.payload
  let claims : List Claim := if byteAt p 0 = 0 then (maskSlices p 4).map (fun sl => ⟨0x0506, sl, byteAt p 1⟩) else [⟨0x0606, fld p 2 2, byteAt p 1⟩]
  .next (runStaged (.keyProfileSet e) 0x0506 (fun n => n = 16 + 8 * byteAt p 13) claims (keyProfileSetChk e) id e s)

end Sys2Proof.Machine
end

