-- ==== Sys2Proof/Machine/Faults.lean ====
section
/-! DEFINITION. The fault log, isolation of units, resets of an engine (R240, R241, R494 to R498). -/

namespace Sys2Proof.Machine

/-- Write a fault log entry and raise FAULT (R494). -/
def logFaultAt (code action unit addr : Nat) (s : State) : State :=
  let b := s.badger
  let x : FaultEntry := ⟨b.seq, code, action, unit, addr, timeNs s⟩
  fire 0 { s with badger := { b with log := (b.log ++ [x]).drop (b.log.length - 255), seq := (b.seq + 1) % 2 ^ 32 } }

/-- The same with an ADDR that nothing states (free value, log 21). -/
def logFault (code action unit : Nat) (s : State) : State :=
  logFaultAt code action unit (Config.faultAddr s.fresh).toNat { s with fresh := s.fresh + 1 }

/-- Change what Badger keeps of a unit. -/
def updUnit (u : Nat) (f : UnitRt → UnitRt) (s : State) : State := { s with badger := { s.badger with units := s.badger.units.upd u {} f } }

/-- Isolating a cluster bank: its table moves to a free bank of the cluster when there is one (R497). -/
def isolateCluster (u : Nat) (s : State) : State :=
  let c := (u - 384) / 64
  let b := (u - 384) % 64
  let owner := bankOwner s c b
  if owner = 0 then s
  else match (freeBanks s c).filter (fun x => decide (x ≠ b)) with
    | [] => { s with badger := { s.badger with noSpare := addTo s.badger.noSpare u } }
    | n :: _ => { s with tables := { s.tables with relocating := s.tables.relocating.set u owner, place := (s.tables.place.set (c * 64 + n) owner).set (c * 64 + b) 0 } }

/-- Take a unit out of service (R495): UNIT_ISOLATED, and what isolation does to its kind of unit. -/
def isolateUnit (u : Nat) (s : State) : State :=
  if unitIsolated s u then s
  else
    let s1 := fire 180 (updUnit u (fun x => { x with isolated := true, running := false }) s)
    if u < 128 then recomputeShared { s1 with buf := { s1.buf with isolated := addTo s1.buf.isolated u, stopped := addTo s1.buf.stopped u } }
    else if u < 384 then
      updSlice ((u - 128) / 8) (fun x => { x with badFlowBanks := addTo x.badFlowBanks ((u - 128) % 8) })
        { s1 with badger := { s1.badger with rebuilding := addTo s1.badger.rebuilding u } }
    else if u < 640 then isolateCluster u s1
    else { s1 with eng := { s1.eng with rt := s1.eng.rt.upd (u - 640) {} (fun r => { r with isolated := true }) } }

/-- An engine's runtime. -/
def engine (s : State) (g : Nat) : EngineRt := s.eng.rt.getD g {}

/-- Change an engine's runtime. -/
def updEngine (g : Nat) (f : EngineRt → EngineRt) (s : State) : State := { s with eng := { s.eng with rt := s.eng.rt.upd g {} f } }

/-- An engine counter (ENGINE_STATUS): 0 FRAMES, 1 ENGINE_DROP, 2 GUARD_DROP_IGNORED, 3 HDR_RANGE, 4 PROG_UNMAPPED, 5 ENGINE_STALL, 6 SCRATCH_ERR,
7 ENGINE_RESET_DROP, 8 BUNDLE_CORRECTED. -/
def engCtr (g i : Nat) : Ctr := ⟨.engine, g, 0, i⟩

/-- A word of memory `u`, a Badger unit, had a single-bit error that the access corrected (R30, R240). -/
def countCorrected (u : Nat) (s : State) : State :=
  let s1 := bump ⟨.err, u, 0, 0⟩ s
  if 640 ≤ u && u < 768 then bump (engCtr (u - 640) 8) s1 else s1

/-- A fault of a buffer, flow-store or cluster bank (R494, R495): the fault log and isolation. -/
def bankFault (u : Nat) (s : State) : State :=
  if unitIsolated s u then s else isolateUnit u (logFault (if u < 128 then 1 else if u < 384 then 2 else 3) 5 u s)

/-- An access found a double-bit error in memory bank `u` (R30). -/
def memFault (u : Nat) (s : State) : State := if u < 640 then bankFault u (bump ⟨.err, u, 0, 1⟩ s) else s

/-- What the check bits of the memories found on a frame's way (R30). -/
def memErrors (corrected bad : List Nat) (s : State) : State :=
  bad.foldl (fun s u => memFault u s) (corrected.foldl (fun s u => countCorrected u s) s)

/-- The ports whose copies an egress engine holds. -/
def enginePorts (s : State) (g : Nat) : List Nat := (s.ports.keys).filter (fun p => decide (sliceOf s p = g / 4))

/-- The copies that E2, the pacing queue and E3 hold go back to the heads of their queues (R241). -/
def returnPacing (s : State) (p : Nat) : State :=
  let cs := (port s p).pacing
  if cs.isEmpty then s
  else cs.foldl (fun s c => countResent c s) (putBack cs (dropInFlight (sliceOf s p) cs (updPort p (fun x => { x with pacing := [] }) s)))

/-- Reset an engine (R240, R241): CAUSE as LAST_FAULT shows it. -/
def resetEngine (g cause : Nat) (s : State) : State :=
  let s1 := updEngine g (fun r => { r with resetAt := some (rawNs s), lastFault := cause, resets := min 0xFFFF (r.resets + 1) }) s
  if 2 ≤ g % 4 then (enginePorts s g).foldl returnPacing s1 else s1

/-- The resets of an engine within the last second (R498). -/
def recentResets (s : State) (g : Nat) : List Nat := (engine s g).faultTimes.filter (fun t => decide (rawNs s < t + 1000000000))

/-- Count a reset against RESET_LIMIT and isolate the engine beyond it (R498). -/
def countReset (g : Nat) (s : State) : State :=
  let l := recentResets s g ++ [rawNs s]
  let s1 := updEngine g (fun r => { r with faultTimes := l }) s
  if s.badger.resetLimit < l.length then isolateUnit (640 + g) s1 else s1

end Sys2Proof.Machine
end

