-- ==== Sys2Proof/Machine/Engine.lean ====
section
/-! DEFINITION. The ENGINE class (R224 to R241). -/

namespace Sys2Proof.Machine

/-- An engine number in a two-byte field: absent within 0 to 127, else a bad field. -/
def enginePresent (s : State) (g : Nat) : Bool := 128 ≤ g || decide (g < nEngines s)

/-- The engines that PROG_LOAD names. -/
def loadEngines (p : List Byte) : List Nat := setBits 128 (fld p 4 16)

/-- The image of a PROG_LOAD payload (R234). -/
def imageOfPayload (p : List Byte) : Image :=
  { kinds := byteAt p 29, maxGrowth := byteAt p 30, counts := imageCounts p
    keyDecl := (List.range 4).map (fun j => (decide (byteAt p (48 + 8 * j) = 1), fld p (52 + 8 * j) 4)), bundles := p.drop 88, engines := loadEngines p }

/-- Bundles of an image. -/
def imageBundles (im : Image) : Nat := sumOf id im.counts

/-- Bytes of an image in the image store (R237). -/
def imageBytes (im : Image) : Nat := 64 + 32 * imageBundles im

/-- Bundles in use in a stage of an engine. -/
def bundlesUsed (s : State) (g p : Nat) : Nat := sumOf (fun x => if g ∈ x.2.engines then x.2.counts.getD p 0 else 0) s.eng.images

/-- The runs of bundles that images hold in the memory of stage `p` of engine `g`: first index and length (R237). -/
def stageRuns (s : State) (g p : Nat) : List (Nat × Nat) :=
  (s.eng.images.filter (fun x => decide (g ∈ x.2.engines))).map (fun x => (x.2.baseAt g p, x.2.counts.getD p 0))

/-- A run of `n` bundles fits at index `b` of a stage memory. -/
def runFits (s : State) (g p n b : Nat) : Bool :=
  decide (b + n ≤ 256) && (stageRuns s g p).all (fun r => decide (r.2 = 0) || decide (b + n ≤ r.1) || decide (r.1 + r.2 ≤ b))

/-- The indices of a stage memory at which a run of `n` bundles fits. -/
def runPlaces (s : State) (g p n : Nat) : List Nat := if n = 0 then [0] else (List.range 256).filter (runFits s g p n)

/-- An engine has room for an image (R237): 63 images, and a contiguous run of indices in each stage. -/
def engineRoom (s : State) (im : Image) (g : Nat) : Bool :=
  decide ((s.eng.images.filter (fun x => decide (g ∈ x.2.engines))).length < 63)
    && (List.range 16).all (fun p => !(runPlaces s g p (im.counts.getD p 0)).isEmpty)

/-- Place an image in its engines' stage memories (R237): which of the runs that fit is firmware's choice (free value, log 23). -/
def placeImage (s : State) (im : Image) : Image :=
  { im with base := (im.engines.flatMap (fun g => (List.range 16).map (fun p => (g, p)))).foldl (fun m x =>
      let l := runPlaces s x.1 x.2 (im.counts.getD x.2 0)
      m.set (16 * x.1 + x.2) (l.getD (Config.fwChoice (0x1000 + 16 * x.1 + x.2) s.fresh % l.length) 0)) [] }

/-- The image store has room: 4 MiB (R237). -/
def storeRoom (s : State) (im : Image) : Bool := decide (sumOf (fun x => imageBytes x.2) s.eng.images + imageBytes im ≤ 4194304)

/-- The LOAD_ID that a load takes: as asked, or firmware's choice (free value, log 23). -/
def loadIdOf (e : Env) (s : State) : Option Nat :=
  if fld e.payload 0 2 ≠ 0 then some (fld e.payload 0 2) else fwPick 8 s.fresh 1 255 (fun i => s.eng.images.has i)

/-- An image is mapped in either bank (R238). -/
def imageMapped (s : State) (id : Nat) : Bool := [s.bank0, s.bank1].any (fun c => c.progMap.any (fun x => decide (x.2 = id)))

/-- The open set whose PROG_BIND MAP names an image (R238). -/
def imageHolder (s : State) (id : Nat) : Option Nat :=
  (s.quad.sets.find? (fun q => q.live && q.changes.any (fun ch => match ch.cmd with
    | .progBindMap e => decide (fld e.payload 4 2 = id)
    | _ => false))).map QSet.id

/-- The length of a PROG_LOAD payload. -/
def progLoadLen (p : List Byte) (n : Nat) : Bool :=
  if byteAt p 2 = 0 then n = 88 + 32 * sumOf id (imageCounts p) else n = 24

/-- The checks of a load after its length: the first failing one (R99, R236, R237). -/
def loadVerdict (e : Env) (s : State) : Option Verdict :=
  let p := e.payload
  let im := imageOfPayload p
  firstOf [unlessOk (decide (fld p 4 16 < 2 ^ nEngines s)) absentV, fieldVerdict [below p 0 2 256, below p 2 1 2, zeroAt p 3 1, zeroAt p 20 4],
    (ezVerify (loadEngines p) p).map (fun v => { status := 0x04, detail := v.1, off := v.2 }),
    unlessOk (!s.eng.images.has (fld p 0 2) || fld p 0 2 = 0) (stateV 2),
    unlessOk ((loadIdOf e s).isSome && (loadEngines p).all (engineRoom s im) && storeRoom s im) (noResV 0)]

/-- PROG_LOAD (R234 to R237): a load. -/
def execProgLoad (e : Env) (s : State) : Host.Outcome State Fault Refusal :=
  let p := e.payload
  let im := imageOfPayload p
  let id := (loadIdOf e s).getD 0
  .next (ifTurn e (fun s => match firstOf [envVerdict 0x0601 false (fun n => ptr e && progLoadLen p n) e s, loadVerdict e s] with
    | some v => respond e 0x0601 v s
    | none => respond e 0x0601 (okV (leB 2 id ++ leB 2 (imageBundles im)))
        { s with fresh := s.fresh + 1, eng := { s.eng with images := s.eng.images.set id (placeImage s im) } }) s)

/-- The checks of PROG_UNLOAD (R238). -/
def progUnloadChk (e : Env) (s : State) : Chk :=
  let p := e.payload
  let id := fld p 0 2
  { present := decide (fld p 4 16 < 2 ^ nEngines s)
    fields := [(0, s.eng.images.has id), below p 2 1 2, zeroAt p 3 1, zeroAt p 20 4], held := imageHolder s id
    st := if imageMapped s id then some 6 else none }

/-- PROG_LOAD (R238): an unload, which ends the image on every engine. -/
def execProgUnload (e : Env) (s : State) : Host.Outcome State Fault Refusal :=
  let p := e.payload
  let id := fld p 0 2
  let n := match s.eng.images.get? id with
    | some im => imageBundles im
    | none => 0
  .next (runOk 0x0601 (fun k => ptr e && k = 24) (progUnloadChk e s) e
    (fun _ => leB 2 id ++ leB 2 n) (fun s => { s with eng := { s.eng with images := s.eng.images.del id } }) s)

/-- DIGEST of a profile (R235): ON_HIT and ON_MISS as 0. -/
def profileDigest (x : KeyProfile) : Nat := (crc32 (patch x.raw 2 [0, 0])).toNat

/-- Pair 0x05 of key port `j` of engine `g` (R105, R235, R505): the first mapped image that disagrees. -/
def pair05At (s : State) (c : Cfg) (g j : Nat) : List PairRec :=
  let b := match c.keyPorts.get? (g * 4 + j) with
    | some x => profileDigest x
    | none => 0
  let bad := (c.progMap.filter (fun x => decide (x.1 / 64 = g))).find? (fun x => match s.eng.images.get? x.2 with
    | none => false
    | some im => match im.keyDecl[j]? with
      | some d => d.1 && (!c.keyPorts.has (g * 4 + j) || decide (d.2 ≠ b))
      | none => false)
  match bad with
  | none => []
  | some x => match s.eng.images.get? x.2 with
    | none => []
    | some im => [⟨5, 4, g * 4 + j, (im.keyDecl.getD j (false, 0)).2, b⟩]

/-- Pair 0x05 of an engine. -/
def pair05 (s : State) (c : Cfg) (g : Nat) : List PairRec := (List.range 4).flatMap (pair05At s c g)

/-- The image that PROG_BIND MAP names can run on the engine. -/
def bindable (s : State) (g id : Nat) : Bool :=
  match s.eng.images.get? id with
  | none => false
  | some im => decide (g ∈ im.engines) && bitN im.kinds (g % 4)

/-- The checks of PROG_BIND MAP (R238). -/
def progBindMapChk (e : Env) (s : State) : Chk :=
  let p := e.payload
  let g := fld p 0 2
  { present := enginePresent s g
    fields := [below p 0 2 128, below p 2 1 2, within p 3 1 1 63, (4, fld p 4 2 = 0 || bindable s g (fld p 4 2)), zeroAt p 6 2, zeroAt p 8 4, zeroAt p 12 8]
    needQuad := if programBound (cfg s) g then some 5 else none
    pair := pairChk (pair05 s (progBindMapUpd s.build e (cfg s)) g) }

/-- PROG_BIND MAP (R224, R238). -/
def execProgBindMap (e : Env) (s : State) : Host.Outcome State Fault Refusal :=
  let p := e.payload
  .next (runStaged (.progBindMap e) 0x0602 (lenIs 20) [⟨0x0602, fld p 0 2, byteAt p 3⟩] (progBindMapChk e) id e s)

/-- The checks of PROG_BIND DEFAULT (R225, R238). -/
def progBindDefaultChk (e : Env) (s : State) : Chk :=
  let p := e.payload
  let g := fld p 0 2
  { present := enginePresent s g
    fields := [below p 0 2 128, below p 2 1 2, (3, byteAt p 3 ≤ 63 && (byteAt p 3 = 0 || (cfg s).progMap.has (g * 64 + byteAt p 3))), zeroAt p 4 2, zeroAt p 6 2,
      (12, (setBits 64 (fld p 12 8)).all (fun h => decide (sliceOf s (1024 + h) = g / 4)))] }

/-- PROG_BIND DEFAULT (R225). -/
def execProgBindDefault (e : Env) (s : State) : Host.Outcome State Fault Refusal :=
  let p := e.payload
  .next (runStaged (.progBindDefault e) 0x0602 (lenIs 20) ((bindPorts p).map (fun x => ⟨0x0602, fld p 0 2, 0x1000 + x⟩)) (progBindDefaultChk e) id e s)

/-- STATE of ENGINE_STATUS. -/
def engineState (s : State) (g : Nat) : Nat :=
  if (engine s g).isolated then 3 else if (engine s g).resetAt.isSome then 2 else if programBound (cfg s) g then 1 else 0

/-- The checks of ENGINE_STATUS (R507). -/
def engineStatusChk (e : Env) (s : State) : Chk :=
  let p := e.payload
  let g := fld p 0 2
  { present := enginePresent s g, fields := [below p 0 2 128, below p 2 1 2, zeroAt p 3 1] }

/-- ENGINE_STATUS (R507). -/
def execEngineStatus (e : Env) (s : State) : Host.Outcome State Fault Refusal :=
  let p := e.payload
  let g := fld p 0 2
  let mapped := 1 + sumOf (fun x => if x.1 / 64 = g then 2 ^ (x.1 % 64) else 0) (cfg s).progMap
  .next (runOk 0x0603 (lenIs 4) (engineStatusChk e s) e
    (fun s => leB 1 (engineState s g) ++ leB 1 (engine s g).lastFault ++ leB 2 (engine s g).resets ++ leB 4 0 ++ leB 8 mapped
      ++ (List.range 16).flatMap (fun i => leB 2 (256 - bundlesUsed s g i)) ++ (List.range 9).flatMap (fun i => leB 8 (ctrOf s (engCtr g i))))
    (fun s => if bitN (byteAt p 2) 0 then clearCtrs (fun c => decide (c.fam = .engine) && decide (c.unit = g)) s else s) s)

/-- ENGINE_RESET_DONE: within 1 µs the engine is back in RUN; a reset that a command asked for gives its response (R240). -/
def execEngineResetDone (g : Nat) (s : State) : Host.Outcome State Fault Refusal :=
  .next (match (engine s g).resetAt with
    | none => s
    | some _ =>
      let s1 := updEngine g (fun r => { r with resetAt := none, owed := none }) s
      match (engine s g).owed with
      | some e => respond e 0x0604 (okV []) s1
      | none => s1)

/-- The checks of CONST_SET (R239). -/
def constSetChk (e : Env) (s : State) : Chk :=
  let p := e.payload
  let g := fld p 0 2
  { present := enginePresent s g
    fields := [below p 0 2 128, below p 2 1 64, (3, decide (1 ≤ byteAt p 3) && decide (byteAt p 3 ≤ 59) && decide (byteAt p 2 + byteAt p 3 ≤ 64))] }

/-- CONST_SET (R239). -/
def execConstSet (e : Env) (s : State) : Host.Outcome State Fault Refusal :=
  let p := e.payload
  let g := fld p 0 2
  .next (runStaged (.constSet e) 0x0605 (fun n => n = 4 + 4 * byteAt p 3) ((List.range (byteAt p 3)).map (fun i => ⟨0x0605, g, byteAt p 2 + i⟩))
    (constSetChk e) id e s)

/-- The checks of SCRATCH_READ (R232). -/
def scratchReadChk (e : Env) (s : State) : Chk :=
  let p := e.payload
  let g := fld p 0 2
  let a := fld p 4 4
  let n := fld p 8 2
  { present := enginePresent s g
    fields := [below p 0 2 128, zeroAt p 2 2, below p 4 4 16384, (8, decide (1 ≤ n) && decide (n ≤ 56) && decide (a + n ≤ 16384)), below p 10 1 2, zeroAt p 11 1] }

/-- SCRATCH_READ (R232). -/
def execScratchRead (e : Env) (s : State) : Host.Outcome State Fault Refusal :=
  let p := e.payload
  let g := fld p 0 2
  let a := fld p 4 4
  let n := fld p 8 2
  .next (runOk 0x0606 (lenIs 12) (scratchReadChk e s) e
    (fun s => leB 4 a ++ leB 2 n ++ leB 2 0 ++ (List.range n).flatMap (fun i => leB 4 ((engine s g).scratch.getD (a + i) 0).toNat))
    (fun s => if bitN (byteAt p 10) 0 then updEngine g (fun r => { r with scratch := r.scratch.filter (fun x => !(decide (a ≤ x.1) && decide (x.1 < a + n))) }) s else s) s)

end Sys2Proof.Machine
end

