-- ==== Sys2Proof/Machine/Pass.lean ====
section
/-! DEFINITION. A pass of a frame or copy through an engine: program selection, counters, scratch (R208, R224 to R233, R498). -/

namespace Sys2Proof.Machine

/-- What enters an engine. -/
structure PassIn where
  kind : Nat
  slice : Nat
  /-- The bank in use: the frame's epoch in E0 and E1, the one in force in E2 and E3 (R208). -/
  epoch : Bool
  /-- The port whose default PROG_ID applies (R224). -/
  defPort : Nat
  portIn : Nat
  data : List Byte
  m : List Word
  parse : ParseRes
  trs : List TRes := []
  faults : LookupFaults
  vtag : Option Nat := none
deriving DecidableEq, Repr

/-- The global engine number (R22). -/
def PassIn.engine (x : PassIn) : Nat := 4 * x.slice + x.kind

/-- The PROG_ID that a pass runs (R224). -/
def progOf (c : Cfg) (x : PassIn) : Nat :=
  let lo := 8 * (x.kind - 1)
  if x.kind ≠ 0 && bitN (mWord x.m 2) (lo + 6) then bitsN (mWord x.m 2) (lo + 5) lo else c.progDef.getD (x.engine * 2048 + x.defPort) 0

/-- A pass that changes nothing. -/
def idlePass (s : State) (x : PassIn) : EzPass :=
  { data := x.data, headLen := min 128 x.data.length, hdrs := x.parse.hdrs, m := x.m, vtag := x.vtag, scratch := (engine s x.engine).scratch }

/-- Scratch reads that met a double-bit error (R233): SCRATCH_ERR, the slice event, the fault log. -/
def scratchFault (g n : Nat) (s : State) : State :=
  if n = 0 then s else logFault 5 1 (640 + g) <| addCtr ⟨.err, 640 + g, 0, 1⟩ n (sliceCause (g / 4) 2 (updEngine g (fun r => { r with lastFault := 3 }) (addCtr (engCtr g 6) n s)))

/-- Run a pass (R224 to R233). -/
def runPass (x : PassIn) (s : State) : State × EzPass :=
  let g := x.engine
  let c := cfgAt s x.epoch
  let r0 := idlePass s x
  if (engine s g).isolated then (s, r0)
  else
    let s1 := bump (engCtr g 0) s
    let pid := progOf c x
    if pid = 0 then (s1, r0)
    else match (c.progMap.get? (g * 64 + pid)).bind (fun id => s.eng.images.get? id) with
      | none => (bump (engCtr g 4) s1, r0)
      | some im =>
        let v : EzEnv := { kind := x.kind, engine := g, slice := x.slice, parity := x.epoch, now := unsignedN 32 (timeNs s), consts := c.consts, portIn := x.portIn
                           parse := x.parse, trs := x.trs, faults := x.faults.keyPorts
                           badWords := (x.faults.words.filter (fun w => decide (w.1 = x.kind))).map Prod.snd }
        let r := ezRun s c v im 16 0 (im.baseAt g 0) r0
        let s2 := updEngine g (fun e => { e with scratch := r.scratch.filter (fun w => w.2 ≠ 0) }) s1
        let s3 := addCtr (engCtr g 3) r.ranged (addCtr ⟨.parse, x.slice, 0, 12⟩ r.errs s2)
        (scratchFault g r.scratchErrs s3, r)

end Sys2Proof.Machine
end

