-- ==== Sys2Proof/Machine/PtpOps.lean ====
section
/-! DEFINITION. PTP event messages: recognition, the corrections of transparent clocks, one-step fields (R168 to R173). -/

namespace Sys2Proof.Machine

/-- The PTP event message of a frame at the offset that M7 gives (R168; the layout of IEEE 1588 is PRESUMED, log 126): its offset and messageType, when
the port's settings accept its version. -/
def ptpEvent (x : PtpCfg) (m7 : Nat) (d : List Byte) : Option (Nat × Nat) :=
  let o := bitsN m7 6 0
  let minor := byteAt d (o + 1) / 16
  if bitN m7 7 && decide (o + 34 ≤ d.length) && decide (byteAt d o % 16 < 4) && byteAt d (o + 1) % 16 = 2
      && ((minor = 0 && x.v20) || (minor = 1 && x.v21)) then some (o, byteAt d o % 16)
  else none

/-- Pdelay messages of a P2P TC port are terminated for the servo and never forwarded (R169). -/
def ptpTerminated (c : Cfg) (p m7 : Nat) (d : List Byte) : Bool :=
  match c.ptp.get? p with
  | none => false
  | some x => x.role = 3 && (match ptpEvent x m7 d with | some (_, t) => t = 2 || t = 3 | none => false)

/-- Add to a correctionField in 2^-16 ns; an overflow writes the reserved largest value (R171). -/
def addCorrection (o : Nat) (v : Int) (d : List Byte) : List Byte :=
  let sum := signedN 64 (nfld d (o + 8) 8) + v
  let fits := decide (-(2 ^ 63) ≤ sum) && decide (sum < 2 ^ 63)
  patch d (o + 8) (beB 8 (if fits then unsignedN 64 sum else 2 ^ 63 - 1))

/-- A difference of two stamps in 1/16 ns, mod 2^32 ns (R170, R172). -/
def stampDiff (t r : Int) : Nat := unsignedN 36 (t - r)

/-- Write a Sync's originTimestamp, its sixteenths and twoStepFlag for a transmit TIME in 1/16 ns (R172). -/
def oneStepSync (o : Nat) (t : Int) (d : List Byte) : List Byte :=
  let ns := unsignedN 80 (t / 16)
  let d1 := patch d (o + 34) (beB 6 (ns / 1000000000) ++ beB 4 (ns % 1000000000))
  let d2 := patch d1 (o + 6) [(d.getD (o + 6) 0) &&& 0xFD]
  addCorrection o (unsignedN 4 t * 4096 : Nat) d2

/-- Update the UDP checksum for a message that changed, unless IPv4 carries none (R172; log 47). -/
def fixUdp (m7 : Nat) (old d : List Byte) : List Byte :=
  let l4 := bitsN m7 14 8
  let c := nfld d (l4 + 6) 2
  if !bitN m7 15 || (c = 0 && !bitN m7 16) then d
  else
    let words := fun (l : List Byte) => (List.range (ceilDiv l.length 2)).foldl (fun n i => add1c n (nfld l (2 * i) 2)) 0
    let v := 0xFFFF - add1c (add1c (0xFFFF - c) (0xFFFF - words (old.drop (l4 + 8)))) (words (d.drop (l4 + 8)))
    patch d (l4 + 6) (beB 2 (if v = 0 then 0xFFFF else v))

/-- What the assist knows of a copy: its ingress stamp in 1/16 ns, its ingress port, whether it came from a host, and the reference stamp. -/
structure PtpIn where
  stamp : Int
  portIn : Nat
  host : Bool
  tref : Option Int

/-- The transparent clock's correction of a forwarded event message (R170), in 2^-16 ns. -/
def tcCorrection (c : Cfg) (x : PtpCfg) (v : PtpIn) (typ : Nat) (t : Int) : Int :=
  let i := c.ptp.get? v.portIn
  let asymIn : Int := match i with | some y => 256 * y.asym | none => 0
  let peer : Int := match i with | some y => 256 * (y.peerDelay : Int) | none => 0
  4096 * (stampDiff t v.stamp : Int) + (if typ = 0 && x.role = 3 then peer else 0) + (if typ = 0 || typ = 3 then asymIn else -(256 * x.asym))

/-- What the assist does to a copy at its transmit TIME (R170 to R172): the frame, and whether a one-step field was written; none discards it as
stale. A transparent clock corrects what it forwards; what a host sends through it takes one-step fields as on any other port. -/
def ptpAssist (c : Cfg) (p : Nat) (m7 : Nat) (v : PtpIn) (t : Int) (d : List Byte) : Option (List Byte × Bool) :=
  match c.ptp.get? p with
  | none => some (d, false)
  | some x => match ptpEvent x m7 d with
    | none => some (d, false)
    | some (o, typ) =>
      if (x.role = 2 || x.role = 3) && !v.host then
        if 16000000000 < stampDiff t v.stamp then none else some (fixUdp m7 d (addCorrection o (tcCorrection c x v typ t) d), true)
      else if x.role = 0 then some (d, false)
      else if typ = 0 && x.oneStepSync then some (fixUdp m7 d (oneStepSync o t d), true)
      else match typ, x.oneStepPdelay, v.tref with
        | 3, true, some r => some (fixUdp m7 d (addCorrection o (4096 * (stampDiff t r : Int)) d), true)
        | _, _, _ => some (d, false)

end Sys2Proof.Machine
end

