-- ==== Sys2Proof/Machine/Port.lean ====
section
/-! DEFINITION. The PORT class (R123 to R145). -/

namespace Sys2Proof.Machine

/-- PORT_CFG would break R125 beside a configured port of the slice. -/
def laneClash (s : State) (p : Nat) (x : PortCfg) : Bool :=
  let others := (cfg s).ports.filter (fun y => decide (y.1 ≠ p) && decide (y.1 / 32 = p / 32))
  others.any (fun y => !lanesMeet x y.2)
    || (x.kind = 0 && (List.range x.count).any (fun k => decide (200000 < speedMbps x.speed + laneLoad others (p / 32) (x.first + k)) && x.count = 1))

/-- The checks of PORT_CFG. -/
def portCfgChk (e : Env) (s : State) : Chk :=
  let p := e.payload
  let q := ePort e
  let x := portCfgOf p
  { present := portThere s q 1024 && (byteAt p 3 = 0 || 4 ≤ byteAt p 3 || legacyLanes s)
    fields := [below p 0 2 1024, (2, if byteAt p 3 < 4 then speedOnKind (byteAt p 2) (byteAt p 3) else true), below p 3 1 4,
      below p 4 1 (if byteAt p 3 = 0 then 16 else 8), (5, byteAt p 5 = 1 || byteAt p 5 = 2 || byteAt p 5 = 4 || byteAt p 5 = 8), below p 6 1 4, below p 7 1 2,
      within p 8 2 1518 16384, zeroAt p 10 2]
    needQuad := match (cfg s).ports.get? q with
      | none => none
      | some o => if (port s q).admin && (decide (o.speed ≠ x.speed) || decide (o.kind ≠ x.kind) || decide (o.first ≠ x.first)
          || decide (o.count ≠ x.count) || decide (o.sub ≠ x.sub)) then some 1 else none
    st := if laneClash s q x then some 1 else none
    pair := pairChk (pair01 (portCfgUpd s.build e (cfg s)) q) }

/-- The preemption state that a port's settings and speed give at a change (R140). -/
def preemptState (c : PreCfg) (speed : Nat) : PreSt :=
  if !c.enable then .disabled else if !speedPreempts speed then .suspended else if c.verify then .verifying else .active

/-- A flip that changes an admin-up port's speed or lanes (R137), or moves its speed across 100 Gb/s (R140). -/
def portReshaped (p : Nat) (old new : Option PortCfg) (s : State) : State :=
  match old, new with
  | some o, some n =>
    let pre := (cfg s).preempt.getD p {}
    let s1 := if pre.enable && speedPreempts o.speed != speedPreempts n.speed then
        updPort p (fun x => { x with pre := preemptState { pre with verify := true } n.speed, verifyTries := 0, verifyAt := rawNs s }) s else s
    if !(port s p).admin || (o.speed = n.speed && o.kind = n.kind && o.first = n.first && o.count = n.count && o.sub = n.sub) then s1
    else match (port s p).link with
      | .up => updPort p (fun x => { x with clearSince := rawNs s }) (enterHeld p s1)
      | .held => updPort p (fun x => { x with since := rawNs s, clearSince := rawNs s }) s1
      | .comingUp => updPort p (fun x => { x with clearSince := rawNs s }) (enterComingUp p s1)
      | _ => s1
  | _, _ => s

/-- PORT_CFG at a flip. -/
def portCfgSide (e : Env) (s : State) : State := portReshaped (ePort e) ((cfgAt s (!s.quad.parity)).ports.get? (ePort e)) ((cfg s).ports.get? (ePort e)) s

/-- PORT_CFG (R123). -/
def execPortCfg (e : Env) (s : State) : Host.Outcome State Fault Refusal :=
  .next (runStaged (.portCfg e) 0x0301 (lenIs 12) (portCfgClaims e s) (portCfgChk e) id e s)

/-- Ports of a slice that are admin-up, other than `p`. -/
def otherUp (s : State) (p : Nat) : Bool := (List.range 32).any (fun j => decide (32 * (p / 32) + j ≠ p) && (port s (32 * (p / 32) + j)).admin)

/-- PORT_ADMIN up: DOWN, with the port front's switch closed; it is On once PSW_ACK shows so (R35, R67, R136). -/
def adminUp (p : Nat) (s : State) : State :=
  let s1 := updDom (p / 32) (fun d => if d.st = .run then d else { d with pswEn := true, trans := .wakePsw }) s
  updPort p (fun x => if x.admin then x else { x with admin := true, link := .down, since := rawNs s, lfDown := false }) s1

/-- The checks of PORT_ADMIN_UP (R106). -/
def portAdminUpChk (e : Env) (s : State) : Chk :=
  let p := e.payload
  { present := portThere s (ePort e) 1024, fields := [below p 0 2 1024, (2, byteAt p 2 = 1), zeroAt p 3 1]
    busy := if armedUnit s [⟨0x0302, ePort e, 0⟩] then some 1 else none
    st := if (cfg s).ports.has (ePort e) then none else some 0, pair := pairChk (portPairs s (cfg s) (ePort e)) }

/-- PORT_ADMIN up (R106). -/
def execPortAdminUp (e : Env) (s : State) : Host.Outcome State Fault Refusal :=
  .next (runOk 0x0302 (lenIs 4) (portAdminUpChk e s) e (fun _ => []) (adminUp (ePort e)) s)

/-- A guarded frame is queued for a port or recorded on it (PORT_ADMIN). -/
def guardedAt (s : State) (p : Nat) : Bool :=
  (List.range 16).any (fun q => (queueOf s (qid p q)).any (guardedCopy s)) || (unbegun s p).any (guardedCopy s) || (port s p).express.isSome
    || (port s p).preemptable.isSome || (slice s (p / 32)).doneLog.any (fun d => decide (d.localPort = p % 32))

/-- The reason for which PORT_ADMIN down is refused. -/
def adminDownRefused (s : State) (p : Nat) : Bool :=
  (port s p).admin && !otherUp s p
    && ((List.range 32).any (fun j => guardedAt s (32 * (p / 32) + j)) || !(slice s (p / 32)).den.isEmpty)

/-- PORT_ADMIN down (R137): stomp, flush the unguarded, request LF; the port front goes Off with its last port (R35). -/
def adminDown (p : Nat) (s : State) : State :=
  if !(port s p).admin then s
  else
    let s1 := flushAll p (stopTransmit p s)
    let s2 := updPort p (fun x => { x with admin := false, link := .down, since := rawNs s, lfDown := true }) s1
    let s3 := leaveDomain p (rebalancePort p (linkWake p s2))
    if otherUp s p then s3
    else updDom (p / 32) (fun d => { d with st := .off, trans := .none, pswEn := false }) { s3 with ports := s3.ports.mapV (fun k x => if k / 32 = p / 32 then { x with lfDown := false } else x) }

/-- The checks of PORT_ADMIN_DOWN (R137). -/
def portAdminDownChk (e : Env) (s : State) : Chk :=
  let p := e.payload
  { present := portThere s (ePort e) 1024, fields := [below p 0 2 1024, (2, byteAt p 2 = 0), zeroAt p 3 1]
    busy := if armedUnit s [⟨0x0302, ePort e, 0⟩] then some 1 else none }

/-- PORT_ADMIN down (R137). -/
def execPortAdminDown (e : Env) (s : State) : Host.Outcome State Fault Refusal :=
  .next (runCmd 0x0302 (lenIs 4) (portAdminDownChk e s) e
    (fun s => if adminDownRefused s (ePort e) then respond e 0x0302 (refusedV 1) s else respond e 0x0302 (okV []) (adminDown (ePort e) s)) s)

/-- LF[j] is requested for a port (R136, R137, R144, R480): after PORT_ADMIN down while the port front stays On. -/
def lfRequested (s : State) (p : Nat) : Bool :=
  (port s p).lfDown || ((port s p).admin && (slice s (p / 32)).denLf)

/-- Response data of PORT_STATUS. -/
def portStatusData (s : State) (p : Nat) : List Byte :=
  let x := port s p
  let link := match x.link with | .down => 0 | .comingUp => 1 | .up => 2 | .held => 3 | .flushed => 4
  let pre := match x.pre with | .disabled => 0 | .verifying => 1 | .active => 2 | .failed => 3 | .suspended => 4
  let paused := sumOf (fun k => match x.paused.get? k with | some t => if rawNs s < t then 2 ^ k else 0 | none => 0) (List.range 8)
  let left := if x.link = .held then (x.holdUs * 1000 - (rawNs s - x.since)) / 1000 else 0
  leB 1 (b2n x.admin) ++ leB 1 link ++ leB 1 (b2n x.localFault + 2 * b2n x.remoteFault + 4 * b2n (lfRequested s p))
    ++ leB 1 (match (cfg s).ports.get? p with | some y => y.speed | none => 0) ++ leB 1 pre ++ leB 1 (b2n x.lpiTx.isSome + 2 * b2n x.lpiRx.isSome)
    ++ leB 1 paused ++ leB 1 (b2n x.express.isSome + 4 * b2n x.preemptable.isSome) ++ leB 4 left

/-- The checks of PORT_STATUS (R136). -/
def portStatusChk (e : Env) (s : State) : Chk :=
  { present := portThere s (ePort e) 1024, fields := [below e.payload 0 2 1024], st := if (cfg s).ports.has (ePort e) then none else some 0 }

/-- PORT_STATUS (R136). -/
def execPortStatus (e : Env) (s : State) : Host.Outcome State Fault Refusal :=
  .next (runOk 0x0303 (lenIs 2) (portStatusChk e s) e
    (fun s => portStatusData s (ePort e)) id s)

/-- µs of low-power idle of the span that still runs (LPI_TX_TIME and LPI_RX_TIME). -/
def lpiRunning (s : State) (t : Option Nat) : Nat := match t with
  | some t => (rawNs s - t) / 1000
  | none => 0

/-- Counter `i` of a port or slice as it reads. -/
def portCounter (s : State) (scope id i : Nat) : Nat :=
  if scope = 0 then (ctrOf s (pCtr id i) + (if i = 21 then lpiRunning s (port s id).lpiTx else if i = 22 then lpiRunning s (port s id).lpiRx else 0)) % 2 ^ 64
  else ctrOf s (sCtr id i)

/-- What PORT_COUNTERS clears (R507): every counter it reads with CLEAR, else the maximum and high-water counters alone. -/
def portCountersRead (scope id : Nat) (clear : Bool) (s : State) : State :=
  let fam : CtrFam := if scope = 0 then .port else .slice
  let mark := if scope = 0 then 26 else 1
  let s1 := clearCtrs (fun c => decide (c.fam = fam) && decide (c.unit = id) && (clear || decide (c.idx = mark))) s
  if clear && scope = 0 then updPort id (fun x => { x with lpiTx := x.lpiTx.map (fun _ => rawNs s), lpiRx := x.lpiRx.map (fun _ => rawNs s) }) s1 else s1

/-- The checks of PORT_COUNTERS (R507). -/
def portCountersChk (e : Env) (s : State) : Chk :=
  let p := e.payload
  let scope := byteAt p 0
  let id := fld p 2 2
  { present := if scope = 0 then portThere s id 1088 else decide (32 ≤ id) || decide (id < nSlices s)
    fields := [below p 0 1 2, below p 1 1 2, below p 2 2 (if scope = 0 then 1088 else 32)] }

/-- PORT_COUNTERS (R507). -/
def execPortCounters (e : Env) (s : State) : Host.Outcome State Fault Refusal :=
  let p := e.payload
  let scope := byteAt p 0
  let id := fld p 2 2
  .next (runOk 0x0304 (lenIs 4) (portCountersChk e s) e
    (fun s => (List.range (if scope = 0 then 28 else 20)).flatMap (fun i => leB 8 (portCounter s scope id i)))
    (portCountersRead scope id (bitN (byteAt p 1) 0)) s)

/-- STATE for a port that is not configured. -/
def unconfigured (s : State) (p : Nat) : Option Nat := if (cfg s).ports.has p then none else some 0

/-- A change of MODE forgets the pauses of the old one (R138; log 36). -/
def fcChanged (p : Nat) (old new : Nat) (s : State) : State := if old = new then s else updPort p (fun x => { x with paused := [], xoff := [] }) s

/-- PORT_FC at a flip. -/
def portFcSide (e : Env) (s : State) : State := fcChanged (ePort e) ((cfgAt s (!s.quad.parity)).fc.getD (ePort e) {}).mode (fcOf s (ePort e)).mode s

/-- The checks of PORT_FC (R138, R139). -/
def portFcChk (e : Env) (s : State) : Chk :=
  let p := e.payload
  { present := portThere s (ePort e) 1024
    fields := [below p 0 2 1024, below p 2 1 3, (3, byteAt p 2 = 2 || byteAt p 3 = 0), below p 4 1 2, zeroAt p 5 1, within p 6 2 1 65535,
      within p 8 4 1 (nCells s), (12, fld p 12 4 < fld p 8 4), within p 16 2 1 (fld p 6 2), zeroAt p 18 2]
    st := unconfigured s (ePort e) }

/-- PORT_FC (R138, R139). -/
def execPortFc (e : Env) (s : State) : Host.Outcome State Fault Refusal :=
  let p := e.payload
  .next (runStaged (.portFc e) 0x0305 (lenIs 20) [⟨0x0305, ePort e, 0⟩]
    (portFcChk e) (fcChanged (ePort e) (fcOf s (ePort e)).mode (byteAt p 2)) e s)

/-- The preemption state after a change of PORT_PREEMPT (R140): it starts anew when ENABLE or VERIFY changes. -/
def preemptChanged (p : Nat) (old new : PreCfg) (s : State) : State :=
  if old.enable = new.enable && old.verify = new.verify then s
  else
    let speed := match (cfg s).ports.get? p with | some x => x.speed | none => 0
    updPort p (fun x => { x with pre := preemptState new speed, verifyTries := 0, verifyAt := rawNs s }) s

/-- PORT_PREEMPT at a flip. -/
def portPreemptSide (e : Env) (s : State) : State :=
  preemptChanged (ePort e) ((cfgAt s (!s.quad.parity)).preempt.getD (ePort e) {}) ((cfg s).preempt.getD (ePort e) {}) s

/-- The checks of PORT_PREEMPT (R140). -/
def portPreemptChk (e : Env) (s : State) : Chk :=
  let p := e.payload
  let x := (cfg s).ports.get? (ePort e)
  let slow := match x with | some y => decide (y.kind ≠ 0) && decide (y.speed = 1) | none => false
  let fast := match x with | some y => !speedPreempts y.speed | none => false
  { present := portThere s (ePort e) 1024
    fields := [below p 0 2 1024, (2, decide (byteAt p 2 < 2) && !(byteAt p 2 = 1 && fast)), below p 3 1 2,
      (4, decide (byteAt p 4 < 4) && !(byteAt p 2 = 1 && slow && decide (0 < byteAt p 4))), zeroAt p 5 1, within p 8 2 1 128]
    st := unconfigured s (ePort e) }

/-- PORT_PREEMPT (R140). -/
def execPortPreempt (e : Env) (s : State) : Host.Outcome State Fault Refusal :=
  .next (runStaged (.portPreempt e) 0x0306 (lenIs 10) [⟨0x0306, ePort e, 0⟩]
    (portPreemptChk e)
    (fun t => preemptChanged (ePort e) ((cfg s).preempt.getD (ePort e) {}) ((cfg t).preempt.getD (ePort e) {}) t) e s)

/-- TW of a port in ns: as set, or the default of its rate (R141; free value, log 15). -/
def twOf (s : State) (p : Nat) : Nat :=
  let tw := ((cfg s).eee.getD p {}).tw
  if tw ≠ 0 then tw else Config.twDefault (match (cfg s).ports.get? p with | some x => x.speed | none => 0)

/-- The checks of PORT_EEE (R141). -/
def portEeeChk (e : Env) (s : State) : Chk :=
  let p := e.payload
  let speed := match (cfg s).ports.get? (ePort e) with | some x => x.speed | none => 2
  { present := portThere s (ePort e) 1024
    fields := [below p 0 2 1024, (2, decide (byteAt p 2 < 2) && (byteAt p 2 = 0 || speedEee speed)), zeroAt p 3 1, within p 4 2 1 65535, zeroAt p 6 2,
      (8, fld p 8 4 = 0 || decide (Config.twDefault speed ≤ fld p 8 4))]
    st := unconfigured s (ePort e) }

/-- PORT_EEE (R141). -/
def execPortEee (e : Env) (s : State) : Host.Outcome State Fault Refusal :=
  .next (runStaged (.portEee e) 0x0307 (lenIs 12) [⟨0x0307, ePort e, 0⟩]
    (portEeeChk e) id e s)

/-- The checks of PORT_WAKE_FILTER (R145). -/
def portWakeFilterChk (e : Env) (s : State) : Chk :=
  let p := e.payload
  { present := decide (32 ≤ byteAt p 0) || decide (byteAt p 0 < nSlices s)
    fields := [below p 0 1 32, below p 1 1 16, within p 6 1 0 96, below p 7 1 4, zeroAt p 44 4] }

/-- PORT_WAKE_FILTER (R145). -/
def execPortWakeFilter (e : Env) (s : State) : Host.Outcome State Fault Refusal :=
  let p := e.payload
  .next (runStaged (.portWakeFilter e) 0x0308 (lenIs 48) [⟨0x0308, byteAt p 0, byteAt p 1⟩]
    (portWakeFilterChk e) id e s)

/-- The checks of PORT_LINK_HOLD (R136, R137). -/
def portLinkHoldChk (e : Env) (s : State) : Chk :=
  let p := e.payload
  { present := portThere s (ePort e) 1024, fields := [below p 0 2 1024, within p 4 4 0 1000000, within p 8 4 0 1000000]
    st := unconfigured s (ePort e) }

/-- PORT_LINK_HOLD (R136, R137). -/
def execPortLinkHold (e : Env) (s : State) : Host.Outcome State Fault Refusal :=
  .next (runStaged (.portLinkHold e) 0x0309 (lenIs 12) [⟨0x0309, ePort e, 0⟩]
    (portLinkHoldChk e) id e s)

end Sys2Proof.Machine
end

