-- ==== Sys2Proof/Machine/Rx.lean ====
section
/-! DEFINITION. Receive: the MAC's judgement, pause and PFC, wake filters, the den, stray words; low-power idle and preemption verification
(R126 to R128, R138 to R146, R506). -/

namespace Sys2Proof.Machine

/-- A stamp in 1/16 ns of TIME, rounded to the nearest (R50): `tEdge` and `hint` in 1/16 ns, `lat` in 1/256 ns, `rate` in Mbit/s; `sgn` is -1 on
receive and 1 on transmit. -/
def stampOf (tEdge : Int) (hint b rate : Nat) (lat : Int) (sgn : Int) : Int :=
  let r : Int := rate
  let num : Int := tEdge * 16 * r + sgn * lat * r + sgn * (hint : Int) * 16 * r + (b : Int) * 8000 * 256
  (2 * num + 16 * r) / (2 * 16 * r)

/-- 1/16 ns from one bus word to the next (R79, R152). -/
def tickSix (s : State) : Nat := (s.build.owlHz + 16 * 10 ^ 9 - 1) / s.build.owlHz

/-- t_edge of a SOF word (R153, R154): what the phase sampler of slice `sl` measured, `edge` 1/16 ns of local TIME after the latest bus word. No edge lies
beyond the next bus word; one before a step of TIME was measured before it. -/
def sampledEdge (s : State) (sl : Nat) (edge : Int) : Int :=
  let e := min edge (tickSix s)
  let t := localSix s sl + e
  match s.time.stepped with
  | some (raw, amount) => if (raw16 s / 4096 : Int) + e < (raw / 4096 : Nat) then t - amount else t
  | none => t

/-- The epoch of a frame whose first byte was stamped at an edge (R111): the one in force then. -/
def epochAt (s : State) (edge : Int) : Bool :=
  match s.quad.flipAt with
  | some raw => if (raw16 s / 4096 : Int) + min edge (tickSix s) < (raw / 4096 : Nat) then !s.quad.parity else s.quad.parity
  | none => s.quad.parity

/-- An EtherType directly after the addresses. -/
def etherType (data : List Byte) : Nat := nfld data 12 2

/-- MAX_FRAME of a port (R126). -/
def maxFrame (c : Cfg) (p : Nat) : Nat := match c.ports.get? p with
  | some x => x.maxFrame
  | none => 16384

/-- The cases of R127, by the port counter of each: 2 FCS, 3 runt, 4 oversize, 5 coding, 6 fragment, 7 pause, 8 PFC, 0 good. A frame that a new SOF cuts
off has no FCS to judge: it is a runt or oversize by what has come of it, else a fragment (DEDUCED, log 100). -/
def rxCase (c : Cfg) (f : RxFrame) : Nat :=
  let n := f.bytes.length
  if f.ending = .newSof then if n < 64 then 3 else if maxFrame c f.port < n then 4 else 6
  else if f.bytes.drop (n - 4) ≠ fcsOf (f.bytes.take (n - 4)) then 2
  else if n < 64 then 3
  else if maxFrame c f.port < n then 4
  else if f.ending = .codingErr then 5
  else if etherType f.bytes = 0x8808 && nfld f.bytes 14 2 = 1 then 7
  else if etherType f.bytes = 0x8808 && nfld f.bytes 14 2 = 0x0101 then 8
  else 0

/-- The outcome that the meter tap reports of a case of R127 (R135). -/
def rxOutcome (k : Nat) : Nat := if k = 0 then 0 else if 7 ≤ k then 7 else k - 1

/-- ns that a number of quanta lasts on a port (R138). -/
def quantaNs (s : State) (p quanta : Nat) : Nat := let r := rateOf s (cfg s) p; if r = 0 then 0 else quanta * 512 * 1000 / r

/-- Pause a key of a port for some quanta; 0 resumes (R138). -/
def pauseKey (p k quanta : Nat) (s : State) : State :=
  updPort p (fun x => { x with paused := if quanta = 0 then x.paused.del k else x.paused.set k (rawNs s + quantaNs s p quanta) }) s

/-- Act on a pause frame (R138). -/
def actPause (p : Nat) (data : List Byte) (s : State) : State :=
  if (fcOf s p).rxHonor && (fcOf s p).mode = 1 then pauseKey p 0 (nfld data 16 2) s else s

/-- Act on a PFC frame: the priorities it names, of those enabled (R138). -/
def actPfc (p : Nat) (data : List Byte) (s : State) : State :=
  if (fcOf s p).rxHonor && (fcOf s p).mode = 2 then
    (List.range 8).foldl (fun s i => if bitN (nfld data 16 2) i && bitN (fcOf s p).pfcEnable i then pauseKey p i (nfld data (18 + 2 * i) 2) s else s) s
  else s

/-- A wake-pattern filter matches a frame (R145). -/
def filterMatches (f : WakeFilter) (data : List Byte) : Bool :=
  if f.magic then
    let want := List.replicate 6 (0xFF : Byte) ++ (List.replicate 16 (f.pattern.take 6)).flatten
    let d := data.take 128
    (List.range 128).any (fun i => decide (i + 102 ≤ d.length) && decide (sub d i 102 = want))
  else (List.range 32).all (fun i => !bitN f.mask i || (decide (f.offset + i < data.length) && decide (data.getD (f.offset + i) 0 = f.pattern.getD i 0)))

/-- Some enabled filter of the port's slice matches (R146). -/
def wakeMatches (s : State) (p : Nat) (data : List Byte) : Bool :=
  (List.range 16).any (fun i => match (cfg s).wake.get? (p / 32 * 16 + i) with
    | some f => f.enable && bitN f.portMask (p % 32) && filterMatches f data
    | none => false)

/-- Bytes in use in a slice's den. -/
def denFill (s : State) (sl : Nat) : Nat := sumOf DenFrame.size (slice s sl).den

/-- The slice sleeps so that its ports filter what wakes it (R146). -/
def sliceFilters (s : State) (sl : Nat) : Bool := (dom s (32 + sl)).st = .doze || s.pwr.block = .hibernate

/-- Set a high-water counter. -/
def raiseCtr (c : Ctr) (v : Nat) (s : State) : State := if ctrOf s c < v then { s with ctr := s.ctr.set c v } else s

/-- The tap's report of a frame that is lost before classification; a bad one has been reported by the MAC (R135). -/
def meterLost (f : Frame) (s : State) : State := meterFrame f 0 noFlow s

/-- A frame goes to the den, or is dropped whole (R142, R144). -/
def toDen (f : Frame) (s : State) : State :=
  let sl := sliceOf s f.portIn
  let size := f.data.length + 4 + 16
  if denFill s sl + size ≤ 1048576 then
    raiseCtr (sCtr sl 1) (denFill s sl + size) (askWake (32 + sl) (updSlice sl (fun x => { x with den := x.den ++ [⟨f, size⟩] }) s))
  else
    meterLost f
      (bump (sCtr sl 0) (updSlice sl (fun x => { x with denLf := x.denLf || !coreTakes s sl }) s))

/-- Bytes in a slice's ingress staging FIFO (R41): the frames that wait for classification, DA through FCS, and what is not yet written of the frames
that wait for their cells. That a frame takes its own bytes there and no header is a DESIGN CHOICE (log 102). -/
def stagingFill (s : State) (sl : Nat) : Nat :=
  sumOf (fun f => f.data.length + 4) (slice s sl).ingress + sumOf (fun k => wireLen k.frame.data - 256 * k.cells.length) (slice s sl).toWrite

/-- A frame goes to the slice core, or is discarded when the staging FIFO is full (R41). -/
def toIngress (f : Frame) (s : State) : State :=
  let sl := sliceOf s f.portIn
  let n := f.data.length + 4
  if stagingFill s sl + n ≤ 65536 then updSlice sl (fun x => { x with ingress := x.ingress ++ [f] }) s
  else
    let s1 := meterLost f (bump (sCtr sl 3) s)
    if dueMs s (slice s sl).overrunAt then sliceCause sl 1 (updSlice sl (fun x => { x with overrunAt := some (rawNs s) }) s1) else s1

/-- A frame that the MAC passes on: to the slice core, to the den, or discarded by the wake filters (R127, R142, R143, R146). The filters look at the
frame's bytes without its FCS (DESIGN CHOICE, log 102). -/
def passOn (f : Frame) (s : State) : State :=
  let sl := sliceOf s f.portIn
  if coreTakes s sl && (slice s sl).den.isEmpty then toIngress f s
  else if sliceFilters s sl && (match (cfg s).ports.get? f.portIn with | some x => x.wakeFiltered | none => false) && !wakeMatches s f.portIn f.data then
    meterLost f (bump (pCtr f.portIn 20) s)
  else toDen f s

/-- A port receives: configured, admin-up, its port front On. -/
def receives (s : State) (p : Nat) : Bool := (cfg s).ports.has p && (port s p).admin && decide ((dom s (p / 32)).st = .run)

/-- The frame as the port front stamps it (R50, R111, R155). -/
def rxStamped (f : RxFrame) (bad : Bool) (s : State) : Frame :=
  { portIn := f.port, data := f.bytes.take (f.bytes.length - 4)
    stamp := unsignedN 68 (stampOf (sampledEdge s (f.port / 32) f.edge) f.hint f.sofIndex (rateOf s (cfg s) f.port) (port s f.port).rxLat (-1))
    stampFlags := stampFlags s f.port, epoch := epochAt s f.edge, bad, rxLen := f.bytes.length }

/-- RX_FRAME (R127): judged at its EOF word. A bad frame goes on only where a cut-through copy of it may have started (log 37). -/
def execRxFrame (f : RxFrame) (s0 : State) : Host.Outcome State Fault Refusal :=
  if !receives s0 f.port then .next s0
  else
    let p := f.port
    let s := countLoad p false f.bytes.length s0
    let k := rxCase (cfg s) f
    let n := min f.bytes.length (maxFrame (cfg s) p + 1)
    let cut := { f with bytes := f.bytes.take n }
    if k = 7 || k = 8 then
      .next (meterEvent p false n 7 noFlow (bump (pCtr p k) (if k = 7 then actPause p f.bytes s else actPfc p f.bytes s)))
    else if k = 0 then .next (passOn (rxStamped f false s) (addCtr (pCtr p 1) n (bump (pCtr p 0) s)))
    else
      let s1 := meterEvent p false n (rxOutcome k) noFlow (bump (pCtr p k) s)
      if !(cfg s).cut.isEmpty && coreTakes s (p / 32) && (slice s (p / 32)).den.isEmpty && decide (64 ≤ f.bytes.length) then
        .next (toIngress (rxStamped cut true s) s1)
      else .next s1

/-- STRAY_WORD (R506). -/
def execStrayWord (sl lane sub : Nat) (s : State) : Host.Outcome State Fault Refusal :=
  let used := (cfg s).ports.any (fun x => decide (x.1 / 32 = sl) && decide (x.2.kind = 0) && decide (x.2.first ≤ lane) && decide (lane < x.2.first + x.2.count)
    && decide ((if x.2.count = 1 then x.2.sub else 0) = sub) && (port s x.1).admin)
  .next (if sl < nSlices s && lane < 16 && decide ((dom s sl).st = .run) && !used then bump (sCtr sl (4 + lane)) s else s)

/-- PAUSE_EXPIRY (R138). -/
def execPauseExpiry (p prio : Nat) (s : State) : Host.Outcome State Fault Refusal :=
  .next (match (port s p).paused.get? prio with
    | some t => if t ≤ rawNs s then updPort p (fun x => { x with paused := x.paused.del prio }) s else s
    | none => s)

/-- DEN_DRAIN: the next frame of the den passes to the slice core in arrival order (R143); the den's LF request ends below half full (R144). -/
def execDenDrain (sl : Nat) (s : State) : Host.Outcome State Fault Refusal :=
  .next (if !coreTakes s sl then s
    else match (slice s sl).den with
      | [] => updSlice sl (fun x => { x with denLf := false }) s
      | d :: rest =>
        if 65536 < stagingFill s sl + d.frame.data.length + 4 then s
        else
          let s1 := toIngress d.frame (updSlice sl (fun x => { x with den := rest }) s)
          if denFill s1 sl < 524288 then updSlice sl (fun x => { x with denLf := false }) s1 else s1)

/-- XOFF_REFRESH: XOFF again every REFRESH quanta while the count stays above XON_CELLS (R139). -/
def execXoffRefresh (p prio : Nat) (s : State) : Host.Outcome State Fault Refusal :=
  let f := fcOf s p
  .next (match (port s p).xoff.get? prio with
    | some t =>
      if decide (f.xon < ingressCount s p prio) && decide (t + quantaNs s p f.refresh ≤ rawNs s) then
        sendPause p f.quanta (if f.mode = 1 then none else some prio) (updPort p (fun x => { x with xoff := x.xoff.set prio (rawNs s) }) s)
      else s
    | none => s)

/-- LPI_ENTER (R141). -/
def execLpiEnter (p : Nat) (s : State) : Host.Outcome State Fault Refusal :=
  let f := (cfg s).eee.getD p {}
  let x := port s p
  .next (if f.enable && decide (x.link = .up) && x.lpiTx.isNone && portEmpty s p && decide (x.emptySince + f.idle * 1000 ≤ rawNs s) then
      emit (.lpi p true) (updPort p (fun x => { x with lpiTx := some (rawNs s) }) s)
    else s)

/-- A gate of the port opens within the TW from now on (R141): the instant TW before its opening has come. -/
def gateOpensSoon (s : State) (p : Nat) : Bool :=
  let t := timeSixteenths s
  p ∈ (cfg s).gateOn && (List.range 16).any (fun q => opensWithin (gateRt s p) q t (16 * twOf s p))

/-- Leave transmit low-power idle: no frame starts before TW has passed (R141). -/
def leaveLpi (p : Nat) (s : State) : State :=
  if (port s p).lpiTx.isNone then s else updPort p (fun x => { x with lpiReady := rawNs s + twOf s p }) (endLpi p s)

/-- LPI_EXIT (R141). -/
def execLpiExit (p : Nat) (s : State) : Host.Outcome State Fault Refusal :=
  .next (if (port s p).lpiTx.isSome && (!portEmpty s p || gateOpensSoon s p) then leaveLpi p s else s)

/-- PARTNER_LPI (R141). -/
def execPartnerLpi (p : Nat) (level : Bool) (s : State) : Host.Outcome State Fault Refusal :=
  .next (match level, (port s p).lpiRx with
    | true, none => updPort p (fun x => { x with lpiRx := some (rawNs s) }) s
    | false, some t => addCtr (pCtr p 22) ((rawNs s - t) / 1000) (updPort p (fun x => { x with lpiRx := none }) s)
    | _, _ => s)

/-- Queue a verify (tag 5) or a response mPacket (tag 6) of IEEE 802.3br, 60 zero bytes, ahead of everything that has not started (R140). -/
def sendVerify (p tag : Nat) (s : State) : State := updPort p (fun x => { x with fifo := .own (padded []) tag :: x.fifo }) s

/-- PREEMPT_VERIFY: the partner's response makes preemption ACTIVE, its verify frame is answered while preemption is enabled; else a verify frame goes at
each VERIFY_TIME, and after 3 of them verification has FAILED (R140). -/
def execPreemptVerify (p : Nat) (event : VerifyEvent) (s : State) : Host.Outcome State Fault Refusal :=
  let x := port s p
  let due := x.verifyTries = 0 || decide (x.verifyAt + ((cfg s).preempt.getD p {}).verifyTime * 1000000 ≤ rawNs s)
  .next (if event = .request then if (((cfg s).preempt.getD p {}).enable) && decide (x.link = .up) then sendVerify p 6 s else s
    else if x.pre ≠ .verifying then s
    else if event = .response then updPort p (fun x => { x with pre := .active }) s
    else if !due then s
    else if x.verifyTries < 3 then sendVerify p 5 (updPort p (fun x => { x with verifyTries := x.verifyTries + 1, verifyAt := rawNs s }) s)
    else updPort p (fun x => { x with pre := .failed }) s)

end Sys2Proof.Machine
end

