-- ==== Sys2Proof/Machine/Classify.lean ====
section
/-! DEFINITION. Classification in the ingress slice core: parse, domain ports, engines, lookups, stream filters, redundancy nodes, forwarding, learning
(R24, R26, R42, R111, R186, R213, R257 to R270, R287 to R289, R326, R342 to R352). -/

namespace Sys2Proof.Machine

/-! What a frame enters E0 with. -/

/-- The outermost VLAN header of a frame. -/
def firstTag (hs : List Hdr) : Option Nat := (hdrAt hs 2 0).map Hdr.off

/-- The VLAN header that the ingress port uses (R258). -/
def usedTag (c : Cfg) (portIn : Nat) (data : List Byte) (hs : List Hdr) : Option Nat :=
  (firstTag hs).bind (fun h =>
    if nfld data h 2 = 0x8100 || (nfld data h 2 = 0x88A8 && (c.portVlan.getD portIn {}).sTag) then some h else none)

/-- M7 (R213): the first PTP entry, with the last UDP entry before it. -/
def ptpWord (hs : List Hdr) : Nat :=
  match hs.findIdx? (fun h => decide (h.id = 0x0B)) with
  | none => 0
  | some i =>
    let po := (hs.map Hdr.off).getD i 0
    let before := hs.take i
    match before.findIdx? (fun h => decide (h.id = 9)) with
    | none => po + 128
    | some j =>
      let v6 := (before.take j).any (fun h => decide (h.id = 7))
      po + 128 + ((before.map Hdr.off).getD j 0) * 256 + 32768 + b2n v6 * 65536

/-- M0 to M31 as a frame enters E0 (R211 to R213, R272). -/
def entryWords (c : Cfg) (f : Frame) (parse : ParseRes) : List Word :=
  let pcp := match usedTag c f.portIn f.data parse.hdrs with
    | some h => byteAt f.data (h + 2) / 32
    | none => (c.portVlan.getD f.portIn {}).pcp
  let st := stampBits f.stamp f.stampFlags
  let q := (qmapOf c f.portIn).prioQueue.getD pcp 0
  [f.portIn + st % 256 * 65536 + b2n f.epoch * 2 ^ 24, st / 256, 0, 0, noFlow, q + pcp * 16, 0, ptpWord parse.hdrs].map (BitVec.ofNat 32) ++ List.replicate 24 0

/-- Parse counters of a frame (PARSE_COUNTERS). -/
def countParse (sl : Nat) (r : ParseRes) (s : State) : State :=
  let b := fun (i : Nat) (on : Bool) (s : State) => if on then bump ⟨.parse, sl, 0, i⟩ s else s
  b (3 + r.reason) (r.reason ≠ 0) (b 3 r.malformed (b 2 r.drop (b 1 r.part (b 0 true s))))

/-- A frame as discards before the forwarding decision see it. -/
def bareC (f : Frame) (m : List Word) (parse : ParseRes) : Classified :=
  { frame := f, m, copies := [], mirrors := [], single := false, flow := mWord m 4 % 2 ^ 30, guarded := bitN (mWord m 4) 30, seq := none, flood := false, cut := false
    vid := 0, vtag := none, sezal := false, learn := none, parse, node := none }

/-- The tap's report of a received frame; a bad one has been reported by the MAC (R135). -/
def meterRx (f : Frame) (flow : Nat) (s : State) : State := meterFrame f 0 flow s

/-- A Sezal tag stands after the SA (R347). -/
def sezalTagged (s : State) (data : List Byte) : Bool := 28 ≤ data.length && decide (nfld data 12 2 = s.sez.etherType)

/-- The same of a frame that a domain port takes off the data path: a Sezal control message counts as MAC control (R352, R387). -/
def meterDomain (f : Frame) (s : State) : State :=
  meterFrame f (if sezalTagged s f.data && bitN (byteAt f.data 15) 1 then 7 else 0) noFlow s

/-- Discard a classified frame before admission (R26, R296): its flow's counter when it is guarded and good, and capture point 4 under a REASON. -/
def preDrop (sl : Nat) (reason : Option Nat) (c : Classified) (s : State) : State :=
  let s1 := txLost c.frame (if c.guarded && !c.frame.bad then flowCount c.flow sl 2 s else s)
  match reason with
  | some r => capDrop sl r c none s1
  | none => s1

/-! Domain ports. -/

/-- The sending instance is in ID_CONFLICT: the neighbour on the port is the higher UID that claims SRC_INST (R349, R356). -/
def conflictedSender (s : State) (p src : Nat) : Bool :=
  match s.sez.rivals.get? src with
  | some r => decide ((s.sez.adj.getD p {}).inst = src) && decide ((s.sez.adj.getD p {}).uid = r.1)
  | none => false

/-- Add one to a counter of SEZAL_STATUS. -/
def sezCount (i : Nat) (s : State) : State := bump ⟨.sezal, 0, 0, i⟩ s

/-- The first check of R349 that a tagged frame fails, by its counter: 0 BAD_VERSION, 1 DOMAIN_MISMATCH, 2 LOOP_DROP. -/
def tagFault (s : State) (p : Nat) (d : List Byte) : Option Nat :=
  let route := nfld d 16 4
  let src := bitsN route 31 23
  if byteAt d 14 ≠ 1 || 8 ≤ byteAt d 15 || route % 64 ≠ 0 || 2 ^ 30 ≤ nfld d 20 4 then some 0
  else if nfld d 26 2 ≠ s.sez.domainNum then some 1
  else if src = s.sez.inst && !bitN (byteAt d 15) 1 then some 2
  else if conflictedSender s p src then some 2
  else none

/-- A control message that is none of R353: too short for MSG and LEN, or of an unknown MSG. -/
def unknownCtl (d : List Byte) : Bool := d.length < 30 || byteAt d 28 = 0 || 9 < byteAt d 28

/-- What a domain port does with a received frame before classification (R346, R349, R352): nothing, a discard under a counter, or off the data path. -/
inductive DomainIn where
  | pass | drop (counter : Nat) | control
deriving DecidableEq, Repr

/-- Judge a frame on its ingress port, by its epoch (R345 to R352). -/
def domainIn (s : State) (c : Cfg) (f : Frame) : DomainIn :=
  let d := f.data
  if !c.domPort.has f.portIn then .pass
  else if !sezalTagged s d then (if reservedDa d then .pass else .drop 3)
  else match tagFault s f.portIn d with
  | some i => .drop i
  | none => if bitN (byteAt d 15) 1 then .control else .pass

/-! Stream filters. -/

/-- The stream filter of a slice that is bound to a flow (R289). -/
def filterOf (c : Cfg) (sl flow : Nat) : Option (Nat × StreamFilter) := c.filter.find? (fun x => decide (x.1 / 1024 = sl) && decide (x.2.flow = flow))

/-- What a stream filter says of a frame. -/
inductive FilterOut where
  | pass (data : List Byte)
  | drop (reason : Nat)

/-- The frame with DEI set in its outermost VLAN tag (R288). -/
def withDei (data : List Byte) (hs : List Hdr) : List Byte :=
  match firstTag hs with
  | some h => patch data (h + 2) [(data.getD (h + 2) 0) ||| 0x10]
  | none => data

/-- A policer of a slice judges a frame, by its parameters in force (R287, R288). -/
def policeFrame (sl idx : Nat) (f : Frame) (data : List Byte) (hs : List Hdr) (s : State) : State × FilterOut :=
  let k := sl * 4096 + idx
  match (cfg s).policer.get? k with
  | none => (s, .pass data)
  | some x =>
    let dei := match firstTag hs with
      | some h => bitN (byteAt data (h + 2)) 4
      | none => false
    let r := police x (s.tm.polTokens.getD k ⟨0, 0, 0⟩) (raw16 s / 4096) f.rxLen dei
    let s1 := { s with tm := { s.tm with polTokens := s.tm.polTokens.set k r.2 } }
    let count := fun (i : Nat) => bump ⟨.policer, k, 0, i⟩ s1
    match r.1 with
    | .green => (count 0, .pass data)
    | .red => (count 2, .drop 3)
    | .yellow => if x.yellow = 1 then (bump ⟨.policer, k, 0, 3⟩ (count 1), .drop 4) else if x.yellow = 2 then (count 1, .pass (withDei data hs)) else (count 1, .pass data)

/-- Check a frame of a flow against its slice's stream filter (R289). Its length for MAX_SDU is, as the policer's, the one received (DEDUCED, log 103). -/
def filterFrame (c : Cfg) (sl flow : Nat) (f : Frame) (data : List Byte) (hs : List Hdr) (s : State) : State × FilterOut :=
  match filterOf c sl flow with
  | none => (s, .pass data)
  | some (k, x) =>
    let count := fun (i : Nat) (s : State) => bump ⟨.filter, k, 0, i⟩ s
    let long := x.maxSdu ≠ 0 && x.maxSdu < f.rxLen
    if k ∈ s.tm.blocked then (count 1 s, .drop 5)
    else if long then
      (count 1 (if x.blockOversize then { s with tm := { s.tm with blocked := addTo s.tm.blocked k } } else s), .drop 5)
    else if x.gatePort ≠ 0xFFFF && !gateOpenAt (listsThen (gateRt s x.gatePort) f.stamp) x.gateQ f.stamp then (count 2 s, .drop 6)
    else
      let r := if x.policer = 0xFFFF then (s, .pass data) else policeFrame sl x.policer f data hs s
      match r.2 with
      | .pass d => (count 0 r.1, .pass d)
      | .drop n => (r.1, .drop n)

/-! Sequence numbers and redundancy nodes. -/

/-- The number of a FROM_TAG frame (R326). -/
def tagNumber (kind : Nat) (data : List Byte) (hs : List Hdr) : Option Nat :=
  if kind = 2 then prpNumber data
  else
    let id := if kind = 0 then 3 else if kind = 1 then 5 else 4
    (hdrAt hs id 0).map (fun h => nfld data (h.off + (if kind = 3 then 12 else 4)) 2)

/-- Judge a number against a duplicate entry's window of 64 (R343; log 44): whether it is a duplicate, and the entry after it. -/
def dupJudge (x : DupEntry) (num now : Nat) : Bool × DupEntry :=
  let d := signedN 16 (num + 65536 - x.top.toNat)
  if 0 < d then (false, { x with top := BitVec.ofNat 16 num, window := if 64 ≤ d then 1 else (x.window <<< d.toNat) ||| 1, lastNs := now })
  else if -64 < d then
    if x.window.getLsbD (-d).toNat then (true, { x with lastNs := now })
    else (false, { x with window := x.window ||| BitVec.ofNat 64 (2 ^ (-d).toNat), lastNs := now })
  else (false, { x with top := BitVec.ofNat 16 num, window := 1, lastNs := now })

/-- A node's duplicate table meets a source and number (R343): most recently used last, at most 4 096 entries. -/
def dupTable (l : List DupEntry) (sa num now : Nat) : Bool × List DupEntry :=
  match l.find? (fun x => decide (x.sa = sa)) with
  | some x => let r := dupJudge x num now; (r.1, l.filter (fun y => decide (y.sa ≠ sa)) ++ [r.2])
  | none =>
    let e : DupEntry := ⟨sa, BitVec.ofNat 16 num, 1, now⟩
    (false, (if 4096 ≤ l.length then l.drop 1 else l) ++ [e])

/-- What a redundancy node does with a frame received on one of its ports (R343): whether it is discarded, and the table after it. -/
def nodeIn (n : Nat × PrpNode) (f : Frame) (s : State) : Bool × State :=
  let sa := nfld f.data 6 6
  if n.2.mode = 2 && decide (n.2.mac = sub f.data 6 6) then (true, s)
  else match nodeNumber n.2 f.data with
    | none => (false, s)
    | some k =>
      let r := dupTable (s.flows.dup.getD n.1 []) sa k (rawNs s)
      let s1 := { s with flows := { s.flows with dup := s.flows.dup.set n.1 r.2 } }
      (r.1, if r.1 then bump ⟨.block, n.1, 0, 2⟩ s1 else s1)

/-! Forwarding. -/

/-- A port that a configuration has: a configured port, or a host port. -/
def portExists (c : Cfg) (p : Nat) : Bool := isHostPort p || c.ports.has p

/-- IP addresses, protocol and ports of the frame's headers for a hash: field `i` of HASH_FIELDS (R268), in wire order; empty when the frame lacks it. -/
def hashField (c : Cfg) (f : Frame) (hs : List Hdr) (flow : Nat) (i : Nat) : List Byte :=
  let d := f.data
  let at4 := hdrAt hs 6 0
  let at6 := hdrAt hs 7 0
  let ip := fun (o4 n4 o6 n6 : Nat) => match at4, at6 with
    | some h, _ => sub d (h.off + o4) n4
    | none, some h => sub d (h.off + o6) n6
    | none, none => []
  let l4 := fun (o : Nat) => match hdrAt hs 9 0, hdrAt hs 0x0A 0 with
    | some h, _ => sub d (h.off + o) 2
    | none, some h => sub d (h.off + o) 2
    | none, none => []
  let tag := usedTag c f.portIn d hs
  match i with
  | 0 => sub d 0 6
  | 1 => sub d 6 6
  | 2 => match tag with | some h => beB 2 (nfld d (h + 2) 2 % 4096) | none => []
  | 3 => match tag with | some h => sub d (h + 4) 2 | none => sub d 12 2
  | 4 => ip 12 4 8 16
  | 5 => ip 16 4 24 16
  | 6 => ip 9 1 6 1
  | 7 => l4 0
  | 8 => l4 2
  | 9 => if flow = noFlow then [] else beB 4 flow
  | 10 => beB 2 f.portIn
  | _ => []

/-- CRC-32C over the selected fields in the order of their bits (R268, R433). -/
def frameHash (c : Cfg) (f : Frame) (hs : List Hdr) (flow fields seed : Nat) : Nat :=
  if Nat.land fields 0x7FF = 0 then 0
  else (crc32c (BitVec.ofNat 32 seed) ((setBits 11 fields).flatMap (hashField c f hs flow))).toNat

/-- The member that a LAG sends a frame to (R267 to R269): none when no member carries and the frame is not guarded. -/
def lagPort (s : State) (c : Cfg) (f : Frame) (hs : List Hdr) (flow : Nat) (guarded : Bool) (g : Nat) : Option Nat :=
  match c.lags.get? g with
  | none => none
  | some l =>
    if (carrying s l).isEmpty && !guarded then none
    else match s.tables.buckets.get? g with
      | none => none
      | some bs => bs[frameHash c f hs flow l.hashFields l.seed % 256]?

/-- A forwarding decision: egress ports, LAG ports without a carrying member, and whether it flooded. -/
structure Decision where
  ports : List Nat := []
  lagEmpty : List Nat := []
  /-- A counter of BUF_STATUS SCOPE 3 under which the frame is discarded, with its REASON. -/
  drop : Option (Nat × Nat) := none
  flood : Bool := false
  /-- The decision names one port or LAG. -/
  single : Bool := false
  /-- Ports that the VLAN's egress rules leave out (R258). -/
  vlanDrops : List Nat := []
deriving DecidableEq, Repr

/-- Ports that a flooded or group set leaves out: the ingress port and the members of its LAG (R257). -/
def ingressSide (c : Cfg) (p : Nat) : List Nat :=
  p :: (match lagOf c p with
    | some g => match c.lags.get? g with
      | some l => l.members
      | none => []
    | none => [])

/-- What a frame's forwarding needs: the frame as E1 left it with its headers for the hash, and as it was parsed for the bridge (R257). -/
structure FwdIn where
  c : Cfg
  f : Frame
  /-- The data as received, and the VLAN header that its ingress port uses there. -/
  raw : List Byte
  rawTag : Option Nat
  hs : List Hdr
  flow : Nat
  guarded : Bool

/-- Resolve a port or LAG port (R257, R267). -/
def resolve (s : State) (x : FwdIn) (t : Nat) : Decision :=
  if 1536 ≤ t && t < 1664 then
    match x.c.lags.get? (t - 1536) with
    | none => { drop := some (2, 9) }
    | some _ => match lagPort s x.c x.f x.hs x.flow x.guarded (t - 1536) with
      | some p => { ports := [p], single := true }
      | none => { drop := some (10, 0x0F) }
  else if portExists x.c t then { ports := [t], single := true }
  else { drop := some (2, 9) }

/-- The ports of a multicast group (R257, R265). -/
def groupPorts (s : State) (x : FwdIn) (g : Nat) : Decision :=
  match x.c.mcast.get? g with
  | none => { drop := some (2, 9) }
  | some m =>
    let ls := m.lags.map (fun l => lagPort s x.c x.f x.hs x.flow x.guarded l)
    let ps := (m.members.filter (portExists x.c) ++ ls.filterMap id).foldl (fun l p => if p ∈ ingressSide x.c x.f.portIn then l else addTo l p) []
    { ports := ps, lagEmpty := ((m.lags.zip ls).filter (fun x => x.2.isNone)).map (fun x => 1536 + x.1) }

/-- The VID, FID record and tag use of a frame at the bridge; none when VLAN rules discard it (R258). -/
def bridgeVlan (c : Cfg) (f : Frame) (data : List Byte) (tag : Option Nat) : Option (Nat × Vlan) :=
  let vp := c.portVlan.getD f.portIn {}
  let tci := match tag with
    | some h => nfld data (h + 2) 2 % 4096
    | none => 0
  let untagged := tag.isNone || tci = 0
  if (vp.accept = 1 && untagged) || (vp.accept = 2 && !untagged) then none
  else
    let vid := if untagged then vp.pvid else tci
    if vid = 4095 then none
    else match c.vlans.get? vid with
      | none => none
      | some v => if v.all || decide (f.portIn ∈ v.members) then some (vid, v) else none

/-- Distinct addresses among queued learn events. -/
def distinctAddrs (l : List LearnEv) : List (Nat × Nat) := (l.map (fun y => (y.fid, y.mac))).foldl addTo []

/-- Outcome of the SA rules (R260 to R262): discarded under a counter, and the state after learning. A frame with a bad FCS takes no part in them. The
limit is that of the port that would hold the entry, a LAG port for a frame of a LAG member; learning must be on there and at the ingress port. -/
def learnSa (c : Cfg) (sl : Nat) (f : Frame) (raw : List Byte) (v : Vlan) (s : State) : Option (Nat × Nat) × State :=
  let sa := nfld raw 6 6
  let tgt := lagTarget c f.portIn
  let hit := macSeen s sl v.fid sa f.epoch
  let violates := bitN (byteAt raw 6) 0 || (match hit with
    | some x => x.dsa || (x.static && (x.mcast || (decide (x.target ≠ f.portIn) && decide (x.target ≠ tgt))))
    | none => false)
  if f.bad then (none, s)
  else if violates then (some (3, 0x0B), s)
  else
    let s1 := macMap (fun x => decide (x.fid = v.fid) && decide (x.mac = sa) && !x.static) (fun x => { x with active := true }) s
    let settled := match hit with
      | some x => x.static || decide (x.target = tgt) || x.frozen.isSome
      | none => false
    let lp := c.learnP.getD tgt {}
    if settled || !v.learn || !lp.learn || !(c.learnP.getD f.portIn {}).learn then (none, s1)
    else
      let e : LearnEv := ⟨sl, v.fid, sa, tgt, f.portIn, s1.tables.learnSeq⟩
      let held := (s1.tables.mac.filter (fun x => !x.static && decide (x.target = tgt) && visIn x.vis f.epoch)).length
      let waits := distinctAddrs (s1.tables.learn.filter (fun y => decide (y.target = tgt)))
      if lp.limit ≠ 0 && lp.limit ≤ held + waits.length && !decide ((v.fid, sa) ∈ waits) then
        (if lp.limitDiscard then some (9, 0) else none, if lp.limitDiscard then s1 else fwdCount sl 9 s1)
      else if 4096 ≤ s1.tables.learn.length then (none, learnOverflow (fwdCount sl 7 s1))
      else (none, { s1 with tables := { s1.tables with learn := s1.tables.learn ++ [e], learnSeq := s1.tables.learnSeq + 1 } })

/-- The DA's decision at the bridge (R257 to R259). -/
def bridgeDa (s : State) (x : FwdIn) (v : Vlan) : Decision :=
  let c := x.c
  let p := x.f.portIn
  let member := fun (q : Nat) => v.all || decide (q ∈ v.members)
  let inVlan := fun (d : Decision) =>
    let ok := d.ports.filter member
    { d with ports := ok, vlanDrops := d.ports.filter (fun q => !member q) }
  match macSeen s (sliceOf s p) v.fid (nfld x.raw 0 6) x.f.epoch with
  | some e =>
    if e.dda then { drop := some (2, 9) }
    else if e.mcast then inVlan (groupPorts s x e.target)
    else if e.target = p || (lagOf c p).any (fun g => decide (e.target = 1536 + g)) then { drop := some (2, 9) }
    else inVlan (resolve s x e.target)
  | none =>
    let all := if v.all then c.ports.keys ++ (List.range 64).map (fun h => 1024 + h) else v.members.filter (portExists c)
    { ports := all.filter (fun q => !decide (q ∈ ingressSide c p)), flood := true }

/-- The egress set of a frame when E1 has ended without a DROP (R257): M3, else the bridge, which looks at the frame as it was parsed. -/
def decide' (sl : Nat) (x : FwdIn) (m : List Word) (s : State) : Decision × Nat × State :=
  let m3 := mWord m 3
  let t := m3 % 2048
  if bitN m3 12 then
    (if bitN m3 11 then groupPorts s x t else resolve s x t, (match bridgeVlan x.c x.f x.raw x.rawTag with | some v => v.1 | none => 0), s)
  else match bridgeVlan x.c x.f x.raw x.rawTag with
    | none => ({ drop := some (0, 0x0A) }, 0, s)
    | some (vid, v) => match learnSa x.c sl x.f x.raw v s with
      | (some d, s1) => ({ drop := some d }, vid, s1)
      | (none, s1) => (bridgeDa s1 x v, vid, s1)

/-- The queue that a copy takes on its egress port (R273). -/
def copyQueue (c : Cfg) (p q : Nat) : Nat := if bitN (qmapOf c p).mapped q then q else (qmapOf c p).defaultQ

/-- Cut-through (R42, R270): tested once, as classification completes. -/
def cutThrough (s : State) (c : Cfg) (f : Frame) (p q : Nat) : Bool :=
  !isHostPort p && !isHostPort f.portIn && decide (p ∈ c.cut)
    && (match c.ports.get? f.portIn with | some x => decide (x.kind = 0) | none => false)
    && decide (rateOf s c p ≤ rateOf s c f.portIn) && (queueOf s (qid p q)).isEmpty && portUp s p
    && fitsAt (gateRt s p) q (timeSixteenths s) (wireTime s p (f.data.length + 4 + growthOf s p + overheadOf c p))

/-- Mirror copies that the sessions of POINT 0 add (R300). -/
def mirrorSet (s : State) (sessions : List Nat) : List (Nat × Nat × Nat) :=
  sessions.filterMap (fun n => ((cfg s).mirror.get? n).map (fun m => (n, m.port, m.q)))

/-- Capture point 0, as E1 ends (R296): the event of a frame that is not discarded there, and the mirror copies that its sessions add to the egress set
(R300). -/
def capIngress (sl : Nat) (k : Classified) (s : State) : Classified × State :=
  let r := capEvent { point := 0, slice := sl, portIn := k.frame.portIn, flow := k.flow, guarded := k.guarded
                      stampIn := stampBits k.frame.stamp k.frame.stampFlags, stampEv := stampNow s sl, len := wireLen k.frame.data, data := k.frame.data } s
  ({ k with mirrors := mirrorSet r.1 r.2 }, r.1)

/-- Put a forwarded frame on its way to the buffer: a cut-through one is admitted as its classification completes (R27). A frame with no copy at all is
discarded; a guarded one counts under R26. -/
def sendOn (sl : Nat) (k : Classified) (s : State) : State :=
  if k.copies.isEmpty && k.mirrors.isEmpty then preDrop sl none k s
  else if k.cut then
    let f := s.buf.nextFrame
    updSlice sl (fun x => { x with toWrite := x.toWrite ++ [{ k with admitted := some f }] }) (admitNow sl true k s)
  else updSlice sl (fun x => { x with toWrite := x.toWrite ++ [k] }) s

/-- The forwarding of a frame that filters and nodes have passed (R257, R273, R329, R342, R343, R350). -/
def forward (sl : Nat) (k : Classified) (tag : Option Nat) (raw : List Byte) (orig : List Hdr) (s : State) : State :=
  let f := k.frame
  let c := cfgAt s f.epoch
  let x : FwdIn := ⟨c, f, raw, usedTag c f.portIn raw orig, k.parse.hdrs, k.flow, k.guarded⟩
  let (d, vid, s1) := decide' sl x k.m s
  let each := fun (reason : Nat) (l : List Nat) (s : State) => l.foldl (fun s p => capDrop sl reason k (some (p, m5Queue k.m)) s) s
  let s2 := each 0x0F d.lagEmpty <| each 0x0A d.vlanDrops <| addCtr ⟨.fwd, sl, 0, 10⟩ d.lagEmpty.length
    (addCtr ⟨.fwd, sl, 0, 1⟩ d.vlanDrops.length (if d.flood then fwdCount sl 4 s1 else s1))
  match d.drop with
  | some (i, reason) => preDrop sl (if reason = 0 then none else some reason) k (fwdCount sl i s2)
  | none =>
    let astray := k.sezal && !bitN (byteAt f.data 15) 2 && decide (bitsN (nfld f.data 16 4) 22 14 ≠ s.sez.inst) && !d.ports.isEmpty && d.ports.all (fun p => !c.domPort.has p)
    if astray then preDrop sl none k (sezCount 5 s2)
    else
      let q := m5Queue k.m
      let reps := match c.flows.get? k.flow with
        | some y => if k.guarded && d.single then y.replicas.filter (fun p => c.ports.has p) else []
        | none => []
      let ring := match k.node with
        | some n => match c.prp.get? n with
          | some y => if y.mode = 2 && decide (sub f.data 0 6 ≠ y.mac) then [nodePeer y f.portIn] else []
          | none => []
        | none => []
      let ports := (d.ports ++ reps ++ ring).foldl addTo []
      let copies := (withPeers c k.node f.data (ports.map (fun p => (p, q)))).map (fun x => (x.1, copyQueue c x.1 x.2))
      let cut := !k.guarded && !d.flood && (match copies with | [(p, cq)] => d.single && cutThrough s2 c f p cq | _ => false)
      let k1 := { k with copies, single := d.single, flood := d.flood || !d.single, cut, vid, vtag := tag }
      if f.bad && !cut then s2 else sendOn sl k1 s2

/-- Numbers, redundancy nodes and stream filters of a frame whose E1 has ended (R289, R326, R343). -/
def admitChecks (sl : Nat) (k : Classified) (tag : Option Nat) (orig : ParseRes) (raw : List Byte) (s : State) : State :=
  let f := k.frame
  let c := cfgAt s f.epoch
  let fromTag := match c.flows.get? k.flow with
    | some x => if x.seqMode = 2 then some x.tagKind else none
    | none => none
  let num := fromTag.bind (fun t => tagNumber t raw orig.hdrs)
  let s1 := if fromTag.isSome && num.isNone then flowCount k.flow sl 7 s else s
  if fromTag.isSome && num.isNone && k.guarded then preDrop sl none k s1
  else
    let node := if isHostPort f.portIn then none else nodeOf c f.portIn
    let (dup, s2) := match node with
      | some n => nodeIn n { f with data := raw } s1
      | none => (false, s1)
    if dup then preDrop sl none k s2
    else
      let k1 := { k with seq := num, node := node.map Prod.fst, sezal := c.domPort.has f.portIn && sezalTagged s raw }
      match filterFrame c sl k.flow f f.data k.parse.hdrs s2 with
      | (s3, .drop r) => preDrop sl (some r) k1 s3
      | (s3, .pass data) => forward sl { k1 with frame := { f with data } } tag raw orig.hdrs s3

/-- An engine discards a frame (R228, R498). -/
def engineDrops (s : State) (g : Nat) (r : EzPass) (atE1 : Bool) : Bool :=
  if (engine s g).isolated then s.badger.isoDiscard else r.drop || (atE1 && bitN (mWord r.m 5) 7)

/-- A frame that has reached E1: what it enters E1 with, and its flow's word there. -/
structure AtE1 where
  pass : PassIn
  frame : Frame

/-- E0 and the lookups (R24, R208): the frame as it enters E1, or the state after its discard. -/
def beforeE1 (sl : Nat) (faults : LookupFaults) (f : Frame) (parse : ParseRes) (s : State) : State × Option AtE1 :=
  let c := cfgAt s f.epoch
  let p0 : PassIn := { kind := 0, slice := sl, epoch := f.epoch, defPort := f.portIn, portIn := f.portIn, data := f.data, m := entryWords c f parse, parse, faults
                       vtag := usedTag c f.portIn f.data parse.hdrs }
  let (s1, r0) := runPass p0 s
  if engineDrops s (4 * sl) r0 false then (preDrop sl (some 8) (bareC f r0.m parse) (meterRx f noFlow (bump (engCtr (4 * sl) 1) s1)), none)
  else
    let hs := { parse with hdrs := r0.hdrs }
    let inp : KeyIn := { portIn := f.portIn, data := r0.data, parse := hs, hdrs := r0.hdrs, m := r0.m, trs := [] }
    let l := lookups s1 c sl f.epoch inp faults.stages
    let m1 := r0.m.set 4 l.m4
    let s2 := addCtr ⟨.parse, sl, 0, 13⟩ l.back (addCtr ⟨.parse, sl, 0, 12⟩ l.errs s1)
    let f1 := { f with data := r0.data }
    if l.drop then (preDrop sl none (bareC f1 m1 hs) (meterRx f (mWord m1 4 % 2 ^ 30) s2), none)
    else (s2, some ⟨{ p0 with kind := 1, data := r0.data, m := m1, parse := hs, trs := l.trs, vtag := r0.vtag }, f1⟩)

/-- E1 and what follows it (R24, R208, R296). -/
def throughE1 (sl : Nat) (f : Frame) (parse : ParseRes) (x : AtE1) (s : State) : State :=
  let (s3, r1) := runPass x.pass s
  let k := bareC { f with data := r1.data } (r1.m.take 16) { x.pass.parse with hdrs := r1.hdrs }
  let s4 := meterRx f k.flow s3
  if engineDrops s (4 * sl + 1) r1 true then preDrop sl (some 8) k (bump (engCtr (4 * sl + 1) 1) s4)
  else
    let (k1, s5) := capIngress sl k s4
    admitChecks sl k1 r1.vtag parse f.data s5

/-- What becomes of the frame in E0 or E1 as the engine resets (R241): E0 loses it before its lookups, E1 after them, when its flow may be named (R26). -/
def lostInEngine (g : Nat) (f : Frame) (parse : ParseRes) (s : State) : State :=
  let sl := g / 4
  let s1 := bump (engCtr g 7) s
  if g % 4 = 0 then txLost f (meterRx f noFlow s1)
  else match beforeE1 sl ⟨[], [], [], [], []⟩ f parse s1 with
    | (s2, none) => s2
    | (s2, some x) => let k := bareC x.frame x.pass.m x.pass.parse; preDrop sl none k (meterRx f k.flow s2)

/-- The PTP event message of a frame that the servo takes (R169, R174): of a ROLE 4 port, or a Pdelay message that ends here. -/
def servoTakes (c : Cfg) (f : Frame) (m7 : Nat) : Bool :=
  !f.bad && (match c.ptp.get? f.portIn with
    | none => false
    | some x => ptpTerminated c f.portIn m7 f.data || (x.role = 4 && (ptpEvent x m7 f.data).isSome))

/-- Classify the frame at the head of a slice's staging FIFO; with `lost`, the engine that resets under it. -/
def classifyFrame (sl : Nat) (lost : Option Nat) (faults : LookupFaults) (f : Frame) (s : State) : State :=
  let c := cfgAt s f.epoch
  let parse := parseFrame c sl f.data
  let s1 := countParse sl parse s
  if parse.drop then preDrop sl (some 7) (bareC f (entryWords c f parse) parse) (meterRx f noFlow s1)
  else match domainIn s c f with
    | .drop i => meterDomain f (sezCount i s1)
    | .control => meterDomain f (if f.bad then s1 else if unknownCtl f.data then sezCount 0 s1 else { s1 with sez := { s1.sez with inbox := s1.sez.inbox ++ [(f.portIn, f.data)] } })
    | .pass =>
      let s2 := if servoTakes c f (ptpWord parse.hdrs) then tellServo f.portIn false (stampBits f.stamp f.stampFlags) f.data s1 else s1
      if ptpTerminated c f.portIn (ptpWord parse.hdrs) f.data then txLost f (meterRx f noFlow s2)
      else match lost with
        | some g => lostInEngine g f parse s2
        | none => match beforeE1 sl faults f parse s2 with
          | (s2, none) => s2
          | (s2, some x) => throughE1 sl f parse x s2

/-- An engine holds up its slice core: in reset and not isolated (R240). -/
def engineHolds (s : State) (g : Nat) : Bool := (engine s g).resetAt.isSome && !(engine s g).isolated

/-- CLASSIFY (R24); what the check bits of the memories found on the way is dealt with behind it (R30). -/
def execClassify (sl : Nat) (faults : LookupFaults) (s : State) : Host.Outcome State Fault Refusal :=
  .next (match (slice s sl).ingress with
    | [] => s
    | f :: rest =>
      if !coreRuns s sl || engineHolds s (4 * sl) || engineHolds s (4 * sl + 1) then s
      else memErrors faults.corrected faults.bad (classifyFrame sl none faults f (updSlice sl (fun x => { x with ingress := rest }) s)))

/-- The frame that E0 or E1 holds as it resets: the one at the head of the staging FIFO of a slice core that runs (R241; DESIGN CHOICE, log 104). -/
def loseInEngine (g : Nat) (s : State) : State :=
  let sl := g / 4
  match (slice s sl).ingress with
  | [] => s
  | f :: rest =>
    if 2 ≤ g % 4 || !coreRuns s sl || engineHolds s (4 * sl) || engineHolds s (4 * sl + 1) || (engine s g).isolated then s
    else classifyFrame sl (some g) ⟨[], [], [], [], []⟩ f (updSlice sl (fun x => { x with ingress := rest }) s)

/-- An engine's fault (R240, R241, R495, R498): log it, reset the engine, which loses the frame it holds. -/
def engineFault (g : Nat) (fault : EngineFault) (s : State) : State :=
  let sl := g / 4
  if nEngines s ≤ g || (engine s g).isolated || (engine s g).resetAt.isSome then s
  else
    let now := rawNs s
    let again := match fault with
      | .bundle i => s.badger.bundles.any (fun b => decide (b.1 = g) && decide (b.2.1 = i) && decide (now < b.2.2 + 86400000000000))
      | _ => false
    let s1 := match fault with
      | .bundle i => logFaultAt 4 2 (640 + g) i (bump ⟨.err, 640 + g, 0, 1⟩ { s with badger := { s.badger with bundles := s.badger.bundles ++ [(g, i, now)] } })
      | _ => logFault 4 2 (640 + g) s
    let cause := match fault with
      | .bundle _ => 1
      | _ => 2
    let s3 := countReset g (sliceCause sl 2 (resetEngine g cause (loseInEngine g s1)))
    if again then isolateUnit (640 + g) s3 else s3

/-- ENGINE_FAULT (R240, R241, R495, R498). -/
def execEngineFault (g : Nat) (fault : EngineFault) (s : State) : Host.Outcome State Fault Refusal := .next (engineFault g fault s)

/-- The checks of ENGINE_RESET (R240). -/
def engineResetChk (e : Env) (s : State) : Chk :=
  let p := e.payload
  let g := fld p 0 2
  { present := enginePresent s g, fields := [below p 0 2 128, zeroAt p 2 2], busy := if armedUnit s [⟨0x0604, g, 0⟩] then some 1 else if (engine s g).resetAt.isSome then some 3 else none
    st := if (engine s g).isolated then some 0 else none }

/-- ENGINE_RESET (R240, R241): the frame in the engine is lost; the response waits for the engine to be back in RUN. -/
def execEngineReset (e : Env) (s : State) : Host.Outcome State Fault Refusal :=
  let p := e.payload
  let g := fld p 0 2
  .next (runCmd 0x0604 (lenIs 4) (engineResetChk e s) e
    (fun s => updEngine g (fun r => { r with owed := some e }) (countReset g (resetEngine g 4 (loseInEngine g s)))) s)

end Sys2Proof.Machine
end

