-- ==== Sys2Proof/Machine/Cells.lean ====
section
/-! DEFINITION. Cells, admission and handoff (R24 to R28, R242 to R251, R325, R333). -/

namespace Sys2Proof.Machine

/-- ALPHA code and MAX_CELLS of a charging queue, by a frame's epoch (R247). -/
def sharedLimOf (c : Cfg) (q : Nat) : SharedLim := c.sharedLim.getD q {}

/-- The charging queue of a frame (R248): 0xFFFF_FFFF is the multicast account. -/
def chargingQueue (c : Classified) : Nat :=
  let ids := c.copies.map (fun x => qid x.1 x.2)
  if c.guarded then (match leastBy id ids with | some q => q | none => 0xFFFFFFFF)
  else if c.flood then 0xFFFFFFFF
  else match ids with
    | q :: _ => q
    | [] => 0xFFFFFFFF

/-- The shared gate of a charging queue is open (R247). -/
def sharedGate (s : State) (c : Cfg) (q : Nat) : Bool :=
  let l := sharedLimOf c q
  let used := s.buf.sharedUsed.getD q 0
  used < l.maxCells && decide (used * 64 < 2 ^ l.alpha * (s.buf.sharedCells - s.buf.sharedInUse))

/-- MIN_CELLS of a frame's flow, by its epoch. -/
def minCellsOf (c : Cfg) (flow : Nat) : Nat := match c.flows.get? flow with
  | some x => x.minCells
  | none => 0

/-- Charge one cell of a frame (R247): to its flow minimum, else to the shared pool; none when it cannot be charged. -/
def chargeCell (k : Classified) (s : State) : Option (Classified × State) :=
  let c := cfgAt s k.frame.epoch
  let b := s.buf
  if k.flow ≠ noFlow && decide (b.minUsed.getD k.flow 0 < minCellsOf c k.flow) then
    some ({ k with minCharged := k.minCharged + 1 }, { s with buf := { b with minUsed := b.minUsed.upd k.flow 0 (· + 1) } })
  else
    let q := chargingQueue k
    let room := b.sharedInUse < b.sharedCells
    if room && (decide (0 < k.sharedCharged) || sharedGate s c q) then
      some ({ k with sharedCharged := k.sharedCharged + 1, chargeQ := q },
        { s with buf := { b with
            sharedInUse := b.sharedInUse + 1, sharedUsed := b.sharedUsed.upd q 0 (· + 1)
            flowShared := if k.flow = noFlow then b.flowShared else b.flowShared.upd k.flow 0 (· + 1) } })
    else none

/-- Free cells of a bank: neither in use nor bad. -/
def bankFree (s : State) (b : Nat) : Nat :=
  8192 - (s.buf.used.filter (fun c => bankOf c = b)).length - (s.buf.badCells.filter (fun c => bankOf c = b && !decide (c ∈ s.buf.used))).length

/-- The cells in a bank's cache. -/
def cacheOf (s : State) (b : Nat) : List Nat := s.buf.cache.getD b []

/-- A bank's cache takes the next cell of the free ring, whose order is a free value (R251; log 11). -/
def cacheNext (b : Nat) (s : State) : State :=
  let taken := fun (c : Nat) => decide (c ∈ s.buf.used) || decide (c ∈ s.buf.badCells) || decide (c ∈ cacheOf s b)
  match pickFree (b * 8192) 8192 taken 8192 (Config.freeCell s.fresh) with
  | none => s
  | some c => { s with fresh := s.fresh + 1, buf := { s.buf with cache := s.buf.cache.upd b [] (· ++ [c]) } }

/-- A cache that holds 8 cells or fewer refills in a burst of 16 (R251). -/
def refillCache (b : Nat) (s : State) : State := if 8 < (cacheOf s b).length then s else (List.range 16).foldl (fun s _ => cacheNext b s) s

/-- Take the next cell of a bank's cache (R251). -/
def takeFrom (b : Nat) (s : State) : Option (Nat × State) :=
  let s1 := refillCache b s
  match cacheOf s1 b with
  | [] => none
  | c :: rest => some (c, { s1 with buf := { s1.buf with used := s1.buf.used ++ [c], cache := s1.buf.cache.set b rest } })

/-- Where a cell can be placed. -/
inductive CellAt where
  | taken (cell : Nat) (s : State)
  /-- Every bank of the group that has a free cell has taken a write in this clock. -/
  | nextClock
  | empty

/-- Take a free cell of a bank group for a writing slice (R244, R251): its own banks first, then ascending from them. A bank whose cache waits on its
ring, which it does only with fewer free cells than the cache can hold, counts as having none; one that has taken a write in this clock is passed over. -/
def takeCell (sl g : Nat) (k : BankClock) (s : State) : CellAt :=
  let n := 4 * nSlices s
  let here := fun (b : Nat) => decide (b % 2 = g) && !decide (b ∈ s.buf.stopped) && decide (0 < bankFree s b) && !(decide (b ∈ k.waiting) && decide (bankFree s b < 32))
  let banks := ((List.range n).map (fun i => (4 * sl + i) % n)).filter here
  if banks.isEmpty then .empty
  else match (banks.filter (fun b => !decide (b ∈ k.wrote))).findSome? (fun b => takeFrom b s) with
    | some r => .taken r.1 r.2
    | none => .nextClock

/-- Bytes k × 256 onward of a stored frame, as one cell holds them. -/
def cellBytes (data : List Byte) (k : Nat) : List Byte := ((wholeFrame data).drop (256 * k)).take 256

/-- Cells of a frame (R40). -/
def cellsNeeded (data : List Byte) : Nat := ceilDiv (wireLen data) 256

/-- Store a cell's bytes. -/
def putCell (c : Nat) (bytes : List Byte) (s : State) : State := { s with buf := { s.buf with cells := s.buf.cells.set c bytes } }

/-- What becomes of the next cell of a frame. -/
inductive CellOut where
  | placed (k : Classified) (s : State)
  /-- The write waits for the next clock (R244). -/
  | waits
  /-- The frame is refused, with the REASON (R249, R299). -/
  | refused (reason : Nat)

/-- Place and charge the next cell of a frame, in both chains of a guarded one (R243, R244, R247). -/
def writeCell (sl : Nat) (banks : BankClock) (k : Classified) (s : State) : CellOut :=
  let bytes := cellBytes k.frame.data k.cells.length
  if k.guarded then
    match (chargeCell k s).bind (fun r => chargeCell r.1 r.2) with
    | none => .refused 1
    | some (k1, s1) =>
      match takeCell sl (k.flow % 2) banks s1 with
      | .empty => .refused 2
      | .nextClock => .waits
      | .taken a s2 => match takeCell sl ((k.flow + 1) % 2) banks s2 with
        | .empty => .refused 2
        | .nextClock => .waits
        | .taken b s3 => .placed { k1 with cells := k1.cells ++ [a], replica := k1.replica ++ [b] } (putCell b bytes (putCell a bytes s3))
  else match chargeCell k s with
    | none => .refused 1
    | some (k1, s1) =>
      match takeCell sl (if freeInGroup s 0 < freeInGroup s 1 then 1 else 0) banks s1 with
      | .empty => .refused 2
      | .nextClock => .waits
      | .taken a s2 => .placed { k1 with cells := k1.cells ++ [a] } (putCell a bytes s2)

/-- Count a cell that a port's frame brings into the buffer: one for each cell of the frame, whose replica adds none (R139; DESIGN CHOICE, log 102). -/
def countIngress (k : Classified) (s : State) : State :=
  let p := k.frame.portIn
  let pr := m5Prio k.m
  if isHostPort p then s else xoffCheck p pr (updPort p (fun x => { x with ingressCells := x.ingressCells.upd pr 0 (· + 1) }) s)

/-- A copy of a frame in transmission on a port, or preempted there. -/
def sendsFrame (f : Nat) (x : PortRt) : Bool :=
  let isF := fun (t : Option TxCur) => match t with | some ⟨.copy c, _, _, _, _, _⟩ => decide (c.frame = f) | _ => false
  isF x.cur || isF x.preempted

/-- An admitted cut-through frame whose cells will never all be written (R130, R249; log 41): a copy not begun is discarded, one that has begun is of a bad
ingress copy, which TX_STOMP stomps. -/
def abandonCut (f : Nat) (k : Classified) (s : State) : State :=
  let other := fun (c : Copy) => decide (c.frame ≠ f)
  let s1 := { s with
    tm := { s.tm with queues := s.tm.queues.mapV (fun _ l => l.filter other) }
    ports := s.ports.mapV (fun _ y => { y with pacing := y.pacing.filter other, fifo := y.fifo.filter (fun t => match t with | .copy c => other c | .own _ _ => true) }) }
  let begun := (s.ports.filter (fun x => sendsFrame f x.2)).length
  freeIfDone f (updStored f (fun y => { y with
    c := { k with cells := [], replica := [], minCharged := 0, sharedCharged := 0, frame := { k.frame with bad := true } }, writing := false, marks := [], left := begun }) s1)

/-- Refuse a frame under R249: its cells and charges return; it counts under R26, or in the drop counter of its charging queue (R27). -/
def refuseFrame (sl reason : Nat) (k : Classified) (s : State) : State :=
  let s1 := releaseFrame k (if reason = 2 then bump ⟨.block, 0, 0, 0⟩ s else s)
  let s2 := match k.admitted with
    | some f => fwdCount sl 12 (abandonCut f k s1)
    | none => s1
  if k.guarded then preDrop sl (some reason) k s2 else preDrop sl (some reason) k (bump ⟨.queue, chargingQueue k, 0, 4⟩ s2)

/-- The cells of an admitted cut-through frame as they stand; with the last one the frame is whole in the buffer (R27). -/
def noteCells (k : Classified) (done : Bool) (s : State) : State :=
  match k.admitted with
  | none => s
  | some f =>
    let s1 := updStored f (fun y => { y with
      c := { y.c with cells := k.cells, replica := k.replica, minCharged := k.minCharged, sharedCharged := k.sharedCharged, chargeQ := k.chargeQ }, writing := !done }) s
    if done then freeIfDone f s1 else s1

/-- CELL_WRITE: the next cell of the oldest frame that the slice core writes, while the centre runs (R23, R24, R243 to R249). -/
def execCellWrite (sl : Nat) (s : State) (banks : BankClock := ⟨[], []⟩) : Host.Outcome State Fault Refusal :=
  .next (match (slice s sl).toWrite with
    | [] => s
    | k :: rest =>
      if !coreRuns s sl || !centreRuns s then s
      else match writeCell sl banks k s with
        | .waits => s
        | .refused r => refuseFrame sl r k (updSlice sl (fun x => { x with toWrite := rest }) s)
        | .placed k1 s1 =>
          let s2 := countIngress k1 s1
          let done := cellsNeeded k1.frame.data ≤ k1.cells.length
          noteCells k1 done (if !done then updSlice sl (fun x => { x with toWrite := k1 :: rest }) s2
            else if k1.admitted.isSome then updSlice sl (fun x => { x with toWrite := rest }) s2
            else updSlice sl (fun x => { x with toWrite := rest, written := x.written ++ [k1] }) s2))

/-- The flow-store bank of a flow's home context (R320). -/
def ctxUnit (x : FlowCfg) : Nat := 128 + 8 * x.slice + x.slot % 8

/-- A home context that has no mirror and cannot be read is lost: the next number of a GENERATE flow is then a free value (R30, R321, R340; log 23). -/
def loseContext (bad : List Nat) (flow : Nat) (s : State) : State :=
  match (cfg s).flows.get? flow with
  | none => s
  | some x =>
    if (s.flows.rt.getD flow {}).mirrored || ctxUnit x ∉ bad then s
    else { s with fresh := s.fresh + 1, flows := { s.flows with rt := s.flows.rt.upd flow {} (fun r => { r with genSeq := BitVec.ofNat 16 (Config.fwChoice 18 s.fresh) }) } }

/-- A guarded frame that an OUT_OF_STEP member refuses: it came by a domain port, or a port of its egress set is one (R368). -/
def stepRefuses (s : State) (k : Classified) : Bool :=
  let d := (cfgAt s k.frame.epoch).domPort
  s.sez.outOfStep && k.guarded && (d.has k.frame.portIn || k.copies.any (fun x => d.has x.1))

/-- ADMIT: the oldest store-and-forward frame whose cells are written (R25, R27, R325). An OUT_OF_STEP member refuses it under R368, with the REASON of a
refusal at admission (log 118). A guarded frame's home context is read: a double-bit error in its own bank makes the read use the mirror, and its fault is
dealt with behind it (R321). -/
def execAdmit (sl : Nat) (s : State) (reads : CtxReads := ⟨[], []⟩) : Host.Outcome State Fault Refusal :=
  .next (match (slice s sl).written with
    | [] => s
    | k :: rest =>
      if !coreRuns s sl then s
      else
        let s1 := updSlice sl (fun x => { x with written := rest }) s
        if stepRefuses s k then refuseFrame sl 1 k (sezCount 6 s1) else memErrors reads.corrected reads.bad (admitNow sl false k (if k.guarded then loseContext reads.bad k.flow s1 else s1)))

/-- HANDOFF: a descriptor reaches an egress slice (R330, R333). Which of the waiting ones comes next is the event's to say; one that the reorder store
holds has been taken. The recovery entry and context that it reads are mirrored: a double-bit error makes the read use the mirror (R321). -/
def execHandoff (f sl : Nat) (s : State) (reads : CtxReads := ⟨[], []⟩) : Host.Outcome State Fault Refusal :=
  .next (match storedOf s f with
    | none => s
    | some x =>
      if !decide (sl ∈ x.marks) || !coreRuns s sl || (slice s sl).reorder.any (fun y => decide (y.1 = f)) then s
      else memErrors reads.corrected reads.bad (takeHandoff sl f s))

end Sys2Proof.Machine
end

