-- ==== Sys2Proof/Machine/HostOps.lean ====
section
/-! DEFINITION. Host frames: checksum offload, dispatch of a copy to a receive queue, pools, positions of rings (R252 to R255, R407, R432 to R436). -/

namespace Sys2Proof.Machine

/-! Checksums. -/

/-- The ones' complement sum of 16-bit words, an odd byte padded with 0. -/
def sum16 : List Byte → Nat
  | [] => 0
  | [a] => a.toNat * 256
  | a :: b :: l => add1c (a.toNat * 256 + b.toNat) (sum16 l)

/-- The layout that the offloads recognise (R432): IP offset, IPv6, L4 offset, protocol, segment length, fragment. -/
structure HostLayout where
  l3 : Nat
  v6 : Bool
  l4 : Nat
  proto : Nat
  seg : Nat
  frag : Bool
deriving DecidableEq, Repr

/-- A VLAN TPID (R432). -/
def isVlanTpid (t : Nat) : Bool := t = 0x8100 || t = 0x88A8

/-- Where the EtherType after up to two VLAN tags stands. -/
def typeOffset (d : List Byte) : Nat :=
  if isVlanTpid (nfld d 12 2) then (if isVlanTpid (nfld d 16 2) then 20 else 16) else 12

/-- Recognise a frame's layout (R432). -/
def hostLayout (d : List Byte) : Option HostLayout :=
  let o := typeOffset d
  let l3 := o + 2
  if nfld d o 2 = 0x0800 then
    let ihl := byteAt d l3 % 16
    let total := nfld d (l3 + 2) 2
    if byteAt d l3 / 16 = 4 && decide (5 ≤ ihl) && decide (4 * ihl ≤ total) && decide (l3 + total ≤ d.length) then
      some ⟨l3, false, l3 + 4 * ihl, byteAt d (l3 + 9), total - 4 * ihl, nfld d (l3 + 6) 2 % 16384 ≠ 0⟩
    else none
  else if nfld d o 2 = 0x86DD then
    let n := nfld d (l3 + 4) 2
    if byteAt d l3 / 16 = 6 && (byteAt d (l3 + 6) = 6 || byteAt d (l3 + 6) = 17) && decide (l3 + 40 + n ≤ d.length) then
      some ⟨l3, true, l3 + 40, byteAt d (l3 + 6), n, false⟩
    else none
  else none

/-- TCP or UDP with its header whole. -/
def HostLayout.hasL4 (x : HostLayout) : Bool := (x.proto = 6 && decide (20 ≤ x.seg)) || (x.proto = 17 && decide (8 ≤ x.seg))

/-- Where the L4 checksum stands. -/
def HostLayout.l4Csum (x : HostLayout) : Nat := x.l4 + (if x.proto = 6 then 16 else 6)

/-- The pseudo-header. -/
def pseudoHeader (x : HostLayout) (d : List Byte) : List Byte :=
  if x.v6 then sub d (x.l3 + 8) 32 ++ beB 4 x.seg ++ beB 4 x.proto else sub d (x.l3 + 12) 8 ++ beB 2 x.proto ++ beB 2 x.seg

/-- The L4 sum of a frame, its checksum field included. -/
def l4Sum (x : HostLayout) (d : List Byte) : Nat := sum16 (pseudoHeader x d ++ sub d x.l4 x.seg)

/-- Fill the IPv4 header checksum. -/
def fillIp (x : HostLayout) (d : List Byte) : List Byte :=
  let z := patch d (x.l3 + 10) [0, 0]
  if x.v6 then d else patch d (x.l3 + 10) (beB 2 (0xFFFF - sum16 (sub z x.l3 (x.l4 - x.l3))))

/-- Fill the TCP or UDP checksum; a computed UDP 0 is sent as 0xFFFF. -/
def fillL4 (x : HostLayout) (d : List Byte) : List Byte :=
  let z := patch d x.l4Csum [0, 0]
  let v := 0xFFFF - l4Sum x z
  patch d x.l4Csum (beB 2 (if x.proto = 17 && v = 0 then 0xFFFF else v))

/-- TX checksum offload (R432): the frame as sent, and CSUM_SKIPPED. -/
def txCsum (on ip l4 : Bool) (d : List Byte) : List Byte × Bool :=
  if !ip && !l4 then (d, false)
  else match on, hostLayout d with
    | true, some x =>
      if x.frag || (l4 && !x.hasL4) then (d, true)
      else
        let d1 := if ip then fillIp x d else d
        (if l4 then fillL4 x d1 else d1, false)
    | _, _ => (d, true)

/-- RX_FLAGS bits [3:0] (R417, R436). -/
def rxCsumFlags (on : Bool) (d : List Byte) : Nat :=
  match on, hostLayout d with
  | true, some x =>
    let ipBad := !x.v6 && decide (sum16 (sub d x.l3 (x.l4 - x.l3)) ≠ 0xFFFF)
    let l4 := !x.frag && x.hasL4 && !(x.proto = 17 && !x.v6 && decide (nfld d x.l4Csum 2 = 0))
    b2n (!x.v6) + 2 * b2n ipBad + 4 * b2n l4 + 8 * b2n (l4 && decide (l4Sum x d ≠ 0xFFFF))
  | _, _ => 0

/-! Submission queues. -/

/-- A submission queue. -/
def sqOf (s : State) (n : Nat) : Option SubQ := s.hq.sq.get? n

/-- Change a submission queue that stands. -/
def updSq (n : Nat) (f : SubQ → SubQ) (s : State) : State :=
  match s.hq.sq.get? n with
  | none => s
  | some x => { s with hq := { s.hq with sq := s.hq.sq.set n (f x) } }

/-- Change the accepted entry of a queue at a position. -/
def updWork (n pos : Nat) (f : Work → Work) (s : State) : State :=
  updSq n (fun x => { x with works := x.works.map (fun w => if w.pos = pos then f w else w) }) s

/-- A counter of QUEUE_STATUS: 0 ENTRIES, 1 BYTES, 2 NO_BUF or CQ_DB_ERR, 3 RX_TOO_LONG, 4 STRAY_DOORBELL; ring 1 for a completion ring. -/
def hqCtr (n ring i : Nat) : Ctr := ⟨.hostq, n, ring, i⟩

/-- FLAGS of an entry: bit `i`. -/
def Work.flag (w : Work) (i : Nat) : Bool := bitN w.flags i

/-- A posted buffer not yet filled. -/
def Work.posted (w : Work) : Bool := decide (w.kind = .rxPost) && w.result.isNone

/-! Pools. -/

/-- Buffers of a pool that are not FREE. -/
def poolOf (s : State) (id : Nat) : Option Pool := s.buf.pools.get? id

/-- Change a pool's buffers. -/
def updPool (id : Nat) (f : KMap Nat PoolBuf → KMap Nat PoolBuf) (s : State) : State :=
  match s.buf.pools.get? id with
  | none => s
  | some x => { s with buf := { s.buf with pools := s.buf.pools.set id { x with bufs := f x.bufs } } }

/-- Put a pool back. -/
def setPool (id : Nat) (x : Pool) (s : State) : State := { s with buf := { s.buf with pools := s.buf.pools.set id x } }

/-- A pool's cache takes the next index of the free ring, whose order is a free value (R254; log 12). -/
def poolNext (id : Nat) (s : State) : State :=
  match poolOf s id with
  | none => s
  | some x => match pickFree 0 x.count (fun i => x.bufs.has i || decide (i ∈ x.cache)) x.count (Config.freeBuffer s.fresh) with
    | none => s
    | some i => { setPool id { x with cache := x.cache ++ [i] } s with fresh := s.fresh + 1 }

/-- The FREE indices in a pool's cache; it comes to hold no others (R254). -/
def poolReady (x : Pool) : List Nat := x.cache.filter (fun i => decide (i < x.count) && !x.bufs.has i)

/-- A pool's cache that holds 8 indices or fewer refills in a burst of 16, as the cell caches do (R251, R254). -/
def poolRefill (id : Nat) (s : State) : State :=
  if 8 < (match poolOf s id with | some x => (poolReady x).length | none => 0) then s else (List.range 16).foldl (fun s _ => poolNext id s) s

/-- ALLOC (R253, R254): the index it takes from the cache and the state after; none is EMPTY. -/
def poolAlloc (id req : Nat) (s : State) : Option (Nat × State) :=
  let s1 := poolRefill id s
  match poolOf s1 id with
  | none => none
  | some x => match poolReady x with
    | [] => none
    | i :: rest => some (i, setPool id { x with bufs := x.bufs.set i ⟨req, 0⟩, cache := rest } s1)

/-- A freed index enters the pool's cache, and spills to the ring when the cache is full (R251, R254). -/
def poolFree (id i : Nat) (s : State) : State :=
  match poolOf s id with
  | none => s
  | some x => setPool id { x with bufs := x.bufs.del i, cache := if x.cache.length < 64 then x.cache ++ [i] else x.cache } s

/-- An operation of requester `n` has its turn in its pool's present round, or begins the next one (R254, R255): the requests of a round come in ascending
requester ID, and a round grants at most 4 ALLOCs; one that finds no FREE buffer is no grant. -/
def roundTakes (s : State) (id n : Nat) (alloc same : Bool) : Bool :=
  match poolOf s id with
  | none => true
  | some x => !same || (decide (x.roundLast ≤ n) && (!alloc || decide (x.roundAllocs < 4) || decide (x.count ≤ x.bufs.length)))

/-- Note an operation of requester `n` in its pool's round, with the ALLOCs it was granted (R254, R255). -/
def noteRound (id n k : Nat) (same : Bool) (s : State) : State :=
  match poolOf s id with
  | none => s
  | some x => setPool id { x with roundLast := n, roundAllocs := (if same then x.roundAllocs else 0) + k } s

/-- An ALLOC has failed with EMPTY: its counter, and POOL_EMPTY at most once per 1 ms (R254). -/
def poolEmpty (id : Nat) (s : State) : State :=
  let s1 := bump ⟨.pool, id, 0, 0⟩ s
  if dueMs s s.buf.emptyAt then fire 19 { s1 with buf := { s1.buf with emptyAt := some (rawNs s) } } else s1

/-! Dispatch (R433 to R435). -/

/-- The VID of a leaving frame's outermost VLAN tag. -/
def outerVid (d : List Byte) : Option Nat := if isVlanTpid (nfld d 12 2) then some (nfld d 14 2 % 4096) else none

/-- A filter matches a copy on queue `q` (R433). -/
def rxMatch (x : RxFilter) (q flow : Nat) (d : List Byte) : Bool :=
  (!bitN x.fields 0 || decide (nfld d 0 6 = x.da)) && (!bitN x.fields 1 || decide (outerVid d = some x.vid))
    && (!bitN x.fields 2 || decide ((if isVlanTpid (nfld d 12 2) then nfld d 16 2 else nfld d 12 2) = x.etherType))
    && (!bitN x.fields 3 || decide (flow = x.flow)) && (!bitN x.fields 4 || decide (q = x.q))

/-- The filter that decides, or the default target (R433). -/
def rxDecider (c : Cfg) (h q flow : Nat) (d : List Byte) : Option RxFilter :=
  match (List.range 64).findSome? (fun i => (c.rxFilter.get? (h * 256 + i)).bind (fun x => if rxMatch x q flow d then some x else none)) with
  | some x => some x
  | none => c.rxFilter.get? (h * 256 + 0xFF)

/-- HASH_TYPE of the selected fields that a frame has (R433): the deepest layer. -/
def hashType (c : Cfg) (f : Frame) (hs : List Hdr) (flow fields : Nat) : Nat :=
  let has := fun (l : List Nat) => l.any (fun i => bitN fields i && !(hashField c f hs flow i).isEmpty)
  if has [7, 8] then 3 else if has [4, 5, 6] then 2 else if has [0, 1, 2, 3] then 1 else 0

/-- Where a copy on queue `q` of host port `h` goes: its receive queue, HASH and HASH_TYPE (R433). Filters and groups are those in force. -/
def rxTarget (s : State) (h q : Nat) (k : Classified) (d : List Byte) (hs : List Hdr) : Option Nat × Nat × Nat :=
  let c := cfg s
  match rxDecider c h q k.flow d with
  | none => (none, 0, 0)
  | some x =>
    if !x.toGroup then (some x.target, 0, 0)
    else match c.rss.get? x.target with
      | none => (none, 0, 0)
      | some g =>
        let f := { k.frame with data := d }
        let v := frameHash c f hs k.flow g.hashFields g.seed
        (g.table[v % 128]?, v, hashType c f hs k.flow g.hashFields)

/-- What a receive queue can do with a frame. -/
inductive RxVerdict where
  | fill (queue : Nat) (w : Work)
  | tooLong (queue : Nat)
  | wait (queue : Nat) (empty : Bool)
  | noQueue
deriving DecidableEq, Repr

/-- Judge a copy for its receive queue (R427, R434, R435; log 50): a queue that is not ENABLED still fills the buffers it holds. -/
def rxJudge (s : State) (h : Nat) (target : Option Nat) (len : Nat) : RxVerdict :=
  match target with
  | none => .noQueue
  | some n => match sqOf s n with
    | none => .noQueue
    | some x =>
      let w := x.works.find? Work.posted
      if !x.rx || x.hostPort ≠ h || (x.st ≠ .enabled && w.isNone) then .noQueue
      else if x.maxRx < len then .tooLong n
      else match w with
        | none => .wait n false
        | some w =>
          let empty := w.flag 6 && (match poolOf s x.pool with | some p => decide (p.count ≤ p.bufs.length) | none => true)
          if empty then .wait n true else .fill n w

/-- RX_VLAN_STRIP of a host port, and the frame as it is written (R436). -/
def rxWritten (s : State) (h : Nat) (d : List Byte) : List Byte :=
  if bitN ((cfg s).offload.getD h 3) 2 && isVlanTpid (nfld d 12 2) then removeAt d 12 4 else d

/-- A copy may leave the head of a host port's queue: it does not have to wait for a buffer (R435). -/
def hostReady (s : State) (p q : Nat) (k : Classified) (d : List Byte) (hs : List Hdr) : Bool :=
  match rxJudge s (p - 1024) (rxTarget s (p - 1024) q k d hs).1 (rxWritten s (p - 1024) d).length with
  | .wait _ _ => false
  | .noQueue => !k.guarded
  | _ => true

end Sys2Proof.Machine
end

