-- ==== Sys2Proof/Machine/Tm.lean ====
section
/-! DEFINITION. The TM and CAP classes, sample events and Foxtrot records (R271 to R300). -/

namespace Sys2Proof.Machine

/-- The checks of QUEUE_MAP_SET: MAPPED and TC are the queue-map field of pair 0x06 (R274). -/
def queueMapSetChk (e : Env) (s : State) : Chk :=
  let p := e.payload
  let old := qmapOf (cfg s) (ePort e)
  let new := qmapOf (queueMapSetUpd s.build e (cfg s)) (ePort e)
  { present := portThere s (ePort e) 1088
    fields := [below p 0 2 1088, (4, decide (byteAt p 4 < 16) && bitN (fld p 2 2) (byteAt p 4)), zeroAt p 5 3]
      ++ (List.range 8).map (fun i => (8, decide (byteAt p (8 + i) < 16))) ++ (List.range 16).map (fun i => (16, decide (byteAt p (16 + i) < 8)))
    needQuad := if carriesTraffic s (ePort e) && (old.mapped ≠ new.mapped || old.tc ≠ new.tc) then some 6 else none }

/-- QUEUE_MAP_SET (R272, R274). -/
def execQueueMapSet (e : Env) (s : State) : Host.Outcome State Fault Refusal :=
  .next (runStaged (.queueMapSet e) 0x0901 (lenIs 32) [⟨0x0901, ePort e, 0⟩] (queueMapSetChk e) id e s)

/-- D of every child whose WEIGHT, PRIO or PARENT changed becomes 0 (R279). -/
def resetDeficits (p : Nat) (old new : Sched) (s : State) : State :=
  let qs := (List.range 16).filter (fun q => old.queues[q]? ≠ new.queues[q]?)
  let ns := (List.range 8).filter (fun n => old.nodes[n]? ≠ new.nodes[n]?)
  let keys := qs.map (fun q => p * 24 + q) ++ ns.map (fun n => p * 24 + 16 + n)
  { s with tm := { s.tm with deficit := s.tm.deficit.filter (fun x => !decide (x.1 % 2 ^ 32 ∈ keys)) } }

/-- The checks of SCHED_SET: the queue WEIGHTs are the second field of pair 0x06. -/
def schedSetChk (e : Env) (s : State) : Chk :=
  let p := e.payload
  let w := fun (x : Sched) => x.queues.map SchedQ.weight
  { present := portThere s (ePort e) 1088
    fields := [below p 0 2 1088, zeroAt p 2 2]
      ++ (List.range 16).flatMap (fun q => [below p (4 + 4 * q) 1 8, below p (5 + 4 * q) 1 8, zeroAt p (7 + 4 * q) 1])
      ++ (List.range 8).flatMap (fun n => [below p (68 + 4 * n) 1 8, within p (69 + 4 * n) 1 1 255, zeroAt p (70 + 4 * n) 2])
    needQuad := if carriesTraffic s (ePort e) && w (schedOfPort (cfg s) (ePort e)) ≠ w (schedOf p) then some 6 else none }

/-- SCHED_SET (R278, R279). -/
def execSchedSet (e : Env) (s : State) : Host.Outcome State Fault Refusal :=
  .next (runStagedV (.schedSet e) 0x0902 (lenIs 100) [⟨0x0902, ePort e, 0⟩] false (schedSetChk e) id []
    (fun s => (resetDeficits (ePort e) (schedOfPort (cfg s) (ePort e)) (schedOf e.payload) (updCfg (cfgUpd s.build (.schedSet e)) s), okV [])) e s)

/-- The flip of a staged SCHED_SET. -/
def schedSetSide (e : Env) (s : State) : State :=
  resetDeficits (ePort e) (schedOfPort (cfgAt s (!s.quad.parity)) (ePort e)) (schedOfPort (cfg s) (ePort e)) s

/-- The checks of SHAPER_SET: a rate or MODE is the shaper-rate field of pair 0x03 (R286). -/
def shaperSetChk (e : Env) (s : State) : Chk :=
  let p := e.payload
  let mode := byteAt p 4
  let none' := mode = 0
  let old := match (cfg s).shaper.get? (shaperKey p) with
    | some x => (x.mode, x.cir, x.pir)
    | none => (0, 0, 0)
  { present := portThere s (ePort e) 1088
    fields := [below p 0 2 1088, below p 2 1 2, (3, decide (byteAt p 3 < if byteAt p 2 = 0 then 16 else 8)),
      (4, decide (mode < 3) && !(decide (mode = 2) && decide (byteAt p 2 = 1))), below p 5 1 2, zeroAt p 6 2,
      (8, if mode = 2 then decide (1 ≤ fld p 8 4) else !none' || decide (fld p 8 4 = 0)),
      (12, if mode = 1 then decide (fld p 8 4 ≤ fld p 12 4) else decide (fld p 12 4 = 0)),
      (16, decide (fld p 16 4 ≤ 16777216) && (!none' || decide (fld p 16 4 = 0))),
      (20, decide (fld p 20 4 ≤ 16777216) && (!none' || decide (fld p 20 4 = 0)) && (mode ≠ 2 || decide (1 ≤ fld p 20 4)))]
    needQuad := if carriesTraffic s (ePort e) && decide (old ≠ (mode, fld p 8 4, fld p 12 4)) then some 3 else none }

/-- SHAPER_SET resets the tokens or credit at the instant it takes effect (R285). -/
def shaperSetSide (e : Env) (s : State) : State :=
  let p := e.payload
  let k := shaperKey p
  match (cfg s).shaper.get? k with
  | none => { s with tm := { s.tm with tokens := s.tm.tokens.del k } }
  | some x => setTokens k (if x.mode = 2 then ⟨0, 0, rawSix s⟩ else freshTokens (byteAt p 5 = 0) (cDepthOf x) x.pburst (rawSix s)) s

/-- SHAPER_SET (R283 to R286). -/
def execShaperSet (e : Env) (s : State) : Host.Outcome State Fault Refusal :=
  .next (runStaged (.shaperSet e) 0x0903 (lenIs 24) [⟨0x0903, ePort e, byteAt e.payload 2 * 32 + byteAt e.payload 3⟩] (shaperSetChk e) (shaperSetSide e) e s)

/-- POLICER_SET resets the buckets at the instant it takes effect (R285). -/
def policerSetSide (e : Env) (s : State) : State :=
  let p := e.payload
  let k := byteAt p 0 * 4096 + fld p 2 2
  match (cfg s).policer.get? k with
  | none => { s with tm := { s.tm with polTokens := s.tm.polTokens.del k } }
  | some x => { s with tm := { s.tm with polTokens := s.tm.polTokens.set k (freshTokens (byteAt p 5 = 0) x.cbs x.pbs (rawSix s)) } }

/-- The checks of POLICER_SET (R287). -/
def policerSetChk (e : Env) (s : State) : Chk :=
  let p := e.payload
  { present := decide (byteAt p 0 < nSlices s)
    fields := [below p 1 1 4, below p 2 2 4096, below p 4 1 3, below p 5 1 2,
      (6, decide (-32 ≤ signedN 8 (byteAt p 6)) && decide (signedN 8 (byteAt p 6) ≤ 32)), zeroAt p 7 1,
      (12, decide (fld p 8 4 ≤ fld p 12 4)), within p 16 4 0 16777216, within p 20 4 0 16777216] }

/-- POLICER_SET (R287). -/
def execPolicerSet (e : Env) (s : State) : Host.Outcome State Fault Refusal :=
  let p := e.payload
  .next (runStaged (.policerSet e) 0x0904 (lenIs 24) [⟨0x0904, byteAt p 0, fld p 2 2⟩]
    (policerSetChk e)
    (policerSetSide e) e s)

/-- UNBLOCK of a stream filter, and a filter that is deleted is blocked no more (R289). -/
def streamFilterSetSide (e : Env) (s : State) : State :=
  let p := e.payload
  if bitN (byteAt p 1) 2 || !bitN (byteAt p 1) 0 then
    { s with tm := { s.tm with blocked := dropFrom s.tm.blocked (byteAt p 0 * 1024 + fld p 2 2) } }
  else s

/-- The checks of STREAM_FILTER_SET (R289). -/
def streamFilterSetChk (e : Env) (s : State) : Chk :=
  let p := e.payload
  let k := byteAt p 0 * 1024 + fld p 2 2
  { present := decide (byteAt p 0 < nSlices s)
    fields := [below p 1 1 8, below p 2 2 1024, below p 4 4 (2 ^ 30),
      (8, decide (fld p 8 2 = 0) || (decide (64 ≤ fld p 8 2) && decide (fld p 8 2 ≤ 16384))),
      (10, decide (fld p 10 2 < 4096) || decide (fld p 10 2 = 0xFFFF)), (12, decide (fld p 12 2 < 1024) || decide (fld p 12 2 = 0xFFFF)),
      (14, decide (byteAt p 14 < 16) && (fld p 12 2 ≠ 0xFFFF || decide (byteAt p 14 = 0))), zeroAt p 15 1]
    st := if bitN (byteAt p 1) 0 && (cfg s).filter.any (fun x => decide (x.1 / 1024 = byteAt p 0) && decide (x.1 ≠ k) && decide (x.2.flow = fld p 4 4))
      then some 0x0A else none }

/-- STREAM_FILTER_SET (R289). -/
def execStreamFilterSet (e : Env) (s : State) : Host.Outcome State Fault Refusal :=
  let p := e.payload
  .next (runStaged (.streamFilterSet e) 0x0905 (lenIs 16) [⟨0x0905, byteAt p 0, fld p 2 2⟩]
    (streamFilterSetChk e)
    (streamFilterSetSide e) e s)

/-- Sample instants count from the setting of their INTERVAL on (SAMPLE_CFG). -/
def sampleCfgSide (e : Env) (s : State) : State := { s with tm := { s.tm with sampled := s.tm.sampled.set (ePort e) (timeNs s) } }

/-- The checks of SAMPLE_CFG (R291). -/
def sampleCfgChk (e : Env) (s : State) : Chk :=
  let p := e.payload
  { present := portThere s (ePort e) 1088, fields := [below p 0 2 1088, within p 4 4 0 1000000] }

/-- SAMPLE_CFG (R291). -/
def execSampleCfg (e : Env) (s : State) : Host.Outcome State Fault Refusal :=
  .next (runStaged (.sampleCfg e) 0x0906 (lenIs 12) [⟨0x0906, ePort e, 0⟩]
    (sampleCfgChk e) (sampleCfgSide e) e s)

/-- A queue's shaper, and its node's, block a release now (R277, R283, R284): whether it blocks, and whether the queue is EXCESS. -/
def shaperView (s : State) (p q : Nat) : Bool × Bool × Int :=
  match (cfg s).shaper.get? (p * 24 + q) with
  | none => (false, false, 0)
  | some x =>
    let t := tokensOf s (p * 24 + q)
    if x.mode = 2 then
      let c := creditAt s p q x t (!(queueOf s (qid p q)).isEmpty) (max (rawSix s) (port s p).modelEnd)
      (decide (c < 0), false, creditAt s p q x t (!(queueOf s (qid p q)).isEmpty) (rawSix s))
    else
      let u := shaperTokens x t (rawSix s)
      (decide (u.p ≤ 0), decide (u.c ≤ 0) && decide (0 < u.p), 0)

/-- The response data of TM_STATUS. -/
def tmStatusData (s : State) (scope sl id : Nat) : List Byte :=
  let ctrs := fun (f : CtrFam) (u : Nat) (is : List Nat) => is.flatMap (fun i => leB 8 (ctrOf s ⟨f, u, 0, i⟩))
  if scope = 0 then
    let p := id / 16
    let q := id % 16
    let x := qstat s id
    let v := shaperView s p q
    let st := b2n (queuePaused s p q) + 2 * b2n (!gateOpenAt (gateRt s p) q (timeSixteenths s)) + 4 * b2n v.1 + 8 * b2n v.2.1
    leB 4 (depthCells s id) ++ leB 4 (queueOf s id).length ++ leB 4 x.maxDepth ++ leB 4 x.maxSojourn ++ leB 4 x.lastSojourn ++ leB 1 st ++ leB 3 0
      ++ leB 4 (unsignedN 32 v.2.2) ++ ctrs .queue id [0, 1, 2, 3, 4]
  else if scope = 2 then
    let k := sl * 4096 + id
    let t := match (cfg s).policer.get? k with
      | none => (0, 0)
      | some x => let u := s.tm.polTokens.getD k ⟨0, 0, 0⟩
                  (bucketAt x.cir x.cbs u.c u.last (rawSix s) / 16, bucketAt x.pir x.pbs u.p u.last (rawSix s) / 16)
    leB 4 (unsignedN 32 t.1) ++ leB 4 (unsignedN 32 t.2) ++ ctrs .policer k [0, 1, 2, 3]
  else if scope = 3 then leB 1 (b2n (decide (sl * 1024 + id ∈ s.tm.blocked))) ++ leB 3 0 ++ ctrs .filter (sl * 1024 + id) [0, 1, 2]
  else if scope = 4 then leB 4 (s.irq.alarmQueue.getD sl 0xFFFFFFFF) ++ leB 4 0 ++ ctrs .tm sl [0, 1, 2]
  else
    let r := s.cap.rings.get? id
    let idx := fun (x : Nat) (size : Nat) => x % size + (x / size % 2) * 65536
    leB 4 (match r with | some r => idx r.prod r.size | none => 0) ++ leB 4 (match r with | some r => idx r.cons r.size | none => 0) ++ ctrs .ring id [0, 1]

/-- What a TM_STATUS read restarts and, with CLEAR, zeroes (R290). -/
def tmStatusRead (clear : Bool) (scope sl id : Nat) (s : State) : State :=
  let s1 := if scope = 0 then updQstat id (fun x => { x with maxDepth := depthCells s id, maxSojourn := 0 }) s else s
  let wipe := fun (f : CtrFam) (u : Nat) => clearCtrs (fun c => decide (c.fam = f) && decide (c.unit = u)) s1
  if !clear then s1
  else if scope = 0 then wipe .queue id else if scope = 2 then wipe .policer (sl * 4096 + id) else if scope = 3 then wipe .filter (sl * 1024 + id)
  else if scope = 4 then wipe .tm sl else wipe .ring id

/-- The checks of TM_STATUS (R290, R507). -/
def tmStatusChk (e : Env) (s : State) : Chk :=
  let p := e.payload
  let scope := byteAt p 0
  let sl := byteAt p 2
  let id := fld p 4 4
  let bound := if scope = 0 then 17408 else if scope = 2 then 4096 else if scope = 3 then 1024 else if scope = 4 then 1 else 16
  { present := (if scope = 0 then portThere s (id / 16) 1088 else true) && (scope < 2 || scope = 5 || 5 < scope || sl < nSlices s)
    fields := [(0, decide (scope < 6) && decide (scope ≠ 1)), below p 1 1 2, zeroAt p 3 1, (4, decide (id < bound))] }

/-- TM_STATUS (R290, R507). -/
def execTmStatus (e : Env) (s : State) : Host.Outcome State Fault Refusal :=
  let p := e.payload
  let scope := byteAt p 0
  let sl := byteAt p 2
  let id := fld p 4 4
  .next (runOk 0x0907 (lenIs 8) (tmStatusChk e s) e
    (fun s => tmStatusData s scope sl id) (tmStatusRead (bitN (byteAt p 1) 0) scope sl id) s)

/-- A sample event of one queue (R291, R295): MAX_SOJOURN_NS of the interval, which then begins anew. -/
def sampleQueue (p : Nat) (at' : Int) (s : State) (q : Nat) : State :=
  let x := qstat s (qid p q)
  updQstat (qid p q) (fun x => { x with intervalMax := 0 })
    (capEvent { point := 5, slice := sliceOf s p, portOut := some (p, q), stampEv := stampBits (16 * at') (2 * b2n (!s.time.valid)), sojourn := x.intervalMax } s).1

/-- The last sample instant at or before now, for an INTERVAL in µs (R291): a whole multiple of it in TIME, or while TIME_VALID is 0 in the 32-bit ns
field of R159. -/
def sampleInstant (s : State) (us : Nat) : Int :=
  let n : Int := 1000 * us
  let t := timeNs s
  if s.time.valid then t / n * n else t / 2 ^ 32 * 2 ^ 32 + t % 2 ^ 32 / n * n

/-- Note that port `p` has taken its sample instants up to now. -/
def noteSampled (p : Nat) (s : State) : State := { s with tm := { s.tm with sampled := s.tm.sampled.set p (timeNs s) } }

/-- SAMPLE: a sample instant of the port has come since the last one taken (R291). Where several have, the last one counts; after a step of TIME backward
the instants come anew. -/
def execSample (p : Nat) (s : State) : Host.Outcome State Fault Refusal :=
  match (cfg s).sample.get? p with
  | none => .next s
  | some c =>
    let t := sampleInstant s c.intervalUs
    if c.intervalUs = 0 then .next s
    else if s.tm.sampled.getD p (timeNs s) < t then .next ((setBits 16 c.qMask).foldl (sampleQueue p t) (noteSampled p s))
    else .next (noteSampled p s)

/-- The checks of FOXTROT_RING_SET (R292). -/
def foxtrotRingSetChk (e : Env) (s : State) : Chk :=
  let p := e.payload
  let r := byteAt p 0
  let valid := bitN (byteAt p 1) 0
  let running := match s.cap.rings.get? r with
    | some x => x.running
    | none => false
  { fields := [below p 0 1 16, below p 1 1 2] ++ (if valid then [within p 2 2 256 4095, (4, isPow2 (fld p 4 4) 16 65536), (8, fld p 8 8 % 128 = 0),
      (16, fld p 16 8 % 8 = 0), within p 24 2 1 1024, within p 26 2 0 1000] else [])
    st := if valid && running then some 0 else none }

/-- The FIFO fills once the records that wait for a stopped ring are given up, as it starts anew (R298). -/
def dropWaiting (r : Option Foxtrot) (fifo : KMap Nat Nat) : KMap Nat Nat :=
  match r with
  | none => fifo
  | some r => r.fifo.foldl (fun m x => m.upd x.1 0 (· - 1)) fifo

/-- FOXTROT_RING_SET (R292): VALID 1 starts a ring anew, VALID 0 stops it once the records in its FIFOs are written. -/
def execFoxtrotRingSet (e : Env) (s : State) : Host.Outcome State Fault Refusal :=
  let p := e.payload
  let r := byteAt p 0
  let valid := bitN (byteAt p 1) 0
  .next (runOk 0x1101 (lenIs 28) (foxtrotRingSetChk e s) e (fun _ => [])
    (fun s => if valid then
        let x : Foxtrot := { vector := fld p 2 2, size := fld p 4 4, base := fld p 8 8, consAddr := fld p 16 8, coalesce := fld p 24 2, coalUs := fld p 26 2 }
        { s with cap := { s.cap with rings := s.cap.rings.set r x, fifo := dropWaiting (s.cap.rings.get? r) s.cap.fifo } }
      else match s.cap.rings.get? r with
        | none => s
        | some x => { s with cap := { s.cap with rings := s.cap.rings.set r { x with running := false } } }) s)

/-- A changed rule restarts its match counts (CAP_RULE_SET). -/
def capRuleSetSide (e : Env) (s : State) : State :=
  { s with cap := { s.cap with matched := s.cap.matched.filter (fun x => decide (x.1 % 64 ≠ byteAt e.payload 0)) } }

/-- The checks of CAP_RULE_SET (R297). -/
def capRuleSetChk (e : Env) (s : State) : Chk :=
  let p := e.payload
  let pt := byteAt p 1
  { present := decide (fld p 2 2 = 0xFFFF) || portThere s (fld p 2 2) 1088
    fields := [below p 0 1 64, below p 1 1 6, (2, decide (fld p 2 2 < 1088) || decide (fld p 2 2 = 0xFFFF)), within p 6 2 1 65535,
      (8, decide (fld p 8 4 < 2 ^ 30) && decide (Nat.land (fld p 8 4) (fld p 12 4) = fld p 8 4)), below p 12 4 (2 ^ 30),
      (16, decide (pt = 2) || decide (pt = 3) || decide (fld p 16 4 = 0)), (20, decide (byteAt p 20 < 16) || decide (byteAt p 20 = 0xFF)),
      (21, (decide (byteAt p 21 < 16) && (decide (pt = 0) || decide (pt = 2))) || (decide (byteAt p 21 = 0xFF) && decide (byteAt p 20 ≠ 0xFF))),
      within p 22 1 0 96, zeroAt p 23 1] }

/-- CAP_RULE_SET (R297). -/
def execCapRuleSet (e : Env) (s : State) : Host.Outcome State Fault Refusal :=
  let p := e.payload
  .next (runStaged (.capRuleSet e) 0x1102 (lenIs 24) [⟨0x1102, byteAt p 0, 0⟩]
    (capRuleSetChk e)
    (capRuleSetSide e) e s)

/-- The checks of MIRROR_SET (R300). -/
def mirrorSetChk (e : Env) (s : State) : Chk :=
  let p := e.payload
  { present := portThere s (fld p 2 2) 1088
    fields := [below p 0 1 16, below p 1 1 2, below p 2 2 1088, below p 4 1 16, zeroAt p 5 1,
      (6, decide (fld p 6 2 = 0) || (decide (64 ≤ fld p 6 2) && decide (fld p 6 2 ≤ 16384))), within p 8 2 1 4096, zeroAt p 10 2] }

/-- MIRROR_SET (R300). -/
def execMirrorSet (e : Env) (s : State) : Host.Outcome State Fault Refusal :=
  let p := e.payload
  .next (runStaged (.mirrorSet e) 0x1103 (lenIs 12) [⟨0x1103, byteAt p 0, 0⟩]
    (mirrorSetChk e) id e s)

/-- CAP_ENABLE (R297). -/
def execCapEnable (e : Env) (s : State) : Host.Outcome State Fault Refusal :=
  .next (runStaged (.capEnable e) 0x1104 (lenIs 8) [⟨0x1104, 0, 0⟩] (fun _ => {}) id e s)

/-- The producer finds the ring full (R292). -/
def foxFull (r : Foxtrot) : Bool := (r.prod + 2 * r.size - r.cons) % (2 * r.size) = r.size

/-- The producer may read CONS_ADDR of a full ring: it has not read it in this spell, or 1 µs ago (R293). -/
def pollDue (s : State) (r : Foxtrot) : Bool :=
  match r.lastPoll with
  | none => true
  | some t => decide (t + 1000 ≤ rawNs s)

/-- FOXTROT_RECORD_WRITE: the oldest waiting record of a ring is written, second half first, or discarded when the ring is full (R293, R294). -/
def execFoxtrotRecordWrite (ring : Nat) (s : State) : Host.Outcome State Fault Refusal :=
  match s.cap.rings.get? ring with
  | none => .next s
  | some r =>
    match r.fifo with
    | [] => .next s
    | (sl, bytes) :: rest =>
      let s0 := { s with cap := { s.cap with fifo := s.cap.fifo.upd sl 0 (· - 1) } }
      if foxFull r then .next (bump ⟨.ring, ring, 0, 1⟩ { s0 with cap := { s0.cap with rings := s0.cap.rings.set ring { r with fifo := rest } } })
      else
        let b := patch bytes 0 [BitVec.ofNat 8 (byteAt bytes 0 + b2n r.phase)]
        let addr := r.base + 128 * (r.prod % r.size)
        let prod := (r.prod + 1) % (2 * r.size)
        let raise := r.coalesce ≤ r.since + 1
        let r' := { r with fifo := rest, prod, phase := if prod % r.size = 0 then !r.phase else r.phase
                           since := if raise then 0 else r.since + 1, sinceAt := if r.since = 0 then rawNs s else r.sinceAt }
        let s1 := { s0 with cap := { s0.cap with rings := s0.cap.rings.set ring r' } }
        let s2 := bump ⟨.ring, ring, 0, 0⟩ (hpiWrite addr (sub b 0 64) (hpiWrite (addr + 64) (sub b 64 64) s1))
        .next (if raise then fire r.vector s2 else s2)

/-- FOXTROT_CONS_POLL: a full ring's CONS_ADDR has been read, at once as it becomes full and at most once per 1 µs while it stays full (R292, R293). -/
def execFoxtrotConsPoll (ring : Nat) (word : Word) (s : State) : Host.Outcome State Fault Refusal :=
  match s.cap.rings.get? ring with
  | none => .next s
  | some r =>
    if foxFull r && pollDue s r then
      let w := word.toNat
      let cons := ((w % 65536) % r.size + (if bitN w 16 then r.size else 0))
      .next <| hpiRead r.consAddr 4 { s with cap := { s.cap with rings := s.cap.rings.set ring { r with cons, lastPoll := if foxFull { r with cons } then some (rawNs s) else none } } }
    else .next s

end Sys2Proof.Machine
end

