-- ==== Sys2Proof/Machine/Sched.lean ====
section
/-! DEFINITION. The scheduler: what may be released, standings, deficit round robin, what a release charges (R277 to R284, R308, R311, R312). -/

namespace Sys2Proof.Machine

/-- Preemption is ACTIVE on a port, so that it has two hierarchies (R282). -/
def twoTrees (s : State) (p : Nat) : Bool := !isHostPort p && decide ((port s p).pre = .active)

/-- Queue `q` is preemptable while preemption is ACTIVE: hierarchy 1 of the port, else 0 (R282). -/
def treeOf (s : State) (p q : Nat) : Nat := if twoTrees s p && bitN ((cfg s).preempt.getD p {}).mask q then 1 else 0

/-- What a port has released and not fully transmitted, in a hierarchy (R281). -/
def outstanding (s : State) (p h : Nat) : List Copy :=
  let x := port s p
  let tx := fun (t : Option TxCur) => match t with | some ⟨.copy c, _, _, _, _, _⟩ => [c] | _ => []
  (unbegun s p ++ tx x.cur ++ tx x.preempted).filter (fun c => decide (treeOf s p c.q = h))

/-- PACE_LIMIT, the port rate × 160 ns, leaves room for a release, and one copy is always let out (R281). -/
def paceRoom (s : State) (p h : Nat) : Bool :=
  let l := outstanding s p h
  l.isEmpty || decide (50 * sumOf Copy.charged l < rateOf s (cfg s) p)

/-- The bytes by which the guard judges a copy: all of it, or the first fragment of a preemptable one (R308, R312). -/
def guardBytes (s : State) (c : Copy) : Nat :=
  if treeOf s c.port c.q = 1 then
    min (chargedLen s c) (64 * (1 + ((cfg s).preempt.getD c.port {}).addFrag) + overheadOf (cfg s) c.port)
  else chargedLen s c

/-- The projected end of the copies released before on a hierarchy. -/
def treeEnd (s : State) (p h : Nat) : Int := if h = 1 then (port s p).wireEndP else (port s p).wireEnd

/-- The projected wire start of the next copy of a hierarchy, in 1/16 ns of TIME (R308). -/
def projStart (s : State) (p h : Nat) : Int := max (timeSixteenths s + 2240 + (port s p).txLat / 16) (treeEnd s p h)

/-- The gate guard passes a copy (R308, R312). -/
def guardPasses (s : State) (c : Copy) : Bool :=
  let h := treeOf s c.port c.q
  let r := gateRt s c.port
  let st := projStart s c.port h
  let dur := wireTime s c.port (guardBytes s c)
  fitsAt r c.q st dur && (h = 0 || (!r.hold && (match nextHold r (timeSixteenths s) with
    | some x => decide (st + dur ≤ x)
    | none => true)))

/-- A copy longer than its queue's MAX_WINDOW (R311). -/
def tooLongForGate (s : State) (c : Copy) : Bool :=
  match portMaxWindow s c.port c.q with
  | none => false
  | some w => decide (16 * w < wireTime s c.port (guardBytes s c))

/-- Standing of a token-bucket child: 2 COMMITTED, 1 EXCESS, 0 neither (R278). -/
def bucketStanding (s : State) (key : Nat) : Nat :=
  match (cfg s).shaper.get? key with
  | none => 2
  | some x =>
    let t := shaperTokens x (tokensOf s key) (rawSix s)
    if t.p ≤ 0 then 0 else if t.c ≤ 0 then 1 else 2

/-- Standing of a queue (R278): a CBS queue whose credit permits release is COMMITTED. -/
def queueStanding (s : State) (p q : Nat) : Nat :=
  let v := shaperView s p q
  if v.1 then 0 else if v.2.1 then 1 else 2

/-- A copy of a host port does not wait for a receive buffer; any other never does. -/
def receiverReady (s : State) (c : Copy) : Bool :=
  !isHostPort c.port || (match storedOf s c.frame with
    | none => true
    | some x =>
      let sh := egressShape s x.c c.port
      hostReady s c.port c.q { x.c with guarded := guardedCopy s c } (padded sh.data) sh.hdrs)

/-- A child of a group: its number, PRIO, WEIGHT, whether it is COMMITTED, and the charged length of its head copy. -/
structure Child where
  num : Nat
  prio : Nat
  weight : Nat
  committed : Bool
  len : Nat
deriving DecidableEq, Repr

/-- An eligible queue of a hierarchy, as a child of its node (R277, R278). -/
def queueChild (s : State) (p h q : Nat) : Option Child :=
  match queueOf s (qid p q), (schedOfPort (cfg s) p).queues[q]? with
  | c :: _, some x =>
    let st := queueStanding s p q
    if treeOf s p q = h && bitN (qmapOf (cfg s) p).mapped q && portUp s p && !queuePaused s p q && st ≠ 0 && guardPasses s c && receiverReady s c then
      some ⟨q, x.prio, x.weight, st = 2, chargedLen s c⟩
    else none
  | _, _ => none

/-- The children among which a group picks: the COMMITTED ones, else the EXCESS ones, of the highest PRIO (R278). -/
def candidates (l : List Child) : List Child :=
  let a := l.filter Child.committed
  let b := if a.isEmpty then l else a
  let top := b.foldl (fun n c => max n c.prio) 0
  b.filter (fun c => decide (c.prio = top))

/-- Deficits and pointers. -/
structure Drr where
  deficit : KMap Nat Nat
  pointer : KMap Nat Nat

/-- The next candidate in ascending number, cyclically. -/
def drrNext (l : List Child) (ptr : Nat) : Option Child :=
  match l.find? (fun c => decide (ptr < c.num)) with
  | some c => some c
  | none => l.head?

/-- Deficit round robin (R279): the child under the pointer releases while its deficit suffices; else the pointer moves on and the next child's
deficit rises by its quantum. -/
def drrRun (key : Nat → Nat) (pkey : Nat) (l : List Child) : Nat → Drr → Option (Child × Drr)
  | 0, _ => none
  | n + 1, d =>
    let ptr := d.pointer.getD pkey 0
    match l.find? (fun c => decide (c.num = ptr) && decide (c.len ≤ d.deficit.getD (key c.num) 0)) with
    | some c => some (c, d)
    | none => match drrNext l ptr with
      | none => none
      | some c =>
        let quantum := c.weight * 256
        drrRun key pkey l n ⟨d.deficit.upd (key c.num) 0 (fun v => min (v + quantum) (quantum + 16416)), d.pointer.set pkey c.num⟩

/-- The key of the pointer of a group of equal PRIO (R279), of a node's or a port's key and its PRIO. -/
def groupKey (pkey prio : Nat) : Nat := pkey * 256 + prio

/-- Pick a child of a group (R278, R279): each group of equal PRIO has its own pointer. -/
def pickChild (key : Nat → Nat) (pkey : Nat) (l : List Child) (d : Drr) : Option (Child × Drr) :=
  let c := candidates l
  drrRun key (groupKey pkey (c.foldl (fun n x => max n x.prio) 0)) c 2048 d

/-- A node as a child of its port, with the queue that it would pick (R278): none without an eligible queue, or when its own shaper blocks it. -/
def nodeChild (s : State) (p h : Nat) (qs : List Child) (d : Drr) (n : Nat) : Option (Child × Child × Drr) :=
  let x := schedOfPort (cfg s) p
  let mine := qs.filter (fun c => match x.queues[c.num]? with | some y => decide (y.parent = n) | none => false)
  let own := bucketStanding s (p * 24 + 16 + n)
  match x.nodes[n]? with
  | none => none
  | some y =>
    if mine.isEmpty || own = 0 then none
    else (pickChild (fun q => treeKey h (p * 24 + q)) (treeKey h (p * 9 + n)) mine d).map
      (fun r => (⟨n, y.prio, y.weight, own = 2 && mine.any Child.committed, r.1.len⟩, r.1, r.2))

/-- What the scheduler picks on a hierarchy of a port: the node, the queue, and the deficits and pointers after (R278). -/
def schedPick (s : State) (p h : Nat) : Option (Child × Child × Drr) :=
  let d : Drr := ⟨s.tm.deficit, s.tm.pointer⟩
  let qs := (List.range 16).filterMap (queueChild s p h)
  let ns := (List.range 8).filterMap (nodeChild s p h qs d)
  match pickChild (fun n => treeKey h (p * 24 + 16 + n)) (treeKey h (p * 9 + 8)) (ns.map (fun x => x.1)) d with
  | none => none
  | some (n, d1) => match ns.find? (fun x => decide (x.1.num = n.num)) with
    | none => none
    | some (_, q, d2) =>
      -- the chosen node's own group moves as its pick did
      let dk := (List.range 16).map (fun i => treeKey h (p * 24 + i))
      let d3 := dk.foldl (fun m k => match d2.deficit.get? k with | some v => m.set k v | none => m) d1.deficit
      let pk := groupKey (treeKey h (p * 9 + n.num)) q.prio
      some (n, q, ⟨d3, d1.pointer.set pk (d2.pointer.getD pk 0)⟩)

/-- Charge a token bucket for a release (R283). -/
def chargeBucket (key len : Nat) (committed : Bool) (s : State) : State :=
  match (cfg s).shaper.get? key with
  | none => s
  | some x =>
    let t := shaperTokens x (tokensOf s key) (rawSix s)
    setTokens key ⟨if committed then t.c - 16 * len else t.c, t.p - 16 * len, rawSix s⟩ s

/-- Charge a queue's shaper for a release: a CBS queue's credit by length × S / R, from its modelled start (R284). -/
def chargeQueue (p q len : Nat) (committed : Bool) (s : State) : State :=
  let key := p * 24 + q
  match (cfg s).shaper.get? key with
  | none => s
  | some x =>
    if x.mode ≠ 2 then chargeBucket key len committed s
    else
      let r : Int := rateOf s (cfg s) p * 1000
      let start := max (rawSix s) (port s p).modelEnd
      let c := creditAt s p q x (tokensOf s key) true start
      let v := c + (256 * (len : Int) * ((x.cir : Int) - r)) / max r 1
      setTokens key ⟨max v (-(256 * (x.pburst : Int))), 0, start + wireTime s p len⟩ s

/-- Take the head copy off a queue with everything that its release charges (R279, R281, R283, R284). -/
def chargeRelease (p h : Nat) (n q : Child) (d : Drr) (s : State) : State :=
  let kq := treeKey h (p * 24 + q.num)
  let kn := treeKey h (p * 24 + 16 + n.num)
  let s1 := chargeBucket (p * 24 + 16 + n.num) q.len n.committed (chargeQueue p q.num q.len q.committed s)
  let s2 := setQueue (qid p q.num) ((queueOf s (qid p q.num)).drop 1) s1
  let left := fun (i : Nat) => (queueOf s2 (qid p i)).isEmpty
  let x := schedOfPort (cfg s) p
  let nodeEmpty := (List.range 16).all (fun i => left i || (match x.queues[i]? with | some y => decide (y.parent ≠ n.num) | none => true))
  let d1 := d.deficit.upd kq 0 (fun v => if left q.num then 0 else v - q.len)
  let d2 := d1.upd kn 0 (fun v => if nodeEmpty then 0 else v - q.len)
  let s3 := updPort p (fun x => { x with modelEnd := max (rawSix s) x.modelEnd + wireTime s p q.len }) s2
  { s3 with tm := { s3.tm with deficit := d2, pointer := d.pointer, releases := s3.tm.releases + 1 } }

end Sys2Proof.Machine
end

