-- ==== Sys2Proof/Machine/Egress.lean ====
section
/-! DEFINITION. Release of copies: statistics, buffer reads, multicast store, tags, E2; ageing; the DONE log and recovery of a slice core
(R28, R208, R245, R266, R278 to R284, R290, R311, R328, R334 to R337, R343, R350, R356). -/

namespace Sys2Proof.Machine

/-! Statistics. -/

/-- A release whose sojourn exceeds DELAY_ALARM (R291). -/
def delayAlarm (p q sojourn : Nat) (s : State) : State :=
  let sl := sliceOf s p
  match (cfg s).sample.get? p with
  | none => s
  | some x =>
    if x.alarmNs ≠ 0 && bitN x.qMask q && decide (x.alarmNs < sojourn) && dueMs s (slice s sl).alarmAt then
      sliceCause sl 3 (updSlice sl (fun y => { y with alarmAt := some (rawNs s) })
        { s with irq := { s.irq with alarmQueue := s.irq.alarmQueue.set sl (qid p q) } })
    else s

/-- The sojourn of a copy released now (R290). -/
def sojournOf (s : State) (c : Copy) : Nat := min (2 ^ 32 - 1) (max 0 (timeNs s - c.enq)).toNat

/-- The statistics of a release (R290, R291). -/
def releaseStats (c : Copy) (s : State) : State :=
  let id := qid c.port c.q
  let t := sojournOf s c
  let s1 := addCtr ⟨.queue, id, 0, 2⟩ t (addCtr ⟨.queue, id, 0, 1⟩ c.len (bump ⟨.queue, id, 0, 0⟩ s))
  delayAlarm c.port c.q t (updQstat id (fun x => { x with maxSojourn := max x.maxSojourn t, lastSojourn := t, intervalMax := max x.intervalMax t }) s1)

/-! Reads of the buffer. -/

/-- Another copy of a copy's delivery group is still held (R337): on a queue, in flight, or in the handoff store. -/
def groupHeld (s : State) (c : Copy) (x : Stored) : Bool :=
  let peer := fun (d : Copy) => decide (d.frame = c.frame) && decide (d.group = c.group) && decide (d.port ≠ c.port) && d.mirror.isNone
  s.tm.queues.any (fun q => q.2.any peer) || s.slices.any (fun t => t.2.inFlight.any peer)
    || x.c.copies.any (fun y => decide (y.1 ≠ c.port) && decide (sliceOf s y.1 ∈ x.marks) && decide (groupOf (cfg s) x.c y.1 = c.group))

/-- Count a copy of an admitted guarded frame that is discarded (R16, R337): REPLICA_AGED while its delivery group has a DONE or another copy, else AGED
with the flow's age event. Only ageing names these counters; that every other discard of such a copy counts in them too is a DESIGN CHOICE (log 105). -/
def countLoss (c : Copy) (x : Stored) (s : State) : State :=
  let sl := sliceOf s c.port
  if !guardedCopy s c then s
  else if c.group ∈ x.doneGroups || groupHeld s c x then flowCount x.c.flow sl 4 s else flowEvent x.c.flow 0 (flowCount x.c.flow sl 3 s)

/-- Bad cells of a chain: those in the banks that a read finds bad. -/
def badIn (banks : List Nat) (cells : List Nat) : List Nat := cells.filter (fun c => decide (bankOf c ∈ banks))

/-- Copies of a frame that wait: on queues, released and unbegun, and those that a slice has still to take (R245). -/
def waitingCopies (s : State) (f : Nat) (x : Stored) : List (Nat × Nat) :=
  let mine := fun (c : Copy) => decide (c.frame = f)
  ((s.tm.queues.vals.flatten ++ s.ports.keys.flatMap (unbegun s)).filter mine).map (fun c => (c.port, c.q))
    ++ (copiesIn x.c (fun p => decide (sliceOf s p ∈ x.marks))) ++ (x.c.mirrors.filter (fun m => decide (sliceOf s m.2.1 ∈ x.marks))).map Prod.snd

/-- Stomp a frame's copies in transmission on a port (R245). -/
def stompFrameAt (f : Nat) (s : State) (p : Nat) : State :=
  let isF := fun (t : Option TxCur) => match t with | some ⟨.copy c, _, _, _, _, _⟩ => decide (c.frame = f) | _ => false
  let x := port s p
  let s1 := match x.cur with
    | some t => if isF x.cur then bump ⟨.block, 0, 0, 1⟩ (stompItem p t (updPort p (fun x => { x with cur := none }) s)) else s
    | none => s
  match x.preempted with
  | some t => if isF x.preempted then bump ⟨.block, 0, 0, 1⟩ (stompItem p t (updPort p (fun x => { x with preempted := none }) s1)) else s1
  | none => s1

/-- Discard every copy of an unguarded frame with a bad cell (R245): those not begun are discarded, those in transmission stomped, each counting
BANK_ERR_DROP. `now` is the copy that is being read. -/
def dropBadFrame (f : Nat) (x : Stored) (now : Nat × Nat) (s : State) : State :=
  let gone := now :: waitingCopies s f x
  let s1 := s.ports.keys.foldl (stompFrameAt f) s
  let other := fun (c : Copy) => decide (c.frame ≠ f)
  let s2 := { s1 with tm := { s1.tm with queues := s1.tm.queues.mapV (fun _ l => l.filter other) }
                      ports := s1.ports.mapV (fun _ y => { y with
                        pacing := y.pacing.filter other, fifo := y.fifo.filter (fun t => match t with | .copy c => other c | .own _ _ => true) }) }
  let s3 := gone.foldl (fun s o => capDrop (sliceOf s o.1) 0x0E x.c (some o) (bump ⟨.block, 0, 0, 1⟩ s)) s2
  freeIfDone f (updStored f (fun y => { y with left := 0, marks := [] }) s3)

/-- The bad cells of a chain are noted, and their banks are faulty (R30, R245). -/
def noteBad (bad : List Nat) (s : State) : State :=
  (bad.foldl (fun l b => addTo l (bankOf b)) []).foldl (fun s b => memFault b s) { s with buf := { s.buf with badCells := bad.foldl addTo s.buf.badCells } }

/-- A guarded copy beyond its hops counts in REPLICA_AGED whatever its group (R350); the last one without a DONE raises the flow's event (R16). -/
def countHopLoss (c : Copy) (x : Stored) (s : State) : State :=
  if !guardedCopy s c then s
  else
    let s1 := flowCount x.c.flow (sliceOf s c.port) 4 s
    if c.group ∈ x.doneGroups || groupHeld s c x then s1 else flowEvent x.c.flow 0 s1

/-- Read a copy's frame from the buffer (R245, R328): whether the copy goes on. A guarded frame is read from its replica chain from its first bad primary
cell on; when that is bad too, both faults are reported and the copy is lost and counted (R16, R17; log 48). -/
def readBuffer (c : Copy) (x : Stored) (banks : List Nat) (s : State) : Bool × State :=
  let chain := if x.onReplica then x.c.replica else x.c.cells
  let bad := badIn banks chain
  if bad.isEmpty then (true, s)
  else
    let s1 := noteBad bad s
    if !x.c.guarded then (false, dropBadFrame c.frame x (c.port, c.q) s1)
    else
      let k := (chain.findIdx? (fun b => decide (b ∈ bad))).getD 0
      let second := if x.onReplica then [] else badIn banks (x.c.replica.drop k)
      if !x.onReplica && second.isEmpty then
        (true, flowCount x.c.flow (sliceOf s c.port) 13 (updStored c.frame (fun y => { y with onReplica := true }) s1))
      else (false, discardCopy 0x0E c (countLoss c x (bump ⟨.block, 0, 0, 1⟩ (noteBad second s1))))

/-- Bytes in a slice's multicast store (R266). -/
def mcastFill (s : State) (sl : Nat) : Nat := sumOf (fun x => if x.2.mcast.has sl then 256 * x.2.c.cells.length else 0) s.buf.frames

/-- The multicast store as a copy is scheduled (R266): whether the buffer is read for it, and the state after. -/
def mcastRead (c : Copy) (x : Stored) (s : State) : Bool × State :=
  let sl := sliceOf s c.port
  if !x.c.flood || c.mirror.isSome then (true, s)
  else if !x.read then
    let sls := (x.c.copies.map (fun y => sliceOf s y.1)).foldl addTo []
    let fits := sls.filter (fun t => decide (mcastFill s t + 256 * x.c.cells.length ≤ 131072))
    (true, updStored c.frame (fun y => { y with read := true, mcast := fits.map (fun t => (t, rawNs s)) }) s)
  else if x.mcast.has sl then (false, s)
  else (true, fwdCount sl 11 s)

/-- A frame leaves a slice's multicast store once the slice has taken every copy it holds (R266). -/
def mcastTaken (f sl : Nat) (s : State) : State :=
  match storedOf s f with
  | none => s
  | some x =>
    if sl ∈ x.marks || s.tm.queues.any (fun q => decide (sliceOf s (q.1 / 16) = sl) && q.2.any (fun c => decide (c.frame = f))) then s
    else updStored f (fun y => { y with mcast := y.mcast.del sl }) s

/-- MCAST_STORE_EXPIRY: 10 µs have passed (R266). -/
def execMcastStoreExpiry (sl f : Nat) (s : State) : Host.Outcome State Fault Refusal :=
  .next (match (storedOf s f).bind (fun x => x.mcast.get? sl) with
    | none => s
    | some t => if t + 10000 ≤ rawNs s then updStored f (fun y => { y with mcast := y.mcast.del sl }) s else s)

/-! Release. -/

/-- A copy for a domain port that may not go out, with the SEZAL_STATUS counter (R350, R356): 2 LOOP_DROP, 4 HOP_LIMIT. -/
def domainStop (s : State) (k : Classified) (p : Nat) : Option Nat :=
  if !(cfg s).domPort.has p then none
  else if s.sez.idConflict then some 2
  else if k.sezal && decide (16 ≤ tagHops (sub k.frame.data 12 16)) then some 4
  else none

/-- A copy's frame as it enters E2: shaped, with an HSR tag of its node (R342, R343, R347). -/
def shapedCopy (s : State) (c : Copy) (k : Classified) : Shape :=
  let x := egressShape s k c.port
  match c.node with
  | some (2, num, path) => shapeIns 12 (sub (hsrTagged x.data num path) 12 6) x
  | _ => x

/-- M0 to M31 as a copy enters E2 (R211, R212). -/
def egressWords (c : Copy) (k : Classified) (m : List Word) : List Word :=
  (m.take 16).set 6 (BitVec.ofNat 32 (c.port + c.q * 2 ^ 11 + (if k.guarded then k.seq.getD 0 else 0) * 65536)) ++ List.replicate 16 0

/-- Run a copy through E2 (kind 2) or E3 (kind 3), by the parity in force at its release (R111). -/
def egressPass (kind : Nat) (c : Copy) (k : Classified) (data : List Byte) (m : List Word) (hdrs : List Hdr) (faults : LookupFaults) (s : State) : State × EzPass :=
  runPass { kind, slice := sliceOf s c.port, epoch := c.epoch, defPort := c.port, portIn := k.frame.portIn, data, m, parse := { k.parse with hdrs }, faults } s

/-- An egress engine's DROP of a copy (R228): none goes on; a guarded copy is never discarded by a program. -/
def egressDrop (kind : Nat) (c : Copy) (r : EzPass) (s : State) : Option State × State :=
  let g := 4 * sliceOf s c.port + kind
  if !r.drop then (none, s)
  else if guardedCopy s c then (none, bump (engCtr g 2) s)
  else (some (discardCopy 8 c (bump (engCtr g 1) s)), s)

/-- The mirror copies that the sessions of POINT 2 make of a release (R300). -/
def releaseMirror (f : Nat) (s : State) (sess : Nat) : State :=
  match (cfg s).mirror.get? sess, storedOf s f with
  | some m, some x => enqueueMirror (mirrorCopy s f sess m.port m.q x.c) (updStored f (fun y => { y with left := y.left + 1 }) s)
  | _, _ => s

/-- Put a copy that has passed E2 into its pacing queue (R208, R281, R284, R308, R334). -/
def paceCopy (h : Nat) (c : Copy) (len : Nat) (r : EzPass) (t : Nat) (s : State) : State :=
  let p := c.port
  let fin := projStart s p h + wireTime s p len
  let c1 := { c with data := r.data, m := r.m, hdrs := r.hdrs, charged := len, wireEnd := fin, sojourn := t, relOrder := s.tm.releases }
  let s1 := updPort p (fun x => { x with
    pacing := x.pacing ++ [c1], wireEnd := if h = 1 then x.wireEnd else fin, wireEndP := if h = 1 then fin else x.wireEndP }) s
  if guardedCopy s c then updSlice (sliceOf s p) (fun x => { x with inFlight := x.inFlight ++ [c1] }) s1 else s1

/-- Release the head copy that the scheduler has picked. -/
def releaseCopy (h : Nat) (c0 : Copy) (len : Nat) (reads : CellReads) (s : State) : State :=
  let c := { c0 with epoch := s.quad.parity }
  let t := sojournOf s c
  let s1 := reads.corrected.foldl (fun s b => countCorrected b s) (releaseStats c s)
  match storedOf s1 c.frame with
  | none => s1
  | some x =>
    let (needs, s2) := mcastRead c x s1
    let (ok, s3) := if needs then readBuffer c x reads.badBanks s2 else (true, s2)
    let s4 := mcastTaken c.frame (sliceOf s c.port) s3
    if !ok then s4
    else match domainStop s4 x.c c.port with
      | some i =>
        let s5 := sezCount i s4
        copyEnds c.frame (if i = 4 then countHopLoss c x s5 else countLoss c x s5)
      | none =>
        let sh := shapedCopy s4 c x.c
        let ev := capEvent { point := 2, slice := sliceOf s c.port, portIn := x.c.frame.portIn, portOut := some (c.port, c.q), flow := x.c.flow
                             guarded := guardedCopy s c, mcast := decide (1 < x.c.copies.length), stampIn := stampBits x.c.frame.stamp x.c.frame.stampFlags
                             stampEv := stampNow s (sliceOf s c.port), len := c.len, sojourn := t, data := sh.data } s4
        let s5 := ev.2.foldl (releaseMirror c.frame) ev.1
        let (s6, r) := egressPass 2 c x.c sh.data (egressWords c x.c sh.m) sh.hdrs reads.faults s5
        match egressDrop 2 c r s6 with
        | (some gone, _) => gone
        | (none, s7) => paceCopy h c len r t s7

/-- Head copies that their gate can never pass (R311): unguarded ones are discarded, a guarded one raises GATE_BLOCK. -/
def sweepGate (p q : Nat) : Nat → State → State
  | 0, s => s
  | n + 1, s =>
    match queueOf s (qid p q) with
    | [] => s
    | c :: rest =>
      if !tooLongForGate s c then s
      else if guardedCopy s c then
        let sl := sliceOf s p
        if dueMs s (slice s sl).gateBlockAt then sliceCause sl 4 (updSlice sl (fun x => { x with gateBlockAt := some (rawNs s) }) s) else s
      else sweepGate p q n (copyEnds c.frame (bump ⟨.gate, p, 0, 2⟩ (setQueue (qid p q) rest s)))

/-- The hierarchy and pick of a port's next release: the express hierarchy first (R278, R282). -/
def nextRelease (s : State) (p : Nat) : Option (Nat × Child × Child × Drr) :=
  (if twoTrees s p then [0, 1] else [0]).findSome? (fun h => if paceRoom s p h then (schedPick s p h).map (fun r => (h, r.1, r.2.1, r.2.2)) else none)

/-- SCHED_RELEASE, while the slice core and the centre run (R23, R208, R277 to R284). -/
def execSchedRelease (p : Nat) (reads : CellReads) (s : State) : Host.Outcome State Fault Refusal :=
  let sl := sliceOf s p
  .next (if !coreRuns s sl || !centreRuns s || engineHolds s (4 * sl + 2) || !portUp s p then s
    else
      let s0 := (List.range 16).foldl (fun s q => sweepGate p q (queueOf s (qid p q)).length s) s
      match nextRelease s0 p with
      | none => s0
      | some (h, n, q, d) => match queueOf s0 (qid p q.num) with
        | [] => s0
        | c :: _ => releaseCopy h c q.len reads (chargeRelease p h n q d s0))

/-- Data of a mirror copy cut to TRUNCATE (R300). -/
def cutMirror (s : State) (c : Copy) (d : List Byte) : List Byte :=
  match c.mirror.bind (fun n => (cfg s).mirror.get? n) with
  | some m => if m.truncate = 0 then d else d.take (m.truncate - 4)
  | none => d

/-- The bytes that a PRP node's trailer adds to a copy (R342). -/
def trailerBytes (c : Copy) : Nat := match c.node with
  | some (1, _, _) => 6
  | _ => 0

/-- E3_PASS: the oldest copy of a pacing queue goes through E3 to the port front; one beyond MAX_FRAME is never started (R130, R208, R222). -/
def execE3Pass (p : Nat) (faults : LookupFaults) (s : State) : Host.Outcome State Fault Refusal :=
  let sl := sliceOf s p
  .next (match (port s p).pacing with
    | [] => s
    | c :: rest =>
      if !coreRuns s sl || engineHolds s (4 * sl + 3) then s
      else
        let s0 := updPort p (fun x => { x with pacing := rest }) s
        match storedOf s0 c.frame with
        | none => s0
        | some x =>
          let (s1, r) := egressPass 3 c x.c c.data c.m c.hdrs faults s0
          match egressDrop 3 c r s1 with
          | (some gone, _) => gone
          | (none, s2) =>
            let c1 := { c with data := cutMirror s2 c r.data, m := r.m, hdrs := r.hdrs }
            if !isHostPort p && decide (maxFrame (cfgAt s2 c.epoch) p < wireLen c1.data + trailerBytes c) then
              noteEmpty p (copyEnds c.frame (countLoss c x (dropInFlight sl [c] (bump (pCtr p 12) s2))))
            else updPort p (fun x => { x with fifo := x.fifo ++ [.copy c1] }) s2)

/-! The DONE log and recovery. -/

/-- The slice clocks of a hold of the DONE log that have passed since it was last counted, in DONE_LOG_STALL (R32, R133). -/
def countStall (sl : Nat) (s : State) : State :=
  match (slice s sl).stallFrom with
  | none => s
  | some t =>
    let n := (raw16 s - t) * 8 / (5 * 65536)
    addCtr (sCtr sl 2) n (updSlice sl (fun x => { x with stallFrom := some (t + n * (5 * 65536) / 8) }) s)

/-- Consume a DONE entry (R28, R133, R334): the copy has left, and its delivery group has a DONE (R337). -/
def consumeDone (sl : Nat) (e : DoneEntry) (s : State) : State :=
  copyEnds e.copy.frame (updStored e.copy.frame (fun x => { x with doneGroups := addTo x.doneGroups e.copy.group })
    (flowCount e.flow sl 6 (dropInFlight sl [e.copy] s)))

/-- Put stomped or cut-off copies back at the heads of their queues (R334, R335). -/
def resend (sl : Nat) (cs : List Copy) (s : State) : State :=
  cs.foldl (fun s c => countResent c s) (putBack cs (dropInFlight sl cs s))

/-- DONE_LOG_CONSUME: the oldest entry of a slice's log (R133, R334, R335). -/
def execDoneLogConsume (sl : Nat) (s : State) : Host.Outcome State Fault Refusal :=
  .next (match (slice s sl).doneLog with
    | [] => s
    | e :: rest =>
      if !coreRuns s sl then s
      else
        let s1 := updSlice sl (fun x => { x with doneLog := rest, stallFrom := if rest.length < 512 then none else x.stallFrom }) (countStall sl s)
        if e.done then consumeDone sl e s1 else resend sl [e.copy] s1)

/-- A copy that the host queue engine holds: its completion is not acknowledged yet (R435). -/
def atHost (s : State) (c : Copy) : Bool :=
  isHostPort c.port && s.hq.sq.any (fun q => decide (q.2.hostPort + 1024 = c.port) && q.2.works.any (fun w => decide (w.doneFor = some (c.frame, c.group))))

/-- A copy that its port front is still sending: its entry is yet to come (R132). -/
def inTransmission (s : State) (c : Copy) : Bool :=
  let isC := fun (t : Option TxCur) => match t with | some ⟨.copy d, _, _, _, _, _⟩ => decide (d.frame = c.frame) && d.mirror.isNone | _ => false
  isC (port s c.port).cur || isC (port s c.port).preempted

/-- SLICE_CORE_RECOVER: a slice core is back in RUN after a reset (R334); a SYS_RESET of it answers. -/
def execSliceCoreRecover (sl : Nat) (s : State) : Host.Outcome State Fault Refusal :=
  .next (if (slice s sl).inReset.isNone || (dom s (32 + sl)).st ≠ .run then s
    else
      let log := (slice s sl).doneLog
      let s1 := updSlice sl (fun x => { x with inReset := none, doneLog := [] }) s
      let s2 := (log.filter DoneEntry.done).foldl (fun s e => consumeDone sl e s) s1
      let stomped := (log.filter (fun e => !e.done)).map DoneEntry.copy
      let cut := ((slice s2 sl).inFlight.filter (fun c => !atHost s2 c && !inTransmission s2 c && !stomped.any (fun d => decide (d.frame = c.frame) && decide (d.port = c.port)))).foldl
        (fun l c => insertBy Copy.relOrder c l) []
      let s3 := resend sl (stomped ++ cut) s2
      match s3.badger.sliceOwed.get? sl with
      | none => s3
      | some e => respond e 0x0103 (okV []) { s3 with badger := { s3.badger with sliceOwed := s3.badger.sliceOwed.del sl } })

/-! Ageing. -/

/-- Age of a copy in ns: TIME less the NS of its ingress stamp, mod 2^32 (R336). -/
def copyAge (s : State) (x : Stored) : Nat := unsignedN 32 (timeNs s - (x.c.frame.stamp / 16 : Nat))

/-- Discard a guarded copy that has aged (R336, R337). -/
def ageCopy (c : Copy) (x : Stored) (s : State) : State := discardCopy 0x0D c (countLoss c x s)

/-- Examine the head of a queue, and the next one as long as heads age (R336). -/
def ageQueue (id : Nat) : Nat → State → State
  | 0, s => s
  | n + 1, s =>
    match queueOf s id with
    | [] => s
    | c :: rest => match storedOf s c.frame with
      | none => s
      | some x =>
        let limit := match (cfg s).flows.get? x.c.flow with | some f => f.ageLimit | none => 0
        if guardedCopy s c && decide (limit * 1000000 < copyAge s x) then ageQueue id n (ageCopy c x (setQueue id rest s)) else s

/-- AGE_SCAN (R336). -/
def execAgeScan (sl : Nat) (s : State) : Host.Outcome State Fault Refusal :=
  .next (if !coreRuns s sl then s
    else (s.tm.queues.keys.filter (fun id => decide (sliceOf s (id / 16) = sl))).foldl (fun s id => ageQueue id (queueOf s id).length s) s)

/-- DUPLICATE_ENTRY_FORGET: a source not seen for ENTRY_FORGET ms leaves a node's table (R343). -/
def execDuplicateEntryForget (node sa : Nat) (s : State) : Host.Outcome State Fault Refusal :=
  .next (match (cfg s).prp.get? node with
    | none => s
    | some n =>
      let old := fun (x : DupEntry) => decide (x.sa = sa) && decide (x.lastNs + n.forget * 1000000 ≤ rawNs s)
      { s with flows := { s.flows with dup := s.flows.dup.mapV (fun k l => if k = node then l.filter (fun x => !old x) else l) } })

end Sys2Proof.Machine
end

