-- ==== Sys2Proof/Machine/Tx.lean ====
section
/-! DEFINITION. The port front on transmit: the choice of the next frame, the stamp and the one-step fields of its start, hints, its end, stalls; and
what a reset of a slice core leaves (R26, R50, R51, R129 to R135, R170 to R174, R304, R310, R312, R334, R335, R499). -/

namespace Sys2Proof.Machine

/-! What a frame of the block itself is, by its tag: 1 pause, 2 PFC, 3 calibration request, 4 calibration reply, 5 verify and 6 response mPacket, 16 + q a Sezal control message on
queue q, 32 + q a SYNC_RESP on queue q. -/

/-- The queue whose gate and pause a transmit item obeys: none for MAC and calibration frames (R139, R352, R491). -/
def txQueue (t : TxItem) : Option Nat :=
  match t with
  | .copy c => some c.q
  | .own _ tag => if 16 ≤ tag then some (tag % 16) else none

/-- The hierarchy of an item (R282): MAC and calibration frames go with the express ones. -/
def txTree (s : State) (p : Nat) (t : TxItem) : Nat :=
  match txQueue t with
  | some q => treeOf s p q
  | none => 0

/-- A guarded copy that the DONE log holds back, having no free entry (R133). The entries of frames that had started before stand behind its 512 until
they are free (log 78). -/
def logHolds (s : State) (p : Nat) (t : TxItem) : Bool :=
  match t with
  | .copy c => guardedCopy s c && decide (512 ≤ (slice s (sliceOf s p)).doneLog.length)
  | .own _ _ => false

/-- What the port front makes of an item at an instant: it may start, it waits alone (pause, DONE log), its gate is closed, or HOLD blocks it. -/
inductive TxVerdict where
  | start | waits | gateClosed | held
deriving DecidableEq, Repr

/-- Judge an item at its actual start (R133, R138, R310, R312). -/
def txVerdict (s : State) (p : Nat) (t : Int) (x : TxItem) : TxVerdict :=
  match txQueue x with
  | none => .start
  | some q =>
    if !gateOpenAt (gateRt s p) q t then .gateClosed
    else if treeOf s p q = 1 && (gateRt s p).hold then .held
    else if queuePaused s p q || logHolds s p x then .waits
    else .start

/-- The next frame of a hierarchy. -/
inductive TxPick where
  | none
  | start (i : Nat)
  | late (i : Nat)
deriving DecidableEq, Repr

/-- Look for the next frame of hierarchy `h` (R310): a closed gate or HOLD holds everything behind it on the hierarchy. -/
def txPick (s : State) (p : Nat) (t : Int) (h : Nat) : List TxItem → Nat → TxPick
  | [], _ => .none
  | x :: l, i =>
    if txTree s p x ≠ h then txPick s p t h l (i + 1)
    else match txVerdict s p t x with
      | .start => .start i
      | .waits => txPick s p t h l (i + 1)
      | .gateClosed => .late i
      | .held => .none

/-- Count a copy in GATE_LATE once (R310). -/
def markLate (p i : Nat) (s : State) : State :=
  match (port s p).fifo[i]? with
  | some (.copy c) =>
    if c.late then s
    else bump ⟨.gate, p, 0, 0⟩ (updPort p (fun x => { x with fifo := x.fifo.set i (.copy { c with late := true }) }) s)
  | _ => s

/-- HINT_PRED of a port: as set, or the mean of the last hints (R173, STAMP_PORT_CFG). -/
def hintPredOf (s : State) (p : Nat) : Nat :=
  let v := ((cfg s).stampP.getD p {}).hintPred
  let l := (port s p).hintLog
  if v ≠ 0xFFFF then v else if l.isEmpty then 0 else sumOf id l / l.length

/-- Ten bytes of a time in 1/16 ns: ns and fraction in 2^-16 ns (R353, R491). -/
def stampTen (t : Int) : List Byte := beB 8 (unsignedN 64 (t / 16)) ++ beB 2 (unsignedN 4 t * 4096)

/-- What the assist knows of a copy. -/
def ptpInOf (x : Stored) : PtpIn :=
  { stamp := x.c.frame.stamp, portIn := x.c.frame.portIn, host := isHostPort x.c.frame.portIn
    tref := match x.c.frame.host with | some h => if bitN h.flags 5 then some ((h.tref / 256 * 16 + h.tref / 16 % 16 : Nat) : Int) else none | none => none }

/-- The bytes that leave for an item whose one-step fields read the time `t`, and whether one was written (R170 to R173, R342, R353, R491); none
for a stale PTP message. A PRP trailer follows the padded frame (log 31). -/
def txBytes (s : State) (p : Nat) (t : Int) (x : TxItem) : Option (List Byte × Bool) :=
  match x with
  | .own d tag =>
    if 32 ≤ tag then some (patch d 44 (stampTen t), true) else if tag = 4 then some (patch d 28 (stampTen t), true) else some (d, false)
  | .copy c =>
    let d := match c.node with
      | some (1, num, lan) => padded c.data ++ prpTrailer (padded c.data) num lan
      | _ => c.data
    match storedOf s c.frame with
    | none => some (d, false)
    | some k => ptpAssist (cfg s) p (mWord c.m 7) (ptpInOf k) t d

/-- A started guarded frame takes the slot of its class (R131). -/
def takeSlot (p : Nat) (c : Copy) (s : State) : State :=
  if !guardedCopy s c then s
  else
    let r : RecSlot := ⟨flowOfCopy s c, seqOfCopy s c⟩
    updPort p (fun x => if slotPreemptable s c then { x with preemptable := some r } else { x with express := some r }) s

/-- A copy that starts in its window and runs past its close (R310, R312). -/
def countOverrun (p : Nat) (t : Int) (x : TxItem) (len : Nat) (s : State) : State :=
  match txQueue x with
  | none => s
  | some q =>
    let n := if treeOf s p q = 1 then min len (64 * (1 + ((cfg s).preempt.getD p {}).addFrag)) else len
    match windowLeft (gateRt s p) q t with
    | some w => if w < wireTime s p n then bump ⟨.gate, p, 0, 1⟩ s else s
    | none => s

/-- A PTP event message older than 1 s is discarded as it would start (R171). -/
def dropStale (p : Nat) (x : TxItem) (s : State) : State :=
  match x with
  | .own _ _ => s
  | .copy c => copyEnds c.frame (dropInFlight (sliceOf s p) [c] (bump (pCtr p 27) s))

/-- A legacy lane, which has no TX_HINT (R53, R54). -/
def legacyPort (s : State) (p : Nat) : Bool := match (cfg s).ports.get? p with
  | some x => decide (x.kind ≠ 0)
  | none => false

/-- An item with other bytes. -/
def withData (x : TxItem) (d : List Byte) : TxItem :=
  match x with
  | .copy c => .copy { c with data := d }
  | .own _ tag => .own d tag

/-- Begin item `i` of the FIFO: the first byte transfers at stamp `t` without its hint, which HINT_PRED stands in for (R50, R131, R170 to R173). -/
def beginItem (p i : Nat) (t : Int) (s : State) : State :=
  match (port s p).fifo[i]? with
  | none => s
  | some x =>
    let s0 := updPort p (fun y => { y with fifo := y.fifo.eraseIdx i }) s
    match txBytes s p (if legacyPort s p then t else t + hintPredOf s p) x with
    | none => dropStale p x s0
    | some (d, written) =>
      let s1 := match x with | .copy c => takeSlot p c s0 | .own _ _ => s0
      let s2 := countOverrun p t x (wireLen d) s1
      let hint := !legacyPort s p
      let cur : TxCur := { item := withData x d, stamp := t, stampFlags := stampFlags s p, hintWait := hint
                           pred := if written && hint then some (hintPredOf s p, txData x) else none }
      updPort p (fun y => { y with cur := some cur, hints := if hint then y.hints ++ [{}] else y.hints }) s2

/-- A port front may begin frames: its domain runs, its link is UP and it is out of low-power idle (R35, R136, R141). -/
def txReady (s : State) (p : Nat) : Bool :=
  !isHostPort p && decide ((dom s (p / 32)).st = .run) && (port s p).admin && decide ((port s p).link = .up) && (port s p).lpiTx.isNone
    && decide ((port s p).lpiReady ≤ rawNs s)

/-- A preempted frame may go on: its gate is open and HOLD is released (R312). -/
def canResume (s : State) (p : Nat) (t : Int) (x : TxCur) : Bool :=
  match txQueue x.item with
  | some q => gateOpenAt (gateRt s p) q t && !(gateRt s p).hold
  | none => true

/-- The preemptable frame in transmission gives way at a fragment boundary (R282). -/
def suspendCur (p : Nat) (s : State) : State :=
  match (port s p).cur with
  | none => s
  | some x => bump (pCtr p 23) (updPort p (fun y => { y with cur := none, preempted := some { x with preempted := true } }) s)

/-- Take what was picked. -/
def takePick (p : Nat) (t : Int) (k : TxPick) (s : State) : State :=
  match k with
  | .none => s
  | .late i => markLate p i s
  | .start i => beginItem p i t s

/-- Which item would begin next, with nothing in transmission: the express ones, then a preempted frame, then the preemptable ones (R282, R312). -/
def startNext (p : Nat) (t : Int) (s : State) : State :=
  let l := (port s p).fifo
  match txPick s p t 0 l 0 with
  | .start i => beginItem p i t s
  | k =>
    let s1 := takePick p t k s
    match (port s p).preempted with
    | some x => if canResume s p t x then updPort p (fun y => { y with cur := some { x with preempted := false }, preempted := none }) s1 else s1
    | none => if twoTrees s p then takePick p t (txPick s1 p t 1 (port s1 p).fifo 0) s1 else s1

/-- A start that the DONE log turns away begins a hold, whose slice clocks DONE_LOG_STALL counts until the log has a free entry (R133; log 78). -/
def countLogHold (p : Nat) (s : State) : State :=
  let sl := sliceOf s p
  if !(port s p).fifo.any (logHolds s p) then s
  else if (slice s sl).stallFrom.isSome then countStall sl s
  else updSlice sl (fun x => { x with stallFrom := some (raw16 s) }) s

/-- TX_START (R50, R131, R310): the first byte of the next frame transfers, or a preempted frame goes on. -/
def execTxStart (p : Nat) (tx : TxFirst) (s : State) : Host.Outcome State Fault Refusal :=
  let r := rateOf s (cfg s) p
  let t := stampOf (sampledEdge s (p / 32) tx.edge) 0 tx.sofIndex r (port s p).txLat 1
  .next (if !txReady s p || r = 0 then s
    else
      let s0 := countLogHold p s
      match (port s p).cur with
      | none => startNext p t s0
      | some x =>
        if twoTrees s p && txTree s p x.item = 1 && (port s p).preempted.isNone then
          match txPick s p t 0 (port s p).fifo 0 with
          | .start i => beginItem p i t (suspendCur p s0)
          | k => takePick p t k s0
        else s)

/-- The ingress copy of what is in transmission was judged bad (R127, R130). -/
def badItem (s : State) (t : TxItem) : Bool :=
  match t with
  | .own _ _ => false
  | .copy c => match storedOf s c.frame with
    | some x => x.c.frame.bad
    | none => false

/-- The counters of a whole frame (PORT_COUNTERS). -/
def countSent (p : Nat) (t : TxItem) (len : Nat) (s : State) : State :=
  match t with
  | .own _ 1 => bump (pCtr p 13) s
  | .own _ 2 => bump (pCtr p 14) s
  | .own _ 5 => s
  | .own _ 6 => s
  | _ => addCtr (pCtr p 10) len (bump (pCtr p 9) s)

/-- The outcome that the meter tap reports of a whole frame: MAC control for pause, PFC and calibration frames and for
Sezal control messages (R135, R387, R491). -/
def sentOutcome (t : TxItem) : Nat :=
  match t with
  | .own _ _ => 7
  | .copy _ => 0

/-- The flow that the meter tap reports. -/
def sentFlow (s : State) (t : TxItem) : Nat :=
  match t with
  | .own _ _ => noFlow
  | .copy c => flowOfCopy s c

/-- The tap's report of a whole frame; the verify and response mPackets of preemption are no frames (R140). -/
def meterSent (p : Nat) (t : TxItem) (len : Nat) (s : State) : State :=
  match t with
  | .own _ 5 => s
  | .own _ 6 => s
  | _ => meterEvent p true len (sentOutcome t) (sentFlow s t) s

/-- A copy is a PTP event message that leaves a ROLE 4 port (R174). -/
def sentEvent (s : State) (p : Nat) (c : Copy) : Bool :=
  match (cfg s).ptp.get? p with
  | none => false
  | some x => x.role = 4 && (ptpEvent x (mWord c.m 7) c.data).isSome

/-- A copy has left whole: capture, the DONE entry of a guarded one, the end of an unguarded one; the stamp of a host frame that asked for it
(R28, R132, R296, R431). -/
def copySent (p : Nat) (t : TxCur) (c : Copy) (s : State) : State :=
  let s0 := if sentEvent s p c then tellServo p true (stampBits t.stamp t.stampFlags) c.data s else s
  let s1 := capTransmit p 0 t c s0
  let s2 := match storedOf s1 c.frame with
    | some x => if c.mirror.isNone then txLeft x.c.frame (stampBits t.stamp t.stampFlags) s1 else s1
    | none => s1
  if guardedCopy s2 c then recordDone p true t c s2 else copyEnds c.frame s2

/-- TX_DONE (R132): the last byte transfers. It comes after the frame's hint is settled (log 45). -/
def execTxDone (p : Nat) (s : State) : Host.Outcome State Fault Refusal :=
  .next (match (port s p).cur with
    | none => s
    | some t =>
      if t.hintWait || badItem s t.item then s
      else
        let d := txData t.item
        let n := wireLen d
        let s1 := meterSent p t.item n <| countPred p t
          (countSent p t.item n (countLoad p true n (emit (.frame p (wholeFrame d) false) (updPort p (fun x => { x with cur := none }) s))))
        noteEmpty p (match t.item with | .copy c => copySent p t c s1 | .own _ _ => s1))

/-- An unguarded copy that an engine's reset cuts off (R241). -/
def countResetDrop (p : Nat) (t : TxItem) (s : State) : State :=
  match t with
  | .own _ _ => s
  | .copy c =>
    let g := 4 * sliceOf s p
    if guardedCopy s c then s
    else if (engine s (g + 2)).resetAt.isSome then bump (engCtr (g + 2) 7) s
    else if (engine s (g + 3)).resetAt.isSome then bump (engCtr (g + 3) 7) s
    else s

/-- Whether a cause of R130 holds for what is in transmission. -/
def stompDue (s : State) (p : Nat) (cause : StompCause) (t : TxCur) : Bool :=
  match cause with
  | .badIngress => badItem s t.item
  | .fifoEmpty => true
  | .linkDown => !(port s p).admin || decide ((port s p).link ≠ .up)

/-- Stomp a begun frame for a cause of TX_STOMP, once it is off the port's transmission. -/
def stompFor (p : Nat) (cause : StompCause) (t : TxCur) (s : State) : State :=
  noteEmpty p (stompItem p t (if cause = .fifoEmpty then countResetDrop p t.item s else s))

/-- TX_STOMP (R129, R130, R132): the frame in transmission, or a preempted one whose continuation is abandoned. That the FIFO has been empty for 256 ns is
the event's own word. -/
def execTxStomp (p : Nat) (cause : StompCause) (s : State) : Host.Outcome State Fault Refusal :=
  let due := fun (t : Option TxCur) => t.filter (stompDue s p cause)
  .next (match due (port s p).cur, due (port s p).preempted with
    | some t, _ => stompFor p cause t (updPort p (fun x => { x with cur := none }) s)
    | none, some t => stompFor p cause t (updPort p (fun x => { x with preempted := none }) s)
    | none, none => s)

/-- A frame with its hint, where a one-step field counts what it used (R50, R51, R173): the hint itself when it came `early`, before the word of the field's
first byte; else HINT_PRED, whose error is kept when a hint came at all. -/
def settleHint (p hint : Nat) (arrived early : Bool) (t : TxCur) (s : State) : TxCur × State :=
  let t1 := { t with stamp := t.stamp + hint, hintWait := false, pred := none }
  match t.pred with
  | none => (t1, s)
  | some (pred, raw) =>
    if early then
      ({ t1 with item := match txBytes s p (t.stamp + hint) (withData t.item raw) with
          | some (d, _) => withData t.item d
          | none => t.item }, s)
    else (t1, if arrived then raiseCtr (pCtr p 26) ((pred - hint) + (hint - pred)) (countPred p t s) else countPred p t s)

/-- The oldest TX_HINT owed comes, or its time has passed: it belongs to the oldest begun frame that awaits one, unless that was stomped (R50, R51). -/
def takeHint (p hint : Nat) (arrived early : Bool) (s : State) : State :=
  match (port s p).hints with
  | [] => s
  | h :: rest =>
    let s1 := updPort p (fun x => { x with hints := rest }) s
    let waits := fun (t : Option TxCur) => t.filter TxCur.hintWait
    if h.gone then s1
    else match waits (port s p).preempted, waits (port s p).cur with
      | some t, _ => let r := settleHint p hint arrived early t s1; updPort p (fun x => { x with preempted := some r.1 }) r.2
      | none, some t => let r := settleHint p hint arrived early t s1; updPort p (fun x => { x with cur := some r.1 }) r.2
      | none, none => s1

/-- TX_HINT (R50, R51, R173): the stamp becomes whole. -/
def execTxHint (p hint : Nat) (s : State) (early : Bool := false) : Host.Outcome State Fault Refusal :=
  let h := hint % 256
  .next (if (port s p).hints.isEmpty then s else takeHint p h true early (updPort p (fun x => { x with hintLog := (h :: x.hintLog).take 256 }) s))

/-- HINT_MISSING (R51): the frame is stamped with hint 0 and counted. -/
def execHintMissing (p : Nat) (s : State) : Host.Outcome State Fault Refusal :=
  .next (if (port s p).hints.isEmpty then s else bump (pCtr p 18) (takeHint p 0 false false s))

/-- A word of a frame waits on a port's lanes: of the one in transmission, or the first of one that may start. -/
def wordWaits (s : State) (p : Nat) : Bool :=
  (port s p).cur.isSome || (txReady s p && (port s p).fifo.any (fun x => decide (txVerdict s p (timeSixteenths s) x = .start)))

/-- STALL (R52): TX_READY has stayed low for more than 10 µs while a word waits on it. -/
def execStall (p : Nat) (s : State) : Host.Outcome State Fault Refusal :=
  .next (if wordWaits s p then bump (pCtr p 19) s else s)

end Sys2Proof.Machine
end

