-- ==== Sys2Proof/Machine/HostQ.lean ====
section
/-! DEFINITION. The host queue engine: doorbells, fetching, acceptance, head words, completions, work entries, transmit and receive (R403 to R437). -/

namespace Sys2Proof.Machine

/-- HST runs. -/
def hstRuns (s : State) : Bool := hstWorks 6 s

/-- Position of an index with its wrap bit (R407). -/
def posOf (n index : Nat) (wrap : Bool) : Nat := (b2n wrap * n + index) % (2 * n)

/-- Distance from one position to a later one (R407). -/
def posDist (n from' to' : Nat) : Nat := (to' + 2 * n - from' % (2 * n)) % (2 * n)

/-- Index and wrap bit of a position, as words carry them: [15:0] and [16]. -/
def posWord (n pos : Nat) : Nat := pos % n + (pos / n % 2) * 65536

/-- PHASE of a position's lap (R408). -/
def posPhase (n pos : Nat) : Nat := 1 - pos / n % 2

/-- Entries outstanding in a submission queue (R407). -/
def outstandingOf (x : SubQ) : Nat := posDist x.size x.head x.tail

/-- A completion ring. -/
def cqOf (s : State) (n : Nat) : Option CompQ := s.hq.cq.get? n

/-- Change a completion ring that stands. -/
def updCq (n : Nat) (f : CompQ → CompQ) (s : State) : State :=
  match s.hq.cq.get? n with
  | none => s
  | some x => { s with hq := { s.hq with cq := s.hq.cq.set n (f x) } }

/-- Free entries of a completion ring, as its last CQ_DB shows. -/
def ringRoom (x : CompQ) : Nat := x.size - posDist x.size x.cons x.prod

/-- Free places of a completion ring (R420). -/
def freePlaces (x : CompQ) : Nat := ringRoom x + 64 - x.held

/-- A queue may accept an entry: a Gen-1 ring always, a Gen-2 queue while its completion ring has a place free (R420). -/
def placeFree (s : State) (x : SubQ) : Bool :=
  x.gen = 1 || (match cqOf s x.cq with | some r => decide (0 < freePlaces r) | none => false)

/-! The head word. -/

/-- STATE of a head word and of QUEUE_STATUS (R406). -/
def stateCode (x : SubQ) : Nat := match x.st with | .disabled => 0 | .enabled => 1 | .error => 2

/-- The 8 bytes of a head word (R406). -/
def headWord (x : SubQ) : List Byte :=
  leB 8 (posWord x.size x.head + stateCode x * 2 ^ 32 + (if x.st = .error then x.reason else 0) * 2 ^ 40)

/-- Write a queue's head word (R406, R415). -/
def writeHead (n : Nat) (s : State) : State :=
  match sqOf s n with
  | none => s
  | some x => updSq n (fun x => { x with wbN := x.accepted, wbAt := rawNs s, wbState := false, wbOpens := x.wbOpens ++ [x.accepted] })
      (hpiWrite x.headWb (headWord x) s)

/-- A change of a queue's STATE, and the head word that reports it (R415). -/
def setQueueState (n : Nat) (st : QueueSt) (s : State) : State := writeHead n (updSq n (fun x => { x with st }) s)

/-- A malformed doorbell or entry stops its queue (R425). -/
def queueError (n reason : Nat) (s : State) : State :=
  fire 23 (setQueueState n .error (updSq n (fun x => { x with reason, errIndex := x.head % x.size, fetched := [], phaseWait := none }) s))

/-- A head word is due (R415). -/
def headDue (s : State) (x : SubQ) : Bool :=
  x.wbState || (decide (x.wbN < x.accepted) && (decide (x.wbAt + 1000 ≤ rawNs s) || decide (x.wbN + 16 ≤ x.accepted) || x.head = x.tail))

/-- HEAD_WB (R415). -/
def execHeadWb (n : Nat) (s : State) : Host.Outcome State Fault Refusal :=
  .next (match sqOf s n with
    | none => s
    | some x => if hstRuns s && headDue s x && hpiRoom 1 s then writeHead n s else s)

/-- HEAD_WB_ACK (R415): the oldest head word that is not acknowledged. -/
def execHeadWbAck (n : Nat) (s : State) : Host.Outcome State Fault Refusal :=
  .next (updSq n (fun x => match x.wbOpens with
    | [] => x
    | k :: rest => { x with ackN := max x.ackN k, wbOpens := rest }) s)

/-! Entries. -/

/-- A queue takes a KIND (R412). -/
def kindOf (x : SubQ) (k : Nat) : Option WorkKind :=
  if k = 1 && !x.rx then some .tx else if k = 2 && x.rx then some .rxPost else if k = 3 then some .poolOp else if k = 4 then some .nop else none

/-- The fragment table of an IND entry is good (R413). -/
def fragsGood (b : List Byte) (entry : Fetched) : Bool :=
  entry.busErr = 2 || (decide (fld b 0 8 % 16 = 0) && decide (entry.frags.length = byteAt b 11)
    && entry.frags.all (fun f => decide (0 < f.2) && decide (f.2 ≤ 16380)) && decide (sumOf Prod.snd entry.frags = fld b 8 2))

/-- The fields that an entry's KIND does not use, reserved ones and flags are as R411 and R412 want them. -/
def fieldsGood (x : SubQ) (k : WorkKind) (b : List Byte) : Bool :=
  let f := byteAt b 10
  let sub' := byteAt b 13
  let flags := match k with
    | .tx => !bitN f 6 && !(x.gen = 2 && bitN f 1 && bitN f 2)
    | .rxPost => decide (Nat.land f 0xBD = 0)
    | _ => decide (Nat.land f 0xFD = 0)
  let pool := k = .poolOp
  flags && !bitN f 7 && byteAt b 14 = 0 && byteAt b 15 % 128 = 0 && byteAt b 23 = 0
    && (bitN f 5 || fld b 16 5 = 0) && (pool || (sub' = 0 && byteAt b 21 = 0))
    && ((pool && sub' = 1) || byteAt b 22 = 0) && ((pool && sub' ≠ 0) || fld b 24 4 = 0)
    && ((pool && sub' = 3 && fld b 28 2 < 8192) || fld b 28 2 = 0)
    && (k = .tx || k = .rxPost || (fld b 0 8 = 0 && fld b 8 2 = 0))
    && (!(k = .rxPost && bitN f 6) || (fld b 0 8 = 0 && fld b 8 2 = 0))
    && (if x.gen = 1 then decide (fld b 30 2 = 0) else allZero (sub b 32 32))

/-- The malformed reason of a work entry, 0 for none (R424). -/
def entryReason (x : SubQ) (entry : Fetched) : Nat :=
  let b := entry.bytes
  let f := byteAt b 10
  let len := fld b 8 2
  match kindOf x (byteAt b 12) with
  | none => 4
  | some k =>
    if k = .tx && len = 0 then 5
    else if k = .tx && 16380 < len then 6
    else if bitN f 0 != decide (byteAt b 11 ≠ 0) then 7
    else if k = .tx && bitN f 0 && !fragsGood b entry then 8
    else if k = .rxPost && !bitN f 6 && (len < x.maxRx || fld b 0 8 = 0) then 9
    else if !fieldsGood x k b then 10
    else if (k = .rxPost && bitN f 6 && x.pool = 0)
        || (k = .poolOp && (byteAt b 21 = 0 || 63 < byteAt b 21 || 4 < byteAt b 13 || (byteAt b 13 = 1 && byteAt b 22 = 0))) then 11
    else 0

/-- A fetched work entry (R411, R413, R414). -/
def workOf (x : SubQ) (pos : Nat) (entry : Fetched) : Work :=
  let b := entry.bytes
  let bad := entryReason x entry
  let kind := (kindOf x (byteAt b 12)).getD .nop
  let lost := kind = .tx && entry.busErr ≠ 0
  { pos, kind, addr := fld b 0 8, len := fld b 8 2, flags := byteAt b 10, subop := byteAt b 13, refStamp := fld b 16 5, poolId := byteAt b 21
    shareN := byteAt b 22, bufIndex := fld b 24 4, newOwner := fld b 28 2, tag := fld b 30 2
    data := if kind = .tx && !lost then sub entry.data 0 (fld b 8 2) else [], busErr := lost
    result := if lost then some 2 else none, detail := if lost then entry.busErr else 0, left := lost, bad }

/-- A fetched admin entry (R91): its command, with the phase bit taken as 0. -/
def adminOf (s : State) (x : SubQ) (pos : Nat) (entry : Fetched) : Work :=
  let b := entry.bytes
  let inline' := if gen2 s then 48 else 16
  let isPtr := bitN (byteAt b 2) 2
  let e : Env := { path := .admin (pos % x.size), flags := b.getD 2 0, fmt := b.getD 3 0, setId := fld b 4 2, plen := fld b 6 2
                   tag := BitVec.ofNat 32 (fld b 8 4), rsvd := BitVec.ofNat 32 (fld b 12 4 % 2 ^ 31)
                   payload := if isPtr then entry.data else sub b 16 (min inline' (fld b 6 2)), ptrFault := isPtr && decide (entry.busErr ≠ 0) }
  { pos, kind := .admin, addr := 0, len := 0, flags := 0, subop := 0, refStamp := 0, poolId := 0, shareN := 0, bufIndex := 0, newOwner := 0, tag := pos % x.size
    data := [], busErr := false, cmd := some (fld b 0 2, e) }

/-- Journalled commands that are not done (R92, R119). -/
def journalOpen (s : State) : Nat := (s.adm.journal.filter (fun j => !j.done)).length

/-- Bytes in the transmit staging store (R414). -/
def stagedBytes (s : State) : Nat :=
  sumOf (fun q => sumOf (fun w => if w.kind = .tx && !w.left then w.data.length else 0) q.2.works) s.hq.sq

/-- Accept the oldest fetched entry (R92, R414, R420). -/
def acceptHead (n : Nat) (s : State) : State :=
  match sqOf s n with
  | none => s
  | some x => match x.fetched with
    | [] => s
    | w :: rest =>
      let s1 := updSq n (fun x => { x with fetched := rest, works := x.works ++ [{ w with num := x.accepted }], head := (x.head + 1) % (2 * x.size), accepted := x.accepted + 1 }) s
      let s2 := bump (hqCtr n 0 0) (if x.gen = 2 then updCq x.cq (fun r => { r with held := r.held + 1 }) s1 else s1)
      match w.cmd with
      | some (op, e) => askWake 65 { s2 with adm := { s2.adm with journal := s2.adm.journal ++ [{ index := w.pos % x.size, opcode := op, env := e }] } }
      | none => s2

/-- A pause of R420 raises HQ_BACKLOG, at most once per 1 ms. -/
def raiseBacklog (s : State) : State :=
  if dueMs s s.hq.backlogAt then fire 31 { s with hq := { s.hq with backlogAt := some (rawNs s) } } else s

/-- Accept what may be accepted at once, in ring order (R414, R420, R425): a TX entry waits for its own row. -/
def hqAdvance (n : Nat) : Nat → State → State
  | 0, s => s
  | k + 1, s =>
    match sqOf s n with
    | none => s
    | some x => match x.fetched with
      | [] => s
      | w :: _ =>
        if x.st ≠ .enabled || outstandingOf x = 0 then s
        else if w.bad ≠ 0 then queueError n w.bad s
        else if !placeFree s x then raiseBacklog s
        else if w.kind = .tx || (w.kind = .admin && 64 ≤ journalOpen s) then s
        else hqAdvance n k (acceptHead n s)

/-- Advance a queue as far as it goes. -/
def advance (n : Nat) (s : State) : State := hqAdvance n 128 s

/-- TX (R414): the oldest fetched entry is a covered TX entry whose frame the staging store holds whole. -/
def execTx (n : Nat) (s : State) : Host.Outcome State Fault Refusal :=
  .next (match sqOf s n with
    | none => s
    | some x => match x.fetched with
      | [] => s
      | w :: _ =>
        if !hstRuns s || x.st ≠ .enabled || outstandingOf x = 0 || w.kind ≠ .tx || w.bad ≠ 0 then s
        else if !placeFree s x then raiseBacklog s
        else if 524288 < stagedBytes s + w.data.length then s
        else advance n (acceptHead n s))

/-- The position that a queue fetches next. -/
def fetchPos (x : SubQ) : Nat := (x.head + x.fetched.length) % (2 * x.size)

/-- The staging store has no room for the next frame of a queue (R414). -/
def stagingWaits (s : State) (x : SubQ) : Bool :=
  match x.fetched with
  | [] => false
  | w :: _ => decide (w.kind = .tx) && decide (524288 < stagedBytes s + w.data.length)

/-- Whether queue `n` may fetch its next entry (R410, R414, R420); admin entries run at most 64 ahead of the command that executes (R92),
and after a reset only once the journalled commands are complete (R88). -/
def mayFetch (s : State) (n : Nat) (x : SubQ) : Bool :=
  let k := x.fetched.length
  hstRuns s && (decide (n ≠ 0) || (s.boot.ready && !s.adm.replayOwed && decide (k + max 1 (journalOpen s) ≤ 64))) && decide (x.st = .enabled) && x.phaseWait.isNone && decide (k < 64) && decide (k < x.size) && decide (k < outstandingOf x + 32)
    && !x.fetched.any (fun w => decide (w.bad ≠ 0)) && !stagingWaits s x && !(x.specMiss && decide (outstandingOf x ≤ k))

/-- Read the entry at a position of its queue's ring (R410). -/
def readEntry (x : SubQ) (pos : Nat) (s : State) : State := hpiRead (x.base + 32 * x.gen * (pos % x.size)) (32 * x.gen) s

/-- Read what an entry points at: the payload of a command with PTR, the frame data of a TX entry, or its fragment table and the fragments (R91, R413,
R414). -/
def readPointed (n : Nat) (x : SubQ) (entry : Fetched) (s : State) : State :=
  let b := entry.bytes
  if n = 0 then (if bitN (byteAt b 2) 2 then hpiRead (fld b 16 8) (fld b 24 4) s else s)
  else if kindOf x (byteAt b 12) ≠ some .tx || entryReason x entry ≠ 0 then s
  else if !bitN (byteAt b 10) 0 then hpiRead (fld b 0 8) (fld b 8 2) s
  else entry.frags.foldl (fun s f => hpiRead f.1 f.2 s) (hpiRead (fld b 0 8) (16 * byteAt b 11) s)

/-- Take a fetched entry with the right phase. -/
def takeEntry (n : Nat) (x : SubQ) (entry : Fetched) (s0 : State) : State :=
  let s := readPointed n x entry s0
  let w := if n = 0 then adminOf s x (fetchPos x) entry else workOf x (fetchPos x) entry
  advance n (updSq n (fun x => { x with fetched := x.fetched ++ [w], phaseWait := none }) s)

/-- The PHASE of an entry is that of a position's lap (R408). -/
def phaseGood (x : SubQ) (pos : Nat) (entry : Fetched) : Bool := byteAt entry.bytes 15 / 128 = posPhase x.size pos

/-- ENTRY_FETCH (R410). -/
def execEntryFetch (n : Nat) (entry : Fetched) (s : State) : Host.Outcome State Fault Refusal :=
  .next (match sqOf s n with
    | none => s
    | some x =>
      if !mayFetch s n x then s
      else if !placeFree s x then raiseBacklog s
      else
        let s1 := readEntry x (fetchPos x) s
        if phaseGood x (fetchPos x) entry then takeEntry n x entry s1
        else if x.fetched.length < outstandingOf x then updSq n (fun x => { x with phaseWait := some (fetchPos x), phaseAt := rawNs s }) s1
        else updSq n (fun x => { x with specMiss := true }) s1)

/-- PHASE_RETRY (R410): a second mismatch makes the entry malformed, once every entry before it has been accepted. -/
def execPhaseRetry (n : Nat) (entry : Fetched) (s : State) : Host.Outcome State Fault Refusal :=
  .next (match sqOf s n with
    | none => s
    | some x => match x.phaseWait with
      | none => s
      | some pos =>
        if !hstRuns s || x.st ≠ .enabled || rawNs s < x.phaseAt + 1000 then s
        else
          let s1 := readEntry x pos s
          if phaseGood x pos entry then takeEntry n x entry s1
          else
            let w := { workOf x pos entry with bad := 3 }
            advance n (updSq n (fun x => { x with fetched := x.fetched ++ [w], phaseWait := none }) s1))

/-! Doorbells. -/

/-- The block counter STRAY_DOORBELL (R405). -/
def strayCtr : Ctr := ⟨.block, 0, 1, 0⟩

/-- SQ_DB (R405, R410, R424 to R426); the admin queue's doorbell wakes CTL too (R476). -/
def execSqDb (n : Nat) (data : Word) (s : State) : Host.Outcome State Fault Refusal :=
  .next (viaHst (.sqDb n data) (fun s =>
    let s0 := hptOk 0 (if n = 0 then askWake 65 s else s)
    match sqOf s0 n with
    | none => bump strayCtr s0
    | some x =>
      let idx := bitsN data.toNat 15 0
      let pos := posOf x.size idx (bitN data.toNat 16)
      if x.st ≠ .enabled then bump (hqCtr n 0 4) s0
      else if x.size < posDist x.size x.head pos then queueError n 1 s0
      else if x.size ≤ idx || posDist x.size x.head pos < outstandingOf x then queueError n 2 s0
      else advance n (updSq n (fun x => { x with tail := pos, specMiss := x.specMiss && decide (x.tail = pos) }) s0)) s)

/-! Completions. -/

/-- A descriptor of a Gen-1 ring has a completion of its own (R416). -/
def ownsCqe (w : Work) : Bool :=
  w.flag 1 || decide (w.kind = .rxPost) || (decide (w.kind = .poolOp) && decide (w.subop = 0)) || w.flag 2 || decide (w.kind = .admin)

/-- RX_FLAGS of a completion. -/
def cqeFlags (w : Work) : Nat := w.rxFlags + 256 * b2n w.skipped

/-- Bytes 0 to 11 of a completion (R417). -/
def cqeHead (w : Work) : List Byte := leB 5 w.stamp ++ leB 1 w.detail ++ leB 2 w.outLen ++ leB 4 (if w.kind = .admin then w.tag32 else w.outIndex)

/-- Bytes 16 to 25 of a completion (R417). -/
def cqeTail (w : Work) : List Byte := leB 4 w.hash ++ leB 2 (cqeFlags w) ++ leB 2 w.tci ++ leB 2 w.port

/-- A Gen-1 completion over descriptor `w`, covering `l` (R416, R417). -/
def gen1Bytes (x : SubQ) (w : Work) (l : List Work) : List Byte :=
  let fail := l.find? (fun v => decide (v.result ≠ some 0))
  cqeHead w ++ leB 2 (l.length % 65536) ++ leB 1 (match fail with | some v => v.result.getD 0 | none => 0) ++ leB 1 (posPhase x.size w.pos * 128 + 64)
    ++ cqeTail w ++ leB 2 (match fail with | some v => v.pos % x.size | none => 0xFFFF) ++ leB 4 0

/-- A Gen-2 completion, its PHASE still 0 (R418). -/
def gen2Bytes (n : Nat) (x : SubQ) (w : Work) : List Byte :=
  cqeHead w ++ leB 2 w.tag ++ leB 1 (w.result.getD 0) ++ leB 1 0 ++ cqeTail w ++ leB 2 n ++ leB 4 (posWord x.size x.head)

/-- Issue a completion write on HPI (R416, R423). -/
def issueCqe (n pos addr : Nat) (bytes : List Byte) (s : State) : State :=
  let s1 := hpiWrite addr bytes s
  { s1 with hq := { s1.hq with open' := s1.hq.open' ++ [⟨n, pos, addr, bytes⟩] } }

/-- Write a completion into a completion ring that has room (R420). -/
def ringWrite (r : Nat) (c : Cqe) (s : State) : State :=
  match cqOf s r with
  | none => s
  | some x =>
    let s1 := updCq r (fun x => { x with prod := (x.prod + 1) % (2 * x.size), held := x.held - 1 }) s
    bump (hqCtr r 1 0) (issueCqe c.queue c.pos (x.base + 32 * (x.prod % x.size)) (patch c.bytes 15 (leB 1 (posPhase x.size x.prod * 128))) s1)

/-- A completion goes to its ring, or to the backlog when the ring is full or disabled (R420). -/
def ringPut (r : Nat) (c : Cqe) (s : State) : State :=
  match cqOf s r with
  | none => s
  | some x => if x.enabled && x.backlog.isEmpty && decide (0 < ringRoom x) then ringWrite r c s else updCq r (fun x => { x with backlog := x.backlog ++ [c] }) s

/-- Write backlog entries while the ring has room, in the order they arrived (R420). -/
def flushBacklog (r : Nat) : Nat → State → State
  | 0, s => s
  | k + 1, s =>
    match cqOf s r with
    | none => s
    | some x => match x.backlog with
      | [] => s
      | c :: rest =>
        if x.enabled && decide (0 < ringRoom x) && hpiRoom 1 s then flushBacklog r k (ringWrite r c (updCq r (fun x => { x with backlog := rest }) s)) else s

/-- An acknowledgement has made room on HPI: every ring goes on with its backlog (R59, R420). -/
def flushRings (s : State) : State := s.hq.cq.keys.foldl (fun s r => flushBacklog r 64 s) s

/-- The queues bound to a completion ring. -/
def boundQueues (s : State) (r : Nat) : List Nat := (s.hq.sq.filter (fun q => decide (q.2.gen = 2) && decide (q.2.cq = r))).map Prod.fst

/-- CQ_DB (R405, R420, R421): the consumer moves on from where it is, and not past the producer (log 121). -/
def execCqDb (r : Nat) (data : Word) (s : State) : Host.Outcome State Fault Refusal :=
  .next (viaHst (.cqDb r data) (fun s =>
    let s0 := hptOk 0 s
    match cqOf s0 r with
    | none => bump strayCtr s0
    | some x =>
      let idx := bitsN data.toNat 15 0
      let pos := posOf x.size idx (bitN data.toNat 16)
      if x.size ≤ idx || posDist x.size x.cons x.prod < posDist x.size pos x.prod then bump (hqCtr r 1 2) s0
      else
        let s1 := flushBacklog r 64 (updCq r (fun x => { x with cons := pos }) s0)
        (boundQueues s1 r).foldl (fun s n => advance n s) s1) s)

/-- What the report of a copy's leaving does (R28, R435): the acknowledgement is the DONE of a guarded copy. -/
def hostCopyDone (p f group : Nat) (s : State) : State :=
  let sl := sliceOf s p
  match (slice s sl).inFlight.find? (fun c => decide (c.frame = f) && decide (c.port = p) && c.mirror.isNone) with
  | some c => copyEnds f (updStored f (fun x => { x with doneGroups := addTo x.doneGroups group }) (flowCount (flowOfCopy s c) sl 6 (dropInFlight sl [c] s)))
  | none => copyEnds f s

/-- An entry whose completion stands in host memory, or that has none, leaves the engine. -/
def retireWork (x : SubQ) (w : Work) (s : State) : State :=
  match w.kind, w.doneFor with
  | .admin, _ =>
    let gone := eraseFirst (fun (j : JEntry) => decide (j.index = w.pos % x.size) && j.done && !j.acked) s.adm.journal
    { s with adm := { s.adm with journal := gone } }
  | _, some (f, g) => hostCopyDone (1024 + x.hostPort) f g s
  | _, none => s

/-- Completions may show an entry: a head word beyond it has been acknowledged (R415). -/
def shown (x : SubQ) (w : Work) : Bool := decide (w.num < x.ackN)

/-- Write the completion of a Gen-2 entry, or none with NO_CQE and OK (R416). -/
def completeGen2 (n : Nat) (x : SubQ) (w : Work) (s : State) : State :=
  if w.flag 1 && w.kind ≠ .admin && w.result = some 0 then
    retireWork x w (updCq x.cq (fun r => { r with held := r.held - 1 }) (updSq n (fun x => { x with works := x.works.filter (fun v => decide (v.num ≠ w.num)) }) s))
  else
    ringPut x.cq ⟨n, w.pos, gen2Bytes n x w⟩ (updSq n (fun x => { x with works := x.works.map (fun v => if v.num = w.num then { v with issued := true } else v) }) s)

/-- Write the completion of a Gen-1 descriptor over it (R416): every earlier one is complete and none of them still owes its own. -/
def completeGen1 (n : Nat) (x : SubQ) (w : Work) (s : State) : State :=
  let l := x.works.filter (fun v => !v.issued && decide (v.num ≤ w.num))
  if !ownsCqe w || l.any (fun v => v.result.isNone || !shown x v || (decide (v.num < w.num) && ownsCqe v)) then s
  else
    issueCqe n w.pos (x.base + 32 * (w.pos % x.size)) (gen1Bytes x w l)
      (updSq n (fun x => { x with works := x.works.map (fun v => if v.num ≤ w.num then { v with issued := true } else v) }) s)

/-- An admin entry that has its turn and that firmware does not know (R98): BAD_OPCODE. -/
def answerUnknown (s : State) : State :=
  match journalTodo s with
  | [] => s
  | j :: _ => if j.opcode ∈ knownOps then s else ifTurn j.env (respond j.env j.opcode badOpV) s

/-- Firmware completes admin commands in queue order, but for a QUAD_APPLY that waits for its set (R93). -/
def inQueueOrder (n : Nat) (x : SubQ) (w : Work) : Bool :=
  let waits := fun (v : Work) => v.result.isNone && (v.cmd.map Prod.fst = some 0x0203)
  decide (n ≠ 0) || x.works.all (fun v => v.issued || decide (w.num ≤ v.num) || waits v)

/-- COMPLETION_WRITE (R93, R415, R416, R420). -/
def execCompletionWrite (n pos : Nat) (s0 : State) : Host.Outcome State Fault Refusal :=
  let s := if n = 0 then answerUnknown s0 else s0
  .next (match sqOf s n with
    | none => s
    | some x => match x.works.find? (fun w => decide (w.pos = pos) && !w.issued) with
      | none => s
      | some w =>
        if !hstRuns s || w.result.isNone || !shown x w || !inQueueOrder n x w || !hpiRoom 1 s then s
        else if x.gen = 2 then completeGen2 n x w s else completeGen1 n x w s)

/-- Count a completion for a ring's vector (R422): raised at COALESCE of them. -/
def coalesceStep (now coalesce since sinceAt : Nat) : Bool × Nat × Nat :=
  if coalesce ≤ since + 1 then (true, 0, sinceAt) else (false, since + 1, if since = 0 then now else sinceAt)

/-- A completion has been written: the coalescing of its Gen-1 ring or completion ring (R422). -/
def countCqe (n : Nat) (x : SubQ) (s : State) : State :=
  if x.gen = 1 then
    let r := coalesceStep (rawNs s) x.coalesce x.since x.sinceAt
    let s1 := updSq n (fun x => { x with since := r.2.1, sinceAt := r.2.2 }) s
    if r.1 then fire x.vector s1 else s1
  else match cqOf s x.cq with
    | none => s
    | some c =>
      let r := coalesceStep (rawNs s) c.coalesce c.since c.sinceAt
      let s1 := updCq x.cq (fun c => { c with since := r.2.1, sinceAt := r.2.2 }) s
      if r.1 then fire c.vector s1 else s1

/-- COMPLETION_ACK (R423): HPI has acknowledged the completion write. -/
def execCompletionAck (n pos : Nat) (s : State) : Host.Outcome State Fault Refusal :=
  .next (ctlDue <| match s.hq.open'.find? (fun o => decide (o.queue = n) && decide (o.pos = pos)) with
    | none => s
    | some _ =>
      let s0 := { s with hq := { s.hq with open' := eraseFirst (fun o => decide (o.queue = n) && decide (o.pos = pos)) s.hq.open' } }
      match sqOf s0 n with
      | none => s0
      | some x => match x.works.find? (fun w => decide (w.pos = pos) && w.issued) with
        | none => s0
        | some w =>
          let gone := fun (v : Work) => if x.gen = 2 then decide (v.num = w.num) else v.issued && decide (v.num ≤ w.num)
          let s1 := updSq n (fun x => { x with works := x.works.filter (fun v => !gone v) }) s0
          flushRings (countCqe n x ((x.works.filter gone).foldl (fun s v => retireWork x v s) s1)))

/-- COALESCE_TIMER (R294, R422): COAL_US have passed since the first record or completion that no raise has covered. -/
def execCoalesceTimer (kind : RingKind) (id : Nat) (s : State) : Host.Outcome State Fault Refusal :=
  let due := fun (since sinceAt us : Nat) => decide (0 < since) && decide (0 < us) && decide (sinceAt + us * 1000 ≤ rawNs s)
  .next (match kind with
    | .foxtrot => (match s.cap.rings.get? id with
      | none => s
      | some r => if due r.since r.sinceAt r.coalUs then fire r.vector { s with cap := { s.cap with rings := s.cap.rings.set id { r with since := 0 } } } else s)
    | .gen1 => (match sqOf s id with
      | none => s
      | some x => if x.gen = 1 && due x.since x.sinceAt x.coalUs then fire x.vector (updSq id (fun x => { x with since := 0 }) s) else s)
    | .cq => (match cqOf s id with
      | none => s
      | some x => if due x.since x.sinceAt x.coalUs then fire x.vector (updCq id (fun x => { x with since := 0 }) s) else s))

/-! Work entries. -/

/-- Give an accepted entry its result. -/
def finish (n num status detail : Nat) (s : State) : State :=
  updSq n (fun x => { x with works := x.works.map (fun w => if w.num = num then { w with result := some status, detail } else w) }) s

/-- The oldest accepted entry of a kind without a result. -/
def nextWork (s : State) (n : Nat) (k : WorkKind) : Option Work := (sqOf s n).bind (fun x => x.works.find? (fun w => decide (w.kind = k) && w.result.isNone))

/-- NOP (R412). -/
def execNop (n : Nat) (s : State) : Host.Outcome State Fault Refusal :=
  .next (match nextWork s n .nop with
    | none => s
    | some w => if !hstRuns s then s else finish n w.num 0 0 s)

/-- Run the queue's next pool operation when its SUBOP is the row's and it has its turn in the pool's round (R255, R437): `f` gives the reason of a
rejection, or the buffer after it. -/
def runPoolOp (n sub' : Nat) (same : Bool) (f : Work → Option PoolBuf → Nat ⊕ Option PoolBuf) (s0 : State) : State :=
  match nextWork s0 n .poolOp with
  | none => s0
  | some w =>
    if !hstRuns s0 || w.subop ≠ sub' || !roundTakes s0 w.poolId n false same then s0
    else
      let s := noteRound w.poolId n 0 same s0
      let b := (poolOf s w.poolId).bind (fun x => x.bufs.get? w.bufIndex)
      match f w b with
      | .inl r => finish n w.num 4 r (bump ⟨.pool, w.poolId, 0, 1⟩ s)
      | .inr none => finish n w.num 0 0 (poolFree w.poolId w.bufIndex s)
      | .inr (some x) => finish n w.num 0 0 (updPool w.poolId (fun m => m.set w.bufIndex x) s)

/-- ALLOC (R253, R254, R437). -/
def execAlloc (n : Nat) (s : State) (same : Bool := false) : Host.Outcome State Fault Refusal :=
  .next (match nextWork s n .poolOp with
    | none => s
    | some w =>
      if !hstRuns s || w.subop ≠ 0 || !roundTakes s w.poolId n true same then s
      else match poolAlloc w.poolId n (noteRound w.poolId n 0 same s) with
        | some (i, s1) => finish n w.num 0 0 (noteRound w.poolId n 1 true <| updSq n (fun x => { x with works := x.works.map (fun v => if v.num = w.num then { v with outIndex := i } else v) }) s1)
        | none => finish n w.num 3 0 (poolEmpty w.poolId (noteRound w.poolId n 0 same s)))

/-- SHARE (R253). -/
def shareOp (n : Nat) (w : Work) (b : Option PoolBuf) : Nat ⊕ Option PoolBuf :=
  match b with
  | none => .inl 3
  | some x => if x.owner ≠ n then .inl 1 else if 255 < x.shares + w.shareN then .inl 2 else .inr (some { x with shares := x.shares + w.shareN })

/-- SHARE (R253, R437). -/
def execShare (n : Nat) (s : State) (same : Bool := false) : Host.Outcome State Fault Refusal := .next (runPoolOp n 1 same (shareOp n) s)

/-- RELEASE (R253): whoever asks. -/
def releaseOp (_w : Work) (b : Option PoolBuf) : Nat ⊕ Option PoolBuf :=
  match b with
  | none => .inl 3
  | some x => if x.shares = 0 then .inl 4 else .inr (some { x with shares := x.shares - 1 })

/-- RELEASE (R253, R437). -/
def execRelease (n : Nat) (s : State) (same : Bool := false) : Host.Outcome State Fault Refusal := .next (runPoolOp n 2 same releaseOp s)

/-- HANDOVER (R253). -/
def handoverOp (n : Nat) (w : Work) (b : Option PoolBuf) : Nat ⊕ Option PoolBuf :=
  match b with
  | none => .inl 3
  | some x => if x.owner ≠ n then .inl 1 else .inr (some { x with owner := w.newOwner })

/-- HANDOVER (R253, R437). -/
def execHandover (n : Nat) (s : State) (same : Bool := false) : Host.Outcome State Fault Refusal := .next (runPoolOp n 3 same (handoverOp n) s)

/-- FREE (R253). -/
def freeOp (n : Nat) (_w : Work) (b : Option PoolBuf) : Nat ⊕ Option PoolBuf :=
  match b with
  | none => .inl 3
  | some x => if x.owner ≠ n then .inl 1 else if x.shares ≠ 0 then .inl 5 else .inr none

/-- FREE (R253, R437). -/
def execFree (n : Nat) (s : State) (same : Bool := false) : Host.Outcome State Fault Refusal := .next (runPoolOp n 4 same (freeOp n) s)

/-! Transmit (R431, R432). -/

/-- The oldest staged frame of a queue. -/
def stagedHead (x : SubQ) : Option Work := x.works.find? (fun w => decide (w.kind = .tx) && !w.left)

/-- The transmit queues of a host port with a staged frame. -/
def stagedQueues (s : State) (h : Nat) : List Nat :=
  (s.hq.sq.filter (fun q => !q.2.rx && decide (q.2.hostPort = h) && decide (q.1 ≠ 0) && (stagedHead q.2).isSome)).map Prod.fst

/-- The queue that the round robin of a host port serves next (R431). -/
def nextTxQueue (s : State) (h : Nat) : Option Nat :=
  let l := (stagedQueues s h).foldl (fun l n => insertBy id n l) []
  let last := s.hq.lastTx.getD h 0
  match l.find? (fun n => decide (last < n)) with
  | some n => some n
  | none => l.head?

/-- TX_HOST_INJECT (R431, R432): a staged frame leaves for its slice core and is stamped; without TS_REQ its completion is ready. -/
def execTxHostInject (n : Nat) (s : State) : Host.Outcome State Fault Refusal :=
  .next (match sqOf s n with
    | none => s
    | some x => match stagedHead x with
      | none => s
      | some w =>
        let p := 1024 + x.hostPort
        let sl := sliceOf s p
        if !hstRuns s || nextTxQueue s x.hostPort ≠ some n then s
        else if !coreTakes s sl || !(slice s sl).den.isEmpty then askWake (32 + sl) s
        else
          let r := txCsum (bitN ((cfg s).offload.getD x.hostPort 3) 1) (w.flag 3) (w.flag 4) w.data
          let d := padded r.1
          if 65536 < stagingFill s sl + (d.length + 4) then s
          else
            let t := timeSixteenths s
            let flags := 2 * b2n (!s.time.valid)
            let f : Frame := { portIn := p, data := d, stamp := unsignedN 68 t, stampFlags := flags, epoch := s.quad.parity, rxLen := d.length + 4
                               host := some ⟨n, w.num, w.flags, w.refStamp⟩ }
            let s1 := toIngress f { s with hq := { s.hq with lastTx := s.hq.lastTx.set x.hostPort n } }
            let sent := fun (v : Work) => { v with left := true, data := [], skipped := r.2, stamp := if v.flag 2 then 0 else stampBits t flags, result := if v.flag 2 then none else some 0 }
            addCtr (hqCtr n 0 1) w.data.length (updSq n (fun x => { x with works := x.works.map (fun v => if v.num = w.num then sent v else v) }) s1))

/-! Receive (R433 to R436). -/

/-- The oldest copy of egress queue `q` that the port front of a host port holds. -/
def hostHead (s : State) (p q : Nat) : Option Copy :=
  (port s p).fifo.findSome? (fun t => match t with | .copy c => if c.q = q then some c else none | .own _ _ => none)

/-- Take that copy away. -/
def takeHostHead (p q : Nat) (s : State) : State :=
  let isIt := fun (t : TxItem) => match t with | .copy c => decide (c.q = q) | .own _ _ => false
  { updPort p (fun x => { x with fifo := eraseFirst isIt x.fifo }) s with hq := { s.hq with rxWaitAt := s.hq.rxWaitAt.del (qid p q) } }

/-- A host port drops a copy, which is a loss of its flow when it is guarded (R16, log 105). -/
def dropHostCopy (p q : Nat) (c : Copy) (s : State) : State :=
  let s1 := dropInFlight (sliceOf s p) [c] (takeHostHead p q s)
  noteEmpty p (copyEnds c.frame (match storedOf s c.frame with | some x => countLoss c x s1 | none => s1))

/-- RX_FLAGS of a frame (R417, R433, R436). -/
def rxFlagsOf (s : State) (h : Nat) (c : Copy) (d : List Byte) (hashTyp : Nat) : Nat :=
  rxCsumFlags (bitN ((cfg s).offload.getD h 3) 0) d + 16 * b2n (isVlanTpid (nfld d 12 2)) + 32 * b2n (bitN (mWord c.m 7) 7) + 64 * hashTyp

/-- Fill a posted buffer with a copy (R434, R436). -/
def fillBuffer (p q n : Nat) (w : Work) (c : Copy) (k : Stored) (t : Option Nat × Nat × Nat) (s : State) : State :=
  let h := p - 1024
  let x := (sqOf s n).getD { gen := 1, rx := true, hostPort := h, size := 16, base := 0, headWb := 0, cq := 0, vector := 0, coalesce := 1, coalUs := 0, pool := 0, maxRx := 0, rxWait := 0 }
  let d := padded c.data
  let out := rxWritten s h d
  let (idx, s0) := if w.flag 6 then ((poolAlloc x.pool n (noteRound x.pool n 1 false s)).getD (0, s)) else (0, s)
  let addr := if w.flag 6 then (match poolOf s x.pool with | some y => y.base + idx * 2 ^ y.bufLog2 | none => 0) else w.addr
  let done := fun (v : Work) => { v with
    result := some 0, stamp := stampBits k.c.frame.stamp k.c.frame.stampFlags, outLen := out.length, outIndex := idx, hash := t.2.1
    rxFlags := rxFlagsOf s h c d t.2.2, tci := if isVlanTpid (nfld d 12 2) then nfld d 14 2 else 0, port := k.c.frame.portIn, doneFor := some (c.frame, c.group) }
  let s1 := hpiWrite addr out (takeHostHead p q s0)
  noteEmpty p (addCtr (hqCtr n 0 1) out.length (updSq n (fun x => { x with works := x.works.map (fun v => if v.num = w.num then done v else v) }) s1))

/-- NO_QUEUE of a host port (R435). -/
def noQueueCtr (p : Nat) : Ctr := ⟨.hostq, p - 1024, 2, 0⟩

/-- A copy has to wait for a buffer from now on (R435). -/
def noteWait (p q n : Nat) (empty : Bool) (s : State) : State :=
  let s1 := if empty then poolEmpty (match sqOf s n with | some x => x.pool | none => 0) s else s
  { s1 with hq := { s1.hq with rxWaitAt := if s1.hq.rxWaitAt.has (qid p q) then s1.hq.rxWaitAt else s1.hq.rxWaitAt.set (qid p q) (rawNs s) } }

/-- What the receive queue of a copy with data `d` can do with it. -/
def judgeData (s : State) (p q : Nat) (k : Classified) (d : List Byte) (hs : List Hdr) : RxVerdict :=
  rxJudge s (p - 1024) (rxTarget s (p - 1024) q k d hs).1 (rxWritten s (p - 1024) d).length

/-- The copy at the head of an egress queue that its receiver keeps there, with its verdict (R435, log 51). -/
def keptHead (s : State) (p q : Nat) : Option (Copy × RxVerdict) :=
  match queueOf s (qid p q) with
  | [] => none
  | c :: _ => (storedOf s c.frame).map (fun k => let sh := egressShape s k.c p; (c, judgeData s p q k.c (padded sh.data) sh.hdrs))

/-- RX_DISPATCH (R433 to R436): the copy that egress queue `q` of a host port has released meets its receive queue; with none released, the head copy
of the queue begins its wait. -/
def execRxDispatch (p q : Nat) (s : State) : Host.Outcome State Fault Refusal :=
  .next (if !hstRuns s || !isHostPort p then s
    else match hostHead s p q with
      | none => (match keptHead s p q with
        | some (_, .wait n empty) => noteWait p q n empty s
        | _ => s)
      | some c => (match storedOf s c.frame with
        | none => s
        | some k =>
          let d := padded c.data
          match judgeData s p q k.c d c.hdrs with
          | .fill n w => fillBuffer p q n w c k (rxTarget s (p - 1024) q k.c d c.hdrs) s
          | .tooLong n => dropHostCopy p q c (bump (hqCtr n 0 3) s)
          | .wait n empty => noteWait p q n empty s
          | .noQueue => if guardedCopy s c then s else dropHostCopy p q c (bump (noQueueCtr p) s)))

/-- The wait of a copy for receive queue `n`, since `t`, has run out (R435). -/
def waitOver (s : State) (n t : Nat) : Bool := decide (t + (match sqOf s n with | some x => x.rxWait | none => 0) * 1000 ≤ rawNs s)

/-- RX_WAIT_EXPIRY (R435): the wait of an unguarded copy has run out. -/
def execRxWaitExpiry (p q : Nat) (s : State) : Host.Outcome State Fault Refusal :=
  .next (match s.hq.rxWaitAt.get? (qid p q) with
    | none => s
    | some t => match hostHead s p q with
      | some c => (match storedOf s c.frame with
        | none => s
        | some k => match judgeData s p q k.c (padded c.data) c.hdrs with
          | .wait n _ => if guardedCopy s c || !waitOver s n t then s else dropHostCopy p q c (bump (hqCtr n 0 2) s)
          | _ => s)
      | none => (match keptHead s p q with
        | some (c, .wait n _) =>
          if guardedCopy s c || !waitOver s n t then s
          else
            let s1 := setQueue (qid p q) ((queueOf s (qid p q)).drop 1) (bump (hqCtr n 0 2) s)
            noteEmpty p (copyEnds c.frame { s1 with hq := { s1.hq with rxWaitAt := s1.hq.rxWaitAt.del (qid p q) } })
        | _ => s))

end Sys2Proof.Machine
end

