-- ==== Sys2Proof/Machine/HostCmd.lean ====
section
/-! DEFINITION. The HQ class (R403 to R433): rings, queue pairs, completion rings, their states, filters, groups, offloads. -/

namespace Sys2Proof.Machine

/-- Gen-2 queue pairs of the configuration (R1). -/
def gen2Count (s : State) : Nat := if nSlices s < 8 then 0 else 128 * nSlices s

/-- QMAX (R403). -/
def qMax (s : State) : Nat := gen2Count s + 256

/-- Submission queues of a generation. -/
def queuesOfGen (s : State) (g : Nat) : Nat := (s.hq.sq.filter (fun q => decide (q.2.gen = g))).length

/-- A queue number of the payload: named, or chosen by firmware (free value, log 23). -/
def queueNum (e : Env) (s : State) : Option Nat :=
  if fld e.payload 0 2 ≠ 0xFFFF then some (fld e.payload 0 2) else fwPick 9 s.fresh 1 (qMax s - 1) (fun n => s.hq.sq.has n)

/-- QUEUE names a number of the configuration. -/
def queueThere (e : Env) (s : State) : Bool := fld e.payload 0 2 = 0xFFFF || fld e.payload 0 2 < qMax s

/-- MAX_RX, RX_WAIT_US and POOL_ID of a creation, at their offsets (R403, RING_CREATE). -/
def rxFields (e : Env) (s : State) (poolOff maxOff waitOff : Nat) : List (Nat × Bool) :=
  let p := e.payload
  let rx := byteAt p 2 = 1
  let pool := byteAt p poolOff
  let bufSize := match s.buf.pools.get? pool with | some x => 2 ^ x.bufLog2 | none => 16380
  [(maxOff, if rx then decide (64 ≤ fld p maxOff 2) && decide (fld p maxOff 2 ≤ 16380) && (pool = 0 || fld p maxOff 2 ≤ bufSize) else fld p maxOff 2 = 0),
   (waitOff, if rx then fld p waitOff 2 ≤ 1000 else fld p waitOff 2 = 0)]

/-- POOL_ID of a creation. -/
def poolField (e : Env) (s : State) (off : Nat) : Nat × Bool :=
  (off, byteAt e.payload off = 0 || (byteAt e.payload 2 = 1 && s.buf.pools.has (byteAt e.payload off)))

/-- Bytes 0 to 23 of a creation. -/
def ringFields (e : Env) (align : Nat) : List (Nat × Bool) :=
  let p := e.payload
  [below p 2 1 2, below p 3 1 64, (4, isPow2 (fld p 4 4) 16 65536), (8, fld p 8 8 % align = 0), (16, fld p 16 8 % 8 = 0)]

/-- Why a queue number cannot be created (R90, RING_CREATE). -/
def createState (e : Env) (s : State) : Option Nat :=
  if fld e.payload 0 2 = 0 then some 0 else if s.hq.sq.has (fld e.payload 0 2) then some 2 else none

/-- Put a new queue in place. -/
def createQueue (x : SubQ) (n : Nat) (s : State) : State := { s with hq := { s.hq with sq := s.hq.sq.set n x }, fresh := s.fresh + 1 }

/-- The Gen-1 ring that RING_CREATE describes. -/
def ringOf (e : Env) : SubQ :=
  let p := e.payload
  { gen := 1, rx := byteAt p 2 = 1, hostPort := byteAt p 3, size := fld p 4 4, base := fld p 8 8, headWb := fld p 16 8, cq := 0, vector := fld p 24 2
    coalesce := fld p 26 2, coalUs := fld p 28 2, pool := byteAt p 30, maxRx := fld p 32 2, rxWait := fld p 34 2 }

/-- The checks of RING_CREATE (R403). -/
def ringCreateChk (e : Env) (s : State) : Chk :=
  let p := e.payload
  { present := queueThere e s
    fields := ringFields e 32 ++ [within p 24 2 256 4095, within p 26 2 1 1024, below p 28 2 1001, poolField e s 30, zeroAt p 31 1] ++ rxFields e s 30 32 34 ++ [zeroAt p 36 4]
    st := createState e s, resource := if 256 ≤ queuesOfGen s 1 || (queueNum e s).isNone then some 0 else none }

/-- RING_CREATE (R403). -/
def execRingCreate (e : Env) (s : State) : Host.Outcome State Fault Refusal :=
  .next (runOk 0x0E01 (lenIs 40) (ringCreateChk e s) e
    (fun s => leB 2 ((queueNum e s).getD 0) ++ leB 2 0) (fun s => createQueue (ringOf e) ((queueNum e s).getD 0) s) s)

/-- The queue pair that QP_CREATE describes. -/
def qpOf (e : Env) : SubQ :=
  let p := e.payload
  { gen := 2, rx := byteAt p 2 = 1, hostPort := byteAt p 3, size := fld p 4 4, base := fld p 8 8, headWb := fld p 16 8, cq := fld p 24 2, vector := 0
    coalesce := 1, coalUs := 0, pool := byteAt p 26, maxRx := fld p 28 2, rxWait := fld p 30 2 }

/-- The checks of QP_CREATE (R403). -/
def qpCreateChk (e : Env) (s : State) : Chk :=
  let p := e.payload
  { present := gen2 s && queueThere e s
    fields := ringFields e 64 ++ [(24, fld p 24 2 = 0 || s.hq.cq.has (fld p 24 2)), poolField e s 26, zeroAt p 27 1] ++ rxFields e s 26 28 30
    st := if fld p 24 2 = 0 then some 0 else createState e s
    resource := if gen2Count s ≤ queuesOfGen s 2 || (queueNum e s).isNone then some 0 else none }

/-- QP_CREATE (R403). Completion ring 0 is the admin queue's (R90). -/
def execQpCreate (e : Env) (s : State) : Host.Outcome State Fault Refusal :=
  .next (runOk 0x0E02 (lenIs 32) (qpCreateChk e s) e
    (fun s => leB 2 ((queueNum e s).getD 0) ++ leB 2 0) (fun s => createQueue (qpOf e) ((queueNum e s).getD 0) s) s)

/-- A completion ring number of the payload. -/
def cqNum (e : Env) (s : State) : Option Nat :=
  if fld e.payload 0 2 ≠ 0xFFFF then some (fld e.payload 0 2) else fwPick 10 s.fresh 1 (gen2Count s - 1) (fun n => s.hq.cq.has n)

/-- The checks of CQ_CREATE (R403). -/
def cqCreateChk (e : Env) (s : State) : Chk :=
  let p := e.payload
  { present := gen2 s && (fld p 0 2 = 0xFFFF || fld p 0 2 < gen2Count s)
    fields := [zeroAt p 2 2, (4, isPow2 (fld p 4 4) 16 65536), (8, fld p 8 8 % 32 = 0), within p 16 2 256 4095, within p 18 2 1 1024, below p 20 2 1001, zeroAt p 22 2]
    st := if fld p 0 2 = 0 then some 0 else if s.hq.cq.has (fld p 0 2) then some 2 else none
    resource := if (cqNum e s).isNone then some 0 else none }

/-- CQ_CREATE (R403). -/
def execCqCreate (e : Env) (s : State) : Host.Outcome State Fault Refusal :=
  let p := e.payload
  let x : CompQ := { size := fld p 4 4, base := fld p 8 8, vector := fld p 16 2, coalesce := fld p 18 2, coalUs := fld p 20 2 }
  .next (runOk 0x0E03 (lenIs 24) (cqCreateChk e s) e
    (fun s => leB 2 ((cqNum e s).getD 0)) (fun s => { s with hq := { s.hq with cq := s.hq.cq.set ((cqNum e s).getD 0) x }, fresh := s.fresh + 1 }) s)

/-- KIND of a payload is a completion ring. -/
def onRing (e : Env) : Bool := byteAt e.payload 2 = 1

/-- The queue or completion ring of a payload is within the configuration. -/
def unitPresent (e : Env) (s : State) : Bool := if onRing e then gen2 s && fld e.payload 0 2 < gen2Count s else fld e.payload 0 2 < qMax s

/-- The queue or completion ring of a payload stands. -/
def unitThere (e : Env) (s : State) : Bool := if onRing e then s.hq.cq.has (fld e.payload 0 2) else s.hq.sq.has (fld e.payload 0 2)

/-- An accepted entry still lacks its completion: it has no result, or owes a completion that HPI has not acknowledged. -/
def lacksCqe (x : SubQ) (w : Work) : Bool := w.result.isNone || x.gen = 2 || ownsCqe w

/-- Accepted entries without a completion. -/
def pendingOf (x : SubQ) : Nat := (x.works.filter (lacksCqe x)).length

/-- HEAD as commands report it: submission head, or consumer index. -/
def headData (e : Env) (s : State) : List Byte :=
  let n := fld e.payload 0 2
  if onRing e then (match cqOf s n with | some x => leB 4 (posWord x.size x.cons) | none => leB 4 0)
  else match sqOf s n with | some x => leB 4 (posWord x.size x.head) | none => leB 4 0

/-- Queue 0 and ring 0, and an absent unit (R90, QUEUE_DISABLE). -/
def unitState (e : Env) (s : State) : Option Nat := if fld e.payload 0 2 = 0 then some 0 else if unitThere e s then none else some 3

/-- The checks of QUEUE_DISABLE. -/
def queueCtlChk (act : Nat) (e : Env) (s : State) : Chk :=
  { present := unitPresent e s, fields := [below e.payload 2 1 2, (3, byteAt e.payload 3 = act)], st := unitState e s }

/-- Disable (R420, R427). -/
def disableUnit (e : Env) (s : State) : State :=
  let n := fld e.payload 0 2
  if onRing e then updCq n (fun x => { x with enabled := false }) s
  else match sqOf s n with
    | some x => if x.st = .enabled then setQueueState n .disabled (updSq n (fun x => { x with fetched := [], phaseWait := none }) s) else s
    | none => s

/-- QUEUE_DISABLE with ACTION 0 (R427). -/
def execQueueDisable (e : Env) (s : State) : Host.Outcome State Fault Refusal :=
  .next (runCmd 0x0E04 (lenIs 4) (queueCtlChk 0 e s) e (fun s => let t := disableUnit e s; respond e 0x0E04 (okV (headData e t)) t) s)

/-- Enable (R428). -/
def enableUnit (e : Env) (s : State) : State :=
  let n := fld e.payload 0 2
  if onRing e then
    let s1 := flushBacklog n 64 (updCq n (fun x => { x with enabled := true }) s)
    (boundQueues s1 n).foldl (fun s q => advance q s) s1
  else match sqOf s n with
    | some x => if x.st = .enabled then s else setQueueState n .enabled (updSq n (fun x => { x with tail := x.head, reason := 0, fetched := [], phaseWait := none, specMiss := true }) s)
    | none => s

/-- QUEUE_DISABLE with ACTION 1 (R428). -/
def execQueueEnable (e : Env) (s : State) : Host.Outcome State Fault Refusal :=
  .next (runCmd 0x0E04 (lenIs 4) (queueCtlChk 1 e s) e (fun s => let t := enableUnit e s; respond e 0x0E04 (okV (headData e t)) t) s)

/-- Why a destroy is refused (R426). -/
def destroyState (e : Env) (s : State) : Option Nat :=
  let n := fld e.payload 0 2
  match unitState e s with
  | some d => some d
  | none =>
    if onRing e then
      (match cqOf s n with
        | some x => if !(boundQueues s n).isEmpty then some 0x0F else if x.enabled then some 0 else none
        | none => none)
    else match sqOf s n with
      | some x => if pendingOf x ≠ 0 then some 0x0D else if x.st ≠ .disabled then some 0 else none
      | none => none

/-- The checks of QUEUE_DESTROY (R426). -/
def queueDestroyChk (e : Env) (s : State) : Chk :=
  { queueCtlChk 2 e s with st := destroyState e s }

/-- QUEUE_DISABLE with ACTION 2 (R426). -/
def execQueueDestroy (e : Env) (s : State) : Host.Outcome State Fault Refusal :=
  let n := fld e.payload 0 2
  .next (runOk 0x0E04 (lenIs 4) (queueDestroyChk e s) e (headData e)
    (fun s => if onRing e then { s with hq := { s.hq with cq := s.hq.cq.del n } } else { s with hq := { s.hq with sq := s.hq.sq.del n } }) s)

/-- Why a reset is refused (R429). -/
def resetState (e : Env) (s : State) : Option Nat :=
  let n := fld e.payload 0 2
  match unitState e s with
  | some d => some d
  | none =>
    if onRing e then (match cqOf s n with | some x => if x.enabled || !x.backlog.isEmpty || x.held ≠ 0 then some 0x0D else none | none => none)
    else match sqOf s n with
      | some x => if x.st = .enabled || x.works.any (fun w => lacksCqe x w && !w.posted && !w.issued) then some 0x0D else none
      | none => none

/-- Flush the oldest posted buffers of a queue, with their completions (R429; log 52). -/
def flushPosted (n : Nat) : Nat → State → State
  | 0, s => s
  | k + 1, s =>
    match nextWork s n .rxPost with
    | none => s
    | some w =>
      let s1 := updSq n (fun x => { x with ackN := max x.ackN (w.num + 1) }) (finish n w.num 5 0 s)
      match sqOf s1 n with
      | none => s1
      | some x => flushPosted n k (let v := { w with result := some 5, detail := 0 }; if x.gen = 2 then completeGen2 n x v s1 else completeGen1 n x v s1)

/-- QUEUE_RESET's effect (R429). -/
def resetUnit (e : Env) (s : State) : State :=
  let n := fld e.payload 0 2
  if onRing e then updCq n (fun x => { x with prod := 0, cons := 0 }) s
  else match sqOf s n with
    | none => s
    | some x => setQueueState n .disabled (updSq n (fun x => { x with head := 0, tail := 0, reason := 0, fetched := [], phaseWait := none }) (flushPosted n x.works.length s))

/-- The checks of QUEUE_RESET (R429). -/
def queueResetChk (e : Env) (s : State) : Chk :=
  { present := unitPresent e s, fields := [below e.payload 2 1 2, zeroAt e.payload 3 1], st := resetState e s }

/-- QUEUE_RESET (R429). -/
def execQueueReset (e : Env) (s : State) : Host.Outcome State Fault Refusal :=
  .next (runOk 0x0E05 (lenIs 4) (queueResetChk e s) e (fun _ => []) (resetUnit e) s)

/-- The counters of a queue or ring that QUEUE_STATUS reads, ENTRIES first. -/
def unitCounters (e : Env) (s : State) : List Byte :=
  let n := fld e.payload 0 2
  let c := fun (i : Nat) => leB 8 (ctrOf s (hqCtr n (b2n (onRing e)) i))
  if onRing e then c 0 ++ leB 8 0 ++ c 2 ++ leB 8 0 ++ leB 8 0 else c 0 ++ c 1 ++ c 2 ++ c 3 ++ c 4

/-- Response data of QUEUE_STATUS. -/
def queueStatusData (e : Env) (s : State) : List Byte :=
  let n := fld e.payload 0 2
  if onRing e then match cqOf s n with
    | none => []
    | some x => leB 1 (b2n x.enabled) ++ leB 1 0 ++ leB 2 0 ++ leB 4 (posWord x.size x.cons) ++ leB 4 (posWord x.size x.prod) ++ leB 4 x.held ++ leB 1 2 ++ leB 1 0
        ++ leB 2 x.vector ++ leB 4 x.backlog.length ++ unitCounters e s
  else match sqOf s n with
    | none => []
    | some x =>
      let st := if x.st = .enabled && !placeFree s x then 3 else stateCode x
      leB 1 st ++ leB 1 x.reason ++ leB 2 x.errIndex ++ leB 4 (posWord x.size x.head) ++ leB 4 (posWord x.size x.tail) ++ leB 4 (pendingOf x) ++ leB 1 x.gen
        ++ leB 1 (b2n x.rx) ++ leB 2 (if x.gen = 2 then x.cq else x.vector) ++ leB 4 0 ++ unitCounters e s

/-- The checks of QUEUE_STATUS (R426). -/
def queueStatusChk (e : Env) (s : State) : Chk :=
  { present := unitPresent e s, fields := [below e.payload 2 1 2, below e.payload 3 1 2], st := unitState e s }

/-- QUEUE_STATUS (R426). -/
def execQueueStatus (e : Env) (s : State) : Host.Outcome State Fault Refusal :=
  let n := fld e.payload 0 2
  .next (runOk 0x0E06 (lenIs 4) (queueStatusChk e s) e (queueStatusData e)
    (fun s => if bitN (byteAt e.payload 3) 0 then clearCtrs (fun c => decide (c.fam = .hostq) && decide (c.unit = n) && decide (c.sub = b2n (onRing e))) s else s) s)

/-- A receive queue of a host port. -/
def rxQueueOf (s : State) (h n : Nat) : Bool := match sqOf s n with | some x => x.rx && decide (x.hostPort = h) && decide (n ≠ 0) | none => false

/-- The checks of RX_FILTER_SET. -/
def rxFilterChk (e : Env) (s : State) : Chk :=
  let p := e.payload
  let deflt := byteAt p 1 = 0xFF
  let valid := bitN (byteAt p 2) 0
  { fields := [below p 0 1 64, (1, byteAt p 1 < 64 || deflt), below p 2 1 4, (3, byteAt p 3 < 32 && (!deflt || byteAt p 3 = 0)),
      (10, !bitN (byteAt p 3) 1 || (decide (1 ≤ fld p 10 2) && decide (fld p 10 2 ≤ 4094))), below p 14 1 16, zeroAt p 15 1, below p 16 4 (2 ^ 30),
      (20, !valid || (if bitN (byteAt p 2) 1 then (match (cfg s).rss.get? (fld p 20 2) with | some g => decide (g.hostPort = byteAt p 0) | none => false)
        else rxQueueOf s (byteAt p 0) (fld p 20 2))), zeroAt p 22 2] }

/-- RX_FILTER_SET (R433). -/
def execRxFilterSet (e : Env) (s : State) : Host.Outcome State Fault Refusal :=
  .next (runStaged (.rxFilterSet e) 0x0E07 (lenIs 24) [⟨0x0E07, byteAt e.payload 0, byteAt e.payload 1⟩] (rxFilterChk e) id e s)

/-- The checks of RSS_SET (R433). -/
def rssSetChk (e : Env) (s : State) : Chk :=
  let p := e.payload
  { fields := [below p 0 1 64, below p 1 1 64, below p 2 1 2, zeroAt p 3 1, (4, fld p 4 2 < 2048), zeroAt p 6 2, zeroAt p 12 4]
  ++ (List.range 128).map (fun i => (16 + 2 * i, !bitN (byteAt p 2) 0 || rxQueueOf s (byteAt p 1) (fld p (16 + 2 * i) 2))) }

/-- RSS_SET (R433). -/
def execRssSet (e : Env) (s : State) : Host.Outcome State Fault Refusal :=
  let p := e.payload
  .next (runStaged (.rssSet e) 0x0E08 (lenIs 272) [⟨0x0E08, byteAt p 0, 0⟩]
    (rssSetChk e) id e s)

/-- The checks of OFFLOAD_SET (R432, R436). -/
def offloadSetChk (e : Env) (_ : State) : Chk :=
  let p := e.payload
  { fields := [below p 0 1 64, below p 1 1 8, zeroAt p 2 2] }

/-- OFFLOAD_SET (R432, R436). -/
def execOffloadSet (e : Env) (s : State) : Host.Outcome State Fault Refusal :=
  let p := e.payload
  .next (runStaged (.offloadSet e) 0x0E09 (lenIs 4) [⟨0x0E09, byteAt p 0, 0⟩] (offloadSetChk e) id e s)

end Sys2Proof.Machine
end

