-- ==== Sys2Proof/Machine/Sha.lean ====
section
/-! DEFINITION. SHA-256 and HMAC-SHA-256, by which Otdiuri tags records and log entries and judges an unseal (R380, R395 to R397). -/

namespace Sys2Proof.Machine

/-- The largest `x` whose `k`-th power is at most `n`, found bit by bit from bit `b - 1` down. -/
def rootBits (k n : Nat) : Nat → Nat → Nat
  | 0, x => x
  | b + 1, x => rootBits k n b (if (x + 2 ^ b) ^ k ≤ n then x + 2 ^ b else x)

/-- The first 32 fraction bits of the `k`-th root of a number below 2 ^ (3 k). -/
def rootFraction (k p : Nat) : Word := BitVec.ofNat 32 (rootBits k (p * 2 ^ (32 * k)) 35 0)

/-- The primes below `n`, for `n` up to 324. -/
def primesBelow (n : Nat) : List Nat := (List.range n).filter (fun p => 2 ≤ p && (List.range 18).all (fun d => d < 2 || p ≤ d || p % d ≠ 0))

/-- The round constants of SHA-256: the cube roots of the first 64 primes. -/
def shaK : List Word := (primesBelow 312).map (rootFraction 3)

/-- The initial hash value of SHA-256: the square roots of the first 8 primes. -/
def shaInit : List Word := (primesBelow 20).map (rootFraction 2)

/-- Rotate a word right. -/
def rotr (x : Word) (n : Nat) : Word := (x >>> n) ||| (x <<< (32 - n))

/-- A word's rotations by the amounts `ns`, combined by exclusive or. -/
def rotMix (x : Word) (ns : List Nat) : Word := ns.foldl (fun y n => y ^^^ rotr x n) 0

/-- The next word of the message schedule, from the ones before it, newest first. -/
def shaNext (l : List Word) : Word :=
  let back := fun n => l.getD (n - 1) 0
  back 16 + back 7 + (rotMix (back 15) [7, 18] ^^^ (back 15 >>> 3)) + (rotMix (back 2) [17, 19] ^^^ (back 2 >>> 10))

/-- The message schedule, newest word first, grown by `n` words. -/
def shaExpand (n : Nat) (l : List Word) : List Word := n.repeat (fun l => shaNext l :: l) l

/-- One round, on the last four words of either of the two sequences that a hash runs, newest first: the new word of the second sequence takes up the oldest
of the first. -/
def shaRound : List Word × List Word → Word × Word → List Word × List Word
  | (a :: b :: c :: d :: _, e :: f :: g :: h :: _), (k, w) =>
    let feed := k + w + h + rotMix e [6, 11, 25] + (g ^^^ (e &&& (f ^^^ g)))
    ((feed + rotMix a [2, 13, 22] + ((b &&& c) ||| (a &&& (b ||| c)))) :: [a, b, c], (feed + d) :: [e, f, g])
  | v, _ => v

/-- The words of a block of 64 bytes. -/
def shaWords : Nat → List Byte → List Word
  | 0, _ => []
  | n + 1, l => BitVec.ofNat 32 (nfld l 0 4) :: shaWords n (l.drop 4)

/-- Take one block into the hash value. -/
def shaBlock (hv : List Word) (block : List Byte) : List Word :=
  let v := (shaK.zip (shaExpand 48 (shaWords 16 block).reverse).reverse).foldl shaRound (hv.take 4, hv.drop 4)
  List.zipWith (· + ·) hv (v.1 ++ v.2)

/-- Take `n` blocks. -/
def shaBlocks : Nat → List Word → List Byte → List Word
  | 0, hv, _ => hv
  | n + 1, hv, l => shaBlocks n (shaBlock hv (l.take 64)) (l.drop 64)

/-- The padded message. -/
def shaPad (m : List Byte) : List Byte := m ++ [0x80] ++ List.replicate ((119 - m.length % 64) % 64) 0 ++ beB 8 (8 * m.length)

/-- SHA-256, 32 bytes; the manual names it and does not give it (PRESUMED, log 126). -/
def sha256 (m : List Byte) : List Byte :=
  let p := shaPad m
  (shaBlocks (p.length / 64) shaInit p).flatMap (fun w => beB 4 w.toNat)

/-- HMAC-SHA-256 under a key of at most 64 bytes (PRESUMED, log 126). -/
def hmac (key m : List Byte) : List Byte :=
  let k := sub key 0 64
  sha256 (k.map (fun b => b ^^^ 0x5C) ++ sha256 (k.map (fun b => b ^^^ 0x36) ++ m))

/-- The characters of a tag's label. -/
def ascii (s : String) : List Byte := s.toList.map (fun c => BitVec.ofNat 8 c.toNat)

end Sys2Proof.Machine
end

