-- ==== Sys2Proof/Machine/OtdOps.lean ====
section
/-! DEFINITION. Otdiuri's log, and the actions on TIME that a tick takes (R383 to R386, R397, R398). -/

namespace Sys2Proof.Machine

/-- Change Otdiuri. -/
def updOtd (f : Otd → Otd) (s : State) : State := { s with otd := f s.otd }

/-- Add to a counter of OSYS_STATUS: 0 UNBILLED_RX, 1 UNBILLED_TX, 2 SPILL_RX, 3 SPILL_TX, 4 ERR_NOACCT_RX, 5 ERR_NOACCT_TX, 6 CONTROL_FRAMES,
7 SERVO_REFUSED, 8 RING_ERR, 9 EXTENDED_INTERVALS, 10 UNSEAL_DENIED, 11 TAP_SUMMARIES. -/
def otdCount (i n : Nat) (s : State) : State := updOtd (fun o => { o with ctr := o.ctr.upd i 0 (fun v => (v + n) % 2 ^ 64) }) s

/-- The first 16 bytes of HMAC-SHA-256 under the key; zeros while the key is absent (R377). -/
def otdTag (key : Option (List Byte)) (m : List Byte) : List Byte :=
  match key with
  | some k => (hmac k m).take 16
  | none => List.replicate 16 0

/-- Bytes 0 to 31 of a log entry (R397). -/
def logHead (x : LogEntry) : List Byte :=
  leB 4 x.seq ++ leB 1 x.code ++ leB 1 x.source ++ leB 2 x.discont ++ leB 8 x.rawNs ++ leB 8 (unsignedN 64 x.timeNs) ++ leB 8 x.detail

/-- The 48 bytes of a log entry. -/
def logBytes (x : LogEntry) : List Byte := logHead x ++ x.tag

/-- Put an entry at the end of the log, where there is a place (R397); source 49 as the count reaches 3 072 or the log becomes full (R383). -/
def pushLog (code source detail : Nat) (s : State) : State :=
  let o := s.otd
  let x : LogEntry := ⟨o.logNext, code, source, s.time.discont.toNat, rawT s / 65536, timeNs s, detail, []⟩
  let tag := otdTag o.key (ascii "OTDL" ++ logHead x ++ o.lastLogTag)
  let n := o.log.length + 1
  let s1 := updOtd (fun o => { o with log := o.log ++ [{ x with tag }], logNext := (o.logNext + 1) % 2 ^ 32, lastLogTag := tag }) s
  if n = 3072 || n = 4064 then fire 49 s1 else s1

/-- An event that finds all 4 096 places taken (R383). -/
def loseLog (s : State) : State := fire 49 (updOtd (fun o => { o with lost := o.lost + 1, logLost := true }) s)

/-- Write a log entry: a LOST entry goes ahead of it once room has returned; with no place the event is lost (R383, R398). -/
def otdLog (code source detail : Nat) (s : State) : State :=
  let s1 := if 0 < s.otd.lost && s.otd.log.length < 4096 then pushLog 0x14 0 (min 0xFFFFFFFF s.otd.lost) (updOtd (fun o => { o with lost := 0 }) s) else s
  if s1.otd.log.length < 4096 then pushLog code source detail s1 else loseLog s1

/-- The log is full (R383). -/
def logFull (s : State) : Bool := 4064 ≤ s.otd.log.length

/-- NOM_INC in 2^-32 ns. -/
def nom32 (s : State) : Nat := nomInc s.build.owlHz * 65536

/-- A signed number that saturates at 24 bits. -/
def sat24 (v : Int) : Nat := unsignedN 24 (max (-8388608) (min 8388607 v))

/-- Write the INC_SUMMARY, when it counts anything (R385, R398). -/
def flushIncs (s : State) : State :=
  let o := s.otd
  if o.incCount = 0 then s
  else
    let d := min 0xFFFF o.incCount + 2 ^ 16 * sat24 ((o.incMax : Int) - o.incRef) + 2 ^ 40 * sat24 ((o.incMin : Int) - o.incRef)
    updOtd (fun o => { o with incCount := 0, incMax := 0, incMin := 0, incSumAt := rawT s / 65536 }) (otdLog 0x0A 0 d s)

/-- Log a DISC_INC: INC_SET beyond NOM_INC × 10^-6 of the reference value, else the summary counts it (R385). -/
def noteInc (s : State) (n : Nat × Nat) : State :=
  let o := s.otd
  let (src, inc) := n
  if nom32 s < ((inc : Int) - o.incRef).natAbs * 1000000 then
    updOtd (fun o => { o with incRef := inc }) (otdLog 0x09 src inc (flushIncs s))
  else
    updOtd (fun o => { o with
      incCount := o.incCount + 1, incMax := if o.incCount = 0 then inc else max o.incMax inc, incMin := if o.incCount = 0 then inc else min o.incMin inc }) s

/-- Log a step of `amount` in 2^-16 ns (R385, R398). -/
def noteStep (s : State) (n : Nat × Int × Bool × Bool) : State :=
  let (src, amount, valid, invalidate) := n
  otdLog (if valid then 0x0C else if invalidate then 0x0D else 0x0B) src (unsignedN 48 (amount / 65536) + 2 ^ 48 * (amount % 65536).toNat) (flushIncs s)

/-- What a tick does in Otdiuri beside the counters: it logs the DISC_INC and then the step that it took, and a change of TIME_AUTHORITY comes into
force (R384, R386). -/
def otdTick (s : State) : State :=
  let o := s.otd
  let s1 := updOtd (fun o => { o with incNote := [], stepNote := [], authority := o.authNext.getD o.authority, authNext := none }) s
  o.stepNote.foldl noteStep (o.incNote.foldl noteInc s1)

/-- Take a DISC_INC for the next tick (R148). -/
def takeInc (src inc : Nat) (s : State) : State :=
  updOtd (fun o => { o with incNote := o.incNote ++ [(src, inc)] }) { s with time := { s.time with incNext := some (BitVec.ofNat 40 inc) } }

/-- Take a step of `amount` in 2^-16 ns for the next tick; a second step before that tick joins the first, and each counts in STEP_COUNT (R148, R150, R157). -/
def takeStep (src : Nat) (amount : Int) (valid invalidate : Bool) (s : State) : State :=
  let next := match s.time.stepNext with
    | none => (amount, valid, invalidate)
    | some (a, v, i) => (a + amount, valid || (v && !invalidate), invalidate || (i && !valid))
  updOtd (fun o => { o with stepNote := o.stepNote ++ [(src, amount, valid, invalidate)] }) { s with time := { s.time with stepNext := some next, stepsNext := s.time.stepsNext + 1 } }

/-- An action of the servo port is refused: it counts in SERVO_REFUSED (R383, R384). -/
def servoRefused (s : State) : Bool := !s.otd.authority || logFull s || decide (s.otd.start ≠ .ready)

/-- The servo has acted on a usable reference: it has used up the messages it held (R150; log 23). -/
def servoActed (lock : Bool) (s : State) : State := { s with time := { s.time with refAt := rawNs s, inbox := [], lock } }

/-- A step that the servo port delivers. -/
def servoStep (amount : Int) (valid invalidate : Bool) (s : State) : State :=
  if servoRefused s || (valid && invalidate) then otdCount 7 1 s else takeStep 2 amount valid invalidate s

/-- The servo's own INVALIDATE: it is locked and has had no usable reference for longer than its profile's holdover limit (R150). A servo that does not run
is not locked. -/
def holdoverTick (s : State) : State :=
  match s.time.servo with
  | none => s
  | some x =>
    if !servoRuns s then { s with time := { s.time with lock := false } }
    else if s.time.lock && decide (s.time.refAt + Config.holdoverNs x.profile < rawNs s) then
      servoStep 0 false true { s with time := { s.time with lock := false } }
    else s

end Sys2Proof.Machine
end

