-- ==== Sys2Proof/Machine/Time.lean ====
section
/-! DEFINITION. The time unit: the OWL tick, timers, PPS, SYNT_CTRL, the time read window, thermal evaluation (R69 to R81, R118, R147 to R161, R175
to R178). -/

namespace Sys2Proof.Machine

/-! SYNT_CTRL (R71, R177). -/

/-- round((DISC_INC - NOM_INC) / NOM_INC × 2^40), both in 2^-32 ns. -/
def syntOf (owlHz : Nat) (inc : BitVec 40) : Int :=
  let n : Int := (nomInc owlHz * 65536 : Nat)
  (2 * ((inc.toNat : Int) - n) * 2 ^ 40 + n) / (2 * n)

/-- The word that SYNT_CFG's MODE selects. -/
def syntWord (s : State) (t : TimeUnit) : Int :=
  if t.syntMode = 0 then 0 else if t.syntMode = 1 then syntOf s.build.owlHz t.discInc else if t.syntMode = 2 then t.syntServo else t.syntValue

/-- SYNT_CTRL follows at a tick, with SYNT_STB for that tick when it changes (R71; log 53). -/
def syntTick (s : State) : State :=
  let w := BitVec.ofNat 32 (unsignedN 32 (syntWord s s.time))
  { s with time := { s.time with synt := w, syntStb := decide (w ≠ s.time.synt) } }

/-! The tick (R147, R148). -/

/-- The counters after a tick: a new DISC_INC and a step take effect at it (R147, R148, R150, R151). -/
def tickCounters (owlHz : Nat) (t : TimeUnit) : TimeUnit :=
  let inc := t.incNext.getD t.discInc
  let n := nomInc owlHz
  let t1 := { t with prev := timeOf t, discInc := inc, incNext := none, stepNext := none, raw := t.raw + BitVec.ofNat 80 n
                     corr := t.corr + (inc.setWidth 96 - BitVec.ofNat 96 (n * 65536)) }
  match t.stepNext with
  | none => t1
  | some (d, valid, invalidate) =>
    { t1 with offset := t1.offset + BitVec.ofInt 80 d, valid := if invalidate then false else valid || t1.valid
              uncertain := false, stepCount := t1.stepCount + BitVec.ofNat 16 t.stepsNext, stepsNext := 0 }

/-- Otdiuri notes the tick for the open interval, by the time unit before it (R392, R395). -/
def noteInterval (old : TimeUnit) (s : State) : State :=
  let o := s.otd
  { s with otd := { o with
      sawInvalid := o.sawInvalid || !old.valid, sawUncertain := o.sawUncertain || old.uncertain || s.time.uncertain
      validChanged := o.validChanged || decide (old.valid ≠ s.time.valid) } }

/-- Effective latencies of the last evaluation come into force (R165). -/
def latTick (s : State) : State :=
  { s with ports := s.ports.mapV (fun _ x => match x.latNext with | some (r, t) => { x with rxLat := r, txLat := t, latNext := none } | none => x) }

/-- The check of one time receiver at a tick (R493): three misaligned ticks put it in fault, sixteen good ones clear it. -/
def checkReceiver (bad : List Nat) (s : State) (sl : Nat) : State :=
  let b := s.badger
  if sl ∈ bad then
    let n := b.misaligned.getD sl 0 + 1
    let s1 := { s with badger := { b with misaligned := b.misaligned.set sl n, recovering := b.recovering.del sl } }
    if n = 3 && !decide (sl ∈ s.time.skewed) then logFault 8 0 (800 + sl) { s1 with time := { s1.time with skewed := addTo s1.time.skewed sl } } else s1
  else
    let s1 := { s with badger := { b with misaligned := b.misaligned.del sl } }
    if sl ∈ s.time.skewed then
      let n := b.recovering.getD sl 0 + 1
      if 16 ≤ n then { s1 with time := { s1.time with skewed := dropFrom s1.time.skewed sl }, badger := { s1.badger with recovering := s1.badger.recovering.del sl } }
      else { s1 with badger := { s1.badger with recovering := s1.badger.recovering.set sl n } }
    else s1

/-- Slice clocks in tick `k` (R153): 1.6 GHz over P_OWL_HZ. -/
def tickClocks (owlHz k : Nat) : Nat := (k + 1) * 1600000000 / owlHz - k * 1600000000 / owlHz

/-- A receiver at a bus word `n` (R153): it has advanced by INC_S per slice clock and what it had to absorb; a larger difference than 1/16 ns, or the step
marker, loads the word, a smaller one is absorbed over the next tick. -/
def receiverTick (adv n : Int) (load : Bool) (r : Int × Int) : Int × Int :=
  let l := r.1 + adv + r.2
  if load || decide (68719476736 < (n - l).natAbs) then (n, 0) else (l, n - l)

/-- The bus word of a tick reaches every receiver, and Owl recomputes INC_S (R152, R153): `old` is the time unit before the tick, and a receiver whose
check fails loads the word (R493). -/
def busTick (old : TimeUnit) (skewed : List Nat) (s : State) : State :=
  let adv : Int := (tickClocks s.build.owlHz old.ticks * old.incS : Nat)
  let one := fun (sl : Nat) => (sl, receiverTick adv (time16 s * 16777216) (old.stepNext.isSome || decide (sl ∈ skewed)) (old.recv.getD sl (timeOf old * 16777216, 0)))
  { s with time := { s.time with
      recv := (List.range (nSlices s)).map one, ticks := old.ticks + 1, incS := incPerClock s.build.owlHz s.time.discInc.toNat
      stepped := match old.stepNext with | some (d, _, _) => some (raw16 s, d / 4096) | none => old.stepped } }

/-! Comparators (R159 to R161). -/

/-- A comparator with a whole-ns target fires at a TIME in 2^-16 ns (R159). -/
def reached (s : State) (target : Nat) : Bool :=
  if s.time.valid then decide ((target : Int) * 65536 ≤ time16 s) else decide (0 ≤ signed32 (timeNs s - target))

/-- The present tick has reached the target, or a step at it has skipped it (R159, R160). -/
def hitAt (s : State) (target : Nat) : Bool :=
  reached s target || (decide (s.time.prev < (target : Int) * 65536) && decide ((target : Int) * 65536 ≤ time16 s))

/-- Every comparator that the tick reaches or skips is held as fired until its own row acts on it (R159, R160). -/
def latchTick (s : State) : State :=
  { s with
    time := { s.time with timers := s.time.timers.mapV (fun _ x => { x with hit := x.hit || hitAt s x.target }) }
    quad := { s.quad with sets := s.quad.sets.map (fun q => { q with hit := q.hit || (decide (q.mode ≠ 0) && hitAt s q.applyTime) }) } }

/-- A step at the tick, of `d` in 1/16 ns (R307, R308): a list that ran before it takes the entry of the new phase, which counts in STEP_RESYNC; HOLD is
as the lists give it; the projected wire ends are the same instants as before (log 107). -/
def stepPort (old : State) (d : Int) (s : State) (p : Nat) : State :=
  let s1 := if (listAt (gateRt old p) (timeSixteenths old)).isSome then
      let r := gateRt s p
      let k := (listAt r (timeSixteenths s)).bind (fun l => gateIn l.1 l.2 (timeSixteenths s))
      cutFragment p (bump ⟨.gate, p, 0, 3⟩ (updGate p (fun r => { r with entry := k.elim 0 (·.1) }) (settleHold p s)))
    else if (gateRt s p).next.isSome || (gateRt s p).run.isSome then settleHold p s
    else s
  updPort p (fun x => { x with wireEnd := x.wireEnd + d, wireEndP := x.wireEndP + d }) s1

/-- The effects of a step of TIME at its tick, on every port that gate lists or copies concern. -/
def stepTick (old s : State) : State :=
  match old.time.stepNext with
  | none => s
  | some (d, _, _) => fire 25 (((s.gate.keys ++ s.ports.keys).foldl addTo []).foldl (stepPort old (d / 4096)) s)

/-- What a tick does to time, its receivers and Otdiuri (R147, R148, R150 to R153, R159, R165, R177, R386, R493). -/
def tickTime (skewed : List Nat) (s : State) : State :=
  let t := tickCounters s.build.owlHz s.time
  let s1 := busTick s.time skewed { s with time := { t with ppsOut := if t.valid then t.ppsOut else none } }
  let s2 := stepTick s (latchTick (noteInterval s.time (latTick (syntTick s1))))
  holdoverTick (otdTick ((List.range (nSlices s)).foldl (checkReceiver skewed) s2))

/-- Timers that are due, by ascending target and number (R161). -/
def dueTimers (s : State) : List (Nat × Nat) :=
  ((s.time.timers.filter (fun t => t.2.hit || reached s t.2.target)).map (fun t => (t.2.target, t.1))).foldl (fun l t => insertBy (fun x => x.1 * 16 + x.2) t l) []

/-- A Quadrille flip is due at this tick: the first one after its arming, and not before APPLY_TIME (R108 to R110, R161). -/
def flipDue (s : State) (q : QSet) : Bool :=
  decide (q.st = .armed) && decide (q.armEnd < rawNs s) && (q.mode = 0 || q.hit || reached s q.applyTime)

/-- The whole second of TIME that PPS_OUT's comparator passes at the present tick, the first after the TIME of the tick before (R160, R176); none when no
edge is due. -/
def ppsDue (s : State) : Option Int :=
  let t := s.time
  let sec := time16 s / 65536000000000
  let fresh := match t.ppsLast with | some k => decide ((k : Int) < sec) | none => true
  if t.ppsOutEn && t.valid && decide (t.prev / 65536000000000 < sec) && fresh && decide (0 ≤ sec) then some (t.prev / 65536000000000 + 1) else none

/-- PPS_OUT's edge comes before a timer of this target: its second is due and lies before the target (R161). -/
def ppsBefore (s : State) (target : Nat) : Bool := (ppsDue s).any (fun k => decide (k * 1000000000 < (target : Int)))

/-- The first instant of a periodic timer at or after `from'` ns. -/
def periodicFrom (target period : Nat) (from' : Int) : Nat :=
  if from' ≤ target then target else target + ((from'.toNat - target + period - 1) / period) * period

/-- TIMER_FIRE (R161, R178): the timer that is due first; a flip at the same tick goes before it, and PPS_OUT's edge of an earlier second. -/
def execTimerFire (n : Nat) (s : State) : Host.Outcome State Fault Refusal :=
  .next (match (dueTimers s).head?, s.time.timers.get? n with
    | some (_, k), some t =>
      if k ≠ n || s.quad.sets.any (flipDue s) || ppsBefore s t.target then s
      else
        let timers := if t.mode = 2 then s.time.timers.set n { t with target := periodicFrom t.target t.period (timeNs s + 1), hit := false } else s.time.timers.del n
        fire (32 + n) { s with time := { s.time with timers } }
    | _, _ => s)

/-- TIME of the next tick in whole ns. -/
def nextTickNs (s : State) : Nat := unsignedN 64 (timeOf (tickCounters s.build.owlHz s.time) / 65536)

/-- The effective target of TIMER_SET, and whether it differs from TARGET_NS (R160, R178). -/
def timerTarget (e : Env) (s : State) : Nat × Bool :=
  let p := e.payload
  let given := fld p 4 8
  let abs := unsignedN 64 (absTarget s given)
  if !reached s given then (abs, false)
  else if byteAt p 1 = 2 then (let t := periodicFrom abs (fld p 12 8) (timeNs s + 2000); (t, decide (t ≠ abs)))
  else (nextTickNs s, true)

/-- The checks of TIMER_SET (R178). -/
def timerSetChk (e : Env) (s : State) : Chk :=
  let p := e.payload
  let mode := byteAt p 1
  { fields := [below p 0 1 16, below p 1 1 3, zeroAt p 2 2, (4, mode = 0 || !targetTooFar s (fld p 4 8)),
      (12, if mode = 2 then decide (1000 ≤ fld p 12 8) && decide (fld p 12 8 ≤ 2 ^ 40) else fld p 12 8 = 0)] }

/-- TIMER_SET (R178). With MODE 0 the timer goes; the manual says nothing of TARGET_NS and EFFECTIVE_NS then: the model judges no range and answers 0
(DESIGN CHOICE, log 108). -/
def execTimerSet (e : Env) (s : State) : Host.Outcome State Fault Refusal :=
  let p := e.payload
  let mode := byteAt p 1
  let k := byteAt p 0
  .next (runCmd 0x0C05 (lenIs 20) (timerSetChk e s) e
    (fun s =>
      if mode = 0 then respond e 0x0C05 (okV (leB 8 0)) { s with time := { s.time with timers := s.time.timers.del k } }
      else
        let (t, moved) := timerTarget e s
        respond e 0x0C05 (if moved then adjustedV (leB 8 t) else okV (leB 8 t)) { s with time := { s.time with timers := s.time.timers.set k { mode, target := t, period := fld p 12 8 } } }) s)

/-! PPS (R69, R70, R176). -/

/-- The checks of PPS_CFG (R176). -/
def ppsCfgChk (e : Env) (_ : State) : Chk :=
  let p := e.payload
  { fields := [below p 0 1 4, zeroAt p 1 3, within p 4 4 1 500000] }

/-- PPS_CFG (R176). -/
def execPpsCfg (e : Env) (s : State) : Host.Outcome State Fault Refusal :=
  let p := e.payload
  let out := bitN (byteAt p 0) 1
  .next (runOk 0x0C06 (lenIs 8) (ppsCfgChk e s) e (fun _ => [])
    (fun s => { s with time := { s.time with ppsInEn := bitN (byteAt p 0) 0, ppsOutEn := out, ppsWidth := fld p 4 4, ppsOut := if out then s.time.ppsOut else none } }) s)

/-- PPS_IN_EDGE (R70, R176): a rising edge `sixteenths` 1/16 ns after the present tick. -/
def execPpsInEdge (sixteenths : Nat) (s : State) : Host.Outcome State Fault Refusal :=
  let t := s.time
  let at' := rawSix s + sixteenths
  let glitch := match t.ppsEdge with | some x => decide (at' < x + 16000) | none => false
  .next (if !t.ppsInEn then s
    else if glitch then { s with time := { t with ppsGlitch := min 0xFFFF (t.ppsGlitch + 1) } }
    else fire 26 { s with time := { t with
      ppsIn := unsignedN 80 ((timeSixteenths s + sixteenths) * 4096), ppsValid := t.valid, ppsSeq := t.ppsSeq + 1, ppsEdge := some at' } })

/-- PPS_OUT_EDGE (R70, R160, R161, R176): the present tick has passed a whole second of TIME, which no edge has marked yet. A flip at the same tick goes
before it, and a timer of an earlier target. -/
def execPpsOutEdge (s : State) : Host.Outcome State Fault Refusal :=
  .next (match ppsDue s with
    | none => s
    | some k =>
      if s.quad.sets.any (flipDue s) || (dueTimers s).any (fun t => decide ((t.1 : Int) < k * 1000000000)) then s
      else { s with time := { s.time with ppsOut := some (rawNs s + s.time.ppsWidth * 1000), ppsLast := some (time16 s / 65536000000000).toNat } })

/-- PPS_OUT_FALL (R176): WIDTH_US have passed. -/
def execPpsOutFall (s : State) : Host.Outcome State Fault Refusal :=
  .next (match s.time.ppsOut with
    | some t => if t ≤ rawNs s then { s with time := { s.time with ppsOut := none } } else s
    | none => s)

/-- The checks of SYNT_CFG (R177). -/
def syntCfgChk (e : Env) (s : State) : Chk :=
  let p := e.payload
  let mode := byteAt p 0
  { fields := [below p 0 1 4, zeroAt p 1 3, (4, mode = 3 || fld p 4 4 = 0)], st := if mode = 2 && !s.otd.authority then some 2 else none }

/-- SYNT_CFG (R177). -/
def execSyntCfg (e : Env) (s : State) : Host.Outcome State Fault Refusal :=
  let p := e.payload
  let mode := byteAt p 0
  .next (runOk 0x0C07 (lenIs 8) (syntCfgChk e s) e (fun _ => [])
    (fun s => { s with time := { s.time with syntMode := mode, syntValue := signedN 32 (fld p 4 4), syntServo := s.time.synt.toInt } }) s)

/-! The time read window (R157, R158). -/

/-- SNAP_TIME_LO_READ (R158): the low word, or with byte enables 0xFF both words. -/
def execSnapTimeLoRead (slot : Nat) (wide : Bool) (s : State) : Host.Outcome State Fault Refusal :=
  .next (if 4 ≤ slot then hptOk 0 s
    else
      let x : Snap := { time := unsignedN 80 (time16 s), raw := rawT s, valid := s.time.valid }
      hptOk (x.time / 65536 % (if wide then 2 ^ 64 else 2 ^ 32)) { s with time := { s.time with snaps := s.time.snaps.set slot x } })

/-- PPS_GLITCH_READ (R157): the count, which the read clears. -/
def execPpsGlitchRead (s : State) : Host.Outcome State Fault Refusal :=
  .next (hptOk s.time.ppsGlitch { s with time := { s.time with ppsGlitch := 0 } })

/-! Thermal (R81, R118). -/

/-- THERM_EVAL (R81): the 1 ms averages of the sensors. -/
def execThermEval (readings : List Int) (s : State) : Host.Outcome State Fault Refusal :=
  let l := readings.take (nSlices s + 2)
  let b := s.boot
  let hot := l.any (fun t => decide (b.thermLimit < t))
  let cool := l.all (fun t => decide (t ≤ b.thermLimit - b.thermHyst))
  .next (if rawNs s < s.time.thermEval + 1000000 then s
    else
      let since := if cool then (match s.time.coolSince with | some t => some t | none => some (rawNs s)) else none
      let falls := match since with | some t => decide (t + 1000000 ≤ rawNs s) | none => false
      let s1 := { s with
        boot := { b with sensors := l, thermAlert := hot || (b.thermAlert && !falls) }
        time := { s.time with thermEval := rawNs s, coolSince := since } }
      if hot && !b.thermAlert then fire 4 s1 else s1)

/-- A signed number of 16 bits. -/
def le16 (v : Int) : List Byte := leB 2 (unsignedN 16 v)

/-- Response data of SYS_EVENT_CFG (R118). -/
def eventCfgData (s : State) : List Byte :=
  le16 s.boot.thermLimit ++ leB 2 s.boot.thermHyst ++ leB 1 (nSlices s + 2) ++ leB 1 (b2n s.boot.thermAlert) ++ leB 2 0
    ++ (List.range (nSlices s + 2)).flatMap (fun i => le16 (s.boot.sensors.getD i 0))

/-- The checks of SYS_EVENT_CFG (R118). -/
def sysEventCfgChk (e : Env) (_ : State) : Chk :=
  let p := e.payload
  let set := bitN (byteAt p 0) 0
  { fields := [below p 0 1 2, zeroAt p 1 1, (2, !set || fld p 2 2 ≤ 1250), (4, !set || (decide (10 ≤ fld p 4 2) && decide (fld p 4 2 ≤ 200))), zeroAt p 6 2] }

/-- SYS_EVENT_CFG (R118): the thresholds in the response are those in force after it. -/
def execSysEventCfg (e : Env) (s : State) : Host.Outcome State Fault Refusal :=
  let p := e.payload
  let set := bitN (byteAt p 0) 0
  .next (runCmd 0x0104 (lenIs 8) (sysEventCfgChk e s) e
    (fun s =>
      let t := if set then { s with boot := { s.boot with thermLimit := (fld p 2 2 : Nat), thermHyst := fld p 4 2 } } else s
      respond e 0x0104 (okV (eventCfgData t)) t) s)

end Sys2Proof.Machine
end

