-- ==== Sys2Proof/Machine/Cal.lean ====
section
/-! DEFINITION. Stamping settings, PTP roles, calibration records and loopback calibration (R162 to R169, R490 to R493). -/

namespace Sys2Proof.Machine

/-- A port is configured. -/
def configured (s : State) (p : Nat) : Bool := (cfg s).ports.has p

/-- The checks of STAMP_PORT_CFG (R165, R173). -/
def stampPortCfgChk (e : Env) (s : State) : Chk :=
  let p := e.payload
  { present := portThere s (ePort e) 1024, fields := [below p 0 2 1024, (2, fld p 2 2 < 256 || fld p 2 2 = 0xFFFF)]
    st := if configured s (ePort e) then none else some 0 }

/-- STAMP_PORT_CFG (R165, R173). -/
def execStampPortCfg (e : Env) (s : State) : Host.Outcome State Fault Refusal :=
  .next (runStaged (.stampPortCfg e) 0x0C01 (lenIs 12) [⟨0x0C01, ePort e, 0⟩]
    (stampPortCfgChk e) id e s)

/-- The checks of PTP_PORT_CFG. -/
def ptpPortCfgChk (e : Env) (s : State) : Chk :=
  let p := e.payload
  let role := byteAt p 2
  let four := fun (off n : Nat) => (off, role = 4 || decide (fld p off n = 0))
  { present := portThere s (ePort e) 1024
    fields := [below p 0 2 1024, below p 2 1 5, (3, byteAt p 3 < 16 && (role = 0 || bitN (byteAt p 3) 2 || bitN (byteAt p 3) 3)),
      (12, byteAt p 12 < 5 && (role = 4 || byteAt p 12 = 0)), four 13 1, four 14 1, four 15 1, four 16 8]
    st := if !configured s (ePort e) then some 0 else if role = 4 && !s.otd.authority then some 2 else none }

/-- The servo's clock fields come from the most recent PTP_PORT_CFG with ROLE 4 (R175). -/
def ptpPortCfgSide (e : Env) (s : State) : State :=
  let x := ptpCfgOf e.payload
  if x.role = 4 then { s with time := { s.time with servo := some x } } else s

/-- PTP_PORT_CFG (R169, R175). -/
def execPtpPortCfg (e : Env) (s : State) : Host.Outcome State Fault Refusal :=
  .next (runStaged (.ptpPortCfg e) 0x0C04 (lenIs 24) [⟨0x0C04, ePort e, 0⟩] (ptpPortCfgChk e) (ptpPortCfgSide e) e s)

/-! Records and evaluation (R162 to R165). -/

/-- The checks of CAL_RECORD_SET (R162). -/
def calRecordSetChk (e : Env) (s : State) : Chk :=
  let p := e.payload
  let temp := sfld p 12 2
  { present := portThere s (ePort e) 1024
    fields := [below p 0 2 1024, below p 2 1 4, below p 3 1 2, (12, decide (-550 ≤ temp) && decide (temp ≤ 1250)), below p 14 1 101]
    busy := if armedUnit s [⟨0x0C02, ePort e, 0⟩] then some 1 else none
    st := if configured s (ePort e) then none else some 0 }

/-- CAL_RECORD_SET (R162). -/
def execCalRecordSet (e : Env) (s : State) : Host.Outcome State Fault Refusal :=
  let p := e.payload
  let valid := bitN (byteAt p 3) 0
  let temp := sfld p 12 2
  let r : CalRec := ⟨fld p 4 4, fld p 8 4, temp, byteAt p 14, byteAt p 15⟩
  .next (runOk 0x0C02 (lenIs 16) (calRecordSetChk e s) e (fun _ => [])
    (updPort (ePort e) (fun x => { x with cal := if valid then x.cal.set (byteAt p 2) r else x.cal.del (byteAt p 2) })) s)

/-- The distance d of a record from an operating point, in 1/150 (R163): temperatures in 0.1 °C. -/
def calDist (temp : Int) (util : Nat) (r : CalRec) : Nat := max (temp - r.temp).natAbs (3 * ((util : Int) - r.util).natAbs)

/-- The record in use at an operating point: slot and record (R163). -/
def calInUse (x : PortRt) (temp : Int) (util : Nat) : Option (Nat × CalRec) :=
  (leastBy (fun i => match x.cal.get? i with | some r => calDist temp util r | none => 0) ((List.range 4).filter (fun i => x.cal.has i))).bind
    (fun i => (x.cal.get? i).map (fun r => (i, r)))

/-- A latency at an operating point, in 1/256 ns, rounded to the nearest (R165): coefficients in 0.01 ps. -/
def calLat (lat : Nat) (tc uc : Int) (temp : Int) (util : Nat) (r : CalRec) : Int :=
  let x := (lat : Int) * 1000000 + 256 * (tc * (temp - r.temp) + uc * ((util : Int) - r.util))
  (2 * x + 1000000) / 2000000

/-- The slot of a run with SLOT 0xFF: the lowest empty one, else the one with the largest d (CAL_RUN; log 54). -/
def calSlot (x : PortRt) (slot : Nat) : Nat :=
  if slot ≠ 0xFF then slot
  else match (List.range 4).find? (fun i => !x.cal.has i) with
    | some i => i
    | none =>
      let d := fun i => match x.cal.get? i with | some r => calDist x.opTemp x.opUtil r | none => 0
      (leastBy (fun i => 1000000 - d i) (List.range 4)).getD 0

/-- Queue a loopback calibration of a port (R167, R492). -/
def startRun (p slot : Nat) (s : State) : State :=
  if s.badger.runs.has p then s
  else { s with badger := { s.badger with runs := s.badger.runs.set p { slot := calSlot (port s p) slot, start := rawNs s } } }

/-- The utilisation of a port in whole points of its rate over the time since the last evaluation, the larger of both directions (R163); rounded down
(DESIGN CHOICE, log 109). `span` is that time in ns; 1 Gbit/s carries one bit in a ns. -/
def calUtil (s : State) (p span : Nat) : Nat :=
  let x := port s p
  max x.loadRx x.loadTx * 8 * 100 * 1000 / (rateOf s (cfg s) p * span)

/-- The evaluation of one port (R163 to R165, R492): `temps` holds the slices' sensors, averaged over the last 1 ms, in 0.1 °C. -/
def calEvalPort (span : Nat) (temps : List Int) (s : State) (p : Nat) : State :=
  let x := port s p
  let temp := temps.getD (sliceOf s p) 0
  let util := calUtil s p span
  let c := (cfg s).stampP.getD p {}
  let use := calInUse x temp util
  let lat := match use with
    | some (_, r) => (calLat r.rx c.rxTemp c.rxUtil temp util r, calLat r.tx c.txTemp c.txUtil temp util r)
    | none => (0, 0)
  let stale := match use with
    | none => true
    | some (_, r) => if 150 < calDist temp util r then true else if calDist temp util r ≤ 120 then false else x.calStale
  let s1 := updPort p (fun x => { x with latNext := some lat, calStale := stale, opTemp := temp, opUtil := util, loadRx := 0, loadTx := 0 }) s
  if stale && !x.calStale then
    let s2 := fire 24 s1
    if (s.badger.loop.getD p {}).auto then startRun p 0xFF s2 else s2
  else s1

/-- CAL_EVAL (R163 to R165): every 1 ms, for every configured port. -/
def execCalEval (temps : List Int) (s : State) : Host.Outcome State Fault Refusal :=
  .next (if rawNs s < s.time.calEval + 1000000 then s
    else (cfg s).ports.keys.foldl (calEvalPort (rawNs s - s.time.calEval) temps) { s with time := { s.time with calEval := rawNs s } })

/-! Loopback runs (R490 to R492). -/

/-- The checks of CAL_RUN (R167). -/
def calRunChk (e : Env) (s : State) : Chk :=
  let p := e.payload
  { present := portThere s (ePort e) 1024, fields := [below p 0 2 1024, (2, byteAt p 2 < 4 || byteAt p 2 = 0xFF), zeroAt p 3 1]
    busy := if armedUnit s [⟨0x0C03, ePort e, 0⟩] then some 1 else if s.badger.runs.has (ePort e) then some 3 else none
    st := if configured s (ePort e) && (port s (ePort e)).admin then none else some 0 }

/-- CAL_RUN (R167). -/
def execCalRun (e : Env) (s : State) : Host.Outcome State Fault Refusal :=
  let p := e.payload
  .next (runOk 0x0C03 (lenIs 4) (calRunChk e s) e (fun _ => []) (startRun (ePort e) (byteAt p 2)) s)

/-- The checks of LOOPBACK_CAL (R490, R491). -/
def loopbackCalChk (e : Env) (s : State) : Chk :=
  let p := e.payload
  let f := byteAt p 3
  { present := portThere s (ePort e) 1024, fields := [below p 0 2 1024, below p 2 1 2, below p 3 1 8, zeroAt p 9 3]
    busy := if armedUnit s [⟨0x0C03, ePort e, 0⟩] then some 1 else if bitN f 2 && s.badger.runs.has (ePort e) then some 3 else none
    st := if configured s (ePort e) && (port s (ePort e)).admin then none else some 0 }

/-- LOOPBACK_CAL (R490, R491). -/
def execLoopbackCal (e : Env) (s : State) : Host.Outcome State Fault Refusal :=
  let p := e.payload
  let f := byteAt p 3
  let x : LoopCfg := ⟨byteAt p 2, bitN f 0, bitN f 1, fld p 4 4, byteAt p 8⟩
  .next (runOk 0x1005 (lenIs 12) (loopbackCalChk e s) e (fun _ => [])
    (fun s =>
      let s1 := { s with badger := { s.badger with loop := s.badger.loop.set (ePort e) x } }
      if bitN f 2 then startRun (ePort e) 0xFF s1 else s1) s)

/-- A calibration frame from DA to the byte before the FCS (R491). -/
def calFrame (p typ reqId : Nat) (t2 : List Byte) : List Byte :=
  padded ([0x03, 0x5A, 0x4B, 0x00, 0x00, 0x01, 0x02, 0x5A, 0x4B, 0x00] ++ beB 2 p ++ [0x88, 0xB6] ++ beB 1 typ ++ [0] ++ beB 2 reqId ++ t2)

/-- A window of R489 names the time receiver of a port's slice. -/
def windowOpen (s : State) (u : Nat) : Bool :=
  match s.badger.window with
  | some w => decide (w.first ≤ u) && decide (u < w.first + w.count) && decide (rawNs s < w.until')
  | none => false

/-- A request may be sent now (R492): the queues idle for 10 µs unless a window is open, queue 15 open for its whole length, 100 µs since the last. -/
def calMaySend (s : State) (p : Nat) (r : CalRun) : Bool :=
  let idle := portEmpty s p && decide ((port s p).emptySince + 10000 ≤ rawNs s)
  let spaced := match r.last with | some t => decide (t + 100000 ≤ rawNs s) | none => true
  r.sentAt.isNone && spaced && (idle || windowOpen s (800 + sliceOf s p)) && portUp s p && (port s p).admin
    && fitsAt (gateRt s p) 15 (projStart s p 0) (wireTime s p (64 + overheadOf (cfg s) p))

/-- CAL_REQUEST_TX (R490, R492). -/
def execCalRequestTx (p : Nat) (s : State) : Host.Outcome State Fault Refusal :=
  .next (match s.badger.runs.get? p with
    | none => s
    | some r =>
      if !calMaySend s p r then s
      else
        let r1 := { r with sentAt := some (rawNs s), last := some (rawNs s), reqId := (r.reqId + 1) % 65536 }
        updPort p (fun x => { x with fifo := .own (calFrame p 1 r.reqId []) 3 :: x.fifo }) { s with badger := { s.badger with runs := s.badger.runs.set p r1 } })

/-- CAL_REQUEST_RX (R491): a port with REFLECT_EN answers before any queued frame; `t2` is the receive TIME in 1/16 ns. -/
def execCalRequestRx (p reqId t2 : Nat) (s : State) : Host.Outcome State Fault Refusal :=
  .next (if !receives s p then s
    else
      let s1 := meterEvent p false 64 7 noFlow s
      if (s.badger.loop.getD p {}).reflect then updPort p (fun x => { x with fifo := .own (calFrame p 2 reqId (stampTen t2)) 4 :: x.fifo }) s1 else s1)

/-- The loop of one exchange in 1/256 ns (R490). -/
def calLoop (c : LoopCfg) (r : CalReply) : Int :=
  if c.mode = 0 then (r.t4 : Int) - r.t1 - c.fixed else (r.t4 : Int) - r.t1 - ((r.t3 : Int) - r.t2) - 2 * c.fixed

/-- RX_LAT and TX_LAT that a run's loop gives (R490): by RX_SHARE, or in the ratio of the record in use, or halves. The mean and the shares are
rounded down (log 54). -/
def calSplit (share : Nat) (use : Option CalRec) (l : Nat) : Nat × Nat :=
  let rx := if share ≠ 0 then l * share / 256
    else match use with
      | some r => if r.rx + r.tx = 0 then l / 2 else l * r.rx / (r.rx + r.tx)
      | none => l / 2
  (rx, l - rx)

/-- The 16th exchange is in: the run writes its record (R167, R490). -/
def calFinish (p : Nat) (r : CalRun) (s : State) : State :=
  let x := port s p
  let l := (r.loops.foldl (· + ·) 0 / 16).toNat
  let lat := calSplit (s.badger.loop.getD p {}).rxShare ((calInUse x x.opTemp x.opUtil).map Prod.snd) l
  let rec' : CalRec := ⟨lat.1, lat.2, x.opTemp, x.opUtil, (Config.droop s.fresh).toNat⟩
  fire 27 (updPort p (fun x => { x with cal := x.cal.set r.slot rec' }) { s with fresh := s.fresh + 1, badger := { s.badger with runs := s.badger.runs.del p } })

/-- CAL_REPLY_RX (R490): the reply of the exchange in flight. -/
def execCalReplyRx (p : Nat) (reply : CalReply) (s : State) : Host.Outcome State Fault Refusal :=
  .next (match s.badger.runs.get? p with
    | none => s
    | some r =>
      if r.sentAt.isNone || !receives s p then s
      else
        let r1 := { r with loops := r.loops ++ [calLoop (s.badger.loop.getD p {}) reply], sentAt := none }
        let s1 := meterEvent p false 64 7 noFlow { s with badger := { s.badger with runs := s.badger.runs.set p r1 } }
        if 16 ≤ r1.loops.length then calFinish p r1 s1 else s1)

/-- CAL_EXCHANGE_TIMEOUT (R490): no reply within 100 µs; the exchange is to be sent again. -/
def execCalExchangeTimeout (p : Nat) (s : State) : Host.Outcome State Fault Refusal :=
  .next (match s.badger.runs.get? p with
    | none => s
    | some r => match r.sentAt with
      | some t => if t + 100000 ≤ rawNs s then { s with badger := { s.badger with runs := s.badger.runs.set p { r with sentAt := none } } } else s
      | none => s)

/-- CAL_FAIL (R490): a run is not complete within 1 s. -/
def execCalFail (p : Nat) (s : State) : Host.Outcome State Fault Refusal :=
  .next (match s.badger.runs.get? p with
    | none => s
    | some r => if r.start + 1000000000 ≤ rawNs s then fire 178 { s with badger := { s.badger with runs := s.badger.runs.del p } } else s)

end Sys2Proof.Machine
end

