-- ==== Sys2Proof/Machine/Otd.lean ====
section
/-! DEFINITION. Otdiuri, the sealed measurement unit: start and seal, time actions, map, intervals and records, log (R371 to R402). -/

namespace Sys2Proof.Machine

/-! The frame of an Otdiuri command (R402). -/

/-- The header checks: the general ones with PTR refused as STAGED is (R97, R402). -/
def otdHeader (e : Env) : Option Verdict :=
  firstOf [
    unlessOk (e.fmt = 1) (badFieldV 0xFF03),
    unlessOk (e.flags.toNat < 8 && !ptr e && !staged e) (badFieldV 0xFF02),
    match (leB 4 e.rsvd.toNat).findIdx? (· ≠ 0) with
      | some k => some (badFieldV (0xFF0C + k))
      | none => none,
    unlessOk (e.setId = 0) (badFieldV 0xFF02)]

/-- Otdiuri is at steps 1 to 3 of its start (R376, R402). -/
def otdStarting (s : State) : Bool := s.otd.start = .keyRead || s.otd.start = .romCheck || s.otd.start = .off

/-- What decides a command of Otdiuri before its effect, in the order of R402; `more` holds what comes after the payload's own fields. -/
def otdVerdict (op : Nat) (len : Nat → Bool) (fields : List (Nat × Bool)) (more : List (Option Verdict)) (e : Env) (s : State) : Option Verdict :=
  firstOf ([pathVerdict op e,
    unlessOk (!otdStarting s) (busyV 3),
    unlessOk (s.otd.start ≠ .romFailed || op = 0x8001) (faultV 1),
    otdHeader e, lengthVerdict len e s, fieldVerdict fields] ++ more)

/-- Run a command of Otdiuri: its effect gives its response data with the state (R400: full effect or none). -/
def runOtd (op : Nat) (len : Nat → Bool) (fields : List (Nat × Bool)) (more : List (Option Verdict)) (eff : State → State × List Byte) (e : Env) (s : State) : State :=
  match otdVerdict op len fields more e s with
  | some v => respond e op v s
  | none => let (s1, data) := eff s; respond e op (okV data) s1

/-- LOG_FULL refuses a change of R382 while the log is full (R383). -/
def fullVerdict (s : State) : Option Verdict := unlessOk (!logFull s) logFullV

/-- SEALED refuses a change of class S in SEALED and BROKEN (R382). -/
def sealedVerdict (s : State) : Option Verdict := unlessOk (s.otd.sealSt = .isUnsealed) sealedV

/-- REFUSED with DETAIL 0x01 while the servo port has the authority (R384). -/
def authorityVerdict (s : State) : Option Verdict := unlessOk (!s.otd.authority) (refusedV 1)

/-- SEAL_EVENTS (R375). -/
def sealEvents (s : State) : Nat := (s.otd.ledger.filter (fun c => decide (c ≠ 1))).length

/-- Free ledger entries. -/
def ledgerLeft (s : State) : Nat := 2048 - s.otd.ledger.length

/-- Free cells of the power-on counter. -/
def cellsLeft (s : State) : Nat := 16383 - s.otd.cells

/-- OTD_STATUS_OUT (R376, R378). -/
def statusOut (s : State) : Nat :=
  if s.otd.start ≠ .ready then 0
  else match s.otd.sealSt with
  | .isUnsealed => 1
  | .isSealed => 2
  | .isBroken => 3

/-- Write one ledger entry. -/
def writeLedger (code : Nat) (s : State) : State := updOtd (fun o => { o with ledger := o.ledger ++ [code] }) s

/-- Draw a new NONCE (R380; free value, log 16). -/
def drawNonce (s : State) : State := updOtd (fun o => { o with nonce := Config.nonce o.draws, draws := o.draws + 1 }) s

/-- A time of 2^-16 ns as 8 bytes of whole ns and 2 bytes of fraction. -/
def ten (t : Int) : List Byte := leB 8 (unsignedN 64 (t / 65536)) ++ leB 2 (t % 65536).toNat

/-! OSYS. -/

/-- OSYS_INFO. -/
def execOsysInfo (e : Env) (s : State) : Host.Outcome State Fault Refusal :=
  .next (runOtd 0x8001 (lenIs 0) [] []
    (fun s => (s, [2, 1] ++ leB 2 0 ++ leB 4 (if s.otd.start = .romFailed then Config.badRomCrc.toNat else 0x8B520D6E) ++ leB 4 s.otd.meterId
      ++ leB 4 65536 ++ leB 4 65536 ++ leB 2 4096 ++ leB 2 2048 ++ leB 2 (cellsLeft s) ++ leB 2 (ledgerLeft s))) e s)

/-- The field checks of OSYS_STATUS. -/
def osysStatusFields (e : Env) (_ : State) : List (Nat × Bool) :=
  let p := e.payload
  [below p 0 1 2, zeroAt p 1 3]

/-- OSYS_STATUS. -/
def execOsysStatus (e : Env) (s : State) : Host.Outcome State Fault Refusal :=
  let p := e.payload
  .next (runOtd 0x8002 (lenIs 4) (osysStatusFields e s) []
    (fun s => (if bitN (byteAt p 0) 0 then updOtd (fun o => { o with ctr := [] }) s else s,
      (List.range 12).flatMap (fun i => leB 8 (s.otd.ctr.getD i 0)))) e s)

/-! OTIME (R147, R148, R384 to R386). -/

/-- OTIME_READ. -/
def execOtimeRead (e : Env) (s : State) : Host.Outcome State Fault Refusal :=
  .next (runOtd 0x8101 (lenIs 0) [] []
    (fun s =>
      let t := s.time
      let c := t.corr.toInt
      (s, ten (rawT s) ++ leB 2 0 ++ leB 8 (unsignedN 64 (c / 2 ^ 32)) ++ leB 4 (c % 2 ^ 32).toNat ++ ten t.offset.toInt ++ leB 2 0
        ++ leB 5 t.discInc.toNat ++ leB 1 (b2n t.valid + 2 * b2n t.uncertain + 4 * b2n s.otd.authority) ++ leB 2 0 ++ ten (time16 s))) e s)

/-- A DISC_INC within NOM_INC × (1 ± 500 × 10^-6) (R148). -/
def incInRange (s : State) (inc : Nat) : Bool := decide (((inc : Int) - nom32 s).natAbs * 2000 ≤ nom32 s)

/-- The field checks of OTIME_SET_INC. -/
def otimeSetIncFields (e : Env) (s : State) : List (Nat × Bool) :=
  let p := e.payload
  let inc := fld p 0 5
  [(0, incInRange s inc), zeroAt p 5 3]

/-- The checks after the fields of OTIME_SET_INC. -/
def otimeSetIncMore (_ : Env) (s : State) : List (Option Verdict) :=
  [authorityVerdict s, fullVerdict s]

/-- OTIME_SET_INC. -/
def execOtimeSetInc (e : Env) (s : State) : Host.Outcome State Fault Refusal :=
  let p := e.payload
  let inc := fld p 0 5
  .next (runOtd 0x8102 (lenIs 8) (otimeSetIncFields e s) (otimeSetIncMore e s) (fun s => (takeInc 1 inc s, [])) e s)

/-- The field checks of OTIME_STEP. -/
def otimeStepFields (e : Env) (_ : State) : List (Nat × Bool) :=
  let p := e.payload
  let ns := signedN 64 (fld p 0 8)
  [(0, decide (ns.natAbs < 2 ^ 47)), below p 10 1 3, zeroAt p 11 1]

/-- The checks after the fields of OTIME_STEP. -/
def otimeStepMore (_ : Env) (s : State) : List (Option Verdict) :=
  [authorityVerdict s, fullVerdict s]

/-- OTIME_STEP. -/
def execOtimeStep (e : Env) (s : State) : Host.Outcome State Fault Refusal :=
  let p := e.payload
  let ns := signedN 64 (fld p 0 8)
  let flags := byteAt p 10
  .next (runOtd 0x8103 (lenIs 12) (otimeStepFields e s) (otimeStepMore e s)
    (fun s => (takeStep 1 (ns * 65536 + fld p 8 2) (bitN flags 0) (bitN flags 1) s, leB 8 ((rawT s + nomInc s.build.owlHz) / 65536))) e s)

/-- The field checks of OTIME_AUTHORITY (R384). -/
def otimeAuthorityFields (e : Env) (_ : State) : List (Nat × Bool) :=
  let p := e.payload
  [below p 0 1 2, zeroAt p 1 3]

/-- The checks after the fields of OTIME_AUTHORITY (R384). -/
def otimeAuthorityMore (_ : Env) (s : State) : List (Option Verdict) :=
  [sealedVerdict s, fullVerdict s]

/-- OTIME_AUTHORITY: the new value is in force from the next OWL tick (R384). -/
def execOtimeAuthority (e : Env) (s : State) : Host.Outcome State Fault Refusal :=
  let p := e.payload
  .next (runOtd 0x8104 (lenIs 4) (otimeAuthorityFields e s) (otimeAuthorityMore e s)
    (fun s => (otdLog 0x08 1 (byteAt p 0) (updOtd (fun o => { o with authNext := some (byteAt p 0 = 1) }) s), [])) e s)

/-- SERVO_INC (R148, R175, R360): with no reference, a ROLE 4 port or the domain, no servo runs, and nothing comes. -/
def execServoInc (inc : BitVec 40) (s : State) : Host.Outcome State Fault Refusal :=
  .next (if servoRefused s || !incInRange s inc.toNat then otdCount 7 1 s
    else if !servoRuns s then s
    else takeInc 2 inc.toNat (servoActed s.time.lock s))

/-- SERVO_STEP (R148, R150, R175): a step with VALID restores lock, one with INVALIDATE gives it up. A member that follows the domain takes its steps from
its exchanges alone (R360, R361). -/
def execServoStep (amount : BitVec 80) (valid invalidate : Bool) (s : State) : Host.Outcome State Fault Refusal :=
  .next (if servoRefused s || (valid && invalidate) then otdCount 7 1 s
    else if (servoPorts s).isEmpty || followsDomain s then s
    else servoStep amount.toInt valid invalidate
      (if invalidate then { s with time := { s.time with lock := false } } else servoActed (s.time.lock || valid) s))

/-! OMAP (R388, R389). -/

/-- A pending copy with one entry of OMAP_SET taken. -/
def mapPut (kind : Nat) (m : OMap) (x : List Byte) : OMap :=
  let id := fld x 0 4
  let f := byteAt x 8
  let v : MapEntry := ⟨fld x 4 2, fld x 6 2, bitN f 1, bitN f 2⟩
  if kind = 0 then { m with flows := if bitN f 0 then m.flows.set id v else m.flows.del id }
  else { m with ports := if bitN f 0 then m.ports.set id v else m.ports.del id }

/-- The entries of an OMAP_SET payload. -/
def mapEntries (p : List Byte) : List (List Byte) := (List.range (byteAt p 1)).map (fun i => sub p (8 + 12 * i) 12)

/-- The fields of entry `i`. -/
def mapFields (p : List Byte) (i : Nat) : List (Nat × Bool) :=
  let o := 8 + 12 * i
  [(o, if byteAt p 0 = 0 then decide (fld p o 4 < noFlow) else decide (fld p o 4 < 1024)), below p (o + 8) 1 8, zeroAt p (o + 9) 3]

/-- The field checks of OMAP_SET. -/
def omapSetFields (e : Env) (_ : State) : List (Nat × Bool) :=
  let p := e.payload
  let n := byteAt p 1
  [below p 0 1 2, within p 1 1 1 19, zeroAt p 2 6] ++ (List.range n).flatMap (mapFields p)

/-- The checks after the fields of OMAP_SET. -/
def omapSetMore (e : Env) (s : State) : List (Option Verdict) :=
  let p := e.payload
  let m := (mapEntries p).foldl (mapPut (byteAt p 0)) s.otd.pendMap
  [fullVerdict s, unlessOk (m.flows.length ≤ 65536) (noResV 0)]

/-- OMAP_SET. -/
def execOmapSet (e : Env) (s : State) : Host.Outcome State Fault Refusal :=
  let p := e.payload
  let n := byteAt p 1
  let m := (mapEntries p).foldl (mapPut (byteAt p 0)) s.otd.pendMap
  .next (runOtd 0x8201 (fun k => 8 ≤ k && k = 8 + 12 * n)
    (omapSetFields e s)
    (omapSetMore e s)
    (fun s => (otdLog 0x0E 1 (byteAt p 0 + 256 * n + 2 ^ 32 * (crc32 (p.drop 8)).toNat) (updOtd (fun o => { o with pendMap := m, mapDirty := true }) s),
      leB 4 m.flows.length)) e s)

/-- One entry in the OMAP_SET layout. -/
def mapBytes (x : Nat × MapEntry) : List Byte :=
  leB 4 x.1 ++ leB 2 x.2.rxAccount ++ leB 2 x.2.txAccount ++ leB 1 (1 + 2 * b2n x.2.rxBill + 4 * b2n x.2.txBill) ++ leB 3 0

/-- Members of a map from a key on, in ascending order. -/
def sortedFrom (m : KMap Nat MapEntry) (start : Nat) : List (Nat × MapEntry) :=
  (m.filter (fun x => decide (start ≤ x.1))).foldl (fun l x => insertBy Prod.fst x l) []

/-- The field checks of OMAP_READ. -/
def omapReadFields (e : Env) (_ : State) : List (Nat × Bool) :=
  let p := e.payload
  [below p 0 1 2, below p 1 1 2, zeroAt p 2 2]

/-- OMAP_READ. -/
def execOmapRead (e : Env) (s : State) : Host.Outcome State Fault Refusal :=
  let p := e.payload
  let m := if byteAt p 1 = 0 then s.otd.map else s.otd.pendMap
  let l := sortedFrom (if byteAt p 0 = 0 then m.flows else m.ports) (fld p 4 4)
  let next := match l.drop 19 with | x :: _ => x.1 | [] => 0xFFFFFFFF
  .next (runOtd 0x8202 (lenIs 8) (omapReadFields e s) []
    (fun s => (s, leB 4 next ++ leB 2 (l.take 19).length ++ leB 2 0 ++ (l.take 19).flatMap mapBytes)) e s)

/-- The field checks of OMAP_CLEAR. -/
def omapClearFields (e : Env) (_ : State) : List (Nat × Bool) :=
  let p := e.payload
  [below p 0 1 3, zeroAt p 1 3]

/-- The checks after the fields of OMAP_CLEAR. -/
def omapClearMore (_ : Env) (s : State) : List (Option Verdict) :=
  [fullVerdict s]

/-- OMAP_CLEAR. -/
def execOmapClear (e : Env) (s : State) : Host.Outcome State Fault Refusal :=
  let p := e.payload
  let k := byteAt p 0
  let clear := fun (m : OMap) => { m with flows := if k = 1 then m.flows else [], ports := if k = 0 then m.ports else [] }
  .next (runOtd 0x8203 (lenIs 4) (omapClearFields e s) (omapClearMore e s)
    (fun s => (otdLog 0x0F 1 k (updOtd (fun o => { o with pendMap := clear o.pendMap, mapDirty := true }) s), [])) e s)

/-! The record ring (R393). -/

/-- The consumer position of the ring. -/
def oConsPos (o : Otd) (r : ORing) : Nat := o.cons + (if o.consWrap then r.size else 0)

/-- Ring places that no record holds or has been promised (R292, R393). -/
def oRingFree (o : Otd) : Nat :=
  match o.ring with
  | none => 0
  | some r => if r.stopping then 0 else r.size - (r.prod + 2 * r.size - oConsPos o r) % (2 * r.size) - o.writing.length

/-- Issue a half of the record at the head: bytes 64 to 127 first, then bytes 0 to 63 (R393). -/
def oIssue (second : Bool) (s : State) : State :=
  match s.otd.ring, s.otd.writing with
  | some r, x :: _ =>
    let b := if r.prod < r.size then patch x.bytes 0 [x.bytes.headD 0 ||| 1] else x.bytes
    let at' := r.base + 128 * (r.prod % r.size)
    updOtd (fun o => { o with write := some ⟨second, rawNs s⟩ }) (if second then hpiWrite at' (b.take 64) s else hpiWrite (at' + 64) (b.drop 64) s)
  | _, _ => s

/-- Move records into ring places and start the next write; while records wait and HST sleeps, ask for its wake (R393, R394). -/
def oPump (s : State) : State :=
  let o := s.otd
  let n := min (oRingFree o) o.pending.length
  let s1 := updOtd (fun o => { o with writing := o.writing ++ o.pending.take n, pending := o.pending.drop n }) s
  let s2 := if s1.otd.pending.isEmpty && s1.otd.writing.isEmpty then s1 else askWake 66 s1
  if s2.otd.write.isSome || hstAsleep s2 then s2 else oIssue false s2

/-- OTD_RECORD_WRITE_ACK. -/
def execOtdRecordWriteAck (s : State) : Host.Outcome State Fault Refusal :=
  .next (match s.otd.write, s.otd.ring, s.otd.writing with
    | some w, some r, x :: rest =>
      if !w.second then oIssue true s
      else
        let keep := fun (o : Otd) => if r.stopping then { o with ring := none, pending := rest ++ o.pending, writing := [], write := none }
          else { o with ring := some { r with prod := (r.prod + 1) % (2 * r.size) }, writing := rest, write := none }
        let s1 := updOtd (fun o => { keep o with records := o.records + 1 }) s
        oPump (if x.last then fire r.vector s1 else s1)
    | _, _, _ => s)

/-- OTD_RECORD_RETRY: the write that was issued at least 1 ms ago ended in a bus error and is tried again (R393). -/
def execOtdRecordRetry (s : State) : Host.Outcome State Fault Refusal :=
  .next (match s.otd.write with
    | some w => if rawNs s < w.at' + 1000000 then s else oIssue w.second (fire 50 (otdCount 8 1 s))
    | none => s)

/-- ORING_CONS_WRITE (R401): the consumer moves on from where it is, and not past the producer (log 121). -/
def execOringConsWrite (data : Word) (s : State) : Host.Outcome State Fault Refusal :=
  let i := data.toNat % 65536
  let wrap := data.getLsbD 16
  let good := match s.otd.ring with
    | none => i = 0 && !wrap
    | some r => decide (i < r.size) && decide ((i + (if wrap then r.size else 0) + 2 * r.size - oConsPos s.otd r) % (2 * r.size) ≤ (r.prod + 2 * r.size - oConsPos s.otd r) % (2 * r.size))
  .next (if good then hptOk 0 (oPump (updOtd (fun o => { o with cons := i, consWrap := wrap }) s)) else hptOk 0 (otdCount 8 1 s))

/-- Stop the ring after the record in progress: the records behind it wait (ORECORD_RING_SET). -/
def oStop (o : Otd) : Otd :=
  match o.ring with
  | none => o
  | some r =>
    if o.write.isSome then { o with ring := some { r with stopping := true }, writing := o.writing.take 1, pending := o.writing.drop 1 ++ o.pending }
    else { o with ring := none, writing := [], pending := o.writing ++ o.pending }

/-- The field checks of ORECORD_RING_SET. -/
def orecordRingSetFields (e : Env) (_ : State) : List (Nat × Bool) :=
  let p := e.payload
  let valid := bitN (byteAt p 0) 0
  [below p 0 1 2, zeroAt p 1 1, (2, !valid || (decide (256 ≤ fld p 2 2) && decide (fld p 2 2 ≤ 4095))), (4, !valid || isPow2 (fld p 4 4) 16 65536),
    (8, !valid || decide (fld p 8 8 % 128 = 0))]

/-- The checks after the fields of ORECORD_RING_SET. -/
def orecordRingSetMore (e : Env) (s : State) : List (Option Verdict) :=
  let p := e.payload
  let valid := bitN (byteAt p 0) 0
  [unlessOk (!valid || s.otd.ring.isNone) (stateV 0)]

/-- ORECORD_RING_SET. -/
def execOrecordRingSet (e : Env) (s : State) : Host.Outcome State Fault Refusal :=
  let p := e.payload
  let valid := bitN (byteAt p 0) 0
  .next (runOtd 0x8301 (lenIs 16)
    (orecordRingSetFields e s)
    (orecordRingSetMore e s)
    (fun s => (oPump (updOtd (fun o => if valid then
      { o with ring := some { vector := fld p 2 2, size := fld p 4 4, base := fld p 8 8 }, cons := 0, consWrap := false } else oStop o) s), [])) e s)

/-- The field checks of ORECORD_INTERVAL. -/
def orecordIntervalFields (e : Env) (_ : State) : List (Nat × Bool) :=
  let p := e.payload
  [within p 0 4 1 3600]

/-- The checks after the fields of ORECORD_INTERVAL. -/
def orecordIntervalMore (_ : Env) (s : State) : List (Option Verdict) :=
  [fullVerdict s]

/-- ORECORD_INTERVAL. -/
def execOrecordInterval (e : Env) (s : State) : Host.Outcome State Fault Refusal :=
  let p := e.payload
  .next (runOtd 0x8302 (lenIs 4) (orecordIntervalFields e s) (orecordIntervalMore e s)
    (fun s => (otdLog 0x10 1 (fld p 0 4) (updOtd (fun o => { o with intervalNext := fld p 0 4 }) s), [])) e s)

/-- An index with its wrap bit as ORING_PROD shows it. -/
def oProdWord (o : Otd) : Nat :=
  match o.ring with
  | none => 0
  | some r => r.prod % r.size + 65536 * (r.prod / r.size)

/-- ORING_CONS as it reads. -/
def oConsWord (o : Otd) : Nat := o.cons + 65536 * b2n o.consWrap

/-- Accounts that are active (R394). -/
def activeAccounts (o : Otd) : List Nat := o.accounts.keys

/-- ORECORD_STATUS. -/
def execOrecordStatus (e : Env) (s : State) : Host.Outcome State Fault Refusal :=
  .next (runOtd 0x8303 (lenIs 0) [] []
    (fun s =>
      let o := s.otd
      (s, leB 4 o.interval ++ leB 2 o.pending.length ++ leB 2 0 ++ leB 4 (oProdWord o) ++ leB 4 (oConsWord o) ++ leB 8 (unsignedN 64 (o.startTime / 65536))
        ++ leB 8 o.recSeq ++ leB 8 o.records ++ leB 4 (activeAccounts o).length)) e s)

/-! Metering (R387 to R391). -/

/-- The account of an event and whether it bills (R388). -/
def accountOf (m : OMap) (p flow : Nat) (transmit : Bool) : Option Nat :=
  let pick := fun (x : MapEntry) => if transmit then (if x.txBill then some x.txAccount else none) else if x.rxBill then some x.rxAccount else none
  match m.flows.get? flow with
  | some x => pick x
  | none => match m.ports.get? p with
    | some x => pick x
    | none => none

/-- Change an account of the open interval. -/
def updAccount (a : Nat) (f : Account → Account) (o : Otd) : Otd := { o with accounts := o.accounts.upd a {} f }

/-- Charge a good summary of `n` frames and `b` bytes. -/
def chargeGood (x : TapSummary) (n b : Nat) (o : Otd) : Otd :=
  match accountOf o.map x.port x.flow x.transmit with
  | some a => updAccount a (fun k => if x.transmit then { k with txFrames := k.txFrames + n, txBytes := k.txBytes + b }
      else { k with rxFrames := k.rxFrames + n, rxBytes := k.rxBytes + b }) o
  | none => { o with
      sum := if x.transmit then { o.sum with unTxFrames := o.sum.unTxFrames + n, unTxBytes := o.sum.unTxBytes + b }
        else { o.sum with unRxFrames := o.sum.unRxFrames + n, unRxBytes := o.sum.unRxBytes + b } }

/-- Charge an errored summary. -/
def chargeErr (x : TapSummary) (n a : Nat) (o : Otd) : Otd :=
  updAccount a (fun k => if x.transmit then { k with txErr := min 0xFFFFFFFF (k.txErr + n) } else { k with rxErr := min 0xFFFFFFFF (k.rxErr + n) }) o

/-- Charge a summary to the account that the map in force gives it (R387, R388, R391). -/
def chargeHeld (h : TapHeld) (s : State) : State :=
  let x := h.key
  let n := h.frames
  let i := b2n x.transmit
  let s1 := otdCount 11 1 s
  let acct := accountOf s1.otd.map x.port x.flow x.transmit
  if x.spilled then
    otdCount (2 + i) n (updOtd (fun o => { o with
      spilled := true, sum := if x.transmit then { o.sum with spillTx := o.sum.spillTx + n } else { o.sum with spillRx := o.sum.spillRx + n } }) s1)
  else if x.outcome = 2 then otdCount 6 n s1
  else if x.outcome = 0 then (if acct.isSome then updOtd (chargeGood x n h.bytes) s1 else otdCount i n (updOtd (chargeGood x n h.bytes) s1))
  else match acct with
    | some a => updOtd (chargeErr x n a) s1
    | none => otdCount (4 + i) n s1

/-- A summary of a tap is the one that TAP_SUMMARY names; the spill counters of a port and direction are one summary (R391). While a boundary waits, those
of its interval alone are passed (R390). -/
def named (o : Otd) (x : TapSummary) (h : TapHeld) : Bool :=
  (h.old || o.closing.isNone) && (if x.spilled then h.key.spilled && decide (h.key.port = x.port) && decide (h.key.transmit = x.transmit) else decide (h.key = x))

/-- TAP_SUMMARY: a tap passes the oldest summary of a key, and Otdiuri applies it (R387 to R391). -/
def execTapSummary (summary : TapSummary) (s : State) : Host.Outcome State Fault Refusal :=
  .next (match s.otd.taps.find? (named s.otd summary) with
    | none => s
    | some h => chargeHeld h (updOtd (fun o => { o with taps := o.taps.erase h }) s))

/-- Otdiuri applies every summary that `f` picks. -/
def applyAll (f : TapHeld → Bool) (s : State) : State :=
  (s.otd.taps.filter f).foldl (fun s h => chargeHeld h s) (updOtd (fun o => { o with taps := o.taps.filter (fun h => !f h) }) s)

/-! Intervals (R392 to R395). -/

/-- The open interval ends at the present tick (R392). -/
def boundaryDue (s : State) : Bool :=
  let o := s.otd
  let unit := o.interval * 1000000000 * 65536
  o.validChanged || (if s.time.valid then decide (o.baseTime / unit < time16 s / unit) else decide (o.baseRaw / unit < rawT s / unit))

/-- INFO of a record, PHASE 0 (R395). -/
def recInfo (c : Closing) (s : State) (kind : Nat) (mapChanged : Bool) : Nat :=
  let o := s.otd
  2 * kind + 256 * b2n (decide (o.sealSt ≠ .isSealed)) + 512 * b2n (decide (o.sealSt = .isBroken)) + 1024 * b2n c.invalid + 2048 * b2n c.uncertain
    + 4096 * b2n mapChanged + 8192 * b2n o.extended + 16384 * b2n o.spilled + 32768 * b2n o.logLost + 65536 * b2n o.key.isNone

/-- A record of 128 bytes with its TAG (R395). -/
def recBytes (c : Closing) (s : State) (kind account : Nat) (mapChanged : Bool) (body : List Byte) : List Byte :=
  let o := s.otd
  let m := leB 4 (recInfo c s kind mapChanged) ++ leB 2 account ++ leB 2 s.time.discont.toNat ++ leB 8 o.recSeq ++ ten o.startRaw ++ ten o.startTime
    ++ ten c.raw ++ ten c.time ++ leB 4 (sealEvents s) ++ leB 4 o.meterId ++ body ++ leB 4 0
  m ++ otdTag o.key (ascii "OTDR" ++ m)

/-- Append a record to those that wait. -/
def addRecord (r : ORec) (s : State) : State := updOtd (fun o => { o with pending := o.pending ++ [r], recSeq := (o.recSeq + 1) % 2 ^ 64 }) s

/-- The record of an account. -/
def accountRecord (c : Closing) (s : State) (a : Nat) : State :=
  let k := s.otd.accounts.getD a {}
  let first := s.otd.mapChanged && !decide (a ∈ s.otd.mapSeen)
  let body := leB 8 k.rxFrames ++ leB 8 k.rxBytes ++ leB 8 k.txFrames ++ leB 8 k.txBytes ++ leB 4 k.rxErr ++ leB 4 k.txErr ++ leB 4 0
  updOtd (fun o => { o with mapSeen := if first then addTo o.mapSeen a else o.mapSeen }) (addRecord ⟨recBytes c s 0 a first body, false⟩ s)

/-- The summary record of an interval of `n` account records. -/
def summaryRecord (c : Closing) (n : Nat) (s : State) : State :=
  let m := s.otd.sum
  addRecord ⟨recBytes c s 1 0 false (leB 8 m.unRxFrames ++ leB 8 m.unRxBytes ++ leB 8 m.unTxFrames ++ leB 8 m.unTxBytes ++ leB 4 (min 0xFFFFFFFF m.spillRx)
    ++ leB 4 (min 0xFFFFFFFF m.spillTx) ++ leB 4 n), true⟩ s

/-- The room that a close needs is there (R394). -/
def roomToClose (o : Otd) : Bool := (activeAccounts o).length + 1 ≤ oRingFree o + 2048 - o.pending.length

/-- The next interval opens at the tick of the boundary (R389, R392). -/
def openInterval (c : Closing) (s : State) : State :=
  updOtd (fun o => { o with
    map := if o.mapDirty then o.pendMap else o.map, mapChanged := o.mapChanged || o.mapDirty, mapSeen := if o.mapDirty then [] else o.mapSeen, mapDirty := false
    accounts := [], sum := {}, startRaw := c.raw, startTime := c.time
    extended := false, spilled := false }) s

/-- Close the interval: the accounts' records in ascending order, the summary record, and the next interval (R395). -/
def closeInterval (c : Closing) (s : State) : State :=
  let as := (activeAccounts s.otd).foldl (fun l a => insertBy id a l) []
  openInterval c (summaryRecord c as.length (as.foldl (accountRecord c) s))

/-- Change the received frames that wait for their flow in every slice: the den's and the staging FIFO's (R390). -/
def mapWaiting (f : Frame → Frame) (s : State) : State :=
  { s with slices := s.slices.mapV (fun _ x => { x with ingress := x.ingress.map f, den := x.den.map (fun d => { d with frame := f d.frame }) }) }

/-- The received frames that wait for their flow. -/
def waiting (s : State) : List Frame := s.slices.flatMap (fun x => x.2.ingress ++ x.2.den.map DenFrame.frame)

/-- A received frame that a network tap has still to report. -/
def unreported (f : Frame) : Bool := !f.bad && !isHostPort f.portIn

/-- A frame whose event belongs to the interval that a boundary closes. -/
def lateFrame (f : Frame) : Bool := unreported f && decide (f.tap = .old)

/-- A boundary falls at the present tick (R389, R390, R392): the taps pass the old interval's summaries; what the next interval sees begins here, and the
received frames whose flow has not returned are marked. -/
def beginClose (s : State) : State :=
  let s1 := applyAll (fun _ => true) s
  let s2 := if s1.otd.incSumAt + 3600000000000 ≤ rawT s1 / 65536 then flushIncs s1 else s1
  let mark := fun (f : Frame) => if unreported f && decide (f.tap = .fresh) then { f with tap := .old } else f
  mapWaiting mark (updOtd (fun o => { o with
    closing := some ⟨rawNs s, rawT s, time16 s, o.sawInvalid, o.sawUncertain⟩, sawInvalid := !s.time.valid, sawUncertain := s.time.uncertain
    interval := o.intervalNext, baseRaw := rawT s, baseTime := time16 s, validChanged := false }) s2)

/-- The taps have passed the old interval's events, or 1 ms has passed (R390, R394): a frame whose flow has not returned is charged with no flow. Without
room the interval runs on, and nothing of it is lost. -/
def finishClose (c : Closing) (s : State) : State :=
  let s1 := ((waiting s).filter lateFrame).foldl (fun s f => meterFrame f 0 noFlow s) s
  let s2 := applyAll (fun h => h.old) (mapWaiting (fun f => if lateFrame f then { f with tap := .charged } else f) s1)
  let s3 := if roomToClose s2.otd then closeInterval c s2
    else fire 50 (otdCount 9 1 (updOtd (fun o => { o with
      extended := true, sawInvalid := o.sawInvalid || c.invalid, sawUncertain := o.sawUncertain || c.uncertain }) s2))
  oPump (updOtd (fun o => { o with closing := none }) s3)

/-- INTERVAL_BOUNDARY (R385, R389 to R395): the interval ends at the tick at which it is due. It is closed once no received frame of it waits for its flow,
or by this row again 1 ms later. -/
def execIntervalBoundary (s : State) : Host.Outcome State Fault Refusal :=
  let ended := fun (c : Closing) (s : State) => !(waiting s).any lateFrame || decide (c.at' + 1000000 ≤ rawNs s)
  let settle := fun (s : State) => match s.otd.closing with
    | some c => if ended c s then finishClose c s else s
    | none => s
  .next (if s.otd.start ≠ .ready then s
    else if s.otd.closing.isSome then settle s
    else if boundaryDue s then settle (beginClose s) else s)

/-! The seal (R378 to R381). -/

/-- OSEAL_STATUS. -/
def execOsealStatus (e : Env) (s : State) : Host.Outcome State Fault Refusal :=
  .next (runOtd 0x8401 (lenIs 0) [] []
    (fun s => (s, leB 1 (statusOut s) ++ leB 1 (b2n s.otd.switch) ++ leB 1 (b2n s.otd.key.isSome) ++ leB 1 0 ++ leB 2 (sealEvents s) ++ leB 2 (ledgerLeft s)
      ++ leB 4 s.otd.meterId ++ leB 8 s.otd.nonce.toNat)) e s)

/-- The field checks of OSEAL_SEAL. -/
def osealSealFields (e : Env) (_ : State) : List (Nat × Bool) :=
  let id := fld e.payload 0 4
  [(0, decide (id ≠ 0))]

/-- The checks after the fields of OSEAL_SEAL. -/
def osealSealMore (_ : Env) (s : State) : List (Option Verdict) :=
  [sealedVerdict s, fullVerdict s, unlessOk s.otd.switch (stateV 1), unlessOk s.otd.key.isSome (stateV 2),
    unlessOk (3 ≤ ledgerLeft s && 1 ≤ cellsLeft s) (noResV 0)]

/-- OSEAL_SEAL. -/
def execOsealSeal (e : Env) (s : State) : Host.Outcome State Fault Refusal :=
  let id := fld e.payload 0 4
  .next (runOtd 0x8402 (lenIs 4) (osealSealFields e s)
    (osealSealMore e s)
    (fun s =>
      let s1 := writeLedger 1 (updOtd (fun o => { o with sealSt := .isSealed, meterId := id }) s)
      (fire 48 (otdLog 0x03 1 (id + 2 ^ 32 * sealEvents s1) s1), [])) e s)

/-- AUTH of OSEAL_UNSEAL is right (R380). -/
def authGood (s : State) (auth : List Byte) : Bool :=
  match s.otd.key with
  | some k => auth = (hmac k (ascii "OTDU" ++ leB 8 s.otd.nonce.toNat)).take 16
  | none => false

/-- A judged unseal that is accepted. -/
def unsealNow (s : State) : State :=
  let from' := if s.otd.sealSt = .isBroken then 3 else 1
  let s1 := writeLedger 2 (updOtd (fun o => { o with sealSt := .isUnsealed }) s)
  fire 48 (otdLog 0x04 1 (from' + 65536 * sealEvents s1) (drawNonce s1))

/-- A judged unseal that is denied (R380). -/
def unsealDenied (s : State) : State :=
  otdLog 0x07 1 0 (otdCount 10 1 (drawNonce (updOtd (fun o => { o with blockUntil := some (rawNs s + 10000000000) }) s)))

/-- The 10 s block of R380 lasts. -/
def unsealBlocked (s : State) : Bool :=
  match s.otd.blockUntil with
  | some t => rawNs s < t
  | none => false

/-- OSEAL_UNSEAL. -/
def execOsealUnseal (e : Env) (s : State) : Host.Outcome State Fault Refusal :=
  .next (match otdVerdict 0x8403 (lenIs 16) []
      [fullVerdict s, unlessOk (s.otd.sealSt ≠ .isUnsealed) (stateV 0), unlessOk (!unsealBlocked s) (refusedV 3)] e s with
    | some v => respond e 0x8403 v s
    | none =>
      if authGood s (e.payload.take 16) then respond e 0x8403 (okV []) (unsealNow s)
      else respond e 0x8403 (refusedV 2) (unsealDenied s))

/-- UNSEAL_BLOCK_EXPIRY. -/
def execUnsealBlockExpiry (s : State) : Host.Outcome State Fault Refusal :=
  .next (if s.otd.blockUntil.isSome && !unsealBlocked s then updOtd (fun o => { o with blockUntil := none }) s else s)

/-- SEAL_SWITCH_CHANGE (R74, R378). -/
def execSealSwitchChange (level : Bool) (s : State) : Host.Outcome State Fault Refusal :=
  let s1 := updOtd (fun o => { o with switch := level }) s
  .next (if level = s.otd.switch || s.otd.start ≠ .ready then s1
    else match s.otd.sealSt with
    | .isUnsealed => otdLog 0x06 3 (b2n level) s1
    | .isBroken => s1
    | .isSealed =>
      if level then s1
      else
        let s2 := writeLedger 3 (updOtd (fun o => { o with sealSt := .isBroken }) s1)
        fire 48 (otdLog 0x05 3 (sealEvents s2) s2))

/-- TEST_ACCESS (R75, R76, R398): the test network, which the wrapper reaches with another instruction than BYPASS, selects OTD's segment. Untos is
in test from then on; what its functional commands do there is undefined (log 117). -/
def execTestAccess (s : State) : Host.Outcome State Fault Refusal :=
  let s1 := { s with boot := { s.boot with bypass := false, inTest := true } }
  .next (if s.otd.start = .ready && s.otd.sealSt = .isUnsealed then otdLog 0x12 0 0 s1 else s1)

/-! The log (R397 to R399). -/

/-- OLOG_READ. -/
def execOlogRead (e : Env) (s : State) : Host.Outcome State Fault Refusal :=
  let start := fld e.payload 0 4
  let l := (s.otd.log.filter (fun x => decide (start ≤ x.seq))).take 4
  let oldest := match s.otd.log with | x :: _ => x.seq | [] => s.otd.logNext
  let next := max start oldest + l.length
  .next (runOtd 0x8501 (lenIs 4) [] []
    (fun s => (updOtd (fun o => { o with logRead := if l.isEmpty then o.logRead else max o.logRead next }) s,
      leB 4 next ++ leB 2 l.length ++ leB 2 0 ++ l.flatMap logBytes)) e s)

/-- The checks after the fields of OLOG_ACK (R383, R399). -/
def ologAckMore (e : Env) (s : State) : List (Option Verdict) :=
  let upto := fld e.payload 0 4
  [unlessOk (s.otd.log.any (fun x => decide (x.seq = upto)) && decide (upto < s.otd.logRead)) (stateV 1)]

/-- OLOG_ACK (R383, R399). -/
def execOlogAck (e : Env) (s : State) : Host.Outcome State Fault Refusal :=
  let upto := fld e.payload 0 4
  .next (runOtd 0x8502 (lenIs 4) [] (ologAckMore e s)
    (fun s =>
      let s1 := otdLog 0x13 1 upto (updOtd (fun o => { o with log := o.log.filter (fun x => decide (upto < x.seq)), logLost := false }) s)
      (s1, leB 2 s1.otd.log.length)) e s)

/-! The start (R73, R375, R376). -/

/-- Steps 3 and 4 of the start, once the key has been read or found absent; a seal that ends here is a change of the seal state, which raises source 48
(R378; DEDUCED, log 119). -/
def otdFinish (key : Option (List Byte)) (s : State) : State :=
  let owed := match s.otd.ledger.getLast? with | some c => c = 1 || c = 3 | none => false
  let cells := min 16383 (s.otd.cells + 1)
  let ledger := if owed then s.otd.ledger ++ [2] else s.otd.ledger
  let s1 : State := { s with time := { s.time with discont := BitVec.ofNat 16 cells }
                             otd := { s.otd with start := .ready, key, keyReq := none, keyWords := [], cells, ledger,
                                                 startRaw := rawT s, startTime := time16 s, baseRaw := rawT s, baseTime := time16 s, sawInvalid := !s.time.valid } }
  let s2 := otdLog 0x01 0 (cells + 65536 * (if owed then 2 else 0) + 2 ^ 24 * sealEvents s1) s1
  let s3 := if key.isNone then otdLog 0x02 0 0 s2 else s2
  if owed then fire 48 s3 else s3

/-- OTD_POWER_ON (R149, R376): everything volatile is lost, and the fuse store stays; step 2 checks the ROM and asks for the key. -/
def execOtdPowerOn (romOk level : Bool) (s : State) : Host.Outcome State Fault Refusal :=
  let o := s.otd
  let fresh : Otd := { start := if romOk then .keyRead else .romFailed, keyReq := if romOk then some 0 else none, switch := level, cells := o.cells, ledger := o.ledger
                       nonce := Config.nonce o.draws, draws := o.draws + 1, incRef := nom32 s }
  let t := s.time
  .next <| (if t.valid then fire 25 else id) { s with
    otd := fresh
    time := { t with raw := 0, base := raw16 s, corr := 0, offset := 0, discInc := BitVec.ofNat 40 (nom32 s), incNext := none, stepNext := none
                     stepsNext := 0, valid := false, uncertain := false, stepCount := 0, prev := 0, recv := [], incS := incPerClock s.build.owlHz (nom32 s)
                     stepped := none, lock := false, inbox := [], ppsOut := none } }

/-- KEY_WORD (R72, R73). -/
def execKeyWord (word : Word) (s : State) : Host.Outcome State Fault Refusal :=
  let l := s.otd.keyWords ++ [word]
  .next (if s.otd.start ≠ .keyRead || s.otd.keyReq.isNone then s
    else if l.length < 8 then updOtd (fun o => { o with keyWords := l, keyReq := some l.length }) s
    else
      let absent := l.all (· = 0) || l.all (· = BitVec.allOnes 32)
      otdFinish (if absent then none else some (l.flatMap (fun w => leB 4 w.toNat))) s)

/-- KEY_TIMEOUT (R73). -/
def execKeyTimeout (s : State) : Host.Outcome State Fault Refusal :=
  .next (if s.otd.start ≠ .keyRead || s.otd.keyReq.isNone then s else otdFinish none s)

end Sys2Proof.Machine
end

