-- ==== Sys2Proof/Machine/Irq.lean ====
section
/-! DEFINITION. DMA channels, slice event controllers, the interrupt distributor (R438 to R463). -/

namespace Sys2Proof.Machine

/-! DMA channels (R438 to R446). -/

/-- Channel `c`. -/
def dmaOf (s : State) (c : Nat) : DmaCh := s.dma.getD c {}

/-- Change channel `c`. -/
def updDma (c : Nat) (f : DmaCh → DmaCh) (s : State) : State := { s with dma := s.dma.upd c {} f }

/-- Set a bit of CH_CAUSE: 0 HALF, 1 FULL, 2 HALT, 3 GO_LOST, 4 SHADOW_LOST, 5 ABORTED. -/
def dmaCause (i : Nat) (x : DmaCh) : DmaCh := { x with cause := x.cause ||| BitVec.ofNat 6 (2 ^ i) }

/-- Run `f` for a channel of the block. -/
def onDma (c : Nat) (f : DmaCh → State → State) (s : State) : State := if c < 64 then f (dmaOf s c) s else s

/-- Halt a channel (R443, R444): HALT is set and the source raised. -/
def dmaHalt (c kind addr : Nat) (s : State) : State :=
  fire (64 + c) (updDma c (fun x => dmaCause 2 { x with st := .halted, haltKind := kind, errAddr := addr }) s)

/-- Complete a transfer (R441, R442): FULL, DONE_COUNT, IDLE; the source once, under the enables of what falls at this edge. -/
def dmaComplete (c : Nat) (half : Bool) (s : State) : State :=
  let x := dmaOf s c
  let s1 := updDma c (fun x => dmaCause 1 { x with st := .idle, doneCount := x.doneCount + 1 }) s
  if x.active.flags.getLsbD 1 || (half && x.active.flags.getLsbD 0) then fire (64 + c) s1 else s1

/-- Bytes become done (R441): the half point, and the end. -/
def dmaDone (c n : Nat) (s : State) : State :=
  let x := dmaOf s c
  let done := x.bytesDone + n
  let half := !x.halfSeen && decide (ceilDiv x.active.len 2 ≤ done)
  let s1 := updDma c (fun x => (if half then dmaCause 0 else id) { x with bytesDone := done, halfSeen := x.halfSeen || half }) s
  if done = x.active.len then dmaComplete c half s1
  else if half && x.active.flags.getLsbD 0 then fire (64 + c) s1 else s1

/-- DMA_GO (R439). -/
def execDmaGo (c : Nat) (s : State) : Host.Outcome State Fault Refusal :=
  .next (viaHst (.dmaGo c) (fun s => hptOk 0 <| onDma c (fun _ s => updDma c (fun x => if x.shadowValid then dmaCause 3 x else { x with shadowValid := true }) s) s) s)

/-- A register of the shadow set as the driver writes it (R438). -/
def shadowSet (off : Nat) (data : Word) (d : DmaSet) : DmaSet :=
  let v := data.toNat
  let lo := fun (old : Nat) => old / 2 ^ 32 * 2 ^ 32 + v
  let hi := fun (old : Nat) => v * 2 ^ 32 + old % 2 ^ 32
  match off with
  | 0x00 => { d with src := lo d.src }
  | 0x04 => { d with src := hi d.src }
  | 0x08 => { d with dst := lo d.dst }
  | 0x0C => { d with dst := hi d.dst }
  | 0x10 => { d with len := v }
  | 0x14 => { d with flags := data.setWidth 3 }
  | _ => d

/-- DMA_SHADOW_WRITE (R438, R439). -/
def execDmaShadowWrite (c off : Nat) (data : Word) (s : State) : Host.Outcome State Fault Refusal :=
  .next (viaHst (.dmaShadowWrite c off data) (fun s => hptOk 0 <| onDma c (fun _ s => updDma c (fun x => if x.shadowValid then dmaCause 4 x else { x with shadow := shadowSet off data x.shadow }) s) s) s)

/-- A range that R443 refuses: past 2^64, or source and destination overlap. -/
def badRange (d : DmaSet) : Bool :=
  decide (2 ^ 64 < d.src + d.len) || decide (2 ^ 64 < d.dst + d.len) || (decide (0 < d.len) && decide (d.src < d.dst + d.len) && decide (d.dst < d.src + d.len))

/-- DMA_LOAD (R439, R443). -/
def execDmaLoad (c : Nat) (s : State) : Host.Outcome State Fault Refusal :=
  .next (onDma c (fun x s =>
    if x.st ≠ .idle || !x.shadowValid || !hstWorks 7 s then s
    else
      let s1 := updDma c (fun x => { x with active := x.shadow, shadowValid := false, bytesDone := 0, acked := 0, readPos := 0, halfSeen := false, tries := [], writes := [], oldWrites := x.oldWrites ++ x.writes, st := .busy }) s
      if badRange x.shadow then dmaHalt c 4 x.shadow.dst s1 else s1) s)

/-- DMA_ZERO_LEN_DONE (R442). -/
def execDmaZeroLenDone (c : Nat) (s : State) : Host.Outcome State Fault Refusal :=
  .next (onDma c (fun x s => if x.st = .busy && x.active.len = 0 && hstWorks 7 s then dmaComplete c false s else s) s)

/-- A burst that failed is issued again, up to RETRY_MAX times, and then halts the channel (R444); `again` issues it. -/
def dmaFailed (c addr status kind : Nat) (again : State → State) (s : State) : State :=
  let x := dmaOf s c
  let n := x.tries.getD addr 0
  let s1 := updDma c (fun x => { x with hpiStatus := status % 4 }) s
  if n < x.retryMax then again (updDma c (fun x => { x with tries := x.tries.set addr (n + 1) }) s1)
  else dmaHalt c kind addr s1

/-- ABORTING ends once every outstanding burst has answered (R445). -/
def dmaAbortEnds (c : Nat) (s : State) : State :=
  let x := dmaOf s c
  if x.st = .aborting && x.writes.isEmpty && x.oldWrites.isEmpty then updDma c (fun x => dmaCause 5 { x with st := .idle }) s else s

/-- The bytes of the source that the next read burst of a channel brings (R440). -/
def dmaNext (x : DmaCh) : Nat := min (x.active.len - x.readPos) (burstRoom (x.active.src + x.readPos))

/-- The write bursts that carry data to an address: of each its first byte and its bytes (R440). -/
def dmaWrites (at' : Nat) (d : List Byte) : List (Nat × List Byte) := (burstsAt at' d.length).map (fun x => (x.1, sub d (x.1 - at') x.2))

/-- A read burst and its answer: the next bytes of the source, which are written on (R440). A read is issued only with room for its writes (R59). -/
def dmaReadAnswer (c : Nat) (b : Burst) (s0 : State) : State :=
  let x := dmaOf s0 c
  let n := b.data.length
  let at' := x.active.dst + x.readPos
  if x.st ≠ .busy || b.addr ≠ x.active.src + x.readPos || dmaNext x = 0 || !hpiRoom (dmaWrites at' b.data).length s0 then s0
  else
    let s := hpiRead b.addr (dmaNext x) s0
    if b.status ≠ 0 then dmaFailed c b.addr b.status 1 id s
    else if n ≠ dmaNext x then s0
    else
      let s1 := hpiWrite at' b.data (updDma c (fun x => { x with
        readPos := x.readPos + n, writes := (dmaWrites at' b.data).foldl (fun m w => m.set w.1 w.2) x.writes, tries := x.tries.del b.addr }) s)
      if x.active.flags.getLsbD 2 then s1 else dmaDone c n s1

/-- The write burst to an address that is answered next: that of a transfer that is over goes before that of the active one (R60). -/
def openWrite (x : DmaCh) (addr : Nat) : Option (Bool × List Byte) :=
  match x.oldWrites.find? (fun w => decide (w.1 = addr)) with
  | some w => some (true, w.2)
  | none => (x.writes.get? addr).map (fun d => (false, d))

/-- A write burst's answer (R441, R444, R445). -/
def dmaWriteAnswer (c : Nat) (b : Burst) (s : State) : State :=
  let x := dmaOf s c
  match openWrite x b.addr with
  | none => s
  | some (old, d) =>
    if b.status ≠ 0 && x.st ≠ .aborting then dmaFailed c b.addr b.status 2 (hpiWrite b.addr d) s
    else
      let s1 := updDma c (fun x =>
        if old then { x with oldWrites := eraseFirst (fun w => decide (w.1 = b.addr)) x.oldWrites, tries := x.tries.del b.addr }
        else { x with writes := x.writes.del b.addr, tries := x.tries.del b.addr, acked := x.acked + d.length }) s
      if x.st = .aborting then dmaAbortEnds c s1
      else if old then s1
      else if x.active.flags.getLsbD 2 && decide (x.bytesDone < x.active.len) then dmaDone c d.length s1
      else s1

/-- DMA_BURST_RESPONSE (R440, R441, R444). -/
def execDmaBurstResponse (c : Nat) (burst : Burst) (s : State) : Host.Outcome State Fault Refusal :=
  .next (onDma c (fun _ s => if burst.write then dmaWriteAnswer c burst s else dmaReadAnswer c burst s) s)

/-- DMA_ABORT (R445). -/
def execDmaAbort (c : Nat) (s : State) : Host.Outcome State Fault Refusal :=
  .next (viaHst (.dmaAbort c) (fun s => hptOk 0 <| onDma c (fun x s => if x.st = .busy then dmaAbortEnds c (updDma c (fun x => { x with st := .aborting }) s) else s) s) s)

/-- DMA_RESUME (R445, R446): the failed burst goes out again; after a reset, from the first byte not acknowledged. -/
def execDmaResume (c : Nat) (s : State) : Host.Outcome State Fault Refusal :=
  .next (viaHst (.dmaResume c) (fun s => hptOk 0 <| onDma c (fun x s =>
    if x.st ≠ .halted || x.haltKind = 4 then s
    else
      let s1 := updDma c (fun x => { x with st := .busy, tries := [], readPos := if x.haltKind = 3 then x.acked else x.readPos }) s
      match x.haltKind, openWrite x x.errAddr with
      | 2, some (_, d) => hpiWrite x.errAddr d s1
      | _, _ => s1) s) s)

/-- DMA_CLEAR (R445). -/
def execDmaClear (c : Nat) (s : State) : Host.Outcome State Fault Refusal :=
  .next (viaHst (.dmaClear c) (fun s => hptOk 0 <| onDma c (fun x s => if x.st = .halted then updDma c (fun x => { x with st := .idle, writes := [], oldWrites := [] }) s else s) s) s)

/-- CH_CAUSE_READ (R438): the read returns the bits and clears them. -/
def execChCauseRead (c : Nat) (s : State) : Host.Outcome State Fault Refusal :=
  .next (viaHst (.chCauseRead c) (fun s => if c < 64 then hptOk (dmaOf s c).cause.toNat (updDma c (fun x => { x with cause := 0 }) s) else hptOk 0 s) s)

/-- A warm reset halts every channel that transfers (R446): the source is raised once HST is up. -/
def dmaReset (s : State) : State :=
  (s.dma.filter (fun x => decide (x.2.st = .busy) || decide (x.2.st = .aborting))).foldl
    (fun s x => dmaHalt x.1 3 x.2.errAddr (updDma x.1 (fun y => { y with bytesDone := y.acked, writes := [], oldWrites := [], tries := [] }) s)) s

/-! Slice event controllers (R447 to R449). -/

/-- Change the interrupt logic. -/
def updIrq (f : Irq → Irq) (s : State) : State := { s with irq := f s.irq }

/-- SLICE_CAUSE_READ (R447). -/
def execSliceCauseRead (sl : Nat) (s : State) : Host.Outcome State Fault Refusal :=
  .next (viaHst (.sliceCauseRead sl) (fun s => hptOk (s.irq.sliceCause.getD sl 0).toNat (updIrq (fun q => { q with sliceCause := q.sliceCause.del sl }) s)) s)

/-- SLICE_LINK_READ (R447). -/
def execSliceLinkRead (sl : Nat) (s : State) : Host.Outcome State Fault Refusal :=
  .next (viaHst (.sliceLinkRead sl) (fun s => hptOk (s.irq.sliceLink.getD sl 0).toNat (updIrq (fun q => { q with sliceLink := q.sliceLink.del sl }) s)) s)

/-- The priority 0 to 15 that firmware gives a cause (R448; free value, log 18). -/
def causePrio (c : SliceCauseId) : Nat := Config.causePriority (c.slice * 8 + c.bit) % 16

/-- The cause that the event port offers (R448). -/
def eventOffer (q : Irq) : Option SliceCauseId :=
  let fits := fun (c : SliceCauseId) => match q.evStack with
    | [] => true
    | t :: _ => decide (causePrio c < causePrio t)
  if 16 ≤ q.evStack.length then none
  else leastBy (fun c => causePrio c * 512 + c.slice * 8 + c.bit) (q.evPend.filter (fun c => fits c && !decide (c ∈ q.evStack)))

/-- Firmware runs: CTL is in RUN. -/
def firmwareRuns (s : State) : Bool := (dom s 65).st = .run

/-- EVENT_TAKE (R448). -/
def execEventTake (s : State) : Host.Outcome State Fault Refusal :=
  .next (match eventOffer s.irq with
    | none => s
    | some c => if !firmwareRuns s then s else updIrq (fun q => { q with evPend := dropFrom q.evPend c, evStack := c :: q.evStack }) s)

/-- EVENT_EOI (R448). -/
def execEventEoi (sl cause : Nat) (s : State) : Host.Outcome State Fault Refusal :=
  .next (match s.irq.evStack with
    | t :: rest => if firmwareRuns s && decide (t = ⟨sl, cause⟩) then updIrq (fun q => { q with evStack := rest }) s else s
    | [] => s)

/-! The distributor (R450 to R463). -/

/-- Change a target. -/
def updTarget (n : Nat) (f : Target → Target) (s : State) : State := updIrq (fun q => { q with tgt := q.tgt.upd n {} f }) s

/-- The next offer after a claim or an EOI at a target, with its message write repeated while a source is eligible (R456). -/
def settleAgain (n : Nat) (s : State) : State :=
  settle (updTarget n (fun t => { t with offered := t.offered && !t.mode }) s)

/-- Take a claimed source out of pending and make it active at its target (R457). -/
def takeClaim (n id prio : Nat) (s : State) : State :=
  let push := fun (t : Target) => { t with stack := ⟨id, prio / 2 ^ t.bp⟩ :: t.stack }
  if id < 0x1000 then
    updTarget n push (updIrq (fun q => { q with pend := dropFrom q.pend id, active := addTo q.active id, diverted := dropFrom q.diverted id }) s)
  else
    let b := BitVec.ofNat 32 (2 ^ (id - 0x1000))
    updTarget n (fun t => push { t with privPend := t.privPend &&& ~~~b, privActive := t.privActive ||| b }) s

/-- CLAIM (R457). -/
def execClaim (n : Nat) (s : State) : Host.Outcome State Fault Refusal :=
  .next (viaHst (.claim n) (fun s => if 64 ≤ n then hptOk 0 s
    else match winner s.irq n with
    | some (id, prio) => hptOk (id + 2 ^ 16 + prio * 2 ^ 24) (settleAgain n (takeClaim n id prio s))
    | none => hptOk 0x0FFF (settleAgain n (updTarget n (fun t => { t with spurious := min 0xFFFF (t.spurious + 1) }) s))) s)

/-- End the active state of a source. -/
def endActive (n id : Nat) (s : State) : State :=
  if id < 0x1000 then updIrq (fun q => { q with active := dropFrom q.active id }) s
  else updTarget n (fun t => { t with privActive := t.privActive &&& ~~~(BitVec.ofNat 32 (2 ^ (id - 0x1000))) }) s

/-- EOI (R458). -/
def execEoi (n : Nat) (data : Word) (s : State) : Host.Outcome State Fault Refusal :=
  let id := data.toNat % 65536
  let bad := updTarget n (fun t => { t with eoiErr := min 0xFF (t.eoiErr + 1) })
  .next (viaHst (.eoi n data) (fun s => hptOk 0 (if 64 ≤ n then s
    else match (tgtOf s.irq n).stack with
    | [] => bad s
    | e :: rest => if e.id = id && data.getLsbD 16 then settleAgain n (endActive n id (updTarget n (fun t => { t with stack := rest }) s)) else bad s)) s)

/-- The sources that a write of bitmap word `k` names (R450, R452). -/
def wordSources (k : Nat) (data : Word) : List Nat := ((setBits 32 data.toNat).map (fun j => 32 * k + j)).filter (fun i => !reservedSource i)

/-- PEND_SET (R452, R461). -/
def execPendSet (k : Nat) (data : Word) (s : State) : Host.Outcome State Fault Refusal :=
  .next (viaHst (.pendSet k data) (fun s => hptOk 0 (settle (updIrq (fun q => { q with pend := (wordSources k data).foldl addTo q.pend }) s))) s)

/-- PEND_CLR (R452, R461). -/
def execPendClr (k : Nat) (data : Word) (s : State) : Host.Outcome State Fault Refusal :=
  .next (viaHst (.pendClr k data) (fun s => hptOk 0 (settle (updIrq (fun q => { q with pend := (wordSources k data).foldl dropFrom q.pend }) s))) s)

/-- A bitmap of the sources that a word names. -/
def sourceMask (k : Nat) (data : Word) : BitVec 4096 := BitVec.ofNat 4096 (sumOf (fun i => 2 ^ i) (wordSources k data))

/-- EN_SET (R452). -/
def execEnSet (k : Nat) (data : Word) (s : State) : Host.Outcome State Fault Refusal :=
  .next (viaHst (.enSet k data) (fun s => hptOk 0 (settle (updIrq (fun q => { q with en := q.en ||| sourceMask k data }) s))) s)

/-- EN_CLR (R452, R459). -/
def execEnClr (k : Nat) (data : Word) (s : State) : Host.Outcome State Fault Refusal :=
  .next (viaHst (.enClr k data) (fun s => hptOk 0 (settle (updIrq (fun q => { q with en := q.en &&& ~~~(sourceMask k data) }) s))) s)

/-- SRC_CFG_WRITE (R453). -/
def execSrcCfgWrite (i : Nat) (data : Word) (s : State) : Host.Outcome State Fault Refusal :=
  let v := data.toNat
  .next (viaHst (.srcCfgWrite i data) (fun s => hptOk 0 (if 4096 ≤ i then s
    else settle (updIrq (fun q => { q with cfg := q.cfg.set i ⟨v % 256, bitsN v 13 8, bitsN v 21 16⟩, diverted := dropFrom q.diverted i }) s))) s)

/-- Change a target's private words by a host write (R454, R462). -/
def privWrite (n : Nat) (f : Target → Target) (s : State) : State := hptOk 0 (if 64 ≤ n then s else settle (updTarget n f s))

/-- PRIV_PEND_SET (R462). -/
def execPrivPendSet (n : Nat) (data : Word) (s : State) : Host.Outcome State Fault Refusal :=
  .next (viaHst (.privPendSet n data) (privWrite n (fun t => { t with privPend := t.privPend ||| data })) s)

/-- PRIV_PEND_CLR (R462). -/
def execPrivPendClr (n : Nat) (data : Word) (s : State) : Host.Outcome State Fault Refusal :=
  .next (viaHst (.privPendClr n data) (privWrite n (fun t => { t with privPend := t.privPend &&& ~~~data })) s)

/-- PRIV_EN_SET (R462). -/
def execPrivEnSet (n : Nat) (data : Word) (s : State) : Host.Outcome State Fault Refusal :=
  .next (viaHst (.privEnSet n data) (privWrite n (fun t => { t with privEn := t.privEn ||| data })) s)

/-- PRIV_EN_CLR (R462). -/
def execPrivEnClr (n : Nat) (data : Word) (s : State) : Host.Outcome State Fault Refusal :=
  .next (viaHst (.privEnClr n data) (privWrite n (fun t => { t with privEn := t.privEn &&& ~~~data })) s)

/-- TARGET_COUNTS_READ (R454). -/
def execTargetCountsRead (n : Nat) (s : State) : Host.Outcome State Fault Refusal :=
  let t := tgtOf s.irq n
  .next (viaHst (.targetCountsRead n) (fun s => if 64 ≤ n then hptOk 0 s
    else hptOk (t.spurious + 2 ^ 16 * t.eoiErr + 2 ^ 24 * t.fallbacks) (updTarget n (fun t => { t with spurious := 0, eoiErr := 0, fallbacks := 0 }) s)) s)

/-- TGT_AWAKE_CHANGE (R61, R460). -/
def execTgtAwakeChange (n : Nat) (level : Bool) (s : State) : Host.Outcome State Fault Refusal :=
  .next (if 64 ≤ n then s else settle (updTarget n (fun t => { t with awake := level }) s))

/-- WAKE_WAIT_EXPIRY (R460). -/
def execWakeWaitExpiry (i : Nat) (s : State) : Host.Outcome State Fault Refusal :=
  let c := srcCfgOf s.irq i
  .next (match s.irq.waits.get? i with
    | none => s
    | some t =>
      if rawNs s < t + 1000 * (tgtOf s.irq c.target).wakeWait then s
      else settle (updTarget c.fallback (fun t => { t with fallbacks := min 0xFF (t.fallbacks + 1) }) (updIrq (fun q => { q with diverted := addTo q.diverted i }) s)))

/-- MSG_WRITE_RETRY (R456). -/
def execMsgWriteRetry (n : Nat) (s : State) : Host.Outcome State Fault Refusal :=
  .next (if (tgtOf s.irq n).msgOpen then msgWrite n s else s)

end Sys2Proof.Machine
end

