-- ==== Sys2Proof/Machine/FlipSide.lean ====
section
/-! DEFINITION. What a stageable command does beside its change of the configuration, when the change comes into force: at once, or at the flip. -/

namespace Sys2Proof.Machine

/-- The effect of a change on the running state when it comes into force (R110, R111). -/
def sideUpd (i : Instr) (s : State) : State :=
  match i with
  | .portCfg e => portCfgSide e s
  | .portFc e => portFcSide e s
  | .portPreempt e => portPreemptSide e s
  | .flowMinSet e => flowMinSetSide e s
  | .learnCfgGlobal e => learnCfgGlobalSide e s
  | .lagSet e => lagSetSide e s
  | .sampleCfg e => sampleCfgSide e s
  | .schedSet e => schedSetSide e s
  | .shaperSet e => shaperSetSide e s
  | .policerSet e => policerSetSide e s
  | .streamFilterSet e => streamFilterSetSide e s
  | .gateListSet e => gateListSetSide e s
  | .gateEnableOn e => gateEnableOnSide e s
  | .gateEnableOff e => gateEnableOffSide e s
  | .flowAdd e => flowAddSide e s
  | .flowModify e => flowModifySide e s
  | .flowDelete e => flowDeleteSide e s
  | .prpHsrSet e => prpHsrSetSide e s
  | .ptpPortCfg e => ptpPortCfgSide e s
  | .domainPortSet e => domainPortSetSide e s
  | .capRuleSet e => capRuleSetSide e s
  | _ => s

end Sys2Proof.Machine
end

