-- ==== Sys2Proof/Machine/Quad.lean ====
section
/-! DEFINITION. The QUAD class, arming, the flip and normalisation (R101 to R116). -/

namespace Sys2Proof.Machine

/-! Checking a set (R103, R105, R107). -/

/-- The units of a kind that a set touches, in the order of its changes; lane claims (opcode 0) touch no unit. -/
def touched (kind : Nat) (q : QSet) : List Nat :=
  (q.changes.flatMap (fun ch => (ch.claims.filter (fun c => decide (c.op ≠ 0) && decide (unitKind c.op = kind))).map Claim.unit)).foldl addTo []

/-- The disagreements of a set in its own view (QUAD_CHECK): ports, flows, engines. -/
def setPairs (s : State) (q : QSet) : List PairRec :=
  let v := setView q.id s
  let c := cfg v
  (touched 1 q).flatMap (portPairs v c) ++ ((touched 4 q).filter c.flows.has).flatMap (pair04 c) ++ (touched 3 q).flatMap (pair05 v c)

/-- Move the held-back entries of a set into free slots (R206). -/
def retryHeld (id : Nat) (s : State) : State :=
  s.tables.tables.foldl (fun s t => (t.2.heldBack.filter (fun h => decide (h.1 = id))).foldl (fun s h =>
    match userTable s t.1 with
    | none => s
    | some x => if tableRoom s x then
        let s1 := updTable t.1 (fun y => entryStageIn s.quad.parity id h.2 y) s
        { s1 with fresh := s1.fresh + 1 }
      else s) s) s

/-- The MAC table holds what it holds with the set's inserts (R259): beyond the guaranteed count by a free value, log 13. -/
def macFits (s : State) (q : QSet) : Bool :=
  let n := s.tables.mac.length
  !(q.changes.any (fun ch => ch.claims.any (fun c => decide (c.op = 0x0802)))) || n ≤ macGuaranteed s || (n ≤ macMax s && !Config.bucketFull s.fresh)

/-- The set's table changes fit (QUAD_CHECK): entries, MAC entries, flow contexts and minimums. -/
def setFits (s : State) (q : QSet) : Bool :=
  let v := setView q.id s
  !(s.tables.tables.any (fun t => t.2.heldBack.any (fun h => decide (h.1 = q.id)))) && macFits s q
    && (touched 4 q).all (fun f => match (cfg v).flows.get? f with | some x => (flowRoom v f x).isNone | none => true)

/-- The response data of QUAD_CHECK from a record on. -/
def checkData (q : QSet) (rs : List PairRec) (start : Nat) : List Byte :=
  leB 2 q.id ++ leB 2 rs.length ++ leB 4 (changeCount q.changes) ++ ((rs.drop start).take 14).flatMap pairBytes

/-- What judging a set finds (R107): a disagreement before a lack of room. -/
def judgeSet (s : State) (q : QSet) (start : Nat) : Option Verdict :=
  match setPairs s q with
  | r :: l => some (pairV r.pair (checkData q (r :: l) start))
  | [] => unlessOk (setFits s q) (noResV 0)

/-- Open sets (R101). -/
def openSets (s : State) : Nat := (s.quad.sets.filter QSet.live).length

/-- A command has named the set (IDLE_LIMIT). -/
def nameSet (id : Nat) (s : State) : State := updSet id (fun q => { q with named := rawNs s }) s

/-- Forget sets that ended more than 60 s ago (QUAD_STATUS). -/
def forgetSets (s : State) : State :=
  { s with quad := { s.quad with sets := s.quad.sets.filter (fun q => q.live || decide (rawNs s < q.since + 60000000000)) } }

/-- The SET_ID that QUAD_OPEN gives: as asked, or of firmware's choosing (free value, log 23). -/
def openId (e : Env) (s : State) : Option Nat :=
  if fld e.payload 0 2 ≠ 0 then some (fld e.payload 0 2) else fwPick 11 s.fresh 1 65535 (fun k => (findSet s k).isSome)

/-- The checks of QUAD_OPEN (R101). -/
def quadOpenChk (e : Env) (s : State) : Chk :=
  let p := e.payload
  let req := fld p 0 2
  { fields := [below p 2 1 2, zeroAt p 3 1, below p 4 4 3601], held := if req ≠ 0 && (findSet s req).isSome then some req else none
    st := if byteAt p 2 = 1 && !s.sez.enabled then some 0 else none, resource := if 8 ≤ openSets s then some 0 else none }

/-- QUAD_OPEN (R101). -/
def execQuadOpen (e : Env) (s : State) : Host.Outcome State Fault Refusal :=
  let p := e.payload
  let id := (openId e s).getD 0
  .next (runOk 0x0201 (lenIs 8) (quadOpenChk e s) e
    (fun s => leB 2 id ++ leB 1 (openSets s + 1))
    (fun s =>
      let s1 := forgetSets s
      { s1 with fresh := s1.fresh + 1
                quad := { s1.quad with sets := s1.quad.sets ++ [{ id, domain := byteAt p 2 = 1, idleLimit := fld p 4 4, named := rawNs s }] } }) s)

/-- The set holds a list for a port whose earlier list of a flip still waits for its BASE_NS (R317). -/
def gateWaits (s : State) (q : QSet) : Bool :=
  q.changes.any (fun ch => match ch.cmd with | .gateListSet e => (gateRt s (ePort e)).flipWait | _ => false)

/-- The set has been checked or opened, and no apply has been taken. -/
def setLoose (q : QSet) : Bool := (decide (q.st = .opened) || decide (q.st = .checked)) && !q.applying

/-- QUAD_CHECK (R102, R103, R105). -/
def execQuadCheck (e : Env) (s : State) : Host.Outcome State Fault Refusal :=
  let p := e.payload
  let id := fld p 0 2
  .next (match findSet s id with
    | none => runOk 0x0202 (lenIs 4) { fields := [(0, false)] } e (fun _ => []) (fun s => s) s
    | some q => ifTurn e (fun s =>
      let s0 := retryHeld id (nameSet id s)
      match cmdVerdict 0x0202 (lenIs 4)
          { fields := [], busy := if gateWaits s q then some 3 else none, st := if setLoose q then none else some (if q.applying then 2 else 0) } e s with
      | some v => respond e 0x0202 v (nameSet id s)
      | none =>
        match judgeSet s0 q (fld p 2 2) with
        | some v => respond e 0x0202 v (updSet id (fun q => { q with st := .opened }) s0)
        | none => respond e 0x0202 (okV (checkData q [] 0)) (updSet id (fun q => { q with st := .checked }) s0)) s)

/-! Aborting (R102, R112, R114). -/

/-- Settle a set's entries by the present parity (R113, R114): those that show only the other one are freed, the rest show in both. Before its flip
this takes a set's changes out of the tables, after it it completes them. -/
def settleStaged (id : Nat) (s : State) : State :=
  let pv := visOnly s.quad.parity
  let back := fun (v staged : Nat) => decide (staged = id) && decide (v ≠ pv)
  let t := s.tables
  { s with tables := { t with
      tables := t.tables.mapV (fun _ x => { x with
        entries := (x.entries.filter (fun y => !back y.vis y.staged)).map (fun y => if y.staged = id then { y with vis := 3, staged := 0 } else y)
        heldBack := x.heldBack.filter (fun h => decide (h.1 ≠ id)) })
      flowKeys := t.flowKeys.filter (fun k => decide (k.2.set ≠ id))
      mac := (t.mac.filter (fun y => !back y.vis y.staged)).map (fun y => if y.staged = id then { y with vis := 3, staged := 0 } else y) } }

/-- The inactive bank follows the active one. -/
def copyBanks (s : State) : State := { s with bank0 := cfg s, bank1 := cfg s }

/-- Abort a set (R102, R114): its claims end, the banks of an ARMED one are left unused, and source 18 is raised. -/
def abortSet (id : Nat) (s : State) : State :=
  match findSet s id with
  | none => s
  | some q =>
    let s1 := if q.st = .armed then copyBanks s else s
    fire 18 (updSet id (fun q => { q with st := .aborted, since := rawNs s, applying := false, owed := none }) (settleStaged id s1))

/-- The comparators of an ARMED set have less than 10 µs to go (R112). -/
def nearFlip (s : State) (q : QSet) : Bool := decide ((q.effective : Int) < time16 s + 10000 * 65536)

/-- A set that has ended within the last 60 s (QUAD_STATUS). -/
def endedSet (s : State) (id : Nat) : Option QSet :=
  s.quad.sets.reverse.find? (fun q => decide (q.id = id) && !q.live && decide (rawNs s < q.since + 60000000000))

/-- The response that a waiting QUAD_APPLY still gets when its set is aborted: STATE. -/
def answerOwed (q : QSet) (s : State) : State :=
  match q.owed with
  | some a => respond a 0x0203 (stateV 0) s
  | none => s

/-- QUAD_ABORT (R112). -/
def execQuadAbort (e : Env) (s : State) : Host.Outcome State Fault Refusal :=
  let id := fld e.payload 0 2
  .next (match findSet s id with
    | none =>
      let done := match endedSet s id with | some q => decide (q.st = .done) | none => false
      runOk 0x0204 (lenIs 2) { fields := [(0, done)], st := some 2 } e (fun _ => []) (fun s => s) s
    | some q =>
      runOk 0x0204 (lenIs 2) { st := if q.st = .normalising || (q.st = .armed && nearFlip s q) then some 2 else none } e (fun _ => [])
        (fun s => abortSet id (answerOwed q (cancelVote id s))) s)

/-- The number of QUAD_STATUS for a state (R102). -/
def setStNum : SetSt → Nat
  | .opened => 0
  | .checked => 1
  | .voting => 2
  | .armed => 3
  | .normalising => 4
  | .done => 5
  | .aborted => 6

/-- The checks of QUAD_STATUS (R102). -/
def quadStatusChk (e : Env) (s : State) : Chk :=
  let id := fld e.payload 0 2
  let q := match findSet s id with | some q => some q | none => endedSet s id
  { fields := [(0, q.isSome)] }

/-- QUAD_STATUS (R102). -/
def execQuadStatus (e : Env) (s : State) : Host.Outcome State Fault Refusal :=
  let id := fld e.payload 0 2
  let q := match findSet s id with | some q => some q | none => endedSet s id
  .next (runOk 0x0205 (lenIs 2) (quadStatusChk e s) e
    (fun _ => match q with
      | none => []
      | some q => leB 1 (setStNum q.st) ++ leB 1 0 ++ leB 4 (changeCount q.changes) ++ leB 8 (q.effective / 65536) ++ leB 2 (q.effective % 65536)
          ++ if q.domain then leB 2 q.culprit else [])
    (nameSet id) s)

/-! Applying (R107 to R109). -/

/-- The arming bound in ns: 20 µs and 4 ns for each register-like change (R107). -/
def armBound (q : QSet) : Nat := 20000 + 4 * changeCount (q.changes.filter (fun ch => !ch.table))

/-- APPLY_TIME less now, in ns; by 32 bits while TIME_VALID is 0 (R108, R159). -/
def timeAhead (s : State) (t : Nat) : Int := absTarget s t - timeNs s

/-- Take an apply: the set waits for its arming behind those taken before (R109). -/
def takeApply (id mode applyTime : Nat) (owed : Option Env) (s : State) : State :=
  let s1 := updSet id (fun q => { q with mode, applyTime, applying := true, owed, hit := false }) s
  let mine := s1.quad.sets.filter (fun q => q.live && decide (q.id = id))
  { s1 with quad := { s1.quad with sets := s1.quad.sets.filter (fun q => !(q.live && decide (q.id = id))) ++ mine } }

/-- The checks of QUAD_APPLY that need no revalidation; MODE as the payload has it when it is a legal one. -/
def applyChk (e : Env) (mode : Nat) (q : Option QSet) (s : State) : Chk :=
  let p := e.payload
  { fields := [(0, q.isSome), below p 2 1 3, zeroAt p 3 1, (4, mode = 0 || !targetTooFar s (fld p 4 8)), (12, mode = 2 || fld p 12 8 = 0)]
    st := match q with
      | none => none
      | some q => if q.st ≠ .checked || q.applying then some 0 else if mode = 2 && (!q.domain || !inStep s) then some 0 else none }

/-- Run QUAD_APPLY in its turn (R107): revalidate, then `go`, unless `refused` says that the times leave too little room. -/
def runApply (e : Env) (mode : Nat) (refused : QSet → State → Bool) (go : QSet → State → State) (s : State) : State :=
  let id := fld e.payload 0 2
  ifTurn e (fun s => match cmdVerdict 0x0203 (lenIs 20) (applyChk e mode (findSet s id) s) e s, findSet s id with
    | some v, _ => respond e 0x0203 v (nameSet id s)
    | none, none => s
    | none, some q =>
      let s0 := retryHeld id (nameSet id s)
      match judgeSet s0 q 0 with
      | some v => respond e 0x0203 v (updSet id (fun q => { q with st := .opened }) s0)
      | none => if refused q s then respond e 0x0203 (refusedV 1) s0 else go q s0) s

/-- QUAD_APPLY NOW (R108, R109). -/
def execQuadApplyNow (e : Env) (s : State) : Host.Outcome State Fault Refusal :=
  .next (runApply e 0 (fun _ _ => false) (fun q s => takeApply q.id 0 0 (some e) s) s)

/-- QUAD_APPLY AT_TIME (R108, R109). -/
def execQuadApplyAtTime (e : Env) (s : State) : Host.Outcome State Fault Refusal :=
  let t := fld e.payload 4 8
  .next (runApply e 1 (fun q s => decide (timeAhead s t < armBound q)) (fun q s => takeApply q.id 1 (unsignedN 64 (absTarget s t)) (some e) s) s)

/-- RAW_T + CORR + OFFSET of a time unit in 2^-32 ns, before it is truncated (R147). -/
def fullTime (t : TimeUnit) : Int := t.raw.toNat * 65536 + t.corr.toInt + t.offset.toInt * 65536

/-- TIME in 2^-16 ns of the tick at which the comparators flip (R108, R109): the next one, with the step and the DISC_INC that it takes, or as many more
at the rate from then on as bring TIME to APPLY_TIME. -/
def flipTime (s : State) (q : QSet) : Nat :=
  let t := tickCounters s.build.owlHz s.time
  let more := if q.mode = 0 || q.hit then 0 else ceilDiv ((q.applyTime : Int) * 2 ^ 32 - fullTime t).toNat t.discInc.toNat
  ((fullTime t + (more * t.discInc.toNat : Nat)) / 65536).toNat

/-- No earlier set is ARMED, NORMALISING or waiting for its arming (R109). -/
def mayArm (s : State) (id : Nat) : Bool :=
  let before := s.quad.sets.takeWhile (fun q => !(q.live && decide (q.id = id)))
  !(s.quad.sets.any (fun q => decide (q.st = .armed) || decide (q.st = .normalising))) && !(before.any (fun q => q.live && q.applying))

/-- A member arms a set of the domain only after APPLY_TIME and so misses the flip (R115): it is OUT_OF_STEP. -/
def missedFlip (q : QSet) (s : State) : State := if q.mode = 2 && (q.hit || reached s q.applyTime) then goOutOfStep q.id s else s

/-- QUAD_ARMED (R107, R109): the inactive bank takes the set's changes, the comparators the flip tick, and QUAD_APPLY completes. -/
def execQuadArmed (id : Nat) (s : State) : Host.Outcome State Fault Refusal :=
  .next (match findSet s id with
    | none => s
    | some q =>
      if !q.applying || !mayArm s id then s
      else
        let new := setCfg s.build q.changes (cfg s)
        let s1 := if s.quad.parity then { s with bank0 := new } else { s with bank1 := new }
        let eff := flipTime s q
        let s2 := missedFlip q (updSet id (fun q => { q with st := .armed, applying := false, armEnd := rawNs s, effective := eff, owed := none }) s1)
        let data := leB 8 (eff / 65536) ++ leB 2 (eff % 65536)
        match q.owed with
        | some a => respond a 0x0203 (if q.mode = 1 && (q.hit || reached s q.applyTime) then adjustedV data else okV data) s2
        | none => s2)

/-! The flip and normalisation (R110, R111, R113, R114). -/

/-- Staged entries of the other sets go on being invisible: VIS of a staged insert or delete turns with the parity (log 51). -/
def turnVis (id : Nat) (s : State) : State :=
  let t := s.tables
  { s with tables := { t with
      tables := t.tables.mapV (fun _ x => { x with entries := x.entries.map (fun y => if y.staged ≠ 0 && y.staged ≠ id then { y with vis := 3 - y.vis } else y) })
      mac := t.mac.map (fun y => if y.staged ≠ 0 && y.staged ≠ id then { y with vis := 3 - y.vis } else y) } }

/-- QUAD_FLIP (R110, R111): the parity toggles, and every change has its effect on the running state at the same tick. -/
def execQuadFlip (id : Nat) (s : State) : Host.Outcome State Fault Refusal :=
  .next (match findSet s id with
    | none => s
    | some q =>
      if !flipDue s q then s
      else
        let s1 := turnVis id { s with quad := { s.quad with parity := !s.quad.parity, flipAt := some (raw16 s) } }
        let s2 := q.changes.foldl (fun s ch => sideUpd ch.cmd s) s1
        updSet id (fun q => { q with st := .normalising, effective := (time16 s).toNat }) s2)

/-- A frame of the old epoch is still before admission (R114). -/
def oldFrames (s : State) : Bool :=
  s.slices.any (fun x => x.2.ingress.any (fun f => f.epoch ≠ s.quad.parity) || x.2.toWrite.any (fun c => c.frame.epoch ≠ s.quad.parity)
    || x.2.written.any (fun c => c.frame.epoch ≠ s.quad.parity) || x.2.den.any (fun d => d.frame.epoch ≠ s.quad.parity))

/-- A set is done (R114): source 17. -/
def finishSet (id : Nat) (s : State) : State :=
  fire 17 (updSet id (fun q => { q with st := .done, since := rawNs s }) (copyBanks (settleStaged id s)))

/-- NORMALISE (R114). -/
def execNormalise (id : Nat) (s : State) : Host.Outcome State Fault Refusal :=
  .next (match findSet s id with
    | none => s
    | some q => if q.st ≠ .normalising || oldFrames s then s else finishSet id s)

/-- QUAD_IDLE_LIMIT (QUAD_OPEN). -/
def execQuadIdleLimit (id : Nat) (s : State) : Host.Outcome State Fault Refusal :=
  .next (match findSet s id with
    | none => s
    | some q => if setLoose q && 0 < q.idleLimit && decide (q.named + q.idleLimit * 1000000000 ≤ rawNs s) then abortSet id s else s)

end Sys2Proof.Machine
end

