-- ==== Sys2Proof/Machine/Reset.lean ====
section
/-! DEFINITION. Resets of a slice core and of the block (R63, R116, R333, R499, R500, R504, R507). -/

namespace Sys2Proof.Machine

/-- The ports of a slice with anything on them. -/
def slicePorts (s : State) (sl : Nat) : List Nat :=
  ((s.ports.keys ++ s.tm.queues.keys.map (· / 16)).foldl addTo []).filter (fun p => decide (sliceOf s p = sl))

/-- The unguarded copies among `cs` are lost: only guarded ones stand in retained SRAM (R333). -/
def loseUnguarded (cs : List Copy) (s : State) : State := (cs.filter (fun c => !guardedCopy s c)).foldl (fun s c => copyEnds c.frame s) s

/-- A port loses what the slice core held for it: unguarded copies on its queues, and what is released and not begun. Guarded copies stay on
their queues and on the in-flight list (R333, R334). The port front's own frames stay while `own` holds. -/
def loseAtPort (own : Bool) (p : Nat) (s : State) : State :=
  let qs := (List.range 16).map (qid p)
  let queued := (qs.map (queueOf s)).flatten
  let s1 := qs.foldl (fun s id => if (queueOf s id).isEmpty then s else setQueue id ((queueOf s id).filter (guardedCopy s)) s) s
  loseUnguarded (queued ++ unbegun s p) (updPort p (fun x => { x with
      pacing := []
      fifo := x.fifo.filter (fun t => match t with | .copy _ => false | .own _ _ => own) }) s1)

/-- A frame is lost before admission (R26): its cells and charges return; a guarded one whose flow is named counts before admission. -/
def loseClassified (sl : Nat) (k : Classified) (s : State) : State :=
  let s1 := releaseFrame k s
  preDrop sl none k (match k.admitted with
    | some f => abandonCut f k s1
    | none => s1)

/-- A slice core's pipelines and logic state clear (R499): frames before admission are lost, and so are the unguarded copies that it held. R26 counts a
frame lost here before its flow is named in the slice counter of its cause; PORT_COUNTERS lists none for a reset, so none counts it (DESIGN CHOICE,
log 102). -/
def clearCore (own : Bool) (sl : Nat) (s : State) : State :=
  let x := slice s sl
  let s1 := updSlice sl (fun x => { x with ingress := [], toWrite := [], written := [], inReset := some (rawNs s) }) s
  let s2 := x.ingress.foldl (fun s f => txLost f (meterRx f noFlow s)) s1
  let s3 := (x.toWrite ++ x.written).foldl (fun s k => loseClassified sl k s) s2
  let s4 := (slicePorts s sl).foldl (fun s p => loseAtPort own p s) s3
  let mine := (s4.buf.frames.filter (fun f => decide (sl ∈ f.2.marks) && !f.2.c.guarded)).map Prod.fst
  mine.foldl (fun s f => discardHere sl f s) s4

/-- The quiet end of a set at a reset (R116): its claims end and no vote is answered; source 18 follows at the boot. -/
def abortQuietly (q : QSet) (s : State) : State :=
  let s1 := if q.domain && (q.st = .voting || q.st = .armed) then goOutOfStep q.id s else s
  let s2 := settleStaged q.id (if q.st = .armed then copyBanks s1 else s1)
  { updSet q.id (fun q => { q with st := .aborted, since := rawNs s, applying := false, owed := none }) s2 with boot := { s2.boot with abortIrq := true } }

/-- Sets at a warm reset (R116): one whose flip has passed is completed, every other live one is aborted. -/
def warmSets (s : State) : State :=
  let s1 := (s.quad.sets.filter (fun q => q.live && decide (q.st ≠ .normalising))).foldl (fun s q => abortQuietly q s) s
  { s1 with sez := { s1.sez with coord := [], voting := [] } }

/-- The registers whose Kept is S or none (R20, R83, R157), and firmware's own state, at a warm reset. -/
def warmRegisters (s : State) : State :=
  { s with
    mb := { mailboxReset s.mb with goLost := false }
    boot := { s.boot with stage := 0, err := 0, warm := false, ready := false, owed := 2, resetAsked := none, warmWaits := false }
    adm := journalAgain s.adm 1
    time := { s.time with snaps := [], ppsIn := 0, ppsValid := false, ppsSeq := 0, ppsGlitch := 0 }
    ports := s.ports.mapV (fun _ x => { x with calStale := false })
    tables := { s.tables with learn := [] }
    eng := { s.eng with rt := s.eng.rt.mapV (fun _ r => { r with resetAt := none, owed := none }) }
    irq := eventReset s.irq
    badger := { s.badger with runs := [], sliceOwed := [], ctlHeld := if s.badger.ctlHeld = 2 then 2 else 0 } }

/-- Host queues at a warm reset (R423, R430): fetched entries that are not accepted are fetched again; head words and completions that HPI has not
acknowledged are written again. -/
def warmQueues (s : State) : State :=
  let s1 := { s with hq := { s.hq with sq := s.hq.sq.mapV (fun _ x => { x with fetched := [], phaseWait := none, specMiss := false }) } }
  let s2 := (s1.hq.sq.filter (fun x => !x.2.wbOpens.isEmpty)).foldl (fun s x => hpiWrite x.2.headWb (headWord x.2) s) s1
  s2.hq.open'.foldl (fun s o => hpiWrite o.addr o.bytes s) s2

/-- A warm reset (R499, R500): every port front stomps the frame in transmission, the pipelines clear, what is retained stays. -/
def warmReset (s : State) : State :=
  let s1 := s.ports.keys.foldl (fun s p => stompPort p s) s
  let s2 := (List.range (nSlices s)).foldl (fun s sl => clearCore false sl s) s1
  dmaReset (warmQueues (warmRegisters (warmSets s2)))

/-- A reset of a slice core (R499): the port front and the slice's retained SRAM stay. -/
def resetCore (sl : Nat) (s : State) : State := clearCore true sl s

/-- Pins keep the levels that the integrator drives: STAT of a port. -/
def portPins (x : PortRt) : PortRt := { statUp := x.statUp, localFault := x.localFault, remoteFault := x.remoteFault }

/-- The time unit at a cold reset: what Otdiuri holds stays (R64); the settings of R504 and the PPS_IN registers go, SYNT_STB shows a change of
SYNT_CTRL to 0. -/
def coldTime (t : TimeUnit) : TimeUnit :=
  { t with
    snaps := [], ppsIn := 0, ppsValid := false, ppsSeq := 0, ppsGlitch := 0, ppsEdge := none, ppsInEn := false, ppsOutEn := false, ppsWidth := 100000
    ppsOut := none, ppsLast := none, syntMode := 0, syntValue := 0, syntServo := 0, synt := 0, syntStb := decide (t.synt ≠ 0), timers := []
    servo := none, lock := false, inbox := [], skewed := [], coolSince := none }

/-- The power controller at a cold reset (R499): OWL keeps its registers, counters, log and the levels of its pins; the domains are reinitialised, and
policies are RUN (R464, R501). -/
def coldPwr (p : Pwr) : Pwr :=
  { p with
    dom := p.dom.mapV (fun d x =>
      if d < 32 then { st := .off, pswEn := false } else { drain := x.drain, partner := x.partner })
    rounds := [], block := .run, ldoLow := false, vcoreMode := true, regRetried := false, handover := none, wakePend := [], blockWake := false }

/-- The block after a cold reset, with Otdiuri, OWL and the pins as they were (R64, R499, R507). -/
def coldState (s : State) : State :=
  let r := State.resetOf s.build
  { r with
    ports := s.ports.mapV (fun _ x => portPins x)
    boot := { r.boot with debugEn := s.boot.debugEn }
    irq := { r.irq with tgt := s.irq.tgt.mapV (fun _ t => { awake := t.awake }) }
    badger := { r.badger with epoch := rawNs s }
    time := coldTime s.time
    otd := s.otd
    pwr := coldPwr s.pwr
    hpt := { s.hpt with waiting := [] }, out := s.out, fresh := s.fresh, pending := s.pending }

/-- A frame that has begun is stomped whatever resets the port front (R129). -/
def stompAll (s : State) : State := s.ports.keys.foldl (fun s p => stompPort p s) s

/-- COLD_RESET (R63, R499). -/
def execColdReset (s : State) : Host.Outcome State Fault Refusal := .next (coldState (stompAll s))

/-- POWER_ON_RESET (R63, R499): OWL is reset too, but for the levels of its pins. -/
def execPowerOnReset (s : State) : Host.Outcome State Fault Refusal :=
  .next { coldState (stompAll s) with pwr := { regReady := s.pwr.regReady, vretGood := s.pwr.vretGood } }

end Sys2Proof.Machine
end

