-- ==== Sys2Proof/Machine/Pwr.lean ====
section
/-! DEFINITION. Power states, the ask round, entry, wake and brown-out (R464 to R484). -/

namespace Sys2Proof.Machine

/-- Change the power controller. -/
def updPwr (f : Pwr → Pwr) (s : State) : State := { s with pwr := f s.pwr }

/-- How deep a state is. -/
def depthOf : DomState → Nat
  | .run => 0
  | .nap => 1
  | .doze => 2
  | .off => 2

/-- The state of TARGET. -/
def targetState : Nat → DomState
  | 0 => .run
  | 1 => .nap
  | _ => .doze

/-- The domains of the slice cores that the configuration has. -/
def coreDomains (s : State) : List Nat := (List.range (nSlices s)).map (fun k => 32 + k)

/-- The domains that sleep: slice cores, CTR, HST, CTL, in the order of R474. -/
def sleepers (s : State) : List Nat := coreDomains s ++ [64, 66, 65]

/-- IRQ_OWL (R61, R481). -/
def irqOwl (s : State) : Bool := s.pwr.boPending || (sleepers s).any (fun d => (dom s d).wakeFail)

/-- Write an Owl log entry (R484). -/
def owlLog (code d detail : Nat) (s : State) : State :=
  let x : OwlEntry := ⟨code, d, detail, unsignedN 64 (timeNs s)⟩
  updPwr (fun p => { p with log := (p.log ++ [x]).drop (p.log.length - 15), logTotal := p.logTotal + 1 }) s

/-- Ports of a slice that are admin-up. -/
def adminPorts (s : State) (sl : Nat) : List Nat := ((List.range 32).map (fun j => 32 * sl + j)).filter (fun p => (port s p).admin)

/-- The sum of the line rates of a slice's admin-up ports, Mbit/s. -/
def slicePortRate (s : State) (sl : Nat) : Nat :=
  sumOf (fun p => match (cfg s).ports.get? p with | some c => speedMbps c.speed | none => 0) (adminPorts s sl)

/-- The copies of a port that are released and not yet sent. -/
def portSends (s : State) (p : Nat) : Bool :=
  (port s p).cur.isSome || (port s p).preempted.isSome || !(port s p).fifo.isEmpty || !(port s p).pacing.isEmpty

/-- A frame is in a slice core's pipelines (R465, R468). -/
def coreHoldsFrame (s : State) (sl : Nat) : Bool :=
  !(slice s sl).ingress.isEmpty || !(slice s sl).toWrite.isEmpty || !(slice s sl).written.isEmpty

/-- A DMA channel transfers (R446). -/
def dmaTransfers (s : State) : Bool := s.dma.any (fun x => decide (x.2.st = .busy) || decide (x.2.st = .aborting))

/-- A source is eligible at an awake target, or active (R465, R468). -/
def sourceOpen (s : State) : Bool :=
  !s.irq.active.isEmpty || s.irq.tgt.any (fun x => x.2.privActive ≠ 0) || (List.range 64).any (offeredNow s.irq)

/-- The host queue engine delays a sleep (R430). -/
def hostQueueDelays (s : State) : Bool := s.hq.sq.any (fun x => !x.2.fetched.isEmpty || (stagedHead x.2).isSome)

/-- A command executes that is not the one that asks (R468): beside one that waits for its entry firmware executes only a QUAD_APPLY that waits for
its set (R82, R93). -/
def otherCommand (s : State) (asks : Bool) : Bool :=
  s.quad.sets.any (fun q => q.owed.isSome) || (!asks && (s.mb.busy || s.adm.journal.any (fun j => !j.done)))

/-- The units that Badger tests in a slice core's domain (R485). -/
def coreUnits (sl : Nat) : List Nat := (List.range 8).map (fun k => 128 + 8 * sl + k) ++ (List.range 4).map (fun k => 640 + 4 * sl + k)

/-- A unit is overdue (R487): its last complete test, or the start of its age, lies more than 24 h back. -/
def unitOverdue (s : State) (u : Nat) : Bool :=
  let last := match s.badger.units.get? u with | some x => max x.last s.badger.epoch | none => s.badger.epoch
  decide (last + 86400000000000 < rawNs s)

/-- A block answers DELAY now (R468, R469). -/
def blockDelays (s : State) (r : AskRound) (d b : Nat) : Bool :=
  match b with
  | 2 => coreHoldsFrame s (d - 32) || !(slice s (d - 32)).inFlight.isEmpty || (slicePorts s (d - 32)).any (portSends s)
  | 3 => decide (rawNs s < r.start + 2000000) && (coreUnits (d - 32)).any (unitOverdue s)
  | 4 => (List.range (nSlices s)).any (fun sl => !(slice s sl).toWrite.isEmpty)
  | 5 => otherCommand s (owesCommand r) || s.quad.sets.any (fun q => decide (q.st = .normalising))
  | 6 => hostQueueDelays s
  | 7 => dmaTransfers s
  | _ => false

/-- How deep a slice core is for CTR (R36): one whose wake runs has left its sleep. -/
def coreDepth (s : State) (d : Nat) : Nat := if (dom s d).trans = .wakePsw || (dom s d).trans = .wakePll then 0 else depthOf (dom s d).st

/-- CTR follows into the least-asleep slice core's state (R36): the state CTR may take once the domains `ds` are in `t`, if that is deeper
than its present one. -/
def centreFollows (s : State) (ds : List Nat) (t : DomState) : Option DomState :=
  let depth := fun d => if d ∈ ds then max (depthOf t) (depthOf (dom s d).st) else coreDepth s d
  let least := (coreDomains s).foldl (fun m d => min m (depth d)) 2
  if depthOf (dom s 64).st < least then some (if least = 1 then .nap else .doze) else none

/-- The blocks of a domain (R468). -/
def blocksOf (hib : Bool) (t : DomState) (d : Nat) : List (Nat × Nat) :=
  if d = 64 then [(64, 4)]
  else if d = 65 then [(65, 5)]
  else if d = 66 then [(66, 6), (66, 7), (66, 8)]
  else [(d - 32, 1), (d, 2)] ++ (if hib || t ≠ .doze then [] else [(d, 3)])

/-- The blocks that cannot sleep now, with DETAIL (R468). -/
def refusals (s : State) (hib : Bool) (bs : List (Nat × Nat)) : List (Nat × Nat × Nat) :=
  bs.filterMap (fun x =>
    match x.2 with
    | 1 => if !(slice s x.1).den.isEmpty then some (x.1, 1, 0x02)
           else if hib && decide (2 * 1048576 < 15 * slicePortRate s x.1) then some (x.1, 1, 0x03) else none
    | 5 => if s.sez.enabled then some (65, 5, 0x05) else none
    | 8 => if sourceOpen s then some (66, 8, 0x06) else none
    | _ => none)

/-- What the power controller itself refuses at once (R68, R468). -/
def controllerRefuses (s : State) (t : DomState) (ds : List Nat) : Option (Nat × Nat) :=
  if t = .doze && !s.pwr.vretGood then some (ds.headD 66, 0x04)
  else (ds.find? (fun d => (dom s d).wakeFail)).map (fun d => (d, 0x07))

/-- A refusal's response data, or that of an entry that is agreed (PWR_STATE_SET). -/
def entryData (d b : Nat) : List Byte := leB 1 d ++ leB 1 b ++ leB 2 0

/-- The command that asked gets its answer. -/
def answerAsk (by' : AskBy) (v : Verdict) (s : State) : State :=
  match by' with
  | .auto => s
  | .now e => respond e 0x0F01 v s
  | .hibernate e => respond e 0x0F02 v s

/-- Source 160 at a refused entry (R470). -/
def refusedIrq (by' : AskBy) (s : State) : State :=
  match by' with
  | .auto =>
    if (s.pwr.lastRefusedIrq.map (fun t => decide (rawNs s < t + 1000000000))).getD false then s
    else fire 160 (updPwr (fun p => { p with lastRefusedIrq := some (rawNs s) }) s)
  | .now _ => s
  | .hibernate _ => fire 160 s

/-- An entry is refused (R470): LAST_ENTRY, the counters, source 160, the command's answer. -/
def refuseEntry (by' : AskBy) (ds : List Nat) (d b detail : Nat) (s : State) : State :=
  let s1 := ds.foldl (fun s d => updDom d (fun x => { x with idleSince := rawNs s, trans := if x.trans = .ask then .none else x.trans }) s) s
  let s2 := updPwr (fun p => { p with
    last := { p.last with detail, domain := d, block := b }
    autoRefused := p.autoRefused + (match by' with | .auto => 1 | _ => 0)
    hibRefused := p.hibRefused + (match by' with | .hibernate _ => 1 | _ => 0) }) s1
  answerAsk by' { refusedV detail with data := entryData d b } (refusedIrq by' s2)

/-- Sources that the Owl latches hold reach the distributor once HST does not sleep (R463). -/
def releaseLatches (s : State) : State :=
  if hstAsleep s || s.irq.latched.isEmpty then s
  else settle { s with irq := { s.irq with pend := s.irq.latched.foldl addTo s.irq.pend, latched := [] } }

/-- A round ends without its entry. -/
def dropRound (r : AskRound) (s : State) : State := updPwr (fun p => { p with rounds := p.rounds.filter (fun x => decide (x ≠ r)) }) s

/-- A round aborts (R467, R470). -/
def abortRound (r : AskRound) (d b detail : Nat) (s : State) : State :=
  releaseLatches (refuseEntry r.by' r.domains d b detail (dropRound r s))

/-- The state that a domain goes to in a round (R36). -/
def goesTo (r : AskRound) (d : Nat) : DomState := if d = 64 then r.ctr else r.target

/-- The round has its last ACK (R472, R474): the entry is handed over once the response is delivered. -/
def roundDone (r : AskRound) (s : State) : State :=
  let s1 := r.domains.foldl (fun s d => updDom d (fun x => { x with trans := .entry (goesTo r d) }) s) (dropRound r s)
  let s2 := answerAsk r.by' (okV (entryData 0 0)) s1
  match r.by' with
  | .auto => s2
  | .now e => if 65 ∈ r.domains then updPwr (fun p => { p with handover := some e }) s2 else s2
  | .hibernate e => updPwr (fun p => { p with handover := some e, block := .entering }) s2

/-- Start an ask round for the domains `ds`, which go to `t` (R467); CTR goes with the slice cores that let it (R36). -/
def startRound (by' : AskBy) (hib : Bool) (t : DomState) (ds : List Nat) (s : State) : State :=
  let ctr := if hib then none else centreFollows s ds t
  let all := if ctr.isSome then ds ++ [64] else ds
  let s1 := updPwr (fun p => { p with last := { p.last with seq := p.last.seq + 1 } }) s
  match controllerRefuses s t all with
  | some (d, detail) => refuseEntry by' all d 0 detail s1
  | none =>
    let ports := if hib then (List.range (nSlices s)).map (fun k => (k, 1)) else []
    let bs := (ports ++ (all.map (blocksOf hib t)).flatten).dedup
    let r : AskRound := { by', target := t, domains := all, ctr := ctr.getD t, waitingFor := bs, refuse := refusals s hib bs, start := rawNs s }
    all.foldl (fun s d => updDom d (fun x => { x with trans := .ask }) s) (updPwr (fun p => { p with rounds := p.rounds ++ [r] }) s1)

/-- The round in which a block of a domain is asked. -/
def roundOf (s : State) (d b : Nat) : Option AskRound := s.pwr.rounds.find? (fun r => decide ((d, b) ∈ r.waitingFor))

/-- A block answers ACK. -/
def takeAck (r : AskRound) (d b : Nat) (s : State) : State :=
  let r1 := { r with waitingFor := r.waitingFor.filter (fun x => decide (x ≠ (d, b))) }
  let s1 := updPwr (fun p => { p with rounds := p.rounds.map (fun x => if x = r then r1 else x) }) s
  if r1.waitingFor.isEmpty then roundDone r1 s1 else s1

/-- A block's ACK, unless it refuses or has work in flight. -/
def ackNow (d b : Nat) (s : State) : State :=
  match roundOf s d b with
  | none => s
  | some r => if r.refuse.any (fun x => decide (x.1 = d) && decide (x.2.1 = b)) || blockDelays s r d b then s else takeAck r d b s

/-- ASK_ANSWER (R467): an answer that the block does not give now changes nothing, and DELAY only waits. -/
def execAskAnswer (d b : Nat) (answer : Answer) (s : State) : Host.Outcome State Fault Refusal :=
  .next (match answer, roundOf s d b with
    | .ack, _ => ackNow d b s
    | .refused, some r =>
      (match r.refuse.find? (fun x => decide (x.1 = d) && decide (x.2.1 = b)) with
      | some x => abortRound r d b x.2.2 s
      | none => s)
    | _, _ => s)

/-- BADGER_DELAY_END (R469). -/
def execBadgerDelayEnd (d : Nat) (s : State) : Host.Outcome State Fault Refusal := .next (ackNow d 3 s)

/-- DRAIN_TIMEOUT (R469): a block of the domain, other than Badger, still delays at the drain limit. -/
def execDrainTimeout (d : Nat) (s : State) : Host.Outcome State Fault Refusal :=
  .next (match s.pwr.rounds.find? (fun r => decide (d ∈ r.domains) && decide (r.start + 1000 * (dom s d).drain ≤ rawNs s)) with
    | none => s
    | some r =>
      match r.waitingFor.find? (fun x => decide (x.1 = d) && decide (x.2 ≠ 3) && blockDelays s r x.1 x.2) with
      | none => s
      | some x => abortRound r d x.2 0x01 (updPwr (fun p => { p with drainTimeouts := p.drainTimeouts + 1 }) s))

/-- A domain is in an ask round, an entry or a wake, or the block is (R471). -/
def unsettled (s : State) (d : Nat) : Bool := (dom s d).trans ≠ .none || s.pwr.block ≠ .run

/-- The domains that PWR_STATE_SET names. -/
def namedCores (s : State) (d : Nat) : List Nat := if d = 0xFF then coreDomains s else [d]

/-- Ask at once for TARGET (R466). A domain that is as deep already has nothing to do; RUN wakes it. -/
def askNow (e : Env) (t : DomState) (ds : List Nat) (s : State) : State :=
  let todo := ds.filter (fun d => decide (depthOf (dom s d).st < depthOf t))
  if t = .run then respond e 0x0F01 (okV (entryData 0 0)) (ds.foldl (fun s d => askWake d s) s)
  else if todo.isEmpty then respond e 0x0F01 (okV (entryData 0 0)) s
  else startRound (.now e) false t todo s

/-- The checks of PWR_STATE_SET (R464, R466). -/
def pwrStateSetChk (e : Env) (s : State) : Chk :=
  let p := e.payload
  let d := byteAt p 0
  let t := byteAt p 1
  let now := byteAt p 2 % 2 = 1
  let ds := namedCores s d
  { present := !(32 ≤ d && d < 64) || d - 32 < nSlices s
    fields := [(0, (32 ≤ d && d < 64) || d = 65 || d = 66 || d = 0xFF), (1, t < 3 && (t ≠ 1 || (d ≠ 65 && d ≠ 66))), below p 2 1 2, zeroAt p 3 1,
      (4, fld p 4 4 = 0 || (100 ≤ fld p 4 4 && fld p 4 4 ≤ 1000000)), (8, fld p 8 4 = 0 || (10 ≤ fld p 8 4 && fld p 8 4 ≤ 10000000))]
    busy := if now && ds.any (unsettled s) then some 3 else none }

/-- PWR_STATE_SET (R464, R466). -/
def execPwrStateSet (e : Env) (s : State) : Host.Outcome State Fault Refusal :=
  let p := e.payload
  let d := byteAt p 0
  let t := byteAt p 1
  let now := byteAt p 2 % 2 = 1
  let ds := namedCores s d
  .next (runCmd 0x0F01 (lenIs 12) (pwrStateSetChk e s) e
    (fun s =>
      let s1 := ds.foldl (fun s d => updDom d (fun x => { x with target := t, napIdle := fld p 4 4, dozeIdle := fld p 8 4 }) s) s
      if now then askNow e (targetState t) ds s1 else respond e 0x0F01 (okV []) s1) s)

/-- An ask round that Hibernate takes over: DOZE of slice cores (R471). -/
def takenOver (r : AskRound) : Bool := r.target = .doze && r.domains.all (fun d => decide (d < 65))

/-- The checks of HIBERNATE (R466, R471, R474). -/
def hibernateChk (_ : Env) (s : State) : Chk :=
  let old := s.pwr.rounds.filter takenOver
  let free := fun d => (dom s d).trans = .none || old.any (fun r => decide (d ∈ r.domains))
  { busy := if s.pwr.block ≠ .run || !(sleepers s).all free then some 3 else none }

/-- HIBERNATE (R466, R471, R474). -/
def execHibernate (e : Env) (s : State) : Host.Outcome State Fault Refusal :=
  let old := s.pwr.rounds.filter takenOver
  .next (runCmd 0x0F02 (lenIs 0) (hibernateChk e s) e
    (fun s =>
      let s1 := old.foldl (fun s r => answerAsk r.by' (busyV 3)
        (r.domains.foldl (fun s d => updDom d (fun x => { x with trans := .none }) s) (dropRound r s))) s
      startRound (.hibernate e) true .doze ((sleepers s).filter (fun d => decide ((dom s d).st ≠ .doze))) s1) s)

/-- WAKE_SRC_SET (R476). -/
def execWakeSrcSet (e : Env) (s : State) : Host.Outcome State Fault Refusal :=
  .next (runOk 0x0F03 (lenIs 24) {} e (fun _ => [])
    (updPwr (fun p => { p with wakeEn := BitVec.ofNat 192 (fld e.payload 0 24) })) s)

/-- BLOCK_STATE as R484 numbers it. -/
def blockCode : BlockState → Nat
  | .run => 0
  | .entering => 1
  | .hibernate => 2
  | .exiting => 3

/-- LAST_ENTRY as a word (R484). -/
def lastEntryWord (s : State) : Nat :=
  let l := s.pwr.last
  l.detail % 256 + 2 ^ 8 * (l.domain % 128) + 2 ^ 16 * (l.block % 16) + 2 ^ 24 * l.seq.toNat

/-- WAKE_FAIL, 67 bits (R484). -/
def wakeFailBits (s : State) : Nat := sumOf (fun d => if (dom s d).wakeFail then 2 ^ d else 0) (sleepers s)

/-- The checks of PWR_STATUS (R470). -/
def pwrStatusChk (e : Env) (_ : State) : Chk :=
  { fields := [below e.payload 0 1 2, zeroAt e.payload 1 3] }

/-- PWR_STATUS (R470). -/
def execPwrStatus (e : Env) (s : State) : Host.Outcome State Fault Refusal :=
  let c := fun (s : State) => [s.pwr.hibEntries, s.pwr.hibRefused, s.pwr.autoRefused, s.pwr.dozeEntries, s.pwr.drainTimeouts, s.pwr.wakeRetries,
    s.pwr.wakeFails, s.pwr.brownOuts]
  .next (runOk 0x0F04 (lenIs 4) (pwrStatusChk e s) e
    (fun s => leB 1 (blockCode s.pwr.block) ++ leB 3 0 ++ leB 12 (wakeFailBits s) ++ leB 4 (lastEntryWord s) ++ ((c s).map (leB 8)).flatten)
    (fun s => if byteAt e.payload 0 % 2 = 1 then updPwr (fun p => { p with
      hibEntries := 0, hibRefused := 0, autoRefused := 0, dozeEntries := 0, drainTimeouts := 0, wakeRetries := 0, wakeFails := 0, brownOuts := 0 }) s else s) s)

/-- The checks of DRAIN_LIMIT_SET (R469). -/
def drainLimitSetChk (e : Env) (s : State) : Chk :=
  let p := e.payload
  let d := byteAt p 0
  { present := !(32 ≤ d && d < 64) || d - 32 < nSlices s
    fields := [(0, (32 ≤ d && d ≤ 66) || d = 0xFF), zeroAt p 1 3, within p 4 4 1 10000] }

/-- DRAIN_LIMIT_SET (R469). -/
def execDrainLimitSet (e : Env) (s : State) : Host.Outcome State Fault Refusal :=
  let p := e.payload
  let d := byteAt p 0
  .next (runOk 0x0F05 (lenIs 8) (drainLimitSetChk e s) e (fun _ => [])
    (fun s => (if d = 0xFF then sleepers s else [d]).foldl (fun s d => updDom d (fun x => { x with drain := fld p 4 4 }) s) s) s)

/-- A domain is idle (R465). -/
def domainIdle (s : State) (d : Nat) : Bool :=
  if d = 65 then
    !s.mb.busy && !s.otd.busy && s.adm.journal.all (fun j => j.done) && ((sqOf s 0).map (fun x => decide (outstandingOf x = 0))).getD true
      && !s.quad.sets.any (fun q => decide (q.st = .voting) || decide (q.st = .armed) || decide (q.st = .normalising))
      && s.irq.evPend.isEmpty && s.irq.evStack.isEmpty && !s.sez.enabled
  else if d = 66 then
    !s.hq.sq.any (fun x => decide (x.2.st = .enabled) && decide (outstandingOf x.2 ≠ 0)) && !dmaTransfers s && !sourceOpen s
  else
    let sl := d - 32
    !coreHoldsFrame s sl && (slice s sl).den.isEmpty
      && (slicePorts s sl).all (fun p => !portSends s p && (List.range 16).all (fun q => (queueOf s (qid p q)).isEmpty))

/-- At a tick the idle time of every domain with a policy that is not idle restarts (R465; a busy spell between two ticks is not seen, log 122). -/
def noteIdle (s : State) : State :=
  ((sleepers s).filter (fun d => decide ((dom s d).target ≠ 0) && !domainIdle s d)).foldl (fun s d => updDom d (fun x => { x with idleSince := rawNs s }) s) s

/-- OWL_TICK (R147, R465): the operand names the slices whose receiver differs by more than 0.1 ns. -/
def execOwlTick (skewed : List Nat) (s : State) : Host.Outcome State Fault Refusal := .next (noteIdle (tickTime skewed s))

/-- The state that a domain's policy lets it ask for after its idle time (R464). -/
def policyAsks (s : State) (d : Nat) : Option DomState :=
  let x := dom s d
  let idle := rawNs s - x.idleSince
  if x.target = 2 && x.st ≠ .doze && x.dozeIdle ≠ 0 && x.dozeIdle * 1000 ≤ idle then some .doze
  else if 1 ≤ x.target && x.st = .run && 32 ≤ d && d < 64 && x.napIdle ≠ 0 && x.napIdle ≤ idle then some .nap
  else none

/-- AUTO_SLEEP_ASK (R464 to R466, R471, R478). CTR, which has no policy, asks for the state in which the slice cores let it be (R36, R464). -/
def execAutoSleepAsk (d : Nat) (s : State) : Host.Outcome State Fault Refusal :=
  .next (if d = 64 then
      (match centreFollows s [] .run with
      | some t => if unsettled s 64 || decide (64 ∈ s.pwr.wakePend) then s else startRound .auto false t [64] s
      | none => s)
    else if !(d ∈ sleepers s) || unsettled s d || d ∈ s.pwr.wakePend || !domainIdle s d then s
    else match policyAsks s d with
      | none => s
      | some t => startRound .auto false t [d] s)

/-- It is the domain's turn to enter (R36, R474): CTR after every slice core; in Hibernate also HST after CTR, and CTL last. -/
def entersNext (s : State) (d : Nat) (t : DomState) : Bool :=
  let coresIn := (coreDomains s).all (fun c => decide (depthOf t ≤ coreDepth s c))
  let hib := s.pwr.block = .entering
  match d with
  | 64 => coresIn
  | 66 => !hib || (coresIn && (dom s 64).st = .doze)
  | 65 => !hib || (coresIn && (dom s 64).st = .doze && (dom s 66).st = .doze)
  | _ => true

/-- The last domain of a Hibernate entry has gone to DOZE (R474): PLLs off, VCORE_MODE 0, the LDO in low-power mode. -/
def settleEntry (s : State) : State :=
  if s.pwr.block = .entering && (sleepers s).all (fun d => decide ((dom s d).st = .doze)) then
    updPwr (fun p => { p with
      block := .hibernate, vcoreMode := false, regReady := false, regRetried := false, ldoLow := true, hibEntries := p.hibEntries + 1
      blockWake := p.blockWake || !p.wakePend.isEmpty }) s
  else s

/-- SLEEP_ENTRY (R472, R474, R477): the domain stops, and counts as in its state. -/
def execSleepEntry (d : Nat) (s : State) : Host.Outcome State Fault Refusal :=
  .next (match (dom s d).trans with
    | .entry t =>
      let told := (s.pwr.handover.map (delivered s)).getD true
      if !told || !entersNext s d t then s
      else
        let s0 := updPwr (fun p => { p with handover := none, last := { p.last with detail := 0 } }) s
        settleEntry (match t with
          | .doze => updPwr (fun p => { p with dozeEntries := p.dozeEntries + 1 })
              (updDom d (fun x => { x with st := .doze, trans := .none, pswEn := false, lateLogged := false }) s0)
          | t => updDom d (fun x => { x with st := t, trans := .none }) s0)
    | _ => s)

/-- PSW_LATE (R472): the switch of a sleeping domain did not show open within 5 µs. -/
def execPswLate (d : Nat) (s : State) : Host.Outcome State Fault Refusal :=
  let x := dom s d
  .next (if x.st = .doze && !x.pswEn && x.trans = .none && !x.lateLogged then
      owlLog 0x05 d 0 (updPwr (fun p => { p with pswLate := p.pswLate + 1 }) (updDom d (fun x => { x with lateLogged := true }) s))
    else s)

/-- A domain is in RUN again (R473, R481): what waited for it goes on. -/
def domUp (d : Nat) (s : State) : State :=
  let s1 := updDom d (fun x => { x with
    st := .run, trans := .none, pswEn := true, wakeFail := false, cause := 0, retried := false, again := false, idleSince := rawNs s }) s
  let s2 := updPwr (fun p => { p with wakePend := dropFrom p.wakePend d }) s1
  if d = 66 then oPump (releaseLatches s2)
  else if d < 64 && denFill s2 (d - 32) < 524288 then updSlice (d - 32) (fun x => { x with denLf := false }) s2
  else s2

/-- Mark a domain WAKE_FAIL (R480): it stays asleep. A slice core's admin-up ports request LF. -/
def markFail (d cause : Nat) (s : State) : State :=
  let s1 := updDom d (fun x => { x with trans := .none, pswEn := x.pswEn && decide (x.st ≠ .doze), wakeFail := true, cause, retried := false, again := false }) s
  let s2 := updPwr (fun p => { p with wakePend := dropFrom p.wakePend d, wakeFails := p.wakeFails + 1 }) s1
  fire 2 (owlLog 0x01 d cause (if 32 ≤ d && d < 64 then updSlice (d - 32) (fun x => { x with denLf := true }) s2 else s2))

/-- The slice cores that wait on CTR. -/
def waitOnCentre (s : State) : List Nat := (coreDomains s).filter (fun d => decide (d ∈ s.pwr.wakePend) || (dom s d).trans = .wakePsw || (dom s d).trans = .wakePll)

/-- A wake fails (R480); with CTR every slice core that waits on it. -/
def wakeFails (d cause : Nat) (s : State) : State :=
  if d = 64 then (waitOnCentre s).foldl (fun s c => markFail c 5 s) (markFail 64 cause s) else markFail d cause s

/-- A warm reset releases every block from an ask round (R499), and resets the block. -/
def warmEntry (s : State) : State :=
  let s1 := s.pwr.rounds.foldl (fun s r => r.domains.foldl (fun s d => updDom d (fun x => { x with trans := if x.trans = .ask then .none else x.trans }) s) s) s
  warmReset (releaseLatches (updPwr (fun p => { p with rounds := [], handover := none }) s1))

/-- The Hibernate exit is over once no domain is waking (R475): BLOCK_STATE RUN and WAKE_DONE; the snapshot slots return to reset (R20, R157), and a
warm reset that fell in Hibernate takes effect (R64). -/
def settleExit (s : State) : State :=
  if s.pwr.block = .exiting && s.pwr.regReady && !(sleepers s).any (fun d => (dom s d).trans = .wakePsw || (dom s d).trans = .wakePll) then
    let s1 := fire 161 (updPwr (fun p => { p with block := .run }) { s with time := { s.time with snaps := [] } })
    if s.boot.warmWaits then warmEntry s1 else s1
  else s

/-- Close the switch of a domain (R473). -/
def closeSwitch (d : Nat) (s : State) : State :=
  updPwr (fun p => { p with wakePend := dropFrom p.wakePend d }) (updDom d (fun x => { x with trans := .wakePsw, pswEn := true, retried := false }) s)

/-- Whether a wake of the domain may run: not in WAKE_FAIL, unless RETRY_FAILED asked for it (R481). -/
def mayWake (s : State) (d : Nat) : Bool := !(dom s d).wakeFail || (dom s d).again

/-- CTR is in an ask round or an entry. -/
def centreGoing (s : State) : Bool :=
  match (dom s 64).trans with
  | .ask | .entry _ => true
  | .none | .wakePsw | .wakePll => false

/-- Start the exit from DOZE. A domain whose retained state was lost fails at once (R31, R481). -/
def leaveDoze (d : Nat) (s : State) : State := if (dom s d).stateLost then wakeFails d 4 s else closeSwitch d s


/-- A domain leaves NAP or DOZE (R36, R473): a slice core brings CTR to RUN first, and waits while CTR is in an ask round or an entry (R477). -/
def leaveSleep (d : Nat) (s : State) : State :=
  if decide (32 ≤ d) && decide (d < 64) && centreGoing s then s
  else if 32 ≤ d && d < 64 && (dom s 64).st ≠ .run then
    (if (dom s 64).st = .nap then (if (dom s d).st = .nap then domUp d (domUp 64 s) else leaveDoze d (domUp 64 s))
    else if (dom s 64).trans ≠ .none then s
    else if mayWake s 64 then leaveDoze 64 s
    else markFail d 5 s)
  else if (dom s d).st = .nap then domUp d s
  else leaveDoze d s

/-- A retry of a wake's step has succeeded (R479). -/
def retryWorked (d step : Nat) (s : State) : State :=
  fire 162 (owlLog 0x02 d step (updPwr (fun p => { p with wakeRetries := p.wakeRetries + 1 }) s))

/-- The regulator can supply full load (R475): CTR, and each domain with a wake cause, closes its switch while the PLLs lock. -/
def exitPowered (s : State) : State :=
  let s1 := updPwr (fun p => { p with regRetried := false }) (if s.pwr.regRetried then retryWorked 0x7F 3 s else s)
  let ds := (if (dom s 64).st = .doze then [64] else []) ++ s.pwr.wakePend
  settleExit ((ds.filter (fun d => (dom s d).st = .doze && mayWake s d)).foldl (fun s d => if (dom s d).trans = .none then leaveDoze d s else s) s1)

/-- The block leaves Hibernate (R475): the LDO in full mode and VCORE_MODE 1; it waits for REG_READY. -/
def leaveHibernate (s : State) : State :=
  let s1 := updPwr (fun p => { p with block := .exiting, ldoLow := false, vcoreMode := true, regRetried := false, blockWake := false }) s
  if s.pwr.regReady then exitPowered s1 else s1

/-- WAKE (R473, R475, R477): a wake cause is served once no round, entry or wake of the domain runs. -/
def execWake (d : Nat) (s : State) : Host.Outcome State Fault Refusal :=
  .next (if !(decide (d ∈ s.pwr.wakePend) || s.pwr.blockWake) then s
    else match s.pwr.block with
      | .hibernate => leaveHibernate s
      | .run =>
        if !(d ∈ s.pwr.wakePend) || (dom s d).trans ≠ .none || s.pwr.rounds.any (fun r => decide (d ∈ r.domains)) then s
        else if (dom s d).st = .run || (dom s d).st = .off then updPwr (fun p => { p with wakePend := dropFrom p.wakePend d, blockWake := false }) s
        else if !mayWake s d then updPwr (fun p => { p with wakePend := dropFrom p.wakePend d }) s
        else leaveSleep d s
      | _ => s)

/-- REG_READY rises (R67, R475). -/
def execRegReady (s : State) : Host.Outcome State Fault Refusal :=
  let s1 := updPwr (fun p => { p with regReady := true }) s
  .next (if s.pwr.block = .exiting && !s.pwr.regReady then exitPowered s1 else s1)

/-- PSW_ACK (R67, R473): the switch shows closed. A port front is On; another domain's retained state is restored, and from Hibernate it waits for its PLL.
With the retained state lost the wake has failed (R31). -/
def execPswAck (d : Nat) (s : State) : Host.Outcome State Fault Refusal :=
  .next (if (dom s d).trans ≠ .wakePsw then s
    else if d < 32 then updDom d (fun x => { x with st := .run, trans := .none }) s
    else if (dom s d).stateLost then settleExit (wakeFails d 4 s)
    else
      let s1 := if (dom s d).retried then retryWorked d 1 s else s
      if s.pwr.block = .exiting then updDom d (fun x => { x with trans := .wakePll, retried := false }) s1 else domUp d s1)

/-- The PLL pair that clocks a domain (R32): slice pair, centre 16, control 17; HST is clocked from the host side. -/
def pairOf (d : Nat) : Option Nat := if d = 64 then some 16 else if d = 65 then some 17 else if 32 ≤ d && d < 64 then some ((d - 32) / 2) else none

/-- The domains that a pair clocks. -/
def pairDomains (s : State) (k : Nat) : List Nat := (sleepers s).filter (fun d => decide (pairOf d = some k))

/-- The PLL that a pair's domains run from holds lock, or the domain has no PLL. -/
def pllGood (s : State) (d : Nat) : Bool :=
  match pairOf d with
  | none => true
  | some k => let p := s.pwr.pll.getD k {}
    if p.onB then p.bOk else p.aOk

/-- PLL_LOCK (R475): the domains whose switches are closed run, CTR before the slice cores. -/
def execPllLock (s : State) : Host.Outcome State Fault Refusal :=
  let ready := fun (s : State) d => (dom s d).trans = .wakePll && pllGood s d
  let up := fun s d => domUp d (if (dom s d).retried then retryWorked d 2 s else s)
  let s1 := if ready s 64 then up s 64 else s
  .next (settleExit (((sleepers s).filter (fun d => ready s1 d && (decide (64 ≤ d) || (dom s1 64).st = .run))).foldl up s1))

/-- A PLL of a pair has lost lock (R33): its clocks go to the partner, and the pair's domains show PARTNER_PLL. -/
def pllLost (k : Nat) (onB : Bool) (s : State) : State :=
  let p := s.pwr.pll.getD k {}
  let p1 := if onB then { p with bOk := false } else { p with aOk := false }
  let good := if onB then p1.aOk else p1.bOk
  let s1 := updPwr (fun w => { w with pll := w.pll.set k (if p.onB = onB && good then { p1 with onB := !onB } else p1) }) s
  if p.onB = onB && good then
    (pairDomains s k).foldl (fun s d => updDom d (fun x => { x with partner := true }) s) (updPwr (fun w => { w with pllSwitch := w.pllSwitch.set k (rawNs s) }) s1)
  else s1

/-- PLL_FAULT (R33, R495): switch to the partner; with both failed the pair's domains are marked WAKE_FAIL. -/
def execPllFault (pair : Nat) (pll : Bool) (s : State) : Host.Outcome State Fault Refusal :=
  let p := s.pwr.pll.getD pair {}
  .next (if s.pwr.block = .hibernate || (pairDomains s pair).isEmpty || !(if pll then p.bOk else p.aOk) then s
    else
      let s1 := fire 1 (logFault 0x07 0 0xFFFF (pllLost pair pll s))
      if pllGood s1 ((pairDomains s pair).headD 66) then s1 else (pairDomains s pair).foldl (fun s d => if (dom s d).wakeFail then s else wakeFails d 2 s) s1)

/-- The PLL of a waking domain does not lock (R479, R480). -/
def pllTimeout (d : Nat) (retry : Bool) (s : State) : State :=
  match pairOf d with
  | none => s
  | some k =>
    if (dom s d).trans ≠ .wakePll || (dom s d).retried ≠ retry then s
    else
      let s1 := fire 1 (logFault 0x07 0 0xFFFF (pllLost k (s.pwr.pll.getD k {}).onB s))
      let ds := (pairDomains s k).filter (fun d => (dom s d).trans = .wakePll)
      if !retry && pllGood s1 d then ds.foldl (fun s d => updDom d (fun x => { x with retried := true }) s) s1
      else settleExit (ds.foldl (fun s d => wakeFails d 2 s) s1)

/-- REG_READY fails to rise (R480): the block stays in Hibernate and every domain with a wake cause is marked WAKE_FAIL. -/
def regFails (s : State) : State :=
  let s1 := updPwr (fun p => { p with block := .hibernate, vcoreMode := false, ldoLow := true, regRetried := false }) s
  s.pwr.wakePend.foldl (fun s d => markFail d 3 s) s1

/-- WAKE_TIMEOUT (R479, R480). -/
def execWakeTimeout (d : Nat) (st : WakeStep) (s : State) : Host.Outcome State Fault Refusal :=
  .next (match st with
    | .pswAck retry =>
      if d < 32 || (dom s d).trans ≠ .wakePsw || (dom s d).retried ≠ retry then s
      else if retry then settleExit (wakeFails d 1 s)
      else updDom d (fun x => { x with retried := true }) s
    | .regReady retry =>
      if s.pwr.block ≠ .exiting || s.pwr.regReady || s.pwr.regRetried ≠ retry then s
      else if retry then regFails s
      else updPwr (fun p => { p with regRetried := true }) s
    | .pllLock retry => pllTimeout d retry s)

/-- The domains whose retained state VRET holds: those in DOZE whose switch has not shown closed again (R31, R473). -/
def retained (s : State) : List Nat := (sleepers s).filter (fun d => decide ((dom s d).st = .doze) && decide ((dom s d).trans ≠ .wakePll))

/-- The domains that have their last ACK and are still to enter DOZE. -/
def enteringDoze (s : State) : List Nat := (sleepers s).filter (fun d => decide ((dom s d).trans = .entry .doze))

/-- Entries to DOZE that have their last ACK end without effect while VRET_GOOD is 0 (R68, R470; log 116): the block is released, and LAST_ENTRY records
DETAIL 0x04. -/
def cutEntries (s : State) : State :=
  let ds := enteringDoze s
  let hib := s.pwr.block = .entering
  let s1 := ds.foldl (fun s d => updDom d (fun x => { x with trans := .none, idleSince := rawNs s }) s) s
  let s2 := updPwr (fun p => { p with
    last := { p.last with detail := 4, domain := ds.headD 66, block := 0 }, handover := none, block := if hib then .run else p.block
    hibRefused := p.hibRefused + (if hib then 1 else 0) }) s1
  if ds.isEmpty then s else releaseLatches (if hib then fire 160 s2 else s2)

/-- VRET_LOST (R31, R68): the retained state of the domains that sleep is lost, and every DOZE and Hibernate entry on its way is refused. -/
def execVretLost (s : State) : Host.Outcome State Fault Refusal :=
  .next (if !s.pwr.vretGood then s
    else
      let s1 := (retained s).foldl (fun s d => owlLog 0x04 d 0 (updDom d (fun x => { x with stateLost := true, cause := if x.wakeFail then 4 else x.cause }) s))
        (updPwr (fun p => { p with vretGood := false }) s)
      let s2 := (s.pwr.rounds.filter (fun r => decide (r.target = .doze))).foldl (fun s r => abortRound r (r.domains.headD 66) 0 4 s) s1
      cutEntries s2)

/-- VRET_GOOD_RESTORED (R68). -/
def execVretGoodRestored (s : State) : Host.Outcome State Fault Refusal := .next (updPwr (fun p => { p with vretGood := true }) s)

/-- Wake the block with a domain as one that has a wake cause. -/
def causeWake (d : Nat) (s : State) : State :=
  if (dom s d).st = .run && s.pwr.block = .run then s
  else updPwr (fun p => { p with wakePend := addTo p.wakePend d, blockWake := p.blockWake || decide (p.block = .hibernate) }) s

/-- BROWN_OUT (R482, R483): the detector watches in low-power mode. The LDO goes to full mode, the block wakes with HST. -/
def execBrownOut (s : State) : Host.Outcome State Fault Refusal :=
  .next (if !s.pwr.ldoLow || s.pwr.boTrip.isSome then s
    else
      let s1 := updPwr (fun p => { p with
        ldoLow := false, boPending := true, boCount := min 0xFFFF (p.boCount + 1), brownOuts := p.brownOuts + 1
        boTrip := some (rawNs s), lastBoNs := unsignedN 64 (timeNs s) }) s
      let s2 := owlLog 0x03 0x7F 0 { s1 with time := { s1.time with uncertain := true } }
      fire 3 (causeWake 66 s2))

/-- BROWN_OUT_END (R482, R398): the duration goes to both logs. -/
def execBrownOutEnd (s : State) : Host.Outcome State Fault Refusal :=
  .next (match s.pwr.boTrip with
    | none => s
    | some t =>
      let us := min 0xFFFFFFFF ((rawNs s - t) / 1000)
      otdLog 0x11 4 us (updPwr (fun p => { p with boTrip := none, lastBoUs := us }) s))

/-- WAKE_REQ (R484): wakes the block from Hibernate with HST and CTL as domains with a wake cause. -/
def execWakeReq (s : State) : Host.Outcome State Fault Refusal :=
  .next (hptOk 0 (if s.pwr.block = .hibernate || s.pwr.block = .entering then causeWake 65 (causeWake 66 s) else s))

/-- RETRY_FAILED (R481): the wake of every domain in WAKE_FAIL runs again, but for lost state. -/
def execRetryFailed (s : State) : Host.Outcome State Fault Refusal :=
  .next (hptOk 0 (((sleepers s).filter (fun d => (dom s d).wakeFail && !(dom s d).stateLost)).foldl
    (fun s d => updDom d (fun x => { x with again := true }) (updPwr (fun p => { p with wakePend := addTo p.wakePend d, blockWake := p.blockWake || decide (p.block = .hibernate) }) s)) s))

/-- BO_ACK (R484). -/
def execBoAck (s : State) : Host.Outcome State Fault Refusal := .next (hptOk 0 (updPwr (fun p => { p with boPending := false }) s))

/-- OWL_LATCH_EDGE (R463): the first edge of a source while HST sleeps is latched, and wakes HST when its wake enable is 1. -/
def execOwlLatchEdge (i : Nat) (s : State) : Host.Outcome State Fault Refusal := .next (if i < 192 && hstAsleep s then fire i s else s)

/-- WARM_RESET (R64, R65, R499): a cold or power-on reset, which lasts until the boot after it, absorbs it (DEDUCED, log 114); BLK_READY falls at once; in
Hibernate the wake runs first, of every domain. -/
def execWarmReset (s : State) : Host.Outcome State Fault Refusal :=
  .next (if s.boot.owed = 1 then s
    else if s.pwr.block = .run then warmEntry s
    else (sleepers s).foldl (fun s d => causeWake d s) { s with boot := { s.boot with ready := false, warmWaits := true } })

end Sys2Proof.Machine
end

