-- ==== Sys2Proof/Machine/Badger.lean ====
section
/-! DEFINITION. Badger's tests, faults, isolation and restoration, the TEST and DIAG classes (R485 to R503). -/

namespace Sys2Proof.Machine

/-- The unit exists in the configuration (R485). -/
def unitHere (s : State) (u : Nat) : Bool :=
  if u < 128 then decide (u < 4 * nSlices s)
  else if u < 384 then decide ((u - 128) / 8 < nSlices s)
  else if u < 640 then decide ((u - 384) / 64 < nClusters s) && decide ((u - 384) % 64 < clusterBanks s)
  else if u < 768 then decide (u - 640 < nEngines s)
  else if u < 800 then decide (u - 768 < nSlices s)
  else decide (u < 832) && decide (u - 800 < nSlices s)

/-- The units of the configuration. -/
def unitsHere (s : State) : List Nat := (List.range 832).filter (unitHere s)

/-- What Badger keeps of a unit. -/
def unitRt (s : State) (u : Nat) : UnitRt := s.badger.units.getD u {}

/-- When a unit's last complete test was, or its age began (R487). -/
def unitLast (s : State) (u : Nat) : Nat := max (unitRt s u).last s.badger.epoch

/-- The unit that Badger tests next: present, unisolated, the oldest test (R487). -/
def nextUnit (s : State) : Option Nat := leastBy (unitLast s) ((unitsHere s).filter (fun u => !(unitRt s u).isolated))

/-- The domains that a unit's test works in run (R23, R485): banks and clusters in CTR, flow-store banks and engines in the slice core, the crossbar ports
between the two, the time receivers in OWL and the port front. -/
def unitRuns (s : State) (u : Nat) : Bool :=
  if u < 128 then centreRuns s
  else if u < 384 then coreRuns s ((u - 128) / 8)
  else if u < 640 then centreRuns s
  else if u < 768 then coreRuns s ((u - 640) / 4)
  else if u < 800 then centreRuns s && coreRuns s (u - 768)
  else true

/-- The Badger sequencer runs, in CTL (R23), and the unit under test does. -/
def badgerRuns (s : State) (u : Nat) : Bool := decide ((dom s 65).st = .run) && unitRuns s u

/-- Badger may test the unit now: it is next in turn, overdue (R488), or in a window (R489). -/
def mayTest (s : State) (u : Nat) : Bool :=
  s.badger.enabled && badgerRuns s u && unitHere s u && !(unitRt s u).isolated && (nextUnit s = some u || unitOverdue s u || windowOpen s u)

/-- CYCLE_DONE (R487): every present unit in service has completed once since the last raise. -/
def cycleDone (s : State) : State :=
  if (unitsHere s).all (fun u => (unitRt s u).cycled || (unitRt s u).isolated) then
    fire 179 { s with badger := { s.badger with cycles := s.badger.cycles + 1, units := s.badger.units.mapV (fun _ x => { x with cycled := false }) } }
  else s

/-- A test of a unit is complete (R487, R503); what it corrected in an engine's bundle memory counts there too (R240). -/
def testDone (u result corrected : Nat) (s : State) : State :=
  let s1 := updUnit u (fun x => { x with
    running := false, result, last := rawNs s, lastNs := timeNs s, overdue := false, cycled := true, tests := x.tests + 1, corrected := x.corrected + corrected
    fails := x.fails + (if result = 2 then 1 else 0) }) s
  let s2 := addCtr ⟨.err, u, 0, 0⟩ corrected (if result = 2 then bump ⟨.err, u, 0, 1⟩ s1 else s1)
  cycleDone (if 640 ≤ u && u < 768 then addCtr (engCtr (u - 640) 8) corrected s2 else s2)

/-- The fault that a failed test of a unit is, and what Untos does about it (R494, R495). -/
def testFault (u : Nat) (s : State) : State :=
  let s0 := fire 176 s
  if u < 128 then bankFault u s0
  else if u < 384 then isolateUnit u (logFault 2 5 u s0)
  else if u < 640 then isolateUnit u (logFault 3 5 u s0)
  else if u < 768 then engineFault (u - 640) .signature s0
  else if u < 800 then logFault 6 1 u s0
  else logFault 8 0 u { s0 with time := { s0.time with skewed := addTo s0.time.skewed (u - 800) } }

/-- BADGER_SLOT: one test access of a unit (R486 to R488, R495). -/
def execBadgerSlot (u : Nat) (outcome : TestOutcome) (s : State) : Host.Outcome State Fault Refusal :=
  .next (if !mayTest s u then s
    else match outcome with
      | .more => updUnit u (fun x => { x with running := true }) s
      | .done c => testDone u (if c = 0 then 0 else 1) c s
      | .fail => testFault u (testDone u 2 0 s))

/-- BADGER_OVERDUE (R487): source 177, once each time. -/
def execBadgerOverdue (u : Nat) (s : State) : Host.Outcome State Fault Refusal :=
  .next (if s.badger.enabled && unitHere s u && !(unitRt s u).isolated && unitOverdue s u && !(unitRt s u).overdue then fire 177 (updUnit u (fun x => { x with overdue := true }) s)
    else s)

/-- BADGER_WINDOW_END (R489): its duration has passed, or every named unit has completed. -/
def execBadgerWindowEnd (s : State) : Host.Outcome State Fault Refusal :=
  .next (match s.badger.window with
    | none => s
    | some w =>
      let all := ((List.range w.count).map (fun i => w.first + i)).all (fun u => !unitHere s u || (unitRt s u).isolated || decide (w.opened < (unitRt s u).last))
      if all || decide (w.until' ≤ rawNs s) then { s with badger := { s.badger with window := none } } else s)

/-! The TEST class. -/

/-- The unit of a payload. -/
def eUnit (e : Env) : Nat := fld e.payload 0 2

/-- The checks of BADGER_CFG (R487, R488, R498). -/
def badgerCfgChk (e : Env) (_ : State) : Chk :=
  let p := e.payload
  { fields := [below p 0 1 4, within p 1 1 8 16, within p 2 1 1 255, zeroAt p 3 1] }

/-- BADGER_CFG (R487, R488, R498). -/
def execBadgerCfg (e : Env) (s : State) : Host.Outcome State Fault Refusal :=
  let p := e.payload
  .next (runOk 0x1001 (lenIs 4) (badgerCfgChk e s) e (fun _ => [])
    (fun s => { s with badger := { s.badger with enabled := bitN (byteAt p 0) 0, isoDiscard := bitN (byteAt p 0) 1, forceLog2 := byteAt p 1, resetLimit := byteAt p 2 } }) s)

/-- The checks of BADGER_WINDOW (R489). -/
def badgerWindowChk (e : Env) (s : State) : Chk :=
  let p := e.payload
  let first := fld p 0 2
  let count := fld p 2 2
  { present := 832 < first + count || ((List.range count).map (fun i => first + i)).any (unitHere s)
    fields := [(0, first + count ≤ 832), within p 2 2 1 832, within p 4 4 1 10000], busy := if s.badger.window.isSome then some 3 else none }

/-- BADGER_WINDOW (R489). -/
def execBadgerWindow (e : Env) (s : State) : Host.Outcome State Fault Refusal :=
  let p := e.payload
  let first := fld p 0 2
  let count := fld p 2 2
  .next (runOk 0x1002 (lenIs 8) (badgerWindowChk e s) e (fun _ => [])
    (fun s => { s with badger := { s.badger with window := some ⟨first, count, rawNs s, rawNs s + 1000000 * fld p 4 4⟩ } }) s)

/-- The checks of BADGER_RUN (R489, R496). -/
def badgerRunChk (e : Env) (s : State) : Chk :=
  let p := e.payload
  let u := eUnit e
  { present := 800 ≤ u || unitHere s u, fields := [(0, u < 800), zeroAt p 2 2] }

/-- BADGER_RUN (R489, R496): the test's outcome and its µs are the event's; a test that has not ended in 1 s times out. -/
def execBadgerRun (e : Env) (outcome : TestOutcome) (us : Nat) (s : State) : Host.Outcome State Fault Refusal :=
  let u := eUnit e
  let data := fun r c => leB 1 r ++ leB 3 0 ++ leB 4 c ++ leB 4 us
  .next (runCmd 0x1003 (lenIs 4) (badgerRunChk e s) e
    (fun s => if 1000000 < us then respond e 0x1003 (timeoutV 0) s
      else match outcome with
        | .more => respond e 0x1003 (timeoutV 0) (updUnit u (fun x => { x with running := !x.isolated }) s)
        | .done c => respond e 0x1003 (okV (data (if c = 0 then 0 else 1) c)) (testDone u (if c = 0 then 0 else 1) c s)
        | .fail => respond e 0x1003 (faultV 0) (if (unitRt s u).isolated then testDone u 2 0 s else testFault u (testDone u 2 0 s))) s)

/-- A unit's word of R503. -/
def unitWord (s : State) (u : Nat) : Nat :=
  let x := unitRt s u
  if !unitHere s u then 0
  else 1 + 2 * b2n x.running + 4 * x.result + 16 * b2n x.isolated + 32 * b2n (unitOverdue s u) + 65536 * min 0xFFFF ((rawNs s - unitLast s u) / 3600000000000)

/-- The checks that name one unit. -/
def unitChk (e : Env) (s : State) : Chk := { present := 832 ≤ eUnit e || unitHere s (eUnit e), fields := [(0, eUnit e < 832), zeroAt e.payload 2 2] }

/-- BADGER_STATUS (R503). -/
def execBadgerStatus (e : Env) (s : State) : Host.Outcome State Fault Refusal :=
  let u := eUnit e
  .next (runOk 0x1004 (lenIs 4) (unitChk e s) e
    (fun s => let x := unitRt s u
      leB 4 (unitWord s u) ++ leB 8 (unsignedN 64 x.lastNs) ++ leB 4 x.tests ++ leB 4 x.corrected ++ leB 4 x.fails) id s)

/-! The DIAG class. -/

/-- The first unit, the unit count and the lines of 128 bytes of a memory of MEM_READ (R29, R485); the den is named by its slice (log 56). -/
def memoryUnits : Nat → Nat × Nat × Nat
  | 0 => (0, 128, 16384)
  | 1 => (128, 256, 6144)
  | 2 => (384, 256, 3072)
  | 3 => (640, 128, 1024)
  | 4 => (640, 128, 512)
  | _ => (0, 32, 8192)

/-- The unit of a memory exists. -/
def memoryHere (s : State) (m i : Nat) : Bool := if m = 5 then decide (i < nSlices s) else unitHere s i

/-- A line of a MAC bank (R259): eight slots, which ones being a free value (the manual leaves open where an address falls), each with its entry or with
VALID 0 and free bits. -/
def macBankLine (s : State) (i line : Nat) (free : List Byte) : List Byte :=
  let g := Config.fwChoice 20 (3072 * i + line) % (macSlots s / 8)
  (List.range 8).flatMap (fun j =>
    match s.tables.mac.find? (fun x => decide (x.slot = 8 * g + j)) with
    | some x => macLine x
    | none => (sub free (16 * j) 16).mapIdx (fun n b => if n = 0 then b &&& 0xFE else b))

/-- Bytes of a line as stored: a cell in use, a line of a MAC bank, and an engine's scratch; the rest, and every line's masks, are free values
(log 14). -/
def memoryLine (s : State) (m i line : Nat) : List Byte :=
  let free := (List.range 132).map (fun k => Config.memLine (8 * s.fresh + m) i line k)
  let shown := match m with
    | 0 => (match s.buf.cells.get? (8192 * i + line / 2) with
      | some c => (c.drop (128 * (line % 2))).take 128
      | none => [])
    | 2 => if bankOwner s ((i - 384) / 64) ((i - 384) % 64) = 0x0100 then macBankLine s i line free else []
    | 4 => (List.range 32).flatMap (fun k => leB 4 ((engine s (i - 640)).scratch.getD (32 * line + k) 0).toNat)
    | _ => []
  shown ++ free.drop shown.length

/-- The checks of MEM_READ. -/
def memReadChk (e : Env) (s : State) : Chk :=
  let p := e.payload
  let m := byteAt p 0
  let i := fld p 2 2
  let k := memoryUnits m
  { present := !(k.1 ≤ i && i < k.1 + k.2.1) || memoryHere s m i
    fields := [below p 0 1 6, zeroAt p 1 1, (2, decide (k.1 ≤ i) && decide (i < k.1 + k.2.1)), below p 4 4 k.2.2] }

/-- MEM_READ. -/
def execMemRead (e : Env) (s : State) : Host.Outcome State Fault Refusal :=
  let p := e.payload
  let m := byteAt p 0
  let i := fld p 2 2
  .next (runOk 0x1201 (lenIs 8) (memReadChk e s) e
    (fun s => memoryLine s m i (fld p 4 4)) (fun s => { s with fresh := s.fresh + 1 }) s)

/-- The checks of ERR_COUNTERS (R30, R507). -/
def errCountersChk (e : Env) (s : State) : Chk :=
  let p := e.payload
  let u := eUnit e
  { present := 832 ≤ u || unitHere s u, fields := [(0, u < 832), below p 2 1 2, zeroAt p 3 1] }

/-- ERR_COUNTERS (R30, R507). -/
def execErrCounters (e : Env) (s : State) : Host.Outcome State Fault Refusal :=
  let p := e.payload
  let u := eUnit e
  .next (runOk 0x1202 (lenIs 4) (errCountersChk e s) e
    (fun s => leB 8 (ctrOf s ⟨.err, u, 0, 0⟩) ++ leB 8 (ctrOf s ⟨.err, u, 0, 1⟩))
    (fun s => if byteAt p 2 % 2 = 1 then clearCtrs (fun c => decide (c.fam = .err) && decide (c.unit = u)) s else s) s)

/-- A fault log entry of 32 bytes (FAULT_LOG). -/
def faultBytes (x : FaultEntry) : List Byte :=
  leB 4 x.seq ++ leB 1 x.code ++ leB 1 x.action ++ leB 2 x.unit ++ leB 4 x.addr ++ leB 8 (unsignedN 64 x.timeNs) ++ leB 12 0

/-- FAULT_LOG (R494). -/
def execFaultLog (e : Env) (s : State) : Host.Outcome State Fault Refusal :=
  let start := fld e.payload 0 4
  .next (runOk 0x1203 (lenIs 4) {} e
    (fun s =>
      let l := (s.badger.log.filter (fun x => decide (start ≤ x.seq))).take 7
      let next := match l.getLast? with
        | some x => (x.seq + 1) % 2 ^ 32
        | none => start
      leB 4 next ++ leB 2 l.length ++ leB 2 0 ++ l.flatMap faultBytes) id s)

/-- ISOLATE would leave a bank group with no bank, or a slice with two flow-store banks isolated. -/
def isolateRefused (s : State) (u : Nat) : Bool :=
  if u < 128 then (List.range (4 * nSlices s)).all (fun b => decide (b % 2 ≠ u % 2) || decide (b = u) || (unitRt s b).isolated)
  else if u < 384 then !(slice s ((u - 128) / 8)).badFlowBanks.isEmpty
  else false

/-- The checks of ISOLATE (R495). -/
def isolateChk (e : Env) (s : State) : Chk :=
  let u := eUnit e
  { present := 768 ≤ u || unitHere s u, fields := [(0, u < 768), zeroAt e.payload 2 2], st := if (unitRt s u).isolated then some 0x11 else none }

/-- ISOLATE (R495). -/
def execIsolate (e : Env) (s : State) : Host.Outcome State Fault Refusal :=
  let u := eUnit e
  .next (runCmd 0x1204 (lenIs 4) (isolateChk e s) e
    (fun s => if isolateRefused s u then respond e 0x1204 (refusedV 1) s else respond e 0x1204 (okV []) (isolateUnit u s)) s)

/-- An admitted frame holds a cell of a buffer bank. -/
def bankHeld (s : State) (b : Nat) : Bool := s.buf.frames.any (fun f => (f.2.c.cells ++ f.2.c.replica).any (fun c => decide (bankOf c = b)))

/-- A unit returns to service (R496). -/
def restoreUnit (u : Nat) (s : State) : State :=
  let s1 := updUnit u (fun x => { x with isolated := false }) s
  let s2 :=
    if u < 128 then
      recomputeShared { s1 with buf := { s1.buf with
        isolated := dropFrom s1.buf.isolated u, stopped := dropFrom s1.buf.stopped u, parked := s1.buf.parked.filter (fun c => decide (bankOf c ≠ u))
        cache := s1.buf.cache.del u, used := s1.buf.used.filter (fun c => decide (bankOf c ≠ u)), badCells := s1.buf.badCells.filter (fun c => decide (bankOf c ≠ u)) } }
    else if u < 384 then
      let sl := (u - 128) / 8
      let fs := (cfg s1).flows.filter (fun f => decide (f.2.slice = sl) && f.2.guarded)
      fs.foldl (fun s f => { s with flows := { s.flows with rt := s.flows.rt.upd f.1 {} (fun r => { r with mirrored := true }) } })
        (updSlice sl (fun x => { x with badFlowBanks := dropFrom x.badFlowBanks ((u - 128) % 8), unmirrored := 0 })
          { s1 with badger := { s1.badger with rebuilding := dropFrom s1.badger.rebuilding u } })
    else if u < 640 then { s1 with badger := { s1.badger with noSpare := dropFrom s1.badger.noSpare u } }
    else updEngine (u - 640) (fun r => { r with isolated := false, resetAt := none }) s1
  fire 181 s2

/-- The checks of RESTORE (R496). -/
def restoreChk (e : Env) (s : State) : Chk :=
  let u := eUnit e
  { present := 768 ≤ u || unitHere s u, fields := [(0, u < 768), zeroAt e.payload 2 2], busy := if (unitRt s u).running then some 3 else none
    st := if !(unitRt s u).isolated then some 0x12 else if u < 128 && bankHeld s u then some 0x14 else none }

/-- RESTORE (R496): the outcome of its test is the event's; while the test has not ended, nothing has happened yet. -/
def execRestore (e : Env) (outcome : TestOutcome) (s : State) : Host.Outcome State Fault Refusal :=
  let u := eUnit e
  .next (runCmd 0x1205 (lenIs 4) (restoreChk e s) e
    (fun s => match outcome with
      | .fail => respond e 0x1205 (faultV 0) (testDone u 2 0 s)
      | .done c => respond e 0x1205 (okV []) (restoreUnit u (testDone u (if c = 0 then 0 else 1) c s))
      | .more => s) s)

/-! Firmware's repairs. -/

/-- A line that could not be read: its entries are lost in the bank's cluster, and one lost in every cluster that held it is gone (R497). -/
def loseLine (u owner : Nat) (s : State) (x : LostLine) : State :=
  let c := (u - 384) / 64
  let s1 := logFaultAt 3 7 u (owner * 65536 + x.line % 65536) s
  if owner = 0x0100 then
    let s2 := macMap (fun y => decide (y.slot ∈ x.handles)) (fun y => { y with lost := addTo y.lost c }) s1
    macDrop (fun y => decide (y.slot ∈ x.handles) && (List.range (nClusters s)).all (fun k => decide (k ∈ y.lost))) s2
  else updTable owner (fun t =>
    let lost := x.handles.foldl (fun l h => addTo l (c, h)) t.lost
    let gone := fun (h : Nat) => decide (h ∈ x.handles) && (List.range 4).all (fun k => !bitN t.clusters k || decide ((k, h) ∈ lost))
    { t with entries := t.entries.filter (fun y => !gone y.handle), lost }) s1

/-- RELOCATE_DONE (R497): the copy ends; the lines that could not be read are logged and their entries lost. -/
def execRelocateDone (u : Nat) (lost : List LostLine) (s : State) : Host.Outcome State Fault Refusal :=
  .next (match s.tables.relocating.get? u with
    | none => s
    | some owner => lost.foldl (fun s x => loseLine u owner s x) { s with tables := { s.tables with relocating := s.tables.relocating.del u } })

/-- Flows of a slice whose home context had a copy in the bank (R320). -/
def flowsInBank (s : State) (sl k : Nat) : List Nat :=
  ((cfg s).flows.filter (fun f => decide (f.2.slice = sl) && f.2.guarded && (homeSlots f.2).any (fun x => decide (x % 8 = k)))).map Prod.fst

/-- REBUILD_DONE (R340): contexts for which the other banks have no free slot are left unmirrored; which ones is a free value (log 23). -/
def execRebuildDone (u : Nat) (s : State) : Host.Outcome State Fault Refusal :=
  .next (if !(u ∈ s.badger.rebuilding) then s
    else
      let sl := (u - 128) / 8
      let used := sumOf (fun f => ctxUse f.2 sl) (cfg s).flows
      let n := used - (65535 - 8192 * (slice s sl).badFlowBanks.length)
      let l := flowsInBank s sl ((u - 128) % 8)
      let k := if l.isEmpty then 0 else Config.fwChoice 14 s.fresh % l.length
      let chosen := (l.drop k ++ l.take k).take n
      let s1 := logFault 2 6 u { s with fresh := s.fresh + 1, badger := { s.badger with rebuilding := dropFrom s.badger.rebuilding u } }
      chosen.foldl (fun s f => flowEvent f 4 { s with flows := { s.flows with rt := s.flows.rt.upd f {} (fun r => { r with mirrored := false }) } })
        (updSlice sl (fun x => { x with unmirrored := x.unmirrored + n }) s1))

/-! Faults of cores and of the control pair (R495, R502). -/

/-- SLICE_CORE_FAULT: logic parity outside the engines resets the slice core (R495); which unit index the entry names is a free value (log 23). -/
def execSliceCoreFault (sl : Nat) (s : State) : Host.Outcome State Fault Refusal :=
  .next (if nSlices s ≤ sl || (slice s sl).inReset.isSome then s
    else resetCore sl (logFault 0x0A 3 (Config.fwChoice 15 s.fresh % 65536) s))

/-- LOCKSTEP_MISMATCH (R502): the pair restarts; the third mismatch within 10 s leaves it held with BOOT_ERR 0x02. -/
def execLockstepMismatch (s : State) : Host.Outcome State Fault Refusal :=
  .next (if s.badger.ctlHeld = 2 then s
    else
      let l := (s.badger.mismatches.filter (fun t => decide (rawNs s < t + 10000000000))) ++ [rawNs s]
      let s1 := logFault 0x09 4 0xFFFF { s with badger := { s.badger with mismatches := l } }
      let s2 := ctlReset s1
      if 3 ≤ l.length then { s2 with boot := { s2.boot with err := 2, owed := 0 }, badger := { s2.badger with ctlHeld := 2 } } else s2)

/-- CTL_RESTART_DONE (R502): BLK_READY and READY return, source 5 is raised. -/
def execCtlRestartDone (s : State) : Host.Outcome State Fault Refusal :=
  .next (if s.badger.ctlHeld ≠ 1 then s
    else fire 5 { s with boot := { s.boot with ready := true, stage := 0x0F, owed := 0 }, badger := { s.badger with ctlHeld := 0 } })

/-- CONTROL_RAM_FAULT (R495): the pair is held; only a cold reset recovers it. -/
def execControlRamFault (s : State) : Host.Outcome State Fault Refusal :=
  let s1 := logFault 0x0B 0 0xFFFF s
  .next { s1 with boot := { s1.boot with ready := false, owed := 0 }, badger := { s1.badger with ctlHeld := 2 } }

end Sys2Proof.Machine
end

