-- ==== Sys2Proof/Machine/Page.lean ====
section
/-! DEFINITION. Addressed bytes in canonical form (the command pages of the two mailboxes, R83, R400): addresses strictly rising, no byte that is 0. -/

namespace Sys2Proof.Machine

/-- The byte at an address: 0 where none is listed. -/
def Memory.read : List Host.Cell → Nat → Byte
  | [], _ => 0
  | c :: m, a => if c.1 = a then c.2 else Memory.read m a

/-- Write one byte; writing 0 removes the entry. -/
def Memory.write (a : Nat) (b : Byte) : List Host.Cell → List Host.Cell
  | [] => if b = 0 then [] else [(a, b)]
  | c :: m =>
    if a < c.1 then (if b = 0 then c :: m else (a, b) :: c :: m)
    else if a = c.1 then (if b = 0 then m else (a, b) :: m)
    else c :: Memory.write a b m

/-- The canonical form: strictly rising from a bound, no zero. -/
def Memory.wfFrom : Nat → List Host.Cell → Bool
  | _, [] => true
  | lo, c :: m => decide (lo ≤ c.1) && decide (c.2 ≠ 0) && Memory.wfFrom (c.1 + 1) m

/-- The canonical form. -/
def Memory.wf (m : List Host.Cell) : Bool := Memory.wfFrom 0 m

/-- Write bytes into a page of 256 bytes; what lies beyond it is no part of the page. -/
def pageWrite (off : Nat) : List Byte → List Host.Cell → List Host.Cell
  | [], m => m
  | b :: l, m => pageWrite (off + 1) l (if off < 256 then Memory.write off b m else m)

end Sys2Proof.Machine
end

