-- ==== Sys2Proof/Machine/Sezal.lean ====
section
/-! DEFINITION. The SEZAL class and the events of the Sezal logic: adjacency, members, time, votes, outcomes (R344 to R370). -/

namespace Sys2Proof.Machine

/-! Configuration and reports. -/

/-- EtherTypes that the Sezal tag may not take (SEZAL_CFG). -/
def badSezalType (t : Nat) : Bool :=
  t < 0x0600 || t = 0x0800 || t = 0x86DD || t = 0x8100 || t = 0x88A8 || t = 0x88F7 || t = 0x8808 || t = 0xF1C1 || t = 0x892F || t = 0x88BA || t = 0x88B8

/-- A domain set is VOTING or ARMED. -/
def domainSetHeld (s : State) : Bool := s.quad.sets.any (fun q => q.domain && (decide (q.st = .voting) || decide (q.st = .armed)))

/-- Leave the domain (R344, R355): LEAVE is flooded first, then nothing of the domain stands; an ID_CONFLICT lets no LEAVE out (R356). -/
def sezLeave (s : State) : State :=
  let s1 := flood 3 (beB 8 s.sez.uid) s
  let s2 := if s.sez.keeper.isNone then s1 else fire 29 s1
  let off := fun (c : Cfg) => { c with domPort := [] }
  setTimeState .free (updCfg off (updSez (fun z => { z with
    enabled := false, adj := [], members := [], rivals := [], present := [], far := 0, keeper := none, upstream := none, idConflict := false
    req := none, coord := [], voting := [], memberDirty := false }) s2))

/-- SEZAL_CFG's fields in force (R344, R354, R359, R362). -/
def sezConfigured (p : List Byte) (z : Sezal) : Sezal :=
  { z with inst := fld p 0 2, domainNum := fld p 2 2, etherType := fld p 4 2, enabled := bitN (byteAt p 6) 0, follow := bitN (byteAt p 6) 1, uid := fld p 8 8
           helloUs := fld p 16 4, syncUs := fld p 20 4, memberAgeMs := fld p 24 4, stepTolPs := fld p 28 4 }

/-- What SEZAL_CFG changes outside its own fields, as claims (R103): the domain ports that go as the domain is left, and the nodes whose transitions take
a new EtherType (R189). -/
def sezalCfgClaims (e : Env) (s : State) : List Claim :=
  let c := cfg s
  let ports := if s.sez.enabled && !bitN (byteAt e.payload 6) 0 then c.domPort.keys.map (fun p => ⟨0x0D02, p, 0⟩) else []
  let nodes := (List.range (nSlices s)).flatMap (fun sl => (sezalGraph c.etherType (fld e.payload 4 2) (graphOf c sl)).filterMap (fun n =>
    if (graphOf c sl).get? n.1 = some n.2 then none else some ⟨0x0401, sl, n.1⟩))
  ports ++ nodes

/-- The checks of SEZAL_CFG (R103, R110, R344, R355, R356). -/
def sezalCfgChk (e : Env) (s : State) : Chk :=
  let p := e.payload
  let renamed := decide (fld p 0 2 ≠ s.sez.inst) || decide (fld p 8 8 ≠ s.sez.uid)
  let used := s.sez.enabled || (cfg s).flows.any (fun x => !foreignFlow s x.1)
  { fields := [below p 0 2 512, (4, !badSezalType (fld p 4 2)), below p 6 1 4, zeroAt p 7 1, (8, decide (fld p 8 8 ≠ 0)), within p 16 4 100 100000, within p 20 4 125 10000,
      (24, decide (100 ≤ fld p 24 4) && decide (fld p 24 4 ≤ 10000) && decide (4 * fld p 16 4 ≤ 1000 * fld p 24 4)), within p 28 4 100 1000000]
    held := claimHolder s 0 (sezalCfgClaims e s)
    busy := if armedUnit s (sezalCfgClaims e s) then some 1 else if domainSetHeld s then some 3 else none
    st := if bitN (byteAt p 6) 1 && !s.otd.authority then some 2 else if renamed && used then some 0x10 else none }

/-- SEZAL_CFG (R189, R344, R355, R356). -/
def execSezalCfg (e : Env) (s : State) : Host.Outcome State Fault Refusal :=
  let p := e.payload
  let on := bitN (byteAt p 6) 0
  .next (runOk 0x0D01 (lenIs 32) (sezalCfgChk e s) e (fun _ => [])
    (fun s0 =>
      let s := updCfg (sezalGraphs (fld p 4 2)) s0
      if s.sez.enabled && !on then updSez (sezConfigured p) (sezLeave s)
      else if on then sezResolve (updSez (fun z => { sezConfigured p z with memberDirty := z.memberDirty || !z.enabled }) s)
      else updSez (sezConfigured p) s) s)

/-- The checks of DOMAIN_PORT_SET. -/
def domainPortSetChk (e : Env) (s : State) : Chk :=
  let p := e.payload
  let q := fld p 0 2
  let noded := (cfg s).prp.any (fun n => decide (n.2.mode ≠ 0) && (decide (n.2.portA = q) || decide (n.2.portB = q)))
  { present := portThere s q 1024, fields := [below p 0 2 1024, below p 2 1 2, below p 3 1 16]
    st := if !s.sez.enabled || !(cfg s).ports.has q then some 0 else if (lagOf (cfg s) q).isSome || noded then some 8 else none }

/-- DOMAIN_PORT_SET (R345). -/
def execDomainPortSet (e : Env) (s : State) : Host.Outcome State Fault Refusal :=
  .next (runStaged (.domainPortSet e) 0x0D02 (lenIs 8) [⟨0x0D02, fld e.payload 0 2, 0⟩] (domainPortSetChk e) (domainPortSetSide e) e s)

/-- The code of a time state (R362). -/
def timeStNum : TimeSt → Nat
  | .free => 0
  | .acquiring => 1
  | .locked => 2
  | .holdover => 3

/-- HOPS_TO_KEEPER: 0 on the keeper, 255 without a path. -/
def hopsToKeeper (s : State) : Nat :=
  if isKeeper s then 0 else match s.sez.upstream with
  | some p => min 255 ((adjOf s p).hops + 1)
  | none => 255

/-- The set held in VOTING while OUT_OF_STEP (HELD_SET). -/
def heldVoting (s : State) : Nat :=
  if !s.sez.outOfStep then 0 else match s.sez.heldSet with
  | some id => match findSet s id with
    | some q => if q.st = .voting then id else 0
    | none => 0
  | none => 0

/-- The checks of SEZAL_STATUS. -/
def sezalStatusChk (e : Env) (_ : State) : Chk :=
  let p := e.payload
  { fields := [below p 0 1 2, zeroAt p 1 3] }

/-- SEZAL_STATUS. -/
def execSezalStatus (e : Env) (s : State) : Host.Outcome State Fault Refusal :=
  let p := e.payload
  let z := s.sez
  let st := if !z.enabled then 0 else if z.idConflict then 3 else if z.present.length ≤ 1 then 1 else 2
  let data := leB 1 st ++ leB 1 (timeStNum z.time) ++ leB 1 (if z.outOfStep then 2 else b2n (!inStep s)) ++ leB 1 (b2n (isKeeper s && z.enabled)) ++ leB 2 (z.keeper.getD 0xFFFF)
    ++ leB 2 z.present.length ++ leB 2 (z.upstream.getD 0xFFFF) ++ leB 1 (hopsToKeeper s) ++ leB 1 (min 255 z.far) ++ leB 4 (unsignedN 32 z.offsetPs)
    ++ leB 4 z.memberGen.toNat ++ leB 2 (heldVoting s) ++ leB 2 0 ++ (List.range 10).flatMap (fun i => leB 8 (ctrOf s ⟨.sezal, 0, 0, i⟩))
  .next (runOk 0x0D03 (lenIs 4) (sezalStatusChk e s) e (fun _ => data)
    (fun s => if bitN (byteAt p 0) 0 then clearCtrs (fun c => c.fam = .sezal) s else s) s)

/-- One entry of SEZAL_MEMBERS. -/
def memberEntry (s : State) (i : Nat) : List Byte :=
  let z := s.sez
  let own := decide (i = z.inst)
  let m := z.members.getD i ⟨0, 0, 0, false, false, [], 0⟩
  let locked := if own then decide (z.time = .locked) else m.locked
  let oos := if own then z.outOfStep else m.outOfStep
  leB 2 i ++ leB 1 ((hopsMap s).getD i 0) ++ leB 1 (b2n (z.keeper = some i) + 2 * b2n locked + 4 * b2n oos + 8 * b2n (own && z.idConflict)) ++ leB 1 (rankOf s i).1
    ++ leB 3 0 ++ leB 8 (rankOf s i).2

/-- The checks of SEZAL_MEMBERS (R355). -/
def sezalMembersChk (e : Env) (s : State) : Chk :=
  let p := e.payload
  { fields := [below p 0 2 512, zeroAt p 2 2], st := if s.sez.enabled then none else some 0 }

/-- SEZAL_MEMBERS (R355). -/
def execSezalMembers (e : Env) (s : State) : Host.Outcome State Fault Refusal :=
  let p := e.payload
  let l := s.sez.present.filter (fun i => decide (fld p 0 2 ≤ i))
  let next := match l.drop 14 with | i :: _ => i | [] => 0xFFFF
  .next (runOk 0x0D04 (lenIs 4) (sezalMembersChk e s) e
    (fun _ => leB 2 next ++ leB 2 (l.take 14).length ++ leB 4 s.sez.memberGen.toNat ++ (l.take 14).flatMap (memberEntry s)) (fun s => s) s)

/-- The checks of KEEPER_PRIO_SET (R358). -/
def keeperPrioSetChk (e : Env) (s : State) : Chk :=
  let p := e.payload
  { fields := [zeroAt p 1 3], st := if s.sez.enabled then none else some 0 }

/-- KEEPER_PRIO_SET (R358). -/
def execKeeperPrioSet (e : Env) (s : State) : Host.Outcome State Fault Refusal :=
  let p := e.payload
  .next (runOk 0x0D06 (lenIs 4) (keeperPrioSetChk e s) e (fun _ => [])
    (fun s => sezResolve (updSez (fun z => { z with prio := byteAt p 0 }) s)) s)

/-! Receiving a control message (R352, R353). -/

/-- A control message as received: its sender, destination (none for ALL), number and body. -/
structure CtlMsg where
  src : Nat
  dst : Option Nat
  num : Nat
  body : List Byte
deriving DecidableEq, Repr

/-- Read a frame as a control message. -/
def ctlOf (d : List Byte) : CtlMsg :=
  let route := nfld d 16 4
  ⟨bitsN route 31 23, if bitN (byteAt d 15) 2 then none else some (bitsN route 22 14), nfld d 24 2, (d.drop 30).take (byteAt d 29)⟩

/-- The body lengths that a MSG allows; a MEMBER names its neighbours by NEIGH_COUNT (R353). -/
def ctlLenOk (msg : Nat) (d : List Byte) : Bool :=
  let n := byteAt d 29
  decide (30 + n ≤ d.length) && (
    if msg = 1 then n = 20 else if msg = 2 then n = 16 + 2 * byteAt d 44 && byteAt d 44 ≤ 64 else if msg = 3 then n = 8 else if msg = 4 then n = 2
    else if msg = 5 then n = 24 else if msg = 6 then n = 24 else if msg = 7 then n = 3 else if msg = 8 then n = 6 else n = 4)

/-- Take a frame out of those that the slices have handed over. -/
def takeInbox (p : Nat) (d : List Byte) (s : State) : State :=
  updSez (fun z => { z with inbox := eraseFirst (fun x => decide (x = (p, d))) z.inbox }) s

/-- Receive a control message of kind `msg` on a port: nothing off the domain, a discard under R349, BAD_VERSION for a malformed one, else CTRL_RX and
its effect. -/
def receiveCtl (msg p : Nat) (d : List Byte) (eff : CtlMsg → State → State) (s : State) : State :=
  let s1 := takeInbox p d s
  if !isDomainPort s p || !(sezalTagged s d && bitN (byteAt d 15) 1) || (decide (30 ≤ d.length) && decide (byteAt d 28 ≠ msg)) then s1
  else match tagFault s p d with
  | some i => sezBump i s1
  | none => if !(30 ≤ d.length && ctlLenOk msg d) then sezBump 0 s1 else eff (ctlOf d) (sezBump 8 s1)

/-- A flooded message is new: not this instance's own, and not among the last 1 024 numbers of its sender (R353). -/
def newFlood (s : State) (m : CtlMsg) : Bool := decide (m.src ≠ s.sez.inst) && !decide (m.num ∈ s.sez.seen.getD m.src [])

/-- Note a flooded message's number. -/
def noteSeen (m : CtlMsg) (s : State) : State := updSez (fun z => { z with seen := z.seen.set m.src ((m.num :: z.seen.getD m.src []).take 1024) }) s

/-- Receive a flooded message: once, with a forward on the other UP ports (R353). -/
def receiveFlood (msg p : Nat) (d : List Byte) (eff : CtlMsg → State → State) (s : State) : State :=
  receiveCtl msg p d (fun m s => if newFlood s m then eff m (forwardFlood p d (noteSeen m s)) else s) s

/-! HELLO (R354). -/

/-- TIME_VALID of the keeper as known. -/
def keeperValid (s : State) : Bool :=
  if isKeeper s then s.time.valid else match s.sez.upstream with
  | some p => (adjOf s p).timeValid
  | none => false

/-- The body of a HELLO on a port. -/
def helloBody (s : State) (p : Nat) : List Byte :=
  let z := s.sez
  let k := match z.keeper with | some i => (rankOf s i).1 | none => 255
  let heard := if (adjOf s p).st = .down then 0xFFFF else (adjOf s p).inst
  beB 8 z.uid ++ beB 2 (z.keeper.getD 0xFFFF) ++ beB 1 k ++ beB 1 z.prio ++ beB 1 (hopsToKeeper s) ++ beB 1 (timeStNum z.time + 128 * b2n (keeperValid s)) ++ beB 2 heard
    ++ beB 4 z.memberGen.toNat

/-- HELLO_TX (R354). -/
def execHelloTx (p : Nat) (s : State) : Host.Outcome State Fault Refusal :=
  .next (if !isDomainPort s p || !linkIsUp s p || decide (rawNs s < (adjOf s p).sent + 1000 * s.sez.helloUs) then s
    else sendLocal 16 p 1 (helloBody s p) (updAdj p (fun a => { a with sent := rawNs s }) s))

/-- The adjacency that a HELLO gives (R354). -/
def heardHello (s : State) (m : CtlMsg) (a : Adj) : Adj :=
  let b := m.body
  let st := match a.st with
    | .up => AdjSt.up
    | .down => .init
    | .init => if nfld b 14 2 = s.sez.inst then .up else .init
  { a with st, inst := m.src, uid := nfld b 0 8, keeper := nfld b 8 2, keeperPrio := byteAt b 10, hops := byteAt b 12, timeState := byteAt b 13 % 4, timeValid := bitN (byteAt b 13) 7
           heard := rawNs s }

/-- HELLO_RX (R354). -/
def execHelloRx (p : Nat) (frame : List Byte) (s : State) : Host.Outcome State Fault Refusal :=
  .next (receiveCtl 1 p frame (fun m s =>
    if nfld m.body 0 8 = s.sez.uid then sezBump 2 (leaveDomain p s)
    else if !linkIsUp s p then s
    else
      let a := adjOf s p
      let n := heardHello s m a
      let turned := decide ((a.st = .up) ≠ (n.st = .up)) || decide (a.inst ≠ n.inst)
      sezResolve (updSez (fun z => { z with memberDirty := z.memberDirty || turned }) (updAdj p (fun _ => n) s))) s)

/-- ADJACENCY_TIMEOUT (R354): no HELLO for 4 × HELLO_US, or the port is no longer UP. -/
def execAdjacencyTimeout (p : Nat) (s : State) : Host.Outcome State Fault Refusal :=
  let a := adjOf s p
  .next (if a.st ≠ .down && (!isDomainPort s p || !linkIsUp s p || decide (a.heard + 4000 * s.sez.helloUs ≤ rawNs s)) then leaveDomain p s else s)

/-! Members (R355, R356). -/

/-- MEMBER_TX (R355): every 100 ms and at every change of the adjacencies. -/
def execMemberTx (s : State) : Host.Outcome State Fault Refusal :=
  let z := s.sez
  let ns := (neighboursOf s z.inst).take 64
  let body := beB 8 z.uid ++ beB 4 z.recSeq.toNat ++ beB 1 z.prio ++ beB 1 (b2n (decide (z.time = .locked)) + 2 * b2n z.outOfStep) ++ beB 1 ns.length ++ beB 1 0
    ++ ns.flatMap (beB 2)
  .next (if !z.enabled || !(z.memberDirty || decide (z.memberSent + 100000000 ≤ rawNs s)) then s
    else updSez (fun z => { z with recSeq := z.recSeq + 1, memberSent := rawNs s, memberDirty := false }) (flood 2 body s))

/-- The record that a MEMBER message carries. -/
def memberOf (s : State) (b : List Byte) : Member :=
  { uid := nfld b 0 8, recSeq := nfld b 8 4, prio := byteAt b 12, locked := bitN (byteAt b 13) 0, outOfStep := bitN (byteAt b 13) 1
    neighbours := (List.range (byteAt b 14)).map (fun i => nfld b (16 + 2 * i) 2), heard := rawNs s }

/-- Enter or leave ID_CONFLICT (R356): source 28. -/
def setConflict (on : Bool) (s : State) : State :=
  if s.sez.idConflict = on then s else fire 28 (updSez (fun z => { z with idConflict := on }) s)

/-- Keep a member's record (R355, R356): the highest REC_SEQ of the lower UID; the higher UID is a rival. -/
def keepMember (i : Nat) (m : Member) (s : State) : State :=
  let rival := fun (u : Nat) (s : State) => updSez (fun z => { z with rivals := z.rivals.set i (u, rawNs s) }) s
  let put := fun (s : State) => updSez (fun z => { z with members := z.members.set i m }) s
  if i = s.sez.inst then
    if m.uid = s.sez.uid then s else (if m.uid < s.sez.uid then setConflict true else id) (rival m.uid s)
  else match s.sez.members.get? i with
  | none => put s
  | some old =>
    if old.uid < m.uid then rival m.uid s
    else if m.uid < old.uid then rival old.uid (put s)
    else if m.recSeq < old.recSeq then s
    else put s

/-- MEMBER_RX (R355, R356). -/
def execMemberRx (p : Nat) (frame : List Byte) (s : State) : Host.Outcome State Fault Refusal :=
  .next (receiveCtl 2 p frame (fun m s =>
    let r := memberOf s m.body
    let own := decide (m.src = s.sez.inst) && decide (r.uid = s.sez.uid)
    if own || decide (m.num ∈ s.sez.seen.getD m.src []) then s
    else sezResolve (keepMember m.src r (forwardFlood p frame (noteSeen m s)))) s)

/-- Forget an instance's record under a UID, and its rival (R355, R356). -/
def forgetMember (i : Nat) (record rival : Bool) (s : State) : State :=
  let s1 := updSez (fun z => { z with members := if record then z.members.del i else z.members, rivals := if rival then z.rivals.del i else z.rivals }) s
  sezResolve (if rival && decide (i = s.sez.inst) then setConflict false s1 else s1)

/-- LEAVE_RX (R355). -/
def execLeaveRx (p : Nat) (frame : List Byte) (s : State) : Host.Outcome State Fault Refusal :=
  .next (receiveCtl 3 p frame (fun m s =>
    let u := nfld m.body 0 8
    let own := decide (m.src = s.sez.inst) && decide (u = s.sez.uid)
    if own || decide (m.num ∈ s.sez.seen.getD m.src []) then s
    else
      let is := match s.sez.members.get? m.src with | some x => decide (x.uid = u) | none => false
      let rv := match s.sez.rivals.get? m.src with | some x => decide (x.1 = u) | none => false
      forgetMember m.src is rv (forwardFlood p frame (noteSeen m s))) s)

/-- MEMBER_AGE (R355). -/
def execMemberAge (i : Nat) (s : State) : Host.Outcome State Fault Refusal :=
  let old := fun (t : Nat) => decide (t + 1000000 * s.sez.memberAgeMs ≤ rawNs s)
  let is := match s.sez.members.get? i with | some x => old x.heard | none => false
  let rv := match s.sez.rivals.get? i with | some x => old x.2 | none => false
  .next (if is || rv then forgetMember i is rv s else s)

/-! Time (R359 to R362). -/

/-- SYNC_REQ_TX (R359): `t1` is the transmit stamp in 2^-16 ns. -/
def execSyncReqTx (t1 : Nat) (s : State) : Host.Outcome State Fault Refusal :=
  .next (match s.sez.upstream with
    | none => s
    | some p =>
      if !s.sez.enabled || s.sez.idConflict || !adjUp s p || decide (rawNs s < s.sez.syncSent + 1000 * s.sez.syncUs) then s
      else
        let id := s.sez.reqId.toNat
        sendLocal 16 p 4 (beB 2 id) (updSez (fun z => { z with reqId := z.reqId + 1, req := some (id, t1), syncSent := rawNs s }) s))

/-- SYNC_REQ_RX (R359): `t2` is the receive stamp in 2^-16 ns; the port front writes T3. -/
def execSyncReqRx (p : Nat) (frame : List Byte) (t2 : Nat) (s : State) : Host.Outcome State Fault Refusal :=
  .next (receiveCtl 4 p frame (fun m s =>
    if !adjUp s p then s
    else sendLocal 32 p 5 (m.body.take 2 ++ beB 2 0 ++ beB 8 (t2 / 65536) ++ beB 2 (t2 % 65536) ++ beB 10 0) s) s)

/-- A time of ten wire bytes in 2^-16 ns. -/
def tenOf (b : List Byte) (off : Nat) : Nat := nfld b off 8 * 65536 + nfld b (off + 8) 2

/-- What the servo does with an offset in 2^-16 ns (R148, R150, R361): a step beyond 1 µs; VALID only while the upstream's TIME_VALID is 1; and with no
step owed, TIME_VALID follows the upstream's by a step of 0. -/
def servoActs (upValid : Bool) (offset : Int) (s : State) : State :=
  let big := decide (65536000 < offset.natAbs)
  let lift := upValid && !s.time.valid && decide (s.sez.time = .locked)
  let drop := !upValid && s.time.valid
  if !(big || lift || drop) then s
  else if servoRefused s then otdCount 7 1 s
  else takeStep 2 (if big then offset else 0) upValid (!upValid && s.time.valid) s

/-- SYNT_CTRL of MODE 2 follows the servo, whose word is firmware's own (R360; free value, log 23). -/
def servoSynt (s : State) : State :=
  if s.time.syntMode = 2 then
    let d := draw s
    { d.2 with time := { d.2.time with syntServo := signedN 32 (Config.fwChoice 13 d.1) } }
  else s

/-- One exchange with its offset in 2^-16 ns (R361, R362). -/
def takeOffset (upValid : Bool) (offset : Int) (s : State) : State :=
  let ps := offset * 1000 / 65536
  let close := decide (ps.natAbs ≤ s.sez.stepTolPs)
  let s1 := updSez (fun z => { z with offsetPs := ps, req := none, good := if close then min 16 (z.good + 1) else 0 }) s
  let s2 := if !close then setTimeState .acquiring s1 else if s1.sez.good = 16 && s1.sez.time = .acquiring then setTimeState .locked s1 else s1
  servoSynt (servoActs upValid offset { s2 with time := { s2.time with refAt := rawNs s, lock := decide (s2.sez.time = .locked) } })

/-- SYNC_RESP_RX (R359 to R362): `t4` is the receive stamp in 2^-16 ns. -/
def execSyncRespRx (p : Nat) (frame : List Byte) (t4 : Nat) (s : State) : Host.Outcome State Fault Refusal :=
  .next (receiveCtl 5 p frame (fun m s =>
    match s.sez.req, s.sez.upstream with
    | some (id, t1), some up =>
      if up ≠ p || !s.sez.follow || nfld m.body 0 2 ≠ id then s
      else
        let t2 : Int := tenOf m.body 4
        let t3 : Int := tenOf m.body 14
        let asym := match (cfg s).domPort.get? p with | some d => d.asym * 256 | none => 0
        takeOffset (adjOf s p).timeValid (((t2 - t1) + (t3 - t4)) / 2 - asym) s
    | _, _ => s) s)

/-- HOLDOVER_EXPIRY (R362). -/
def execHoldoverExpiry (s : State) : Host.Outcome State Fault Refusal :=
  .next (if s.sez.time = .holdover && decide (s.sez.holdSince + 1000000000 ≤ rawNs s) then setTimeState .free s else s)

/-! Votes and outcomes (R364 to R367). -/

/-- Apply or abort a set by its outcome (R367): a COMMIT that comes within the arming bound of APPLY_TIME leaves the member OUT_OF_STEP. -/
def settleSet (set result culprit : Nat) (s : State) : State :=
  match findSet s set with
  | none => s
  | some q =>
    if !q.domain then s
    else if result = 0 then
      if q.st ≠ .voting || q.applying then s
      else
        let late := decide (timeAhead s q.applyTime < armBound q)
        (if late then goOutOfStep set else id) (takeApply set 2 q.applyTime none s)
    else if q.st = .armed || q.st = .normalising then s
    else abortSet set (updSet set (fun q => { q with culprit }) s)

/-- The coordinator decides (R366): it floods OUTCOME for the first time, and its own set follows. -/
def decideSet (c : Coord) (result culprit : Nat) (s : State) : State :=
  let s1 := updSez (fun z => { z with
    coord := z.coord.filter (fun x => decide (x.set ≠ c.set))
    outcomes := z.outcomes.filter (fun o => decide (o.set ≠ c.set)) ++ [⟨c.set, z.inst, result, culprit, rawNs s, 2, rawNs s⟩] }) s
  settleSet c.set result culprit (floodOutcome c.set result culprit s1)

/-- Commit when every voter is ready (R366). -/
def tryCommit (c : Coord) (s : State) : State := if c.voters.all (fun v => decide (v ∈ c.ready)) then decideSet c 0 0xFFFF s else s

/-- The body of a PROPOSE. -/
def proposeBody (s : State) (c : Coord) : List Byte :=
  beB 2 c.set ++ beB 8 c.applyTime ++ beB 8 c.deadline ++ beB 4 s.sez.memberGen.toNat ++ beB 2 (c.voters.length + 1)

/-- QUAD_APPLY AT_DOMAIN (R115, R364): with no other member present the coordinator's own vote commits at once (R357). -/
def execQuadApplyAtDomain (e : Env) (s : State) : Host.Outcome State Fault Refusal :=
  let p := e.payload
  let t := fld p 4 8
  let dl := fld p 12 8
  .next (runApply e 2 (fun _ s => decide (timeAhead s dl < 1000000) || decide (timeAhead s t < timeAhead s dl + 1000000))
    (fun q s =>
      let c : Coord := ⟨q.id, t, dl, s.sez.present.filter (fun i => decide (i ≠ s.sez.inst)), [], rawNs s⟩
      let s1 := respond e 0x0203 (okV (leB 10 0)) (updSet q.id (fun q => { q with st := .voting, mode := 2, applyTime := t, culprit := 0xFFFF }) s)
      tryCommit c (flood 6 (proposeBody s1 c) (updSez (fun z => { z with coord := z.coord ++ [c] }) s1))) s)

/-- The first apply of this instance whose PROPOSE is due again. -/
def proposeDue (s : State) : Option Coord := s.sez.coord.find? (fun c => decide (c.sent + 200000 ≤ rawNs s) && decide (0 < timeAhead s c.deadline))

/-- PROPOSE_REPEAT (R364). -/
def execProposeRepeat (s : State) : Host.Outcome State Fault Refusal :=
  .next (match proposeDue s with
    | none => s
    | some c => flood 6 (proposeBody s c) (updSez (fun z => { z with coord := z.coord.map (fun x => if x = c then { x with sent := rawNs s } else x) }) s))

/-- The vote on a set (R115, R365): 0 READY, 1 CONFLICT, 2 NO_SET, 3 NOT_IN_STEP. -/
def voteOn (s : State) (set : Nat) : Nat :=
  if !inStep s then 3 else match findSet s set with
  | none => 2
  | some q => if !q.domain || q.st ≠ .checked || q.applying then 2 else if (judgeSet (retryHeld set s) q 0).isNone then 0 else 1

/-- Send a vote (R365). -/
def sendVote (v : Voting) (s : State) : State := sendDirected v.coord 7 (beB 2 v.set ++ beB 1 v.vote) s

/-- The outcome of a set is known (R366). -/
def outcomeKnown (s : State) (set coord : Nat) : Option Outcome' :=
  s.sez.outcomes.find? (fun o => decide (o.set = set) && decide (o.coord = coord) && decide (rawNs s < o.at' + 60000000000))

/-- PROPOSE_RX (R365): a repeat, a set whose outcome is known, and a coordinator that is not present change nothing. -/
def execProposeRx (p : Nat) (frame : List Byte) (s : State) : Host.Outcome State Fault Refusal :=
  .next (receiveFlood 6 p frame (fun m s =>
    let set := nfld m.body 0 2
    let t := nfld m.body 2 8
    if !decide (m.src ∈ s.sez.present) || s.sez.voting.any (fun v => decide (v.set = set) && decide (v.coord = m.src)) || (outcomeKnown s set m.src).isSome then s
    else
      let v : Voting := ⟨set, m.src, voteOn s set, t, nfld m.body 10 8, rawNs s⟩
      let s1 := updSez (fun z => { z with voting := z.voting ++ [v] }) s
      sendVote v (if v.vote = 0 then updSet set (fun q => { q with st := .voting, mode := 2, applyTime := t }) (retryHeld set s1) else s1)) s)

/-- VOTE_REPEAT (R365): the first vote that is due again. -/
def execVoteRepeat (s : State) : Host.Outcome State Fault Refusal :=
  .next (match s.sez.voting.find? (fun v => decide (v.sent + 200000 ≤ rawNs s) && decide (0 < timeAhead s v.deadline)) with
    | none => s
    | some v => sendVote v (updSez (fun z => { z with voting := z.voting.map (fun x => if x = v then { x with sent := rawNs s } else x) }) s))

/-- VOTE_RX (R366): the coordinator counts a vote that comes before VOTE_DEADLINE; another member passes it on (R353). -/
def execVoteRx (p : Nat) (frame : List Byte) (s : State) : Host.Outcome State Fault Refusal :=
  .next (receiveCtl 7 p frame (fun m s =>
    if m.dst ≠ some s.sez.inst then
      match hopUp frame with
      | none => sezBump 4 s
      | some d => sendToward (m.dst.getD 0) d s
    else match s.sez.coord.find? (fun c => decide (c.set = nfld m.body 0 2)) with
    | none => s
    | some c =>
      if !decide (m.src ∈ c.voters) || decide (timeAhead s c.deadline ≤ 0) then s
      else if byteAt m.body 2 ≠ 0 then decideSet c 1 m.src s
      else
        let c1 := { c with ready := addTo c.ready m.src }
        tryCommit c1 (updSez (fun z => { z with coord := z.coord.map (fun x => if x = c then c1 else x) }) s)) s)

/-- VOTE_DEADLINE (R366): the first apply whose deadline has passed with a vote missing. -/
def execVoteDeadline (s : State) : Host.Outcome State Fault Refusal :=
  .next (match s.sez.coord.find? (fun c => decide (timeAhead s c.deadline ≤ 0)) with
    | none => s
    | some c => decideSet c 1 ((c.voters.find? (fun v => !decide (v ∈ c.ready))).getD 0xFFFF) s)

/-- OUTCOME_REPEAT (R366): three floods in all, 100 µs apart. -/
def execOutcomeRepeat (s : State) : Host.Outcome State Fault Refusal :=
  .next (match s.sez.outcomes.find? (fun o => decide (0 < o.floods) && decide (o.sent + 100000 ≤ rawNs s)) with
    | none => s
    | some o => floodOutcome o.set o.result o.culprit
        (updSez (fun z => { z with outcomes := z.outcomes.map (fun x => if x = o then { x with floods := x.floods - 1, sent := rawNs s } else x) }) s))

/-! OUT_OF_STEP (R368). -/

/-- Leave OUT_OF_STEP. -/
def backInStep (s : State) : State := updSez (fun z => { z with outOfStep := false, heldSet := none, memberDirty := true }) s

/-- A set held in VOTING. -/
def votingSet (s : State) (id : Nat) : Bool := match findSet s id with | some q => decide (q.st = .voting) && !q.applying | none => false

/-- A set that has flipped, or is on its way to. -/
def flippedSet (s : State) (id : Nat) : Bool :=
  match findSet s id with
  | some q => decide (q.st = .armed) || decide (q.st = .normalising) || q.applying
  | none => match endedSet s id with | some q => decide (q.st = .done) | none => false

/-- Settle the held set as applied: one held in VOTING is applied NOW. -/
def settleApplied (e : Env) (id : Nat) (s : State) : State :=
  let s1 := updSez (fun z => { z with voting := z.voting.filter (fun v => decide (v.set ≠ id)), following := none }) s
  if votingSet s id then respond e 0x0D05 (okV [0]) (backInStep (takeApply id 0 0 none s1))
  else if flippedSet s id then respond e 0x0D05 (okV [0]) (backInStep s1)
  else respond e 0x0D05 (stateV 2) s1

/-- Settle the held set as discarded. -/
def settleDiscarded (e : Env) (id : Nat) (s : State) : State :=
  let s1 := updSez (fun z => { z with voting := z.voting.filter (fun v => decide (v.set ≠ id)), following := none }) s
  if flippedSet s id then respond e 0x0D05 (stateV 2) s1
  else respond e 0x0D05 (okV [1]) (backInStep (abortSet id s1))

/-- OUTCOME_RX (R367, R368). -/
def execOutcomeRx (p : Nat) (frame : List Byte) (s : State) : Host.Outcome State Fault Refusal :=
  .next (receiveFlood 8 p frame (fun m s =>
    let set := nfld m.body 0 2
    let result := byteAt m.body 2
    let culprit := nfld m.body 4 2
    let coord := match s.sez.voting.find? (fun v => decide (v.set = set)) with | some v => v.coord | none => m.src
    let s1 := updSez (fun z => { z with
      outcomes := z.outcomes.filter (fun o => decide (o.set ≠ set) && decide (rawNs s < o.at' + 60000000000)) ++ [⟨set, coord, result, culprit, rawNs s, 0, rawNs s⟩] }) s
    match s.sez.following with
    | some (e, id, _) =>
      if id = set then (if result = 0 then settleApplied e id s1 else settleDiscarded e id s1)
      else settleSet set result culprit (updSez (fun z => { z with voting := z.voting.filter (fun v => decide (v.set ≠ set)) }) s1)
    | none => settleSet set result culprit (updSez (fun z => { z with voting := z.voting.filter (fun v => decide (v.set ≠ set)) }) s1)) s)

/-- OUTCOME_QUERY_RX (R366). -/
def execOutcomeQueryRx (p : Nat) (frame : List Byte) (s : State) : Host.Outcome State Fault Refusal :=
  .next (receiveFlood 9 p frame (fun m s =>
    match outcomeKnown s (nfld m.body 0 2) (nfld m.body 2 2) with
    | some o => floodOutcome o.set o.result o.culprit s
    | none => s) s)

/-- APPLY_TIME_NO_OUTCOME (R367): a READY voter holds its set in VOTING and becomes OUT_OF_STEP, another aborts it. -/
def execApplyTimeNoOutcome (set : Nat) (s : State) : Host.Outcome State Fault Refusal :=
  .next (match s.sez.voting.find? (fun v => decide (v.set = set)) with
    | none => s
    | some v =>
      if decide (0 < timeAhead s v.applyTime) || s.sez.heldSet = some set then s
      else if v.vote = 0 then goOutOfStep set s
      else
        let s1 := updSez (fun z => { z with voting := z.voting.filter (fun x => decide (x.set ≠ set)) }) s
        match findSet s1 set with
        | some q => if q.domain && setLoose q then abortSet set s1 else s1
        | none => s1)

/-- The verdict on a SEZAL_RESYNC before its action. -/
def resyncVerdict (e : Env) (s : State) : Option Verdict :=
  let p := e.payload
  cmdVerdict 0x0D05 (lenIs 4) { fields := [below p 2 1 3, zeroAt p 3 1], st := if !s.sez.outOfStep || s.sez.heldSet ≠ some (fld p 0 2) then some 0 else none } e s

/-- SEZAL_RESYNC FOLLOW (R368): the query is flooded, and the command waits for an answer. -/
def execSezalResyncFollow (e : Env) (s : State) : Host.Outcome State Fault Refusal :=
  let id := fld e.payload 0 2
  let coord := match s.sez.voting.find? (fun v => decide (v.set = id)) with
    | some v => v.coord
    | none => match s.sez.outcomes.find? (fun o => decide (o.set = id)) with | some o => o.coord | none => s.sez.inst
  .next (ifTurn e (fun s => match resyncVerdict e s with
    | some v => respond e 0x0D05 v s
    | none => flood 9 (beB 2 id ++ beB 2 coord) (updSez (fun z => { z with following := some (e, id, rawNs s) }) s)) s)

/-- SEZAL_RESYNC FORCE_APPLY (R368). -/
def execSezalResyncForceApply (e : Env) (s : State) : Host.Outcome State Fault Refusal :=
  .next (ifTurn e (fun s => match resyncVerdict e s with
    | some v => respond e 0x0D05 v s
    | none => settleApplied e (fld e.payload 0 2) s) s)

/-- SEZAL_RESYNC FORCE_DISCARD (R368). -/
def execSezalResyncForceDiscard (e : Env) (s : State) : Host.Outcome State Fault Refusal :=
  .next (ifTurn e (fun s => match resyncVerdict e s with
    | some v => respond e 0x0D05 v s
    | none => settleDiscarded e (fld e.payload 0 2) s) s)

/-- RESYNC_FOLLOW_TIMEOUT (R368): no answer within 10 ms. -/
def execResyncFollowTimeout (s : State) : Host.Outcome State Fault Refusal :=
  .next (match s.sez.following with
    | some (e, _, t) => if rawNs s < t + 10000000 then s else respond e 0x0D05 (timeoutV 0) (updSez (fun z => { z with following := none }) s)
    | none => s)

end Sys2Proof.Machine
end

