-- ==== Sys2Proof/Machine/Sys.lean ====
section
/-! DEFINITION. The SYS class, the mailboxes, boot, the journal's replay, pins of the control complex (R77, R82 to R94, R117 to R122, R400, R499). -/

namespace Sys2Proof.Machine

/-- SYS_INFO (R117). -/
def execSysInfo (e : Env) (s : State) : Host.Outcome State Fault Refusal :=
  .next (runOk 0x0101 (lenIs 0) {} e
    (fun s => leB 1 3 ++ leB 1 2 ++ leB 1 0 ++ leB 1 s.boot.patchLevel ++ leB 4 0x3C1E94A7 ++ leB 2 64 ++ leB 2 (s.quad.sets.filter QSet.live).length) id s)

/-- The admin queue as SYS_ADMINQ_SET describes it (R90, R94). -/
def adminQueue (s : State) (p : List Byte) : SubQ :=
  { gen := if gen2 s then 2 else 1, rx := false, hostPort := 0, size := fld p 32 4, base := fld p 0 8, headWb := fld p 24 8, cq := 0, vector := fld p 36 2
    coalesce := 1, coalUs := 0, pool := 0, maxRx := 0, rxWait := 0, st := .enabled }

/-- The admin queue stands and is not disabled. -/
def adminSet (s : State) : Bool := s.adm.set && ((sqOf s 0).map (fun x => decide (x.st ≠ .disabled))).getD false

/-- The checks of SYS_ADMINQ_SET (R90, R94). -/
def sysAdminqSetChk (e : Env) (s : State) : Chk :=
  let p := e.payload
  { fields := [(0, fld p 0 8 % 64 = 0), (8, if gen2 s then fld p 8 8 % 32 = 0 else fld p 8 8 = 0), (16, fld p 16 8 % 256 = 0), (24, fld p 24 8 % 8 = 0),
      (32, isPow2 (fld p 32 4) 16 65536), within p 36 2 256 4095, zeroAt p 38 2]
    st := if e.path ≠ .mailbox || adminSet s then some 0 else none }

/-- SYS_ADMINQ_SET (R90, R94). -/
def execSysAdminqSet (e : Env) (s : State) : Host.Outcome State Fault Refusal :=
  let p := e.payload
  .next (runOk 0x0102 (lenIs 40) (sysAdminqSetChk e s) e (fun _ => [])
    (fun s =>
      let ring : CompQ := { size := fld p 32 4, base := fld p 8 8, vector := fld p 36 2, coalesce := 1, coalUs := 0 }
      { s with
        adm := { s.adm with set := true, rspBase := fld p 16 8, headWb := fld p 24 8, size := fld p 32 4, vector := fld p 36 2 }
        hq := { s.hq with sq := s.hq.sq.set 0 (adminQueue s p), cq := if gen2 s then s.hq.cq.set 0 ring else s.hq.cq } }) s)

/-- The checks of SYS_RESET, of the kind `k` of its row (R501). -/
def resetChk (k : Nat) (e : Env) (s : State) : Chk :=
  let p := e.payload
  let sl := byteAt p 2
  { present := k ≠ 2 || 32 ≤ sl || sl < nSlices s
    fields := [(0, byteAt p 0 = k), zeroAt p 1 1, (2, if k = 2 then sl < 32 else sl = 0), zeroAt p 3 1]
    busy :=
      let runs : Bool := match k with
        | 2 => (slice s sl).inReset.isSome
        | 3 => decide (s.badger.ctlHeld = 1) || s.boot.resetAsked.any (fun r => decide (r.1 = 3))
        | k => s.boot.resetAsked.any (fun r => decide (r.1 = k)) || decide (s.boot.owed = (if k = 0 then 2 else 1))
      if runs then some 3 else none
    st := if k ≠ 1 && (sleepers s).any (fun d => (dom s d).stateLost) then some 0x13 else none }

/-- A reset of the block that follows once its response is delivered. -/
def askReset (k op : Nat) (e : Env) (s : State) : State :=
  respond e op (okV []) { s with boot := { s.boot with resetAsked := some (k, e) } }

/-- SYS_RESET WARM (R499): the response first; WARM_RESET follows. -/
def execSysResetWarm (e : Env) (s : State) : Host.Outcome State Fault Refusal :=
  .next (runCmd 0x0103 (lenIs 4) (resetChk 0 e s) e (askReset 0 0x0103 e) s)

/-- SYS_RESET COLD (R499): the response first; COLD_RESET follows. -/
def execSysResetCold (e : Env) (s : State) : Host.Outcome State Fault Refusal :=
  .next (runCmd 0x0103 (lenIs 4) (resetChk 1 e s) e (askReset 1 0x0103 e) s)

/-- SYS_RESET SLICE (R499): the slice core resets; the response comes once it is in RUN. -/
def execSysResetSlice (e : Env) (s : State) : Host.Outcome State Fault Refusal :=
  let sl := byteAt e.payload 2
  .next (runCmd 0x0103 (lenIs 4) (resetChk 2 e s) e
    (fun s => askWake (32 + sl) (resetCore sl { s with badger := { s.badger with sliceOwed := s.badger.sliceOwed.set sl e } })) s)

/-- SYS_RESET CTL (R499): the control pair restarts once the response is delivered. -/
def execSysResetCtl (e : Env) (s : State) : Host.Outcome State Fault Refusal :=
  .next (runCmd 0x0103 (lenIs 4) (resetChk 3 e s) e (fun s => ctlDue (askReset 3 0x0103 e s)) s)

/-- SYS_JOURNAL_STATUS (R119). -/
def execSysJournalStatus (e : Env) (s : State) : Host.Outcome State Fault Refusal :=
  .next (runOk 0x0105 (lenIs 0) {} e
    (fun s => leB 2 64 ++ leB 2 (s.adm.journal.filter (fun j => !j.done)).length ++ leB 2 (s.adm.journal.filter (fun j => j.done && !j.acked)).length
      ++ leB 1 s.adm.lastReset ++ leB 1 0 ++ leB 4 (match sqOf s 0 with | some x => posWord x.size x.head | none => 0) ++ leB 4 s.adm.replayed
      ++ leB 4 s.adm.rewritten) id s)

/-- SYS_NOP (R120): any inline payload. -/
def execSysNop (e : Env) (s : State) : Host.Outcome State Fault Refusal :=
  .next (runOk 0x0106 (fun _ => !ptr e) {} e (fun _ => []) id s)

/-- SYS_PATCH_LOAD (R121): signature, base version and level of the image are what its bytes say (free values, log 10). R121 states no order among its
three refusals and nothing of a level that PATCH_LEVEL's one byte cannot show: the model decides signature, base version, level, and refuses a level of
256 or more with DETAIL 0x03 (DESIGN CHOICE, log 10). -/
def execSysPatchLoad (e : Env) (s : State) : Host.Outcome State Fault Refusal :=
  let p := e.payload
  .next (runCmd 0x0107 (fun _ => ptr e) {} e
    (fun s =>
      if !Config.patchSigOk p then respond e 0x0107 (refusedV 1) s
      else if !Config.patchBaseOk p then respond e 0x0107 (refusedV 2) s
      else if Config.patchLevel p ≤ s.boot.patchLevel || 256 ≤ Config.patchLevel p then respond e 0x0107 (refusedV 3) s
      else respond e 0x0107 (okV []) { s with boot := { s.boot with patchLevel := Config.patchLevel p } }) s)

/-! The boot mailbox (R83 to R86). -/

/-- MB_GO (R84, R85). -/
def execMbGo (data : Word) (s : State) : Host.Outcome State Fault Refusal :=
  .next (viaCtl (.mbGo data) (fun s => hptOk 0 (
    if !data.getLsbD 0 then s
    else if s.boot.ready && !s.mb.busy && !s.mb.done then { s with mb := { s.mb with busy := true, locked := true } }
    else { s with mb := { s.mb with goLost := true } })) s)

/-- MB_ACK (R83). -/
def execMbAck (data : Word) (s : State) : Host.Outcome State Fault Refusal :=
  .next (viaCtl (.mbAck data) (fun s => hptOk 0 (if data.getLsbD 0 then { s with mb := { s.mb with done := false, goLost := false, locked := s.mb.busy } } else s)) s)

/-- MB_CMD_WRITE (R83, R84): a write of CMD while it is locked is ignored. -/
def execMbCmdWrite (off : Nat) (data : List Byte) (s : State) : Host.Outcome State Fault Refusal :=
  .next (viaCtl (.mbCmdWrite off data) (fun s => hptOk 0 (if s.mb.locked then s else { s with mb := { s.mb with cmd := pageWrite off data s.mb.cmd } })) s)

/-- The OPCODE that a command page holds (R95). -/
def pageOpcode (m : List Host.Cell) : Nat := (Memory.read m 0).toNat + 256 * (Memory.read m 1).toNat

/-- The TAG that a command page holds (R95). -/
def pageTag (m : List Host.Cell) : Word := BitVec.ofNat 32 (sumOf (fun k => (Memory.read m (8 + k)).toNat * 256 ^ k) (List.range 4))

/-- What firmware takes of a command that it does not know: the path and the TAG. -/
def tagOnly (p : Path) (m : List Host.Cell) : Env :=
  { path := p, flags := 0, fmt := 1, setId := 0, plen := 0, tag := pageTag m, rsvd := 0, payload := [], ptrFault := false }

/-- A mailbox command that firmware does not know (R98): BAD_OPCODE in its turn. -/
def mailboxUnknown (s : State) : State :=
  if mailboxFirst s && decide (pageOpcode s.mb.cmd ∉ knownOps) then ifTurn (tagOnly .mailbox s.mb.cmd) (respond (tagOnly .mailbox s.mb.cmd) (pageOpcode s.mb.cmd) badOpV) s
  else s

/-- MB_COMMAND_DONE (R84): RSP, then MB_LAST_TAG if the command took effect, then DONE with BUSY clear. -/
def execMbCommandDone (s0 : State) : Host.Outcome State Fault Refusal :=
  let s := mailboxUnknown s0
  .next (match s.mb.ready with
    | none => s
    | some (r, took) =>
      let s1 := { s with mb := { s.mb with rsp := some r, lastTag := if took then r.tag else s.mb.lastTag, done := true, busy := false, ready := none } }
      ctlDue (if s.mb.doneIrq then fire 16 s1 else s1))

/-! The Otdiuri mailbox (R400). -/

/-- A command that Otdiuri does not know (R98, R402): BAD_OPCODE at once, or BUSY during its start. -/
def otdUnknown (s : State) : State :=
  if pageOpcode s.otd.ocmd ∈ knownOtdOps then s else respond (tagOnly .otd s.otd.ocmd) (pageOpcode s.otd.ocmd) (if otdStarting s then busyV 3 else badOpV) s

/-- OMB_GO (R98, R400): READY reads 1 from step 1 of R376 on. -/
def execOmbGo (data : Word) (s : State) : Host.Outcome State Fault Refusal :=
  .next (hptOk 0 (
    if !data.getLsbD 0 then s
    else if !s.otd.busy && !s.otd.done then otdUnknown { s with otd := { s.otd with busy := true, locked := true } }
    else { s with otd := { s.otd with goLost := true } }))

/-- OMB_ACK (R400). -/
def execOmbAck (data : Word) (s : State) : Host.Outcome State Fault Refusal :=
  .next (hptOk 0 (if data.getLsbD 0 then { s with otd := { s.otd with done := false, goLost := false, locked := s.otd.busy } } else s))

/-! Boot (R88, R89, R93, R116). -/

/-- The STAGE at which a boot step fails, by BOOT_ERR (R83, R88, R89); a lockstep mismatch may fall in any step (free value, log 23). -/
def failedStage (s : State) (err : Nat) : Nat :=
  match err with
  | 1 => 1
  | 3 => if s.boot.owed = 2 then 3 else 2
  | 4 => 3
  | _ => [1, if s.boot.owed = 2 then 3 else 2, 4].getD (Config.fwChoice 16 s.fresh % 3) 1

/-- STAGE of the next boot step (R88): 0x01, then 0x02 cold or 0x03 warm, then 0x04. -/
def nextStage (s : State) : Nat :=
  if s.boot.stage = 0 then 1 else if s.boot.stage = 1 then (if s.boot.owed = 2 then 3 else 2) else 4

/-- BOOT (R88, R89): firmware enters the next step; or it is ready, the remaining steps done; or a step has failed and only a cold reset recovers. Source 18 follows for the sets that a warm reset
aborted (R116). -/
def execBoot (result : BootResult) (s : State) : Host.Outcome State Fault Refusal :=
  .next (if s.badger.ctlHeld ≠ 0 || !(decide (s.boot.owed = 1) || decide (s.boot.owed = 2)) then s
    else match result with
      | .step => { s with boot := { s.boot with stage := nextStage s } }
      | .ok =>
        let s1 := { s with boot := { s.boot with stage := 0x0F, err := 0, warm := decide (s.boot.owed = 2), ready := true, owed := 0, abortIrq := false } }
        if s.boot.abortIrq then fire 18 s1 else s1
      | .failed err =>
        if !(1 ≤ err && err ≤ 4) then s
        else { s with fresh := s.fresh + 1, boot := { s.boot with stage := max s.boot.stage (failedStage s err), err, ready := false, owed := 0 } })

/-- DEBUG_EN_CHANGE (R77). -/
def execDebugEnChange (level : Bool) (s : State) : Host.Outcome State Fault Refusal := .next { s with boot := { s.boot with debugEn := level } }

end Sys2Proof.Machine
end

