-- ==== Sys2Proof/Machine/Regs.lean ====
section
/-! DEFINITION. The host window (R4, R20, R55 to R57, R77): which offsets are mapped, what each register reads as, and REGISTER_WRITE. -/

namespace Sys2Proof.Machine

/-! Which words are mapped (R57, R452). -/

/-- The pages of the host window. -/
inductive Page where
  | ident | mailbox | otd | time | distributor | doorbell | doorbellExt | dma | power | badger | debug | nothing
deriving DecidableEq, Repr

/-- The page of an offset and the offset within it. -/
def pageOf (s : State) (a : Nat) : Page × Nat :=
  if a < 0x1000 then (.ident, a)
  else if a < 0x2000 then (.mailbox, a - 0x1000)
  else if a < 0x3000 then (.otd, a - 0x2000)
  else if 0x4000 ≤ a && a < 0x5000 then (.time, a - 0x4000)
  else if 0x10000 ≤ a && a < 0x20000 then (.distributor, a - 0x10000)
  else if 0x20000 ≤ a && a < 0x30000 then (.doorbell, a - 0x20000)
  else if 0x30000 ≤ a && a < 0x34000 then (.dma, a - 0x30000)
  else if 0x40000 ≤ a && a < 0x41000 then (.power, a - 0x40000)
  else if 0x41000 ≤ a && a < 0x42000 then (.badger, a - 0x41000)
  else if 0x42000 ≤ a && a < 0x43000 && s.build.config = .S32 then (.doorbellExt, a - 0x42000)
  else if 0x100000 ≤ a then (.debug, a - 0x100000)
  else (.nothing, a)

/-- The offsets of a target's block that hold a register (R454). -/
def targetReg (r : Nat) : Bool := decide (r ≤ 0x28) || (decide (0x40 ≤ r) && decide (r ≤ 0x50)) || (decide (0x60 ≤ r) && decide (r < 0x80))

/-- A word-aligned offset of the distributor page holds a register (R447, R452 to R454). -/
def distReg (s : State) (r : Nat) : Bool :=
  decide (r < 8) || (decide (0x1000 ≤ r) && decide (r < 0x1C00)) || (decide (0x4000 ≤ r) && decide (r < 0x8000))
    || (decide (0x8000 ≤ r) && decide (r < 0xC000) && targetReg (r % 0x100))
    || (decide (0xC000 ≤ r) && decide (r < 0xC000 + 4 * nSlices s)) || (decide (0xC080 ≤ r) && decide (r < 0xC080 + 4 * nSlices s))

/-- A word-aligned offset of the time read window holds a register (R157). -/
def timeReg (r : Nat) : Bool :=
  decide (r ≤ 0x10) || (decide (0x20 ≤ r) && decide (r ≤ 0x2C)) || (decide (0x80 ≤ r) && decide (r < 0x100)) || (decide (0x100 ≤ r) && decide (r < 0x200) && decide (r % 0x40 ≤ 0x14))

/-- Something is mapped at a word of the window (R57). The pages whose tables say that offsets not listed read 0 are mapped whole. -/
def mapped (s : State) (a : Nat) : Bool :=
  match pageOf s a with
  | (.ident, r) => decide (r < 0x10)
  | (.mailbox, r) => decide (r < 0x218)
  | (.otd, r) => decide (r < 0x210) || (decide (0x300 ≤ r) && decide (r < 0x320))
  | (.time, r) => timeReg r
  | (.distributor, r) => distReg s r
  | (.doorbell, _) => true
  | (.doorbellExt, _) => true
  | (.dma, _) => true
  | (.power, _) => true
  | (.badger, _) => true
  | (.debug, _) => s.boot.debugEn
  | (.nothing, _) => false

/-! What the registers read as. -/

/-- Little-endian word of four bytes that a function gives. -/
def wordAt (f : Nat → Nat) (r : Nat) : Nat := f r + 2 ^ 8 * f (r + 1) + 2 ^ 16 * f (r + 2) + 2 ^ 24 * f (r + 3)

/-- A word of a command page. -/
def cmdWord (m : List Host.Cell) (r : Nat) : Nat := wordAt (fun i => (Memory.read m i).toNat) r

/-- A word of a response page: 0 before any response. -/
def rspWord (x : Option Response) (r : Nat) : Nat :=
  match x with
  | none => 0
  | some y => wordAt (byteAt (rspBytes y)) r

/-- The identity page (R4). -/
def identWord (s : State) (r : Nat) : Nat :=
  match r with
  | 0x0 => 0x5A4B0032
  | 0x4 => 0x00030002
  | 0x8 => nSlices s + 2 ^ 8 * nClusters s + 2 ^ 11 * b2n (gen2 s) + 2 ^ 12 * b2n (decide (nSlices s ≤ 4))
  | 0xC => 0x02 + 2 ^ 8 * 0x01 + 2 ^ 16 * 0x02 + 2 ^ 24 * 0x01
  | _ => 0

/-- The boot mailbox page (R83). -/
def mailboxWord (s : State) (r : Nat) : Nat :=
  if r < 0x100 then cmdWord s.mb.cmd r
  else if r < 0x200 then rspWord s.mb.rsp (r - 0x100)
  else match r with
    | 0x204 => b2n s.boot.ready + 2 * b2n s.mb.busy + 4 * b2n s.mb.done + 8 * b2n s.mb.goLost
    | 0x20C => b2n s.mb.doneIrq
    | 0x210 => s.boot.stage % 256 + 2 ^ 8 * (s.boot.err % 256) + 2 ^ 16 * b2n s.boot.warm
    | 0x214 => s.mb.lastTag.toNat
    | _ => 0

/-- OTD_STATUS_OUT (R72). -/
def otdStatusOut (s : State) : Nat :=
  if s.otd.start ≠ .ready then 0
  else match s.otd.sealSt with
    | .isUnsealed => 1
    | .isSealed => 2
    | .isBroken => 3

/-- The Otdiuri page (R400). -/
def otdWord (s : State) (r : Nat) : Nat :=
  let o := s.otd
  if r < 0x100 then cmdWord o.ocmd r
  else if r < 0x200 then rspWord o.orsp (r - 0x100)
  else match r with
    | 0x204 => b2n (decide (o.start ≠ .off)) + 2 * b2n o.busy + 4 * b2n o.done + 8 * b2n o.goLost
    | 0x20C => o.lastTag.toNat
    | 0x300 => otdStatusOut s + 4 * b2n o.key.isSome + 8 * b2n o.switch + 16 * b2n (logFull s) + 32 * b2n o.logLost + 64 * b2n o.authority
    | 0x304 => 0x01 + 2 ^ 8 * 0x02
    | 0x308 => s.time.discont.toNat + 2 ^ 16 * (o.ledger.length % 65536)
    | 0x30C => o.log.length + 2 ^ 16 * min 0xFFFF o.lost
    | 0x310 => o.logNext
    | 0x314 => o.pending.length
    | 0x318 => o.cons + 2 ^ 16 * b2n o.consWrap
    | 0x31C => match o.ring with
      | none => 0
      | some x => posWord x.size x.prod
    | _ => 0

/-- SERVO_LOCK (R157, R175, R360). A member that follows its domain is locked as its time state says; the servo of a PTP profile from the step that
restores lock until it invalidates TIME or stops running (log 23). -/
def servoLock (s : State) : Bool :=
  if followsDomain s then decide (s.sez.time = .locked)
  else servoRuns s && s.time.lock

/-- A snapshot slot (R157). -/
def snapWord (x : Snap) (r : Nat) : Nat :=
  match r with
  | 0x00 => x.time / 2 ^ 16 % 2 ^ 32
  | 0x04 => x.time / 2 ^ 48 % 2 ^ 32
  | 0x08 => x.time % 2 ^ 16 + 2 ^ 16 * b2n x.valid
  | 0x0C => x.raw / 2 ^ 16 % 2 ^ 32
  | 0x10 => x.raw / 2 ^ 48 % 2 ^ 32
  | 0x14 => x.raw % 2 ^ 16
  | _ => 0

/-- The time read window (R157). -/
def timeWord (s : State) (r : Nat) : Nat :=
  let t := s.time
  if 0x100 ≤ r && r < 0x200 then snapWord (t.snaps.getD ((r - 0x100) / 0x40) {}) (r % 0x40)
  else if 0x80 ≤ r && r < 0x100 then
    sumOf (fun p => if configured s (8 * (r - 0x80) + p) && portStale s (8 * (r - 0x80) + p) then 2 ^ p else 0) (List.range 32)
  else match r with
    | 0x00 => b2n t.valid + 2 * b2n t.uncertain + 4 * b2n s.otd.authority + 8 * b2n (servoLock s) + 2 ^ 16 * t.stepCount.toNat
    | 0x04 => nomInc s.build.owlHz
    | 0x08 => t.discInc.toNat % 2 ^ 32
    | 0x0C => t.discInc.toNat / 2 ^ 32
    | 0x10 => t.discont.toNat
    | 0x20 => t.ppsIn / 2 ^ 16 % 2 ^ 32
    | 0x24 => t.ppsIn / 2 ^ 48 % 2 ^ 32
    | 0x28 => t.ppsIn % 2 ^ 16 + 2 ^ 16 * b2n t.ppsValid + 2 ^ 24 * t.ppsSeq.toNat
    | 0x2C => t.ppsGlitch
    | _ => 0

/-- Bits 32k to 32k + 31 of a list of sources. -/
def listWord (l : List Nat) (k : Nat) : Nat := sumOf (fun i => if i / 32 = k then 2 ^ (i % 32) else 0) l

/-- What a target offers to a claim (R457). -/
def claimWord (q : Irq) (n : Nat) : Nat :=
  match winner q n with
  | some (id, prio) => id + 2 ^ 16 + prio * 2 ^ 24
  | none => 0x0FFF

/-- A register of a target's block (R454). -/
def targetWord (q : Irq) (n r : Nat) : Nat :=
  let t := tgtOf q n
  if 0x60 ≤ r && r < 0x80 then wordAt (fun i => privPrioOf t (i - 0x60)) r
  else match r with
    | 0x00 => b2n t.enable + 2 * b2n t.mode + 4 * t.bp
    | 0x04 => t.prioMask
    | 0x08 => claimWord q n
    | 0x10 => runningOf t + 2 ^ 16 * t.stack.length
    | 0x14 => t.wakeWait
    | 0x18 => t.msgAddr % 2 ^ 32
    | 0x1C => t.msgAddr / 2 ^ 32
    | 0x20 => t.msgData
    | 0x24 => t.spurious + 2 ^ 16 * t.eoiErr + 2 ^ 24 * t.fallbacks
    | 0x28 => claimWord q n % 2 ^ 17
    | 0x40 => t.privPend.toNat
    | 0x44 => t.privPend.toNat
    | 0x48 => t.privEn.toNat
    | 0x4C => t.privEn.toNat
    | 0x50 => t.privActive.toNat
    | _ => 0

/-- The distributor page (R447, R452, R453). -/
def distWord (s : State) (r : Nat) : Nat :=
  let q := s.irq
  let k := r % 0x200 / 4
  if 0xC080 ≤ r then (q.sliceLink.getD ((r - 0xC080) / 4) 0).toNat
  else if 0xC000 ≤ r then (q.sliceCause.getD ((r - 0xC000) / 4) 0).toNat
  else if 0x8000 ≤ r then targetWord q ((r - 0x8000) / 0x100) (r % 0x100)
  else if 0x4000 ≤ r then
    let c := srcCfgOf q ((r - 0x4000) / 4)
    c.prio + 2 ^ 8 * c.target + 2 ^ 16 * c.fallback
  else if 0x1A00 ≤ r then listWord q.diverted k
  else if 0x1800 ≤ r then listWord q.active k
  else if 0x1400 ≤ r then q.en.toNat / 2 ^ (32 * k) % 2 ^ 32
  else if 0x1000 ≤ r then listWord q.pend k
  else if r = 4 then 4096 + 2 ^ 16 * 64
  else b2n q.enable

/-- STATE of a channel as R438 numbers it. -/
def dmaCode : DmaState → Nat
  | .idle => 0
  | .busy => 1
  | .halted => 2
  | .aborting => 3

/-- A register of a set (R438). -/
def dmaSetWord (d : DmaSet) (r : Nat) : Nat :=
  match r with
  | 0x00 => d.src % 2 ^ 32
  | 0x04 => d.src / 2 ^ 32
  | 0x08 => d.dst % 2 ^ 32
  | 0x0C => d.dst / 2 ^ 32
  | 0x10 => d.len
  | 0x14 => d.flags.toNat
  | _ => 0

/-- A channel's page (R438). -/
def dmaWord (x : DmaCh) (r : Nat) : Nat :=
  if r < 0x20 then dmaSetWord x.shadow r
  else if r < 0x40 then dmaSetWord x.active (r - 0x20)
  else match r with
    | 0x44 => dmaCode x.st + 4 * b2n x.shadowValid
    | 0x48 => x.cause.toNat
    | 0x4C => x.retryMax
    | 0x50 => x.haltKind + 2 ^ 8 * x.hpiStatus
    | 0x54 => x.errAddr % 2 ^ 32
    | 0x58 => x.errAddr / 2 ^ 32
    | 0x5C => x.bytesDone
    | 0x60 => x.doneCount.toNat
    | _ => 0

/-- STATE of a domain as R484 numbers it. -/
def domCode : DomState → Nat
  | .run => 0
  | .nap => 1
  | .doze => 2
  | .off => 2

/-- A domain's word (R484). -/
def domWord (s : State) (d : Nat) : Nat :=
  let x := dom s d
  domCode x.st + 4 * b2n (decide (x.trans ≠ .none)) + 8 * b2n x.wakeFail + 16 * x.cause + 128 * b2n x.partner + 256 * x.target

/-- Owl log entry `i` (R484): the ring place that the newest entry with that number took. -/
def owlEntry (s : State) (i : Nat) : OwlEntry :=
  let back := (s.pwr.logTotal.toNat + 15 - i) % 16
  if back < s.pwr.log.length then s.pwr.log.getD (s.pwr.log.length - 1 - back) ⟨0, 0, 0, 0⟩ else ⟨0, 0, 0, 0⟩

/-- A word of an Owl log entry (R484). -/
def owlWord (x : OwlEntry) (r : Nat) : Nat :=
  match r with
  | 0x0 => x.code + 2 ^ 8 * x.domain + 2 ^ 16 * x.detail
  | 0x8 => x.time % 2 ^ 32
  | 0xC => x.time / 2 ^ 32 % 2 ^ 32
  | _ => 0

/-- The power and wake page (R484). -/
def powerWord (s : State) (r : Nat) : Nat :=
  let p := s.pwr
  if 0x800 ≤ r && r < 0x900 then owlWord (owlEntry s ((r - 0x800) / 16)) (r % 16)
  else if 0x100 ≤ r && r < 0x100 + 4 * 67 then domWord s ((r - 0x100) / 4)
  else match r with
    | 0x000 => blockCode p.block + 4 * b2n p.ldoLow + 8 * b2n p.vcoreMode + 16 * b2n p.regReady + 32 * b2n p.vretGood + 64 * b2n p.boPending
    | 0x008 => lastEntryWord s
    | 0x010 => wakeFailBits s % 2 ^ 32
    | 0x014 => wakeFailBits s / 2 ^ 32 % 2 ^ 32
    | 0x018 => wakeFailBits s / 2 ^ 64
    | 0x020 => p.boCount
    | 0x024 => p.lastBoUs % 2 ^ 32
    | 0x028 => p.lastBoNs % 2 ^ 32
    | 0x02C => p.lastBoNs / 2 ^ 32 % 2 ^ 32
    | 0x030 => p.logTotal.toNat % 16 + 2 ^ 16 * p.logTotal.toNat
    | _ => 0

/-- The Badger page (R503). -/
def badgerWord (s : State) (r : Nat) : Nat :=
  let b := s.badger
  if 0x100 ≤ r && r < 0x100 + 4 * 832 then unitWord s ((r - 0x100) / 4)
  else match r with
    | 0x000 =>
      b2n b.enabled + 2 * b2n ((unitsHere s).any (fun u => (unitRt s u).running) || !b.runs.isEmpty) + 4 * b2n b.window.isSome
        + 8 * b2n ((unitsHere s).any (unitOverdue s)) + 2 ^ 8 * min 255 ((unitsHere s).filter (fun u => (unitRt s u).isolated)).length
    | 0x004 => ((unitsHere s).filter (fun u => (unitRt s u).cycled)).length + 2 ^ 16 * (unitsHere s).length
    | 0x008 => b.cycles.toNat
    | 0x00C => if b.log.isEmpty then 0xFFFFFFFF else (b.seq + 0xFFFFFFFF) % 2 ^ 32
    | _ => 0

/-- What a mapped register holds, word by word, as a read without its read effect returns it (R20). A write-only register reads 0, and the
contents of a debug window are not in the manual. -/
def readWord (s : State) (a : Nat) : Nat :=
  match pageOf s a with
  | (.ident, r) => identWord s r
  | (.mailbox, r) => mailboxWord s r
  | (.otd, r) => otdWord s r
  | (.time, r) => timeWord s r
  | (.distributor, r) => distWord s r
  | (.doorbell, _) => 0
  | (.doorbellExt, _) => 0
  | (.dma, r) => dmaWord (dmaOf s (r / 0x100)) (r % 0x100)
  | (.power, r) => powerWord s r
  | (.badger, r) => badgerWord s r
  | (.debug, _) => 0
  | (.nothing, _) => 0

/-! REGISTER_WRITE. -/

/-- The state after an outcome that is a next state. -/
def after (o : Host.Outcome State Fault Refusal) (s : State) : State :=
  match o with
  | .next t => t
  | _ => s

/-- A write of a mailbox word (R83 to R85). -/
def mailboxWrite (r : Nat) (v : Word) (s : State) : State :=
  if r < 0x100 then after (execMbCmdWrite r (leB 4 v.toNat) s) s
  else match r with
    | 0x200 => after (execMbGo v s) s
    | 0x208 => after (execMbAck v s) s
    | 0x20C => atCtl (fun s => hptOk 0 { s with mb := { s.mb with doneIrq := v.getLsbD 0 } }) s
    | _ => atCtl (hptOk 0) s

/-- A write of a word of the Otdiuri page (R400, R401). -/
def otdWrite (r : Nat) (v : Word) (s : State) : State :=
  if r < 0x100 then hptOk 0 (if s.otd.locked then s else { s with otd := { s.otd with ocmd := pageWrite r (leB 4 v.toNat) s.otd.ocmd } })
  else match r with
    | 0x200 => after (execOmbGo v s) s
    | 0x208 => after (execOmbAck v s) s
    | 0x318 => after (execOringConsWrite v s) s
    | _ => hptOk 0 s

/-- A write of a target's plain registers (R454). -/
def targetSet (r : Nat) (v : Word) (t : Target) : Target :=
  let n := v.toNat
  if 0x60 ≤ r && r < 0x80 then
    { t with privPrio := (List.range 4).foldl (fun m j => KMap.set m (r - 0x60 + j) (n / 2 ^ (8 * j) % 256)) t.privPrio }
  else match r with
    | 0x00 => { t with enable := v.getLsbD 0, mode := v.getLsbD 1, bp := bitsN n 4 2 }
    | 0x04 => { t with prioMask := n % 256 }
    | 0x14 => { t with wakeWait := n % 65536 }
    | 0x18 => { t with msgAddr := t.msgAddr / 2 ^ 32 * 2 ^ 32 + n / 4 * 4 }
    | 0x1C => { t with msgAddr := n * 2 ^ 32 + t.msgAddr % 2 ^ 32 }
    | 0x20 => { t with msgData := n }
    | _ => t

/-- A write of a word of a target's block (R454, R458, R462). -/
def targetWrite (n r : Nat) (v : Word) (s : State) : State :=
  match r with
  | 0x0C => after (execEoi n v s) s
  | 0x40 => after (execPrivPendSet n v s) s
  | 0x44 => after (execPrivPendClr n v s) s
  | 0x48 => after (execPrivEnSet n v s) s
  | 0x4C => after (execPrivEnClr n v s) s
  | _ => atHst (privWrite n (targetSet r v)) s

/-- A write of a word of the distributor page (R452, R453). -/
def distWrite (r : Nat) (v : Word) (s : State) : State :=
  let k := r % 0x200 / 4
  if 0xC000 ≤ r then atHst (hptOk 0) s
  else if 0x8000 ≤ r then targetWrite ((r - 0x8000) / 0x100) (r % 0x100) v s
  else if 0x4000 ≤ r then after (execSrcCfgWrite ((r - 0x4000) / 4) v s) s
  else if 0x1800 ≤ r then atHst (hptOk 0) s
  else if 0x1600 ≤ r then after (execEnClr k v s) s
  else if 0x1400 ≤ r then after (execEnSet k v s) s
  else if 0x1200 ≤ r then after (execPendClr k v s) s
  else if 0x1000 ≤ r then after (execPendSet k v s) s
  else if r = 0 then atHst (fun s => hptOk 0 (settle (updIrq (fun q => { q with enable := v.getLsbD 0 }) s))) s
  else atHst (hptOk 0) s

/-- A write of a doorbell word (R405): +0x0 submission, +0x8 completion; the others are reserved. -/
def doorbellWrite (n r : Nat) (v : Word) (s : State) : State :=
  match r with
  | 0x0 => after (execSqDb n v s) s
  | 0x8 => after (execCqDb n v s) s
  | _ => atHst (hptOk 0) s

/-- A write of the command word of a channel (R438): the bits that are 1 act in their order. -/
def dmaCommand (c : Nat) (v : Word) (s : State) : State :=
  let s1 := if v.getLsbD 0 then after (execDmaGo c s) s else s
  let s2 := if v.getLsbD 1 then after (execDmaAbort c s1) s1 else s1
  let s3 := if v.getLsbD 2 then after (execDmaResume c s2) s2 else s2
  if v.getLsbD 3 then after (execDmaClear c s3) s3 else s3

/-- A write of a word of a channel's page (R438). -/
def dmaWrite (c r : Nat) (v : Word) (s : State) : State :=
  if r < 0x18 then after (execDmaShadowWrite c r v s) s
  else match r with
    | 0x40 => atHst (fun s => hptOk 0 (dmaCommand c v s)) s
    | 0x4C => atHst (fun s => hptOk 0 (updDma c (fun x => { x with retryMax := v.toNat % 8 }) s)) s
    | _ => atHst (hptOk 0) s

/-- A write of a word of the power and wake page (R484): the bits of the word at +0x004 act in their order. -/
def powerWrite (r : Nat) (v : Word) (s : State) : State :=
  if r = 4 then
    let s1 := if v.getLsbD 0 then after (execWakeReq s) s else s
    let s2 := if v.getLsbD 1 then after (execRetryFailed s1) s1 else s1
    hptOk 0 (if v.getLsbD 2 then after (execBoAck s2) s2 else s2)
  else hptOk 0 s

/-- A write of one mapped word under its access code (R20). -/
def writeWord (a : Nat) (v : Word) (s : State) : State :=
  match pageOf s a with
  | (.ident, _) => hptOk 0 s
  | (.mailbox, r) => mailboxWrite r v s
  | (.otd, r) => otdWrite r v s
  | (.time, _) => hptOk 0 s
  | (.distributor, r) => distWrite r v s
  | (.doorbell, r) => doorbellWrite (r / 16) (r % 16) v s
  | (.doorbellExt, r) => doorbellWrite (4096 + r / 16) (r % 16) v s
  | (.dma, r) => dmaWrite (r / 0x100) (r % 0x100) v s
  | (.power, r) => powerWrite r v s
  | (.badger, _) => atHst (hptOk 0) s
  | (.debug, _) => s
  | (.nothing, _) => s

/-- The words that a request's byte enables name, low word first (R55). -/
def requestWords (a : Nat) (be : BitVec 8) (data : BitVec 64) : List (Nat × Word) :=
  (if be.getLsbD 0 then [(a, data.setWidth 32)] else []) ++ (if be.getLsbD 7 then [(a + 4, (data >>> 32).setWidth 32)] else [])

/-- The read effect of a word whose read changes it, which is a row of its own (R157, R158, R438, R447, R454, R457). -/
def readEffect (s : State) (a : Nat) : Option (Host.Outcome State Fault Refusal) :=
  match pageOf s a with
  | (.time, r) => if 0x100 ≤ r && r % 0x40 = 0 then some (execSnapTimeLoRead ((r - 0x100) / 0x40) false s) else if r = 0x2C then some (execPpsGlitchRead s) else none
  | (.distributor, r) =>
    if 0xC080 ≤ r then some (execSliceLinkRead ((r - 0xC080) / 4) s)
    else if 0xC000 ≤ r then some (execSliceCauseRead ((r - 0xC000) / 4) s)
    else if 0x8000 ≤ r && r % 0x100 = 8 then some (execClaim ((r - 0x8000) / 0x100) s)
    else if 0x8000 ≤ r && r % 0x100 = 0x24 then some (execTargetCountsRead ((r - 0x8000) / 0x100) s)
    else none
  | (.dma, r) => if r % 0x100 = 0x48 then some (execChCauseRead (r / 0x100) s) else none
  | _ => none

/-- The data of the response given last. -/
def lastData (s : State) : Nat :=
  match s.hpt.rsp.getLast? with
  | some x => x.data
  | none => 0

/-- Read one mapped word, with its read effect (R20). -/
def readOne (a : Nat) (s : State) : Nat × State :=
  match readEffect s a with
  | some o => let t := after o s; (lastData t, { t with hpt := s.hpt })
  | none => (readWord s a, s)

/-- HPT_RSP_RDATA of a read: each word that the byte enables name in its own half (R55). -/
def readWords (a : Nat) (be : BitVec 8) (s : State) : Nat × State :=
  let lo := if be.getLsbD 0 then readOne a s else (0, s)
  let hi := if be.getLsbD 7 then readOne (a + 4) lo.2 else (0, lo.2)
  (lo.1 + 2 ^ 32 * hi.1, hi.2)

/-- A page that OWL, or OTD, serves: an access to it never wakes HST (R4, R57, R157, R373, R484). -/
def owlServed : Page → Bool
  | .ident | .otd | .time | .power => true
  | .mailbox | .distributor | .doorbell | .doorbellExt | .dma | .badger | .debug | .nothing => false

/-- A request that can be answered now (R20, R55, R57, R77): ERR for byte enables that are not allowed and for a debug window while DEBUG_EN is 0, NOADDR
where nothing is mapped; else OK, each word read or written under its access code. What stands in a debug window, and what a write to it does there, is
not in the manual: a read returns a free value, and the effect of a write is left out (log 112). -/
def runRequest (q : HptReq) (s : State) : State :=
  let a := q.addr % 2 ^ 26 / 8 * 8
  let words := requestWords a q.be q.data
  if q.be ≠ 0x0F && q.be ≠ 0xF0 && q.be ≠ 0xFF then hptErr s
  else if (pageOf s a).1 = .debug then
    (if !s.boot.debugEn then hptErr s
    else if q.write then hptOk 0 s
    else hptOk (Config.debugRead s.fresh).toNat { s with fresh := s.fresh + 1 })
  else if !words.all (fun w => mapped s w.1) then hptAnswer 2 0 s
  else if q.write then hptOk 0 { words.foldl (fun s w => writeWord w.1 w.2 s) s with hpt := s.hpt }
  else
    let r := readWords a q.be s
    hptOk r.1 r.2

/-- One request on HPT (R55 to R57). One outside the Owl-served pages waits until HST, and of the boot mailbox CTL, has woken, and is
answered ERR when it fails to. -/
def hptRequest (q : HptReq) (s0 : State) : Host.Outcome State Fault Refusal :=
  let s := { s0 with hpt := { s0.hpt with tag := q.id % 64 } }
  let page := (pageOf s (q.addr % 2 ^ 26 / 8 * 8)).1
  let ctl := decide (page = .mailbox)
  .next (if owlServed page then runRequest q s
    else if !hptServed ctl s then hptDefer (.request q) ctl s
    else if (dom s 66).wakeFail || (ctl && (dom s 65).wakeFail) then hptErr s
    else atHst (runRequest q) s)

/-- REGISTER_WRITE (R20, R55): the request that the HPT inputs carry, a write when `write` is set. -/
def execRegisterWrite (addr : Nat) (be : BitVec 8) (data : BitVec 64) (s : State) (write : Bool := true) (id : Nat := 0) : Host.Outcome State Fault Refusal :=
  hptRequest ⟨addr, write, be, data, id⟩ s

end Sys2Proof.Machine
end

