-- ==== Sys2Proof/Machine/Replay.lean ====
section
/-! DEFINITION. The journal after a reset (R88, R93, R119): firmware executes again each journalled command that is not marked done. -/

namespace Sys2Proof.Machine

/-- The meanings of a class's commands, by opcode. -/
abbrev Meanings := List (Nat × (Env → State → Host.Outcome State Fault Refusal))

/-- Class 0x01. A field that selects one of several commands gives any other value to the last of them, which refuses it. -/
def meansSys : Meanings := [
  (0x0101, execSysInfo),
  (0x0102, execSysAdminqSet),
  (0x0103, fun e s => if byteAt e.payload 0 = 0 then execSysResetWarm e s else if byteAt e.payload 0 = 1 then execSysResetCold e s else if byteAt e.payload 0 = 2 then execSysResetSlice e s else execSysResetCtl e s),
  (0x0104, execSysEventCfg),
  (0x0105, execSysJournalStatus),
  (0x0106, execSysNop),
  (0x0107, execSysPatchLoad)]

/-- Class 0x02. A field that selects one of several commands gives any other value to the last of them, which refuses it. -/
def meansQuad : Meanings := [
  (0x0201, execQuadOpen),
  (0x0202, execQuadCheck),
  (0x0203, fun e s => if byteAt e.payload 2 = 0 then execQuadApplyNow e s else if byteAt e.payload 2 = 1 then execQuadApplyAtTime e s else execQuadApplyAtDomain e s),
  (0x0204, execQuadAbort),
  (0x0205, execQuadStatus)]

/-- Class 0x03. A field that selects one of several commands gives any other value to the last of them, which refuses it. -/
def meansPort : Meanings := [
  (0x0301, execPortCfg),
  (0x0302, fun e s => if byteAt e.payload 2 = 0 then execPortAdminDown e s else execPortAdminUp e s),
  (0x0303, execPortStatus),
  (0x0304, execPortCounters),
  (0x0305, execPortFc),
  (0x0306, execPortPreempt),
  (0x0307, execPortEee),
  (0x0308, execPortWakeFilter),
  (0x0309, execPortLinkHold)]

/-- Class 0x04. A field that selects one of several commands gives any other value to the last of them, which refuses it. -/
def meansParse : Meanings := [
  (0x0401, execParseNodeSet),
  (0x0402, execParseNodeGet),
  (0x0403, execParseGraphDefault),
  (0x0404, execParseCounters)]

/-- Class 0x05. A field that selects one of several commands gives any other value to the last of them, which refuses it. -/
def meansTable : Meanings := [
  (0x0501, execTableCreate),
  (0x0502, execTableDelete),
  (0x0503, execEntryWrite),
  (0x0504, execEntryDelete),
  (0x0505, execEntryRead),
  (0x0506, execKeyProfileSet),
  (0x0507, execTableDump)]

/-- Class 0x06. A field that selects one of several commands gives any other value to the last of them, which refuses it. -/
def meansEz : Meanings := [
  (0x0601, fun e s => if byteAt e.payload 2 = 0 then execProgLoad e s else execProgUnload e s),
  (0x0602, fun e s => if byteAt e.payload 2 = 0 then execProgBindMap e s else execProgBindDefault e s),
  (0x0603, execEngineStatus),
  (0x0604, execEngineReset),
  (0x0605, execConstSet),
  (0x0606, execScratchRead)]

/-- Class 0x07. A field that selects one of several commands gives any other value to the last of them, which refuses it. -/
def meansBuf : Meanings := [
  (0x0701, execPoolCreate),
  (0x0702, execPoolDelete),
  (0x0703, execFlowMinSet),
  (0x0704, execSharedLimitSet),
  (0x0705, execBufStatus),
  (0x0706, execCutThroughSet)]

/-- Class 0x08. A field that selects one of several commands gives any other value to the last of them, which refuses it. -/
def meansFwd : Meanings := [
  (0x0801, fun e s => if byteAt e.payload 0 = 0 then execVlanSetVlan e s else execVlanSetPort e s),
  (0x0802, execMacAdd),
  (0x0803, execMacDelete),
  (0x0804, execMacFlush),
  (0x0805, fun e s => if byteAt e.payload 0 = 0 then execLearnCfgGlobal e s else execLearnCfgPort e s),
  (0x0806, execMcastGroupSet),
  (0x0807, execLagSet),
  (0x0808, execMacDump)]

/-- Class 0x09. A field that selects one of several commands gives any other value to the last of them, which refuses it. -/
def meansTm : Meanings := [
  (0x0901, execQueueMapSet),
  (0x0902, execSchedSet),
  (0x0903, execShaperSet),
  (0x0904, execPolicerSet),
  (0x0905, execStreamFilterSet),
  (0x0906, execSampleCfg),
  (0x0907, execTmStatus)]

/-- Class 0x0A. A field that selects one of several commands gives any other value to the last of them, which refuses it. -/
def meansGate : Meanings := [
  (0x0A01, execGateListSet),
  (0x0A02, fun e s => if byteAt e.payload 2 = 0 then execGateEnableOff e s else execGateEnableOn e s),
  (0x0A03, execGateStatus),
  (0x0A04, execGateOverheadSet)]

/-- Class 0x0B. A field that selects one of several commands gives any other value to the last of them, which refuses it. -/
def meansFlow : Meanings := [
  (0x0B01, execFlowAdd),
  (0x0B02, execFlowModify),
  (0x0B03, execFlowDelete),
  (0x0B04, execFlowRead),
  (0x0B05, execFlowCounters),
  (0x0B06, execPrpHsrSet)]

/-- Class 0x0C. A field that selects one of several commands gives any other value to the last of them, which refuses it. -/
def meansTime : Meanings := [
  (0x0C01, execStampPortCfg),
  (0x0C02, execCalRecordSet),
  (0x0C03, execCalRun),
  (0x0C04, execPtpPortCfg),
  (0x0C05, execTimerSet),
  (0x0C06, execPpsCfg),
  (0x0C07, execSyntCfg)]

/-- Class 0x0D. A field that selects one of several commands gives any other value to the last of them, which refuses it. -/
def meansSezal : Meanings := [
  (0x0D01, execSezalCfg),
  (0x0D02, execDomainPortSet),
  (0x0D03, execSezalStatus),
  (0x0D04, execSezalMembers),
  (0x0D05, fun e s => if byteAt e.payload 2 = 0 then execSezalResyncFollow e s else if byteAt e.payload 2 = 1 then execSezalResyncForceApply e s else execSezalResyncForceDiscard e s),
  (0x0D06, execKeeperPrioSet)]

/-- Class 0x0E. A field that selects one of several commands gives any other value to the last of them, which refuses it. -/
def meansHq : Meanings := [
  (0x0E01, execRingCreate),
  (0x0E02, execQpCreate),
  (0x0E03, execCqCreate),
  (0x0E04, fun e s => if byteAt e.payload 3 = 0 then execQueueDisable e s else if byteAt e.payload 3 = 1 then execQueueEnable e s else execQueueDestroy e s),
  (0x0E05, execQueueReset),
  (0x0E06, execQueueStatus),
  (0x0E07, execRxFilterSet),
  (0x0E08, execRssSet),
  (0x0E09, execOffloadSet)]

/-- Class 0x0F. A field that selects one of several commands gives any other value to the last of them, which refuses it. -/
def meansPwr : Meanings := [
  (0x0F01, execPwrStateSet),
  (0x0F02, execHibernate),
  (0x0F03, execWakeSrcSet),
  (0x0F04, execPwrStatus),
  (0x0F05, execDrainLimitSet)]

/-- Class 0x10. A field that selects one of several commands gives any other value to the last of them, which refuses it. -/
def meansBadger : Meanings := [
  (0x1001, execBadgerCfg),
  (0x1002, execBadgerWindow),
  (0x1004, execBadgerStatus),
  (0x1005, execLoopbackCal)]

/-- Class 0x11. A field that selects one of several commands gives any other value to the last of them, which refuses it. -/
def meansCap : Meanings := [
  (0x1101, execFoxtrotRingSet),
  (0x1102, execCapRuleSet),
  (0x1103, execMirrorSet),
  (0x1104, execCapEnable)]

/-- Class 0x12. A field that selects one of several commands gives any other value to the last of them, which refuses it. -/
def meansDiag : Meanings := [
  (0x1201, execMemRead),
  (0x1202, execErrCounters),
  (0x1203, execFaultLog),
  (0x1204, execIsolate)]

/-- The meanings of the commands of the admin queue by opcode; BADGER_RUN and RESTORE, whose hardware result is an operand of their rows, are not here. -/
def meanings : Meanings :=
  meansSys ++ meansQuad ++ meansPort ++ meansParse ++ meansTable ++ meansEz ++ meansBuf ++ meansFwd ++ meansTm
    ++ meansGate ++ meansFlow ++ meansTime ++ meansSezal ++ meansHq ++ meansPwr ++ meansBadger ++ meansCap ++ meansDiag

/-- Execute a journalled command (R93); one that firmware does not know is BAD_OPCODE (R98). -/
def runJournalled (j : JEntry) (s : State) : State :=
  match meanings.find? (fun m => decide (m.1 = j.opcode)) with
  | some m => (match m.2 j.env s with | .next t => t | _ => s)
  | none => if j.opcode ∈ knownOps then s else ifTurn j.env (respond j.env j.opcode badOpV) s

/-- Commands that the reset found not done and that firmware has still to take up (R93). -/
def replayTodo (s : State) : List JEntry := (journalTodo s).filter JEntry.again

/-- Execute journalled commands in queue order, as far as they go: one whose response is still to come, or whose own row carries what the hardware
answers, holds up the rest. -/
def replayFrom : Nat → State → State
  | 0, s => s
  | k + 1, s => match replayTodo s with
    | [] => s
    | j :: _ => replayFrom k (runJournalled j s)

/-- Write again, after a control-pair reset, the completions of the admin queue that HPI has not acknowledged (R93); a warm reset has written them. -/
def rewriteAdmin (s : State) : State :=
  if s.adm.lastReset = 2 then (s.hq.open'.filter (fun o => decide (o.queue = 0))).foldl (fun s o => hpiWrite o.addr o.bytes s) s else s

/-- JOURNAL_REPLAY (R88, R93, R119): once firmware is ready, it executes every journalled command that the reset found not done, in queue order, and
writes each completion that is not in host memory. It goes on fetching when all of them have completed. -/
def execJournalReplay (s : State) : Host.Outcome State Fault Refusal :=
  .next (if !s.adm.replayOwed || !s.boot.ready then s
    else
      let s1 := replayFrom 64 s
      if !(replayTodo s1).isEmpty || commandRuns s1 then s1
      else
        let s2 := rewriteAdmin s1
        { s2 with adm := { s2.adm with
          replayOwed := false, rewritten := (s2.adm.journal.filter (fun j => j.done && !j.again && !j.acked)).length } })

end Sys2Proof.Machine
end

