-- ==== Sys2Proof/Machine/Dispatch.lean ====
section
/-! DEFINITION. One arm per command or event: a direct call of its meaning. -/

namespace Sys2Proof.Machine

/-- The effect of one command or event on everything but the queue that it came from. -/
def exec (i : Instr) (s : State) : Host.Outcome State Fault Refusal :=
  match i with
  | .sysInfo e => Sys2Proof.Machine.execSysInfo e s
  | .sysAdminqSet e => Sys2Proof.Machine.execSysAdminqSet e s
  | .sysResetWarm e => Sys2Proof.Machine.execSysResetWarm e s
  | .sysResetCold e => Sys2Proof.Machine.execSysResetCold e s
  | .sysResetSlice e => Sys2Proof.Machine.execSysResetSlice e s
  | .sysResetCtl e => Sys2Proof.Machine.execSysResetCtl e s
  | .sysEventCfg e => Sys2Proof.Machine.execSysEventCfg e s
  | .sysJournalStatus e => Sys2Proof.Machine.execSysJournalStatus e s
  | .sysNop e => Sys2Proof.Machine.execSysNop e s
  | .sysPatchLoad e => Sys2Proof.Machine.execSysPatchLoad e s
  | .quadOpen e => Sys2Proof.Machine.execQuadOpen e s
  | .quadCheck e => Sys2Proof.Machine.execQuadCheck e s
  | .quadApplyNow e => Sys2Proof.Machine.execQuadApplyNow e s
  | .quadApplyAtTime e => Sys2Proof.Machine.execQuadApplyAtTime e s
  | .quadApplyAtDomain e => Sys2Proof.Machine.execQuadApplyAtDomain e s
  | .quadAbort e => Sys2Proof.Machine.execQuadAbort e s
  | .quadStatus e => Sys2Proof.Machine.execQuadStatus e s
  | .portCfg e => Sys2Proof.Machine.execPortCfg e s
  | .portAdminUp e => Sys2Proof.Machine.execPortAdminUp e s
  | .portAdminDown e => Sys2Proof.Machine.execPortAdminDown e s
  | .portStatus e => Sys2Proof.Machine.execPortStatus e s
  | .portCounters e => Sys2Proof.Machine.execPortCounters e s
  | .portFc e => Sys2Proof.Machine.execPortFc e s
  | .portPreempt e => Sys2Proof.Machine.execPortPreempt e s
  | .portEee e => Sys2Proof.Machine.execPortEee e s
  | .portWakeFilter e => Sys2Proof.Machine.execPortWakeFilter e s
  | .portLinkHold e => Sys2Proof.Machine.execPortLinkHold e s
  | .parseNodeSet e => Sys2Proof.Machine.execParseNodeSet e s
  | .parseNodeGet e => Sys2Proof.Machine.execParseNodeGet e s
  | .parseGraphDefault e => Sys2Proof.Machine.execParseGraphDefault e s
  | .parseCounters e => Sys2Proof.Machine.execParseCounters e s
  | .tableCreate e => Sys2Proof.Machine.execTableCreate e s
  | .tableDelete e => Sys2Proof.Machine.execTableDelete e s
  | .entryWrite e => Sys2Proof.Machine.execEntryWrite e s
  | .entryDelete e => Sys2Proof.Machine.execEntryDelete e s
  | .entryRead e => Sys2Proof.Machine.execEntryRead e s
  | .keyProfileSet e => Sys2Proof.Machine.execKeyProfileSet e s
  | .tableDump e => Sys2Proof.Machine.execTableDump e s
  | .progLoad e => Sys2Proof.Machine.execProgLoad e s
  | .progUnload e => Sys2Proof.Machine.execProgUnload e s
  | .progBindMap e => Sys2Proof.Machine.execProgBindMap e s
  | .progBindDefault e => Sys2Proof.Machine.execProgBindDefault e s
  | .engineStatus e => Sys2Proof.Machine.execEngineStatus e s
  | .engineReset e => Sys2Proof.Machine.execEngineReset e s
  | .constSet e => Sys2Proof.Machine.execConstSet e s
  | .scratchRead e => Sys2Proof.Machine.execScratchRead e s
  | .poolCreate e => Sys2Proof.Machine.execPoolCreate e s
  | .poolDelete e => Sys2Proof.Machine.execPoolDelete e s
  | .flowMinSet e => Sys2Proof.Machine.execFlowMinSet e s
  | .sharedLimitSet e => Sys2Proof.Machine.execSharedLimitSet e s
  | .bufStatus e => Sys2Proof.Machine.execBufStatus e s
  | .cutThroughSet e => Sys2Proof.Machine.execCutThroughSet e s
  | .vlanSetVlan e => Sys2Proof.Machine.execVlanSetVlan e s
  | .vlanSetPort e => Sys2Proof.Machine.execVlanSetPort e s
  | .macAdd e => Sys2Proof.Machine.execMacAdd e s
  | .macDelete e => Sys2Proof.Machine.execMacDelete e s
  | .macFlush e => Sys2Proof.Machine.execMacFlush e s
  | .learnCfgGlobal e => Sys2Proof.Machine.execLearnCfgGlobal e s
  | .learnCfgPort e => Sys2Proof.Machine.execLearnCfgPort e s
  | .mcastGroupSet e => Sys2Proof.Machine.execMcastGroupSet e s
  | .lagSet e => Sys2Proof.Machine.execLagSet e s
  | .macDump e => Sys2Proof.Machine.execMacDump e s
  | .queueMapSet e => Sys2Proof.Machine.execQueueMapSet e s
  | .schedSet e => Sys2Proof.Machine.execSchedSet e s
  | .shaperSet e => Sys2Proof.Machine.execShaperSet e s
  | .policerSet e => Sys2Proof.Machine.execPolicerSet e s
  | .streamFilterSet e => Sys2Proof.Machine.execStreamFilterSet e s
  | .sampleCfg e => Sys2Proof.Machine.execSampleCfg e s
  | .tmStatus e => Sys2Proof.Machine.execTmStatus e s
  | .gateListSet e => Sys2Proof.Machine.execGateListSet e s
  | .gateEnableOn e => Sys2Proof.Machine.execGateEnableOn e s
  | .gateEnableOff e => Sys2Proof.Machine.execGateEnableOff e s
  | .gateStatus e => Sys2Proof.Machine.execGateStatus e s
  | .gateOverheadSet e => Sys2Proof.Machine.execGateOverheadSet e s
  | .flowAdd e => Sys2Proof.Machine.execFlowAdd e s
  | .flowModify e => Sys2Proof.Machine.execFlowModify e s
  | .flowDelete e => Sys2Proof.Machine.execFlowDelete e s
  | .flowRead e => Sys2Proof.Machine.execFlowRead e s
  | .flowCounters e => Sys2Proof.Machine.execFlowCounters e s
  | .prpHsrSet e => Sys2Proof.Machine.execPrpHsrSet e s
  | .stampPortCfg e => Sys2Proof.Machine.execStampPortCfg e s
  | .calRecordSet e => Sys2Proof.Machine.execCalRecordSet e s
  | .calRun e => Sys2Proof.Machine.execCalRun e s
  | .ptpPortCfg e => Sys2Proof.Machine.execPtpPortCfg e s
  | .timerSet e => Sys2Proof.Machine.execTimerSet e s
  | .ppsCfg e => Sys2Proof.Machine.execPpsCfg e s
  | .syntCfg e => Sys2Proof.Machine.execSyntCfg e s
  | .sezalCfg e => Sys2Proof.Machine.execSezalCfg e s
  | .domainPortSet e => Sys2Proof.Machine.execDomainPortSet e s
  | .sezalStatus e => Sys2Proof.Machine.execSezalStatus e s
  | .sezalMembers e => Sys2Proof.Machine.execSezalMembers e s
  | .sezalResyncFollow e => Sys2Proof.Machine.execSezalResyncFollow e s
  | .sezalResyncForceApply e => Sys2Proof.Machine.execSezalResyncForceApply e s
  | .sezalResyncForceDiscard e => Sys2Proof.Machine.execSezalResyncForceDiscard e s
  | .keeperPrioSet e => Sys2Proof.Machine.execKeeperPrioSet e s
  | .ringCreate e => Sys2Proof.Machine.execRingCreate e s
  | .qpCreate e => Sys2Proof.Machine.execQpCreate e s
  | .cqCreate e => Sys2Proof.Machine.execCqCreate e s
  | .queueDisable e => Sys2Proof.Machine.execQueueDisable e s
  | .queueEnable e => Sys2Proof.Machine.execQueueEnable e s
  | .queueDestroy e => Sys2Proof.Machine.execQueueDestroy e s
  | .queueReset e => Sys2Proof.Machine.execQueueReset e s
  | .queueStatus e => Sys2Proof.Machine.execQueueStatus e s
  | .rxFilterSet e => Sys2Proof.Machine.execRxFilterSet e s
  | .rssSet e => Sys2Proof.Machine.execRssSet e s
  | .offloadSet e => Sys2Proof.Machine.execOffloadSet e s
  | .pwrStateSet e => Sys2Proof.Machine.execPwrStateSet e s
  | .hibernate e => Sys2Proof.Machine.execHibernate e s
  | .wakeSrcSet e => Sys2Proof.Machine.execWakeSrcSet e s
  | .pwrStatus e => Sys2Proof.Machine.execPwrStatus e s
  | .drainLimitSet e => Sys2Proof.Machine.execDrainLimitSet e s
  | .badgerCfg e => Sys2Proof.Machine.execBadgerCfg e s
  | .badgerWindow e => Sys2Proof.Machine.execBadgerWindow e s
  | .badgerRun e outcome us => Sys2Proof.Machine.execBadgerRun e outcome us s
  | .badgerStatus e => Sys2Proof.Machine.execBadgerStatus e s
  | .loopbackCal e => Sys2Proof.Machine.execLoopbackCal e s
  | .foxtrotRingSet e => Sys2Proof.Machine.execFoxtrotRingSet e s
  | .capRuleSet e => Sys2Proof.Machine.execCapRuleSet e s
  | .mirrorSet e => Sys2Proof.Machine.execMirrorSet e s
  | .capEnable e => Sys2Proof.Machine.execCapEnable e s
  | .memRead e => Sys2Proof.Machine.execMemRead e s
  | .errCounters e => Sys2Proof.Machine.execErrCounters e s
  | .faultLog e => Sys2Proof.Machine.execFaultLog e s
  | .isolate e => Sys2Proof.Machine.execIsolate e s
  | .restore e outcome => Sys2Proof.Machine.execRestore e outcome s
  | .osysInfo e => Sys2Proof.Machine.execOsysInfo e s
  | .osysStatus e => Sys2Proof.Machine.execOsysStatus e s
  | .otimeRead e => Sys2Proof.Machine.execOtimeRead e s
  | .otimeSetInc e => Sys2Proof.Machine.execOtimeSetInc e s
  | .otimeStep e => Sys2Proof.Machine.execOtimeStep e s
  | .otimeAuthority e => Sys2Proof.Machine.execOtimeAuthority e s
  | .omapSet e => Sys2Proof.Machine.execOmapSet e s
  | .omapRead e => Sys2Proof.Machine.execOmapRead e s
  | .omapClear e => Sys2Proof.Machine.execOmapClear e s
  | .orecordRingSet e => Sys2Proof.Machine.execOrecordRingSet e s
  | .orecordInterval e => Sys2Proof.Machine.execOrecordInterval e s
  | .orecordStatus e => Sys2Proof.Machine.execOrecordStatus e s
  | .osealStatus e => Sys2Proof.Machine.execOsealStatus e s
  | .osealSeal e => Sys2Proof.Machine.execOsealSeal e s
  | .osealUnseal e => Sys2Proof.Machine.execOsealUnseal e s
  | .ologRead e => Sys2Proof.Machine.execOlogRead e s
  | .ologAck e => Sys2Proof.Machine.execOlogAck e s
  | .mbGo data => Sys2Proof.Machine.execMbGo data s
  | .mbAck data => Sys2Proof.Machine.execMbAck data s
  | .mbCmdWrite off data => Sys2Proof.Machine.execMbCmdWrite off data s
  | .mbCommandDone => Sys2Proof.Machine.execMbCommandDone s
  | .ombGo data => Sys2Proof.Machine.execOmbGo data s
  | .ombAck data => Sys2Proof.Machine.execOmbAck data s
  | .oringConsWrite data => Sys2Proof.Machine.execOringConsWrite data s
  | .snapTimeLoRead slot wide => Sys2Proof.Machine.execSnapTimeLoRead slot wide s
  | .ppsGlitchRead => Sys2Proof.Machine.execPpsGlitchRead s
  | .registerWrite addr be data write id => Sys2Proof.Machine.execRegisterWrite addr be data s write id
  | .sqDb queue data => Sys2Proof.Machine.execSqDb queue data s
  | .cqDb ring data => Sys2Proof.Machine.execCqDb ring data s
  | .entryFetch queue entry => Sys2Proof.Machine.execEntryFetch queue entry s
  | .phaseRetry queue entry => Sys2Proof.Machine.execPhaseRetry queue entry s
  | .tx queue => Sys2Proof.Machine.execTx queue s
  | .nop queue => Sys2Proof.Machine.execNop queue s
  | .alloc queue same => Sys2Proof.Machine.execAlloc queue s same
  | .share queue same => Sys2Proof.Machine.execShare queue s same
  | .release queue same => Sys2Proof.Machine.execRelease queue s same
  | .handover queue same => Sys2Proof.Machine.execHandover queue s same
  | .free queue same => Sys2Proof.Machine.execFree queue s same
  | .headWb queue => Sys2Proof.Machine.execHeadWb queue s
  | .headWbAck queue => Sys2Proof.Machine.execHeadWbAck queue s
  | .completionWrite queue pos => Sys2Proof.Machine.execCompletionWrite queue pos s
  | .completionAck queue pos => Sys2Proof.Machine.execCompletionAck queue pos s
  | .txHostInject queue => Sys2Proof.Machine.execTxHostInject queue s
  | .rxDispatch port q => Sys2Proof.Machine.execRxDispatch port q s
  | .rxWaitExpiry port q => Sys2Proof.Machine.execRxWaitExpiry port q s
  | .rxFrame frame => Sys2Proof.Machine.execRxFrame frame s
  | .strayWord slice lane sub => Sys2Proof.Machine.execStrayWord slice lane sub s
  | .pauseExpiry port prio => Sys2Proof.Machine.execPauseExpiry port prio s
  | .denDrain slice => Sys2Proof.Machine.execDenDrain slice s
  | .classify slice faults => Sys2Proof.Machine.execClassify slice faults s
  | .cellWrite slice banks => Sys2Proof.Machine.execCellWrite slice s banks
  | .xoffRefresh port prio => Sys2Proof.Machine.execXoffRefresh port prio s
  | .admitFrame slice reads => Sys2Proof.Machine.execAdmit slice s reads
  | .handoff frame slice reads => Sys2Proof.Machine.execHandoff frame slice s reads
  | .gapTimeout slice flow => Sys2Proof.Machine.execGapTimeout slice flow s
  | .schedRelease port reads => Sys2Proof.Machine.execSchedRelease port reads s
  | .e3Pass port faults => Sys2Proof.Machine.execE3Pass port faults s
  | .txStart port tx => Sys2Proof.Machine.execTxStart port tx s
  | .txDone port => Sys2Proof.Machine.execTxDone port s
  | .txStomp port cause => Sys2Proof.Machine.execTxStomp port cause s
  | .txHint port hint early => Sys2Proof.Machine.execTxHint port hint s early
  | .hintMissing port => Sys2Proof.Machine.execHintMissing port s
  | .stall port => Sys2Proof.Machine.execStall port s
  | .doneLogConsume slice => Sys2Proof.Machine.execDoneLogConsume slice s
  | .sliceCoreRecover slice => Sys2Proof.Machine.execSliceCoreRecover slice s
  | .ageScan slice => Sys2Proof.Machine.execAgeScan slice s
  | .lpiEnter port => Sys2Proof.Machine.execLpiEnter port s
  | .lpiExit port => Sys2Proof.Machine.execLpiExit port s
  | .preemptVerify port event => Sys2Proof.Machine.execPreemptVerify port event s
  | .linkFault port stat => Sys2Proof.Machine.execLinkFault port stat s
  | .linkFaultClear port => Sys2Proof.Machine.execLinkFaultClear port s
  | .linkUp port => Sys2Proof.Machine.execLinkUp port s
  | .linkHoldExpiry port => Sys2Proof.Machine.execLinkHoldExpiry port s
  | .learnApply => Sys2Proof.Machine.execLearnApply s
  | .macAgeScan => Sys2Proof.Machine.execMacAgeScan s
  | .freezeExpiry fid mac => Sys2Proof.Machine.execFreezeExpiry fid mac s
  | .mcastStoreExpiry slice frame => Sys2Proof.Machine.execMcastStoreExpiry slice frame s
  | .sample port => Sys2Proof.Machine.execSample port s
  | .foxtrotRecordWrite ring => Sys2Proof.Machine.execFoxtrotRecordWrite ring s
  | .foxtrotConsPoll ring word => Sys2Proof.Machine.execFoxtrotConsPoll ring word s
  | .coalesceTimer kind id => Sys2Proof.Machine.execCoalesceTimer kind id s
  | .owlTick skewed => Sys2Proof.Machine.execOwlTick skewed s
  | .servoInc inc => Sys2Proof.Machine.execServoInc inc s
  | .servoStep amount valid invalidate => Sys2Proof.Machine.execServoStep amount valid invalidate s
  | .timerFire timer => Sys2Proof.Machine.execTimerFire timer s
  | .ppsInEdge sixteenths => Sys2Proof.Machine.execPpsInEdge sixteenths s
  | .ppsOutEdge => Sys2Proof.Machine.execPpsOutEdge s
  | .ppsOutFall => Sys2Proof.Machine.execPpsOutFall s
  | .calEval temps => Sys2Proof.Machine.execCalEval temps s
  | .thermEval readings => Sys2Proof.Machine.execThermEval readings s
  | .calRequestRx port reqId t2 => Sys2Proof.Machine.execCalRequestRx port reqId t2 s
  | .calRequestTx port => Sys2Proof.Machine.execCalRequestTx port s
  | .calReplyRx port reply => Sys2Proof.Machine.execCalReplyRx port reply s
  | .calExchangeTimeout port => Sys2Proof.Machine.execCalExchangeTimeout port s
  | .calFail port => Sys2Proof.Machine.execCalFail port s
  | .quadArmed set => Sys2Proof.Machine.execQuadArmed set s
  | .quadFlip set => Sys2Proof.Machine.execQuadFlip set s
  | .normalise set => Sys2Proof.Machine.execNormalise set s
  | .quadIdleLimit set => Sys2Proof.Machine.execQuadIdleLimit set s
  | .gateListStart port => Sys2Proof.Machine.execGateListStart port s
  | .gateEntry port => Sys2Proof.Machine.execGateEntry port s
  | .holdAssert port => Sys2Proof.Machine.execHoldAssert port s
  | .helloTx port => Sys2Proof.Machine.execHelloTx port s
  | .helloRx port frame => Sys2Proof.Machine.execHelloRx port frame s
  | .adjacencyTimeout port => Sys2Proof.Machine.execAdjacencyTimeout port s
  | .memberTx => Sys2Proof.Machine.execMemberTx s
  | .memberRx port frame => Sys2Proof.Machine.execMemberRx port frame s
  | .leaveRx port frame => Sys2Proof.Machine.execLeaveRx port frame s
  | .memberAge inst => Sys2Proof.Machine.execMemberAge inst s
  | .syncReqTx t1 => Sys2Proof.Machine.execSyncReqTx t1 s
  | .syncReqRx port frame t2 => Sys2Proof.Machine.execSyncReqRx port frame t2 s
  | .syncRespRx port frame t4 => Sys2Proof.Machine.execSyncRespRx port frame t4 s
  | .holdoverExpiry => Sys2Proof.Machine.execHoldoverExpiry s
  | .proposeRepeat => Sys2Proof.Machine.execProposeRepeat s
  | .proposeRx port frame => Sys2Proof.Machine.execProposeRx port frame s
  | .voteRepeat => Sys2Proof.Machine.execVoteRepeat s
  | .voteRx port frame => Sys2Proof.Machine.execVoteRx port frame s
  | .voteDeadline => Sys2Proof.Machine.execVoteDeadline s
  | .outcomeRepeat => Sys2Proof.Machine.execOutcomeRepeat s
  | .outcomeRx port frame => Sys2Proof.Machine.execOutcomeRx port frame s
  | .outcomeQueryRx port frame => Sys2Proof.Machine.execOutcomeQueryRx port frame s
  | .applyTimeNoOutcome set => Sys2Proof.Machine.execApplyTimeNoOutcome set s
  | .intervalBoundary => Sys2Proof.Machine.execIntervalBoundary s
  | .tapSummary summary => Sys2Proof.Machine.execTapSummary summary s
  | .otdRecordWriteAck => Sys2Proof.Machine.execOtdRecordWriteAck s
  | .otdRecordRetry => Sys2Proof.Machine.execOtdRecordRetry s
  | .unsealBlockExpiry => Sys2Proof.Machine.execUnsealBlockExpiry s
  | .sealSwitchChange level => Sys2Proof.Machine.execSealSwitchChange level s
  | .otdPowerOn romOk level => Sys2Proof.Machine.execOtdPowerOn romOk level s
  | .keyWord word => Sys2Proof.Machine.execKeyWord word s
  | .keyTimeout => Sys2Proof.Machine.execKeyTimeout s
  | .powerOnReset => Sys2Proof.Machine.execPowerOnReset s
  | .coldReset => Sys2Proof.Machine.execColdReset s
  | .warmReset => Sys2Proof.Machine.execWarmReset s
  | .boot result => Sys2Proof.Machine.execBoot result s
  | .journalReplay => Sys2Proof.Machine.execJournalReplay s
  | .debugEnChange level => Sys2Proof.Machine.execDebugEnChange level s
  | .vretLost => Sys2Proof.Machine.execVretLost s
  | .pllFault pair pll => Sys2Proof.Machine.execPllFault pair pll s
  | .brownOut => Sys2Proof.Machine.execBrownOut s
  | .brownOutEnd => Sys2Proof.Machine.execBrownOutEnd s
  | .wakeReq => Sys2Proof.Machine.execWakeReq s
  | .retryFailed => Sys2Proof.Machine.execRetryFailed s
  | .boAck => Sys2Proof.Machine.execBoAck s
  | .autoSleepAsk domain => Sys2Proof.Machine.execAutoSleepAsk domain s
  | .askAnswer domain block answer => Sys2Proof.Machine.execAskAnswer domain block answer s
  | .drainTimeout domain => Sys2Proof.Machine.execDrainTimeout domain s
  | .badgerDelayEnd domain => Sys2Proof.Machine.execBadgerDelayEnd domain s
  | .sleepEntry domain => Sys2Proof.Machine.execSleepEntry domain s
  | .pswLate domain => Sys2Proof.Machine.execPswLate domain s
  | .wake domain => Sys2Proof.Machine.execWake domain s
  | .pswAck domain => Sys2Proof.Machine.execPswAck domain s
  | .regReady => Sys2Proof.Machine.execRegReady s
  | .pllLock => Sys2Proof.Machine.execPllLock s
  | .wakeTimeout domain step => Sys2Proof.Machine.execWakeTimeout domain step s
  | .owlLatchEdge source => Sys2Proof.Machine.execOwlLatchEdge source s
  | .dmaGo ch => Sys2Proof.Machine.execDmaGo ch s
  | .dmaShadowWrite ch off data => Sys2Proof.Machine.execDmaShadowWrite ch off data s
  | .dmaLoad ch => Sys2Proof.Machine.execDmaLoad ch s
  | .dmaZeroLenDone ch => Sys2Proof.Machine.execDmaZeroLenDone ch s
  | .dmaBurstResponse ch burst => Sys2Proof.Machine.execDmaBurstResponse ch burst s
  | .dmaAbort ch => Sys2Proof.Machine.execDmaAbort ch s
  | .dmaResume ch => Sys2Proof.Machine.execDmaResume ch s
  | .dmaClear ch => Sys2Proof.Machine.execDmaClear ch s
  | .chCauseRead ch => Sys2Proof.Machine.execChCauseRead ch s
  | .sliceCauseRead slice => Sys2Proof.Machine.execSliceCauseRead slice s
  | .sliceLinkRead slice => Sys2Proof.Machine.execSliceLinkRead slice s
  | .eventTake => Sys2Proof.Machine.execEventTake s
  | .eventEoi slice cause => Sys2Proof.Machine.execEventEoi slice cause s
  | .claim target => Sys2Proof.Machine.execClaim target s
  | .eoi target data => Sys2Proof.Machine.execEoi target data s
  | .pendSet k data => Sys2Proof.Machine.execPendSet k data s
  | .pendClr k data => Sys2Proof.Machine.execPendClr k data s
  | .enSet k data => Sys2Proof.Machine.execEnSet k data s
  | .enClr k data => Sys2Proof.Machine.execEnClr k data s
  | .srcCfgWrite source data => Sys2Proof.Machine.execSrcCfgWrite source data s
  | .privPendSet target data => Sys2Proof.Machine.execPrivPendSet target data s
  | .privPendClr target data => Sys2Proof.Machine.execPrivPendClr target data s
  | .privEnSet target data => Sys2Proof.Machine.execPrivEnSet target data s
  | .privEnClr target data => Sys2Proof.Machine.execPrivEnClr target data s
  | .targetCountsRead target => Sys2Proof.Machine.execTargetCountsRead target s
  | .tgtAwakeChange target level => Sys2Proof.Machine.execTgtAwakeChange target level s
  | .wakeWaitExpiry source => Sys2Proof.Machine.execWakeWaitExpiry source s
  | .msgWriteRetry target => Sys2Proof.Machine.execMsgWriteRetry target s
  | .badgerSlot unit outcome => Sys2Proof.Machine.execBadgerSlot unit outcome s
  | .badgerOverdue unit => Sys2Proof.Machine.execBadgerOverdue unit s
  | .badgerWindowEnd => Sys2Proof.Machine.execBadgerWindowEnd s
  | .relocateDone unit lost => Sys2Proof.Machine.execRelocateDone unit lost s
  | .rebuildDone unit => Sys2Proof.Machine.execRebuildDone unit s
  | .engineFault engine fault => Sys2Proof.Machine.execEngineFault engine fault s
  | .engineResetDone engine => Sys2Proof.Machine.execEngineResetDone engine s
  | .sliceCoreFault slice => Sys2Proof.Machine.execSliceCoreFault slice s
  | .lockstepMismatch => Sys2Proof.Machine.execLockstepMismatch s
  | .ctlRestartDone => Sys2Proof.Machine.execCtlRestartDone s
  | .controlRamFault => Sys2Proof.Machine.execControlRamFault s
  | .vretGoodRestored => Sys2Proof.Machine.execVretGoodRestored s
  | .testAccess => Sys2Proof.Machine.execTestAccess s
  | .resyncFollowTimeout => Sys2Proof.Machine.execResyncFollowTimeout s
  | .duplicateEntryForget node sa => Sys2Proof.Machine.execDuplicateEntryForget node sa s
  | .partnerLpi port level => Sys2Proof.Machine.execPartnerLpi port level s

end Sys2Proof.Machine
end

