-- ==== Sys2Proof/Machine/Wait.lean ====
section
/-! DEFINITION. What the block does while no command waits: it answers the oldest HPT request that waited for HST (R57). -/

namespace Sys2Proof.Machine

/-- The meaning of an access that waited: that of its row. -/
def runAccess (i : HptAccess) (s : State) : Host.Outcome State Fault Refusal :=
  match i with
  | .request q => hptRequest q s
  | .mbGo data => execMbGo data s
  | .mbAck data => execMbAck data s
  | .mbCmdWrite off data => execMbCmdWrite off data s
  | .sqDb n data => execSqDb n data s
  | .cqDb r data => execCqDb r data s
  | .dmaGo c => execDmaGo c s
  | .dmaShadowWrite c off data => execDmaShadowWrite c off data s
  | .dmaAbort c => execDmaAbort c s
  | .dmaResume c => execDmaResume c s
  | .dmaClear c => execDmaClear c s
  | .chCauseRead c => execChCauseRead c s
  | .sliceCauseRead sl => execSliceCauseRead sl s
  | .sliceLinkRead sl => execSliceLinkRead sl s
  | .claim n => execClaim n s
  | .eoi n data => execEoi n data s
  | .pendSet k data => execPendSet k data s
  | .pendClr k data => execPendClr k data s
  | .enSet k data => execEnSet k data s
  | .enClr k data => execEnClr k data s
  | .srcCfgWrite i data => execSrcCfgWrite i data s
  | .privPendSet n data => execPrivPendSet n data s
  | .privPendClr n data => execPrivPendClr n data s
  | .privEnSet n data => execPrivEnSet n data s
  | .privEnClr n data => execPrivEnClr n data s
  | .targetCountsRead n => execTargetCountsRead n s

/-- The oldest request that waits is answered once HST has woken, or has failed to (R56, R57; DESIGN CHOICE, log 112); else the block idles. -/
def answerWaiting (s : State) : Host.Outcome State Fault Refusal :=
  match s.hpt.waiting with
  | [] => .next s
  | x :: rest =>
    if !(dom s 66).wakeFail && (dom s 66).st ≠ .run then .next s
    else match runAccess x.2 { s with hpt := { s.hpt with tag := x.1, waiting := [] } } with
      | .next t => .next { t with hpt := { t.hpt with tag := s.hpt.tag, waiting := t.hpt.waiting ++ rest } }
      | o => o

end Sys2Proof.Machine
end

