-- ==== Sys2Proof/Machine/Step.lean ====
section
/-! DEFINITION. One step: the command at the front of the queue runs; on an empty queue the block answers a host request that waited for HST, and idles
when none does (DESIGN CHOICE, log 1: the clock's ticks are the table's own row OWL_TICK, so an idle step changes nothing). -/

namespace Sys2Proof.Machine

/-- One step: take the command at the front and run it on the state with the queue's rest; when none waits, see to what waits inside. -/
def step (s : State) : Host.Outcome State Fault Refusal :=
  match s.pending with
  | [] => answerWaiting s
  | i :: rest => exec i { s with pending := rest }

/-- `s` with the command that a table word spells put at the front of its queue; `s` itself when the word spells none. -/
def State.withFetchWord (s : State) (nbits w : Nat) : State :=
  match decodeTableWord nbits w with
  | none => s
  | some i => { s with pending := i :: s.pending }

end Sys2Proof.Machine
end

