-- ==== Sys2Proof/Safety.lean ====
section
/-! DEFINITION. What counts as a safe run, and the terms that the claims use: parts of the state, what a command may change, stageable commands,
control messages. -/

namespace Sys2Proof.Machine

/-- The outcome is a next state. -/
def goesOn (o : Host.Outcome State Fault Refusal) : Bool :=
  match o with
  | .next _ => true
  | .fault _ => false
  | .refused _ => false

/-- A state from which the next step goes on. -/
def State.safe (s : State) : Prop := goesOn (step s) = true

/-- Every cell of a command page lies in the page, and the page is in canonical form (R83, R400). -/
def pageOk (m : List Host.Cell) : Prop := Memory.wf m = true ∧ ∀ c, c ∈ m → c.1 < 256

/-- The invariant: both mailbox command pages are in canonical form and hold nothing beyond their 256 bytes. -/
def State.Inv (s : State) : Prop := pageOk s.mb.cmd ∧ pageOk s.otd.ocmd

/-- The parts of the state, but for the build and the queue. -/
inductive StatePart where
  | mb
  | boot
  | adm
  | quad
  | bank0
  | bank1
  | tables
  | ports
  | slices
  | buf
  | tm
  | gate
  | flows
  | cap
  | eng
  | time
  | otd
  | sez
  | hq
  | dma
  | irq
  | pwr
  | badger
  | ctr
  | hpt
  | out
  | fresh
deriving DecidableEq, Repr

/-- Two states agree on a part. -/
def State.agree (p : StatePart) (s t : State) : Prop :=
  match p with
  | .mb => t.mb = s.mb
  | .boot => t.boot = s.boot
  | .adm => t.adm = s.adm
  | .quad => t.quad = s.quad
  | .bank0 => t.bank0 = s.bank0
  | .bank1 => t.bank1 = s.bank1
  | .tables => t.tables = s.tables
  | .ports => t.ports = s.ports
  | .slices => t.slices = s.slices
  | .buf => t.buf = s.buf
  | .tm => t.tm = s.tm
  | .gate => t.gate = s.gate
  | .flows => t.flows = s.flows
  | .cap => t.cap = s.cap
  | .eng => t.eng = s.eng
  | .time => t.time = s.time
  | .otd => t.otd = s.otd
  | .sez => t.sez = s.sez
  | .hq => t.hq = s.hq
  | .dma => t.dma = s.dma
  | .irq => t.irq = s.irq
  | .pwr => t.pwr = s.pwr
  | .badger => t.badger = s.badger
  | .ctr => t.ctr = s.ctr
  | .hpt => t.hpt = s.hpt
  | .out => t.out = s.out
  | .fresh => t.fresh = s.fresh

/-- The parts of the state that a command may change; a cold reset, a power-on reset, a register request and the replay of the journal may change any. -/
def mayChange (i : Instr) : List StatePart :=
  match i with
  | .sysInfo _ => [.mb, .adm, .otd, .hq, .out]
  | .sysAdminqSet _ => [.mb, .adm, .otd, .hq, .out]
  | .sysResetWarm _ => [.mb, .boot, .adm, .otd, .hq, .out]
  | .sysResetCold _ => [.mb, .boot, .adm, .otd, .hq, .out]
  | .sysResetSlice _ => [.mb, .adm, .ports, .slices, .buf, .tm, .cap, .otd, .hq, .pwr, .badger, .ctr, .out]
  | .sysResetCtl _ => [.mb, .boot, .adm, .quad, .eng, .otd, .sez, .hq, .irq, .pwr, .badger, .out]
  | .sysEventCfg _ => [.mb, .boot, .adm, .otd, .hq, .out]
  | .sysJournalStatus _ => [.mb, .adm, .otd, .hq, .out]
  | .sysNop _ => [.mb, .adm, .otd, .hq, .out]
  | .sysPatchLoad _ => [.mb, .boot, .adm, .otd, .hq, .out]
  | .quadOpen _ => [.mb, .adm, .quad, .otd, .hq, .out, .fresh]
  | .quadCheck _ => [.mb, .adm, .quad, .bank0, .bank1, .tables, .ports, .slices, .buf, .tm, .gate, .flows, .cap, .otd, .hq, .irq, .pwr, .ctr, .out, .fresh]
  | .quadApplyNow _ => [.mb, .adm, .quad, .bank0, .bank1, .tables, .ports, .slices, .buf, .tm, .gate, .flows, .cap, .otd, .hq, .irq, .pwr, .ctr, .out, .fresh]
  | .quadApplyAtTime _ => [.mb, .adm, .quad, .bank0, .bank1, .tables, .ports, .slices, .buf, .tm, .gate, .flows, .cap, .otd, .hq, .irq, .pwr, .ctr, .out, .fresh]
  | .quadApplyAtDomain _ => [.mb, .adm, .quad, .bank0, .bank1, .tables, .ports, .slices, .buf, .tm, .gate, .flows, .cap, .otd, .sez, .hq, .irq, .pwr, .ctr, .out, .fresh]
  | .quadAbort _ => [.mb, .adm, .quad, .bank0, .bank1, .tables, .ports, .otd, .sez, .hq, .irq, .pwr, .ctr, .out]
  | .quadStatus _ => [.mb, .adm, .quad, .otd, .hq, .out]
  | .portCfg _ => [.mb, .adm, .quad, .bank0, .bank1, .ports, .slices, .buf, .tm, .gate, .flows, .cap, .otd, .hq, .irq, .pwr, .ctr, .out, .fresh]
  | .portAdminUp _ => [.mb, .adm, .ports, .otd, .hq, .pwr, .out]
  | .portAdminDown _ => [.mb, .adm, .tables, .ports, .slices, .buf, .tm, .cap, .time, .otd, .sez, .hq, .irq, .pwr, .ctr, .out, .fresh]
  | .portStatus _ => [.mb, .adm, .otd, .hq, .out]
  | .portCounters _ => [.mb, .adm, .ports, .otd, .hq, .ctr, .out]
  | .portFc _ => [.mb, .adm, .quad, .bank0, .bank1, .ports, .slices, .buf, .tm, .gate, .flows, .cap, .otd, .hq, .irq, .pwr, .ctr, .out, .fresh]
  | .portPreempt _ => [.mb, .adm, .quad, .bank0, .bank1, .ports, .slices, .buf, .tm, .gate, .flows, .cap, .otd, .hq, .irq, .pwr, .ctr, .out, .fresh]
  | .portEee _ => [.mb, .adm, .quad, .bank0, .bank1, .ports, .slices, .buf, .tm, .gate, .flows, .cap, .otd, .hq, .irq, .pwr, .ctr, .out, .fresh]
  | .portWakeFilter _ => [.mb, .adm, .quad, .bank0, .bank1, .ports, .slices, .buf, .tm, .gate, .flows, .cap, .otd, .hq, .irq, .pwr, .ctr, .out, .fresh]
  | .portLinkHold _ => [.mb, .adm, .quad, .bank0, .bank1, .ports, .slices, .buf, .tm, .gate, .flows, .cap, .otd, .hq, .irq, .pwr, .ctr, .out, .fresh]
  | .parseNodeSet _ => [.mb, .adm, .quad, .bank0, .bank1, .ports, .slices, .buf, .tm, .gate, .flows, .cap, .otd, .hq, .irq, .pwr, .ctr, .out, .fresh]
  | .parseNodeGet _ => [.mb, .adm, .otd, .hq, .out]
  | .parseGraphDefault _ => [.mb, .adm, .quad, .bank0, .bank1, .ports, .slices, .buf, .tm, .gate, .flows, .cap, .otd, .hq, .irq, .pwr, .ctr, .out, .fresh]
  | .parseCounters _ => [.mb, .adm, .otd, .hq, .ctr, .out]
  | .tableCreate _ => [.mb, .adm, .tables, .otd, .hq, .out, .fresh]
  | .tableDelete _ => [.mb, .adm, .tables, .otd, .hq, .out]
  | .entryWrite _ => [.mb, .adm, .quad, .bank0, .bank1, .tables, .ports, .slices, .buf, .tm, .gate, .flows, .cap, .otd, .hq, .irq, .pwr, .ctr, .out, .fresh]
  | .entryDelete _ => [.mb, .adm, .quad, .bank0, .bank1, .tables, .ports, .slices, .buf, .tm, .gate, .flows, .cap, .otd, .hq, .irq, .pwr, .ctr, .out, .fresh]
  | .entryRead _ => [.mb, .adm, .otd, .hq, .out]
  | .keyProfileSet _ => [.mb, .adm, .quad, .bank0, .bank1, .ports, .slices, .buf, .tm, .gate, .flows, .cap, .otd, .hq, .irq, .pwr, .ctr, .out, .fresh]
  | .tableDump _ => [.mb, .adm, .otd, .hq, .out]
  | .progLoad _ => [.mb, .adm, .eng, .otd, .hq, .out, .fresh]
  | .progUnload _ => [.mb, .adm, .eng, .otd, .hq, .out]
  | .progBindMap _ => [.mb, .adm, .quad, .bank0, .bank1, .ports, .slices, .buf, .tm, .gate, .flows, .cap, .otd, .hq, .irq, .pwr, .ctr, .out, .fresh]
  | .progBindDefault _ => [.mb, .adm, .quad, .bank0, .bank1, .ports, .slices, .buf, .tm, .gate, .flows, .cap, .otd, .hq, .irq, .pwr, .ctr, .out, .fresh]
  | .engineStatus _ => [.mb, .adm, .otd, .hq, .ctr, .out]
  | .engineReset _ => [.mb, .adm, .tables, .ports, .slices, .buf, .tm, .flows, .cap, .eng, .time, .otd, .sez, .hq, .irq, .pwr, .badger, .ctr, .out, .fresh]
  | .constSet _ => [.mb, .adm, .quad, .bank0, .bank1, .ports, .slices, .buf, .tm, .gate, .flows, .cap, .otd, .hq, .irq, .pwr, .ctr, .out, .fresh]
  | .scratchRead _ => [.mb, .adm, .eng, .otd, .hq, .out]
  | .poolCreate _ => [.mb, .adm, .buf, .otd, .hq, .out, .fresh]
  | .poolDelete _ => [.mb, .adm, .buf, .otd, .hq, .out]
  | .flowMinSet _ => [.mb, .adm, .quad, .bank0, .bank1, .ports, .slices, .buf, .tm, .gate, .flows, .cap, .otd, .hq, .irq, .pwr, .ctr, .out, .fresh]
  | .sharedLimitSet _ => [.mb, .adm, .quad, .bank0, .bank1, .ports, .slices, .buf, .tm, .gate, .flows, .cap, .otd, .hq, .irq, .pwr, .ctr, .out, .fresh]
  | .bufStatus _ => [.mb, .adm, .otd, .hq, .ctr, .out]
  | .cutThroughSet _ => [.mb, .adm, .quad, .bank0, .bank1, .ports, .slices, .buf, .tm, .gate, .flows, .cap, .otd, .hq, .irq, .pwr, .ctr, .out, .fresh]
  | .vlanSetVlan _ => [.mb, .adm, .quad, .bank0, .bank1, .ports, .slices, .buf, .tm, .gate, .flows, .cap, .otd, .hq, .irq, .pwr, .ctr, .out, .fresh]
  | .vlanSetPort _ => [.mb, .adm, .quad, .bank0, .bank1, .ports, .slices, .buf, .tm, .gate, .flows, .cap, .otd, .hq, .irq, .pwr, .ctr, .out, .fresh]
  | .macAdd _ => [.mb, .adm, .quad, .bank0, .bank1, .tables, .ports, .slices, .buf, .tm, .gate, .flows, .cap, .otd, .hq, .irq, .pwr, .ctr, .out, .fresh]
  | .macDelete _ => [.mb, .adm, .quad, .bank0, .bank1, .tables, .ports, .slices, .buf, .tm, .gate, .flows, .cap, .otd, .hq, .irq, .pwr, .ctr, .out, .fresh]
  | .macFlush _ => [.mb, .adm, .tables, .otd, .hq, .irq, .pwr, .ctr, .out, .fresh]
  | .learnCfgGlobal _ => [.mb, .adm, .quad, .bank0, .bank1, .tables, .ports, .slices, .buf, .tm, .gate, .flows, .cap, .otd, .hq, .irq, .pwr, .ctr, .out, .fresh]
  | .learnCfgPort _ => [.mb, .adm, .quad, .bank0, .bank1, .ports, .slices, .buf, .tm, .gate, .flows, .cap, .otd, .hq, .irq, .pwr, .ctr, .out, .fresh]
  | .mcastGroupSet _ => [.mb, .adm, .quad, .bank0, .bank1, .ports, .slices, .buf, .tm, .gate, .flows, .cap, .otd, .hq, .irq, .pwr, .ctr, .out, .fresh]
  | .lagSet _ => [.mb, .adm, .quad, .bank0, .bank1, .tables, .ports, .slices, .buf, .tm, .gate, .flows, .cap, .otd, .hq, .irq, .pwr, .ctr, .out, .fresh]
  | .macDump _ => [.mb, .adm, .otd, .hq, .out]
  | .queueMapSet _ => [.mb, .adm, .quad, .bank0, .bank1, .ports, .slices, .buf, .tm, .gate, .flows, .cap, .otd, .hq, .irq, .pwr, .ctr, .out, .fresh]
  | .schedSet _ => [.mb, .adm, .quad, .bank0, .bank1, .ports, .slices, .buf, .tm, .gate, .flows, .cap, .otd, .hq, .irq, .pwr, .ctr, .out, .fresh]
  | .shaperSet _ => [.mb, .adm, .quad, .bank0, .bank1, .ports, .slices, .buf, .tm, .gate, .flows, .cap, .otd, .hq, .irq, .pwr, .ctr, .out, .fresh]
  | .policerSet _ => [.mb, .adm, .quad, .bank0, .bank1, .ports, .slices, .buf, .tm, .gate, .flows, .cap, .otd, .hq, .irq, .pwr, .ctr, .out, .fresh]
  | .streamFilterSet _ => [.mb, .adm, .quad, .bank0, .bank1, .ports, .slices, .buf, .tm, .gate, .flows, .cap, .otd, .hq, .irq, .pwr, .ctr, .out, .fresh]
  | .sampleCfg _ => [.mb, .adm, .quad, .bank0, .bank1, .ports, .slices, .buf, .tm, .gate, .flows, .cap, .otd, .hq, .irq, .pwr, .ctr, .out, .fresh]
  | .tmStatus _ => [.mb, .adm, .tm, .otd, .hq, .ctr, .out]
  | .gateListSet _ => [.mb, .adm, .quad, .bank0, .bank1, .ports, .slices, .buf, .tm, .gate, .flows, .cap, .otd, .hq, .irq, .pwr, .ctr, .out, .fresh]
  | .gateEnableOn _ => [.mb, .adm, .quad, .bank0, .bank1, .ports, .slices, .buf, .tm, .gate, .flows, .cap, .otd, .hq, .irq, .pwr, .ctr, .out, .fresh]
  | .gateEnableOff _ => [.mb, .adm, .quad, .bank0, .bank1, .ports, .slices, .buf, .tm, .gate, .flows, .cap, .otd, .hq, .irq, .pwr, .ctr, .out, .fresh]
  | .gateStatus _ => [.mb, .adm, .otd, .hq, .ctr, .out]
  | .gateOverheadSet _ => [.mb, .adm, .quad, .bank0, .bank1, .ports, .slices, .buf, .tm, .gate, .flows, .cap, .otd, .hq, .irq, .pwr, .ctr, .out, .fresh]
  | .flowAdd _ => [.mb, .adm, .quad, .bank0, .bank1, .tables, .ports, .slices, .buf, .tm, .gate, .flows, .cap, .otd, .hq, .irq, .pwr, .ctr, .out, .fresh]
  | .flowModify _ => [.mb, .adm, .quad, .bank0, .bank1, .ports, .slices, .buf, .tm, .gate, .flows, .cap, .otd, .hq, .irq, .pwr, .ctr, .out, .fresh]
  | .flowDelete _ => [.mb, .adm, .quad, .bank0, .bank1, .tables, .ports, .slices, .buf, .tm, .gate, .flows, .cap, .otd, .hq, .irq, .pwr, .ctr, .out, .fresh]
  | .flowRead _ => [.mb, .adm, .otd, .hq, .out]
  | .flowCounters _ => [.mb, .adm, .flows, .otd, .hq, .ctr, .out]
  | .prpHsrSet _ => [.mb, .adm, .quad, .bank0, .bank1, .ports, .slices, .buf, .tm, .gate, .flows, .cap, .otd, .hq, .irq, .pwr, .ctr, .out, .fresh]
  | .stampPortCfg _ => [.mb, .adm, .quad, .bank0, .bank1, .ports, .slices, .buf, .tm, .gate, .flows, .cap, .otd, .hq, .irq, .pwr, .ctr, .out, .fresh]
  | .calRecordSet _ => [.mb, .adm, .ports, .otd, .hq, .out]
  | .calRun _ => [.mb, .adm, .otd, .hq, .badger, .out]
  | .ptpPortCfg _ => [.mb, .adm, .quad, .bank0, .bank1, .ports, .slices, .buf, .tm, .gate, .flows, .cap, .time, .otd, .hq, .irq, .pwr, .ctr, .out, .fresh]
  | .timerSet _ => [.mb, .adm, .time, .otd, .hq, .out]
  | .ppsCfg _ => [.mb, .adm, .time, .otd, .hq, .out]
  | .syntCfg _ => [.mb, .adm, .time, .otd, .hq, .out]
  | .sezalCfg _ => [.mb, .adm, .bank0, .bank1, .ports, .time, .otd, .sez, .hq, .irq, .pwr, .ctr, .out]
  | .domainPortSet _ => [.mb, .adm, .quad, .bank0, .bank1, .ports, .slices, .buf, .tm, .gate, .flows, .cap, .time, .otd, .sez, .hq, .irq, .pwr, .ctr, .out, .fresh]
  | .sezalStatus _ => [.mb, .adm, .otd, .hq, .ctr, .out]
  | .sezalMembers _ => [.mb, .adm, .otd, .hq, .out]
  | .sezalResyncFollow _ => [.mb, .adm, .ports, .otd, .sez, .hq, .ctr, .out]
  | .sezalResyncForceApply _ => [.mb, .adm, .quad, .otd, .sez, .hq, .out]
  | .sezalResyncForceDiscard _ => [.mb, .adm, .quad, .bank0, .bank1, .tables, .otd, .sez, .hq, .irq, .pwr, .out]
  | .keeperPrioSet _ => [.mb, .adm, .time, .otd, .sez, .hq, .irq, .pwr, .out]
  | .ringCreate _ => [.mb, .adm, .otd, .hq, .out, .fresh]
  | .qpCreate _ => [.mb, .adm, .otd, .hq, .out, .fresh]
  | .cqCreate _ => [.mb, .adm, .otd, .hq, .out, .fresh]
  | .queueDisable _ => [.mb, .adm, .otd, .hq, .out]
  | .queueEnable _ => [.mb, .adm, .otd, .hq, .irq, .pwr, .ctr, .out]
  | .queueDestroy _ => [.mb, .adm, .otd, .hq, .out]
  | .queueReset _ => [.mb, .adm, .ports, .slices, .buf, .otd, .hq, .ctr, .out]
  | .queueStatus _ => [.mb, .adm, .otd, .hq, .ctr, .out]
  | .rxFilterSet _ => [.mb, .adm, .quad, .bank0, .bank1, .ports, .slices, .buf, .tm, .gate, .flows, .cap, .otd, .hq, .irq, .pwr, .ctr, .out, .fresh]
  | .rssSet _ => [.mb, .adm, .quad, .bank0, .bank1, .ports, .slices, .buf, .tm, .gate, .flows, .cap, .otd, .hq, .irq, .pwr, .ctr, .out, .fresh]
  | .offloadSet _ => [.mb, .adm, .quad, .bank0, .bank1, .ports, .slices, .buf, .tm, .gate, .flows, .cap, .otd, .hq, .irq, .pwr, .ctr, .out, .fresh]
  | .pwrStateSet _ => [.mb, .adm, .ports, .otd, .hq, .irq, .pwr, .ctr, .out]
  | .hibernate _ => [.mb, .adm, .ports, .otd, .hq, .irq, .pwr, .ctr, .out]
  | .wakeSrcSet _ => [.mb, .adm, .otd, .hq, .pwr, .out]
  | .pwrStatus _ => [.mb, .adm, .slices, .otd, .hq, .irq, .pwr, .out]
  | .drainLimitSet _ => [.mb, .adm, .otd, .hq, .pwr, .out]
  | .badgerCfg _ => [.mb, .adm, .otd, .hq, .badger, .out]
  | .badgerWindow _ => [.mb, .adm, .otd, .hq, .badger, .out]
  | .badgerRun _ _ _ => [.mb, .adm, .tables, .ports, .slices, .buf, .tm, .flows, .cap, .eng, .time, .otd, .sez, .hq, .irq, .pwr, .badger, .ctr, .out, .fresh]
  | .badgerStatus _ => [.mb, .adm, .otd, .hq, .out]
  | .loopbackCal _ => [.mb, .adm, .otd, .hq, .badger, .out]
  | .foxtrotRingSet _ => [.mb, .adm, .cap, .otd, .hq, .out]
  | .capRuleSet _ => [.mb, .adm, .quad, .bank0, .bank1, .ports, .slices, .buf, .tm, .gate, .flows, .cap, .otd, .hq, .irq, .pwr, .ctr, .out, .fresh]
  | .mirrorSet _ => [.mb, .adm, .quad, .bank0, .bank1, .ports, .slices, .buf, .tm, .gate, .flows, .cap, .otd, .hq, .irq, .pwr, .ctr, .out, .fresh]
  | .capEnable _ => [.mb, .adm, .quad, .bank0, .bank1, .ports, .slices, .buf, .tm, .gate, .flows, .cap, .otd, .hq, .irq, .pwr, .ctr, .out, .fresh]
  | .memRead _ => [.mb, .adm, .otd, .hq, .out, .fresh]
  | .errCounters _ => [.mb, .adm, .otd, .hq, .ctr, .out]
  | .faultLog _ => [.mb, .adm, .otd, .hq, .out]
  | .isolate _ => [.mb, .adm, .tables, .slices, .buf, .eng, .otd, .hq, .irq, .pwr, .badger, .out]
  | .restore _ _ => [.mb, .adm, .slices, .buf, .flows, .eng, .otd, .hq, .irq, .pwr, .badger, .ctr, .out]
  | .osysInfo _ => [.mb, .adm, .otd, .hq, .out]
  | .osysStatus _ => [.mb, .adm, .otd, .hq, .ctr, .out]
  | .otimeRead _ => [.mb, .adm, .otd, .hq, .out]
  | .otimeSetInc _ => [.mb, .adm, .time, .otd, .hq, .out]
  | .otimeStep _ => [.mb, .adm, .time, .otd, .hq, .out]
  | .otimeAuthority _ => [.mb, .adm, .otd, .hq, .irq, .pwr, .out]
  | .omapSet _ => [.mb, .adm, .ports, .flows, .otd, .hq, .irq, .pwr, .out]
  | .omapRead _ => [.mb, .adm, .otd, .hq, .out]
  | .omapClear _ => [.mb, .adm, .ports, .flows, .otd, .hq, .irq, .pwr, .out]
  | .orecordRingSet _ => [.mb, .adm, .otd, .hq, .pwr, .out]
  | .orecordInterval _ => [.mb, .adm, .otd, .hq, .irq, .pwr, .out]
  | .orecordStatus _ => [.mb, .adm, .otd, .hq, .out]
  | .osealStatus _ => [.mb, .adm, .otd, .hq, .out]
  | .osealSeal _ => [.mb, .adm, .otd, .hq, .irq, .pwr, .out]
  | .osealUnseal _ => [.mb, .adm, .otd, .hq, .irq, .pwr, .ctr, .out]
  | .ologRead _ => [.mb, .adm, .otd, .hq, .out]
  | .ologAck _ => [.mb, .adm, .otd, .hq, .irq, .pwr, .out]
  | .mbGo _ => [.mb, .pwr, .hpt]
  | .mbAck _ => [.mb, .pwr, .hpt]
  | .mbCmdWrite _ _ => [.mb, .pwr, .hpt]
  | .mbCommandDone => [.mb, .boot, .adm, .quad, .eng, .otd, .sez, .hq, .irq, .pwr, .badger, .out]
  | .ombGo _ => [.mb, .adm, .otd, .hq, .hpt, .out]
  | .ombAck _ => [.otd, .hpt]
  | .oringConsWrite _ => [.otd, .pwr, .ctr, .hpt, .out]
  | .snapTimeLoRead _ _ => [.time, .hpt]
  | .ppsGlitchRead => [.time, .hpt]
  | .registerWrite _ _ _ _ _ => [.mb, .boot, .adm, .quad, .bank0, .bank1, .tables, .ports, .slices, .buf, .tm, .gate, .flows, .cap, .eng, .time, .otd, .sez, .hq, .dma, .irq, .pwr, .badger, .ctr, .hpt, .out, .fresh]
  | .sqDb _ _ => [.adm, .hq, .irq, .pwr, .ctr, .hpt, .out]
  | .cqDb _ _ => [.adm, .hq, .irq, .pwr, .ctr, .hpt, .out]
  | .entryFetch _ _ => [.adm, .hq, .irq, .pwr, .ctr, .out]
  | .phaseRetry _ _ => [.adm, .hq, .irq, .pwr, .ctr, .out]
  | .tx _ => [.adm, .hq, .irq, .pwr, .ctr, .out]
  | .nop _ => [.hq]
  | .alloc _ _ => [.buf, .hq, .irq, .pwr, .ctr, .out, .fresh]
  | .share _ _ => [.buf, .hq, .ctr]
  | .release _ _ => [.buf, .hq, .ctr]
  | .handover _ _ => [.buf, .hq, .ctr]
  | .free _ _ => [.buf, .hq, .ctr]
  | .headWb _ => [.hq, .out]
  | .headWbAck _ => [.hq]
  | .completionWrite _ _ => [.mb, .adm, .ports, .slices, .buf, .otd, .hq, .ctr, .out]
  | .completionAck _ _ => [.mb, .boot, .adm, .quad, .ports, .slices, .buf, .eng, .sez, .hq, .irq, .pwr, .badger, .ctr, .out]
  | .txHostInject _ => [.slices, .otd, .hq, .irq, .pwr, .ctr, .out]
  | .rxDispatch _ _ => [.ports, .slices, .buf, .flows, .hq, .irq, .pwr, .ctr, .out, .fresh]
  | .rxWaitExpiry _ _ => [.ports, .slices, .buf, .tm, .flows, .hq, .irq, .pwr, .ctr, .out]
  | .rxFrame _ => [.ports, .slices, .otd, .irq, .pwr, .ctr, .out]
  | .strayWord _ _ _ => [.ctr]
  | .pauseExpiry _ _ => [.ports]
  | .denDrain _ => [.slices, .otd, .irq, .pwr, .ctr, .out]
  | .classify _ _ => [.tables, .ports, .slices, .buf, .tm, .flows, .cap, .eng, .time, .otd, .sez, .hq, .irq, .pwr, .badger, .ctr, .out, .fresh]
  | .cellWrite _ _ => [.ports, .slices, .buf, .tm, .cap, .hq, .ctr, .out, .fresh]
  | .xoffRefresh _ _ => [.ports]
  | .admitFrame _ _ => [.tables, .ports, .slices, .buf, .tm, .flows, .cap, .eng, .hq, .irq, .pwr, .badger, .ctr, .out, .fresh]
  | .handoff _ _ _ => [.tables, .ports, .slices, .buf, .tm, .flows, .cap, .eng, .hq, .irq, .pwr, .badger, .ctr, .out, .fresh]
  | .gapTimeout _ _ => [.ports, .slices, .buf, .tm, .flows, .cap, .hq, .pwr, .ctr, .out]
  | .schedRelease _ _ => [.mb, .adm, .tables, .ports, .slices, .buf, .tm, .flows, .cap, .eng, .time, .otd, .hq, .dma, .irq, .pwr, .badger, .ctr, .hpt, .out, .fresh]
  | .e3Pass _ _ => [.ports, .slices, .buf, .flows, .cap, .eng, .hq, .irq, .pwr, .badger, .ctr, .out, .fresh]
  | .txStart _ _ => [.ports, .slices, .buf, .hq, .ctr]
  | .txDone _ => [.ports, .slices, .buf, .cap, .time, .otd, .hq, .ctr, .out]
  | .txStomp _ _ => [.ports, .slices, .buf, .cap, .otd, .hq, .ctr, .out, .fresh]
  | .txHint _ _ _ => [.ports, .ctr]
  | .hintMissing _ => [.ports, .ctr]
  | .stall _ => [.ctr]
  | .doneLogConsume _ => [.ports, .slices, .buf, .tm, .hq, .ctr]
  | .sliceCoreRecover _ => [.mb, .adm, .ports, .slices, .buf, .tm, .otd, .hq, .badger, .ctr, .out]
  | .ageScan _ => [.ports, .buf, .tm, .flows, .cap, .hq, .irq, .pwr, .ctr, .out]
  | .lpiEnter _ => [.ports, .out]
  | .lpiExit _ => [.ports, .ctr, .out]
  | .preemptVerify _ _ => [.ports]
  | .linkFault _ _ => [.tables, .ports, .slices, .buf, .cap, .time, .otd, .sez, .hq, .irq, .pwr, .ctr, .out, .fresh]
  | .linkFaultClear _ => [.ports, .pwr]
  | .linkUp _ => [.tables, .ports, .pwr]
  | .linkHoldExpiry _ => [.tables, .ports, .buf, .tm, .cap, .hq, .irq, .pwr, .ctr, .out, .fresh]
  | .learnApply => [.tables, .irq, .pwr, .ctr, .out, .fresh]
  | .macAgeScan => [.tables]
  | .freezeExpiry _ _ => [.tables]
  | .mcastStoreExpiry _ _ => [.buf]
  | .sample _ => [.tm, .cap, .ctr, .out]
  | .foxtrotRecordWrite _ => [.cap, .irq, .pwr, .ctr, .out]
  | .foxtrotConsPoll _ _ => [.cap, .out]
  | .coalesceTimer _ _ => [.cap, .hq, .irq, .pwr, .out]
  | .owlTick _ => [.quad, .ports, .gate, .time, .otd, .irq, .pwr, .badger, .ctr, .out, .fresh]
  | .servoInc _ => [.time, .otd, .ctr]
  | .servoStep _ _ _ => [.time, .otd, .ctr]
  | .timerFire _ => [.time, .irq, .pwr, .out, .fresh]
  | .ppsInEdge _ => [.time, .irq, .pwr, .out]
  | .ppsOutEdge => [.time, .fresh]
  | .ppsOutFall => [.time]
  | .calEval _ => [.ports, .time, .irq, .pwr, .badger, .out]
  | .thermEval _ => [.boot, .time, .irq, .pwr, .out]
  | .calRequestRx _ _ _ => [.ports, .otd]
  | .calRequestTx _ => [.ports, .badger]
  | .calReplyRx _ _ => [.ports, .otd, .irq, .pwr, .badger, .out, .fresh]
  | .calExchangeTimeout _ => [.badger]
  | .calFail _ => [.irq, .pwr, .badger, .out]
  | .quadArmed _ => [.mb, .adm, .quad, .bank0, .bank1, .ports, .slices, .buf, .tm, .gate, .flows, .cap, .otd, .sez, .hq, .irq, .pwr, .ctr, .out, .fresh]
  | .quadFlip _ => [.quad, .tables, .ports, .slices, .buf, .tm, .gate, .flows, .cap, .time, .otd, .sez, .hq, .irq, .pwr, .ctr, .out, .fresh]
  | .normalise _ => [.quad, .bank0, .bank1, .tables, .irq, .pwr, .out]
  | .quadIdleLimit _ => [.quad, .bank0, .bank1, .tables, .irq, .pwr, .out]
  | .gateListStart _ => [.ports, .tm, .gate, .ctr]
  | .gateEntry _ => [.ports, .gate, .ctr]
  | .holdAssert _ => [.ports, .gate, .ctr]
  | .helloTx _ => [.ports, .sez, .ctr]
  | .helloRx _ _ => [.time, .sez, .irq, .pwr, .ctr, .out]
  | .adjacencyTimeout _ => [.time, .sez, .irq, .pwr, .out]
  | .memberTx => [.ports, .sez, .ctr]
  | .memberRx _ _ => [.ports, .time, .sez, .irq, .pwr, .ctr, .out]
  | .leaveRx _ _ => [.ports, .time, .sez, .irq, .pwr, .ctr, .out]
  | .memberAge _ => [.time, .sez, .irq, .pwr, .out]
  | .syncReqTx _ => [.ports, .sez, .ctr]
  | .syncReqRx _ _ _ => [.ports, .sez, .ctr]
  | .syncRespRx _ _ _ => [.time, .otd, .sez, .irq, .pwr, .ctr, .out, .fresh]
  | .holdoverExpiry => [.time, .sez, .irq, .pwr, .out]
  | .proposeRepeat => [.ports, .sez, .ctr]
  | .proposeRx _ _ => [.quad, .bank0, .bank1, .tables, .ports, .slices, .buf, .tm, .gate, .flows, .cap, .sez, .hq, .irq, .pwr, .ctr, .out, .fresh]
  | .voteRepeat => [.ports, .sez, .ctr]
  | .voteRx _ _ => [.quad, .bank0, .bank1, .tables, .ports, .sez, .irq, .pwr, .ctr, .out]
  | .voteDeadline => [.quad, .bank0, .bank1, .tables, .ports, .sez, .irq, .pwr, .ctr, .out]
  | .outcomeRepeat => [.ports, .sez, .ctr]
  | .outcomeRx _ _ => [.mb, .adm, .quad, .bank0, .bank1, .tables, .ports, .otd, .sez, .hq, .irq, .pwr, .ctr, .out]
  | .outcomeQueryRx _ _ => [.ports, .sez, .ctr]
  | .applyTimeNoOutcome _ => [.quad, .bank0, .bank1, .tables, .sez, .irq, .pwr, .out]
  | .intervalBoundary => [.slices, .otd, .irq, .pwr, .ctr, .out]
  | .tapSummary _ => [.otd, .ctr]
  | .otdRecordWriteAck => [.otd, .irq, .pwr, .out]
  | .otdRecordRetry => [.otd, .irq, .pwr, .ctr, .out]
  | .unsealBlockExpiry => [.otd]
  | .sealSwitchChange _ => [.otd, .irq, .pwr, .out]
  | .otdPowerOn _ _ => [.time, .otd, .irq, .pwr, .out]
  | .keyWord _ => [.time, .otd, .irq, .pwr, .out]
  | .keyTimeout => [.time, .otd, .irq, .pwr, .out]
  | .powerOnReset => [.mb, .boot, .adm, .quad, .bank0, .bank1, .tables, .ports, .slices, .buf, .tm, .gate, .flows, .cap, .eng, .time, .otd, .sez, .hq, .dma, .irq, .pwr, .badger, .ctr, .hpt, .out, .fresh]
  | .coldReset => [.mb, .boot, .adm, .quad, .bank0, .bank1, .tables, .ports, .slices, .buf, .tm, .gate, .flows, .cap, .eng, .time, .otd, .sez, .hq, .dma, .irq, .pwr, .badger, .ctr, .hpt, .out, .fresh]
  | .warmReset => [.mb, .boot, .adm, .quad, .bank0, .bank1, .tables, .ports, .slices, .buf, .tm, .cap, .eng, .time, .otd, .sez, .hq, .dma, .irq, .pwr, .badger, .ctr, .out, .fresh]
  | .boot _ => [.boot, .irq, .pwr, .out, .fresh]
  | .journalReplay => [.mb, .boot, .adm, .quad, .bank0, .bank1, .tables, .ports, .slices, .buf, .tm, .gate, .flows, .cap, .eng, .time, .otd, .sez, .hq, .dma, .irq, .pwr, .badger, .ctr, .hpt, .out, .fresh]
  | .debugEnChange _ => [.boot]
  | .vretLost => [.mb, .adm, .otd, .hq, .irq, .pwr, .out]
  | .pllFault _ _ => [.slices, .irq, .pwr, .badger, .out, .fresh]
  | .brownOut => [.time, .irq, .pwr, .out]
  | .brownOutEnd => [.otd, .irq, .pwr, .out]
  | .wakeReq => [.pwr, .hpt]
  | .retryFailed => [.pwr, .hpt]
  | .boAck => [.pwr, .hpt]
  | .autoSleepAsk _ => [.mb, .adm, .ports, .otd, .hq, .irq, .pwr, .ctr, .out]
  | .askAnswer _ _ _ => [.mb, .adm, .otd, .hq, .irq, .pwr, .out]
  | .drainTimeout _ => [.mb, .adm, .otd, .hq, .irq, .pwr, .out]
  | .badgerDelayEnd _ => [.mb, .adm, .otd, .hq, .pwr, .out]
  | .sleepEntry _ => [.pwr]
  | .pswLate _ => [.pwr]
  | .wake _ => [.mb, .boot, .adm, .quad, .bank0, .bank1, .tables, .ports, .slices, .buf, .tm, .cap, .eng, .time, .otd, .sez, .hq, .dma, .irq, .pwr, .badger, .ctr, .hpt, .out, .fresh]
  | .pswAck _ => [.mb, .boot, .adm, .quad, .bank0, .bank1, .tables, .ports, .slices, .buf, .tm, .cap, .eng, .time, .otd, .sez, .hq, .dma, .irq, .pwr, .badger, .ctr, .hpt, .out, .fresh]
  | .regReady => [.mb, .boot, .adm, .quad, .bank0, .bank1, .tables, .ports, .slices, .buf, .tm, .cap, .eng, .time, .otd, .sez, .hq, .dma, .irq, .pwr, .badger, .ctr, .hpt, .out, .fresh]
  | .pllLock => [.mb, .boot, .adm, .quad, .bank0, .bank1, .tables, .ports, .slices, .buf, .tm, .cap, .eng, .time, .otd, .sez, .hq, .dma, .irq, .pwr, .badger, .ctr, .hpt, .out, .fresh]
  | .wakeTimeout _ _ => [.mb, .boot, .adm, .quad, .bank0, .bank1, .tables, .ports, .slices, .buf, .tm, .cap, .eng, .time, .otd, .sez, .hq, .dma, .irq, .pwr, .badger, .ctr, .out, .fresh]
  | .owlLatchEdge _ => [.irq, .pwr, .out]
  | .dmaGo _ => [.dma, .pwr, .hpt]
  | .dmaShadowWrite _ _ _ => [.dma, .pwr, .hpt]
  | .dmaLoad _ => [.dma, .irq, .pwr, .out]
  | .dmaZeroLenDone _ => [.dma, .irq, .pwr, .out]
  | .dmaBurstResponse _ _ => [.dma, .irq, .pwr, .out]
  | .dmaAbort _ => [.dma, .pwr, .hpt]
  | .dmaResume _ => [.dma, .pwr, .hpt, .out]
  | .dmaClear _ => [.dma, .pwr, .hpt]
  | .chCauseRead _ => [.dma, .pwr, .hpt]
  | .sliceCauseRead _ => [.irq, .pwr, .hpt, .out]
  | .sliceLinkRead _ => [.irq, .pwr, .hpt]
  | .eventTake => [.irq]
  | .eventEoi _ _ => [.irq]
  | .claim _ => [.irq, .pwr, .hpt, .out]
  | .eoi _ _ => [.irq, .pwr, .hpt, .out]
  | .pendSet _ _ => [.irq, .pwr, .hpt, .out]
  | .pendClr _ _ => [.irq, .pwr, .hpt, .out]
  | .enSet _ _ => [.irq, .pwr, .hpt, .out]
  | .enClr _ _ => [.irq, .pwr, .hpt, .out]
  | .srcCfgWrite _ _ => [.irq, .pwr, .hpt, .out]
  | .privPendSet _ _ => [.irq, .pwr, .hpt, .out]
  | .privPendClr _ _ => [.irq, .pwr, .hpt, .out]
  | .privEnSet _ _ => [.irq, .pwr, .hpt, .out]
  | .privEnClr _ _ => [.irq, .pwr, .hpt, .out]
  | .targetCountsRead _ => [.irq, .pwr, .hpt]
  | .tgtAwakeChange _ _ => [.irq, .out]
  | .wakeWaitExpiry _ => [.irq, .out]
  | .msgWriteRetry _ => [.irq, .out]
  | .badgerSlot _ _ => [.tables, .ports, .slices, .buf, .tm, .flows, .cap, .eng, .time, .otd, .sez, .hq, .irq, .pwr, .badger, .ctr, .out, .fresh]
  | .badgerOverdue _ => [.irq, .pwr, .badger, .out]
  | .badgerWindowEnd => [.badger]
  | .relocateDone _ _ => [.tables, .irq, .pwr, .badger, .out]
  | .rebuildDone _ => [.slices, .flows, .irq, .pwr, .badger, .out, .fresh]
  | .engineFault _ _ => [.tables, .ports, .slices, .buf, .tm, .flows, .cap, .eng, .time, .otd, .sez, .hq, .irq, .pwr, .badger, .ctr, .out, .fresh]
  | .engineResetDone _ => [.mb, .adm, .eng, .otd, .hq, .out]
  | .sliceCoreFault _ => [.ports, .slices, .buf, .tm, .cap, .otd, .hq, .irq, .pwr, .badger, .ctr, .out, .fresh]
  | .lockstepMismatch => [.mb, .boot, .adm, .quad, .eng, .sez, .irq, .pwr, .badger, .out, .fresh]
  | .ctlRestartDone => [.boot, .irq, .pwr, .badger, .out]
  | .controlRamFault => [.boot, .irq, .pwr, .badger, .out, .fresh]
  | .vretGoodRestored => [.pwr]
  | .testAccess => [.boot, .otd, .irq, .pwr, .out]
  | .resyncFollowTimeout => [.mb, .adm, .otd, .sez, .hq, .out]
  | .duplicateEntryForget _ _ => [.flows]
  | .partnerLpi _ _ => [.ports, .ctr]

/-- The envelope of a stageable command, those that R100 marks "s". -/
def stageEnv (i : Instr) : Option Env :=
  match i with
  | .portCfg e => some e
  | .portFc e => some e
  | .portPreempt e => some e
  | .portEee e => some e
  | .portWakeFilter e => some e
  | .portLinkHold e => some e
  | .parseNodeSet e => some e
  | .parseGraphDefault e => some e
  | .entryWrite e => some e
  | .entryDelete e => some e
  | .keyProfileSet e => some e
  | .progBindMap e => some e
  | .progBindDefault e => some e
  | .constSet e => some e
  | .flowMinSet e => some e
  | .sharedLimitSet e => some e
  | .cutThroughSet e => some e
  | .vlanSetVlan e => some e
  | .vlanSetPort e => some e
  | .macAdd e => some e
  | .macDelete e => some e
  | .learnCfgGlobal e => some e
  | .learnCfgPort e => some e
  | .mcastGroupSet e => some e
  | .lagSet e => some e
  | .queueMapSet e => some e
  | .schedSet e => some e
  | .shaperSet e => some e
  | .policerSet e => some e
  | .streamFilterSet e => some e
  | .sampleCfg e => some e
  | .gateListSet e => some e
  | .gateEnableOn e => some e
  | .gateEnableOff e => some e
  | .gateOverheadSet e => some e
  | .flowAdd e => some e
  | .flowModify e => some e
  | .flowDelete e => some e
  | .prpHsrSet e => some e
  | .stampPortCfg e => some e
  | .ptpPortCfg e => some e
  | .domainPortSet e => some e
  | .rxFilterSet e => some e
  | .rssSet e => some e
  | .offloadSet e => some e
  | .capRuleSet e => some e
  | .mirrorSet e => some e
  | .capEnable e => some e
  | _ => none

/-- A control message of a kind, well formed, with a tag that passes the checks, on a domain port (R349, R352, R353). -/
def goodCtl (msg p : Nat) (d : List Byte) (s : State) : Prop :=
  isDomainPort s p = true ∧ sezalTagged s d = true ∧ bitN (byteAt d 15) 1 = true ∧ 30 ≤ d.length ∧ byteAt d 28 = msg ∧ ctlLenOk msg d = true
  ∧ tagFault s p d = none

/-- The state once a control message is taken in: out of what the slices handed over, counted in CTRL_RX. -/
def tookCtl (p : Nat) (d : List Byte) (s : State) : State := sezBump 8 (takeInbox p d s)

/-- The opcode and the envelope of a command whose checks decide at once and whose refusal has no side of its own (R97, R98). Left out: the commands of a
set or a domain (each names its set, R101), the power rounds and the tests (whose failure is their effect), and OSEAL_UNSEAL (R375 counts a failed try). -/
def commandOf (i : Instr) : Option (Nat × Env) :=
  match i with
  | .sysInfo e => some (0x0101, e)
  | .sysAdminqSet e => some (0x0102, e)
  | .sysResetWarm e => some (0x0103, e)
  | .sysResetCold e => some (0x0103, e)
  | .sysResetSlice e => some (0x0103, e)
  | .sysResetCtl e => some (0x0103, e)
  | .sysEventCfg e => some (0x0104, e)
  | .sysJournalStatus e => some (0x0105, e)
  | .sysNop e => some (0x0106, e)
  | .sysPatchLoad e => some (0x0107, e)
  | .quadOpen e => some (0x0201, e)
  | .portCfg e => some (0x0301, e)
  | .portAdminUp e => some (0x0302, e)
  | .portAdminDown e => some (0x0302, e)
  | .portStatus e => some (0x0303, e)
  | .portCounters e => some (0x0304, e)
  | .portFc e => some (0x0305, e)
  | .portPreempt e => some (0x0306, e)
  | .portEee e => some (0x0307, e)
  | .portWakeFilter e => some (0x0308, e)
  | .portLinkHold e => some (0x0309, e)
  | .parseNodeSet e => some (0x0401, e)
  | .parseNodeGet e => some (0x0402, e)
  | .parseGraphDefault e => some (0x0403, e)
  | .parseCounters e => some (0x0404, e)
  | .tableCreate e => some (0x0501, e)
  | .tableDelete e => some (0x0502, e)
  | .entryWrite e => some (0x0503, e)
  | .entryDelete e => some (0x0504, e)
  | .entryRead e => some (0x0505, e)
  | .keyProfileSet e => some (0x0506, e)
  | .tableDump e => some (0x0507, e)
  | .progLoad e => some (0x0601, e)
  | .progUnload e => some (0x0601, e)
  | .progBindMap e => some (0x0602, e)
  | .progBindDefault e => some (0x0602, e)
  | .engineStatus e => some (0x0603, e)
  | .engineReset e => some (0x0604, e)
  | .constSet e => some (0x0605, e)
  | .scratchRead e => some (0x0606, e)
  | .poolCreate e => some (0x0701, e)
  | .poolDelete e => some (0x0702, e)
  | .flowMinSet e => some (0x0703, e)
  | .sharedLimitSet e => some (0x0704, e)
  | .bufStatus e => some (0x0705, e)
  | .cutThroughSet e => some (0x0706, e)
  | .vlanSetVlan e => some (0x0801, e)
  | .vlanSetPort e => some (0x0801, e)
  | .macAdd e => some (0x0802, e)
  | .macDelete e => some (0x0803, e)
  | .macFlush e => some (0x0804, e)
  | .learnCfgGlobal e => some (0x0805, e)
  | .learnCfgPort e => some (0x0805, e)
  | .mcastGroupSet e => some (0x0806, e)
  | .lagSet e => some (0x0807, e)
  | .macDump e => some (0x0808, e)
  | .queueMapSet e => some (0x0901, e)
  | .schedSet e => some (0x0902, e)
  | .shaperSet e => some (0x0903, e)
  | .policerSet e => some (0x0904, e)
  | .streamFilterSet e => some (0x0905, e)
  | .sampleCfg e => some (0x0906, e)
  | .tmStatus e => some (0x0907, e)
  | .gateListSet e => some (0x0A01, e)
  | .gateEnableOn e => some (0x0A02, e)
  | .gateEnableOff e => some (0x0A02, e)
  | .gateStatus e => some (0x0A03, e)
  | .gateOverheadSet e => some (0x0A04, e)
  | .flowAdd e => some (0x0B01, e)
  | .flowModify e => some (0x0B02, e)
  | .flowDelete e => some (0x0B03, e)
  | .flowRead e => some (0x0B04, e)
  | .flowCounters e => some (0x0B05, e)
  | .prpHsrSet e => some (0x0B06, e)
  | .stampPortCfg e => some (0x0C01, e)
  | .calRecordSet e => some (0x0C02, e)
  | .calRun e => some (0x0C03, e)
  | .ptpPortCfg e => some (0x0C04, e)
  | .timerSet e => some (0x0C05, e)
  | .ppsCfg e => some (0x0C06, e)
  | .syntCfg e => some (0x0C07, e)
  | .sezalCfg e => some (0x0D01, e)
  | .domainPortSet e => some (0x0D02, e)
  | .sezalStatus e => some (0x0D03, e)
  | .sezalMembers e => some (0x0D04, e)
  | .keeperPrioSet e => some (0x0D06, e)
  | .ringCreate e => some (0x0E01, e)
  | .qpCreate e => some (0x0E02, e)
  | .cqCreate e => some (0x0E03, e)
  | .queueDisable e => some (0x0E04, e)
  | .queueEnable e => some (0x0E04, e)
  | .queueDestroy e => some (0x0E04, e)
  | .queueReset e => some (0x0E05, e)
  | .queueStatus e => some (0x0E06, e)
  | .rxFilterSet e => some (0x0E07, e)
  | .rssSet e => some (0x0E08, e)
  | .offloadSet e => some (0x0E09, e)
  | .wakeSrcSet e => some (0x0F03, e)
  | .pwrStatus e => some (0x0F04, e)
  | .drainLimitSet e => some (0x0F05, e)
  | .badgerCfg e => some (0x1001, e)
  | .badgerWindow e => some (0x1002, e)
  | .badgerStatus e => some (0x1004, e)
  | .loopbackCal e => some (0x1005, e)
  | .foxtrotRingSet e => some (0x1101, e)
  | .capRuleSet e => some (0x1102, e)
  | .mirrorSet e => some (0x1103, e)
  | .capEnable e => some (0x1104, e)
  | .memRead e => some (0x1201, e)
  | .errCounters e => some (0x1202, e)
  | .faultLog e => some (0x1203, e)
  | .isolate e => some (0x1204, e)
  | .osysInfo e => some (0x8001, e)
  | .osysStatus e => some (0x8002, e)
  | .otimeRead e => some (0x8101, e)
  | .otimeSetInc e => some (0x8102, e)
  | .otimeStep e => some (0x8103, e)
  | .otimeAuthority e => some (0x8104, e)
  | .omapSet e => some (0x8201, e)
  | .omapRead e => some (0x8202, e)
  | .omapClear e => some (0x8203, e)
  | .orecordRingSet e => some (0x8301, e)
  | .orecordInterval e => some (0x8302, e)
  | .orecordStatus e => some (0x8303, e)
  | .osealStatus e => some (0x8401, e)
  | .osealSeal e => some (0x8402, e)
  | .ologRead e => some (0x8501, e)
  | .ologAck e => some (0x8502, e)
  | _ => none

end Sys2Proof.Machine
end

