-- ==== Sys2Proof/Certificates/Slice0/Obligations.lean ====
section
/-! DEFINITION. The statements for the provers, in the order of OBLIGATIONS.json. Each docstring names the rules of spec/ that the statement is about. -/

open Sys2Proof Sys2Proof.Machine

/-- A step takes the command at the front of the queue and runs it on the state with the queue's rest. With no command waiting it changes nothing, but
for the oldest HPT request that waited for HST (log 1): once HST is in RUN or its wake has failed, that access is served, and answered with its own
tag. -/
def Obligations.StepRunsFrontCommand : Prop :=
  (∀ c rest s, s.pending = c :: rest → step s = exec c { s with pending := rest })
  ∧ (∀ s, s.pending = [] → s.hpt.waiting = [] → step s = .next s)
  ∧ (∀ s x rest, s.pending = [] → s.hpt.waiting = x :: rest → (dom s 66).wakeFail = false → (dom s 66).st ≠ .run → step s = .next s)
  ∧ (∀ s x rest t, s.pending = [] → s.hpt.waiting = x :: rest → (dom s 66).wakeFail = true ∨ (dom s 66).st = .run →
      runAccess x.2 { s with hpt := { s.hpt with tag := x.1, waiting := [] } } = .next t →
      step s = .next { t with hpt := { t.hpt with tag := s.hpt.tag, waiting := t.hpt.waiting ++ rest } })

/-- State after reset: the values that the spec gives, the rest is the model's choice (log 3). -/
def Obligations.ResetValues : Prop :=
  State.reset.pending = [] ∧ State.reset.build = ⟨.S32, 25000000⟩ ∧ State.reset.mb.busy = false ∧ State.reset.mb.done = false ∧ State.reset.mb.goLost = false
  ∧ State.reset.boot.ready = false ∧ State.reset.mb.cmd = [] ∧ State.reset.time.raw = 0 ∧ State.reset.time.corr = 0 ∧ State.reset.time.offset = 0
  ∧ State.reset.time.discInc = BitVec.ofNat 40 (nomInc 25000000 * 65536) ∧ State.reset.time.valid = false ∧ State.reset.quad.parity = false ∧ State.reset.quad.sets = []
  ∧ (∀ p, (port State.reset p).admin = false ∧ (port State.reset p).link = .down) ∧ (∀ c, ctrOf State.reset c = 0) ∧ (∀ n, sqOf State.reset n = none)
  ∧ (∀ c, (dmaOf State.reset c).st = .idle ∧ (dmaOf State.reset c).shadowValid = false) ∧ State.reset.irq.enable = false ∧ State.reset.irq.pend = [] ∧ State.reset.irq.en = 0
  ∧ (∀ n, (tgtOf State.reset.irq n).stack = [] ∧ (tgtOf State.reset.irq n).enable = false) ∧ State.reset.pwr.block = .run ∧ (∀ d, d < 32 → (dom State.reset d).st = .off)
  ∧ (∀ d, 32 ≤ d → (dom State.reset d).st = .run) ∧ State.reset.badger.log = [] ∧ State.reset.sez.enabled = false ∧ State.reset.boot.bypass = true ∧ State.reset.boot.inTest = false
  ∧ State.reset.hpt.waiting = [] ∧ State.reset.hpt.rsp = []

/-- The reset state meets the invariant. -/
def Obligations.ResetMeetsInvariant : Prop :=
  State.reset.Inv

/-- Every step keeps the invariant: both command pages stay in canonical form within their 256 bytes (R83, R400). -/
def Obligations.EveryStepKeepsInvariant : Prop :=
  ∀ s t, s.Inv → step s = .next t → t.Inv

/-- The configuration is fixed at integration and no step changes it, and a step takes no command out of the queue but the one at its front (R1). -/
def Obligations.BuildNeverChanges : Prop :=
  ∀ s t, step s = .next t → t.build = s.build ∧ t.pending = s.pending.tail

/-- A command changes no part of the state but those named for it: every other register group, buffer, counter, flag and pin stays as it was. -/
def Obligations.EveryCommandKeepsItsFrame : Prop :=
  ∀ i s t p, exec i s = .next t → p ∉ mayChange i → State.agree p s t

/-- Every command goes on in every state, and so does every step: the model has no fault and no refusal that a command meets. -/
def Obligations.EveryCommandGoesOn : Prop :=
  (∀ i s, ∃ t, exec i s = .next t) ∧ (∀ s, ∃ t, step s = .next t)

/-- The time counters (R147): a tick adds NOM_INC to RAW_T, and DISC_INC - NOM_INC to CORR; TIME is RAW_T + CORR + OFFSET truncated to 16 fraction
bits; no other command but OTD's own power-on writes them. OFFSET and DISC_INC change only at a tick, by what OTIME_STEP, OTIME_SET_INC or the servo
port left for it. -/
def Obligations.TimeCounters : Prop :=
  (∀ skewed s, ∃ t, exec (.owlTick skewed) s = .next t
    ∧ t.time.raw = s.time.raw + BitVec.ofNat 80 (nomInc s.build.owlHz)
    ∧ t.time.discInc = s.time.incNext.getD s.time.discInc
    ∧ t.time.corr = s.time.corr + (t.time.discInc.setWidth 96 - BitVec.ofNat 96 (nomInc s.build.owlHz * 65536))
    ∧ t.time.offset = (match s.time.stepNext with
      | none => s.time.offset
      | some (d, _, _) => s.time.offset + BitVec.ofInt 80 d))
  ∧ (∀ s, time16 s = (s.time.raw.toNat : Int) + s.time.corr.toInt / 2 ^ 16 + s.time.offset.toInt)
  ∧ (∀ i s t, (∀ skewed, i ≠ .owlTick skewed) → (∀ romOk level, i ≠ .otdPowerOn romOk level) → exec i s = .next t →
      t.time.raw = s.time.raw ∧ t.time.corr = s.time.corr ∧ t.time.offset = s.time.offset ∧ t.time.discInc = s.time.discInc)

/-- No reset but OTD's own changes a time counter; OTD's sets them, and the end of its start counts a discontinuity (R149). -/
def Obligations.OtdPowerOnStartsTime : Prop :=
  (∀ romOk level s, ∃ t, exec (.otdPowerOn romOk level) s = .next t ∧ t.time.raw = 0 ∧ t.time.corr = 0 ∧ t.time.offset = 0
      ∧ t.time.discInc = BitVec.ofNat 40 (nomInc s.build.owlHz * 65536) ∧ t.time.valid = false)
  ∧ (∀ k s, s.otd.start = .keyRead → s.otd.keyReq = some k → s.otd.cells < 16383 →
      (∃ t, exec .keyTimeout s = .next t ∧ t.otd.cells = s.otd.cells + 1 ∧ t.time.discont = BitVec.ofNat 16 (s.otd.cells + 1))
      ∧ (∀ word, s.otd.keyWords.length = 7 → ∃ t, exec (.keyWord word) s = .next t ∧ t.otd.cells = s.otd.cells + 1 ∧ t.time.discont = BitVec.ofNat 16 (s.otd.cells + 1)))
  ∧ (∀ i s t, i = .coldReset ∨ i = .powerOnReset ∨ i = .warmReset → exec i s = .next t → t.time.raw = s.time.raw ∧ t.time.corr = s.time.corr
      ∧ t.time.offset = s.time.offset ∧ t.time.discInc = s.time.discInc ∧ t.time.discont = s.time.discont)

/-- The order in which a command's checks decide (R97, R99): path, header, length, and then its own, each only when all before it pass. -/
def Obligations.FirstFailingCheckDecides : Prop :=
  (∀ op len chk e s, cmdVerdict op len chk e s = match pathVerdict op e with
    | some v => some v
    | none => match headerVerdict false e s with
      | some v => some v
      | none => match lengthVerdict len e s with
        | some v => some v
        | none => if ptr e = true ∧ e.ptrFault = true then some (faultV 0x20) else chkVerdict chk)
  ∧ (∀ st e s, headerVerdict st e s =
      if e.fmt ≠ 1 then some (badFieldV 0xFF03)
      else if 8 ≤ e.flags.toNat then some (badFieldV 0xFF02)
      else if e.rsvd.toNat % 2 ^ 8 ≠ 0 then some (badFieldV 0xFF0C)
      else if e.rsvd.toNat / 2 ^ 8 % 2 ^ 8 ≠ 0 then some (badFieldV 0xFF0D)
      else if e.rsvd.toNat / 2 ^ 16 % 2 ^ 8 ≠ 0 then some (badFieldV 0xFF0E)
      else if e.rsvd.toNat / 2 ^ 24 ≠ 0 then some (badFieldV 0xFF0F)
      else if (staged e = true ∧ e.setId = 0) ∨ (staged e = false ∧ e.setId ≠ 0) then some (badFieldV 0xFF02)
      else if staged e = true ∧ st = false then some (badFieldV 0xFF02)
      else if staged e = true ∧ findSet s e.setId = none then some (badFieldV 0xFF04) else none)
  ∧ (∀ c, chkVerdict c = if c.present = false then some absentV else match c.fields.find? (fun f => !f.2) with
      | some f => some (badFieldV f.1)
      | none => match c.held, c.needQuad, c.busy, c.st, c.pair, c.resource with
        | some id, _, _, _, _, _ => some (heldV id)
        | none, some code, _, _, _, _ => some (needQuadV code)
        | none, none, some d, _, _, _ => some (busyV d)
        | none, none, none, some d, _, _ => some (stateV d)
        | none, none, none, none, some p, _ => some (pairV p.1 p.2)
        | none, none, none, none, none, some d => some (noResV d)
        | none, none, none, none, none, none => none)

/-- The response header (R96) and where a response goes (R84, R94, R400): the mailbox's page waits for MB_COMMAND_DONE, the admin queue's goes to its
slot of RSP_BASE, Otdiuri's stands at once with DONE set. -/
def Obligations.ResponsesOnTheirPath : Prop :=
  (∀ r, r.opcode < 2 ^ 16 → r.status < 2 ^ 8 → r.detail < 2 ^ 8 → r.fieldOffset < 2 ^ 16 → r.data.length < 2 ^ 16 →
      fld (rspBytes r) 0 2 = r.opcode ∧ byteAt (rspBytes r) 2 = r.status ∧ byteAt (rspBytes r) 3 = r.detail ∧ fld (rspBytes r) 4 2 = r.data.length
      ∧ fld (rspBytes r) 6 2 = r.fieldOffset ∧ fld (rspBytes r) 8 4 = r.tag.toNat ∧ fld (rspBytes r) 12 4 = 0 ∧ (rspBytes r).drop 16 = r.data)
  ∧ (∀ e op v s, e.path = .mailbox → ∃ r, respond e op v s = { s with mb := { s.mb with ready := some r } }
      ∧ r.1.opcode = op ∧ r.1.status = v.status ∧ r.1.detail = v.detail ∧ r.1.fieldOffset = v.off ∧ r.1.tag = e.tag ∧ r.1.data = v.data ∧ r.2 = tookEffect v.status)
  ∧ (∀ e op v i s, e.path = .admin i → (noRsp e && decide (v.status = 0)) = false →
      (respond e op v s).out = (hpiWrite (s.adm.rspBase + 256 * i) (rspBytes ⟨op, v.status, v.detail, v.off, e.tag, v.data⟩) s).out)
  ∧ (∀ e op v i s, e.path = .admin i → noRsp e = true → v.status = 0 → (respond e op v s).out = s.out)
  ∧ (∀ e op v s, e.path = .otd → ∃ o, respond e op v s = { s with otd := o } ∧ o.orsp = some ⟨op, v.status, v.detail, v.off, e.tag, v.data⟩ ∧ o.done = true ∧ o.busy = false
      ∧ (tookEffect v.status = false → o.lastTag = s.otd.lastTag) ∧ (tookEffect v.status = true → o.lastTag = e.tag) ∧ o.locked = s.otd.locked)
  ∧ (∀ e op v s, State.agree .quad s (respond e op v s) ∧ State.agree .bank0 s (respond e op v s) ∧ State.agree .bank1 s (respond e op v s)
      ∧ State.agree .tables s (respond e op v s) ∧ State.agree .irq s (respond e op v s) ∧ State.agree .pwr s (respond e op v s) ∧ State.agree .ctr s (respond e op v s))

/-- A command that answers neither OK nor TIME_ADJUSTED has changed nothing but the response that stands ready (R98): on the boot mailbox, and on
Otdiuri's. -/
def Obligations.RefusedCommandsChangeNothing : Prop :=
  (∀ i op e s t r took, commandOf i = some (op, e) → e.path = .mailbox → s.mb.ready = none → exec i s = .next t → t.mb.ready = some (r, took) →
      r.status ≠ 0 → r.status ≠ 0x0C → t = { s with mb := { s.mb with ready := some (r, false) } } ∧ r.opcode = op ∧ r.tag = e.tag)
  ∧ (∀ i op e s t r, commandOf i = some (op, e) → e.path = .otd → s.otd.done = false → exec i s = .next t → t.otd.done = true → t.otd.orsp = some r →
      r.status ≠ 0 → r.status ≠ 0x0C → t = { s with otd := { s.otd with orsp := some r, done := true, busy := false } } ∧ r.opcode = op ∧ r.tag = e.tag)

/-- Claims (R103): a command whose target another live set claims is a CONFLICT with DETAIL 0xFF and that set's ID, if no check before it fails; one
staged into a set that is VOTING, ARMED or NORMALISING, with no unit held, is STATE with DETAIL 0x02. -/
def Obligations.ClaimedTargetConflicts : Prop :=
  (∀ op len ch chk e s q o k, q ∈ s.quad.sets → q.live = true → q.id ≠ e.setId → o ∈ q.changes → k ∈ o.claims → k ∈ ch.claims →
      envVerdict op true len e s = none → (chk (if staged e then setView e.setId s else s)).present = true →
      (chk (if staged e then setView e.setId s else s)).fields.find? (fun f => !f.2) = none →
      ∃ p o k, p ∈ s.quad.sets ∧ p.live = true ∧ p.id ≠ e.setId ∧ o ∈ p.changes ∧ k ∈ o.claims ∧ k ∈ ch.claims
        ∧ stageVerdict op len ch chk e s = some { status := 6, detail := 0xFF, data := leB 2 p.id })
  ∧ (∀ op len ch chk e s q, staged e = true → findSet s e.setId = some q → q.st = .voting ∨ q.st = .armed ∨ q.st = .normalising →
      envVerdict op true len e s = none → (chk (setView e.setId s)).present = true → (chk (setView e.setId s)).fields.find? (fun f => !f.2) = none →
      claimHolder s e.setId ch.claims = none →
      (chk (setView e.setId s)).busy = none → stageVerdict op len ch chk e s = some { status := 8, detail := 2 })

/-- A staged change (R103, R104): whatever it does, neither configuration bank, nor the parity, nor the configuration in force changes. -/
def Obligations.StagedCommandsKeepTheBanks : Prop :=
  ∀ i e s t, stageEnv i = some e → staged e = true → exec i s = .next t → t.bank0 = s.bank0 ∧ t.bank1 = s.bank1 ∧ t.quad.parity = s.quad.parity
    ∧ t.quad.sets.length = s.quad.sets.length

/-- R110: a flip makes the bank that arming prepared the configuration in force, and no bank changes its contents. -/
def Obligations.FlipPutsTheOtherBankInForce : Prop :=
  ∀ id q s t, findSet s id = some q → flipDue s q = true → exec (.quadFlip id) s = .next t → cfg t = cfgAt s (!s.quad.parity)

/-- A GO that READY, BUSY or DONE turns away changes nothing in the mailbox but GO_LOST, and a write of a locked CMD changes nothing in it (R84, R85);
each is answered, and asks HST and CTL to stay awake. -/
def Obligations.MailboxTurnsAway : Prop :=
  ∀ data off bytes s, hptServed true s = true → (dom s 65).wakeFail = false → (dom s 66).wakeFail = false →
    ((s.boot.ready = false ∨ s.mb.busy = true ∨ s.mb.done = true) → data.getLsbD 0 = true →
      exec (.mbGo data) s = .next (hptOk 0 { askWake 65 (askWake 66 s) with mb := { s.mb with goLost := true } }))
    ∧ (s.mb.locked = true → exec (.mbCmdWrite off bytes) s = .next (hptOk 0 (askWake 65 (askWake 66 s))))

/-- The boot mailbox and the Otdiuri mailbox (R83 to R85, R98, R400): GO, ACK, a write of CMD, the delivery of a response. An access to the boot
mailbox is answered once HST and CTL run, when neither has failed to wake, and no earlier access waits; it asks both to stay awake. A GO of the
Otdiuri mailbox with an opcode outside the tables is answered BAD_OPCODE, or BUSY while Otdiuri starts. -/
def Obligations.MailboxProtocol : Prop :=
  (∀ data s, hptServed true s = true → (dom s 65).wakeFail = false → (dom s 66).wakeFail = false → exec (.mbGo data) s = .next (hptOk 0
      { askWake 65 (askWake 66 s) with
        mb := if data.getLsbD 0 = false then s.mb
          else if s.boot.ready = true ∧ s.mb.busy = false ∧ s.mb.done = false then { s.mb with busy := true, locked := true }
          else { s.mb with goLost := true } }))
  ∧ (∀ data s, hptServed true s = true → (dom s 65).wakeFail = false → (dom s 66).wakeFail = false → exec (.mbAck data) s = .next (hptOk 0
      { askWake 65 (askWake 66 s) with
        mb := if data.getLsbD 0 = false then s.mb else { s.mb with done := false, goLost := false, locked := s.mb.busy } }))
  ∧ (∀ off bytes s, hptServed true s = true → (dom s 65).wakeFail = false → (dom s 66).wakeFail = false → ∃ cmd, exec (.mbCmdWrite off bytes) s = .next
        (hptOk 0 { askWake 65 (askWake 66 s) with mb := { s.mb with cmd := cmd } })
      ∧ (s.mb.locked = true → cmd = s.mb.cmd)
      ∧ (∀ a, a < off ∨ off + bytes.length ≤ a ∨ 256 ≤ a → Memory.read cmd a = Memory.read s.mb.cmd a)
      ∧ (s.mb.locked = false → Memory.wf s.mb.cmd = true → ∀ k, k < bytes.length → off + k < 256 → Memory.read cmd (off + k) = bytes.getD k 0))
  ∧ (∀ r took s, mailboxUnknown s = s → s.mb.ready = some (r, took) → ∃ t, exec .mbCommandDone s = .next (ctlDue t)
      ∧ t.mb = { s.mb with rsp := some r, lastTag := if took then r.tag else s.mb.lastTag, done := true, busy := false, ready := none }
      ∧ (s.mb.doneIrq = false → t = { s with mb := t.mb }) ∧ (s.mb.doneIrq = true → t = fire 16 { s with mb := t.mb }))
  ∧ (∀ data s, exec (.ombGo data) s = .next (hptOk 0 (
      if data.getLsbD 0 = false then s
      else if s.otd.busy = false ∧ s.otd.done = false then
        (let t := { s with otd := { s.otd with busy := true, locked := true } }
        if pageOpcode s.otd.ocmd ∈ knownOtdOps then t
        else respond (tagOnly .otd s.otd.ocmd) (pageOpcode s.otd.ocmd) (if otdStarting s = true then busyV 3 else badOpV) t)
      else { s with otd := { s.otd with goLost := true } })))
  ∧ (∀ data s, exec (.ombAck data) s = .next (hptOk 0 { s with otd := if data.getLsbD 0 = false then s.otd
          else { s.otd with done := false, goLost := false, locked := s.otd.busy } }))

/-- REGISTER_WRITE (R20, R55 to R57, R77): a request of a page that OWL serves is answered at once; any other waits until HST, and for the boot
mailbox CTL, has woken, or is answered ERR when it fails to. Byte enables, the debug windows and what is not mapped; a write and a read of mapped
words; a write of a read-only page only answers. -/
def Obligations.RegisterWriteAnswers : Prop :=
  (∀ q s s1 page ctl, s1 = { s with hpt := { s.hpt with tag := q.id % 64 } } → page = (pageOf s1 (q.addr % 2 ^ 26 / 8 * 8)).1 → ctl = decide (page = .mailbox) →
      (owlServed page = true → exec (.registerWrite q.addr q.be q.data q.write q.id) s = .next (runRequest q s1))
      ∧ (owlServed page = false → hptServed ctl s1 = false → exec (.registerWrite q.addr q.be q.data q.write q.id) s = .next (hptDefer (.request q) ctl s1))
      ∧ (owlServed page = false → hptServed ctl s1 = true → (dom s 66).wakeFail = true ∨ (ctl = true ∧ (dom s 65).wakeFail = true) →
        exec (.registerWrite q.addr q.be q.data q.write q.id) s = .next (hptErr s1))
      ∧ (owlServed page = false → hptServed ctl s1 = true → (dom s 66).wakeFail = false → (ctl = false ∨ (dom s 65).wakeFail = false) →
        exec (.registerWrite q.addr q.be q.data q.write q.id) s = .next (runRequest q (askWake 66 s1))))
  ∧ (∀ q s, q.be ≠ 0x0F → q.be ≠ 0xF0 → q.be ≠ 0xFF → runRequest q s = hptErr s)
  ∧ (∀ q s, q.be = 0x0F ∨ q.be = 0xF0 ∨ q.be = 0xFF → (pageOf s (q.addr % 2 ^ 26 / 8 * 8)).1 = .debug →
      (s.boot.debugEn = false → runRequest q s = hptErr s)
      ∧ (s.boot.debugEn = true → q.write = true → runRequest q s = hptOk 0 s)
      ∧ (s.boot.debugEn = true → q.write = false → ∃ v, runRequest q s = hptOk v { s with fresh := s.fresh + 1 }))
  ∧ (∀ q s w, q.be = 0x0F ∨ q.be = 0xF0 ∨ q.be = 0xFF → (pageOf s (q.addr % 2 ^ 26 / 8 * 8)).1 ≠ .debug →
      w ∈ requestWords (q.addr % 2 ^ 26 / 8 * 8) q.be q.data → mapped s w.1 = false →
      runRequest q s = { s with hpt := { s.hpt with rsp := s.hpt.rsp ++ [⟨s.hpt.tag, 2, 0⟩] } })
  ∧ (∀ q s, q.be = 0x0F ∨ q.be = 0xF0 ∨ q.be = 0xFF → (pageOf s (q.addr % 2 ^ 26 / 8 * 8)).1 ≠ .debug →
      (∀ w, w ∈ requestWords (q.addr % 2 ^ 26 / 8 * 8) q.be q.data → mapped s w.1 = true) →
      (q.write = true → runRequest q s
        = hptOk 0 { (requestWords (q.addr % 2 ^ 26 / 8 * 8) q.be q.data).foldl (fun s w => writeWord w.1 w.2 s) s with hpt := s.hpt })
      ∧ (q.write = false → ∃ r, r = readWords (q.addr % 2 ^ 26 / 8 * 8) q.be s ∧ runRequest q s = hptOk r.1 r.2))
  ∧ (∀ a s, readEffect s a = none → readOne a s = (readWord s a, s))
  ∧ (∀ a v s, (pageOf s a).1 = .ident ∨ (pageOf s a).1 = .time → writeWord a v s = hptOk 0 s)

/-- Resets (R63, R64, R65, R499, R500). A cold reset leaves what a build has at reset, but for STAT and TGT_AWAKE of the pins, DEBUG_EN, what OTD and
OWL hold, the requests on HPT and the queue; of the time unit it keeps the counters (R149), of OWL the log and the wake enables (log 3); a power-on
reset leaves OWL too as at reset, but for its pins REG_READY and VRET_GOOD. A warm reset is absorbed by a cold reset that still lasts (log 114); in
RUN it leaves no round, no fetched entry, no snapshot and of the live sets those that normalise; else BLK_READY falls and it waits for the wake. The
holdover of the domain expires after 1 s (R362). -/
def Obligations.ResetsComplete : Prop :=
  (∀ s u r, u = stompAll s → r = State.resetOf s.build → exec .coldReset s = .next { r with
      ports := u.ports.mapV (fun _ x => { statUp := x.statUp, localFault := x.localFault, remoteFault := x.remoteFault })
      boot := { r.boot with debugEn := s.boot.debugEn }
      irq := { r.irq with tgt := s.irq.tgt.mapV (fun _ t => { awake := t.awake }) }
      badger := { r.badger with epoch := rawNs s }
      time := coldTime s.time
      otd := u.otd
      pwr := coldPwr s.pwr
      hpt := { s.hpt with waiting := [] }, out := u.out, fresh := u.fresh, pending := s.pending })
  ∧ (∀ t, (coldTime t).raw = t.raw ∧ (coldTime t).corr = t.corr ∧ (coldTime t).offset = t.offset ∧ (coldTime t).discInc = t.discInc ∧ (coldTime t).discont = t.discont
      ∧ (coldTime t).valid = t.valid ∧ (coldTime t).snaps = [] ∧ (coldTime t).timers = [])
  ∧ (∀ p, (coldPwr p).log = p.log ∧ (coldPwr p).logTotal = p.logTotal ∧ (coldPwr p).wakeEn = p.wakeEn ∧ (coldPwr p).block = .run ∧ (coldPwr p).rounds = []
      ∧ (coldPwr p).vcoreMode = true ∧ (coldPwr p).wakePend = [])
  ∧ (∀ s t, exec .coldReset s = .next t → exec .powerOnReset s = .next { t with pwr := { regReady := s.pwr.regReady, vretGood := s.pwr.vretGood } })
  ∧ (∀ s, s.boot.owed = 1 → exec .warmReset s = .next s)
  ∧ (∀ s, s.boot.owed ≠ 1 → s.pwr.block = .run → ∃ t, exec .warmReset s = .next t ∧ t.adm.lastReset = 1 ∧ t.boot.ready = false ∧ t.boot.owed = 2
      ∧ t.mb.busy = false ∧ t.mb.done = false ∧ t.time.snaps = [] ∧ t.time.raw = s.time.raw ∧ t.pwr.rounds = []
      ∧ (∀ q, q ∈ t.quad.sets → q.live = true → q.st = .normalising) ∧ ∀ id x, t.hq.sq.get? id = some x → x.fetched = [])
  ∧ (∀ s, s.boot.owed ≠ 1 → s.pwr.block ≠ .run → ∃ t, exec .warmReset s = .next t ∧ t.boot.ready = false ∧ t.boot.warmWaits = true ∧ t.pwr.block = s.pwr.block)
  ∧ (∀ s, s.sez.time = .holdover → s.sez.holdSince + 1000000000 ≤ rawNs s → exec .holdoverExpiry s = .next (setTimeState .free s))
  ∧ (∀ s, s.sez.time = .holdover → rawNs s < s.sez.holdSince + 1000000000 → exec .holdoverExpiry s = .next s)
  ∧ (∀ s, s.sez.time ≠ .holdover → exec .holdoverExpiry s = .next s)

/-- Boot, the journal's replay and DEBUG_EN (R77, R83, R88, R89, R93): a boot that is owed goes from stage to stage and ends with READY, or with the
error of the step that failed. Firmware that is ready executes the journalled commands that are not done in queue order, and is through with the
replay once none is left and no command still runs. -/
def Obligations.BootAndReplay : Prop :=
  (∀ s, s.badger.ctlHeld = 0 → s.boot.owed = 1 ∨ s.boot.owed = 2 → exec (.boot .step) s = .next { s with boot := { s.boot with
      stage := if s.boot.stage = 0 then 1 else if s.boot.stage = 1 then (if s.boot.owed = 2 then 3 else 2) else 4 } })
  ∧ (∀ s, s.badger.ctlHeld = 0 → s.boot.owed = 1 ∨ s.boot.owed = 2 → exec (.boot .ok) s = .next (
      let t := { s with boot := { s.boot with stage := 0x0F, err := 0, warm := decide (s.boot.owed = 2), ready := true, owed := 0, abortIrq := false } }
      if s.boot.abortIrq = true then fire 18 t else t))
  ∧ (∀ err s, s.badger.ctlHeld = 0 → s.boot.owed = 1 ∨ s.boot.owed = 2 → 1 ≤ err → err ≤ 4 → ∃ stage, exec (.boot (.failed err)) s = .next
      { s with fresh := s.fresh + 1, boot := { s.boot with stage := max s.boot.stage stage, err := err, ready := false, owed := 0 } }
      ∧ (err = 1 → stage = 1) ∧ (err = 3 → stage = if s.boot.owed = 2 then 3 else 2) ∧ (err = 4 → stage = 3))
  ∧ (∀ s, s.adm.replayOwed = true → s.boot.ready = true → exec .journalReplay s = .next (
      let t := replayFrom 64 s
      if replayTodo t = [] ∧ commandRuns t = false then
        { rewriteAdmin t with adm := { (rewriteAdmin t).adm with
          replayOwed := false, rewritten := ((rewriteAdmin t).adm.journal.filter (fun j => j.done && !j.again && !j.acked)).length } }
      else t))
  ∧ (∀ k s j rest, replayTodo s = j :: rest → replayFrom (k + 1) s = replayFrom k (runJournalled j s))
  ∧ (∀ k s, replayTodo s = [] → replayFrom k s = s)
  ∧ (∀ level s, exec (.debugEnChange level) s = .next { s with boot := { s.boot with debugEn := level } })

/-- SYS class (R117 to R121, R90, R94, R499, R501): with no failing check each command answers, and has its own effect alone. -/
def Obligations.SysCommandsComplete : Prop :=
  (∀ e s, inTurn e s = true → cmdVerdict 0x0101 (lenIs 0) {} e s = none → exec (.sysInfo e) s = .next (respond e 0x0101 (okV (leB 1 3 ++ leB 1 2 ++ leB 1 0
      ++ leB 1 s.boot.patchLevel ++ leB 4 0x3C1E94A7 ++ leB 2 64 ++ leB 2 (s.quad.sets.filter QSet.live).length)) s))
  ∧ (∀ e s, inTurn e s = true → cmdVerdict 0x0102 (lenIs 40) (sysAdminqSetChk e s) e s = none → ∃ t, exec (.sysAdminqSet e) s = .next (respond e 0x0102 (okV []) t)
      ∧ t.adm.set = true ∧ t.adm.rspBase = fld e.payload 16 8 ∧ t.adm.headWb = fld e.payload 24 8
      ∧ t.adm.size = fld e.payload 32 4 ∧ t.adm.vector = fld e.payload 36 2 ∧ t.hq.sq.get? 0 = some (adminQueue s e.payload))
  ∧ (∀ e s, inTurn e s = true → cmdVerdict 0x0103 (lenIs 4) (resetChk 0 e s) e s = none →
      exec (.sysResetWarm e) s = .next (respond e 0x0103 (okV []) { s with boot := { s.boot with resetAsked := some (0, e) } }))
  ∧ (∀ e s, inTurn e s = true → cmdVerdict 0x0103 (lenIs 4) (resetChk 1 e s) e s = none →
      exec (.sysResetCold e) s = .next (respond e 0x0103 (okV []) { s with boot := { s.boot with resetAsked := some (1, e) } }))
  ∧ (∀ e s, inTurn e s = true → cmdVerdict 0x0103 (lenIs 4) (resetChk 2 e s) e s = none → exec (.sysResetSlice e) s = .next (askWake (32 + byteAt e.payload 2)
      (resetCore (byteAt e.payload 2) { s with badger := { s.badger with sliceOwed := s.badger.sliceOwed.set (byteAt e.payload 2) e } })))
  ∧ (∀ e s, inTurn e s = true → cmdVerdict 0x0103 (lenIs 4) (resetChk 3 e s) e s = none → ∃ t, t = respond e 0x0103 (okV []) { s with boot := { s.boot with resetAsked := some (3, e) } }
      ∧ exec (.sysResetCtl e) s = .next (if delivered t e = true then ctlReset t else t))
  ∧ (∀ e s, inTurn e s = true → cmdVerdict 0x0105 (lenIs 0) {} e s = none → exec (.sysJournalStatus e) s = .next (respond e 0x0105 (okV (leB 2 64
      ++ leB 2 (s.adm.journal.filter (fun j => !j.done)).length ++ leB 2 (s.adm.journal.filter (fun j => j.done && !j.acked)).length
      ++ leB 1 s.adm.lastReset ++ leB 1 0 ++ leB 4 (match sqOf s 0 with | some x => posWord x.size x.head | none => 0) ++ leB 4 s.adm.replayed
      ++ leB 4 s.adm.rewritten)) s))
  ∧ (∀ e s, inTurn e s = true → cmdVerdict 0x0106 (fun _ => !ptr e) {} e s = none → exec (.sysNop e) s = .next (respond e 0x0106 (okV []) s))
  ∧ (∀ e s, inTurn e s = true → cmdVerdict 0x0107 (fun _ => ptr e) {} e s = none → exec (.sysPatchLoad e) s = .next (
      if !Config.patchSigOk e.payload then respond e 0x0107 (refusedV 1) s
      else if !Config.patchBaseOk e.payload then respond e 0x0107 (refusedV 2) s
      else if Config.patchLevel e.payload ≤ s.boot.patchLevel ∨ 256 ≤ Config.patchLevel e.payload then respond e 0x0107 (refusedV 3) s
      else respond e 0x0107 (okV []) { s with boot := { s.boot with patchLevel := Config.patchLevel e.payload } }))

/-- QUAD commands (R101, R102, R107, R108, R112, R115): each takes its effect when its checks and the judging of the set find nothing. -/
def Obligations.QuadrilleCommandsComplete : Prop :=
  (∀ e s, inTurn e s = true → cmdVerdict 0x0201 (lenIs 8) (quadOpenChk e s) e s = none → ∃ id t,
      exec (.quadOpen e) s = .next (respond e 0x0201 (okV (leB 2 id ++ leB 1 (openSets s + 1))) t)
      ∧ t = { s with fresh := s.fresh + 1, quad := { s.quad with sets := (forgetSets s).quad.sets
            ++ [{ id := id, domain := byteAt e.payload 2 = 1, idleLimit := fld e.payload 4 4, named := rawNs s }] } }
      ∧ (fld e.payload 0 2 ≠ 0 → id = fld e.payload 0 2))
  ∧ (∀ e q s, findSet s (fld e.payload 0 2) = some q → gateWaits s q = false → setLoose q = true → inTurn e s = true → cmdVerdict 0x0202 (lenIs 4) {} e s = none →
      judgeSet (retryHeld (fld e.payload 0 2) (nameSet (fld e.payload 0 2) s)) q (fld e.payload 2 2) = none →
      exec (.quadCheck e) s = .next (respond e 0x0202 (okV (leB 2 q.id ++ leB 2 0 ++ leB 4 (changeCount q.changes)))
        (updSet (fld e.payload 0 2) (fun x => { x with st := .checked }) (retryHeld (fld e.payload 0 2) (nameSet (fld e.payload 0 2) s)))))
  ∧ (∀ e q s, findSet s (fld e.payload 0 2) = some q → inTurn e s = true → cmdVerdict 0x0203 (lenIs 20) (applyChk e 0 (some q) s) e s = none →
      judgeSet (retryHeld (fld e.payload 0 2) (nameSet (fld e.payload 0 2) s)) q 0 = none →
      exec (.quadApplyNow e) s = .next (takeApply q.id 0 0 (some e) (retryHeld (fld e.payload 0 2) (nameSet (fld e.payload 0 2) s))))
  ∧ (∀ e q s, findSet s (fld e.payload 0 2) = some q → inTurn e s = true → cmdVerdict 0x0203 (lenIs 20) (applyChk e 1 (some q) s) e s = none →
      judgeSet (retryHeld (fld e.payload 0 2) (nameSet (fld e.payload 0 2) s)) q 0 = none → (armBound q : Int) ≤ timeAhead s (fld e.payload 4 8) →
      ∃ s0, s0 = retryHeld (fld e.payload 0 2) (nameSet (fld e.payload 0 2) s)
        ∧ exec (.quadApplyAtTime e) s = .next (takeApply q.id 1 (unsignedN 64 (absTarget s0 (fld e.payload 4 8))) (some e) s0))
  ∧ (∀ e q s, findSet s (fld e.payload 0 2) = some q → inTurn e s = true → cmdVerdict 0x0203 (lenIs 20) (applyChk e 2 (some q) s) e s = none →
      judgeSet (retryHeld (fld e.payload 0 2) (nameSet (fld e.payload 0 2) s)) q 0 = none → 1000000 ≤ timeAhead s (fld e.payload 12 8) →
      timeAhead s (fld e.payload 12 8) + 1000000 ≤ timeAhead s (fld e.payload 4 8) → ∃ c s1,
      c.set = q.id ∧ c.applyTime = fld e.payload 4 8 ∧ c.deadline = fld e.payload 12 8 ∧ c.ready = [] ∧ c.voters = s.sez.present.filter (fun i => decide (i ≠ s.sez.inst))
      ∧ s1 = respond e 0x0203 (okV (leB 10 0)) (updSet q.id (fun q => { q with st := .voting, mode := 2, applyTime := fld e.payload 4 8, culprit := 0xFFFF })
          (retryHeld (fld e.payload 0 2) (nameSet (fld e.payload 0 2) s)))
      ∧ exec (.quadApplyAtDomain e) s = .next (tryCommit c (flood 6 (proposeBody s1 c) (updSez (fun z => { z with coord := z.coord ++ [c] }) s1))))
  ∧ (∀ e q s, findSet s (fld e.payload 0 2) = some q → inTurn e s = true → cmdVerdict 0x0204 (lenIs 2) {} e s = none → q.st ≠ .normalising →
      ¬ (q.st = .armed ∧ nearFlip s q = true) →
      exec (.quadAbort e) s = .next (respond e 0x0204 (okV []) (abortSet (fld e.payload 0 2) (answerOwed q (cancelVote (fld e.payload 0 2) s)))))
  ∧ (∀ e q s, findSet s (fld e.payload 0 2) = some q → inTurn e s = true → cmdVerdict 0x0205 (lenIs 2) {} e s = none → ∃ data,
      exec (.quadStatus e) s = .next (respond e 0x0205 (okV data) (nameSet (fld e.payload 0 2) s))
      ∧ data.take 6 = leB 1 (setStNum q.st) ++ leB 1 0 ++ leB 4 (changeCount q.changes))

/-- Arming, the flip, normalisation and the idle limit of a set (R107, R109, R110, R114). -/
def Obligations.QuadrilleEventsComplete : Prop :=
  (∀ id q s, findSet s id = some q → q.applying = true → mayArm s id = true → ∃ t, exec (.quadArmed id) s = .next t
      ∧ cfgAt t (!s.quad.parity) = setCfg s.build q.changes (cfg s) ∧ cfgAt t s.quad.parity = cfg s ∧ t.quad.parity = s.quad.parity)
  ∧ (∀ id q s, findSet s id = some q → flipDue s q = true → ∃ t, exec (.quadFlip id) s = .next t
      ∧ t.quad.parity = (!s.quad.parity) ∧ t.bank0 = s.bank0 ∧ t.bank1 = s.bank1)
  ∧ (∀ id q s, findSet s id = some q → q.st = .normalising → oldFrames s = false → exec (.normalise id) s = .next (fire 17
      (updSet id (fun x => { x with st := .done, since := rawNs s }) (copyBanks (settleStaged id s)))))
  ∧ (∀ id q s, findSet s id = some q → setLoose q = true → 0 < q.idleLimit → q.named + q.idleLimit * 1000000000 ≤ rawNs s →
      exec (.quadIdleLimit id) s = .next (abortSet id s))

/-- Port, gate and queue settings that can be staged (R101, R103, R123 to R145, R242 to R246, R277 to R297): with no failing check a staged one is
added to its set, and an immediate one writes its fields into the configuration. -/
def Obligations.PortSettingsComplete : Prop :=
  (∀ e s, let ch : Change := ⟨.portCfg e, (portCfgClaims e s), false, true⟩
      inTurn e s = true → stageVerdict 0x0301 (lenIs 12) ch (portCfgChk e) e s = none →
      exec (.portCfg e) s = .next (respond e 0x0301 (okV []) (if staged e = true then stageChange e.setId ch s
        else updCfg (fun c => { c with ports := c.ports.set (fld e.payload 0 2) (portCfgOf e.payload) }) s)))
  ∧ (∀ e s, let ch : Change := ⟨.portFc e, [⟨0x0305, ePort e, 0⟩], false, true⟩
      inTurn e s = true → stageVerdict 0x0305 (lenIs 20) ch (portFcChk e) e s = none →
      exec (.portFc e) s = .next (respond e 0x0305 (okV []) (if staged e = true then stageChange e.setId ch s
        else (fcChanged (ePort e) (fcOf s (ePort e)).mode (byteAt e.payload 2)) (updCfg (fun c => { c with fc := c.fc.set (fld e.payload 0 2) ⟨byteAt e.payload 2, byteAt e.payload 3, byteAt e.payload 4 = 1, fld e.payload 6 2, fld e.payload 8 4, fld e.payload 12 4, fld e.payload 16 2⟩ }) s))))
  ∧ (∀ e s, let ch : Change := ⟨.portPreempt e, [⟨0x0306, ePort e, 0⟩], false, true⟩
      inTurn e s = true → stageVerdict 0x0306 (lenIs 10) ch (portPreemptChk e) e s = none →
      exec (.portPreempt e) s = .next (respond e 0x0306 (okV []) (if staged e = true then stageChange e.setId ch s
        else (fun t => preemptChanged (ePort e) ((cfg s).preempt.getD (ePort e) {}) ((cfg t).preempt.getD (ePort e) {}) t) (updCfg (fun c => { c with preempt := c.preempt.set (fld e.payload 0 2) ⟨byteAt e.payload 2 = 1, byteAt e.payload 3 = 1, byteAt e.payload 4, fld e.payload 6 2, fld e.payload 8 2⟩ }) s))))
  ∧ (∀ e s, let ch : Change := ⟨.portEee e, [⟨0x0307, ePort e, 0⟩], false, true⟩
      inTurn e s = true → stageVerdict 0x0307 (lenIs 12) ch (portEeeChk e) e s = none →
      exec (.portEee e) s = .next (respond e 0x0307 (okV []) (if staged e = true then stageChange e.setId ch s
        else updCfg (fun c => { c with eee := c.eee.set (fld e.payload 0 2) ⟨byteAt e.payload 2 = 1, fld e.payload 4 2, fld e.payload 8 4⟩ }) s)))
  ∧ (∀ e s, let ch : Change := ⟨.portWakeFilter e, [⟨0x0308, byteAt e.payload 0, byteAt e.payload 1⟩], false, true⟩
      inTurn e s = true → stageVerdict 0x0308 (lenIs 48) ch (portWakeFilterChk e) e s = none →
      exec (.portWakeFilter e) s = .next (respond e 0x0308 (okV []) (if staged e = true then stageChange e.setId ch s
        else updCfg (fun c => { c with wake := c.wake.set (byteAt e.payload 0 * 16 + byteAt e.payload 1) (⟨fld e.payload 2 4, byteAt e.payload 6, bitN (byteAt e.payload 7) 0, bitN (byteAt e.payload 7) 1, sub e.payload 8 32, fld e.payload 40 4⟩ : WakeFilter) }) s)))
  ∧ (∀ e s, let ch : Change := ⟨.portLinkHold e, [⟨0x0309, ePort e, 0⟩], false, true⟩
      inTurn e s = true → stageVerdict 0x0309 (lenIs 12) ch (portLinkHoldChk e) e s = none →
      exec (.portLinkHold e) s = .next (respond e 0x0309 (okV []) (if staged e = true then stageChange e.setId ch s
        else updCfg (fun c => { c with hold := c.hold.set (fld e.payload 0 2) ⟨fld e.payload 2 2, fld e.payload 4 4, fld e.payload 8 4⟩ }) s)))
  ∧ (∀ e s, let ch : Change := ⟨.sharedLimitSet e, [⟨0x0704, (fld e.payload 0 4) / 16, (fld e.payload 0 4)⟩], false, true⟩
      inTurn e s = true → stageVerdict 0x0704 (lenIs 12) ch (sharedLimitSetChk e) e s = none →
      exec (.sharedLimitSet e) s = .next (respond e 0x0704 (okV []) (if staged e = true then stageChange e.setId ch s
        else updCfg (fun c => { c with sharedLim := c.sharedLim.set (fld e.payload 0 4) ⟨byteAt e.payload 4, fld e.payload 8 4⟩ }) s)))
  ∧ (∀ e s, let ch : Change := ⟨.cutThroughSet e, [⟨0x0706, ePort e, 0⟩], false, true⟩
      inTurn e s = true → stageVerdict 0x0706 (lenIs 4) ch (cutThroughSetChk e) e s = none →
      exec (.cutThroughSet e) s = .next (respond e 0x0706 (okV []) (if staged e = true then stageChange e.setId ch s
        else updCfg (fun c => { c with cut := if byteAt e.payload 2 = 1 then addTo c.cut (fld e.payload 0 2) else dropFrom c.cut (fld e.payload 0 2) }) s)))
  ∧ (∀ e s, let ch : Change := ⟨.gateOverheadSet e, [⟨0x0A04, ePort e, 0⟩], false, true⟩
      inTurn e s = true → stageVerdict 0x0A04 (lenIs 4) ch (gateOverheadSetChk e) e s = none →
      exec (.gateOverheadSet e) s = .next (respond e 0x0A04 (okV []) (if staged e = true then stageChange e.setId ch s
        else updCfg (fun c => { c with overhead := c.overhead.set (fld e.payload 0 2) (byteAt e.payload 2) }) s)))
  ∧ (∀ e s, let ch : Change := ⟨.queueMapSet e, [⟨0x0901, ePort e, 0⟩], false, true⟩
      inTurn e s = true → stageVerdict 0x0901 (lenIs 32) ch (queueMapSetChk e) e s = none →
      exec (.queueMapSet e) s = .next (respond e 0x0901 (okV []) (if staged e = true then stageChange e.setId ch s
        else updCfg (fun c => { c with qmap := c.qmap.set (fld e.payload 0 2) ⟨fld e.payload 2 2, byteAt e.payload 4, (List.range 8).map (fun i => byteAt e.payload (8 + i)), (List.range 16).map (fun i => byteAt e.payload (16 + i))⟩ }) s)))
  ∧ (∀ e s, let ch : Change := ⟨.shaperSet e, [⟨0x0903, ePort e, byteAt e.payload 2 * 32 + byteAt e.payload 3⟩], false, true⟩
      inTurn e s = true → stageVerdict 0x0903 (lenIs 24) ch (shaperSetChk e) e s = none →
      exec (.shaperSet e) s = .next (respond e 0x0903 (okV []) (if staged e = true then stageChange e.setId ch s
        else (shaperSetSide e) (updCfg (fun c => { c with shaper := if byteAt e.payload 4 = 0 then c.shaper.del (shaperKey e.payload) else c.shaper.set (shaperKey e.payload) ⟨byteAt e.payload 4, fld e.payload 8 4, fld e.payload 12 4, fld e.payload 16 4, fld e.payload 20 4⟩ }) s))))
  ∧ (∀ e s, let ch : Change := ⟨.policerSet e, [⟨0x0904, byteAt e.payload 0, fld e.payload 2 2⟩], false, true⟩
      inTurn e s = true → stageVerdict 0x0904 (lenIs 24) ch (policerSetChk e) e s = none →
      exec (.policerSet e) s = .next (respond e 0x0904 (okV []) (if staged e = true then stageChange e.setId ch s
        else (policerSetSide e) (updCfg (fun c => { c with policer := if bitN (byteAt e.payload 1) 0 then c.policer.set (byteAt e.payload 0 * 4096 + fld e.payload 2 2) ⟨bitN (byteAt e.payload 1) 1, byteAt e.payload 4, signedN 8 (byteAt e.payload 6), fld e.payload 8 4, fld e.payload 12 4, fld e.payload 16 4, fld e.payload 20 4⟩ else c.policer.del (byteAt e.payload 0 * 4096 + fld e.payload 2 2) }) s))))
  ∧ (∀ e s, let ch : Change := ⟨.streamFilterSet e, [⟨0x0905, byteAt e.payload 0, fld e.payload 2 2⟩], false, true⟩
      inTurn e s = true → stageVerdict 0x0905 (lenIs 16) ch (streamFilterSetChk e) e s = none →
      exec (.streamFilterSet e) s = .next (respond e 0x0905 (okV []) (if staged e = true then stageChange e.setId ch s
        else (streamFilterSetSide e) (updCfg (fun c => { c with filter := if bitN (byteAt e.payload 1) 0 then c.filter.set (byteAt e.payload 0 * 1024 + fld e.payload 2 2) ⟨fld e.payload 4 4, bitN (byteAt e.payload 1) 1, fld e.payload 8 2, fld e.payload 10 2, fld e.payload 12 2, byteAt e.payload 14⟩ else c.filter.del (byteAt e.payload 0 * 1024 + fld e.payload 2 2) }) s))))
  ∧ (∀ e s, let ch : Change := ⟨.sampleCfg e, [⟨0x0906, ePort e, 0⟩], false, true⟩
      inTurn e s = true → stageVerdict 0x0906 (lenIs 12) ch (sampleCfgChk e) e s = none →
      exec (.sampleCfg e) s = .next (respond e 0x0906 (okV []) (if staged e = true then stageChange e.setId ch s
        else (sampleCfgSide e) (updCfg (fun c => { c with sample := c.sample.set (fld e.payload 0 2) ⟨fld e.payload 2 2, fld e.payload 4 4, fld e.payload 8 4⟩ }) s))))

/-- Forwarding, parsing, engine and flow settings that can be staged. -/
def Obligations.ForwardingSettingsComplete : Prop :=
  (∀ e s, let ch : Change := ⟨.vlanSetVlan e, [⟨0x0801, fld e.payload 2 2, 0⟩], false, true⟩
      inTurn e s = true → stageVerdict 0x0801 (lenIs 280) ch (vlanSetVlanChk e) e s = none →
      exec (.vlanSetVlan e) s = .next (respond e 0x0801 (okV []) (if staged e = true then stageChange e.setId ch s
        else updCfg (fun c => { c with vlans := if bitN (byteAt e.payload 1) 1 then c.vlans.set (fld e.payload 2 2) ⟨bitN (byteAt e.payload 1) 0, fld e.payload 4 2, false, bitmapPorts (sub e.payload 8 136), bitmapPorts (sub e.payload 144 136)⟩ else c.vlans.del (fld e.payload 2 2) }) s)))
  ∧ (∀ e s, let ch : Change := ⟨.vlanSetPort e, [⟨0x0801, fld e.payload 2 2, 1⟩], false, true⟩
      inTurn e s = true → stageVerdict 0x0801 (lenIs 8) ch (vlanSetPortChk e) e s = none →
      exec (.vlanSetPort e) s = .next (respond e 0x0801 (okV []) (if staged e = true then stageChange e.setId ch s
        else updCfg (fun c => { c with portVlan := c.portVlan.set (fld e.payload 2 2) ⟨bitN (byteAt e.payload 1) 0, bitsN (byteAt e.payload 1) 2 1, fld e.payload 4 2, byteAt e.payload 6⟩ }) s)))
  ∧ (∀ e s, let ch : Change := ⟨.learnCfgPort e, [⟨0x0805, fld e.payload 2 2, 1⟩], false, true⟩
      inTurn e s = true → stageVerdict 0x0805 (lenIs 8) ch (learnCfgPortChk e) e s = none →
      exec (.learnCfgPort e) s = .next (respond e 0x0805 (okV []) (if staged e = true then stageChange e.setId ch s
        else updCfg (fun c => { c with learnP := c.learnP.set (fld e.payload 2 2) ⟨bitN (byteAt e.payload 1) 0, bitN (byteAt e.payload 1) 1, fld e.payload 4 4⟩ }) s)))
  ∧ (∀ e s, let ch : Change := ⟨.mcastGroupSet e, [⟨0x0806, fld e.payload 0 2, 0⟩], false, true⟩
      inTurn e s = true → stageVerdict 0x0806 (lenIs 156) ch (mcastGroupSetChk e) e s = none →
      exec (.mcastGroupSet e) s = .next (respond e 0x0806 (okV []) (if staged e = true then stageChange e.setId ch s
        else updCfg (fun c => { c with mcast := if bitN (byteAt e.payload 2) 0 then c.mcast.set (fld e.payload 0 2) ⟨bitmapPorts (sub e.payload 4 136), bitmapPorts (sub e.payload 140 16)⟩ else c.mcast.del (fld e.payload 0 2) }) s)))
  ∧ (∀ e s, let ch : Change := ⟨.lagSet e, [⟨0x0807, byteAt e.payload 0, 0⟩], false, true⟩
      inTurn e s = true → stageVerdict 0x0807 (fun n => n = 16 + 2 * byteAt e.payload 8) ch (lagSetChk e) e s = none →
      exec (.lagSet e) s = .next (respond e 0x0807 (okV []) (if staged e = true then stageChange e.setId ch s
        else (lagSetSide e) (updCfg (fun c => { c with lags := if bitN (byteAt e.payload 1) 0 then c.lags.set (byteAt e.payload 0) ⟨fld e.payload 2 2, fld e.payload 4 4, lagMembersOf e.payload, fld e.payload 12 4⟩ else c.lags.del (byteAt e.payload 0) }) s))))
  ∧ (∀ e s, let ch : Change := ⟨.prpHsrSet e, [⟨0x0B06, byteAt e.payload 0, 0⟩], false, true⟩
      inTurn e s = true → stageVerdict 0x0B06 (lenIs 16) ch (prpHsrSetChk e) e s = none →
      exec (.prpHsrSet e) s = .next (respond e 0x0B06 (okV []) (if staged e = true then stageChange e.setId ch s
        else (prpHsrSetSide e) (updCfg (fun c => { c with prp := if byteAt e.payload 1 = 0 then c.prp.del (byteAt e.payload 0) else c.prp.set (byteAt e.payload 0) ⟨byteAt e.payload 1, fld e.payload 2 2, fld e.payload 4 2, fld e.payload 6 2, sub e.payload 8 6⟩ }) s))))
  ∧ (∀ e s, let ch : Change := ⟨.flowMinSet e, [⟨0x0703, fld e.payload 0 4, 0⟩], false, true⟩
      inTurn e s = true → stageVerdict 0x0703 (lenIs 8) ch (flowMinSetChk e) e s = none →
      exec (.flowMinSet e) s = .next (respond e 0x0703 (okV []) (if staged e = true then stageChange e.setId ch s
        else (flowMinSetSide e) (updCfg (fun c => { c with flows := c.flows.mapV (fun f x => if f = fld e.payload 0 4 then { x with minCells := fld e.payload 4 4 } else x) }) s))))
  ∧ (∀ e s, let ch : Change := ⟨.parseNodeSet e, ((maskSlices e.payload 0).map (fun sl => ⟨0x0401, sl, byteAt e.payload 4⟩)), false, true⟩
      inTurn e s = true → stageVerdict 0x0401 (fun n => n = 28 + 8 * byteAt e.payload 24) ch (parseNodeSetChk e) e s = none →
      exec (.parseNodeSet e) s = .next (respond e 0x0401 (okV []) (if staged e = true then stageChange e.setId ch s
        else updCfg (fun c => { c with graphs := (maskSlices e.payload 0).foldl (fun g sl => g.set sl (if bitN (byteAt e.payload 6) 0 then (g.getD sl (defaultGraph c.etherType)).set (byteAt e.payload 4) (nodeOfPayload e.payload) else (g.getD sl (defaultGraph c.etherType)).del (byteAt e.payload 4))) c.graphs }) s)))
  ∧ (∀ e s, let ch : Change := ⟨.parseGraphDefault e, ((maskSlices e.payload 0).flatMap (fun sl => (List.range 254).map (fun n => ⟨0x0401, sl, n⟩))), false, true⟩
      inTurn e s = true → stageVerdict 0x0403 (lenIs 4) ch (parseGraphDefaultChk e) e s = none →
      exec (.parseGraphDefault e) s = .next (respond e 0x0403 (okV []) (if staged e = true then stageChange e.setId ch s
        else updCfg (fun c => { c with graphs := (maskSlices e.payload 0).foldl (fun g sl => g.del sl) c.graphs }) s)))
  ∧ (∀ e s, let ch : Change := ⟨.keyProfileSet e, (if byteAt e.payload 0 = 0 then (maskSlices e.payload 4).map (fun sl => ⟨0x0506, sl, byteAt e.payload 1⟩) else [⟨0x0606, fld e.payload 2 2, byteAt e.payload 1⟩]), false, true⟩
      inTurn e s = true → stageVerdict 0x0506 (fun n => n = 16 + 8 * byteAt e.payload 13) ch (keyProfileSetChk e) e s = none →
      exec (.keyProfileSet e) s = .next (respond e 0x0506 (okV []) (if staged e = true then stageChange e.setId ch s
        else updCfg (fun c => if byteAt e.payload 0 = 0 then { c with stages := (maskSlices e.payload 4).foldl (fun m sl => m.set (sl * 8 + byteAt e.payload 1) (profileOfPayload e.payload)) c.stages } else { c with keyPorts := c.keyPorts.set (fld e.payload 2 2 * 4 + byteAt e.payload 1) (profileOfPayload e.payload) }) s)))
  ∧ (∀ e s, let ch : Change := ⟨.progBindMap e, [⟨0x0602, fld e.payload 0 2, byteAt e.payload 3⟩], false, true⟩
      inTurn e s = true → stageVerdict 0x0602 (lenIs 20) ch (progBindMapChk e) e s = none →
      exec (.progBindMap e) s = .next (respond e 0x0602 (okV []) (if staged e = true then stageChange e.setId ch s
        else updCfg (fun c => { c with progMap := if fld e.payload 4 2 = 0 then c.progMap.del (fld e.payload 0 2 * 64 + byteAt e.payload 3) else c.progMap.set (fld e.payload 0 2 * 64 + byteAt e.payload 3) (fld e.payload 4 2) }) s)))
  ∧ (∀ e s, let ch : Change := ⟨.progBindDefault e, ((bindPorts e.payload).map (fun x => ⟨0x0602, fld e.payload 0 2, 0x1000 + x⟩)), false, true⟩
      inTurn e s = true → stageVerdict 0x0602 (lenIs 20) ch (progBindDefaultChk e) e s = none →
      exec (.progBindDefault e) s = .next (respond e 0x0602 (okV []) (if staged e = true then stageChange e.setId ch s
        else updCfg (fun c => { c with progDef := (bindPorts e.payload).foldl (fun m x => m.set (fld e.payload 0 2 * 2048 + x) (byteAt e.payload 3)) c.progDef }) s)))
  ∧ (∀ e s, let ch : Change := ⟨.constSet e, ((List.range (byteAt e.payload 3)).map (fun i => ⟨0x0605, (fld e.payload 0 2), byteAt e.payload 2 + i⟩)), false, true⟩
      inTurn e s = true → stageVerdict 0x0605 (fun n => n = 4 + 4 * byteAt e.payload 3) ch (constSetChk e) e s = none →
      exec (.constSet e) s = .next (respond e 0x0605 (okV []) (if staged e = true then stageChange e.setId ch s
        else updCfg (fun c => { c with consts := (List.range (byteAt e.payload 3)).foldl (fun m i => m.set (fld e.payload 0 2 * 64 + byteAt e.payload 2 + i) (BitVec.ofNat 32 (fld e.payload (4 + 4 * i) 4))) c.consts }) s)))

/-- Time, domain, host and capture settings that can be staged. -/
def Obligations.EdgeSettingsComplete : Prop :=
  (∀ e s, let ch : Change := ⟨.stampPortCfg e, [⟨0x0C01, ePort e, 0⟩], false, true⟩
      inTurn e s = true → stageVerdict 0x0C01 (lenIs 12) ch (stampPortCfgChk e) e s = none →
      exec (.stampPortCfg e) s = .next (respond e 0x0C01 (okV []) (if staged e = true then stageChange e.setId ch s
        else updCfg (fun c => { c with stampP := c.stampP.set (fld e.payload 0 2) ⟨fld e.payload 2 2, sfld e.payload 4 2, sfld e.payload 6 2, sfld e.payload 8 2, sfld e.payload 10 2⟩ }) s)))
  ∧ (∀ e s, let ch : Change := ⟨.ptpPortCfg e, [⟨0x0C04, ePort e, 0⟩], false, true⟩
      inTurn e s = true → stageVerdict 0x0C04 (lenIs 24) ch (ptpPortCfgChk e) e s = none →
      exec (.ptpPortCfg e) s = .next (respond e 0x0C04 (okV []) (if staged e = true then stageChange e.setId ch s
        else (ptpPortCfgSide e) (updCfg (fun c => { c with ptp := c.ptp.set (fld e.payload 0 2) (ptpCfgOf e.payload) }) s))))
  ∧ (∀ e s, let ch : Change := ⟨.domainPortSet e, [⟨0x0D02, fld e.payload 0 2, 0⟩], false, true⟩
      inTurn e s = true → stageVerdict 0x0D02 (lenIs 8) ch (domainPortSetChk e) e s = none →
      exec (.domainPortSet e) s = .next (respond e 0x0D02 (okV []) (if staged e = true then stageChange e.setId ch s
        else (domainPortSetSide e) (updCfg (fun c => { c with domPort := if byteAt e.payload 2 = 1 then c.domPort.set (fld e.payload 0 2) ⟨byteAt e.payload 3, sfld e.payload 4 4⟩ else c.domPort.del (fld e.payload 0 2) }) s))))
  ∧ (∀ e s, let ch : Change := ⟨.rxFilterSet e, [⟨0x0E07, byteAt e.payload 0, byteAt e.payload 1⟩], false, true⟩
      inTurn e s = true → stageVerdict 0x0E07 (lenIs 24) ch (rxFilterChk e) e s = none →
      exec (.rxFilterSet e) s = .next (respond e 0x0E07 (okV []) (if staged e = true then stageChange e.setId ch s
        else updCfg (fun c => { c with rxFilter := if bitN (byteAt e.payload 2) 0 then c.rxFilter.set (byteAt e.payload 0 * 256 + byteAt e.payload 1) (rxFilterOf e.payload) else c.rxFilter.del (byteAt e.payload 0 * 256 + byteAt e.payload 1) }) s)))
  ∧ (∀ e s, let ch : Change := ⟨.rssSet e, [⟨0x0E08, byteAt e.payload 0, 0⟩], false, true⟩
      inTurn e s = true → stageVerdict 0x0E08 (lenIs 272) ch (rssSetChk e) e s = none →
      exec (.rssSet e) s = .next (respond e 0x0E08 (okV []) (if staged e = true then stageChange e.setId ch s
        else updCfg (fun c => { c with rss := if bitN (byteAt e.payload 2) 0 then c.rss.set (byteAt e.payload 0) (⟨byteAt e.payload 1, fld e.payload 4 2, fld e.payload 8 4, (List.range 128).map (fun i => fld e.payload (16 + 2 * i) 2)⟩ : RssCfg) else c.rss.del (byteAt e.payload 0) }) s)))
  ∧ (∀ e s, let ch : Change := ⟨.offloadSet e, [⟨0x0E09, byteAt e.payload 0, 0⟩], false, true⟩
      inTurn e s = true → stageVerdict 0x0E09 (lenIs 4) ch (offloadSetChk e) e s = none →
      exec (.offloadSet e) s = .next (respond e 0x0E09 (okV []) (if staged e = true then stageChange e.setId ch s
        else updCfg (fun c => { c with offload := c.offload.set (byteAt e.payload 0) (byteAt e.payload 1) }) s)))
  ∧ (∀ e s, let ch : Change := ⟨.capRuleSet e, [⟨0x1102, byteAt e.payload 0, 0⟩], false, true⟩
      inTurn e s = true → stageVerdict 0x1102 (lenIs 24) ch (capRuleSetChk e) e s = none →
      exec (.capRuleSet e) s = .next (respond e 0x1102 (okV []) (if staged e = true then stageChange e.setId ch s
        else (capRuleSetSide e) (updCfg (fun c => { c with capRule := c.capRule.set (byteAt e.payload 0) (⟨byteAt e.payload 1, fld e.payload 2 2, fld e.payload 4 2, fld e.payload 6 2, fld e.payload 8 4, fld e.payload 12 4, fld e.payload 16 4, byteAt e.payload 20, byteAt e.payload 21, byteAt e.payload 22⟩ : CapRule) }) s))))
  ∧ (∀ e s, let ch : Change := ⟨.mirrorSet e, [⟨0x1103, byteAt e.payload 0, 0⟩], false, true⟩
      inTurn e s = true → stageVerdict 0x1103 (lenIs 12) ch (mirrorSetChk e) e s = none →
      exec (.mirrorSet e) s = .next (respond e 0x1103 (okV []) (if staged e = true then stageChange e.setId ch s
        else updCfg (fun c => { c with mirror := if bitN (byteAt e.payload 1) 0 then c.mirror.set (byteAt e.payload 0) ⟨fld e.payload 2 2, byteAt e.payload 4, fld e.payload 6 2, fld e.payload 8 2⟩ else c.mirror.del (byteAt e.payload 0) }) s)))
  ∧ (∀ e s, let ch : Change := ⟨.capEnable e, [⟨0x1104, 0, 0⟩], false, true⟩
      inTurn e s = true → stageVerdict 0x1104 (lenIs 8) ch (fun _ => {}) e s = none →
      exec (.capEnable e) s = .next (respond e 0x1104 (okV []) (if staged e = true then stageChange e.setId ch s
        else updCfg (fun c => { c with capEn := setBits 64 (fld e.payload 0 8) }) s)))

/-- Table entries, MAC entries and flows that can be staged (R103, R104, R113, R204, R206, R259, R320): with no failing check a staged change joins
its set, with the table changes of staging; an immediate one is made at once. -/
def Obligations.EntriesAndFlowsComplete : Prop :=
  (∀ e s t x, t = eTable e s → x = entryOfPayload t e.payload → let ch : Change := ⟨.entryWrite e, [entryClaim (fld e.payload 0 2) x], true, true⟩
      inTurn e s = true → stageVerdict 0x0503 (fun n => !s.tables.tables.has (fld e.payload 0 2) || n = entryLen t) ch (entryWriteChk e) e s = none →
      ∃ handle, exec (.entryWrite e) s = .next (respond e 0x0503 (okV (leB 4 handle)) (if staged e = true
          then stageChange e.setId ch (entryStage (fld e.payload 0 2) e.setId x s)
          else { updTable (fld e.payload 0 2) (entryPut s x) s with fresh := s.fresh + 1 }))
        ∧ (staged e = true ∨ entryStanding s t 0 x = none → handle = newHandle s t)
        ∧ (∀ y, staged e = false → entryStanding s t 0 x = some y → handle = y.handle))
  ∧ (∀ e s y, entryNamed e (if staged e then setView e.setId s else s) (eTable e s) (eSet e) = some y →
      let ch : Change := ⟨.entryDelete e, deleteClaims e (eTable e s), true, true⟩
      inTurn e s = true → stageVerdict 0x0504 (fun n => if bitN (byteAt e.payload 2) 2 then n = 12 else !s.tables.tables.has (fld e.payload 0 2) || n = entryLen (eTable e s)) ch
        (entryDeleteChk e) e s = none →
      exec (.entryDelete e) s = .next (respond e 0x0504 (okV []) (if staged e = true
        then stageChange e.setId ch (updTable (fld e.payload 0 2) (entryStageOut s.quad.parity e.setId y) s)
        else updTable (fld e.payload 0 2) (fun t => { t with entries := t.entries.filter (fun z => z ≠ y) }) s)))
  ∧ (∀ e s, let ch : Change := ⟨.macAdd e, [macClaim (fld e.payload 0 2) (ePayMac e)], true, true⟩
      inTurn e s = true → stageVerdict 0x0802 (lenIs 16) ch (macAddChk e) e s = none →
      exec (.macAdd e) s = .next (respond e 0x0802 (okV []) (if staged e = true
        then stageChange e.setId ch (macInsert (macAddEntry e (visOnly (!s.quad.parity)) e.setId) (macStageDelete e s))
        else macAddNow e s)))
  ∧ (∀ e s, (∀ x, x ∈ s.tables.mac → macIs e x = true → x.staged ≠ 0) → macAddNow e s = macInsert (macAddEntry e 3 0) s)
  ∧ (∀ e x s, x ∈ s.tables.mac → macIs e x = true → x.staged = 0 → { macAddEntry e 3 0 with slot := x.slot } ∈ (macAddNow e s).tables.mac
      ∧ (macAddNow e s).tables.mac.length = s.tables.mac.length)
  ∧ (∀ e s, let ch : Change := ⟨.macDelete e, [macClaim (fld e.payload 0 2) (ePayMac e)], true, true⟩
      inTurn e s = true → stageVerdict 0x0803 (lenIs 8) ch (macDeleteChk e) e s = none →
      exec (.macDelete e) s = .next (respond e 0x0803 (okV []) (if staged e = true then stageChange e.setId ch (macStageDelete e s)
        else macDrop (fun x => macIs e x && x.staged = 0) s)))
  ∧ (∀ e s f, flowChosen e s = some f → let ch : Change := ⟨.flowAdd (flowAddEnv e f s), flowClaims f, false, true⟩
      inTurn e s = true → stageVerdict 0x0B01 (lenIs 92) ch (flowAddChk e) e s = none → ∃ t, exec (.flowAdd e) s = .next (respond e 0x0B01 (okV (leB 4 f)) t)
        ∧ (staged e = true → ∃ k, t = stageChange e.setId ch (stageKey f e.setId ((cfgUpd s.build ch.cmd (cfg s)).flows.get? f) { s with fresh := k }))
        ∧ (staged e = false → ∃ k, t = { flowNow (.flowAdd (flowAddEnv e f s)) f s with fresh := k }))
  ∧ (∀ e s, let ch : Change := ⟨.flowModify e, flowModifyClaims e, false, true⟩
      inTurn e s = true → stageVerdict 0x0B02 (lenIs 48) ch (flowModifyChk e) e s = none →
      exec (.flowModify e) s = .next (respond e 0x0B02 (okV []) (if staged e = true then stageChange e.setId ch s
        else flowSettle (fld e.payload 0 4) ((cfg s).flows.get? (fld e.payload 0 4)) (((cfg s).flows.get? (fld e.payload 0 4)).map (flowModified e.payload))
          (updCfg (fun c => { c with flows := c.flows.mapV (fun f x => if f = fld e.payload 0 4 then flowModified e.payload x else x) }) s))))
  ∧ (∀ e s, let ch : Change := ⟨.flowDelete e, flowClaims (fld e.payload 0 4), false, true⟩
      inTurn e s = true → stageVerdict 0x0B03 (lenIs 4) ch (flowDeleteChk e) e s = none →
      exec (.flowDelete e) s = .next (respond e 0x0B03 (okV []) (if staged e = true then stageChange e.setId ch (stageKey (fld e.payload 0 4) e.setId none s)
        else flowSettle (fld e.payload 0 4) ((cfg s).flows.get? (fld e.payload 0 4)) none
          (updCfg (fun c => { c with flows := c.flows.del (fld e.payload 0 4) }) s))))

/-- Gate lists, scheduling and learning settings that can be staged (R103, R260, R280, R301, R305, R316, R318). -/
def Obligations.GateAndSchedulingChangesComplete : Prop :=
  (∀ e s, let ch : Change := ⟨.gateListSet e, [⟨0x0A01, ePort e, 0⟩], false, true⟩
      inTurn e s = true → stageVerdict 0x0A01 (fun n => n = 24 + 8 * fld e.payload 2 2) ch (gateListSetChk e) e s = none → ∃ t v, exec (.gateListSet e) s = .next (respond e 0x0A01 v t)
        ∧ (v.status = 0x00 ∨ v.status = 0x0C)
        ∧ (staged e = true → t = stageChange e.setId ch s ∧ v = okV (leB 8 0))
        ∧ (staged e = false → ePort e ∉ (cfg s).gateOn → t = updCfg (fun c => { c with gate := c.gate.set (ePort e) (gateListOf e.payload) }) s)
        ∧ (staged e = false → ePort e ∈ (cfg s).gateOn → ∃ start, t = settleHold (ePort e) (changeLists (ePort e) (fun x => { x with next := some (gateListOf e.payload, start), flipWait := false })
            (updCfg (fun c => { c with gate := c.gate.set (ePort e) (gateListOf e.payload) }) s))))
  ∧ (∀ e s g, (cfg s).gate.get? (ePort e) = some g → let ch : Change := ⟨.gateEnableOn e, [⟨0x0A02, ePort e, 0⟩], false, true⟩
      inTurn e s = true → stageVerdict 0x0A02 (lenIs 4) ch (gateEnableChk e) e s = none → ∃ t v, exec (.gateEnableOn e) s = .next (respond e 0x0A02 v t)
        ∧ (v.status = 0x00 ∨ v.status = 0x0C)
        ∧ (staged e = true → t = stageChange e.setId ch s)
        ∧ (staged e = false → ePort e ∈ (cfg s).gateOn → t = s)
        ∧ (staged e = false → ePort e ∉ (cfg s).gateOn → ∃ start, t = settleHold (ePort e) (changeLists (ePort e) (fun x => { x with next := some (g, start), flipWait := false })
            (updCfg (fun c => { c with gateOn := addTo c.gateOn (ePort e) }) s))))
  ∧ (∀ e s, let ch : Change := ⟨.gateEnableOff e, [⟨0x0A02, ePort e, 0⟩], false, true⟩
      inTurn e s = true → stageVerdict 0x0A02 (lenIs 4) ch (gateEnableChk e) e s = none →
      exec (.gateEnableOff e) s = .next (respond e 0x0A02 (okV (leB 8 0)) (if staged e = true then stageChange e.setId ch s
        else changeLists (ePort e) (fun _ => {}) (settleGateCredits (ePort e) (updCfg (fun c => { c with gateOn := dropFrom c.gateOn (ePort e) }) s)))))
  ∧ (∀ e s, let ch : Change := ⟨.schedSet e, [⟨0x0902, ePort e, 0⟩], false, true⟩
      inTurn e s = true → stageVerdict 0x0902 (lenIs 100) ch (schedSetChk e) e s = none →
      exec (.schedSet e) s = .next (respond e 0x0902 (okV []) (if staged e = true then stageChange e.setId ch s
        else resetDeficits (ePort e) (schedOfPort (cfg s) (ePort e)) (schedOf e.payload)
          (updCfg (fun c => { c with sched := c.sched.set (ePort e) (schedOf e.payload) }) s))))
  ∧ (∀ e s, let ch : Change := ⟨.learnCfgGlobal e, [⟨0x0805, 0xFFFF, 0⟩], false, true⟩
      inTurn e s = true → stageVerdict 0x0805 (lenIs 12) ch (learnCfgGlobalChk e) e s = none →
      exec (.learnCfgGlobal e) s = .next (respond e 0x0805 (okV []) (if staged e = true then stageChange e.setId ch s
        else ageRestart (cfg s).learnG.ageTime (fld e.payload 4 4)
          (updCfg (fun c => { c with learnG := ⟨bitN (byteAt e.payload 1) 0, fld e.payload 2 2, fld e.payload 4 4, fld e.payload 8 4⟩ }) s))))

/-- PORT_ADMIN, PORT_STATUS and PORT_COUNTERS (R35, R67, R106, R136, R137, R507): up brings the port to DOWN and closes the switch of a port front
that is not On; down takes its effect, or is refused; the reads answer, and PORT_COUNTERS clears what it says, of that port alone. -/
def Obligations.PortCommandsComplete : Prop :=
  (∀ e s, inTurn e s = true → cmdVerdict 0x0302 (lenIs 4) (portAdminUpChk e s) e s = none → ∃ t, exec (.portAdminUp e) s = .next (respond e 0x0302 (okV []) t)
      ∧ (port t (ePort e)).admin = true
      ∧ ((dom s (ePort e / 32)).st = .run → dom t (ePort e / 32) = dom s (ePort e / 32))
      ∧ ((dom s (ePort e / 32)).st ≠ .run → (dom t (ePort e / 32)).pswEn = true ∧ (dom t (ePort e / 32)).trans = .wakePsw)
      ∧ ((port s (ePort e)).admin = false → (port t (ePort e)).link = .down ∧ (port t (ePort e)).lfDown = false)
      ∧ ((port s (ePort e)).admin = true → port t (ePort e) = port s (ePort e))
      ∧ (∀ q, q ≠ ePort e → port t q = port s q))
  ∧ (∀ e s, inTurn e s = true → cmdVerdict 0x0302 (lenIs 4) (portAdminDownChk e s) e s = none → adminDownRefused s (ePort e) = false →
      exec (.portAdminDown e) s = .next (respond e 0x0302 (okV []) (adminDown (ePort e) s)))
  ∧ (∀ e s, inTurn e s = true → cmdVerdict 0x0302 (lenIs 4) (portAdminDownChk e s) e s = none → adminDownRefused s (ePort e) = true →
      exec (.portAdminDown e) s = .next (respond e 0x0302 (refusedV 1) s))
  ∧ (∀ e s, inTurn e s = true → cmdVerdict 0x0303 (lenIs 2) (portStatusChk e s) e s = none →
      exec (.portStatus e) s = .next (respond e 0x0303 (okV (portStatusData s (ePort e))) s))
  ∧ (∀ e s, inTurn e s = true → cmdVerdict 0x0304 (lenIs 4) (portCountersChk e s) e s = none → ∃ data t, exec (.portCounters e) s = .next (respond e 0x0304 (okV data) t)
      ∧ data = (List.range (if byteAt e.payload 0 = 0 then 28 else 20)).flatMap (fun i => leB 8 (portCounter s (byteAt e.payload 0) (fld e.payload 2 2) i))
      ∧ t = portCountersRead (byteAt e.payload 0) (fld e.payload 2 2) (bitN (byteAt e.payload 1) 0) s
      ∧ (bitN (byteAt e.payload 1) 0 = true → byteAt e.payload 0 = 0 → ∀ i, ctrOf t (pCtr (fld e.payload 2 2) i) = 0)
      ∧ (byteAt e.payload 0 = 0 → ∀ p i, p ≠ fld e.payload 2 2 → ctrOf t (pCtr p i) = ctrOf s (pCtr p i)))

/-- The link state machine of an admin-up port (R136, R137): a fault takes UP to HELD, with LINK_DOWN_EVENTS, and COMING_UP to DOWN; its clearing
takes DOWN and FLUSHED to COMING_UP; UP_DEBOUNCE without fault leads to UP, an expired hold to FLUSHED. Pause, low-power idle, preemption
verification, stray words and the den (R138 to R144, R506). Verification sends a verify mPacket each VERIFY_TIME and has FAILED after three; a
response makes preemption ACTIVE; a port that can preempt answers a verify request. -/
def Obligations.PortEventsComplete : Prop :=
  (∀ p stat s, (stat.linkUp = false ∨ stat.localFault = true ∨ stat.remoteFault = true) → (port s p).admin = true → (port s p).link = .up →
      ∃ t s1, exec (.linkFault p stat) s = .next t ∧ t = enterHeld p s1
        ∧ s1 = updPort p (fun x => { x with statUp := stat.linkUp, localFault := stat.localFault, remoteFault := stat.remoteFault }) s)
  ∧ (∀ p stat s, (stat.linkUp = false ∨ stat.localFault = true ∨ stat.remoteFault = true) → (port s p).admin = true → (port s p).link = .comingUp →
      ∃ t, exec (.linkFault p stat) s = .next t ∧ (port t p).link = .down ∧ ∀ q, q ≠ p → port t q = port s q)
  ∧ (∀ p s, (port s p).admin = true → ((port s p).link = .down ∨ (port s p).link = .flushed) →
      ∃ t, exec (.linkFaultClear p) s = .next t ∧ (port t p).link = .comingUp ∧ (port t p).since = rawNs s ∧ ∀ q, q ≠ p → port t q = port s q)
  ∧ (∀ p s, (port s p).admin = true → ((port s p).link = .comingUp ∨ (port s p).link = .held) → debounced s (port s p) = true →
      exec (.linkUp p) s = .next (rebalancePort p (linkWake p (updPort p (fun x => { x with link := .up, since := rawNs s }) s))))
  ∧ (∀ p s, (port s p).admin = true → (port s p).link = .held → (port s p).since + (port s p).holdUs * 1000 ≤ rawNs s → debounced s (port s p) = false →
      exec (.linkHoldExpiry p) s = .next (linkWake p (flushOnDown p (flushAll p (updPort p (fun x => { x with link := .flushed, since := rawNs s }) s)))))
  ∧ (∀ p stat s, (port s p).admin = false → ∃ t, exec (.linkFault p stat) s = .next t ∧ (port t p).link = (port s p).link)
  ∧ (∀ p prio t s, (port s p).paused.get? prio = some t → t ≤ rawNs s →
      exec (.pauseExpiry p prio) s = .next (updPort p (fun x => { x with paused := x.paused.del prio }) s))
  ∧ (∀ p prio t s, (port s p).xoff.get? prio = some t → (fcOf s p).xon < ingressCount s p prio → t + quantaNs s p (fcOf s p).refresh ≤ rawNs s →
      exec (.xoffRefresh p prio) s = .next (sendPause p (fcOf s p).quanta (if (fcOf s p).mode = 1 then none else some prio)
        (updPort p (fun x => { x with xoff := x.xoff.set prio (rawNs s) }) s)))
  ∧ (∀ p s, ((cfg s).eee.getD p {}).enable = true → (port s p).link = .up → (port s p).lpiTx = none → portEmpty s p = true →
      (port s p).emptySince + ((cfg s).eee.getD p {}).idle * 1000 ≤ rawNs s →
      exec (.lpiEnter p) s = .next (emit (.lpi p true) (updPort p (fun x => { x with lpiTx := some (rawNs s) }) s)))
  ∧ (∀ p t s, (port s p).lpiTx = some t → portEmpty s p = false →
      exec (.lpiExit p) s = .next (updPort p (fun x => { x with lpiReady := rawNs s + twOf s p })
        (emit (.lpi p false) (addCtr (pCtr p 21) ((rawNs s - t) / 1000) (updPort p (fun x => { x with lpiTx := none }) s)))))
  ∧ (∀ p s, (port s p).lpiRx = none → exec (.partnerLpi p true) s = .next (updPort p (fun x => { x with lpiRx := some (rawNs s) }) s))
  ∧ (∀ p t s, (port s p).lpiRx = some t → exec (.partnerLpi p false) s
      = .next (addCtr (pCtr p 22) ((rawNs s - t) / 1000) (updPort p (fun x => { x with lpiRx := none }) s)))
  ∧ (∀ p s, (port s p).pre = .verifying → exec (.preemptVerify p .response) s = .next (updPort p (fun x => { x with pre := .active }) s))
  ∧ (∀ p s, (port s p).pre = .verifying → 3 ≤ (port s p).verifyTries →
      (port s p).verifyAt + ((cfg s).preempt.getD p {}).verifyTime * 1000000 ≤ rawNs s →
      exec (.preemptVerify p .timer) s = .next (updPort p (fun x => { x with pre := .failed }) s))
  ∧ (∀ p s, (port s p).pre = .verifying → (port s p).verifyTries < 3 →
      (port s p).verifyTries = 0 ∨ (port s p).verifyAt + ((cfg s).preempt.getD p {}).verifyTime * 1000000 ≤ rawNs s →
      exec (.preemptVerify p .timer) s = .next (updPort p (fun x => { x with fifo := .own (padded []) 5 :: x.fifo })
        (updPort p (fun x => { x with verifyTries := x.verifyTries + 1, verifyAt := rawNs s }) s)))
  ∧ (∀ p s, ((cfg s).preempt.getD p {}).enable = true → (port s p).link = .up →
      exec (.preemptVerify p .request) s = .next (updPort p (fun x => { x with fifo := .own (padded []) 6 :: x.fifo }) s))
  ∧ (∀ sl lane sub s, sl < nSlices s → lane < 16 → (dom s sl).st = .run → (∀ x, x ∈ (cfg s).ports → x.1 / 32 ≠ sl) →
      exec (.strayWord sl lane sub) s = .next (bump (sCtr sl (4 + lane)) s))
  ∧ (∀ sl s, coreTakes s sl = true → (slice s sl).den = [] → exec (.denDrain sl) s = .next (updSlice sl (fun x => { x with denLf := false }) s))
  ∧ (∀ sl d rest s, coreTakes s sl = true → (slice s sl).den = d :: rest → stagingFill s sl + d.frame.data.length + 4 ≤ 65536 → ∃ t,
      t = toIngress d.frame (updSlice sl (fun x => { x with den := rest }) s)
      ∧ exec (.denDrain sl) s = .next (if denFill t sl < 524288 then updSlice sl (fun x => { x with denLf := false }) t else t))

/-- Commands of a port event leave every other port as it was (R50 to R52, R136 to R141). -/
def Obligations.PortEventsStayOnTheirPort : Prop :=
  ∀ p q s t, q ≠ p → (∀ prio, exec (.pauseExpiry p prio) s = .next t → port t q = port s q)
    ∧ (∀ prio, exec (.xoffRefresh p prio) s = .next t → port t q = port s q)
    ∧ (exec (.lpiEnter p) s = .next t → port t q = port s q)
    ∧ (exec (.lpiExit p) s = .next t → port t q = port s q)
    ∧ (∀ level, exec (.partnerLpi p level) s = .next t → port t q = port s q)
    ∧ (∀ responded, exec (.preemptVerify p responded) s = .next t → port t q = port s q)
    ∧ (∀ hint early, exec (.txHint p hint early) s = .next t → port t q = port s q)
    ∧ (exec (.hintMissing p) s = .next t → port t q = port s q)
    ∧ (exec (.stall p) s = .next t → port t q = port s q)
    ∧ (∀ e, ePort e = p → exec (.portAdminUp e) s = .next t → port t q = port s q)
    ∧ (exec (.linkFaultClear p) s = .next t → port t q = port s q)

/-- RX_FRAME (R126, R127, R135, R163): a frame counts for the utilisation of its port. A good one is counted with its bytes and passed on with its
stamp; a bad one counts in the counter of its case and, with no cut-through pair, ends there; a pause or PFC frame ends at the MAC. The cases in the
table's order: a bad FCS, a runt, an oversize frame; one that a new SOF cuts off has no FCS to judge (log 100). -/
def Obligations.ReceiveJudgesFrames : Prop :=
  (∀ f s, receives s f.port = true → rxCase (cfg s) f = 0 → ∃ s1, s1 = countLoad f.port false f.bytes.length s
      ∧ exec (.rxFrame f) s = .next (passOn (rxStamped f false s1)
        (addCtr (pCtr f.port 1) (min f.bytes.length (maxFrame (cfg s) f.port + 1)) (bump (pCtr f.port 0) s1))))
  ∧ (∀ f s, receives s f.port = true → rxCase (cfg s) f = 7 ∨ rxCase (cfg s) f = 8 → ∃ t, exec (.rxFrame f) s = .next t
      ∧ t.slices = s.slices ∧ t.buf = s.buf ∧ ctrOf t (pCtr f.port (rxCase (cfg s) f)) = (ctrOf s (pCtr f.port (rxCase (cfg s) f)) + 1) % 2 ^ 64)
  ∧ (∀ f s, receives s f.port = true → 1 < rxCase (cfg s) f → rxCase (cfg s) f < 7 → (cfg s).cut = [] → ∃ t, exec (.rxFrame f) s = .next t
      ∧ t.slices = s.slices ∧ t.ports = (countLoad f.port false f.bytes.length s).ports
      ∧ ctrOf t (pCtr f.port (rxCase (cfg s) f)) = (ctrOf s (pCtr f.port (rxCase (cfg s) f)) + 1) % 2 ^ 64)
  ∧ (∀ f s, receives s f.port = false → exec (.rxFrame f) s = .next s)
  ∧ (∀ c f, f.ending = .newSof → f.bytes.length < 64 → rxCase c f = 3)
  ∧ (∀ c f, f.ending = .newSof → 64 ≤ f.bytes.length → maxFrame c f.port < f.bytes.length → rxCase c f = 4)
  ∧ (∀ c f, f.ending = .newSof → 64 ≤ f.bytes.length → f.bytes.length ≤ maxFrame c f.port → rxCase c f = 6)
  ∧ (∀ c f, f.ending ≠ .newSof → f.bytes.drop (f.bytes.length - 4) ≠ fcsOf (f.bytes.take (f.bytes.length - 4)) → rxCase c f = 2)
  ∧ (∀ c f, f.ending ≠ .newSof → f.bytes.drop (f.bytes.length - 4) = fcsOf (f.bytes.take (f.bytes.length - 4)) → f.bytes.length < 64 → rxCase c f = 3)
  ∧ (∀ c f, f.ending ≠ .newSof → f.bytes.drop (f.bytes.length - 4) = fcsOf (f.bytes.take (f.bytes.length - 4)) → 64 ≤ f.bytes.length →
      maxFrame c f.port < f.bytes.length → rxCase c f = 4)

/-- The port front on transmit (R50 to R54, R129 to R132, R170 to R173): a frame begins with its sampled edge and without its hint; the hints owed are
settled in transfer order, each for the oldest frame that awaits one; its last byte or a stomp ends the frame. -/
def Obligations.TransmitComplete : Prop :=
  (∀ p tx i x d w s s0 at', txReady s p = true → rateOf s (cfg s) p ≠ 0 → (port s p).cur = none → s0 = countLogHold p s →
      at' = stampOf (sampledEdge s (p / 32) tx.edge) 0 tx.sofIndex (rateOf s (cfg s) p) (port s p).txLat 1 → txPick s0 p at' 0 (port s0 p).fifo 0 = .start i →
      (port s0 p).fifo[i]? = some x → txBytes s0 p (if legacyPort s0 p then at' else at' + hintPredOf s0 p) x = some (d, w) →
      ∃ t, exec (.txStart p tx) s = .next t ∧ (port t p).fifo = (port s p).fifo.eraseIdx i
        ∧ (port t p).cur = some { item := withData x d, stamp := at', stampFlags := stampFlags s0 p, hintWait := !legacyPort s0 p,
                                  pred := if w && !legacyPort s0 p then some (hintPredOf s0 p, txData x) else none }
        ∧ (port t p).hints = if legacyPort s0 p = true then (port s p).hints else (port s p).hints ++ [⟨false⟩])
  ∧ (∀ p tx s, txReady s p = false → exec (.txStart p tx) s = .next s)
  ∧ (∀ p d tag flags at' s, (port s p).cur = some { item := .own d tag, stamp := at', stampFlags := flags, hintWait := false } → ∃ t, exec (.txDone p) s = .next t
      ∧ (port t p).cur = none ∧ t.out = s.out ++ [.frame p (wholeFrame d) false]
      ∧ (tag ≠ 1 → tag ≠ 2 → tag ≠ 5 → tag ≠ 6 → ctrOf t (pCtr p 9) = (ctrOf s (pCtr p 9) + 1) % 2 ^ 64))
  ∧ (∀ p c x s, (port s p).cur = some x → x.item = .copy c → x.hintWait = false → badItem s (.copy c) = false → ∃ s1, s1 = countSent p (.copy c) (wireLen c.data)
        (countLoad p true (wireLen c.data) (emit (.frame p (wholeFrame c.data) false) (updPort p (fun x => { x with cur := none }) s)))
      ∧ exec (.txDone p) s = .next (noteEmpty p (copySent p x c (meterSent p (.copy c) (wireLen c.data) (if x.pred.isSome = true then bump (pCtr p 25) s1 else s1)))))
  ∧ (∀ p x s, (port s p).cur = some x → x.hintWait = true → exec (.txDone p) s = .next s)
  ∧ (∀ p cause x s, (port s p).cur = some x → stompDue s p cause x = true → ∃ s1, s1 = updPort p (fun y => { y with cur := none }) s
      ∧ exec (.txStomp p cause) s = .next (noteEmpty p (stompItem p x (if cause = .fifoEmpty then countResetDrop p x.item s1 else s1))))
  ∧ (∀ p cause x s, (port s p).cur = none → (port s p).preempted = some x → stompDue s p cause x = true → ∃ s1, s1 = updPort p (fun y => { y with preempted := none }) s
      ∧ exec (.txStomp p cause) s = .next (noteEmpty p (stompItem p x (if cause = .fifoEmpty then countResetDrop p x.item s1 else s1))))
  ∧ (∀ p cause s, (∀ x, (port s p).cur = some x → stompDue s p cause x = false) → (∀ x, (port s p).preempted = some x → stompDue s p cause x = false) →
      exec (.txStomp p cause) s = .next s)
  ∧ (∀ p hint early h rest s, (port s p).hints = h :: rest → ∃ t, exec (.txHint p hint early) s = .next t
      ∧ (port t p).hints = rest ∧ (port t p).hintLog = (hint % 256 :: (port s p).hintLog).take 256
      ∧ (h.gone = true → (port t p).cur = (port s p).cur ∧ (port t p).preempted = (port s p).preempted ∧ ∀ c, ctrOf t c = ctrOf s c)
      ∧ (∀ x, h.gone = false → (∀ y, (port s p).preempted = some y → y.hintWait = false) → (port s p).cur = some x → x.hintWait = true → x.pred = none →
          (port t p).cur = some { x with stamp := x.stamp + (hint % 256 : Nat), hintWait := false } ∧ ∀ c, ctrOf t c = ctrOf s c))
  ∧ (∀ p h rest s, (port s p).hints = h :: rest → ∃ t, exec (.hintMissing p) s = .next t
      ∧ (port t p).hints = rest ∧ ctrOf t (pCtr p 18) = (ctrOf s (pCtr p 18) + 1) % 2 ^ 64
      ∧ (h.gone = true → (port t p).cur = (port s p).cur ∧ (port t p).preempted = (port s p).preempted)
      ∧ (∀ x, h.gone = false → (∀ y, (port s p).preempted = some y → y.hintWait = false) → (port s p).cur = some x → x.hintWait = true → x.pred = none →
          (port t p).cur = some { x with hintWait := false }))
  ∧ (∀ p s, wordWaits s p = true → exec (.stall p) s = .next (bump (pCtr p 19) s))
  ∧ (∀ p x s, (port s p).cur = some x → wordWaits s p = true)

/-- Classification, the buffer's cells, admission and the handoff (R23, R24, R25, R27, R30, R42, R243 to R249, R330, R333, R368): each runs while its
slice core does, the writing of cells also while the centre does. -/
def Obligations.IngressComplete : Prop :=
  (∀ sl faults f rest s, (slice s sl).ingress = f :: rest → coreRuns s sl = true → engineHolds s (4 * sl) = false → engineHolds s (4 * sl + 1) = false →
      exec (.classify sl faults) s = .next (memErrors faults.corrected faults.bad (classifyFrame sl none faults f (updSlice sl (fun x => { x with ingress := rest }) s))))
  ∧ (∀ sl banks k rest k1 s1 s, (slice s sl).toWrite = k :: rest → coreRuns s sl = true → centreRuns s = true → writeCell sl banks k s = .placed k1 s1 →
      k1.cells.length < cellsNeeded k1.frame.data →
      exec (.cellWrite sl banks) s = .next (noteCells k1 false (updSlice sl (fun x => { x with toWrite := k1 :: rest }) (countIngress k1 s1))))
  ∧ (∀ sl banks k rest k1 s1 s, (slice s sl).toWrite = k :: rest → coreRuns s sl = true → centreRuns s = true → writeCell sl banks k s = .placed k1 s1 →
      cellsNeeded k1.frame.data ≤ k1.cells.length → k1.admitted = none →
      exec (.cellWrite sl banks) s = .next (updSlice sl (fun x => { x with toWrite := rest, written := x.written ++ [k1] }) (countIngress k1 s1)))
  ∧ (∀ sl banks k rest k1 s1 n s, (slice s sl).toWrite = k :: rest → coreRuns s sl = true → centreRuns s = true → writeCell sl banks k s = .placed k1 s1 →
      cellsNeeded k1.frame.data ≤ k1.cells.length → k1.admitted = some n →
      exec (.cellWrite sl banks) s = .next (noteCells k1 true (updSlice sl (fun x => { x with toWrite := rest }) (countIngress k1 s1))))
  ∧ (∀ sl banks k rest s, (slice s sl).toWrite = k :: rest → coreRuns s sl = true → centreRuns s = true → writeCell sl banks k s = .waits →
      exec (.cellWrite sl banks) s = .next s)
  ∧ (∀ sl banks k rest reason s, (slice s sl).toWrite = k :: rest → coreRuns s sl = true → centreRuns s = true → writeCell sl banks k s = .refused reason →
      exec (.cellWrite sl banks) s = .next (refuseFrame sl reason k (updSlice sl (fun x => { x with toWrite := rest }) s)))
  ∧ (∀ sl reads k rest s, (slice s sl).written = k :: rest → coreRuns s sl = true → ∃ s1, s1 = updSlice sl (fun x => { x with written := rest }) s
      ∧ (stepRefuses s k = false → exec (.admitFrame sl reads) s = .next (memErrors reads.corrected reads.bad
          (admitNow sl false k (if k.guarded = true then loseContext reads.bad k.flow s1 else s1))))
      ∧ (stepRefuses s k = true → exec (.admitFrame sl reads) s = .next (refuseFrame sl 1 k (sezCount 6 s1))))
  ∧ (∀ f sl reads x s, storedOf s f = some x → sl ∈ x.marks → coreRuns s sl = true → (slice s sl).reorder.any (fun y => decide (y.1 = f)) = false →
      exec (.handoff f sl reads) s = .next (memErrors reads.corrected reads.bad (takeHandoff sl f s)))
  ∧ (∀ f sl reads x s, storedOf s f = some x → (sl ∉ x.marks ∨ coreRuns s sl = false ∨ (slice s sl).reorder.any (fun y => decide (y.1 = f)) = true) →
      exec (.handoff f sl reads) s = .next s)
  ∧ (∀ sl faults banks reads s, coreRuns s sl = false → exec (.classify sl faults) s = .next s ∧ exec (.cellWrite sl banks) s = .next s ∧ exec (.admitFrame sl reads) s = .next s)

/-- Release, E3, the multicast store, the DONE log, a core's recovery and ageing (R133, R208, R222, R266, R277 to R284, R334 to R337). -/
def Obligations.EgressComplete : Prop :=
  (∀ p reads s, coreRuns s (sliceOf s p) = true → centreRuns s = true → engineHolds s (4 * sliceOf s p + 2) = false → portUp s p = true →
      ∃ s0, s0 = (List.range 16).foldl (fun s q => sweepGate p q (queueOf s (qid p q)).length s) s
        ∧ (nextRelease s0 p = none → exec (.schedRelease p reads) s = .next s0)
        ∧ (∀ h n q d c rest, nextRelease s0 p = some (h, n, q, d) → queueOf s0 (qid p q.num) = c :: rest →
            exec (.schedRelease p reads) s = .next (releaseCopy h c q.len reads (chargeRelease p h n q d s0))))
  ∧ (∀ p faults c rest x s s0, (port s p).pacing = c :: rest → coreRuns s (sliceOf s p) = true → engineHolds s (4 * sliceOf s p + 3) = false →
      s0 = updPort p (fun x => { x with pacing := rest }) s → storedOf s0 c.frame = some x → (egressPass 3 c x.c c.data c.m c.hdrs faults s0).2.drop = true →
      guardedCopy (egressPass 3 c x.c c.data c.m c.hdrs faults s0).1 c = false →
      exec (.e3Pass p faults) s = .next (discardCopy 8 c (bump (engCtr (4 * sliceOf (egressPass 3 c x.c c.data c.m c.hdrs faults s0).1 c.port + 3) 1)
        (egressPass 3 c x.c c.data c.m c.hdrs faults s0).1)))
  ∧ (∀ p faults c rest x r s s0 s1 c1, (port s p).pacing = c :: rest → coreRuns s (sliceOf s p) = true → engineHolds s (4 * sliceOf s p + 3) = false →
      s0 = updPort p (fun x => { x with pacing := rest }) s → storedOf s0 c.frame = some x → egressPass 3 c x.c c.data c.m c.hdrs faults s0 = (s1, r) → r.drop = false →
      c1 = { c with data := cutMirror s1 c r.data, m := r.m, hdrs := r.hdrs } →
      (isHostPort p = true ∨ wireLen c1.data + trailerBytes c ≤ maxFrame (cfgAt s1 c.epoch) p →
        exec (.e3Pass p faults) s = .next (updPort p (fun x => { x with fifo := x.fifo ++ [.copy c1] }) s1))
      ∧ (isHostPort p = false → maxFrame (cfgAt s1 c.epoch) p < wireLen c1.data + trailerBytes c →
        exec (.e3Pass p faults) s = .next (noteEmpty p (copyEnds c.frame (countLoss c x (dropInFlight (sliceOf s p) [c] (bump (pCtr p 12) s1)))))))
  ∧ (∀ sl f x since s, storedOf s f = some x → x.mcast.get? sl = some since → since + 10000 ≤ rawNs s →
      exec (.mcastStoreExpiry sl f) s = .next (updStored f (fun y => { y with mcast := y.mcast.del sl }) s))
  ∧ (∀ sl e rest s, (slice s sl).doneLog = e :: rest → coreRuns s sl = true → ∃ s1,
      s1 = updSlice sl (fun x => { x with doneLog := rest, stallFrom := if rest.length < 512 then none else x.stallFrom }) (countStall sl s)
      ∧ (e.done = true → exec (.doneLogConsume sl) s = .next (consumeDone sl e s1))
      ∧ (e.done = false → exec (.doneLogConsume sl) s = .next (countResent e.copy (putBack [e.copy] (dropInFlight sl [e.copy] s1)))))
  ∧ (∀ sl s, (slice s sl).inReset = none → exec (.sliceCoreRecover sl) s = .next s)
  ∧ (∀ sl started s, (slice s sl).inReset = some started → (dom s (32 + sl)).st = .run → s.badger.sliceOwed.get? sl = none → (slice s sl).doneLog = [] →
      ∃ cut, exec (.sliceCoreRecover sl) s = .next (resend sl cut (updSlice sl (fun x => { x with inReset := none, doneLog := [] }) s)))
  ∧ (∀ sl s, coreRuns s sl = true → exec (.ageScan sl) s
      = .next ((s.tm.queues.keys.filter (fun id => decide (sliceOf s (id / 16) = sl))).foldl (fun s id => ageQueue id (queueOf s id).length s) s))

/-- Buffer, MAC table and learning (R243 to R247, R259 to R264, R507): commands that act at once, the learn queue, the age scan and the end of a
freeze. -/
def Obligations.BufferAndMacComplete : Prop :=
  (∀ e id s, inTurn e s = true → cmdVerdict 0x0701 (lenIs 16) (poolCreateChk e s) e s = none → poolIdOf e s = some id →
      exec (.poolCreate e) s = .next (respond e 0x0701 (okV (leB 1 id ++ leB 3 0)) { s with
        fresh := s.fresh + 1, buf := { s.buf with pools := s.buf.pools.set id { bufLog2 := byteAt e.payload 1, count := fld e.payload 4 4, base := fld e.payload 8 8 } } }))
  ∧ (∀ e s, inTurn e s = true → cmdVerdict 0x0702 (lenIs 4) (poolDeleteChk e s) e s = none → exec (.poolDelete e) s
      = .next (respond e 0x0702 (okV []) { s with buf := { s.buf with pools := s.buf.pools.del (byteAt e.payload 0) } }))
  ∧ (∀ e s, inTurn e s = true → cmdVerdict 0x0705 (lenIs 8) (bufStatusChk e s) e s = none → ∃ t, exec (.bufStatus e) s
        = .next (respond e 0x0705 (okV (bufStatusData s (byteAt e.payload 0) (fld e.payload 4 4))) t)
      ∧ (bitN (byteAt e.payload 1) 0 = false → t = s)
      ∧ (bitN (byteAt e.payload 1) 0 = true → byteAt e.payload 0 = 3 → ∀ c, ctrOf t c = if c.fam = .fwd ∧ c.unit = fld e.payload 4 4 then 0 else ctrOf s c))
  ∧ (∀ e s, inTurn e s = true → cmdVerdict 0x0804 (lenIs 8) (macFlushChk e s) e s = none → ∃ m, m = flushMatches (drainLearn s) (macFlushSel e) (bitN (byteAt e.payload 0) 2)
      ∧ exec (.macFlush e) s = .next (respond e 0x0804 (okV (leB 4 ((drainLearn s).tables.mac.filter m).length))
          { drainLearn s with tables := { (drainLearn s).tables with mac := (drainLearn s).tables.mac.filter (fun x => !m x) } }))
  ∧ (∀ e s, inTurn e s = true → cmdVerdict 0x0808 (lenIs 8) (macDumpChk e s) e s = none → ∃ data l, exec (.macDump e) s = .next (respond e 0x0808 (okV data) s)
      ∧ data.drop 8 = (l.take 14).flatMap macDumpBytes
      ∧ l = macPage s (fld e.payload 0 4) (fun x => (decide (fld e.payload 4 2 = 0xFFFF) || decide (x.fid = fld e.payload 4 2)) && (!bitN (byteAt e.payload 6) 0 || x.static)))
  ∧ (∀ v l s, s.tables.learn = v :: l → relocatingTable s 0x0100 = false →
      exec .learnApply s = .next (applyLearn v { s with tables := { s.tables with learn := l } }))
  ∧ (∀ s, (cfg s).learnG.ageTime ≠ 0 → s.tables.lastScan + (cfg s).learnG.ageTime * 250000000 ≤ rawNs s → exec .macAgeScan s = .next { s with tables := { s.tables with
        lastScan := rawNs s, mac := (s.tables.mac.map ageEntry).filter (fun x => x.static || !decide (4 ≤ x.age)) } })
  ∧ (∀ fid mac s, exec (.freezeExpiry fid mac) s = .next { s with tables := { s.tables with mac := s.tables.mac.map (fun x =>
        if (decide (x.fid = fid) && decide (x.mac = mac) && x.frozen.any (fun t => decide (t ≤ rawNs s))) = true then { x with frozen := none } else x) } })

/-- Pool operations (R253): each is accepted in the case the rule names, with its effect; any other case is REJECTED with the reason, changes no
buffer and counts; an ALLOC that finds no FREE buffer is EMPTY (R254). Each runs when its turn in the pool's round has come (R254, R255; log 98), and
else waits for the next round. Which free index an ALLOC takes is a free value (log 12). -/
def Obligations.PoolOperations : Prop :=
  (∀ n same w pool s, nextWork s n .poolOp = some w → hstRuns s = true → w.subop = 0 → roundTakes s w.poolId n true same = true → poolOf s w.poolId = some pool →
      (∃ i, i < pool.count ∧ pool.bufs.get? i = none) → ∃ i t, exec (.alloc n same) s = .next t ∧ i < pool.count ∧ pool.bufs.get? i = none
        ∧ (poolOf t w.poolId).map Pool.bufs = some (pool.bufs.set i ⟨n, 0⟩) ∧ (∀ k, k ≠ w.poolId → poolOf t k = poolOf s k) ∧ t.ctr = s.ctr
        ∧ sqOf t n = (sqOf s n).map (fun x => { x with works := x.works.map (fun v => if v.num = w.num then { v with outIndex := i, result := some 0, detail := 0 } else v) }))
  ∧ (∀ n same w pool s, nextWork s n .poolOp = some w → hstRuns s = true → w.subop = 0 → roundTakes s w.poolId n true same = true → poolOf s w.poolId = some pool →
      (∀ i, i < pool.count → pool.bufs.get? i ≠ none) → exec (.alloc n same) s = .next (finish n w.num 3 0 (poolEmpty w.poolId (noteRound w.poolId n 0 same s))))
  ∧ (∀ n same w s, nextWork s n .poolOp = some w → hstRuns s = true → w.subop = 0 → poolOf s w.poolId = none →
      exec (.alloc n same) s = .next (finish n w.num 3 0 (poolEmpty w.poolId s)))
  ∧ (∀ n same w b s s1 r, nextWork s n .poolOp = some w → hstRuns s = true → roundTakes s w.poolId n false same = true →
      (poolOf s w.poolId).bind (fun x => x.bufs.get? w.bufIndex) = b → s1 = noteRound w.poolId n 0 same s → r = bump ⟨.pool, w.poolId, 0, 1⟩ s1 →
      (w.subop = 1 → exec (.share n same) s = .next (match b with
        | none => finish n w.num 4 3 r
        | some x => if x.owner ≠ n then finish n w.num 4 1 r else if 255 < x.shares + w.shareN then finish n w.num 4 2 r
          else finish n w.num 0 0 (updPool w.poolId (fun m => m.set w.bufIndex { x with shares := x.shares + w.shareN }) s1)))
      ∧ (w.subop = 2 → exec (.release n same) s = .next (match b with
        | none => finish n w.num 4 3 r
        | some x => if x.shares = 0 then finish n w.num 4 4 r
          else finish n w.num 0 0 (updPool w.poolId (fun m => m.set w.bufIndex { x with shares := x.shares - 1 }) s1)))
      ∧ (w.subop = 3 → exec (.handover n same) s = .next (match b with
        | none => finish n w.num 4 3 r
        | some x => if x.owner ≠ n then finish n w.num 4 1 r
          else finish n w.num 0 0 (updPool w.poolId (fun m => m.set w.bufIndex { x with owner := w.newOwner }) s1)))
      ∧ (w.subop = 4 → exec (.free n same) s = .next (match b with
        | none => finish n w.num 4 3 r
        | some x => if x.owner ≠ n then finish n w.num 4 1 r else if x.shares ≠ 0 then finish n w.num 4 5 r
          else finish n w.num 0 0 (poolFree w.poolId w.bufIndex s1))))
  ∧ (∀ n same w s, nextWork s n .poolOp = some w → roundTakes s w.poolId n true same = false → w.subop = 0 → exec (.alloc n same) s = .next s)
  ∧ (∀ n same w s, nextWork s n .poolOp = some w → roundTakes s w.poolId n false same = false → exec (.share n same) s = .next s ∧ exec (.release n same) s = .next s
      ∧ exec (.handover n same) s = .next s ∧ exec (.free n same) s = .next s)
  ∧ (∀ id i pool s, poolOf s id = some pool → (poolOf (poolFree id i s) id).map Pool.bufs = some (pool.bufs.del i))
  ∧ (∀ id n k same b s, (poolOf (noteRound id n k same s) b).map Pool.bufs = (poolOf s b).map Pool.bufs)
  ∧ (∀ pool b s, poolOf (bump ⟨.pool, pool, 0, 1⟩ s) b = poolOf s b ∧ ctrOf (bump ⟨.pool, pool, 0, 1⟩ s) ⟨.pool, pool, 0, 1⟩ = (ctrOf s ⟨.pool, pool, 0, 1⟩ + 1) % 2 ^ 64)

/-- Parse and table commands that act at once (R188, R197, R200 to R207, R507). Engine commands that act at once, and the end of an engine reset (R222
to R226, R235, R237, R240, R241, R507). An image is placed in the stage memories when it is loaded; a reset loses the frame that is in E0 or E1. -/
def Obligations.ParseTableEngineComplete : Prop :=
  (∀ e s, inTurn e s = true → cmdVerdict 0x0402 (lenIs 4) (parseNodeGetChk e s) e s = none → exec (.parseNodeGet e) s = .next (respond e 0x0402
      (okV (nodeBytes (byteAt e.payload 1) ((graphOf (cfg s) (byteAt e.payload 0)).get? (byteAt e.payload 1)))) s))
  ∧ (∀ e s, inTurn e s = true → cmdVerdict 0x0404 (lenIs 4) (parseCountersChk e s) e s = none → ∃ t, exec (.parseCounters e) s = .next (respond e 0x0404
        (okV ((List.range 15).flatMap (fun i => leB 8 (ctrOf s ⟨.parse, byteAt e.payload 0, 0, i⟩)))) t)
      ∧ (bitN (byteAt e.payload 1) 0 = false → t = s)
      ∧ (bitN (byteAt e.payload 1) 0 = true → ∀ c, ctrOf t c = if c.fam = .parse ∧ c.unit = byteAt e.payload 0 then 0 else ctrOf s c))
  ∧ (∀ e s id, inTurn e s = true → cmdVerdict 0x0501 (lenIs 16) (tableCreateChk e s) e s = none → tableIdOf e s = some id → ∃ x t, x = tableOfPayload e.payload
      ∧ exec (.tableCreate e) s = .next (respond e 0x0501
          (okV (leB 2 id ++ leB 1 x.slotBytes ++ leB 1 x.banks ++ leB 4 x.guaranteed ++ leB 1 (accessCost x.kind))) t)
      ∧ t.tables.tables.get? id = some x ∧ (∀ k, k ≠ id → t.tables.tables.get? k = s.tables.tables.get? k) ∧ t.tables.mac = s.tables.mac)
  ∧ (∀ e s, inTurn e s = true → cmdVerdict 0x0502 (lenIs 4) (tableDeleteChk e s) e s = none → exec (.tableDelete e) s = .next (respond e 0x0502 (okV [])
      { s with tables := { s.tables with
        tables := s.tables.tables.del (fld e.payload 0 2), place := s.tables.place.mapV (fun _ o => if o = fld e.payload 0 2 then 0 else o) } }))
  ∧ (∀ e x s, inTurn e s = true → cmdVerdict 0x0505 (lenIs 8) (entryReadChk e s) e s = none →
      (eTable e s).entries.find? (fun y => decide (y.handle = fld e.payload 4 4) && !decide ((byteAt e.payload 2, y.handle) ∈ (eTable e s).lost)) = some x →
      exec (.entryRead e) s = .next (respond e 0x0505 (okV (entryBytes x)) s))
  ∧ (∀ e s, inTurn e s = true → cmdVerdict 0x0507 (lenIs 8) (tableDumpChk e s) e s = none → ∃ (next : Nat) (page : List (List Byte)), exec (.tableDump e) s
      = .next (respond e 0x0507 (okV (leB 4 next ++ leB 2 page.length ++ leB 2 0 ++ page.flatten)) s))
  ∧ (∀ e id s, inTurn e s = true → envVerdict 0x0601 false (fun n => ptr e && progLoadLen e.payload n) e s = none → loadVerdict e s = none → loadIdOf e s = some id →
      exec (.progLoad e) s = .next (respond e 0x0601 (okV (leB 2 id ++ leB 2 (imageBundles (imageOfPayload e.payload))))
        { s with fresh := s.fresh + 1, eng := { s.eng with images := s.eng.images.set id (placeImage s (imageOfPayload e.payload)) } }))
  ∧ (∀ e s, inTurn e s = true → cmdVerdict 0x0601 (fun k => ptr e && k = 24) (progUnloadChk e s) e s = none → ∃ n, exec (.progUnload e) s
      = .next (respond e 0x0601 (okV (leB 2 (fld e.payload 0 2) ++ leB 2 n)) { s with eng := { s.eng with images := s.eng.images.del (fld e.payload 0 2) } }))
  ∧ (∀ e s, inTurn e s = true → cmdVerdict 0x0603 (lenIs 4) (engineStatusChk e s) e s = none → ∃ data t, exec (.engineStatus e) s = .next (respond e 0x0603 (okV data) t)
      ∧ data.take 4 = leB 1 (engineState s (fld e.payload 0 2)) ++ leB 1 (engine s (fld e.payload 0 2)).lastFault ++ leB 2 (engine s (fld e.payload 0 2)).resets
      ∧ (bitN (byteAt e.payload 2) 0 = false → t = s)
      ∧ (bitN (byteAt e.payload 2) 0 = true → ∀ c, ctrOf t c = if c.fam = .engine ∧ c.unit = fld e.payload 0 2 then 0 else ctrOf s c))
  ∧ (∀ e s, inTurn e s = true → cmdVerdict 0x0604 (lenIs 4) (engineResetChk e s) e s = none → exec (.engineReset e) s = .next
      (updEngine (fld e.payload 0 2) (fun r => { r with owed := some e }) (countReset (fld e.payload 0 2) (resetEngine (fld e.payload 0 2) 4 (loseInEngine (fld e.payload 0 2) s)))))
  ∧ (∀ g at' e s, (engine s g).resetAt = some at' → (engine s g).owed = some e →
      exec (.engineResetDone g) s = .next (respond e 0x0604 (okV []) (updEngine g (fun r => { r with resetAt := none, owed := none }) s)))
  ∧ (∀ g at' s, (engine s g).resetAt = some at' → (engine s g).owed = none →
      exec (.engineResetDone g) s = .next (updEngine g (fun r => { r with resetAt := none, owed := none }) s))
  ∧ (∀ e s, inTurn e s = true → cmdVerdict 0x0606 (lenIs 12) (scratchReadChk e s) e s = none → ∃ t, exec (.scratchRead e) s = .next (respond e 0x0606
        (okV (leB 4 (fld e.payload 4 4) ++ leB 2 (fld e.payload 8 2) ++ leB 2 0 ++ (List.range (fld e.payload 8 2)).flatMap (fun i =>
          leB 4 ((engine s (fld e.payload 0 2)).scratch.getD (fld e.payload 4 4 + i) 0).toNat))) t)
      ∧ (bitN (byteAt e.payload 10) 0 = false → t = s)
      ∧ (bitN (byteAt e.payload 10) 0 = true → ∀ a, (engine t (fld e.payload 0 2)).scratch.getD a 0
          = if fld e.payload 4 4 ≤ a ∧ a < fld e.payload 4 4 + fld e.payload 8 2 then 0 else (engine s (fld e.payload 0 2)).scratch.getD a 0))
  ∧ (∀ g fault s, exec (.engineFault g fault) s = .next (engineFault g fault s))

/-- TM_STATUS, sampling and the Foxtrot rings (R289 to R300, R507). A queue is sampled at each multiple of INTERVAL, judged by the latest one that
TIME has reached; a ring that is set up anew drops the records that wait for it; a full ring reads its consumer's index, at once and then at most once
a µs. Calibration (R162 to R174): records, runs and their exchanges. -/
def Obligations.CaptureAndCalibrationComplete : Prop :=
  (∀ e s, inTurn e s = true → cmdVerdict 0x0907 (lenIs 8) (tmStatusChk e s) e s = none → exec (.tmStatus e) s = .next (respond e 0x0907
      (okV (tmStatusData s (byteAt e.payload 0) (byteAt e.payload 2) (fld e.payload 4 4)))
      (tmStatusRead (bitN (byteAt e.payload 1) 0) (byteAt e.payload 0) (byteAt e.payload 2) (fld e.payload 4 4) s)))
  ∧ (∀ p c last s, (cfg s).sample.get? p = some c → c.intervalUs ≠ 0 → s.tm.sampled.get? p = some last → last < sampleInstant s c.intervalUs →
      exec (.sample p) s = .next ((setBits 16 c.qMask).foldl (sampleQueue p (sampleInstant s c.intervalUs)) { s with tm := { s.tm with sampled := s.tm.sampled.set p (timeNs s) } }))
  ∧ (∀ p c last s, (cfg s).sample.get? p = some c → c.intervalUs ≠ 0 → s.tm.sampled.get? p = some last → sampleInstant s c.intervalUs ≤ last →
      exec (.sample p) s = .next { s with tm := { s.tm with sampled := s.tm.sampled.set p (timeNs s) } })
  ∧ (∀ us s, s.time.valid = true → 0 < us → ∃ k, sampleInstant s us = 1000 * us * k ∧ sampleInstant s us ≤ timeNs s ∧ timeNs s < sampleInstant s us + 1000 * us)
  ∧ (∀ e s, inTurn e s = true → cmdVerdict 0x1101 (lenIs 28) (foxtrotRingSetChk e s) e s = none → bitN (byteAt e.payload 1) 0 = true →
      ∃ r : Foxtrot, r = { vector := fld e.payload 2 2, size := fld e.payload 4 4, base := fld e.payload 8 8, consAddr := fld e.payload 16 8, coalesce := fld e.payload 24 2, coalUs := fld e.payload 26 2 }
        ∧ exec (.foxtrotRingSet e) s = .next (respond e 0x1101 (okV []) { s with cap := { s.cap with
            rings := s.cap.rings.set (byteAt e.payload 0) r, fifo := dropWaiting (s.cap.rings.get? (byteAt e.payload 0)) s.cap.fifo } }))
  ∧ (∀ e x s, inTurn e s = true → cmdVerdict 0x1101 (lenIs 28) (foxtrotRingSetChk e s) e s = none → bitN (byteAt e.payload 1) 0 = false → s.cap.rings.get? (byteAt e.payload 0) = some x →
      exec (.foxtrotRingSet e) s = .next (respond e 0x1101 (okV []) { s with cap := { s.cap with rings := s.cap.rings.set (byteAt e.payload 0) { x with running := false } } }))
  ∧ (∀ ring r sl bytes rest s, s.cap.rings.get? ring = some r → r.fifo = (sl, bytes) :: rest → foxFull r = false → ∃ t r', exec (.foxtrotRecordWrite ring) s = .next t
      ∧ t.cap.rings.get? ring = some r' ∧ r'.fifo = rest ∧ r'.prod = (r.prod + 1) % (2 * r.size) ∧ r'.base = r.base ∧ r'.size = r.size ∧ r'.cons = r.cons
      ∧ r'.phase = (if (r.prod + 1) % (2 * r.size) % r.size = 0 then !r.phase else r.phase)
      ∧ ctrOf t ⟨.ring, ring, 0, 0⟩ = (ctrOf s ⟨.ring, ring, 0, 0⟩ + 1) % 2 ^ 64)
  ∧ (∀ ring r sl bytes rest s, s.cap.rings.get? ring = some r → r.fifo = (sl, bytes) :: rest → foxFull r = true → ∃ t, exec (.foxtrotRecordWrite ring) s = .next t
      ∧ t.cap.rings.get? ring = some { r with fifo := rest } ∧ t.out = s.out
      ∧ ctrOf t ⟨.ring, ring, 0, 1⟩ = (ctrOf s ⟨.ring, ring, 0, 1⟩ + 1) % 2 ^ 64)
  ∧ (∀ ring r w s, s.cap.rings.get? ring = some r → foxFull r = true → (∀ last, r.lastPoll = some last → last + 1000 ≤ rawNs s) → ∃ cons r',
      cons = (w.toNat % 65536) % r.size + (if bitN w.toNat 16 = true then r.size else 0)
      ∧ r' = { r with cons := cons, lastPoll := if foxFull { r with cons := cons } = true then some (rawNs s) else none }
      ∧ exec (.foxtrotConsPoll ring w) s = .next (hpiRead r.consAddr 4 { s with cap := { s.cap with rings := s.cap.rings.set ring r' } }))
  ∧ (∀ e s, inTurn e s = true → cmdVerdict 0x0C02 (lenIs 16) (calRecordSetChk e s) e s = none → ∃ cal : PortRt → KMap Nat CalRec,
      (∀ x, cal x = if bitN (byteAt e.payload 3) 0 = true
        then x.cal.set (byteAt e.payload 2) ⟨fld e.payload 4 4, fld e.payload 8 4, sfld e.payload 12 2, byteAt e.payload 14, byteAt e.payload 15⟩
        else x.cal.del (byteAt e.payload 2))
      ∧ exec (.calRecordSet e) s = .next (respond e 0x0C02 (okV []) (updPort (ePort e) (fun x => { x with cal := cal x }) s)))
  ∧ (∀ e s, inTurn e s = true → cmdVerdict 0x0C03 (lenIs 4) (calRunChk e s) e s = none →
      exec (.calRun e) s = .next (respond e 0x0C03 (okV []) (startRun (ePort e) (byteAt e.payload 2) s)))
  ∧ (∀ e s, inTurn e s = true → cmdVerdict 0x1005 (lenIs 12) (loopbackCalChk e s) e s = none → ∃ l t, l = ⟨byteAt e.payload 2, bitN (byteAt e.payload 3) 0, bitN (byteAt e.payload 3) 1, fld e.payload 4 4, byteAt e.payload 8⟩
      ∧ t = { s with badger := { s.badger with loop := s.badger.loop.set (ePort e) l } }
      ∧ exec (.loopbackCal e) s = .next (respond e 0x1005 (okV []) (if bitN (byteAt e.payload 3) 2 = true then startRun (ePort e) 0xFF t else t)))
  ∧ (∀ temps s, s.time.calEval + 1000000 ≤ rawNs s → exec (.calEval temps) s
      = .next ((cfg s).ports.keys.foldl (calEvalPort (rawNs s - s.time.calEval) temps) { s with time := { s.time with calEval := rawNs s } }))
  ∧ (∀ p r s, s.badger.runs.get? p = some r → calMaySend s p r = true → exec (.calRequestTx p) s = .next
      (updPort p (fun x => { x with fifo := .own (calFrame p 1 r.reqId []) 3 :: x.fifo }) { s with badger := { s.badger with
        runs := s.badger.runs.set p { r with sentAt := some (rawNs s), last := some (rawNs s), reqId := (r.reqId + 1) % 65536 } } }))
  ∧ (∀ p reqId t2 s, receives s p = true → (s.badger.loop.getD p {}).reflect = true → ∃ t, exec (.calRequestRx p reqId t2) s = .next t
      ∧ (port t p).fifo = .own (calFrame p 2 reqId (stampTen t2)) 4 :: (port s p).fifo)
  ∧ (∀ p reply r at' s, s.badger.runs.get? p = some r → r.sentAt = some at' → receives s p = true → r.loops.length < 15 → ∃ t, exec (.calReplyRx p reply) s = .next t
      ∧ t.badger.runs.get? p = some { r with loops := r.loops ++ [calLoop (s.badger.loop.getD p {}) reply], sentAt := none })
  ∧ (∀ p r at' s, s.badger.runs.get? p = some r → r.sentAt = some at' → at' + 100000 ≤ rawNs s →
      exec (.calExchangeTimeout p) s = .next { s with badger := { s.badger with runs := s.badger.runs.set p { r with sentAt := none } } })
  ∧ (∀ p r s, s.badger.runs.get? p = some r → r.start + 1000000000 ≤ rawNs s →
      exec (.calFail p) s = .next (fire 178 { s with badger := { s.badger with runs := s.badger.runs.del p } }))

/-- Gate lists as they run (R301 to R310, R314): a list starts at its START, an entry sets the gates, HOLD is asserted when its time has come, on a
port whose preemption is ACTIVE; GATE_STATUS. FLOW_READ, FLOW_COUNTERS, the gap timeout, forgetting a duplicate's number (R325 to R328, R341, R342,
R507). -/
def Obligations.GateAndFlowEventsComplete : Prop :=
  (∀ e s, inTurn e s = true → cmdVerdict 0x0A03 (lenIs 4) (gateStatusChk e s) e s = none → ∃ t, exec (.gateStatus e) s = .next (respond e 0x0A03 (okV (gateStatusData s (ePort e))) t)
      ∧ (bitN (byteAt e.payload 2) 0 = false → t = s)
      ∧ (bitN (byteAt e.payload 2) 0 = true → ∀ c, ctrOf t c = if c.fam = .gate ∧ c.unit = ePort e then 0 else ctrOf s c))
  ∧ (∀ p g st s, (gateRt s p).next = some (g, st) → st ≤ timeNs s → ∃ t hold entry, exec (.gateListStart p) s = .next t
      ∧ gateRt t p = { run := some (g, st), next := none, flipWait := false, entry := entry, hold := hold, past := (timeSixteenths s, (gateRt s p).run, (gateRt s p).next) :: (gateRt s p).past } ∧ ∀ q, q ≠ p → gateRt t q = gateRt s q)
  ∧ (∀ p g st s, (gateRt s p).next = some (g, st) → timeNs s < st → exec (.gateListStart p) s = .next s)
  ∧ (∀ p g st k x left s, listAt (gateRt s p) (timeSixteenths s) = some (g, st) → gateIn g st (timeSixteenths s) = some (k, x, left) → ∃ t hold, exec (.gateEntry p) s = .next t
      ∧ gateRt t p = { gateRt s p with entry := k, hold := hold } ∧ ∀ q, q ≠ p → gateRt t q = gateRt s q)
  ∧ (∀ p s, holdAt (gateRt s p) (timeSixteenths s) = true → (port s p).pre = .active → ∃ t, exec (.holdAssert p) s = .next t
      ∧ gateRt t p = { gateRt s p with hold := true } ∧ ∀ q, q ≠ p → gateRt t q = gateRt s q)
  ∧ (∀ p s, holdAt (gateRt s p) (timeSixteenths s) = false ∨ (port s p).pre ≠ .active → exec (.holdAssert p) s = .next s)
  ∧ (∀ e s, inTurn e s = true → cmdVerdict 0x0B04 (lenIs 8) (flowReadChk e s) e s = none → ∃ data, exec (.flowRead e) s = .next (respond e 0x0B04 (okV data) s)
      ∧ (∀ x, (cfg s).flows.get? (fld e.payload 0 4) = some x → byteAt e.payload 4 = 0 →
          data = homeCtx s (fld e.payload 0 4) x ++ keySlotBytes s (fld e.payload 0 4) x)
      ∧ (∀ x r, (cfg s).flows.get? (fld e.payload 0 4) = some x → byteAt e.payload 4 ≠ 0 → s.flows.recs.get? (fld e.payload 0 4, byteAt e.payload 5) = some r →
          data = recCtxBytes (fld e.payload 0 4) x r))
  ∧ (∀ e s, inTurn e s = true → cmdVerdict 0x0B05 (lenIs 8) (flowCountersChk e s) e s = none → exec (.flowCounters e) s = .next (respond e 0x0B05
      (okV (flowCountersData s (fld e.payload 0 4) (byteAt e.payload 5)))
      (flowCountersRead (bitN (byteAt e.payload 4) 0) (fld e.payload 0 4) (byteAt e.payload 5) s)))
  ∧ (∀ sl flow c x s, s.flows.recs.get? (flow, sl) = some c → (cfg s).flows.get? flow = some x → c.held ≠ [] → x.recTimeout * 1000 ≤ gapAge s c →
      exec (.gapTimeout sl flow) s = .next (closeGapOf sl flow s))
  ∧ (∀ sl flow c x s, s.flows.recs.get? (flow, sl) = some c → (cfg s).flows.get? flow = some x → gapAge s c < x.recTimeout * 1000 →
      exec (.gapTimeout sl flow) s = .next s)
  ∧ (∀ node sa n s, (cfg s).prp.get? node = some n → ∃ t, exec (.duplicateEntryForget node sa) s = .next t
      ∧ (∀ l, s.flows.dup.get? node = some l → t.flows.dup.get? node = some (l.filter (fun x =>
          !(decide (x.sa = sa) && decide (x.lastNs + n.forget * 1000000 ≤ rawNs s)))))
      ∧ (∀ k, k ≠ node → t.flows.dup.get? k = s.flows.dup.get? k))

/-- Commands and register reads of the time unit (R118, R157, R158, R176 to R178): each takes its effect when none of its checks fails. -/
def Obligations.TimeCommandsComplete : Prop :=
  (∀ e s, inTurn e s = true → cmdVerdict 0x0C05 (lenIs 20) (timerSetChk e s) e s = none → byteAt e.payload 1 = 0 →
      exec (.timerSet e) s = .next (respond e 0x0C05 (okV (leB 8 0)) { s with time := { s.time with timers := s.time.timers.del (byteAt e.payload 0) } }))
  ∧ (∀ e s, inTurn e s = true → cmdVerdict 0x0C05 (lenIs 20) (timerSetChk e s) e s = none → byteAt e.payload 1 ≠ 0 → ∃ target v,
      exec (.timerSet e) s = .next (respond e 0x0C05 v { s with time := { s.time with
        timers := s.time.timers.set (byteAt e.payload 0) ⟨byteAt e.payload 1, target, fld e.payload 12 8, false⟩ } })
      ∧ target = (timerTarget e s).1 ∧ v.data = leB 8 target ∧ (v.status = 0x00 ∨ v.status = 0x0C)
      ∧ (reached s (fld e.payload 4 8) = true → byteAt e.payload 1 ≠ 2 → v.status = 0x0C ∧ target = nextTickNs s)
      ∧ (reached s (fld e.payload 4 8) = false → v.status = 0x00))
  ∧ (∀ e s, inTurn e s = true → cmdVerdict 0x0C06 (lenIs 8) (ppsCfgChk e s) e s = none → exec (.ppsCfg e) s = .next (respond e 0x0C06 (okV []) { s with time := { s.time with
        ppsInEn := bitN (byteAt e.payload 0) 0, ppsOutEn := bitN (byteAt e.payload 0) 1, ppsWidth := fld e.payload 4 4,
        ppsOut := if bitN (byteAt e.payload 0) 1 = true then s.time.ppsOut else none } }))
  ∧ (∀ e s, inTurn e s = true → cmdVerdict 0x0C07 (lenIs 8) (syntCfgChk e s) e s = none → exec (.syntCfg e) s = .next (respond e 0x0C07 (okV []) { s with time := { s.time with
        syntMode := byteAt e.payload 0, syntValue := signedN 32 (fld e.payload 4 4), syntServo := s.time.synt.toInt } }))
  ∧ (∀ e s, inTurn e s = true → cmdVerdict 0x0104 (lenIs 8) (sysEventCfgChk e s) e s = none → ∃ t, exec (.sysEventCfg e) s = .next (respond e 0x0104 (okV (eventCfgData t)) t)
      ∧ t = (if bitN (byteAt e.payload 0) 0 = true
          then { s with boot := { s.boot with thermLimit := (fld e.payload 2 2 : Nat), thermHyst := fld e.payload 4 2 } } else s))
  ∧ (∀ slot wide s, slot < 4 → ∃ x : Snap, exec (.snapTimeLoRead slot wide) s = .next
        (hptOk (x.time / 65536 % 2 ^ (if wide = true then 64 else 32)) { s with time := { s.time with snaps := s.time.snaps.set slot x } })
      ∧ x.raw = rawT s ∧ x.valid = s.time.valid ∧ x.time = unsignedN 80 (time16 s))
  ∧ (∀ s, exec .ppsGlitchRead s = .next (hptOk s.time.ppsGlitch { s with time := { s.time with ppsGlitch := 0 } }))

/-- Events of the time unit (R70, R81, R161, R176, R178): a timer fires when it is the first that is due and no flip and no edge of PPS_OUT comes
before it; PPS_OUT rises when its second has passed and neither a flip nor a timer comes before it, and not while TIME_VALID is 0 TIME_VALID follows a
step (R151): a step sets or clears it and counts, a tick without a step leaves it. -/
def Obligations.TimeEventsComplete : Prop :=
  (∀ n k t s x, (dueTimers s).head? = some (x, n) → s.time.timers.get? n = some t → s.quad.sets.any (flipDue s) = false → ppsBefore s t.target = false → t.mode = k →
      ∃ timers, exec (.timerFire n) s = .next (fire (32 + n) { s with time := { s.time with timers := timers } })
      ∧ (k ≠ 2 → timers = s.time.timers.del n)
      ∧ (k = 2 → timers = s.time.timers.set n { t with target := periodicFrom t.target t.period (timeNs s + 1), hit := false }))
  ∧ (∀ n s, s.time.ppsInEn = false → exec (.ppsInEdge n) s = .next s)
  ∧ (∀ n x s, s.time.ppsInEn = true → s.time.ppsEdge = some x → rawSix s + n < x + 16000 →
      exec (.ppsInEdge n) s = .next { s with time := { s.time with ppsGlitch := min 0xFFFF (s.time.ppsGlitch + 1) } })
  ∧ (∀ n s, s.time.ppsInEn = true → (∀ x, s.time.ppsEdge = some x → x + 16000 ≤ rawSix s + n) → ∃ stamp,
      exec (.ppsInEdge n) s = .next (fire 26 { s with time := { s.time with
        ppsIn := stamp, ppsValid := s.time.valid, ppsSeq := s.time.ppsSeq + 1, ppsEdge := some (rawSix s + n) } })
      ∧ stamp = unsignedN 80 ((timeSixteenths s + n) * 4096))
  ∧ (∀ s, s.time.ppsOutEn = true → s.time.valid = true → s.time.prev / 65536000000000 < time16 s / 65536000000000 → 0 ≤ time16 s / 65536000000000 →
      (∀ k, s.time.ppsLast = some k → (k : Int) < time16 s / 65536000000000) →
      s.quad.sets.any (flipDue s) = false → (∀ x, x ∈ dueTimers s → (s.time.prev / 65536000000000 + 1) * 1000000000 ≤ (x.1 : Int)) → exec .ppsOutEdge s = .next { s with time := { s.time with
        ppsOut := some (rawNs s + s.time.ppsWidth * 1000), ppsLast := some (time16 s / 65536000000000).toNat } })
  ∧ (∀ s, s.time.valid = false → exec .ppsOutEdge s = .next s)
  ∧ (∀ t s, s.time.ppsOut = some t → t ≤ rawNs s → exec .ppsOutFall s = .next { s with time := { s.time with ppsOut := none } })
  ∧ (∀ l s, s.time.thermEval + 1000000 ≤ rawNs s → ∃ hot cool since falls : _,
      (hot = true ↔ ∃ v, v ∈ l.take (nSlices s + 2) ∧ s.boot.thermLimit < v)
      ∧ (cool = true ↔ ∀ v, v ∈ l.take (nSlices s + 2) → v ≤ s.boot.thermLimit - s.boot.thermHyst)
      ∧ since = (if cool = true then some (s.time.coolSince.getD (rawNs s)) else none)
      ∧ (falls = true ↔ ∃ c, since = some c ∧ c + 1000000 ≤ rawNs s)
      ∧ exec (.thermEval l) s = .next (
          let t := { s with
            boot := { s.boot with sensors := l.take (nSlices s + 2), thermAlert := hot || (s.boot.thermAlert && !falls) }
            time := { s.time with thermEval := rawNs s, coolSince := since } }
          if hot = true ∧ s.boot.thermAlert = false then fire 4 t else t))
  ∧ (∀ skewed s, ∃ t, exec (.owlTick skewed) s = .next t
    ∧ (s.time.stepNext = none → t.time.valid = s.time.valid ∧ t.time.uncertain = s.time.uncertain ∧ t.time.stepCount = s.time.stepCount)
    ∧ (∀ d valid invalidate, s.time.stepNext = some (d, valid, invalidate) →
      t.time.valid = (if invalidate then false else valid || s.time.valid) ∧ t.time.uncertain = false
      ∧ t.time.stepCount = s.time.stepCount + BitVec.ofNat 16 s.time.stepsNext))

/-- SEZAL commands (R189, R344, R355 to R358, R368): with no failing check each takes its effect. SEZAL_CFG brings the parse graphs to the EtherType
in force. -/
def Obligations.SezalCommandsComplete : Prop :=
  (∀ e s, inTurn e s = true → cmdVerdict 0x0D01 (lenIs 32) (sezalCfgChk e s) e s = none → bitN (byteAt e.payload 6) 0 = true →
      exec (.sezalCfg e) s = .next (respond e 0x0D01 (okV []) (sezResolve
        (updSez (fun z => { sezConfigured e.payload z with memberDirty := z.memberDirty || !z.enabled })
        (updCfg (sezalGraphs (fld e.payload 4 2)) s)))))
  ∧ (∀ e s, inTurn e s = true → cmdVerdict 0x0D01 (lenIs 32) (sezalCfgChk e s) e s = none → bitN (byteAt e.payload 6) 0 = false → s.sez.enabled = true →
      exec (.sezalCfg e) s = .next (respond e 0x0D01 (okV []) (updSez (sezConfigured e.payload) (sezLeave (updCfg (sezalGraphs (fld e.payload 4 2)) s)))))
  ∧ (∀ e s, inTurn e s = true → cmdVerdict 0x0D01 (lenIs 32) (sezalCfgChk e s) e s = none → bitN (byteAt e.payload 6) 0 = false → s.sez.enabled = false →
      exec (.sezalCfg e) s = .next (respond e 0x0D01 (okV []) (updSez (sezConfigured e.payload) (updCfg (sezalGraphs (fld e.payload 4 2)) s))))
  ∧ (∀ e s, inTurn e s = true → cmdVerdict 0x0D03 (lenIs 4) (sezalStatusChk e s) e s = none → ∃ data, exec (.sezalStatus e) s = .next (respond e 0x0D03 (okV data)
        (if bitN (byteAt e.payload 0) 0 = true then clearCtrs (fun c => c.fam = .sezal) s else s))
      ∧ byteAt data 0 = (if s.sez.enabled = false then 0 else if s.sez.idConflict = true then 3 else if s.sez.present.length ≤ 1 then 1 else 2)
      ∧ byteAt data 1 = timeStNum s.sez.time)
  ∧ (∀ e s, inTurn e s = true → cmdVerdict 0x0D04 (lenIs 4) (sezalMembersChk e s) e s = none → ∃ data, exec (.sezalMembers e) s = .next (respond e 0x0D04 (okV data) s)
      ∧ ∃ next l, l = s.sez.present.filter (fun i => decide (fld e.payload 0 2 ≤ i))
        ∧ data = leB 2 next ++ leB 2 (l.take 14).length ++ leB 4 s.sez.memberGen.toNat ++ (l.take 14).flatMap (memberEntry s))
  ∧ (∀ e s, inTurn e s = true → cmdVerdict 0x0D06 (lenIs 4) (keeperPrioSetChk e s) e s = none →
      exec (.keeperPrioSet e) s = .next (respond e 0x0D06 (okV []) (sezResolve (updSez (fun z => { z with prio := byteAt e.payload 0 }) s))))
  ∧ (∀ e s, inTurn e s = true → resyncVerdict e s = none → ∃ coord, exec (.sezalResyncFollow e) s = .next (flood 9 (beB 2 (fld e.payload 0 2) ++ beB 2 coord)
        (updSez (fun z => { z with following := some (e, fld e.payload 0 2, rawNs s) }) s))
      ∧ (∀ v, s.sez.voting.find? (fun v => decide (v.set = fld e.payload 0 2)) = some v → coord = v.coord))
  ∧ (∀ e s, inTurn e s = true → resyncVerdict e s = none → votingSet s (fld e.payload 0 2) = true → exec (.sezalResyncForceApply e) s = .next (respond e 0x0D05 (okV [0])
        (backInStep (takeApply (fld e.payload 0 2) 0 0 none
          (updSez (fun z => { z with voting := z.voting.filter (fun v => decide (v.set ≠ fld e.payload 0 2)), following := none }) s)))))
  ∧ (∀ e s, inTurn e s = true → resyncVerdict e s = none → flippedSet s (fld e.payload 0 2) = false → exec (.sezalResyncForceDiscard e) s = .next (respond e 0x0D05 (okV [1])
        (backInStep (abortSet (fld e.payload 0 2)
          (updSez (fun z => { z with voting := z.voting.filter (fun v => decide (v.set ≠ fld e.payload 0 2)), following := none }) s)))))
  ∧ (∀ e id at' s, s.sez.following = some (e, id, at') → at' + 10000000 ≤ rawNs s →
      exec .resyncFollowTimeout s = .next (respond e 0x0D05 (timeoutV 0) (updSez (fun z => { z with following := none }) s)))

/-- What the Sezal logic sends and lets lapse (R354, R355, R359, R364 to R367). Control messages received (R352 to R356, R359, R365 to R368): what a
well-formed one on a domain port does. -/
def Obligations.SezalEventsComplete : Prop :=
  (∀ p s, isDomainPort s p = true → linkIsUp s p = true → (adjOf s p).sent + 1000 * s.sez.helloUs ≤ rawNs s →
      exec (.helloTx p) s = .next (sendLocal 16 p 1 (helloBody s p) (updAdj p (fun a => { a with sent := rawNs s }) s)))
  ∧ (∀ p s, (adjOf s p).st ≠ .down → (adjOf s p).heard + 4000 * s.sez.helloUs ≤ rawNs s → exec (.adjacencyTimeout p) s = .next (leaveDomain p s))
  ∧ (∀ s, s.sez.enabled = true → s.sez.memberDirty = true ∨ s.sez.memberSent + 100000000 ≤ rawNs s → ∃ body, exec .memberTx s = .next
        (updSez (fun z => { z with recSeq := z.recSeq + 1, memberSent := rawNs s, memberDirty := false }) (flood 2 body s))
      ∧ body.take 8 = beB 8 s.sez.uid)
  ∧ (∀ i x s, s.sez.members.get? i = some x → x.heard + 1000000 * s.sez.memberAgeMs ≤ rawNs s → ∃ rival,
      exec (.memberAge i) s = .next (forgetMember i true rival s))
  ∧ (∀ t1 p s, s.sez.upstream = some p → s.sez.enabled = true → s.sez.idConflict = false → adjUp s p = true → s.sez.syncSent + 1000 * s.sez.syncUs ≤ rawNs s →
      exec (.syncReqTx t1) s = .next (sendLocal 16 p 4 (beB 2 s.sez.reqId.toNat)
        (updSez (fun z => { z with reqId := z.reqId + 1, req := some (s.sez.reqId.toNat, t1), syncSent := rawNs s }) s)))
  ∧ (∀ c s, proposeDue s = some c → exec .proposeRepeat s = .next (flood 6 (proposeBody s c)
        (updSez (fun z => { z with coord := z.coord.map (fun x => if x = c then { x with sent := rawNs s } else x) }) s)))
  ∧ (∀ v s, s.sez.voting.find? (fun v => decide (v.sent + 200000 ≤ rawNs s) && decide (0 < timeAhead s v.deadline)) = some v →
      exec .voteRepeat s = .next (sendVote v (updSez (fun z => { z with voting := z.voting.map (fun x => if x = v then { x with sent := rawNs s } else x) }) s)))
  ∧ (∀ c s, s.sez.coord.find? (fun c => decide (timeAhead s c.deadline ≤ 0)) = some c → ∃ culprit, exec .voteDeadline s = .next (decideSet c 1 culprit s)
      ∧ ∀ v, v ∈ c.voters → v ∉ c.ready → culprit ∈ c.voters ∧ culprit ∉ c.ready)
  ∧ (∀ o s, s.sez.outcomes.find? (fun o => decide (0 < o.floods) && decide (o.sent + 100000 ≤ rawNs s)) = some o →
      exec .outcomeRepeat s = .next (floodOutcome o.set o.result o.culprit
        (updSez (fun z => { z with outcomes := z.outcomes.map (fun x => if x = o then { x with floods := x.floods - 1, sent := rawNs s } else x) }) s)))
  ∧ (∀ set v s, s.sez.voting.find? (fun v => decide (v.set = set)) = some v → timeAhead s v.applyTime ≤ 0 → s.sez.heldSet ≠ some set → v.vote = 0 →
      exec (.applyTimeNoOutcome set) s = .next (goOutOfStep set s))
  ∧ (∀ p d s, goodCtl 1 p d s → linkIsUp (tookCtl p d s) p = true → nfld (ctlOf d).body 0 8 ≠ s.sez.uid → ∃ dirty,
      exec (.helloRx p d) s = .next (sezResolve (updSez (fun z => { z with memberDirty := dirty })
        (updAdj p (fun _ => heardHello (tookCtl p d s) (ctlOf d) (adjOf s p)) (tookCtl p d s)))))
  ∧ (∀ p d s, goodCtl 2 p d s → ¬ ((ctlOf d).src = s.sez.inst ∧ nfld (ctlOf d).body 0 8 = s.sez.uid) → (ctlOf d).num ∉ s.sez.seen.getD (ctlOf d).src [] →
      exec (.memberRx p d) s = .next (sezResolve (keepMember (ctlOf d).src (memberOf (tookCtl p d s) (ctlOf d).body)
        (forwardFlood p d (noteSeen (ctlOf d) (tookCtl p d s))))))
  ∧ (∀ p d x s, goodCtl 3 p d s → ¬ ((ctlOf d).src = s.sez.inst ∧ nfld (ctlOf d).body 0 8 = s.sez.uid) → (ctlOf d).num ∉ s.sez.seen.getD (ctlOf d).src [] →
      s.sez.members.get? (ctlOf d).src = some x → x.uid = nfld (ctlOf d).body 0 8 → ∃ rival,
      exec (.leaveRx p d) s = .next (forgetMember (ctlOf d).src true rival (forwardFlood p d (noteSeen (ctlOf d) (tookCtl p d s)))))
  ∧ (∀ p d t2 s, goodCtl 4 p d s → adjUp (tookCtl p d s) p = true →
      exec (.syncReqRx p d t2) s = .next (sendLocal 32 p 5
        ((ctlOf d).body.take 2 ++ beB 2 0 ++ beB 8 (t2 / 65536) ++ beB 2 (t2 % 65536) ++ beB 10 0) (tookCtl p d s)))
  ∧ (∀ p d t4 id t1 s, goodCtl 5 p d s → s.sez.req = some (id, t1) → s.sez.upstream = some p → s.sez.follow = true → nfld (ctlOf d).body 0 2 = id →
      ∃ asym, exec (.syncRespRx p d t4) s = .next (takeOffset (adjOf s p).timeValid
        ((((tenOf (ctlOf d).body 4 : Int) - t1) + ((tenOf (ctlOf d).body 14 : Int) - t4)) / 2 - asym) (tookCtl p d s))
      ∧ ((cfg s).domPort.get? p = none → asym = 0) ∧ (∀ x, (cfg s).domPort.get? p = some x → asym = x.asym * 256))
  ∧ (∀ p d s r, goodCtl 6 p d s → newFlood s (ctlOf d) = true → r = forwardFlood p d (noteSeen (ctlOf d) (tookCtl p d s)) → (ctlOf d).src ∈ r.sez.present →
      r.sez.voting.any (fun v => decide (v.set = nfld (ctlOf d).body 0 2) && decide (v.coord = (ctlOf d).src)) = false →
      outcomeKnown r (nfld (ctlOf d).body 0 2) (ctlOf d).src = none → ∃ v r1,
      v = ⟨nfld (ctlOf d).body 0 2, (ctlOf d).src, voteOn r (nfld (ctlOf d).body 0 2), nfld (ctlOf d).body 2 8, nfld (ctlOf d).body 10 8, rawNs r⟩
      ∧ r1 = updSez (fun z => { z with voting := z.voting ++ [v] }) r
      ∧ exec (.proposeRx p d) s = .next (sendVote v (if v.vote = 0
          then updSet v.set (fun q => { q with st := .voting, mode := 2, applyTime := v.applyTime }) (retryHeld v.set r1) else r1)))
  ∧ (∀ p d c s r, goodCtl 7 p d s → r = tookCtl p d s → (ctlOf d).dst = some r.sez.inst →
      r.sez.coord.find? (fun c => decide (c.set = nfld (ctlOf d).body 0 2)) = some c → (ctlOf d).src ∈ c.voters → 0 < timeAhead r c.deadline →
      ∃ c1, c1 = { c with ready := addTo c.ready (ctlOf d).src }
      ∧ exec (.voteRx p d) s = .next (if byteAt (ctlOf d).body 2 ≠ 0 then decideSet c 1 (ctlOf d).src r
          else tryCommit c1 (updSez (fun z => { z with coord := z.coord.map (fun x => if x = c then c1 else x) }) r)))
  ∧ (∀ p d s r, goodCtl 8 p d s → newFlood s (ctlOf d) = true → r = forwardFlood p d (noteSeen (ctlOf d) (tookCtl p d s)) → r.sez.following = none → ∃ r1,
      exec (.outcomeRx p d) s = .next (settleSet (nfld (ctlOf d).body 0 2) (byteAt (ctlOf d).body 2) (nfld (ctlOf d).body 4 2) r1)
      ∧ r1.quad = r.quad ∧ r1.sez.voting = r.sez.voting.filter (fun v => decide (v.set ≠ nfld (ctlOf d).body 0 2)))
  ∧ (∀ p d o s r, goodCtl 9 p d s → newFlood s (ctlOf d) = true → r = forwardFlood p d (noteSeen (ctlOf d) (tookCtl p d s)) →
      outcomeKnown r (nfld (ctlOf d).body 0 2) (nfld (ctlOf d).body 2 2) = some o →
      exec (.outcomeQueryRx p d) s = .next (floodOutcome o.set o.result o.culprit r))
  ∧ (∀ p d s, isDomainPort s p = true → sezalTagged s d = true → bitN (byteAt d 15) 1 = true → 30 ≤ d.length → byteAt d 28 = 1 → tagFault s p d = none → ctlLenOk 1 d = false →
      exec (.helloRx p d) s = .next (sezBump 0 (takeInbox p d s)))

/-- OSYS, OTIME and the servo port (R147, R148, R384, R386): with no failing check an action on TIME waits for the next tick, and a read answers; the
servo port's actions are counted when they are refused, and come to nothing where no servo runs (R175, R360). -/
def Obligations.MeterTimeComplete : Prop :=
  (∀ e s, otdVerdict 0x8001 (lenIs 0) [] [] e s = none → exec (.osysInfo e) s = .next (respond e 0x8001 (okV ([2, 1] ++ leB 2 0
      ++ leB 4 (if s.otd.start = .romFailed then Config.badRomCrc.toNat else 0x8B520D6E) ++ leB 4 s.otd.meterId ++ leB 4 65536 ++ leB 4 65536 ++ leB 2 4096 ++ leB 2 2048
      ++ leB 2 (16383 - s.otd.cells) ++ leB 2 (2048 - s.otd.ledger.length))) s))
  ∧ (∀ e s, otdVerdict 0x8002 (lenIs 4) (osysStatusFields e s) [] e s = none → exec (.osysStatus e) s = .next (respond e 0x8002
      (okV ((List.range 12).flatMap (fun i => leB 8 (s.otd.ctr.getD i 0)))) (if bitN (byteAt e.payload 0) 0 = true then updOtd (fun o => { o with ctr := [] }) s else s)))
  ∧ (∀ e s, otdVerdict 0x8101 (lenIs 0) [] [] e s = none → ∃ data, exec (.otimeRead e) s = .next (respond e 0x8101 (okV data) s)
      ∧ data.take 12 = ten (rawT s) ++ leB 2 0 ∧ data.length = 54)
  ∧ (∀ e s, otdVerdict 0x8102 (lenIs 8) (otimeSetIncFields e s) (otimeSetIncMore e s) e s = none → exec (.otimeSetInc e) s
      = .next (respond e 0x8102 (okV []) (takeInc 1 (fld e.payload 0 5) s)))
  ∧ (∀ e s, otdVerdict 0x8103 (lenIs 12) (otimeStepFields e s) (otimeStepMore e s) e s = none → ∃ data, exec (.otimeStep e) s = .next (respond e 0x8103 (okV data)
      (takeStep 1 (signedN 64 (fld e.payload 0 8) * 65536 + fld e.payload 8 2) (bitN (byteAt e.payload 10) 0) (bitN (byteAt e.payload 10) 1) s))
      ∧ data = leB 8 ((rawT s + nomInc s.build.owlHz) / 65536))
  ∧ (∀ e s, otdVerdict 0x8104 (lenIs 4) (otimeAuthorityFields e s) (otimeAuthorityMore e s) e s = none → exec (.otimeAuthority e) s
      = .next (respond e 0x8104 (okV []) (otdLog 0x08 1 (byteAt e.payload 0) (updOtd (fun o => { o with authNext := some (byteAt e.payload 0 = 1) }) s))))
  ∧ (∀ (inc : BitVec 40) s, servoRefused s = false → incInRange s inc.toNat = true → exec (.servoInc inc) s
      = .next (if servoRuns s = true then takeInc 2 inc.toNat (servoActed s.time.lock s) else s))
  ∧ (∀ (inc : BitVec 40) s, (servoRefused s = true ∨ incInRange s inc.toNat = false) → exec (.servoInc inc) s = .next (otdCount 7 1 s))
  ∧ (∀ (amount : BitVec 80) valid invalidate s, servoRefused s = false → (valid && invalidate) = false → servoPorts s ≠ [] → followsDomain s = false →
      exec (.servoStep amount valid invalidate) s = .next (takeStep 2 amount.toInt valid invalidate
        (if invalidate = true then { s with time := { s.time with lock := false } } else servoActed (s.time.lock || valid) s)))
  ∧ (∀ (amount : BitVec 80) valid invalidate s, servoRefused s = false → (valid && invalidate) = false → (servoPorts s = [] ∨ followsDomain s = true) →
      exec (.servoStep amount valid invalidate) s = .next s)
  ∧ (∀ (amount : BitVec 80) valid invalidate s, (servoRefused s = true ∨ (valid && invalidate) = true) →
      exec (.servoStep amount valid invalidate) s = .next (otdCount 7 1 s))
  ∧ (∀ src inc s, (takeInc src inc s).time.incNext = some (BitVec.ofNat 40 inc) ∧ (takeInc src inc s).time.raw = s.time.raw ∧ (takeInc src inc s).time.offset = s.time.offset)
  ∧ (∀ src amount valid invalidate s, s.time.stepNext = none → (takeStep src amount valid invalidate s).time.stepNext = some (amount, valid, invalidate))

/-- The account map, the record ring and its writes (R388, R389, R392 to R394, R401). Summaries and intervals (R387 to R395): TAP_SUMMARY passes the
oldest summary it names, or finds none; a good frame's account; the boundary begins, waits for the frames whose flow is still to come, and ends; the
records of a close. -/
def Obligations.MeteringComplete : Prop :=
  (∀ e m s, otdVerdict 0x8201 (fun k => decide (8 ≤ k) && decide (k = 8 + 12 * byteAt e.payload 1)) (omapSetFields e s) (omapSetMore e s) e s = none →
      m = (mapEntries e.payload).foldl (mapPut (byteAt e.payload 0)) s.otd.pendMap → exec (.omapSet e) s = .next (respond e 0x8201 (okV (leB 4 m.flows.length))
        (otdLog 0x0E 1 (byteAt e.payload 0 + 256 * byteAt e.payload 1 + 2 ^ 32 * (crc32 (e.payload.drop 8)).toNat) (updOtd (fun o => { o with pendMap := m, mapDirty := true }) s))))
  ∧ (∀ e l s, otdVerdict 0x8202 (lenIs 8) (omapReadFields e s) [] e s = none →
      l = sortedFrom (if byteAt e.payload 0 = 0 then (if byteAt e.payload 1 = 0 then s.otd.map else s.otd.pendMap).flows else (if byteAt e.payload 1 = 0 then s.otd.map else s.otd.pendMap).ports)
        (fld e.payload 4 4) → ∃ next, exec (.omapRead e) s
          = .next (respond e 0x8202 (okV (leB 4 next ++ leB 2 (l.take 19).length ++ leB 2 0 ++ (l.take 19).flatMap mapBytes)) s)
        ∧ (l.length ≤ 19 → next = 0xFFFFFFFF))
  ∧ (∀ e s, otdVerdict 0x8203 (lenIs 4) (omapClearFields e s) (omapClearMore e s) e s = none → ∃ m, exec (.omapClear e) s
        = .next (respond e 0x8203 (okV []) (otdLog 0x0F 1 (byteAt e.payload 0) (updOtd (fun o => { o with pendMap := m, mapDirty := true }) s)))
      ∧ m.flows = (if byteAt e.payload 0 = 1 then s.otd.pendMap.flows else []) ∧ m.ports = (if byteAt e.payload 0 = 0 then s.otd.pendMap.ports else []))
  ∧ (∀ e r s, otdVerdict 0x8301 (lenIs 16) (orecordRingSetFields e s) (orecordRingSetMore e s) e s = none → bitN (byteAt e.payload 0) 0 = true →
      r = { vector := fld e.payload 2 2, size := fld e.payload 4 4, base := fld e.payload 8 8 } → exec (.orecordRingSet e) s
        = .next (respond e 0x8301 (okV []) (oPump (updOtd (fun o => { o with ring := some r, cons := 0, consWrap := false }) s))))
  ∧ (∀ e s, otdVerdict 0x8301 (lenIs 16) (orecordRingSetFields e s) (orecordRingSetMore e s) e s = none → bitN (byteAt e.payload 0) 0 = false →
      exec (.orecordRingSet e) s = .next (respond e 0x8301 (okV []) (oPump (updOtd oStop s))))
  ∧ (∀ e s, otdVerdict 0x8302 (lenIs 4) (orecordIntervalFields e s) (orecordIntervalMore e s) e s = none → exec (.orecordInterval e) s
      = .next (respond e 0x8302 (okV []) (otdLog 0x10 1 (fld e.payload 0 4) (updOtd (fun o => { o with intervalNext := fld e.payload 0 4 }) s))))
  ∧ (∀ e s, otdVerdict 0x8303 (lenIs 0) [] [] e s = none → exec (.orecordStatus e) s = .next (respond e 0x8303 (okV (leB 4 s.otd.interval ++ leB 2 s.otd.pending.length
      ++ leB 2 0 ++ leB 4 (oProdWord s.otd) ++ leB 4 (oConsWord s.otd) ++ leB 8 (unsignedN 64 (s.otd.startTime / 65536)) ++ leB 8 s.otd.recSeq ++ leB 8 s.otd.records
      ++ leB 4 s.otd.accounts.keys.length)) s))
  ∧ (∀ (data : Word) r s, s.otd.ring = some r → data.toNat % 65536 < r.size →
      (data.toNat % 65536 + (if data.getLsbD 16 = true then r.size else 0) + 2 * r.size - oConsPos s.otd r) % (2 * r.size) ≤ (r.prod + 2 * r.size - oConsPos s.otd r) % (2 * r.size) →
      exec (.oringConsWrite data) s = .next (hptOk 0 (oPump (updOtd (fun o => { o with cons := data.toNat % 65536, consWrap := data.getLsbD 16 }) s))))
  ∧ (∀ (data : Word) r s, s.otd.ring = some r → r.size ≤ data.toNat % 65536 → exec (.oringConsWrite data) s = .next (hptOk 0 (otdCount 8 1 s)))
  ∧ (∀ w r x rest s, s.otd.write = some w → s.otd.ring = some r → s.otd.writing = x :: rest → w.second = false → exec .otdRecordWriteAck s = .next (oIssue true s))
  ∧ (∀ w r x rest s, s.otd.write = some w → s.otd.ring = some r → s.otd.writing = x :: rest → w.second = true → r.stopping = false → ∃ s1, s1 = updOtd (fun o =>
        { o with ring := some { r with prod := (r.prod + 1) % (2 * r.size) }, writing := rest, write := none, records := o.records + 1 }) s
      ∧ exec .otdRecordWriteAck s = .next (oPump (if x.last = true then fire r.vector s1 else s1)))
  ∧ (∀ w s, s.otd.write = some w → w.at' + 1000000 ≤ rawNs s → exec .otdRecordRetry s = .next (oIssue w.second (fire 50 (otdCount 8 1 s))))
  ∧ (∀ x h s, s.otd.taps.find? (named s.otd x) = some h → exec (.tapSummary x) s = .next (chargeHeld h (updOtd (fun o => { o with taps := o.taps.erase h }) s)))
  ∧ (∀ x s, s.otd.taps.find? (named s.otd x) = none → exec (.tapSummary x) s = .next s)
  ∧ (∀ h a s t, h.key.spilled = false → h.key.outcome = 0 → accountOf s.otd.map h.key.port h.key.flow h.key.transmit = some a → t = chargeHeld h s →
      t.otd.accounts.getD a {} = (if h.key.transmit = true
        then { s.otd.accounts.getD a {} with txFrames := (s.otd.accounts.getD a {}).txFrames + h.frames, txBytes := (s.otd.accounts.getD a {}).txBytes + h.bytes }
        else { s.otd.accounts.getD a {} with rxFrames := (s.otd.accounts.getD a {}).rxFrames + h.frames, rxBytes := (s.otd.accounts.getD a {}).rxBytes + h.bytes })
      ∧ ∀ k, k ≠ a → t.otd.accounts.getD k {} = s.otd.accounts.getD k {})
  ∧ (∀ s, s.otd.start ≠ .ready → exec .intervalBoundary s = .next s)
  ∧ (∀ s, s.otd.closing = none → boundaryDue s = false → exec .intervalBoundary s = .next s)
  ∧ (∀ s, s.otd.start = .ready → s.otd.closing = none → boundaryDue s = true → ∃ t c, t = beginClose s ∧ t.otd.closing = some c ∧ c.at' = rawNs s ∧ c.raw = rawT s
      ∧ c.time = time16 s ∧ t.otd.interval = t.otd.intervalNext ∧ t.otd.baseRaw = rawT s ∧ t.otd.baseTime = time16 s ∧ t.otd.validChanged = false
      ∧ ((waiting t).any lateFrame = true → exec .intervalBoundary s = .next t) ∧ ((waiting t).any lateFrame = false → exec .intervalBoundary s = .next (finishClose c t)))
  ∧ (∀ c s, s.otd.start = .ready → s.otd.closing = some c → (waiting s).any lateFrame = false ∨ c.at' + 1000000 ≤ rawNs s →
      exec .intervalBoundary s = .next (finishClose c s))
  ∧ (∀ c s, s.otd.start = .ready → s.otd.closing = some c → (waiting s).any lateFrame = true → ¬ c.at' + 1000000 ≤ rawNs s → exec .intervalBoundary s = .next s)
  ∧ (∀ c a s, (accountRecord c s a).otd.pending.length = s.otd.pending.length + 1 ∧ (accountRecord c s a).otd.accounts = s.otd.accounts)
  ∧ (∀ c s, (closeInterval c s).otd.pending.length = s.otd.pending.length + s.otd.accounts.length + 1 ∧ (closeInterval c s).otd.accounts = [])

/-- The seal (R375, R378 to R381): sealing, unsealing under AUTH, the switch; the 10 s block after a denial; TEST_ACCESS puts Untos in test, and is
logged while the seal is open (R75, R398). -/
def Obligations.SealComplete : Prop :=
  (∀ e s, otdVerdict 0x8401 (lenIs 0) [] [] e s = none → exec (.osealStatus e) s = .next (respond e 0x8401 (okV (leB 1 (statusOut s) ++ leB 1 (b2n s.otd.switch)
      ++ leB 1 (b2n s.otd.key.isSome) ++ leB 1 0 ++ leB 2 (sealEvents s) ++ leB 2 (ledgerLeft s) ++ leB 4 s.otd.meterId ++ leB 8 s.otd.nonce.toNat)) s))
  ∧ (∀ e s, otdVerdict 0x8402 (lenIs 4) (osealSealFields e s) (osealSealMore e s) e s = none → ∃ t, exec (.osealSeal e) s = .next (respond e 0x8402 (okV []) t)
      ∧ t.otd.sealSt = .isSealed ∧ t.otd.meterId = fld e.payload 0 4 ∧ t.otd.ledger = s.otd.ledger ++ [1] ∧ t.otd.key = s.otd.key)
  ∧ (∀ e s, otdVerdict 0x8403 (lenIs 16) [] [fullVerdict s, unlessOk (s.otd.sealSt ≠ .isUnsealed) (stateV 0), unlessOk (!unsealBlocked s) (refusedV 3)] e s = none →
      authGood s (e.payload.take 16) = true → ∃ t, exec (.osealUnseal e) s = .next (respond e 0x8403 (okV []) t)
        ∧ t.otd.sealSt = .isUnsealed ∧ t.otd.ledger = s.otd.ledger ++ [2] ∧ t.otd.nonce = Config.nonce s.otd.draws)
  ∧ (∀ e s, otdVerdict 0x8403 (lenIs 16) [] [fullVerdict s, unlessOk (s.otd.sealSt ≠ .isUnsealed) (stateV 0), unlessOk (!unsealBlocked s) (refusedV 3)] e s = none →
      authGood s (e.payload.take 16) = false → ∃ t, exec (.osealUnseal e) s = .next (respond e 0x8403 (refusedV 2) t)
        ∧ t.otd.sealSt = s.otd.sealSt ∧ t.otd.ledger = s.otd.ledger ∧ t.otd.blockUntil = some (rawNs s + 10000000000) ∧ t.otd.ctr.getD 10 0 = (s.otd.ctr.getD 10 0 + 1) % 2 ^ 64)
  ∧ (∀ until' s, s.otd.blockUntil = some until' → until' ≤ rawNs s → exec .unsealBlockExpiry s = .next (updOtd (fun o => { o with blockUntil := none }) s))
  ∧ (∀ until' s, s.otd.blockUntil = some until' → rawNs s < until' → exec .unsealBlockExpiry s = .next s)
  ∧ (∀ s, s.otd.start = .ready → s.otd.switch = true → s.otd.sealSt = .isSealed → ∃ t, exec (.sealSwitchChange false) s = .next t
      ∧ t.otd.sealSt = .isBroken ∧ t.otd.ledger = s.otd.ledger ++ [3] ∧ t.otd.switch = false)
  ∧ (∀ level s, s.otd.start = .ready → s.otd.switch = !level → s.otd.sealSt = .isUnsealed →
      exec (.sealSwitchChange level) s = .next (otdLog 0x06 3 (b2n level) (updOtd (fun o => { o with switch := level }) s)))
  ∧ (∀ level s, (s.otd.start ≠ .ready ∨ s.otd.switch = level ∨ s.otd.sealSt = .isBroken ∨ (s.otd.sealSt = .isSealed ∧ level = true)) →
      exec (.sealSwitchChange level) s = .next (updOtd (fun o => { o with switch := level }) s))
  ∧ (∀ s s1, s1 = { s with boot := { s.boot with bypass := false, inTest := true } } → exec .testAccess s
      = .next (if s.otd.start = .ready ∧ s.otd.sealSt = .isUnsealed then otdLog 0x12 0 0 s1 else s1))

/-- Otdiuri's log and its start (R72, R73, R149, R375, R376, R383, R397 to R399). -/
def Obligations.MeterLogAndStartComplete : Prop :=
  (∀ e l s, otdVerdict 0x8501 (lenIs 4) [] [] e s = none → l = (s.otd.log.filter (fun x => decide (fld e.payload 0 4 ≤ x.seq))).take 4 → ∃ next t,
      exec (.ologRead e) s = .next (respond e 0x8501 (okV (leB 4 next ++ leB 2 l.length ++ leB 2 0 ++ l.flatMap logBytes)) t)
      ∧ t.otd.log = s.otd.log ∧ (l = [] → t.otd.logRead = s.otd.logRead) ∧ (l ≠ [] → t.otd.logRead = max s.otd.logRead next))
  ∧ (∀ e s, otdVerdict 0x8502 (lenIs 4) [] (ologAckMore e s) e s = none → ∃ t, exec (.ologAck e) s = .next (respond e 0x8502 (okV (leB 2 t.otd.log.length)) t)
      ∧ t = otdLog 0x13 1 (fld e.payload 0 4) (updOtd (fun o => { o with log := o.log.filter (fun x => decide (fld e.payload 0 4 < x.seq)), logLost := false }) s))
  ∧ (∀ code source detail s, s.otd.lost = 0 → s.otd.log.length < 4096 → ∃ x, (otdLog code source detail s).otd.log = s.otd.log ++ [x] ∧ x.seq = s.otd.logNext ∧ x.code = code
      ∧ x.source = source ∧ x.detail = detail ∧ x.rawNs = rawT s / 65536 ∧ x.timeNs = timeNs s ∧ x.tag = otdTag s.otd.key (ascii "OTDL" ++ logHead x ++ s.otd.lastLogTag)
      ∧ (otdLog code source detail s).otd.lastLogTag = x.tag ∧ (otdLog code source detail s).otd.logNext = (s.otd.logNext + 1) % 2 ^ 32)
  ∧ (∀ romOk level s, ∃ t, exec (.otdPowerOn romOk level) s = .next t ∧ t.otd.start = (if romOk = true then .keyRead else .romFailed) ∧ t.otd.switch = level
      ∧ t.otd.ledger = s.otd.ledger ∧ t.otd.cells = s.otd.cells ∧ t.otd.sealSt = .isUnsealed ∧ t.otd.log = [] ∧ t.time.raw = 0 ∧ t.time.corr = 0 ∧ t.time.offset = 0
      ∧ t.time.valid = false ∧ t.time.discInc = BitVec.ofNat 40 (nomInc s.build.owlHz * 65536))
  ∧ (∀ word k s, s.otd.start = .keyRead → s.otd.keyReq = some k → s.otd.keyWords.length < 7 → exec (.keyWord word) s
      = .next (updOtd (fun o => { o with keyWords := s.otd.keyWords ++ [word], keyReq := some (s.otd.keyWords.length + 1) }) s))
  ∧ (∀ word k l s, s.otd.start = .keyRead → s.otd.keyReq = some k → l = s.otd.keyWords ++ [word] → l.length = 8 → ∃ t, exec (.keyWord word) s = .next t
      ∧ t.otd.start = .ready ∧ t.otd.cells = min 16383 (s.otd.cells + 1)
      ∧ t.otd.key = (if (∀ w, w ∈ l → w = 0) ∨ (∀ w, w ∈ l → w = BitVec.allOnes 32) then none else some (l.flatMap (fun w => leB 4 w.toNat))))
  ∧ (∀ k s, s.otd.start = .keyRead → s.otd.keyReq = some k → ∃ t, exec .keyTimeout s = .next t ∧ t.otd.start = .ready ∧ t.otd.key = none
      ∧ t.otd.cells = min 16383 (s.otd.cells + 1) ∧ t.time.discont = BitVec.ofNat 16 (min 16383 (s.otd.cells + 1))
      ∧ t.otd.ledger = (if s.otd.ledger.getLast? = some 1 ∨ s.otd.ledger.getLast? = some 3 then s.otd.ledger ++ [2] else s.otd.ledger))
  ∧ (∀ word s, s.otd.start ≠ .keyRead → exec (.keyWord word) s = .next s ∧ exec .keyTimeout s = .next s)

/-- HQ class (R403, R406, R426 to R429): creation of rings, queue pairs and completion rings, and the four actions on them, each when no check fails. -/
def Obligations.HostCommandsComplete : Prop :=
  (∀ e s, inTurn e s = true → cmdVerdict 0x0E01 (lenIs 40) (ringCreateChk e s) e s = none → ∃ t n, exec (.ringCreate e) s = .next (respond e 0x0E01 (okV (leB 2 n ++ leB 2 0)) t)
      ∧ sqOf t n = some (ringOf e) ∧ (fld e.payload 0 2 ≠ 0xFFFF → n = fld e.payload 0 2) ∧ (∀ k, k ≠ n → sqOf t k = sqOf s k) ∧ t.hq.cq = s.hq.cq)
  ∧ (∀ e s, inTurn e s = true → cmdVerdict 0x0E02 (lenIs 32) (qpCreateChk e s) e s = none → ∃ t n, exec (.qpCreate e) s = .next (respond e 0x0E02 (okV (leB 2 n ++ leB 2 0)) t)
      ∧ sqOf t n = some (qpOf e) ∧ (fld e.payload 0 2 ≠ 0xFFFF → n = fld e.payload 0 2) ∧ (∀ k, k ≠ n → sqOf t k = sqOf s k) ∧ t.hq.cq = s.hq.cq)
  ∧ (∀ e s, inTurn e s = true → cmdVerdict 0x0E03 (lenIs 24) (cqCreateChk e s) e s = none → ∃ t n x, exec (.cqCreate e) s = .next (respond e 0x0E03 (okV (leB 2 n)) t)
      ∧ cqOf t n = some x ∧ x.size = fld e.payload 4 4 ∧ x.base = fld e.payload 8 8 ∧ x.vector = fld e.payload 16 2 ∧ x.coalesce = fld e.payload 18 2
      ∧ x.coalUs = fld e.payload 20 2 ∧ (fld e.payload 0 2 ≠ 0xFFFF → n = fld e.payload 0 2) ∧ (∀ k, k ≠ n → cqOf t k = cqOf s k) ∧ t.hq.sq = s.hq.sq)
  ∧ (∀ e s, inTurn e s = true → cmdVerdict 0x0E04 (lenIs 4) (queueCtlChk 0 e s) e s = none → onRing e = true → ∃ t, t = updCq (fld e.payload 0 2) (fun x => { x with enabled := false }) s
      ∧ exec (.queueDisable e) s = .next (respond e 0x0E04 (okV (headData e t)) t))
  ∧ (∀ e x s, inTurn e s = true → cmdVerdict 0x0E04 (lenIs 4) (queueCtlChk 0 e s) e s = none → onRing e = false → sqOf s (fld e.payload 0 2) = some x → x.st = .enabled →
      ∃ t y, exec (.queueDisable e) s = .next (respond e 0x0E04 (okV (headData e t)) t) ∧ sqOf t (fld e.payload 0 2) = some y ∧ y.st = .disabled ∧ y.fetched = []
        ∧ y.head = x.head ∧ y.works = x.works ∧ t.out = (hpiWrite x.headWb (headWord { x with st := .disabled }) s).out)
  ∧ (∀ e x s, inTurn e s = true → cmdVerdict 0x0E04 (lenIs 4) (queueCtlChk 0 e s) e s = none → onRing e = false → sqOf s (fld e.payload 0 2) = some x → x.st ≠ .enabled →
      exec (.queueDisable e) s = .next (respond e 0x0E04 (okV (headData e s)) s))
  ∧ (∀ e x s, inTurn e s = true → cmdVerdict 0x0E04 (lenIs 4) (queueCtlChk 1 e s) e s = none → onRing e = false → sqOf s (fld e.payload 0 2) = some x → x.st ≠ .enabled →
      ∃ t y, exec (.queueEnable e) s = .next (respond e 0x0E04 (okV (headData e t)) t) ∧ sqOf t (fld e.payload 0 2) = some y ∧ y.st = .enabled ∧ y.tail = x.head
        ∧ y.head = x.head ∧ y.reason = 0 ∧ y.fetched = [] ∧ y.works = x.works)
  ∧ (∀ e s, inTurn e s = true → cmdVerdict 0x0E04 (lenIs 4) (queueCtlChk 1 e s) e s = none → onRing e = true → ∃ t, t = enableUnit e s
      ∧ exec (.queueEnable e) s = .next (respond e 0x0E04 (okV (headData e t)) t))
  ∧ (∀ e s, inTurn e s = true → cmdVerdict 0x0E04 (lenIs 4) (queueDestroyChk e s) e s = none → ∃ t, exec (.queueDestroy e) s = .next (respond e 0x0E04 (okV (headData e s)) t)
      ∧ (onRing e = true → t = { s with hq := { s.hq with cq := s.hq.cq.del (fld e.payload 0 2) } })
      ∧ (onRing e = false → t = { s with hq := { s.hq with sq := s.hq.sq.del (fld e.payload 0 2) } }))
  ∧ (∀ e s, inTurn e s = true → cmdVerdict 0x0E05 (lenIs 4) (queueResetChk e s) e s = none → ∃ t, exec (.queueReset e) s = .next (respond e 0x0E05 (okV []) t)
      ∧ (onRing e = true → t = updCq (fld e.payload 0 2) (fun x => { x with prod := 0, cons := 0 }) s)
      ∧ (∀ x, onRing e = false → sqOf s (fld e.payload 0 2) = some x → x.works = [] →
          ∃ y, sqOf t (fld e.payload 0 2) = some y ∧ y.st = .disabled ∧ y.head = 0 ∧ y.tail = 0 ∧ y.reason = 0))
  ∧ (∀ e s, inTurn e s = true → cmdVerdict 0x0E06 (lenIs 4) (queueStatusChk e s) e s = none → ∃ t, exec (.queueStatus e) s = .next (respond e 0x0E06 (okV (queueStatusData e s)) t)
      ∧ (bitN (byteAt e.payload 3) 0 = false → t = s)
      ∧ (bitN (byteAt e.payload 3) 0 = true → ∀ c, ctrOf t c = if c.fam = .hostq ∧ c.unit = fld e.payload 0 2 ∧ c.sub = b2n (onRing e) then 0 else ctrOf s c))

/-- Doorbells and fetching (R56, R57, R405 to R410, R414, R420, R421, R424, R425): what an index does to a queue once HST serves the doorbell, and
what a fetched entry does. A doorbell that meets a failed wake is answered ERR. -/
def Obligations.DoorbellsAndFetching : Prop :=
  (∀ n data s, hptServed false s = true → (dom s 66).wakeFail = true → exec (.sqDb n data) s = .next (hptErr s) ∧ exec (.cqDb n data) s = .next (hptErr s))
  ∧ (∀ n data s s0, hptServed false s = true → (dom s 66).wakeFail = false → s0 = hptOk 0 (if n = 0 then askWake 65 (askWake 66 s) else askWake 66 s) → sqOf s0 n = none →
      exec (.sqDb n data) s = .next (bump strayCtr s0))
  ∧ (∀ n data x s s0, hptServed false s = true → (dom s 66).wakeFail = false → s0 = hptOk 0 (if n = 0 then askWake 65 (askWake 66 s) else askWake 66 s) → sqOf s0 n = some x →
      x.st ≠ .enabled → exec (.sqDb n data) s = .next (bump (hqCtr n 0 4) s0))
  ∧ (∀ n data x pos s s0, hptServed false s = true → (dom s 66).wakeFail = false → s0 = hptOk 0 (if n = 0 then askWake 65 (askWake 66 s) else askWake 66 s) → sqOf s0 n = some x →
      x.st = .enabled → pos = posOf x.size (bitsN data.toNat 15 0) (bitN data.toNat 16) →
      (x.size < posDist x.size x.head pos → exec (.sqDb n data) s = .next (queueError n 1 s0))
      ∧ (posDist x.size x.head pos ≤ x.size → (x.size ≤ bitsN data.toNat 15 0 ∨ posDist x.size x.head pos < outstandingOf x) →
          exec (.sqDb n data) s = .next (queueError n 2 s0))
      ∧ (posDist x.size x.head pos ≤ x.size → bitsN data.toNat 15 0 < x.size → outstandingOf x ≤ posDist x.size x.head pos →
          exec (.sqDb n data) s = .next (advance n (updSq n (fun x => { x with tail := pos, specMiss := x.specMiss && decide (x.tail = pos) }) s0))))
  ∧ (∀ r data x pos s s0, hptServed false s = true → (dom s 66).wakeFail = false → s0 = hptOk 0 (askWake 66 s) → cqOf s0 r = some x →
      pos = posOf x.size (bitsN data.toNat 15 0) (bitN data.toNat 16) →
      ((x.size ≤ bitsN data.toNat 15 0 ∨ posDist x.size x.cons x.prod < posDist x.size pos x.prod) → exec (.cqDb r data) s = .next (bump (hqCtr r 1 2) s0))
      ∧ (bitsN data.toNat 15 0 < x.size → posDist x.size pos x.prod ≤ posDist x.size x.cons x.prod → ∃ s1, s1 = flushBacklog r 64 (updCq r (fun x => { x with cons := pos }) s0)
          ∧ exec (.cqDb r data) s = .next ((boundQueues s1 r).foldl (fun s n => advance n s) s1)))
  ∧ (∀ n entry x s, sqOf s n = some x → mayFetch s n x = true → placeFree s x = true →
      (phaseGood x (fetchPos x) entry = true → exec (.entryFetch n entry) s = .next (takeEntry n x entry (readEntry x (fetchPos x) s)))
      ∧ (phaseGood x (fetchPos x) entry = false → x.fetched.length < outstandingOf x →
          exec (.entryFetch n entry) s = .next (updSq n (fun x => { x with phaseWait := some (fetchPos x), phaseAt := rawNs s }) (readEntry x (fetchPos x) s)))
      ∧ (phaseGood x (fetchPos x) entry = false → outstandingOf x ≤ x.fetched.length →
          exec (.entryFetch n entry) s = .next (updSq n (fun x => { x with specMiss := true }) (readEntry x (fetchPos x) s))))
  ∧ (∀ n entry x s, sqOf s n = some x → mayFetch s n x = true → placeFree s x = false → exec (.entryFetch n entry) s = .next (raiseBacklog s))
  ∧ (∀ n entry x pos s, sqOf s n = some x → x.phaseWait = some pos → hstRuns s = true → x.st = .enabled → x.phaseAt + 1000 ≤ rawNs s →
      (phaseGood x pos entry = true → exec (.phaseRetry n entry) s = .next (takeEntry n x entry (readEntry x pos s)))
      ∧ (phaseGood x pos entry = false → ∃ w, w = { workOf x pos entry with bad := 3 } ∧ exec (.phaseRetry n entry) s
          = .next (advance n (updSq n (fun x => { x with fetched := x.fetched ++ [w], phaseWait := none }) (readEntry x pos s)))))
  ∧ (∀ n x w rest s, sqOf s n = some x → x.fetched = w :: rest → hstRuns s = true → x.st = .enabled → outstandingOf x ≠ 0 → w.kind = .tx → w.bad = 0 →
      (placeFree s x = true → stagedBytes s + w.data.length ≤ 524288 → exec (.tx n) s = .next (advance n (acceptHead n s)))
      ∧ (placeFree s x = false → exec (.tx n) s = .next (raiseBacklog s)))

/-- Work entries, head words and completions (R93, R412, R415 to R418, R420 to R423, R437): a completion is written in its turn and, once HPI has
acknowledged it, takes its entry out of the queue (of a Gen-1 queue every issued entry up to it). -/
def Obligations.WorkEntriesComplete : Prop :=
  (∀ n w s, nextWork s n .nop = some w → hstRuns s = true → exec (.nop n) s = .next (finish n w.num 0 0 s))
  ∧ (∀ n x s, sqOf s n = some x → hstRuns s = true → headDue s x = true → hpiRoom 1 s = true → ∃ t, exec (.headWb n) s = .next t
      ∧ t.out = (hpiWrite x.headWb (headWord x) s).out
      ∧ sqOf t n = some { x with wbN := x.accepted, wbAt := rawNs s, wbState := false, wbOpens := x.wbOpens ++ [x.accepted] })
  ∧ (∀ n x k rest s, sqOf s n = some x → x.wbOpens = k :: rest → ∃ t, exec (.headWbAck n) s = .next t ∧ sqOf t n = some { x with ackN := max x.ackN k, wbOpens := rest })
  ∧ (∀ n pos x w s, (n = 0 → answerUnknown s = s) → sqOf s n = some x → x.works.find? (fun w => decide (w.pos = pos) && !w.issued) = some w → hstRuns s = true →
      w.result ≠ none → shown x w = true → inQueueOrder n x w = true → hpiRoom 1 s = true →
      exec (.completionWrite n pos) s = .next (if x.gen = 2 then completeGen2 n x w s else completeGen1 n x w s))
  ∧ (∀ n pos x w s, (n = 0 → answerUnknown s = s) → sqOf s n = some x → x.works.find? (fun w => decide (w.pos = pos) && !w.issued) = some w →
      w.result = none ∨ shown x w = false ∨ inQueueOrder n x w = false → exec (.completionWrite n pos) s = .next s)
  ∧ (∀ n pos s, s.hq.open'.find? (fun o => decide (o.queue = n) && decide (o.pos = pos)) = none → exec (.completionAck n pos) s = .next (ctlDue s))
  ∧ (∀ n pos o s, s.hq.open'.find? (fun o => decide (o.queue = n) && decide (o.pos = pos)) = some o → sqOf s n = none → exec (.completionAck n pos) s
      = .next (ctlDue { s with hq := { s.hq with open' := eraseFirst (fun o => decide (o.queue = n) && decide (o.pos = pos)) s.hq.open' } }))
  ∧ (∀ n pos o x w s, s.hq.open'.find? (fun o => decide (o.queue = n) && decide (o.pos = pos)) = some o → sqOf s n = some x →
      x.works.find? (fun w => decide (w.pos = pos) && w.issued) = some w → ∃ (gone : Work → Bool) (s1 : State),
      (∀ v, gone v = if x.gen = 2 then decide (v.num = w.num) else v.issued && decide (v.num ≤ w.num))
      ∧ s1 = updSq n (fun x => { x with works := x.works.filter (fun v => !gone v) })
          { s with hq := { s.hq with open' := eraseFirst (fun o => decide (o.queue = n) && decide (o.pos = pos)) s.hq.open' } }
      ∧ exec (.completionAck n pos) s = .next (ctlDue (flushRings (countCqe n x ((x.works.filter gone).foldl (fun s v => retireWork x v s) s1)))))
  ∧ (∀ id r s, s.cap.rings.get? id = some r → 0 < r.since → 0 < r.coalUs → r.sinceAt + r.coalUs * 1000 ≤ rawNs s →
      exec (.coalesceTimer .foxtrot id) s = .next (fire r.vector { s with cap := { s.cap with rings := s.cap.rings.set id { r with since := 0 } } }))
  ∧ (∀ id x s, sqOf s id = some x → x.gen = 1 → 0 < x.since → 0 < x.coalUs → x.sinceAt + x.coalUs * 1000 ≤ rawNs s →
      exec (.coalesceTimer .gen1 id) s = .next (fire x.vector (updSq id (fun x => { x with since := 0 }) s)))
  ∧ (∀ id x s, cqOf s id = some x → 0 < x.since → 0 < x.coalUs → x.sinceAt + x.coalUs * 1000 ≤ rawNs s →
      exec (.coalesceTimer .cq id) s = .next (fire x.vector (updCq id (fun x => { x with since := 0 }) s)))

/-- Host ports (R431 to R436): a staged frame leaves for its slice core with its stamp; a copy meets its receive queue; its wait runs out. -/
def Obligations.HostPortsComplete : Prop :=
  (∀ n x w s sl d, sqOf s n = some x → stagedHead x = some w → sl = sliceOf s (1024 + x.hostPort) → hstRuns s = true → nextTxQueue s x.hostPort = some n →
      coreTakes s sl = true → (slice s sl).den = [] → d = padded (txCsum (bitN ((cfg s).offload.getD x.hostPort 3) 1) (w.flag 3) (w.flag 4) w.data).1 →
      stagingFill s sl + (d.length + 4) ≤ 65536 → ∃ t f, exec (.txHostInject n) s = .next t
        ∧ f = { portIn := 1024 + x.hostPort, data := d, stamp := unsignedN 68 (timeSixteenths s), stampFlags := 2 * b2n (!s.time.valid), epoch := s.quad.parity, rxLen := d.length + 4, host := some ⟨n, w.num, w.flags, w.refStamp⟩ }
        ∧ (∃ u, u = toIngress f { s with hq := { s.hq with lastTx := s.hq.lastTx.set x.hostPort n } } ∧ t.slices = u.slices ∧ t.hq.lastTx = u.hq.lastTx)
        ∧ ctrOf t (hqCtr n 0 1) = (ctrOf s (hqCtr n 0 1) + w.data.length) % 2 ^ 64)
  ∧ (∀ n x s, sqOf s n = some x → stagedHead x = none → exec (.txHostInject n) s = .next s)
  ∧ (∀ p q c k s, hstRuns s = true → isHostPort p = true → hostHead s p q = some c → storedOf s c.frame = some k →
      (∀ n w, judgeData s p q k.c (padded c.data) c.hdrs = .fill n w →
          exec (.rxDispatch p q) s = .next (fillBuffer p q n w c k (rxTarget s (p - 1024) q k.c (padded c.data) c.hdrs) s))
      ∧ (∀ n, judgeData s p q k.c (padded c.data) c.hdrs = .tooLong n → exec (.rxDispatch p q) s = .next (dropHostCopy p q c (bump (hqCtr n 0 3) s)))
      ∧ (∀ n empty, judgeData s p q k.c (padded c.data) c.hdrs = .wait n empty → exec (.rxDispatch p q) s = .next (noteWait p q n empty s))
      ∧ (judgeData s p q k.c (padded c.data) c.hdrs = .noQueue → exec (.rxDispatch p q) s
          = .next (if guardedCopy s c then s else dropHostCopy p q c (bump (noQueueCtr p) s))))
  ∧ (∀ p q since c k n empty s, s.hq.rxWaitAt.get? (qid p q) = some since → hostHead s p q = some c → storedOf s c.frame = some k →
      judgeData s p q k.c (padded c.data) c.hdrs = .wait n empty → exec (.rxWaitExpiry p q) s
        = .next (if guardedCopy s c = true ∨ waitOver s n since = false then s else dropHostCopy p q c (bump (hqCtr n 0 2) s)))
  ∧ (∀ p q s, s.hq.rxWaitAt.get? (qid p q) = none → exec (.rxWaitExpiry p q) s = .next s)

/-- DMA channels (R438 to R446), once HST serves the access: a shadow write and GO, taken or lost; LOAD, also of a refused range; a transfer of no
bytes; a read burst's answer, good or failed, and a write burst's, good or failed; a failed burst goes out again until its retries end, which halts
the channel; done bytes, and the last of them complete the transfer; ABORT, RESUME, CLEAR and the clearing read of CH_CAUSE. -/
def Obligations.DmaChannelsComplete : Prop :=
  (∀ c off data s, c < 64 → hptServed false s = true → (dom s 66).wakeFail = false →
      exec (.dmaShadowWrite c off data) s = .next (hptOk 0 (updDma c (fun x =>
        if x.shadowValid then { x with cause := x.cause ||| 16#6 } else { x with shadow := shadowSet off data x.shadow }) (askWake 66 s)))
      ∧ exec (.dmaGo c) s = .next (hptOk 0 (updDma c (fun x =>
        if x.shadowValid then { x with cause := x.cause ||| 8#6 } else { x with shadowValid := true }) (askWake 66 s))))
  ∧ (∀ c s s1, c < 64 → (dmaOf s c).st = .idle → (dmaOf s c).shadowValid = true → hstWorks 7 s = true →
      s1 = updDma c (fun x => { x with
        active := x.shadow, shadowValid := false, bytesDone := 0, acked := 0, readPos := 0, halfSeen := false, tries := [], writes := [],
        oldWrites := x.oldWrites ++ x.writes, st := .busy }) s →
      (badRange (dmaOf s c).shadow = false → exec (.dmaLoad c) s = .next s1)
      ∧ (badRange (dmaOf s c).shadow = true → exec (.dmaLoad c) s = .next (dmaHalt c 4 (dmaOf s c).shadow.dst s1)))
  ∧ (∀ c s, c < 64 → (dmaOf s c).st = .busy → (dmaOf s c).active.len = 0 → hstWorks 7 s = true → ∃ t, exec (.dmaZeroLenDone c) s = .next t
      ∧ (dmaOf t c).st = .idle ∧ (dmaOf t c).doneCount = (dmaOf s c).doneCount + 1 ∧ (dmaOf t c).cause = (dmaOf s c).cause ||| 2#6)
  ∧ (∀ c b at' s s0 s1, c < 64 → b.write = false → (dmaOf s c).st = .busy → b.addr = (dmaOf s c).active.src + (dmaOf s c).readPos → dmaNext (dmaOf s c) ≠ 0 →
      at' = (dmaOf s c).active.dst + (dmaOf s c).readPos → hpiRoom (dmaWrites at' b.data).length s = true → s0 = hpiRead b.addr (dmaNext (dmaOf s c)) s →
      s1 = hpiWrite at' b.data (updDma c (fun x => { x with
        readPos := x.readPos + b.data.length, writes := (dmaWrites at' b.data).foldl (fun m w => m.set w.1 w.2) x.writes, tries := x.tries.del b.addr }) s0) →
      (b.status ≠ 0 → exec (.dmaBurstResponse c b) s = .next (dmaFailed c b.addr b.status 1 id s0))
      ∧ (b.status = 0 → b.data.length = dmaNext (dmaOf s c) → exec (.dmaBurstResponse c b) s
        = .next (if (dmaOf s c).active.flags.getLsbD 2 then s1 else dmaDone c b.data.length s1)))
  ∧ (∀ c b d s s1, c < 64 → b.write = true → openWrite (dmaOf s c) b.addr = some (false, d) →
      s1 = updDma c (fun x => { x with writes := x.writes.del b.addr, tries := x.tries.del b.addr, acked := x.acked + d.length }) s →
      (b.status ≠ 0 → (dmaOf s c).st ≠ .aborting → exec (.dmaBurstResponse c b) s = .next (dmaFailed c b.addr b.status 2 (hpiWrite b.addr d) s))
      ∧ ((dmaOf s c).st = .aborting → exec (.dmaBurstResponse c b) s = .next (dmaAbortEnds c s1))
      ∧ (b.status = 0 → (dmaOf s c).st ≠ .aborting → exec (.dmaBurstResponse c b) s
        = .next (if (dmaOf s c).active.flags.getLsbD 2 && decide ((dmaOf s c).bytesDone < (dmaOf s c).active.len) then dmaDone c d.length s1 else s1)))
  ∧ (∀ c b d s s1, c < 64 → b.write = true → openWrite (dmaOf s c) b.addr = some (true, d) → b.status = 0 ∨ (dmaOf s c).st = .aborting →
      s1 = updDma c (fun x => { x with oldWrites := eraseFirst (fun w => decide (w.1 = b.addr)) x.oldWrites, tries := x.tries.del b.addr }) s →
      exec (.dmaBurstResponse c b) s = .next (if (dmaOf s c).st = .aborting then dmaAbortEnds c s1 else s1))
  ∧ (∀ c addr status kind again s, ((dmaOf s c).tries.getD addr 0 < (dmaOf s c).retryMax →
        dmaFailed c addr status kind again s = again (updDma c (fun x => { x with hpiStatus := status % 4, tries := x.tries.set addr (x.tries.getD addr 0 + 1) }) s))
      ∧ (¬ (dmaOf s c).tries.getD addr 0 < (dmaOf s c).retryMax → ∃ t, dmaFailed c addr status kind again s = fire (64 + c) t
        ∧ dmaOf t c = { dmaOf s c with hpiStatus := status % 4, st := .halted, haltKind := kind, errAddr := addr, cause := (dmaOf s c).cause ||| 4#6 }))
  ∧ (∀ c n s, (dmaOf (dmaDone c n s) c).bytesDone = (dmaOf s c).bytesDone + n
      ∧ ((dmaOf s c).bytesDone + n = (dmaOf s c).active.len → (dmaOf (dmaDone c n s) c).st = .idle ∧ (dmaOf (dmaDone c n s) c).doneCount = (dmaOf s c).doneCount + 1
        ∧ (dmaOf (dmaDone c n s) c).cause.getLsbD 1 = true)
      ∧ ((dmaOf s c).bytesDone + n ≠ (dmaOf s c).active.len → (dmaOf (dmaDone c n s) c).st = (dmaOf s c).st ∧ (dmaOf (dmaDone c n s) c).doneCount = (dmaOf s c).doneCount))
  ∧ (∀ c s, c < 64 → hptServed false s = true → (dom s 66).wakeFail = false → (dmaOf s c).st = .busy → exec (.dmaAbort c) s = .next (hptOk 0 (updDma c (fun x =>
      if x.writes.isEmpty && x.oldWrites.isEmpty then { x with st := .idle, cause := x.cause ||| 32#6 } else { x with st := .aborting }) (askWake 66 s))))
  ∧ (∀ c s s1, c < 64 → hptServed false s = true → (dom s 66).wakeFail = false → (dmaOf s c).st = .halted → (dmaOf s c).haltKind ≠ 4 →
      s1 = updDma c (fun x => { x with st := .busy, tries := [], readPos := if x.haltKind = 3 then x.acked else x.readPos }) (askWake 66 s) →
      (∀ old d, (dmaOf s c).haltKind = 2 → openWrite (dmaOf s c) (dmaOf s c).errAddr = some (old, d) →
        exec (.dmaResume c) s = .next (hptOk 0 (hpiWrite (dmaOf s c).errAddr d s1)))
      ∧ ((dmaOf s c).haltKind ≠ 2 → exec (.dmaResume c) s = .next (hptOk 0 s1)))
  ∧ (∀ c s, c < 64 → hptServed false s = true → (dom s 66).wakeFail = false → (dmaOf s c).st = .halted → exec (.dmaClear c) s
      = .next (hptOk 0 (updDma c (fun x => { x with st := .idle, writes := [], oldWrites := [] }) (askWake 66 s))))
  ∧ (∀ c s, c < 64 → hptServed false s = true → (dom s 66).wakeFail = false → exec (.chCauseRead c) s
      = .next (hptOk (dmaOf s c).cause.toNat (updDma c (fun x => { x with cause := 0 }) (askWake 66 s))))

/-- A transfer of no bytes, and the range check at a load, HST awake (R442, R443): neither makes a bus access. -/
def Obligations.DmaLoadRules : Prop :=
  (∀ c s, c < 64 → (dmaOf s c).st = .idle → (dmaOf s c).shadowValid = true → hstWorks 7 s = true → (dmaOf s c).shadow.len = 0 →
      (dmaOf s c).shadow.src ≤ 2 ^ 64 → (dmaOf s c).shadow.dst ≤ 2 ^ 64 → ∃ t, exec (.dmaLoad c) s = .next t
        ∧ (dmaOf t c).st = .busy ∧ (dmaOf t c).active = (dmaOf s c).shadow ∧ t.out = s.out ∧ t.irq = s.irq)
  ∧ (∀ c s, c < 64 → (dmaOf s c).st = .busy → (dmaOf s c).active.len = 0 → hstWorks 7 s = true → ∃ s1,
      s1 = updDma c (fun x => { x with st := .idle, doneCount := x.doneCount + 1, cause := x.cause ||| 2#6 }) s
      ∧ exec (.dmaZeroLenDone c) s = .next (if (dmaOf s c).active.flags.getLsbD 1 = true then fire (64 + c) s1 else s1) ∧ s1.out = s.out)
  ∧ (∀ c s d, c < 64 → (dmaOf s c).st = .idle → (dmaOf s c).shadowValid = true → hstWorks 7 s = true → d = (dmaOf s c).shadow →
      (2 ^ 64 < d.src + d.len ∨ 2 ^ 64 < d.dst + d.len ∨ ∃ a, d.src ≤ a ∧ a < d.src + d.len ∧ d.dst ≤ a ∧ a < d.dst + d.len) →
      ∃ s1, exec (.dmaLoad c) s = .next (fire (64 + c) s1) ∧ (dmaOf s1 c).st = .halted ∧ (dmaOf s1 c).haltKind = 4 ∧ (dmaOf s1 c).errAddr = d.dst
        ∧ (dmaOf s1 c).cause = (dmaOf s c).cause ||| 4#6 ∧ s1.out = s.out ∧ s1.irq = s.irq)

/-- The slice event controllers (R447 to R449): clearing reads, once HST serves them; the event port offers, takes and ends causes while firmware
runs. The interrupt distributor (R450 to R463), once HST serves the access: a claim moves the winner from pending to active, an EOI of the running
source ends it, an EOI of another one only counts; host writes set and clear; a wait that runs out diverts to the fallback. -/
def Obligations.EventControllersComplete : Prop :=
  (∀ sl s, hptServed false s = true → (dom s 66).wakeFail = false → ∃ t, exec (.sliceCauseRead sl) s = .next t ∧ t.hpt.rsp = s.hpt.rsp ++ [⟨s.hpt.tag, 0, (s.irq.sliceCause.getD sl 0).toNat⟩]
      ∧ t.irq.sliceCause.getD sl 0 = 0 ∧ (∀ k, k ≠ sl → t.irq.sliceCause.getD k 0 = s.irq.sliceCause.getD k 0) ∧ t.irq.sliceLink = s.irq.sliceLink)
  ∧ (∀ sl s, hptServed false s = true → (dom s 66).wakeFail = false → ∃ t, exec (.sliceLinkRead sl) s = .next t ∧ t.hpt.rsp = s.hpt.rsp ++ [⟨s.hpt.tag, 0, (s.irq.sliceLink.getD sl 0).toNat⟩]
      ∧ t.irq.sliceLink.getD sl 0 = 0 ∧ (∀ k, k ≠ sl → t.irq.sliceLink.getD k 0 = s.irq.sliceLink.getD k 0) ∧ t.irq.sliceCause = s.irq.sliceCause)
  ∧ (∀ c s, eventOffer s.irq = some c → firmwareRuns s = true → ∃ t, exec .eventTake s = .next t ∧ t.irq.evStack = c :: s.irq.evStack ∧ t.irq.evPend = dropFrom s.irq.evPend c
      ∧ c ∈ s.irq.evPend ∧ c ∉ s.irq.evStack ∧ s.irq.evStack.length < 16 ∧ (∀ x rest, s.irq.evStack = x :: rest → causePrio c < causePrio x))
  ∧ (∀ sl cause rest s, firmwareRuns s = true → s.irq.evStack = ⟨sl, cause⟩ :: rest → exec (.eventEoi sl cause) s = .next { s with irq := { s.irq with evStack := rest } })
  ∧ (∀ sl cause x rest s, s.irq.evStack = x :: rest → x ≠ ⟨sl, cause⟩ → exec (.eventEoi sl cause) s = .next s)
  ∧ (∀ n id prio s s0, n < 64 → hptServed false s = true → (dom s 66).wakeFail = false → s0 = askWake 66 s → winner s.irq n = some (id, prio) → ∃ t, exec (.claim n) s = .next t
      ∧ t = hptOk (id + 2 ^ 16 + prio * 2 ^ 24) (settleAgain n (takeClaim n id prio s0)))
  ∧ (∀ n s s0, n < 64 → hptServed false s = true → (dom s 66).wakeFail = false → s0 = askWake 66 s → winner s.irq n = none →
      exec (.claim n) s = .next (hptOk 0x0FFF (settleAgain n (updTarget n (fun t => { t with spurious := min 0xFFFF (t.spurious + 1) }) s0))))
  ∧ (∀ n (data : Word) x rest s s0, n < 64 → hptServed false s = true → (dom s 66).wakeFail = false → s0 = askWake 66 s → (tgtOf s.irq n).stack = x :: rest →
      (x.id = data.toNat % 65536 → data.getLsbD 16 = true →
        exec (.eoi n data) s = .next (hptOk 0 (settleAgain n (endActive n x.id (updTarget n (fun t => { t with stack := rest }) s0)))))
      ∧ ((x.id ≠ data.toNat % 65536 ∨ data.getLsbD 16 = false) →
        exec (.eoi n data) s = .next (hptOk 0 (updTarget n (fun t => { t with eoiErr := min 0xFF (t.eoiErr + 1) }) s0))))
  ∧ (∀ k data s s0, hptServed false s = true → (dom s 66).wakeFail = false → s0 = askWake 66 s →
      exec (.pendSet k data) s = .next (hptOk 0 (settle (updIrq (fun q => { q with pend := (wordSources k data).foldl addTo q.pend }) s0)))
      ∧ exec (.pendClr k data) s = .next (hptOk 0 (settle (updIrq (fun q => { q with pend := (wordSources k data).foldl dropFrom q.pend }) s0)))
      ∧ exec (.enSet k data) s = .next (hptOk 0 (settle (updIrq (fun q => { q with en := q.en ||| sourceMask k data }) s0)))
      ∧ exec (.enClr k data) s = .next (hptOk 0 (settle (updIrq (fun q => { q with en := q.en &&& ~~~(sourceMask k data) }) s0))))
  ∧ (∀ i (data : Word) s s0 c, i < 4096 → hptServed false s = true → (dom s 66).wakeFail = false → s0 = askWake 66 s →
      c = ⟨data.toNat % 256, bitsN data.toNat 13 8, bitsN data.toNat 21 16⟩ →
      exec (.srcCfgWrite i data) s = .next (hptOk 0 (settle (updIrq (fun q => { q with cfg := q.cfg.set i c, diverted := dropFrom q.diverted i }) s0))))
  ∧ (∀ n data s s0, n < 64 → hptServed false s = true → (dom s 66).wakeFail = false → s0 = askWake 66 s →
      exec (.privPendSet n data) s = .next (hptOk 0 (settle (updTarget n (fun t => { t with privPend := t.privPend ||| data }) s0)))
      ∧ exec (.privPendClr n data) s = .next (hptOk 0 (settle (updTarget n (fun t => { t with privPend := t.privPend &&& ~~~data }) s0)))
      ∧ exec (.privEnSet n data) s = .next (hptOk 0 (settle (updTarget n (fun t => { t with privEn := t.privEn ||| data }) s0)))
      ∧ exec (.privEnClr n data) s = .next (hptOk 0 (settle (updTarget n (fun t => { t with privEn := t.privEn &&& ~~~data }) s0))))
  ∧ (∀ n s, n < 64 → hptServed false s = true → (dom s 66).wakeFail = false → exec (.targetCountsRead n) s
      = .next (hptOk ((tgtOf s.irq n).spurious + 2 ^ 16 * (tgtOf s.irq n).eoiErr + 2 ^ 24 * (tgtOf s.irq n).fallbacks)
          (updTarget n (fun t => { t with spurious := 0, eoiErr := 0, fallbacks := 0 }) (askWake 66 s))))
  ∧ (∀ n level s, n < 64 → exec (.tgtAwakeChange n level) s = .next (settle (updTarget n (fun t => { t with awake := level }) s)))
  ∧ (∀ i since s, s.irq.waits.get? i = some since → since + 1000 * (tgtOf s.irq (srcCfgOf s.irq i).target).wakeWait ≤ rawNs s →
      exec (.wakeWaitExpiry i) s = .next (settle (updTarget (srcCfgOf s.irq i).fallback (fun t => { t with fallbacks := min 0xFF (t.fallbacks + 1) })
        (updIrq (fun q => { q with diverted := addTo q.diverted i }) s))))
  ∧ (∀ i since s, s.irq.waits.get? i = some since → rawNs s < since + 1000 * (tgtOf s.irq (srcCfgOf s.irq i).target).wakeWait → exec (.wakeWaitExpiry i) s = .next s)
  ∧ (∀ n s, (tgtOf s.irq n).msgOpen = true → exec (.msgWriteRetry n) s = .next (msgWrite n s))
  ∧ (∀ n s, (tgtOf s.irq n).msgOpen = false → exec (.msgWriteRetry n) s = .next s)

/-- CLAIM and EOI at a target, once HST serves the access (R457, R458): a claim takes the eligible source with the lowest PRIORITY and ID from pending
to active and pushes its group, or is SPURIOUS and changes no source; only an EOI that names the source on top of this target's stack pops it and ends
that source's active state. -/
def Obligations.ClaimAndEoi : Prop :=
  (∀ n s, n < 64 → hptServed false s = true → (dom s 66).wakeFail = false → eligible s.irq n ≠ [] → ∃ t id prio, exec (.claim n) s = .next t
      ∧ (id, prio) ∈ eligible s.irq n ∧ (∀ e, e ∈ eligible s.irq n → prio * 8192 + id ≤ e.2 * 8192 + e.1)
      ∧ t.hpt.rsp = s.hpt.rsp ++ [⟨s.hpt.tag, 0, id + 2 ^ 16 + prio * 2 ^ 24⟩] ∧ (tgtOf t.irq n).stack = ⟨id, prio / 2 ^ (tgtOf s.irq n).bp⟩ :: (tgtOf s.irq n).stack
      ∧ (id < 0x1000 → id ∉ t.irq.pend ∧ id ∈ t.irq.active ∧ (tgtOf t.irq n).privPend = (tgtOf s.irq n).privPend)
      ∧ (0x1000 ≤ id → (tgtOf t.irq n).privPend.getLsbD (id - 0x1000) = false ∧ (tgtOf t.irq n).privActive.getLsbD (id - 0x1000) = true
          ∧ t.irq.pend = s.irq.pend ∧ t.irq.active = s.irq.active))
  ∧ (∀ n s, n < 64 → hptServed false s = true → (dom s 66).wakeFail = false → eligible s.irq n = [] → ∃ t, exec (.claim n) s = .next t
      ∧ t.hpt.rsp = s.hpt.rsp ++ [⟨s.hpt.tag, 0, 0x0FFF⟩] ∧ (tgtOf t.irq n).spurious = min 0xFFFF ((tgtOf s.irq n).spurious + 1) ∧ t.irq.pend = s.irq.pend ∧ t.irq.active = s.irq.active
      ∧ (tgtOf t.irq n).stack = (tgtOf s.irq n).stack ∧ (tgtOf t.irq n).privPend = (tgtOf s.irq n).privPend ∧ (tgtOf t.irq n).privActive = (tgtOf s.irq n).privActive)
  ∧ (∀ q n, (tgtOf q n).awake = true → eligible q n ≠ [] → offeredNow q n = true)
  ∧ (∀ n (data : Word) x rest s, n < 64 → hptServed false s = true → (dom s 66).wakeFail = false → (tgtOf s.irq n).stack = x :: rest → x.id = data.toNat % 65536 → data.getLsbD 16 = true →
      ∃ t, exec (.eoi n data) s = .next t ∧ (tgtOf t.irq n).stack = rest ∧ t.irq.pend = s.irq.pend
        ∧ (x.id < 0x1000 → x.id ∉ t.irq.active ∧ ∀ i, i ≠ x.id → (i ∈ t.irq.active ↔ i ∈ s.irq.active))
        ∧ (0x1000 ≤ x.id → x.id < 0x1020 → (tgtOf t.irq n).privActive.getLsbD (x.id - 0x1000) = false ∧ t.irq.active = s.irq.active)
        ∧ ∀ k, k ≠ n → (tgtOf t.irq k).stack = (tgtOf s.irq k).stack ∧ (tgtOf t.irq k).privActive = (tgtOf s.irq k).privActive)
  ∧ (∀ n (data : Word) s, n < 64 → hptServed false s = true → (dom s 66).wakeFail = false →
      (data.getLsbD 16 = false ∨ ∀ x rest, (tgtOf s.irq n).stack = x :: rest → x.id ≠ data.toNat % 65536) → ∃ t, exec (.eoi n data) s = .next t
        ∧ t.irq = { s.irq with tgt := t.irq.tgt } ∧ tgtOf t.irq n = { tgtOf s.irq n with eoiErr := min 0xFF ((tgtOf s.irq n).eoiErr + 1) }
        ∧ ∀ k, k ≠ n → tgtOf t.irq k = tgtOf s.irq k)

/-- PWR commands (R464, R466, R469 to R471, R474): with no failing check each writes what it sets, asks, or answers. -/
def Obligations.PowerCommandsComplete : Prop :=
  (∀ e s s1 ds, inTurn e s = true → cmdVerdict 0x0F01 (lenIs 12) (pwrStateSetChk e s) e s = none → ds = namedCores s (byteAt e.payload 0) →
      s1 = ds.foldl (fun s d => updDom d (fun x => { x with target := byteAt e.payload 1, napIdle := fld e.payload 4 4, dozeIdle := fld e.payload 8 4 }) s) s →
      (byteAt e.payload 2 % 2 = 0 → exec (.pwrStateSet e) s = .next (respond e 0x0F01 (okV []) s1))
      ∧ (byteAt e.payload 2 % 2 = 1 → byteAt e.payload 1 = 0 → exec (.pwrStateSet e) s
          = .next (respond e 0x0F01 (okV (leB 1 0 ++ leB 1 0 ++ leB 2 0)) (ds.foldl (fun s d => askWake d s) s1)))
      ∧ (∀ todo, byteAt e.payload 2 % 2 = 1 → byteAt e.payload 1 ≠ 0 → todo = ds.filter (fun d => decide (depthOf (dom s1 d).st < depthOf (targetState (byteAt e.payload 1)))) →
          (todo = [] → exec (.pwrStateSet e) s = .next (respond e 0x0F01 (okV (leB 1 0 ++ leB 1 0 ++ leB 2 0)) s1))
          ∧ (todo ≠ [] → exec (.pwrStateSet e) s = .next (startRound (.now e) false (targetState (byteAt e.payload 1)) todo s1))))
  ∧ (∀ e s, inTurn e s = true → cmdVerdict 0x0F02 (lenIs 0) (hibernateChk e s) e s = none → s.pwr.rounds = [] → exec (.hibernate e) s
      = .next (startRound (.hibernate e) true .doze ((sleepers s).filter (fun d => decide ((dom s d).st ≠ .doze))) s))
  ∧ (∀ e s, inTurn e s = true → cmdVerdict 0x0F02 (lenIs 0) (hibernateChk e s) e s = none → ∃ t, exec (.hibernate e) s = .next t ∧ t.pwr.last.seq = s.pwr.last.seq + 1)
  ∧ (∀ e s, inTurn e s = true → cmdVerdict 0x0F04 (lenIs 4) (pwrStatusChk e s) e s = none → ∃ t data, exec (.pwrStatus e) s = .next (respond e 0x0F04 (okV data) t)
      ∧ data = leB 1 (blockCode s.pwr.block) ++ leB 3 0 ++ leB 12 (wakeFailBits s) ++ leB 4 (lastEntryWord s) ++ (([s.pwr.hibEntries, s.pwr.hibRefused, s.pwr.autoRefused,
          s.pwr.dozeEntries, s.pwr.drainTimeouts, s.pwr.wakeRetries, s.pwr.wakeFails, s.pwr.brownOuts]).map (leB 8)).flatten
      ∧ (byteAt e.payload 0 % 2 = 0 → t = s)
      ∧ (byteAt e.payload 0 % 2 = 1 → t = updPwr (fun p => { p with hibEntries := 0, hibRefused := 0, autoRefused := 0, dozeEntries := 0, drainTimeouts := 0, wakeRetries := 0, wakeFails := 0, brownOuts := 0 }) s))
  ∧ (∀ e s, inTurn e s = true → cmdVerdict 0x0F05 (lenIs 8) (drainLimitSetChk e s) e s = none → exec (.drainLimitSet e) s = .next (respond e 0x0F05 (okV [])
      ((if byteAt e.payload 0 = 0xFF then sleepers s else [byteAt e.payload 0]).foldl (fun s d => updDom d (fun x => { x with drain := fld e.payload 4 4 }) s) s)))
  ∧ (∀ e s, inTurn e s = true → cmdVerdict 0x0F03 (lenIs 24) {} e s = none → exec (.wakeSrcSet e) s
      = .next (respond e 0x0F03 (okV []) (updPwr (fun p => { p with wakeEn := BitVec.ofNat 192 (fld e.payload 0 24) }) s)))

/-- The ask round (R464 to R470): an idle domain asks by its policy, and CTR for the state in which the slice cores let it be; every block answers;
the last ACK agrees the entry, a refusal or the drain limit ends it. Entry, late switches and wake (R36, R463, R472 to R475, R477, R479 to R481,
R484). -/
def Obligations.SleepAndWakeComplete : Prop :=
  (∀ d target s, d ∈ sleepers s → d ≠ 64 → unsettled s d = false → d ∉ s.pwr.wakePend → domainIdle s d = true → policyAsks s d = some target →
      exec (.autoSleepAsk d) s = .next (startRound .auto false target [d] s))
  ∧ (∀ d s, d ≠ 64 → domainIdle s d = false → exec (.autoSleepAsk d) s = .next s)
  ∧ (∀ target s, centreFollows s [] .run = some target → unsettled s 64 = false → 64 ∉ s.pwr.wakePend →
      exec (.autoSleepAsk 64) s = .next (startRound .auto false target [64] s))
  ∧ (∀ s, centreFollows s [] .run = none → exec (.autoSleepAsk 64) s = .next s)
  ∧ (∀ d b r s, roundOf s d b = some r → r.refuse.any (fun x => decide (x.1 = d) && decide (x.2.1 = b)) = false → blockDelays s r d b = false →
      exec (.askAnswer d b .ack) s = .next (takeAck r d b s))
  ∧ (∀ d b r s, roundOf s d b = some r → blockDelays s r d b = true → exec (.askAnswer d b .ack) s = .next s)
  ∧ (∀ d b s, exec (.askAnswer d b .delay) s = .next s)
  ∧ (∀ d b r x s, roundOf s d b = some r → r.refuse.find? (fun x => decide (x.1 = d) && decide (x.2.1 = b)) = some x →
      exec (.askAnswer d b .refused) s = .next (abortRound r d b x.2.2 s))
  ∧ (∀ d r s, roundOf s d 3 = some r → r.refuse.any (fun x => decide (x.1 = d) && decide (x.2.1 = 3)) = false → blockDelays s r d 3 = false →
      exec (.badgerDelayEnd d) s = .next (takeAck r d 3 s))
  ∧ (∀ d r x s, s.pwr.rounds.find? (fun r => decide (d ∈ r.domains) && decide (r.start + 1000 * (dom s d).drain ≤ rawNs s)) = some r →
      r.waitingFor.find? (fun x => decide (x.1 = d) && decide (x.2 ≠ 3) && blockDelays s r x.1 x.2) = some x →
      exec (.drainTimeout d) s = .next (abortRound r d x.2 0x01 (updPwr (fun p => { p with drainTimeouts := p.drainTimeouts + 1 }) s)))
  ∧ (∀ d s, (dom s d).trans = .entry .nap → (s.pwr.handover.map (delivered s)).getD true = true → entersNext s d .nap = true → ∃ t, exec (.sleepEntry d) s = .next (settleEntry t)
      ∧ (dom t d).st = .nap ∧ (dom t d).trans = .none ∧ (∀ k, k ≠ d → dom t k = dom s k) ∧ t.pwr.dozeEntries = s.pwr.dozeEntries)
  ∧ (∀ d s, (dom s d).trans = .entry .doze → (s.pwr.handover.map (delivered s)).getD true = true → entersNext s d .doze = true → ∃ t, exec (.sleepEntry d) s = .next (settleEntry t)
      ∧ (dom t d).st = .doze ∧ (dom t d).trans = .none ∧ (dom t d).pswEn = false ∧ (∀ k, k ≠ d → dom t k = dom s k) ∧ t.pwr.dozeEntries = s.pwr.dozeEntries + 1)
  ∧ (∀ d target s, (dom s d).trans = .entry target → entersNext s d target = false → exec (.sleepEntry d) s = .next s)
  ∧ (∀ d s, (dom s d).st = .doze → (dom s d).pswEn = false → (dom s d).trans = .none → (dom s d).lateLogged = false → ∃ t, exec (.pswLate d) s = .next t
      ∧ t.pwr.pswLate = s.pwr.pswLate + 1 ∧ t.pwr.logTotal = s.pwr.logTotal + 1 ∧ (dom t d).lateLogged = true)
  ∧ (∀ d s, d ∈ s.pwr.wakePend → s.pwr.block = .run → (dom s d).trans = .none → s.pwr.rounds.any (fun r => decide (d ∈ r.domains)) = false →
      (dom s d).st = .nap ∨ (dom s d).st = .doze → mayWake s d = true → exec (.wake d) s = .next (leaveSleep d s))
  ∧ (∀ d s s1, d ∈ s.pwr.wakePend → s.pwr.block = .hibernate →
      s1 = { s with pwr := { s.pwr with block := .exiting, ldoLow := false, vcoreMode := true, regRetried := false, blockWake := false } } →
      exec (.wake d) s = .next (if s.pwr.regReady then exitPowered s1 else s1))
  ∧ (∀ d s, d = 65 ∨ d = 66 → (dom s d).st = .doze → (dom s d).stateLost = false → ∃ t, leaveSleep d s = t ∧ (dom t d).trans = .wakePsw ∧ (dom t d).pswEn = true ∧ d ∉ t.pwr.wakePend)
  ∧ (∀ d s, d < 32 → (dom s d).trans = .wakePsw → exec (.pswAck d) s = .next (updDom d (fun x => { x with st := .run, trans := .none }) s))
  ∧ (∀ d s, 32 ≤ d → (dom s d).trans = .wakePsw → (dom s d).stateLost = true → exec (.pswAck d) s = .next (settleExit (wakeFails d 4 s)))
  ∧ (∀ d s s1, 32 ≤ d → (dom s d).trans = .wakePsw → (dom s d).stateLost = false → s1 = (if (dom s d).retried = true then retryWorked d 1 s else s) →
      (s.pwr.block ≠ .exiting → exec (.pswAck d) s = .next (domUp d s1))
      ∧ (s.pwr.block = .exiting → exec (.pswAck d) s = .next (updDom d (fun x => { x with trans := .wakePll, retried := false }) s1)))
  ∧ (∀ s s1, s1 = { s with pwr := { s.pwr with regReady := true } } →
      (s.pwr.block = .exiting → s.pwr.regReady = false → exec .regReady s = .next (exitPowered s1))
      ∧ (s.pwr.block ≠ .exiting ∨ s.pwr.regReady = true → exec .regReady s = .next s1))
  ∧ (∀ s s1 ds, s1 = updPwr (fun p => { p with regRetried := false }) (if s.pwr.regRetried = true then retryWorked 0x7F 3 s else s) →
      ds = (if (dom s 64).st = .doze then [64] else []) ++ s.pwr.wakePend → exitPowered s = settleExit
        ((ds.filter (fun d => decide ((dom s d).st = .doze) && mayWake s d)).foldl (fun s d => if (dom s d).trans = .none then leaveDoze d s else s) s1))
  ∧ (∀ s s1, (dom s 64).trans = .wakePll → pllGood s 64 = true → s1 = domUp 64 (if (dom s 64).retried = true then retryWorked 64 2 s else s) →
      (∀ d, d ∈ sleepers s → d ≠ 64 → (dom s1 d).trans ≠ .wakePll) → (dom s1 64).trans ≠ .wakePll → exec .pllLock s = .next (settleExit s1))
  ∧ (∀ s, (∀ d, d ∈ sleepers s → (dom s d).trans ≠ .wakePll) → (dom s 64).trans ≠ .wakePll → exec .pllLock s = .next (settleExit s))
  ∧ (∀ d s, 32 ≤ d → (dom s d).trans = .wakePsw → (dom s d).retried = false → exec (.wakeTimeout d (.pswAck false)) s = .next (updDom d (fun x => { x with retried := true }) s))
  ∧ (∀ d s, 32 ≤ d → (dom s d).trans = .wakePsw → (dom s d).retried = true → exec (.wakeTimeout d (.pswAck true)) s = .next (settleExit (wakeFails d 1 s)))
  ∧ (∀ d s, s.pwr.block = .exiting → s.pwr.regReady = false → s.pwr.regRetried = true → ∃ t, exec (.wakeTimeout d (.regReady true)) s = .next t ∧ t.pwr.block = .hibernate)
  ∧ (∀ i s, i < 192 → hstAsleep s = true → exec (.owlLatchEdge i) s = .next (fire i s))
  ∧ (∀ i s, hstAsleep s = false → exec (.owlLatchEdge i) s = .next s)
  ∧ (∀ s, (s.pwr.block = .hibernate ∨ s.pwr.block = .entering) → exec .wakeReq s = .next (hptOk 0 (causeWake 65 (causeWake 66 s))))
  ∧ (∀ s, s.pwr.block = .run → exec .wakeReq s = .next (hptOk 0 s))
  ∧ (∀ s, ∃ t, exec .retryFailed s = .next t ∧ t.hpt.rsp = s.hpt.rsp ++ [⟨s.hpt.tag, 0, 0⟩]
      ∧ (∀ d, d ∈ sleepers s → (dom s d).wakeFail = true → (dom s d).stateLost = false → (dom t d).again = true ∧ d ∈ t.pwr.wakePend)
      ∧ (∀ d, d ∉ sleepers s ∨ (dom s d).wakeFail = false ∨ (dom s d).stateLost = true → dom t d = dom s d))

/-- PLLs, retention and brown-out (R33, R68, R398, R480, R482 to R484, R495). -/
def Obligations.SupplyEventsComplete : Prop :=
  (∀ s, s.pwr.vretGood = true → ∃ t, exec .vretLost s = .next t ∧ t.pwr.vretGood = false ∧ (∀ d, d ∈ retained s → (dom t d).stateLost = true))
  ∧ (∀ s, s.pwr.vretGood = true → (∀ r, r ∈ s.pwr.rounds → r.target ≠ .doze) → enteringDoze s = [] → ∃ t, exec .vretLost s = .next t
      ∧ t.pwr.rounds = s.pwr.rounds ∧ (∀ d, d ∉ retained s → dom t d = dom s d))
  ∧ (∀ s, s.pwr.vretGood = false → exec .vretLost s = .next s)
  ∧ (∀ s, exec .vretGoodRestored s = .next { s with pwr := { s.pwr with vretGood := true } })
  ∧ (∀ k p s, s.pwr.block ≠ .hibernate → pairDomains s k ≠ [] → s.pwr.pll.get? k = some p → p.aOk = true → p.bOk = true → p.onB = false →
      exec (.pllFault k false) s = .next (fire 1 (logFault 0x07 0 0xFFFF (pllLost k false s)))
      ∧ ((pllLost k false s).pwr.pll.get? k = some { p with aOk := false, onB := true }) ∧ ∀ d, d ∈ pairDomains s k → (dom (pllLost k false s) d).partner = true)
  ∧ (∀ k pll s, s.pwr.block = .hibernate → exec (.pllFault k pll) s = .next s)
  ∧ (∀ s, s.pwr.ldoLow = true → s.pwr.boTrip = none → ∃ t, exec .brownOut s = .next t
      ∧ t.pwr.ldoLow = false ∧ t.pwr.boPending = true ∧ t.pwr.boCount = min 0xFFFF (s.pwr.boCount + 1) ∧ t.pwr.brownOuts = s.pwr.brownOuts + 1
      ∧ t.pwr.boTrip = some (rawNs s) ∧ t.time.uncertain = true ∧ t.pwr.logTotal = s.pwr.logTotal + 1)
  ∧ (∀ since s, s.pwr.boTrip = some since → ∃ us, us = min 0xFFFFFFFF ((rawNs s - since) / 1000)
      ∧ exec .brownOutEnd s = .next (otdLog 0x11 4 us (updPwr (fun p => { p with boTrip := none, lastBoUs := us }) s)))
  ∧ (∀ s, exec .boAck s = .next (hptOk 0 { s with pwr := { s.pwr with boPending := false } }))

/-- TEST and DIAG commands (R29, R30, R485, R487 to R489, R494 to R498, R503, R507): with no failing check each takes its effect. Badger at work and
the repairs (R340, R487 to R489, R495 to R497, R502): tests in turn, overdue units, windows, copies and rebuilds that end, core faults. -/
def Obligations.TestAndRecoveryComplete : Prop :=
  (∀ e s, inTurn e s = true → cmdVerdict 0x1001 (lenIs 4) (badgerCfgChk e s) e s = none → exec (.badgerCfg e) s = .next (respond e 0x1001 (okV []) { s with badger := { s.badger with
      enabled := bitN (byteAt e.payload 0) 0, isoDiscard := bitN (byteAt e.payload 0) 1, forceLog2 := byteAt e.payload 1, resetLimit := byteAt e.payload 2 } }))
  ∧ (∀ e w s, inTurn e s = true → cmdVerdict 0x1002 (lenIs 8) (badgerWindowChk e s) e s = none → w = ⟨fld e.payload 0 2, fld e.payload 2 2, rawNs s, rawNs s + 1000000 * fld e.payload 4 4⟩ →
      exec (.badgerWindow e) s = .next (respond e 0x1002 (okV []) { s with badger := { s.badger with window := some w } }))
  ∧ (∀ e c us s, inTurn e s = true → cmdVerdict 0x1003 (lenIs 4) (badgerRunChk e s) e s = none → us ≤ 1000000 → exec (.badgerRun e (.done c) us) s = .next (respond e 0x1003
      (okV (leB 1 (if c = 0 then 0 else 1) ++ leB 3 0 ++ leB 4 c ++ leB 4 us)) (testDone (eUnit e) (if c = 0 then 0 else 1) c s)))
  ∧ (∀ e us s, inTurn e s = true → cmdVerdict 0x1003 (lenIs 4) (badgerRunChk e s) e s = none → us ≤ 1000000 → exec (.badgerRun e .fail us) s = .next (respond e 0x1003 (faultV 0)
      (if (unitRt s (eUnit e)).isolated = true then testDone (eUnit e) 2 0 s else testFault (eUnit e) (testDone (eUnit e) 2 0 s))))
  ∧ (∀ e outcome us s, inTurn e s = true → cmdVerdict 0x1003 (lenIs 4) (badgerRunChk e s) e s = none → 1000000 < us → exec (.badgerRun e outcome us) s = .next (respond e 0x1003 (timeoutV 0) s))
  ∧ (∀ e s, inTurn e s = true → cmdVerdict 0x1004 (lenIs 4) (unitChk e s) e s = none → exec (.badgerStatus e) s = .next (respond e 0x1004 (okV (leB 4 (unitWord s (eUnit e))
      ++ leB 8 (unsignedN 64 (unitRt s (eUnit e)).lastNs) ++ leB 4 (unitRt s (eUnit e)).tests ++ leB 4 (unitRt s (eUnit e)).corrected ++ leB 4 (unitRt s (eUnit e)).fails)) s))
  ∧ (∀ e s, inTurn e s = true → cmdVerdict 0x1201 (lenIs 8) (memReadChk e s) e s = none → exec (.memRead e) s = .next (respond e 0x1201
      (okV (memoryLine s (byteAt e.payload 0) (fld e.payload 2 2) (fld e.payload 4 4))) { s with fresh := s.fresh + 1 }))
  ∧ (∀ e s, inTurn e s = true → cmdVerdict 0x1202 (lenIs 4) (errCountersChk e s) e s = none → ∃ t, exec (.errCounters e) s
        = .next (respond e 0x1202 (okV (leB 8 (ctrOf s ⟨.err, eUnit e, 0, 0⟩) ++ leB 8 (ctrOf s ⟨.err, eUnit e, 0, 1⟩))) t)
      ∧ (byteAt e.payload 2 % 2 = 0 → t = s) ∧ (byteAt e.payload 2 % 2 = 1 → ∀ c, ctrOf t c = if c.fam = .err ∧ c.unit = eUnit e then 0 else ctrOf s c))
  ∧ (∀ e l s, inTurn e s = true → cmdVerdict 0x1203 (lenIs 4) {} e s = none → l = (s.badger.log.filter (fun x => decide (fld e.payload 0 4 ≤ x.seq))).take 7 →
      ∃ next, exec (.faultLog e) s = .next (respond e 0x1203 (okV (leB 4 next ++ leB 2 l.length ++ leB 2 0 ++ l.flatMap faultBytes)) s)
        ∧ (l = [] → next = fld e.payload 0 4) ∧ (∀ x, l.getLast? = some x → next = (x.seq + 1) % 2 ^ 32))
  ∧ (∀ e s, inTurn e s = true → cmdVerdict 0x1204 (lenIs 4) (isolateChk e s) e s = none → exec (.isolate e) s = .next (if isolateRefused s (eUnit e) = true
      then respond e 0x1204 (refusedV 1) s else respond e 0x1204 (okV []) (isolateUnit (eUnit e) s)))
  ∧ (∀ e c s, inTurn e s = true → cmdVerdict 0x1205 (lenIs 4) (restoreChk e s) e s = none → exec (.restore e (.done c)) s
      = .next (respond e 0x1205 (okV []) (restoreUnit (eUnit e) (testDone (eUnit e) (if c = 0 then 0 else 1) c s))))
  ∧ (∀ e s, inTurn e s = true → cmdVerdict 0x1205 (lenIs 4) (restoreChk e s) e s = none → exec (.restore e .fail) s = .next (respond e 0x1205 (faultV 0) (testDone (eUnit e) 2 0 s)))
  ∧ (∀ e s, inTurn e s = true → cmdVerdict 0x1205 (lenIs 4) (restoreChk e s) e s = none → exec (.restore e .more) s = .next s)
  ∧ (∀ u s, mayTest s u = true → exec (.badgerSlot u .more) s = .next (updUnit u (fun x => { x with running := true }) s)
      ∧ (∀ c, exec (.badgerSlot u (.done c)) s = .next (testDone u (if c = 0 then 0 else 1) c s))
      ∧ exec (.badgerSlot u .fail) s = .next (testFault u (testDone u 2 0 s)))
  ∧ (∀ u outcome s, mayTest s u = false → exec (.badgerSlot u outcome) s = .next s)
  ∧ (∀ u r c s, ∃ t, t = testDone u r c s ∧ (unitRt t u).tests = (unitRt s u).tests + 1 ∧ (unitRt t u).result = r ∧ (unitRt t u).last = rawNs s
      ∧ (unitRt t u).corrected = (unitRt s u).corrected + c ∧ (unitRt t u).fails = (unitRt s u).fails + (if r = 2 then 1 else 0)
      ∧ ∀ v, v ≠ u → (unitRt t v).tests = (unitRt s v).tests ∧ (unitRt t v).result = (unitRt s v).result)
  ∧ (∀ u s, s.badger.enabled = true → unitHere s u = true → (unitRt s u).isolated = false → unitOverdue s u = true → (unitRt s u).overdue = false →
      exec (.badgerOverdue u) s = .next (fire 177 (updUnit u (fun x => { x with overdue := true }) s)))
  ∧ (∀ w s, s.badger.window = some w → w.until' ≤ rawNs s → exec .badgerWindowEnd s = .next { s with badger := { s.badger with window := none } })
  ∧ (∀ s, s.badger.window = none → exec .badgerWindowEnd s = .next s)
  ∧ (∀ u owner lost s, s.tables.relocating.get? u = some owner → exec (.relocateDone u lost) s = .next (lost.foldl (fun s x => loseLine u owner s x)
      { s with tables := { s.tables with relocating := s.tables.relocating.del u } }))
  ∧ (∀ u s, u ∈ s.badger.rebuilding → ∃ t, exec (.rebuildDone u) s = .next t ∧ t.badger.rebuilding = dropFrom s.badger.rebuilding u ∧ t.cap = s.cap)
  ∧ (∀ sl s, sl < nSlices s → (slice s sl).inReset = none →
      exec (.sliceCoreFault sl) s = .next (resetCore sl (logFault 0x0A 3 (Config.fwChoice 15 s.fresh % 65536) s)))
  ∧ (∀ s l, s.badger.ctlHeld ≠ 2 → l = (s.badger.mismatches.filter (fun t => decide (rawNs s < t + 10000000000))) ++ [rawNs s] → ∃ t, exec .lockstepMismatch s = .next t
      ∧ (l.length < 3 → t = ctlReset (logFault 0x09 4 0xFFFF { s with badger := { s.badger with mismatches := l } }))
      ∧ (3 ≤ l.length → t.boot.err = 2 ∧ t.badger.ctlHeld = 2))
  ∧ (∀ s, s.badger.ctlHeld = 1 → exec .ctlRestartDone s = .next (fire 5 { s with
        boot := { s.boot with ready := true, stage := 0x0F, owed := 0 }
        badger := { s.badger with ctlHeld := 0 } }))
  ∧ (∀ s, s.badger.ctlHeld ≠ 1 → exec .ctlRestartDone s = .next s)
  ∧ (∀ s, ∃ t, exec .controlRamFault s = .next t ∧ t.boot.ready = false ∧ t.badger.ctlHeld = 2)
end

