-- ==== Sys2Proof/Laws/Core.lean ====
section
/-! SUPPORT. The core of the state (build, queue, mailbox command memories, clock) and, for every operation, one lemma that it leaves the core alone. -/

namespace Sys2Proof.Machine

/-- What few commands touch: the build, the queue, the two mailbox command memories and the running time of the clock. -/
def coreOf (s : State) : Build × List Instr × List Host.Cell × List Host.Cell × BitVec 80 × BitVec 96 × BitVec 80 × BitVec 40 :=
  (s.build, s.pending, s.mb.cmd, s.otd.ocmd, s.time.raw, s.time.corr, s.time.offset, s.time.discInc)

@[simp] theorem core_foldl {α : Type} (g : State → α → State) (h : ∀ s a, coreOf (g s a) = coreOf s) (l : List α) (s : State) : coreOf (l.foldl g s) = coreOf s := by
  induction l generalizing s with
  | nil => rfl
  | cons a l ih => rw [List.foldl_cons, ih, h]

@[simp] theorem core_ite (c : Prop) [Decidable c] (a b : State) : coreOf (if c then a else b) = if c then coreOf a else coreOf b := by split <;> rfl

@[simp] theorem core_mk (s : State) {x_mb x_boot x_adm x_quad x_bank0 x_bank1 x_tables x_ports x_slices x_buf x_tm x_gate x_flows x_cap x_eng x_time x_otd x_sez x_hq x_dma x_irq x_pwr x_badger x_ctr x_hpt x_out x_fresh} (h1 : x_mb.cmd = s.mb.cmd) (h2 : x_otd.ocmd = s.otd.ocmd) (h3 : x_time.raw = s.time.raw)
    (h4 : x_time.corr = s.time.corr) (h5 : x_time.offset = s.time.offset) (h6 : x_time.discInc = s.time.discInc) :
    coreOf ⟨s.build, x_mb, x_boot, x_adm, x_quad, x_bank0, x_bank1, x_tables, x_ports, x_slices, x_buf, x_tm, x_gate, x_flows, x_cap, x_eng, x_time, x_otd, x_sez, x_hq, x_dma, x_irq, x_pwr, x_badger, x_ctr, x_hpt, x_out, x_fresh, s.pending⟩ = coreOf s := by
  simp only [coreOf, h1, h2, h3, h4, h5, h6]

@[simp] theorem core_updOtd (f : Otd → Otd) (h : ∀ o, (f o).ocmd = o.ocmd) (s : State) : coreOf (updOtd f s) = coreOf s := by
  simp only [coreOf, updOtd, h]

@[simp] theorem core_updCfg (f : Cfg → Cfg) (s : State) : coreOf (updCfg f s) = coreOf s := by
  unfold updCfg
  try dsimp only
  repeat' split
  all_goals (first | with_reducible rfl | (simp; done))

@[simp] theorem core_tellServo (p : Nat) (transmit : Bool) (stamp : Nat) (data : List Byte) (s : State) : coreOf (tellServo p transmit stamp data s) = coreOf s := by
  unfold tellServo
  try dsimp only
  repeat' split
  all_goals (first | with_reducible rfl | (simp; done))

@[simp] theorem core_updPort (p : Nat) (f : PortRt → PortRt) (s : State) : coreOf (updPort p f s) = coreOf s := by
  unfold updPort
  try dsimp only
  repeat' split
  all_goals (first | with_reducible rfl | (simp; done))

@[simp] theorem core_updSlice (sl : Nat) (f : SliceRt → SliceRt) (s : State) : coreOf (updSlice sl f s) = coreOf s := by
  unfold updSlice
  try dsimp only
  repeat' split
  all_goals (first | with_reducible rfl | (simp; done))

@[simp] theorem core_addCtr (c : Ctr) (n : Nat) (s : State) : coreOf (addCtr c n s) = coreOf s := by
  unfold addCtr
  try dsimp only
  repeat' split
  all_goals (first | with_reducible rfl | (simp; done))

@[simp] theorem core_bump (c : Ctr) (s : State) : coreOf (bump c s) = coreOf s := by
  unfold bump
  try dsimp only
  repeat' split
  all_goals (first | with_reducible rfl | (simp; done))

@[simp] theorem core_clearCtrs (p : Ctr → Bool) (s : State) : coreOf (clearCtrs p s) = coreOf s := by
  unfold clearCtrs
  try dsimp only
  repeat' split
  all_goals (first | with_reducible rfl | (simp; done))

@[simp] theorem core_emit (o : Output) (s : State) : coreOf (emit o s) = coreOf s := by
  unfold emit
  try dsimp only
  repeat' split
  all_goals (first | with_reducible rfl | (simp; done))

@[simp] theorem core_hpiWrite (addr : Nat) (bytes : List Byte) (s : State) : coreOf (hpiWrite addr bytes s) = coreOf s := by
  unfold hpiWrite
  try dsimp only
  repeat' split
  all_goals (first | with_reducible rfl | (simp; done))

@[simp] theorem core_hpiRead (addr n : Nat) (s : State) : coreOf (hpiRead addr n s) = coreOf s := by
  unfold hpiRead
  try dsimp only
  repeat' split
  all_goals (first | with_reducible rfl | (simp; done))

@[simp] theorem core_hptAnswer (status data : Nat) (s : State) : coreOf (hptAnswer status data s) = coreOf s := by
  unfold hptAnswer
  try dsimp only
  repeat' split
  all_goals (first | with_reducible rfl | (simp; done))

@[simp] theorem core_hptOk (data : Nat) (s : State) : coreOf (hptOk data s) = coreOf s := by
  unfold hptOk
  try dsimp only
  repeat' split
  all_goals (first | with_reducible rfl | (simp; done))

@[simp] theorem core_draw (s : State) : coreOf ((draw s).2) = coreOf s := by
  unfold draw
  try dsimp only
  repeat' split
  all_goals (first | with_reducible rfl | (simp; done))

@[simp] theorem core_updDom (d : Nat) (f : Dom → Dom) (s : State) : coreOf (updDom d f s) = coreOf s := by
  unfold updDom
  try dsimp only
  repeat' split
  all_goals (first | with_reducible rfl | (simp; done))

@[simp] theorem core_askWake (d : Nat) (s : State) : coreOf (askWake d s) = coreOf s := by
  unfold askWake
  try dsimp only
  repeat' split
  all_goals (first | with_reducible rfl | (simp; done))

@[simp] theorem core_msgWrite (n : Nat) (s : State) : coreOf (msgWrite n s) = coreOf s := by
  unfold msgWrite
  try dsimp only
  repeat' split
  all_goals (first | with_reducible rfl | (simp; done))

@[simp] theorem core_settleTarget (s : State) (n : Nat) : coreOf (settleTarget s n) = coreOf s := by
  unfold settleTarget
  try dsimp only
  repeat' split
  all_goals (first | with_reducible rfl | (simp; done))

@[simp] theorem core_settle (s : State) : coreOf (settle s) = coreOf s := by
  unfold settle
  try dsimp only
  repeat' split
  all_goals (first | with_reducible rfl | (simp; done))

@[simp] theorem core_fire (i : Nat) (s : State) : coreOf (fire i s) = coreOf s := by
  unfold fire
  try dsimp only
  repeat' split
  all_goals (first | with_reducible rfl | (simp; done))

@[simp] theorem core_sliceCause (sl bit : Nat) (s : State) : coreOf (sliceCause sl bit s) = coreOf s := by
  unfold sliceCause
  try dsimp only
  repeat' split
  all_goals (first | with_reducible rfl | (simp; done))

@[simp] theorem core_linkEvent (p : Nat) (s : State) : coreOf (linkEvent p s) = coreOf s := by
  unfold linkEvent
  try dsimp only
  repeat' split
  all_goals (first | with_reducible rfl | (simp; done))

@[simp] theorem core_updSet (id : Nat) (f : QSet → QSet) (s : State) : coreOf (updSet id f s) = coreOf s := by
  unfold updSet
  try dsimp only
  repeat' split
  all_goals (first | with_reducible rfl | (simp; done))

@[simp] theorem core_ifTurn  (e : Env) (f : State → State) (h : ∀ s, coreOf (f s) = coreOf s) (s : State) : coreOf (ifTurn e f s) = coreOf s := by
  unfold ifTurn
  split
  · exact h s
  · rfl

@[simp] theorem core_respond (e : Env) (op : Nat) (v : Verdict) (s : State) : coreOf (respond e op v s) = coreOf s := by
  unfold respond
  try dsimp only
  repeat' split
  all_goals (first | with_reducible rfl | (simp; done))

@[simp] theorem core_runCmd (op : Nat) (len : Nat → Bool) (chk : Chk) (e : Env) (eff : State → State) (h : ∀ s, coreOf (eff s) = coreOf s) (s : State) : coreOf (runCmd op len chk e eff s) = coreOf s := by
  unfold runCmd
  refine core_ifTurn  _ _ (fun s => ?_) s
  split <;> simp [h]

@[simp] theorem core_runOk (op : Nat) (len : Nat → Bool) (chk : Chk) (e : Env) (data : State → List Byte) (eff : State → State)
    (h : ∀ s, coreOf (eff s) = coreOf s) (s : State) : coreOf (runOk op len chk e data eff s) = coreOf s := by
  unfold runOk
  exact core_runCmd _ _ _ _ _ (fun s => by rw [core_respond, h]) s

@[simp] theorem core_setQueue (id : Nat) (l : List Copy) (s : State) : coreOf (setQueue id l s) = coreOf s := by
  unfold setQueue
  try dsimp only
  repeat' split
  all_goals (first | with_reducible rfl | (simp; done))

@[simp] theorem core_updStored (f : Nat) (g : Stored → Stored) (s : State) : coreOf (updStored f g s) = coreOf s := by
  unfold updStored
  try dsimp only
  repeat' split
  all_goals (first | with_reducible rfl | (simp; done))

@[simp] theorem core_countLoad (p : Nat) (transmit : Bool) (len : Nat) (s : State) : coreOf (countLoad p transmit len s) = coreOf s := by
  unfold countLoad
  try dsimp only
  repeat' split
  all_goals (first | with_reducible rfl | (simp; done))

@[simp] theorem core_meterAs (old : Bool) (p : Nat) (transmit : Bool) (len outcome flow : Nat) (s : State) : coreOf (meterAs old p transmit len outcome flow s) = coreOf s := by
  unfold meterAs
  try dsimp only
  repeat' split
  all_goals (first | with_reducible rfl | (simp; done))

@[simp] theorem core_meterEvent (p : Nat) (transmit : Bool) (len outcome flow : Nat) (s : State) : coreOf (meterEvent p transmit len outcome flow s) = coreOf s := by
  unfold meterEvent
  try dsimp only
  repeat' split
  all_goals (first | with_reducible rfl | (simp; done))

@[simp] theorem core_meterFrame (f : Frame) (outcome flow : Nat) (s : State) : coreOf (meterFrame f outcome flow s) = coreOf s := by
  unfold meterFrame
  try dsimp only
  repeat' split
  all_goals (first | with_reducible rfl | (simp; done))

@[simp] theorem core_flowCount (flow sl idx : Nat) (s : State) : coreOf (flowCount flow sl idx s) = coreOf s := by
  unfold flowCount
  try dsimp only
  repeat' split
  all_goals (first | with_reducible rfl | (simp; done))

@[simp] theorem core_flowEvent (flow cause : Nat) (s : State) : coreOf (flowEvent flow cause s) = coreOf s := by
  unfold flowEvent
  try dsimp only
  repeat' split
  all_goals (first | with_reducible rfl | (simp; done))

@[simp] theorem core_returnCharges (c : Classified) (s : State) : coreOf (returnCharges c s) = coreOf s := by
  unfold returnCharges
  try dsimp only
  repeat' split
  all_goals (first | with_reducible rfl | (simp; done))

@[simp] theorem core_freeCells (cells : List Nat) (s : State) : coreOf (freeCells cells s) = coreOf s := by
  unfold freeCells
  try dsimp only
  repeat' split
  all_goals (first | with_reducible rfl | (simp; done))

@[simp] theorem core_sendPause (p quanta : Nat) (prio : Option Nat) (s : State) : coreOf (sendPause p quanta prio s) = coreOf s := by
  unfold sendPause
  try dsimp only
  repeat' split
  all_goals (first | with_reducible rfl | (simp; done))

@[simp] theorem core_xoffCheck (p prio : Nat) (s : State) : coreOf (xoffCheck p prio s) = coreOf s := by
  unfold xoffCheck
  try dsimp only
  repeat' split
  all_goals (first | with_reducible rfl | (simp; done))

@[simp] theorem core_xonCheck (p prio : Nat) (s : State) : coreOf (xonCheck p prio s) = coreOf s := by
  unfold xonCheck
  try dsimp only
  repeat' split
  all_goals (first | with_reducible rfl | (simp; done))

@[simp] theorem core_releaseFrame (c : Classified) (s : State) : coreOf (releaseFrame c s) = coreOf s := by
  unfold releaseFrame
  try dsimp only
  repeat' split
  all_goals (first | with_reducible rfl | (simp; done))

@[simp] theorem core_txResult (h : HostTx) (status stamp : Nat) (s : State) : coreOf (txResult h status stamp s) = coreOf s := by
  unfold txResult
  try dsimp only
  repeat' split
  all_goals (first | with_reducible rfl | (simp; done))

@[simp] theorem core_txLost (f : Frame) (s : State) : coreOf (txLost f s) = coreOf s := by
  unfold txLost
  try dsimp only
  repeat' split
  all_goals (first | with_reducible rfl | (simp; done))

@[simp] theorem core_txLeft (f : Frame) (stamp : Nat) (s : State) : coreOf (txLeft f stamp s) = coreOf s := by
  unfold txLeft
  try dsimp only
  repeat' split
  all_goals (first | with_reducible rfl | (simp; done))

@[simp] theorem core_freeIfDone (f : Nat) (s : State) : coreOf (freeIfDone f s) = coreOf s := by
  unfold freeIfDone
  try dsimp only
  repeat' split
  all_goals (first | with_reducible rfl | (simp; done))

@[simp] theorem core_copyEnds (f : Nat) (s : State) : coreOf (copyEnds f s) = coreOf s := by
  unfold copyEnds
  try dsimp only
  repeat' split
  all_goals (first | with_reducible rfl | (simp; done))

@[simp] theorem core_pushRecord (sl ring : Nat) (bytes : List Byte) (s : State) : coreOf (pushRecord sl ring bytes s) = coreOf s := by
  unfold pushRecord
  try dsimp only
  repeat' split
  all_goals (first | with_reducible rfl | (simp; done))

theorem core_ruleStep (v : CapEvent) (a : State × List Nat) (rule : Nat) : coreOf (ruleStep v a rule).1 = coreOf a.1 := by
  unfold ruleStep
  dsimp only
  repeat' split
  all_goals simp

@[simp] theorem core_capEvent (v : CapEvent) (s : State) : coreOf (capEvent v s).1 = coreOf s := by
  have h : ∀ (l : List Nat) (a : State × List Nat), coreOf (l.foldl (ruleStep v) a).1 = coreOf a.1 := by
    intro l
    induction l with
    | nil => intro a; rfl
    | cons r l ih => intro a; rw [List.foldl_cons, ih, core_ruleStep]
  exact h _ _

@[simp] theorem core_capDrop (sl reason : Nat) (c : Classified) (out : Option (Nat × Nat)) (s : State) : coreOf (capDrop sl reason c out s) = coreOf s := by
  unfold capDrop
  try dsimp only
  repeat' split
  all_goals (first | with_reducible rfl | (simp; done))

@[simp] theorem core_discardCopy (reason : Nat) (x : Copy) (s : State) : coreOf (discardCopy reason x s) = coreOf s := by
  unfold discardCopy
  try dsimp only
  repeat' split
  all_goals (first | with_reducible rfl | (simp; done))

@[simp] theorem core_flushPort (p : Nat) (s : State) : coreOf (flushPort p s) = coreOf s := by
  unfold flushPort
  try dsimp only
  repeat' split
  all_goals (first | with_reducible rfl | (simp; done))

@[simp] theorem core_putBack (cs : List Copy) (s : State) : coreOf (putBack cs s) = coreOf s := by
  unfold putBack
  exact core_foldl _ (fun s c => by simp) _ _

@[simp] theorem core_pushDone (sl : Nat) (e : DoneEntry) (s : State) : coreOf (pushDone sl e s) = coreOf s := by
  unfold pushDone
  try dsimp only
  repeat' split
  all_goals (first | with_reducible rfl | (simp; done))

@[simp] theorem core_noteEmpty (p : Nat) (s : State) : coreOf (noteEmpty p s) = coreOf s := by
  unfold noteEmpty
  try dsimp only
  repeat' split
  all_goals (first | with_reducible rfl | (simp; done))

@[simp] theorem core_numberFrame (k : Classified) (s : State) : coreOf ((numberFrame k s).2) = coreOf s := by
  unfold numberFrame
  try dsimp only
  repeat' split
  all_goals (first | with_reducible rfl | (simp; done))

@[simp] theorem core_dropAtDownPorts (sl : Nat) (k : Classified) (s : State) : coreOf ((dropAtDownPorts sl k s).2) = coreOf s := by
  unfold dropAtDownPorts
  try dsimp only
  repeat' split
  all_goals (first | with_reducible rfl | (simp; done))

@[simp] theorem core_countRemaps (k : Classified) (s : State) : coreOf (countRemaps k s) = coreOf s := by
  unfold countRemaps
  try dsimp only
  repeat' split
  all_goals (first | with_reducible rfl | (simp; done))

@[simp] theorem core_storeFrame (writing : Bool) (k : Classified) (s : State) : coreOf (storeFrame writing k s) = coreOf s := by
  unfold storeFrame
  try dsimp only
  repeat' split
  all_goals (first | with_reducible rfl | (simp; done))

@[simp] theorem core_admitNow (sl : Nat) (writing : Bool) (k : Classified) (s : State) : coreOf (admitNow sl writing k s) = coreOf s := by
  unfold admitNow
  try dsimp only
  repeat' split
  all_goals (first | with_reducible rfl | (simp; done))

@[simp] theorem core_updGate (p : Nat) (f : GateRt → GateRt) (s : State) : coreOf (updGate p f s) = coreOf s := by
  unfold updGate
  try dsimp only
  repeat' split
  all_goals (first | with_reducible rfl | (simp; done))

@[simp] theorem core_changeLists (p : Nat) (f : GateRt → GateRt) (s : State) : coreOf (changeLists p f s) = coreOf s := by
  unfold changeLists
  try dsimp only
  repeat' split
  all_goals (first | with_reducible rfl | (simp; done))

@[simp] theorem core_setTokens (key : Nat) (t : Tokens) (s : State) : coreOf (setTokens key t s) = coreOf s := by
  unfold setTokens
  try dsimp only
  repeat' split
  all_goals (first | with_reducible rfl | (simp; done))

@[simp] theorem core_settleCredit (p q : Nat) (s : State) : coreOf (settleCredit p q s) = coreOf s := by
  unfold settleCredit
  try dsimp only
  repeat' split
  all_goals (first | with_reducible rfl | (simp; done))

@[simp] theorem core_settleGateCredits (p : Nat) (s : State) : coreOf (settleGateCredits p s) = coreOf s := by
  unfold settleGateCredits
  refine core_foldl _ (fun s q => ?_) _ _
  dsimp only
  repeat' split
  all_goals first | with_reducible rfl | (simp; done)

@[simp] theorem core_updQstat (id : Nat) (f : QStat → QStat) (s : State) : coreOf (updQstat id f s) = coreOf s := by
  unfold updQstat
  try dsimp only
  repeat' split
  all_goals (first | with_reducible rfl | (simp; done))

@[simp] theorem core_freshDeficit (p q : Nat) (s : State) : coreOf (freshDeficit p q s) = coreOf s := by
  unfold freshDeficit
  try dsimp only
  repeat' split
  all_goals (first | with_reducible rfl | (simp; done))

@[simp] theorem core_enqueueCopy (c : Copy) (s : State) : coreOf (enqueueCopy c s) = coreOf s := by
  unfold enqueueCopy
  try dsimp only
  repeat' split
  all_goals (first | with_reducible rfl | (simp; done))

@[simp] theorem core_copyRecords (f sl : Nat) (c : Classified) (s : State) : coreOf ((copyRecords f sl c s).2) = coreOf s := by
  unfold copyRecords
  try dsimp only
  repeat' split
  all_goals (first | with_reducible rfl | (simp; done))

@[simp] theorem core_enqueueMirror (x : Copy) (s : State) : coreOf (enqueueMirror x s) = coreOf s := by
  unfold enqueueMirror
  try dsimp only
  repeat' split
  all_goals (first | with_reducible rfl | (simp; done))

@[simp] theorem core_dropMark (f sl : Nat) (s : State) : coreOf (dropMark f sl s) = coreOf s := by
  unfold dropMark
  try dsimp only
  repeat' split
  all_goals (first | with_reducible rfl | (simp; done))

@[simp] theorem core_releaseMirrors (f sl : Nat) (c : Classified) (s : State) : coreOf (releaseMirrors f sl c s) = coreOf s := by
  unfold releaseMirrors
  try dsimp only
  repeat' split
  all_goals (first | with_reducible rfl | (simp; done))

@[simp] theorem core_releaseHere (sl f : Nat) (s : State) : coreOf (releaseHere sl f s) = coreOf s := by
  unfold releaseHere
  try dsimp only
  repeat' split
  all_goals (first | with_reducible rfl | (simp; done))

@[simp] theorem core_discardHere (sl f : Nat) (s : State) : coreOf (discardHere sl f s) = coreOf s := by
  unfold discardHere
  try dsimp only
  repeat' split
  all_goals (first | with_reducible rfl | (simp; done))

@[simp] theorem core_recCommit (sl flow : Nat) (r : RecStep) (s : State) : coreOf (recCommit sl flow r s) = coreOf s := by
  unfold recCommit
  try dsimp only
  repeat' split
  all_goals (first | with_reducible rfl | (simp; done))

@[simp] theorem core_closeGapOf (sl flow : Nat) (s : State) : coreOf (closeGapOf sl flow s) = coreOf s := by
  unfold closeGapOf
  try dsimp only
  repeat' split
  all_goals (first | with_reducible rfl | (simp; done))

@[simp] theorem core_closeAllOf (sl flow : Nat) (s : State) : coreOf (closeAllOf sl flow s) = coreOf s := by
  unfold closeAllOf
  try dsimp only
  repeat' split
  all_goals (first | with_reducible rfl | (simp; done))

@[simp] theorem core_forceRoom (sl : Nat) (s : State) : coreOf (forceRoom sl s) = coreOf s := by
  unfold forceRoom
  try dsimp only
  repeat' split
  all_goals (first | with_reducible rfl | (simp; done))

@[simp] theorem core_recover (sl flow recHold seq f : Nat) (s : State) : coreOf (recover sl flow recHold seq f s) = coreOf s := by
  unfold recover
  try dsimp only
  repeat' split
  all_goals (first | with_reducible rfl | (simp; done))

@[simp] theorem core_takeHandoff (sl f : Nat) (s : State) : coreOf (takeHandoff sl f s) = coreOf s := by
  unfold takeHandoff
  try dsimp only
  repeat' split
  all_goals (first | with_reducible rfl | (simp; done))

@[simp] theorem core_setView (id : Nat) (s : State) : coreOf (setView id s) = coreOf s := by
  unfold setView
  try dsimp only
  repeat' split
  all_goals (first | with_reducible rfl | (simp; done))

@[simp] theorem core_stageChange (id : Nat) (ch : Change) (s : State) : coreOf (stageChange id ch s) = coreOf s := by
  unfold stageChange
  try dsimp only
  repeat' split
  all_goals (first | with_reducible rfl | (simp; done))

@[simp] theorem core_runStagedV (i : Instr) (op : Nat) (len : Nat → Bool) (claims : List Claim) (table : Bool) (chk : State → Chk) (atStage : State → State) (d : List Byte) (imm : State → State × Verdict) (e : Env) (ha : ∀ s, coreOf (atStage s) = coreOf s) (hi : ∀ s, coreOf (imm s).1 = coreOf s) (s : State) : coreOf (runStagedV i op len claims table chk atStage d imm e s) = coreOf s := by
  unfold runStagedV
  refine core_ifTurn  _ _ (fun s => ?_) s
  repeat' split
  all_goals simp [ha, hi]

@[simp] theorem core_runStaged (i : Instr) (op : Nat) (len : Nat → Bool) (claims : List Claim) (chk : State → Chk) (side : State → State) (e : Env)
    (h : ∀ s, coreOf (side s) = coreOf s) (s : State) : coreOf (runStaged i op len claims chk side e s) = coreOf s := by
  unfold runStaged
  exact core_runStagedV _ _ _ _ _ _ _ _ _ _ (fun _ => rfl) (fun s => by simp [h]) s

@[simp] theorem core_macInsert (x : MacEntry) (s : State) : coreOf (macInsert x s) = coreOf s := by
  unfold macInsert
  try dsimp only
  repeat' split
  all_goals (first | with_reducible rfl | (simp; done))

@[simp] theorem core_macMap (p : MacEntry → Bool) (f : MacEntry → MacEntry) (s : State) : coreOf (macMap p f s) = coreOf s := by
  unfold macMap
  try dsimp only
  repeat' split
  all_goals (first | with_reducible rfl | (simp; done))

@[simp] theorem core_macDrop (p : MacEntry → Bool) (s : State) : coreOf (macDrop p s) = coreOf s := by
  unfold macDrop
  try dsimp only
  repeat' split
  all_goals (first | with_reducible rfl | (simp; done))

@[simp] theorem core_fwdCount (sl i : Nat) (s : State) : coreOf (fwdCount sl i s) = coreOf s := by
  unfold fwdCount
  try dsimp only
  repeat' split
  all_goals (first | with_reducible rfl | (simp; done))

@[simp] theorem core_learnOverflow (s : State) : coreOf (learnOverflow s) = coreOf s := by
  unfold learnOverflow
  try dsimp only
  repeat' split
  all_goals (first | with_reducible rfl | (simp; done))

@[simp] theorem core_macMove (v : LearnEv) (x : MacEntry) (s : State) : coreOf (macMove v x s) = coreOf s := by
  unfold macMove
  try dsimp only
  repeat' split
  all_goals (first | with_reducible rfl | (simp; done))

@[simp] theorem core_applyLearn (v : LearnEv) (s : State) : coreOf (applyLearn v s) = coreOf s := by
  unfold applyLearn
  try dsimp only
  repeat' split
  all_goals (first | with_reducible rfl | (simp; done))

@[simp] theorem core_drainLearn (s : State) : coreOf (drainLearn s) = coreOf s := by
  unfold drainLearn
  try dsimp only
  repeat' split
  all_goals (first | with_reducible rfl | (simp; done))

@[simp] theorem core_flushOnDown (p : Nat) (s : State) : coreOf (flushOnDown p s) = coreOf s := by
  unfold flushOnDown
  try dsimp only
  repeat' split
  all_goals (first | with_reducible rfl | (simp; done))

@[simp] theorem core_rebalance (g : Nat) (s : State) : coreOf (rebalance g s) = coreOf s := by
  unfold rebalance
  try dsimp only
  repeat' split
  all_goals (first | with_reducible rfl | (simp; done))

@[simp] theorem core_rebalancePort (p : Nat) (s : State) : coreOf (rebalancePort p s) = coreOf s := by
  unfold rebalancePort
  try dsimp only
  repeat' split
  all_goals (first | with_reducible rfl | (simp; done))

@[simp] theorem core_recomputeShared (s : State) : coreOf (recomputeShared s) = coreOf s := by
  unfold recomputeShared
  try dsimp only
  repeat' split
  all_goals (first | with_reducible rfl | (simp; done))

@[simp] theorem core_settleHold (p : Nat) (s : State) : coreOf (settleHold p s) = coreOf s := by
  unfold settleHold
  try dsimp only
  repeat' split
  all_goals (first | with_reducible rfl | (simp; done))

@[simp] theorem core_gateFlip (p : Nat) (s : State) : coreOf (gateFlip p s) = coreOf s := by
  unfold gateFlip
  try dsimp only
  repeat' split
  all_goals (first | with_reducible rfl | (simp; done))

@[simp] theorem core_gateArm (p : Nat) (g : GateList) (s : State) : coreOf ((gateArm p g s).1) = coreOf s := by
  unfold gateArm
  try dsimp only
  repeat' split
  all_goals (first | with_reducible rfl | (simp; done))

@[simp] theorem core_gateListSetSide (e : Env) (s : State) : coreOf (gateListSetSide e s) = coreOf s := by
  unfold gateListSetSide
  try dsimp only
  repeat' split
  all_goals (first | with_reducible rfl | (simp; done))

@[simp] theorem core_gateEnableOnSide (e : Env) (s : State) : coreOf (gateEnableOnSide e s) = coreOf s := by
  unfold gateEnableOnSide
  try dsimp only
  repeat' split
  all_goals (first | with_reducible rfl | (simp; done))

@[simp] theorem core_gateEnableOffSide (e : Env) (s : State) : coreOf (gateEnableOffSide e s) = coreOf s := by
  unfold gateEnableOffSide
  try dsimp only
  repeat' split
  all_goals (first | with_reducible rfl | (simp; done))

@[simp] theorem core_cutFragment (p : Nat) (s : State) : coreOf (cutFragment p s) = coreOf s := by
  unfold cutFragment
  try dsimp only
  repeat' split
  all_goals (first | with_reducible rfl | (simp; done))

@[simp] theorem core_flowMinSetSide (_e : Env) (s : State) : coreOf (flowMinSetSide _e s) = coreOf s := by
  unfold flowMinSetSide
  try dsimp only
  repeat' split
  all_goals (first | with_reducible rfl | (simp; done))

@[simp] theorem core_macStageDelete (e : Env) (s : State) : coreOf (macStageDelete e s) = coreOf s := by
  unfold macStageDelete
  try dsimp only
  repeat' split
  all_goals (first | with_reducible rfl | (simp; done))

@[simp] theorem core_macAddNow (e : Env) (s : State) : coreOf (macAddNow e s) = coreOf s := by
  unfold macAddNow
  try dsimp only
  repeat' split
  all_goals (first | with_reducible rfl | (simp; done))

@[simp] theorem core_ageRestart (old new : Nat) (s : State) : coreOf (ageRestart old new s) = coreOf s := by
  unfold ageRestart
  try dsimp only
  repeat' split
  all_goals (first | with_reducible rfl | (simp; done))

@[simp] theorem core_learnCfgGlobalSide (_e : Env) (s : State) : coreOf (learnCfgGlobalSide _e s) = coreOf s := by
  unfold learnCfgGlobalSide
  try dsimp only
  repeat' split
  all_goals (first | with_reducible rfl | (simp; done))

@[simp] theorem core_lagSetSide (e : Env) (s : State) : coreOf (lagSetSide e s) = coreOf s := by
  unfold lagSetSide
  try dsimp only
  repeat' split
  all_goals (first | with_reducible rfl | (simp; done))

@[simp] theorem core_flowContext (f : Nat) (old new : Nat) (s : State) (sl : Nat) : coreOf (flowContext f old new s sl) = coreOf s := by
  unfold flowContext
  try dsimp only
  repeat' split
  all_goals (first | with_reducible rfl | (simp; done))

@[simp] theorem core_flowEnabled (f : Nat) (s : State) : coreOf (flowEnabled f s) = coreOf s := by
  unfold flowEnabled
  try dsimp only
  repeat' split
  all_goals (first | with_reducible rfl | (simp; done))

@[simp] theorem core_mirrorAgain (f : Nat) (x : FlowCfg) (s : State) : coreOf (mirrorAgain f x s) = coreOf s := by
  unfold mirrorAgain
  try dsimp only
  repeat' split
  all_goals (first | with_reducible rfl | (simp; done))

@[simp] theorem core_flowSettle (f : Nat) (old new : Option FlowCfg) (s : State) : coreOf (flowSettle f old new s) = coreOf s := by
  unfold flowSettle
  try dsimp only
  repeat' split
  all_goals (first | with_reducible rfl | (simp; done))

@[simp] theorem core_flowFlip (f : Nat) (s : State) : coreOf (flowFlip f s) = coreOf s := by
  unfold flowFlip
  try dsimp only
  repeat' split
  all_goals (first | with_reducible rfl | (simp; done))

@[simp] theorem core_flowAddSide (e : Env) (s : State) : coreOf (flowAddSide e s) = coreOf s := by
  unfold flowAddSide
  try dsimp only
  repeat' split
  all_goals (first | with_reducible rfl | (simp; done))

@[simp] theorem core_flowModifySide (e : Env) (s : State) : coreOf (flowModifySide e s) = coreOf s := by
  unfold flowModifySide
  try dsimp only
  repeat' split
  all_goals (first | with_reducible rfl | (simp; done))

@[simp] theorem core_flowDeleteSide (e : Env) (s : State) : coreOf (flowDeleteSide e s) = coreOf s := by
  unfold flowDeleteSide
  try dsimp only
  repeat' split
  all_goals (first | with_reducible rfl | (simp; done))

@[simp] theorem core_flowNow (i : Instr) (f : Nat) (s : State) : coreOf (flowNow i f s) = coreOf s := by
  unfold flowNow
  try dsimp only
  repeat' split
  all_goals (first | with_reducible rfl | (simp; done))

@[simp] theorem core_stageKey (f set : Nat) (ins : Option FlowCfg) (s : State) : coreOf (stageKey f set ins s) = coreOf s := by
  unfold stageKey
  try dsimp only
  repeat' split
  all_goals (first | with_reducible rfl | (simp; done))

@[simp] theorem core_flowCountersRead (clear : Bool) (f sl : Nat) (s : State) : coreOf (flowCountersRead clear f sl s) = coreOf s := by
  unfold flowCountersRead
  try dsimp only
  repeat' split
  all_goals (first | with_reducible rfl | (simp; done))

@[simp] theorem core_prpHsrSetSide (e : Env) (s : State) : coreOf (prpHsrSetSide e s) = coreOf s := by
  unfold prpHsrSetSide
  try dsimp only
  repeat' split
  all_goals (first | with_reducible rfl | (simp; done))

@[simp] theorem core_updSez (f : Sezal → Sezal) (s : State) : coreOf (updSez f s) = coreOf s := by
  unfold updSez
  try dsimp only
  repeat' split
  all_goals (first | with_reducible rfl | (simp; done))

@[simp] theorem core_sezBump (i : Nat) (s : State) : coreOf (sezBump i s) = coreOf s := by
  unfold sezBump
  try dsimp only
  repeat' split
  all_goals (first | with_reducible rfl | (simp; done))

@[simp] theorem core_updAdj (p : Nat) (f : Adj → Adj) (s : State) : coreOf (updAdj p f s) = coreOf s := by
  unfold updAdj
  try dsimp only
  repeat' split
  all_goals (first | with_reducible rfl | (simp; done))

@[simp] theorem core_goOutOfStep (set : Nat) (s : State) : coreOf (goOutOfStep set s) = coreOf s := by
  unfold goOutOfStep
  try dsimp only
  repeat' split
  all_goals (first | with_reducible rfl | (simp; done))

@[simp] theorem core_setTimeState (t : TimeSt) (s : State) : coreOf (setTimeState t s) = coreOf s := by
  unfold setTimeState
  try dsimp only
  repeat' split
  all_goals (first | with_reducible rfl | (simp; done))

@[simp] theorem core_sezResolve (s : State) : coreOf (sezResolve s) = coreOf s := by
  unfold sezResolve
  try dsimp only
  repeat' split
  all_goals (first | with_reducible rfl | (simp; done))

@[simp] theorem core_ctlOn (tag p : Nat) (data : List Byte) (s : State) : coreOf (ctlOn tag p data s) = coreOf s := by
  unfold ctlOn
  try dsimp only
  repeat' split
  all_goals (first | with_reducible rfl | (simp; done))

@[simp] theorem core_takeSeq (s : State) : coreOf ((takeSeq s).2) = coreOf s := by
  unfold takeSeq
  try dsimp only
  repeat' split
  all_goals (first | with_reducible rfl | (simp; done))

@[simp] theorem core_sendLocal (tag p msg : Nat) (body : List Byte) (s : State) : coreOf (sendLocal tag p msg body s) = coreOf s := by
  unfold sendLocal
  try dsimp only
  repeat' split
  all_goals (first | with_reducible rfl | (simp; done))

@[simp] theorem core_flood (msg : Nat) (body : List Byte) (s : State) : coreOf (flood msg body s) = coreOf s := by
  unfold flood
  try dsimp only
  repeat' split
  all_goals (first | with_reducible rfl | (simp; done))

@[simp] theorem core_forwardFlood (p : Nat) (data : List Byte) (s : State) : coreOf (forwardFlood p data s) = coreOf s := by
  unfold forwardFlood
  try dsimp only
  repeat' split
  all_goals (first | with_reducible rfl | (simp; done))

@[simp] theorem core_sendToward (dst : Nat) (data : List Byte) (s : State) : coreOf (sendToward dst data s) = coreOf s := by
  unfold sendToward
  try dsimp only
  repeat' split
  all_goals (first | with_reducible rfl | (simp; done))

@[simp] theorem core_sendDirected (dst msg : Nat) (body : List Byte) (s : State) : coreOf (sendDirected dst msg body s) = coreOf s := by
  unfold sendDirected
  try dsimp only
  repeat' split
  all_goals (first | with_reducible rfl | (simp; done))

@[simp] theorem core_floodOutcome (set result culprit : Nat) (s : State) : coreOf (floodOutcome set result culprit s) = coreOf s := by
  unfold floodOutcome
  try dsimp only
  repeat' split
  all_goals (first | with_reducible rfl | (simp; done))

@[simp] theorem core_cancelVote (set : Nat) (s : State) : coreOf (cancelVote set s) = coreOf s := by
  unfold cancelVote
  try dsimp only
  repeat' split
  all_goals (first | with_reducible rfl | (simp; done))

@[simp] theorem core_leaveDomain (p : Nat) (s : State) : coreOf (leaveDomain p s) = coreOf s := by
  unfold leaveDomain
  try dsimp only
  repeat' split
  all_goals (first | with_reducible rfl | (simp; done))

@[simp] theorem core_domainPortSetSide (e : Env) (s : State) : coreOf (domainPortSetSide e s) = coreOf s := by
  unfold domainPortSetSide
  try dsimp only
  repeat' split
  all_goals (first | with_reducible rfl | (simp; done))

@[simp] theorem core_recordDone (p : Nat) (done : Bool) (t : TxCur) (c : Copy) (s : State) : coreOf (recordDone p done t c s) = coreOf s := by
  unfold recordDone
  try dsimp only
  repeat' split
  all_goals (first | with_reducible rfl | (simp; done))

@[simp] theorem core_capTransmit (p reason : Nat) (t : TxCur) (c : Copy) (s : State) : coreOf (capTransmit p reason t c s) = coreOf s := by
  unfold capTransmit
  try dsimp only
  repeat' split
  all_goals (first | with_reducible rfl | (simp; done))

@[simp] theorem core_loseHint (p : Nat) (t : TxCur) (s : State) : coreOf (loseHint p t s) = coreOf s := by
  unfold loseHint
  try dsimp only
  repeat' split
  all_goals (first | with_reducible rfl | (simp; done))

@[simp] theorem core_countPred (p : Nat) (t : TxCur) (s : State) : coreOf (countPred p t s) = coreOf s := by
  unfold countPred
  try dsimp only
  repeat' split
  all_goals (first | with_reducible rfl | (simp; done))

@[simp] theorem core_stompItem (p : Nat) (t : TxCur) (s : State) : coreOf (stompItem p t s) = coreOf s := by
  unfold stompItem
  try dsimp only
  repeat' split
  all_goals (first | with_reducible rfl | (simp; done))

@[simp] theorem core_stompPort (p : Nat) (s : State) : coreOf (stompPort p s) = coreOf s := by
  unfold stompPort
  try dsimp only
  repeat' split
  all_goals (first | with_reducible rfl | (simp; done))

@[simp] theorem core_countResent (c : Copy) (s : State) : coreOf (countResent c s) = coreOf s := by
  unfold countResent
  try dsimp only
  repeat' split
  all_goals (first | with_reducible rfl | (simp; done))

@[simp] theorem core_dropInFlight (sl : Nat) (cs : List Copy) (s : State) : coreOf (dropInFlight sl cs s) = coreOf s := by
  unfold dropInFlight
  try dsimp only
  repeat' split
  all_goals (first | with_reducible rfl | (simp; done))

@[simp] theorem core_endLpi (p : Nat) (s : State) : coreOf (endLpi p s) = coreOf s := by
  unfold endLpi
  try dsimp only
  repeat' split
  all_goals (first | with_reducible rfl | (simp; done))

@[simp] theorem core_stopTransmit (p : Nat) (s : State) : coreOf (stopTransmit p s) = coreOf s := by
  unfold stopTransmit
  try dsimp only
  repeat' split
  all_goals (first | with_reducible rfl | (simp; done))

@[simp] theorem core_flushAll (p : Nat) (s : State) : coreOf (flushAll p s) = coreOf s := by
  unfold flushAll
  try dsimp only
  repeat' split
  all_goals (first | with_reducible rfl | (simp; done))

@[simp] theorem core_linkWake (p : Nat) (s : State) : coreOf (linkWake p s) = coreOf s := by
  unfold linkWake
  try dsimp only
  repeat' split
  all_goals (first | with_reducible rfl | (simp; done))

@[simp] theorem core_enterHeld (p : Nat) (s : State) : coreOf (enterHeld p s) = coreOf s := by
  unfold enterHeld
  try dsimp only
  repeat' split
  all_goals (first | with_reducible rfl | (simp; done))

@[simp] theorem core_enterComingUp (p : Nat) (s : State) : coreOf (enterComingUp p s) = coreOf s := by
  unfold enterComingUp
  try dsimp only
  repeat' split
  all_goals (first | with_reducible rfl | (simp; done))

@[simp] theorem core_takeBanks (id n : Nat) (s : State) (c : Nat) : coreOf (takeBanks id n s c) = coreOf s := by
  unfold takeBanks
  try dsimp only
  repeat' split
  all_goals (first | with_reducible rfl | (simp; done))

@[simp] theorem core_updTable (id : Nat) (f : Table → Table) (s : State) : coreOf (updTable id f s) = coreOf s := by
  unfold updTable
  try dsimp only
  repeat' split
  all_goals (first | with_reducible rfl | (simp; done))

@[simp] theorem core_entryStage (id setId : Nat) (x : Entry) (s : State) : coreOf (entryStage id setId x s) = coreOf s := by
  unfold entryStage
  try dsimp only
  repeat' split
  all_goals (first | with_reducible rfl | (simp; done))

@[simp] theorem core_logFaultAt (code action unit addr : Nat) (s : State) : coreOf (logFaultAt code action unit addr s) = coreOf s := by
  unfold logFaultAt
  try dsimp only
  repeat' split
  all_goals (first | with_reducible rfl | (simp; done))

@[simp] theorem core_logFault (code action unit : Nat) (s : State) : coreOf (logFault code action unit s) = coreOf s := by
  unfold logFault
  try dsimp only
  repeat' split
  all_goals (first | with_reducible rfl | (simp; done))

@[simp] theorem core_updUnit (u : Nat) (f : UnitRt → UnitRt) (s : State) : coreOf (updUnit u f s) = coreOf s := by
  unfold updUnit
  try dsimp only
  repeat' split
  all_goals (first | with_reducible rfl | (simp; done))

@[simp] theorem core_isolateCluster (u : Nat) (s : State) : coreOf (isolateCluster u s) = coreOf s := by
  unfold isolateCluster
  try dsimp only
  repeat' split
  all_goals (first | with_reducible rfl | (simp; done))

@[simp] theorem core_isolateUnit (u : Nat) (s : State) : coreOf (isolateUnit u s) = coreOf s := by
  unfold isolateUnit
  try dsimp only
  repeat' split
  all_goals (first | with_reducible rfl | (simp; done))

@[simp] theorem core_updEngine (g : Nat) (f : EngineRt → EngineRt) (s : State) : coreOf (updEngine g f s) = coreOf s := by
  unfold updEngine
  try dsimp only
  repeat' split
  all_goals (first | with_reducible rfl | (simp; done))

@[simp] theorem core_countCorrected (u : Nat) (s : State) : coreOf (countCorrected u s) = coreOf s := by
  unfold countCorrected
  try dsimp only
  repeat' split
  all_goals (first | with_reducible rfl | (simp; done))

@[simp] theorem core_bankFault (u : Nat) (s : State) : coreOf (bankFault u s) = coreOf s := by
  unfold bankFault
  try dsimp only
  repeat' split
  all_goals (first | with_reducible rfl | (simp; done))

@[simp] theorem core_memFault (u : Nat) (s : State) : coreOf (memFault u s) = coreOf s := by
  unfold memFault
  try dsimp only
  repeat' split
  all_goals (first | with_reducible rfl | (simp; done))

@[simp] theorem core_memErrors (corrected bad : List Nat) (s : State) : coreOf (memErrors corrected bad s) = coreOf s := by
  unfold memErrors
  try dsimp only
  repeat' split
  all_goals (first | with_reducible rfl | (simp; done))

@[simp] theorem core_returnPacing (s : State) (p : Nat) : coreOf (returnPacing s p) = coreOf s := by
  unfold returnPacing
  try dsimp only
  repeat' split
  all_goals (first | with_reducible rfl | (simp; done))

@[simp] theorem core_resetEngine (g cause : Nat) (s : State) : coreOf (resetEngine g cause s) = coreOf s := by
  unfold resetEngine
  try dsimp only
  repeat' split
  all_goals (first | with_reducible rfl | (simp; done))

@[simp] theorem core_countReset (g : Nat) (s : State) : coreOf (countReset g s) = coreOf s := by
  unfold countReset
  try dsimp only
  repeat' split
  all_goals (first | with_reducible rfl | (simp; done))

@[simp] theorem core_scratchFault (g n : Nat) (s : State) : coreOf (scratchFault g n s) = coreOf s := by
  unfold scratchFault
  try dsimp only
  repeat' split
  all_goals (first | with_reducible rfl | (simp; done))

@[simp] theorem core_runPass (x : PassIn) (s : State) : coreOf ((runPass x s).1) = coreOf s := by
  unfold runPass
  try dsimp only
  repeat' split
  all_goals (first | with_reducible rfl | (simp; done))

@[simp] theorem core_portReshaped (p : Nat) (old new : Option PortCfg) (s : State) : coreOf (portReshaped p old new s) = coreOf s := by
  unfold portReshaped
  try dsimp only
  repeat' split
  all_goals (first | with_reducible rfl | (simp; done))

@[simp] theorem core_portCfgSide (e : Env) (s : State) : coreOf (portCfgSide e s) = coreOf s := by
  unfold portCfgSide
  try dsimp only
  repeat' split
  all_goals (first | with_reducible rfl | (simp; done))

@[simp] theorem core_adminUp (p : Nat) (s : State) : coreOf (adminUp p s) = coreOf s := by
  unfold adminUp
  try dsimp only
  repeat' split
  all_goals (first | with_reducible rfl | (simp; done))

@[simp] theorem core_adminDown (p : Nat) (s : State) : coreOf (adminDown p s) = coreOf s := by
  unfold adminDown
  try dsimp only
  repeat' split
  all_goals (first | with_reducible rfl | (simp; done))

@[simp] theorem core_portCountersRead (scope id : Nat) (clear : Bool) (s : State) : coreOf (portCountersRead scope id clear s) = coreOf s := by
  unfold portCountersRead
  try dsimp only
  repeat' split
  all_goals (first | with_reducible rfl | (simp; done))

@[simp] theorem core_fcChanged (p : Nat) (old new : Nat) (s : State) : coreOf (fcChanged p old new s) = coreOf s := by
  unfold fcChanged
  try dsimp only
  repeat' split
  all_goals (first | with_reducible rfl | (simp; done))

@[simp] theorem core_portFcSide (e : Env) (s : State) : coreOf (portFcSide e s) = coreOf s := by
  unfold portFcSide
  try dsimp only
  repeat' split
  all_goals (first | with_reducible rfl | (simp; done))

@[simp] theorem core_preemptChanged (p : Nat) (old new : PreCfg) (s : State) : coreOf (preemptChanged p old new s) = coreOf s := by
  unfold preemptChanged
  try dsimp only
  repeat' split
  all_goals (first | with_reducible rfl | (simp; done))

@[simp] theorem core_portPreemptSide (e : Env) (s : State) : coreOf (portPreemptSide e s) = coreOf s := by
  unfold portPreemptSide
  try dsimp only
  repeat' split
  all_goals (first | with_reducible rfl | (simp; done))

@[simp] theorem core_pauseKey (p k quanta : Nat) (s : State) : coreOf (pauseKey p k quanta s) = coreOf s := by
  unfold pauseKey
  try dsimp only
  repeat' split
  all_goals (first | with_reducible rfl | (simp; done))

@[simp] theorem core_actPause (p : Nat) (data : List Byte) (s : State) : coreOf (actPause p data s) = coreOf s := by
  unfold actPause
  try dsimp only
  repeat' split
  all_goals (first | with_reducible rfl | (simp; done))

@[simp] theorem core_actPfc (p : Nat) (data : List Byte) (s : State) : coreOf (actPfc p data s) = coreOf s := by
  unfold actPfc
  try dsimp only
  repeat' split
  all_goals (first | with_reducible rfl | (simp; done))

@[simp] theorem core_raiseCtr (c : Ctr) (v : Nat) (s : State) : coreOf (raiseCtr c v s) = coreOf s := by
  unfold raiseCtr
  try dsimp only
  repeat' split
  all_goals (first | with_reducible rfl | (simp; done))

@[simp] theorem core_meterLost (f : Frame) (s : State) : coreOf (meterLost f s) = coreOf s := by
  unfold meterLost
  try dsimp only
  repeat' split
  all_goals (first | with_reducible rfl | (simp; done))

@[simp] theorem core_toDen (f : Frame) (s : State) : coreOf (toDen f s) = coreOf s := by
  unfold toDen
  try dsimp only
  repeat' split
  all_goals (first | with_reducible rfl | (simp; done))

@[simp] theorem core_toIngress (f : Frame) (s : State) : coreOf (toIngress f s) = coreOf s := by
  unfold toIngress
  try dsimp only
  repeat' split
  all_goals (first | with_reducible rfl | (simp; done))

@[simp] theorem core_passOn (f : Frame) (s : State) : coreOf (passOn f s) = coreOf s := by
  unfold passOn
  try dsimp only
  repeat' split
  all_goals (first | with_reducible rfl | (simp; done))

@[simp] theorem core_leaveLpi (p : Nat) (s : State) : coreOf (leaveLpi p s) = coreOf s := by
  unfold leaveLpi
  try dsimp only
  repeat' split
  all_goals (first | with_reducible rfl | (simp; done))

@[simp] theorem core_sendVerify (p tag : Nat) (s : State) : coreOf (sendVerify p tag s) = coreOf s := by
  unfold sendVerify
  try dsimp only
  repeat' split
  all_goals (first | with_reducible rfl | (simp; done))

@[simp] theorem core_countParse (sl : Nat) (r : ParseRes) (s : State) : coreOf (countParse sl r s) = coreOf s := by
  unfold countParse
  try dsimp only
  repeat' split
  all_goals (first | with_reducible rfl | (simp; done))

@[simp] theorem core_meterRx (f : Frame) (flow : Nat) (s : State) : coreOf (meterRx f flow s) = coreOf s := by
  unfold meterRx
  try dsimp only
  repeat' split
  all_goals (first | with_reducible rfl | (simp; done))

@[simp] theorem core_meterDomain (f : Frame) (s : State) : coreOf (meterDomain f s) = coreOf s := by
  unfold meterDomain
  try dsimp only
  repeat' split
  all_goals (first | with_reducible rfl | (simp; done))

@[simp] theorem core_preDrop (sl : Nat) (reason : Option Nat) (c : Classified) (s : State) : coreOf (preDrop sl reason c s) = coreOf s := by
  unfold preDrop
  try dsimp only
  repeat' split
  all_goals (first | with_reducible rfl | (simp; done))

@[simp] theorem core_sezCount (i : Nat) (s : State) : coreOf (sezCount i s) = coreOf s := by
  unfold sezCount
  try dsimp only
  repeat' split
  all_goals (first | with_reducible rfl | (simp; done))

@[simp] theorem core_policeFrame (sl idx : Nat) (f : Frame) (data : List Byte) (hs : List Hdr) (s : State) : coreOf ((policeFrame sl idx f data hs s).1) = coreOf s := by
  unfold policeFrame
  try dsimp only
  repeat' split
  all_goals (first | with_reducible rfl | (simp; done))

@[simp] theorem core_filterFrame (c : Cfg) (sl flow : Nat) (f : Frame) (data : List Byte) (hs : List Hdr) (s : State) : coreOf ((filterFrame c sl flow f data hs s).1) = coreOf s := by
  unfold filterFrame
  try dsimp only
  repeat' split
  all_goals (first | with_reducible rfl | (simp; done))

@[simp] theorem core_nodeIn (n : Nat × PrpNode) (f : Frame) (s : State) : coreOf ((nodeIn n f s).2) = coreOf s := by
  unfold nodeIn
  try dsimp only
  repeat' split
  all_goals (first | with_reducible rfl | (simp; done))

@[simp] theorem core_learnSa (c : Cfg) (sl : Nat) (f : Frame) (raw : List Byte) (v : Vlan) (s : State) : coreOf ((learnSa c sl f raw v s).2) = coreOf s := by
  unfold learnSa
  try dsimp only
  repeat' split
  all_goals (first | with_reducible rfl | (simp; done))

@[simp] theorem core_decide' (sl : Nat) (x : FwdIn) (m : List Word) (s : State) : coreOf ((decide' sl x m s).2.2) = coreOf s := by
  unfold decide'
  dsimp only
  repeat' split
  all_goals first
    | simp; done
    | (rename_i h; have h' := congrArg (fun x => coreOf x.2) h; simpa  using h'.symm)

@[simp] theorem core_capIngress (sl : Nat) (k : Classified) (s : State) : coreOf ((capIngress sl k s).2) = coreOf s := by
  unfold capIngress
  try dsimp only
  repeat' split
  all_goals (first | with_reducible rfl | (simp; done))

@[simp] theorem core_sendOn (sl : Nat) (k : Classified) (s : State) : coreOf (sendOn sl k s) = coreOf s := by
  unfold sendOn
  try dsimp only
  repeat' split
  all_goals (first | with_reducible rfl | (simp; done))

@[simp] theorem core_forward (sl : Nat) (k : Classified) (tag : Option Nat) (raw : List Byte) (orig : List Hdr) (s : State) : coreOf (forward sl k tag raw orig s) = coreOf s := by
  unfold forward
  try dsimp only
  repeat' split
  all_goals (first | with_reducible rfl | (simp; done))

@[simp] theorem core_admitChecks (sl : Nat) (k : Classified) (tag : Option Nat) (orig : ParseRes) (raw : List Byte) (s : State) :
    coreOf (admitChecks sl k tag orig raw s) = coreOf s := by
  unfold admitChecks
  dsimp only
  repeat' split
  all_goals first
    | simp; done
    | (rename_i h; have h' := congrArg (fun x => coreOf x.1) h; simp at h' ⊢; exact h'.symm)
    | (rename_i h _; have h' := congrArg (fun x => coreOf x.1) h; simp at h' ⊢; exact h'.symm)
    | (rename_i h _ _; have h' := congrArg (fun x => coreOf x.1) h; simp at h' ⊢; exact h'.symm)

@[simp] theorem core_beforeE1 (sl : Nat) (faults : LookupFaults) (f : Frame) (parse : ParseRes) (s : State) : coreOf ((beforeE1 sl faults f parse s).1) = coreOf s := by
  unfold beforeE1
  try dsimp only
  repeat' split
  all_goals (first | with_reducible rfl | (simp; done))

@[simp] theorem core_throughE1 (sl : Nat) (f : Frame) (parse : ParseRes) (x : AtE1) (s : State) : coreOf (throughE1 sl f parse x s) = coreOf s := by
  unfold throughE1
  try dsimp only
  repeat' split
  all_goals (first | with_reducible rfl | (simp; done))

@[simp] theorem core_lostInEngine (g : Nat) (f : Frame) (parse : ParseRes) (s : State) : coreOf (lostInEngine g f parse s) = coreOf s := by
  unfold lostInEngine
  dsimp only
  repeat' split
  all_goals first
    | (simp; done)
    | (rename_i h; have h' := congrArg (fun x => coreOf x.1) h; simp at h' ⊢; first | exact h'.symm | (rw [← h']))
    | (rename_i h _; have h' := congrArg (fun x => coreOf x.1) h; simp at h' ⊢; first | exact h'.symm | (rw [← h']))
    | (rename_i h _ _; have h' := congrArg (fun x => coreOf x.1) h; simp at h' ⊢; first | exact h'.symm | (rw [← h']))

@[simp] theorem core_classifyFrame (sl : Nat) (lost : Option Nat) (faults : LookupFaults) (f : Frame) (s : State) : coreOf (classifyFrame sl lost faults f s) = coreOf s := by
  unfold classifyFrame
  dsimp only
  repeat' split
  all_goals first
    | (simp; done)
    | (rename_i h; have h' := congrArg (fun x => coreOf x.1) h; simp at h' ⊢; first | exact h'.symm | (rw [← h']))
    | (rename_i h _; have h' := congrArg (fun x => coreOf x.1) h; simp at h' ⊢; first | exact h'.symm | (rw [← h']))
    | (rename_i h _ _; have h' := congrArg (fun x => coreOf x.1) h; simp at h' ⊢; first | exact h'.symm | (rw [← h']))

@[simp] theorem core_loseInEngine (g : Nat) (s : State) : coreOf (loseInEngine g s) = coreOf s := by
  unfold loseInEngine
  try dsimp only
  repeat' split
  all_goals (first | with_reducible rfl | (simp; done))

@[simp] theorem core_engineFault (g : Nat) (fault : EngineFault) (s : State) : coreOf (engineFault g fault s) = coreOf s := by
  unfold engineFault
  try dsimp only
  repeat' split
  all_goals (first | with_reducible rfl | (simp; done))

theorem core_chargeCell {k k1 : Classified} {s t : State} (h : chargeCell k s = some (k1, t)) : coreOf t = coreOf s := by
  unfold chargeCell at h
  dsimp only at h
  repeat' split at h
  all_goals first
    | (simp only [Option.some.injEq, Prod.mk.injEq] at h; rw [← h.2]; simp; done)
    | (simp at h; done)

@[simp] theorem core_cacheNext (b : Nat) (s : State) : coreOf (cacheNext b s) = coreOf s := by
  unfold cacheNext
  try dsimp only
  repeat' split
  all_goals (first | with_reducible rfl | (simp; done))

@[simp] theorem core_refillCache (b : Nat) (s : State) : coreOf (refillCache b s) = coreOf s := by
  unfold refillCache
  try dsimp only
  repeat' split
  all_goals (first | with_reducible rfl | (simp; done))

theorem core_takeFrom {b a : Nat} {s t : State} (h : takeFrom b s = some (a, t)) : coreOf t = coreOf s := by
  unfold takeFrom at h
  dsimp only at h
  split at h
  · simp at h
  · simp only [Option.some.injEq, Prod.mk.injEq] at h
    rw [← h.2]
    simp 

theorem core_takeCell {sl g a : Nat} {k : BankClock} {s t : State} (h : takeCell sl g k s = .taken a t) : coreOf t = coreOf s := by
  unfold takeCell at h
  dsimp only at h
  split at h
  · simp at h
  · split at h
    · rename_i r hr
      obtain ⟨b, _, hb⟩ := List.exists_of_findSome?_eq_some hr
      simp only [CellAt.taken.injEq] at h
      rw [← h.2]
      exact core_takeFrom (a := r.1) (by rw [hb])
    · simp at h

@[simp] theorem core_putCell (c : Nat) (bytes : List Byte) (s : State) : coreOf (putCell c bytes s) = coreOf s := by
  unfold putCell
  try dsimp only
  repeat' split
  all_goals (first | with_reducible rfl | (simp; done))

theorem core_writeCell {sl : Nat} {banks : BankClock} {k k1 : Classified} {s t : State} (h : writeCell sl banks k s = .placed k1 t) : coreOf t = coreOf s := by
  unfold writeCell at h
  dsimp only at h
  split at h
  · split at h
    · cases h
    · rename_i hc
      rw [Option.bind_eq_some_iff] at hc
      obtain ⟨⟨k2, s2⟩, hc1, hc2⟩ := hc
      split at h
      · cases h
      · cases h
      · rename_i ha
        split at h
        · cases h
        · cases h
        · rename_i hb
          simp only [CellOut.placed.injEq] at h
          rw [← h.2, core_putCell, core_putCell, core_takeCell hb, core_takeCell ha, core_chargeCell hc2, core_chargeCell hc1]
  · split at h
    · cases h
    · rename_i hc
      split at h
      · cases h
      · cases h
      · rename_i ha
        simp only [CellOut.placed.injEq] at h
        rw [← h.2, core_putCell, core_takeCell ha, core_chargeCell hc]

@[simp] theorem core_countIngress (k : Classified) (s : State) : coreOf (countIngress k s) = coreOf s := by
  unfold countIngress
  try dsimp only
  repeat' split
  all_goals (first | with_reducible rfl | (simp; done))

@[simp] theorem core_abandonCut (f : Nat) (k : Classified) (s : State) : coreOf (abandonCut f k s) = coreOf s := by
  unfold abandonCut
  try dsimp only
  repeat' split
  all_goals (first | with_reducible rfl | (simp; done))

@[simp] theorem core_refuseFrame (sl reason : Nat) (k : Classified) (s : State) : coreOf (refuseFrame sl reason k s) = coreOf s := by
  unfold refuseFrame
  try dsimp only
  repeat' split
  all_goals (first | with_reducible rfl | (simp; done))

@[simp] theorem core_noteCells (k : Classified) (done : Bool) (s : State) : coreOf (noteCells k done s) = coreOf s := by
  unfold noteCells
  try dsimp only
  repeat' split
  all_goals (first | with_reducible rfl | (simp; done))

@[simp] theorem core_loseContext (bad : List Nat) (flow : Nat) (s : State) : coreOf (loseContext bad flow s) = coreOf s := by
  unfold loseContext
  try dsimp only
  repeat' split
  all_goals (first | with_reducible rfl | (simp; done))

@[simp] theorem core_updSq (n : Nat) (f : SubQ → SubQ) (s : State) : coreOf (updSq n f s) = coreOf s := by
  unfold updSq
  try dsimp only
  repeat' split
  all_goals (first | with_reducible rfl | (simp; done))

@[simp] theorem core_updWork (n pos : Nat) (f : Work → Work) (s : State) : coreOf (updWork n pos f s) = coreOf s := by
  unfold updWork
  try dsimp only
  repeat' split
  all_goals (first | with_reducible rfl | (simp; done))

@[simp] theorem core_updPool (id : Nat) (f : KMap Nat PoolBuf → KMap Nat PoolBuf) (s : State) : coreOf (updPool id f s) = coreOf s := by
  unfold updPool
  try dsimp only
  repeat' split
  all_goals (first | with_reducible rfl | (simp; done))

@[simp] theorem core_setPool (id : Nat) (x : Pool) (s : State) : coreOf (setPool id x s) = coreOf s := by
  unfold setPool
  try dsimp only
  repeat' split
  all_goals (first | with_reducible rfl | (simp; done))

@[simp] theorem core_poolNext (id : Nat) (s : State) : coreOf (poolNext id s) = coreOf s := by
  unfold poolNext
  try dsimp only
  repeat' split
  all_goals (first | with_reducible rfl | (simp; done))

@[simp] theorem core_poolRefill (id : Nat) (s : State) : coreOf (poolRefill id s) = coreOf s := by
  unfold poolRefill
  try dsimp only
  repeat' split
  all_goals (first | with_reducible rfl | (simp; done))

@[simp] theorem core_poolAlloc (id req : Nat) (s : State) : coreOf ((poolAlloc id req s).getD (0, s)).2 = coreOf s := by
  unfold poolAlloc
  dsimp only
  repeat' split
  all_goals simp 

theorem core_poolAlloc_some {id req i : Nat} {s t : State} (h : poolAlloc id req s = some (i, t)) : coreOf t = coreOf s := by
  have h1 := core_poolAlloc id req s
  rw [h] at h1
  exact h1

@[simp] theorem core_poolFree (id i : Nat) (s : State) : coreOf (poolFree id i s) = coreOf s := by
  unfold poolFree
  try dsimp only
  repeat' split
  all_goals (first | with_reducible rfl | (simp; done))

@[simp] theorem core_noteRound (id n k : Nat) (same : Bool) (s : State) : coreOf (noteRound id n k same s) = coreOf s := by
  unfold noteRound
  try dsimp only
  repeat' split
  all_goals (first | with_reducible rfl | (simp; done))

@[simp] theorem core_poolEmpty (id : Nat) (s : State) : coreOf (poolEmpty id s) = coreOf s := by
  unfold poolEmpty
  try dsimp only
  repeat' split
  all_goals (first | with_reducible rfl | (simp; done))

@[simp] theorem core_resetDeficits (p : Nat) (old new : Sched) (s : State) : coreOf (resetDeficits p old new s) = coreOf s := by
  unfold resetDeficits
  try dsimp only
  repeat' split
  all_goals (first | with_reducible rfl | (simp; done))

@[simp] theorem core_schedSetSide (e : Env) (s : State) : coreOf (schedSetSide e s) = coreOf s := by
  unfold schedSetSide
  try dsimp only
  repeat' split
  all_goals (first | with_reducible rfl | (simp; done))

@[simp] theorem core_shaperSetSide (e : Env) (s : State) : coreOf (shaperSetSide e s) = coreOf s := by
  unfold shaperSetSide
  try dsimp only
  repeat' split
  all_goals (first | with_reducible rfl | (simp; done))

@[simp] theorem core_policerSetSide (e : Env) (s : State) : coreOf (policerSetSide e s) = coreOf s := by
  unfold policerSetSide
  try dsimp only
  repeat' split
  all_goals (first | with_reducible rfl | (simp; done))

@[simp] theorem core_streamFilterSetSide (e : Env) (s : State) : coreOf (streamFilterSetSide e s) = coreOf s := by
  unfold streamFilterSetSide
  try dsimp only
  repeat' split
  all_goals (first | with_reducible rfl | (simp; done))

@[simp] theorem core_sampleCfgSide (e : Env) (s : State) : coreOf (sampleCfgSide e s) = coreOf s := by
  unfold sampleCfgSide
  try dsimp only
  repeat' split
  all_goals (first | with_reducible rfl | (simp; done))

@[simp] theorem core_tmStatusRead (clear : Bool) (scope sl id : Nat) (s : State) : coreOf (tmStatusRead clear scope sl id s) = coreOf s := by
  unfold tmStatusRead
  try dsimp only
  repeat' split
  all_goals (first | with_reducible rfl | (simp; done))

@[simp] theorem core_sampleQueue (p : Nat) (at' : Int) (s : State) (q : Nat) : coreOf (sampleQueue p at' s q) = coreOf s := by
  unfold sampleQueue
  try dsimp only
  repeat' split
  all_goals (first | with_reducible rfl | (simp; done))

@[simp] theorem core_noteSampled (p : Nat) (s : State) : coreOf (noteSampled p s) = coreOf s := by
  unfold noteSampled
  try dsimp only
  repeat' split
  all_goals (first | with_reducible rfl | (simp; done))

@[simp] theorem core_capRuleSetSide (e : Env) (s : State) : coreOf (capRuleSetSide e s) = coreOf s := by
  unfold capRuleSetSide
  try dsimp only
  repeat' split
  all_goals (first | with_reducible rfl | (simp; done))

@[simp] theorem core_chargeBucket (key len : Nat) (committed : Bool) (s : State) : coreOf (chargeBucket key len committed s) = coreOf s := by
  unfold chargeBucket
  try dsimp only
  repeat' split
  all_goals (first | with_reducible rfl | (simp; done))

@[simp] theorem core_chargeQueue (p q len : Nat) (committed : Bool) (s : State) : coreOf (chargeQueue p q len committed s) = coreOf s := by
  unfold chargeQueue
  try dsimp only
  repeat' split
  all_goals (first | with_reducible rfl | (simp; done))

@[simp] theorem core_chargeRelease (p h : Nat) (n q : Child) (d : Drr) (s : State) : coreOf (chargeRelease p h n q d s) = coreOf s := by
  unfold chargeRelease
  try dsimp only
  repeat' split
  all_goals (first | with_reducible rfl | (simp; done))

@[simp] theorem core_delayAlarm (p q sojourn : Nat) (s : State) : coreOf (delayAlarm p q sojourn s) = coreOf s := by
  unfold delayAlarm
  try dsimp only
  repeat' split
  all_goals (first | with_reducible rfl | (simp; done))

@[simp] theorem core_releaseStats (c : Copy) (s : State) : coreOf (releaseStats c s) = coreOf s := by
  unfold releaseStats
  try dsimp only
  repeat' split
  all_goals (first | with_reducible rfl | (simp; done))

@[simp] theorem core_countLoss (c : Copy) (x : Stored) (s : State) : coreOf (countLoss c x s) = coreOf s := by
  unfold countLoss
  try dsimp only
  repeat' split
  all_goals (first | with_reducible rfl | (simp; done))

@[simp] theorem core_stompFrameAt (f : Nat) (s : State) (p : Nat) : coreOf (stompFrameAt f s p) = coreOf s := by
  unfold stompFrameAt
  try dsimp only
  repeat' split
  all_goals (first | with_reducible rfl | (simp; done))

@[simp] theorem core_dropBadFrame (f : Nat) (x : Stored) (now : Nat × Nat) (s : State) : coreOf (dropBadFrame f x now s) = coreOf s := by
  unfold dropBadFrame
  try dsimp only
  repeat' split
  all_goals (first | with_reducible rfl | (simp; done))

@[simp] theorem core_noteBad (bad : List Nat) (s : State) : coreOf (noteBad bad s) = coreOf s := by
  unfold noteBad
  try dsimp only
  repeat' split
  all_goals (first | with_reducible rfl | (simp; done))

@[simp] theorem core_countHopLoss (c : Copy) (x : Stored) (s : State) : coreOf (countHopLoss c x s) = coreOf s := by
  unfold countHopLoss
  try dsimp only
  repeat' split
  all_goals (first | with_reducible rfl | (simp; done))

@[simp] theorem core_readBuffer (c : Copy) (x : Stored) (banks : List Nat) (s : State) : coreOf ((readBuffer c x banks s).2) = coreOf s := by
  unfold readBuffer
  try dsimp only
  repeat' split
  all_goals (first | with_reducible rfl | (simp; done))

@[simp] theorem core_mcastRead (c : Copy) (x : Stored) (s : State) : coreOf ((mcastRead c x s).2) = coreOf s := by
  unfold mcastRead
  try dsimp only
  repeat' split
  all_goals (first | with_reducible rfl | (simp; done))

@[simp] theorem core_mcastTaken (f sl : Nat) (s : State) : coreOf (mcastTaken f sl s) = coreOf s := by
  unfold mcastTaken
  try dsimp only
  repeat' split
  all_goals (first | with_reducible rfl | (simp; done))

@[simp] theorem core_egressPass (kind : Nat) (c : Copy) (k : Classified) (data : List Byte) (m : List Word) (hdrs : List Hdr) (faults : LookupFaults) (s : State) : coreOf ((egressPass kind c k data m hdrs faults s).1) = coreOf s := by
  unfold egressPass
  try dsimp only
  repeat' split
  all_goals (first | with_reducible rfl | (simp; done))

theorem core_egressDrop (kind : Nat) (c : Copy) (r : EzPass) (s : State) :
    coreOf (egressDrop kind c r s).2 = coreOf s ∧ ∀ g, (egressDrop kind c r s).1 = some g → coreOf g = coreOf s := by
  unfold egressDrop
  dsimp only
  repeat' split
  all_goals simp

theorem core_egressDrop_some {kind : Nat} {c : Copy} {r : EzPass} {s g t : State} (h : egressDrop kind c r s = (some g, t)) : coreOf g = coreOf s :=
  (core_egressDrop kind c r s).2 g (by rw [h])

theorem core_egressDrop_none {kind : Nat} {c : Copy} {r : EzPass} {s t : State} {o : Option State} (h : egressDrop kind c r s = (o, t)) : coreOf t = coreOf s := by
  have h1 := (core_egressDrop kind c r s).1
  rw [h] at h1
  exact h1

@[simp] theorem core_releaseMirror (f : Nat) (s : State) (sess : Nat) : coreOf (releaseMirror f s sess) = coreOf s := by
  unfold releaseMirror
  try dsimp only
  repeat' split
  all_goals (first | with_reducible rfl | (simp; done))

@[simp] theorem core_paceCopy (h : Nat) (c : Copy) (len : Nat) (r : EzPass) (t : Nat) (s : State) : coreOf (paceCopy h c len r t s) = coreOf s := by
  unfold paceCopy
  try dsimp only
  repeat' split
  all_goals (first | with_reducible rfl | (simp; done))

@[simp] theorem core_releaseCopy (h : Nat) (c : Copy) (len : Nat) (reads : CellReads) (s : State) : coreOf (releaseCopy h c len reads s) = coreOf s := by
  unfold releaseCopy
  dsimp only
  repeat' split
  all_goals first
    | simp; done
    | (rename_i hd; rw [core_egressDrop_some hd]; simp; done)
    | (rename_i hd; simp [core_egressDrop_none hd]; done)

@[simp] theorem core_sweepGate (p q n : Nat) (s : State) : coreOf (sweepGate p q n s) = coreOf s := by
  induction n generalizing s with
  | zero => rfl
  | succ n ih =>
    unfold sweepGate
    try dsimp only
    repeat' split
    all_goals simp [ih]

@[simp] theorem core_countStall (sl : Nat) (s : State) : coreOf (countStall sl s) = coreOf s := by
  unfold countStall
  try dsimp only
  repeat' split
  all_goals (first | with_reducible rfl | (simp; done))

@[simp] theorem core_consumeDone (sl : Nat) (e : DoneEntry) (s : State) : coreOf (consumeDone sl e s) = coreOf s := by
  unfold consumeDone
  try dsimp only
  repeat' split
  all_goals (first | with_reducible rfl | (simp; done))

@[simp] theorem core_resend (sl : Nat) (cs : List Copy) (s : State) : coreOf (resend sl cs s) = coreOf s := by
  unfold resend
  try dsimp only
  repeat' split
  all_goals (first | with_reducible rfl | (simp; done))

@[simp] theorem core_ageCopy (c : Copy) (x : Stored) (s : State) : coreOf (ageCopy c x s) = coreOf s := by
  unfold ageCopy
  try dsimp only
  repeat' split
  all_goals (first | with_reducible rfl | (simp; done))

@[simp] theorem core_ageQueue (id n : Nat) (s : State) : coreOf (ageQueue id n s) = coreOf s := by
  induction n generalizing s with
  | zero => rfl
  | succ n ih =>
    unfold ageQueue
    try dsimp only
    repeat' split
    all_goals simp [ih]

@[simp] theorem core_markLate (p i : Nat) (s : State) : coreOf (markLate p i s) = coreOf s := by
  unfold markLate
  try dsimp only
  repeat' split
  all_goals (first | with_reducible rfl | (simp; done))

@[simp] theorem core_takeSlot (p : Nat) (c : Copy) (s : State) : coreOf (takeSlot p c s) = coreOf s := by
  unfold takeSlot
  try dsimp only
  repeat' split
  all_goals (first | with_reducible rfl | (simp; done))

@[simp] theorem core_countOverrun (p : Nat) (t : Int) (x : TxItem) (len : Nat) (s : State) : coreOf (countOverrun p t x len s) = coreOf s := by
  unfold countOverrun
  try dsimp only
  repeat' split
  all_goals (first | with_reducible rfl | (simp; done))

@[simp] theorem core_dropStale (p : Nat) (x : TxItem) (s : State) : coreOf (dropStale p x s) = coreOf s := by
  unfold dropStale
  try dsimp only
  repeat' split
  all_goals (first | with_reducible rfl | (simp; done))

@[simp] theorem core_beginItem (p i : Nat) (t : Int) (s : State) : coreOf (beginItem p i t s) = coreOf s := by
  unfold beginItem
  try dsimp only
  repeat' split
  all_goals (first | with_reducible rfl | (simp; done))

@[simp] theorem core_suspendCur (p : Nat) (s : State) : coreOf (suspendCur p s) = coreOf s := by
  unfold suspendCur
  try dsimp only
  repeat' split
  all_goals (first | with_reducible rfl | (simp; done))

@[simp] theorem core_takePick (p : Nat) (t : Int) (k : TxPick) (s : State) : coreOf (takePick p t k s) = coreOf s := by
  unfold takePick
  try dsimp only
  repeat' split
  all_goals (first | with_reducible rfl | (simp; done))

@[simp] theorem core_startNext (p : Nat) (t : Int) (s : State) : coreOf (startNext p t s) = coreOf s := by
  unfold startNext
  try dsimp only
  repeat' split
  all_goals (first | with_reducible rfl | (simp; done))

@[simp] theorem core_countLogHold (p : Nat) (s : State) : coreOf (countLogHold p s) = coreOf s := by
  unfold countLogHold
  try dsimp only
  repeat' split
  all_goals (first | with_reducible rfl | (simp; done))

@[simp] theorem core_countSent (p : Nat) (t : TxItem) (len : Nat) (s : State) : coreOf (countSent p t len s) = coreOf s := by
  unfold countSent
  try dsimp only
  repeat' split
  all_goals (first | with_reducible rfl | (simp; done))

@[simp] theorem core_meterSent (p : Nat) (t : TxItem) (len : Nat) (s : State) : coreOf (meterSent p t len s) = coreOf s := by
  unfold meterSent
  try dsimp only
  repeat' split
  all_goals (first | with_reducible rfl | (simp; done))

@[simp] theorem core_copySent (p : Nat) (t : TxCur) (c : Copy) (s : State) : coreOf (copySent p t c s) = coreOf s := by
  unfold copySent
  try dsimp only
  repeat' split
  all_goals (first | with_reducible rfl | (simp; done))

@[simp] theorem core_countResetDrop (p : Nat) (t : TxItem) (s : State) : coreOf (countResetDrop p t s) = coreOf s := by
  unfold countResetDrop
  try dsimp only
  repeat' split
  all_goals (first | with_reducible rfl | (simp; done))

@[simp] theorem core_stompFor (p : Nat) (cause : StompCause) (t : TxCur) (s : State) : coreOf (stompFor p cause t s) = coreOf s := by
  unfold stompFor
  try dsimp only
  repeat' split
  all_goals (first | with_reducible rfl | (simp; done))

@[simp] theorem core_settleHint (p hint : Nat) (arrived early : Bool) (t : TxCur) (s : State) : coreOf ((settleHint p hint arrived early t s).2) = coreOf s := by
  unfold settleHint
  try dsimp only
  repeat' split
  all_goals (first | with_reducible rfl | (simp; done))

@[simp] theorem core_takeHint (p hint : Nat) (arrived early : Bool) (s : State) : coreOf (takeHint p hint arrived early s) = coreOf s := by
  unfold takeHint
  try dsimp only
  repeat' split
  all_goals (first | with_reducible rfl | (simp; done))

@[simp] theorem core_hptErr (s : State) : coreOf (hptErr s) = coreOf s := by
  unfold hptErr
  try dsimp only
  repeat' split
  all_goals (first | with_reducible rfl | (simp; done))

@[simp] theorem core_hptDefer (i : HptAccess) (ctl : Bool) (s : State) : coreOf (hptDefer i ctl s) = coreOf s := by
  unfold hptDefer
  try dsimp only
  repeat' split
  all_goals (first | with_reducible rfl | (simp; done))

@[simp] theorem core_viaHst (i : HptAccess) (f : State → State) (h : ∀ s, coreOf (f s) = coreOf s) (s : State) : coreOf (viaHst i f s) = coreOf s := by
  unfold viaHst atHst
  repeat' split
  all_goals simp [h]

@[simp] theorem core_viaCtl (i : HptAccess) (f : State → State) (h : ∀ s, coreOf (f s) = coreOf s) (s : State) : coreOf (viaCtl i f s) = coreOf s := by
  unfold viaCtl atCtl atHst
  repeat' split
  all_goals simp [h]

@[simp] theorem mailboxReset_cmd (m : Mailbox) : (mailboxReset m).cmd = m.cmd := rfl

@[simp] theorem core_forgetMailbox (s : State) : coreOf (forgetMailbox s) = coreOf s := by
  unfold forgetMailbox
  dsimp only
  generalize hg : List.foldl _ s _ = s1
  have h1 : coreOf s1 = coreOf s := by
    rw [← hg]
    exact core_foldl _ (fun s r => core_foldl _ (fun s d => by simp) _ _) _ _
  rw [← h1]
  simp 

@[simp] theorem core_ctlReset (s : State) : coreOf (ctlReset s) = coreOf s := by
  have h := core_forgetMailbox s
  unfold ctlReset
  dsimp only
  simp only [coreOf, Prod.mk.injEq] at h ⊢
  split <;> simp_all [mailboxReset]

@[simp] theorem core_ctlDue (s : State) : coreOf (ctlDue s) = coreOf s := by
  unfold ctlDue
  try dsimp only
  repeat' split
  all_goals (first | with_reducible rfl | (simp; done))

@[simp] theorem core_updCq (n : Nat) (f : CompQ → CompQ) (s : State) : coreOf (updCq n f s) = coreOf s := by
  unfold updCq
  try dsimp only
  repeat' split
  all_goals (first | with_reducible rfl | (simp; done))

@[simp] theorem core_writeHead (n : Nat) (s : State) : coreOf (writeHead n s) = coreOf s := by
  unfold writeHead
  try dsimp only
  repeat' split
  all_goals (first | with_reducible rfl | (simp; done))

@[simp] theorem core_setQueueState (n : Nat) (st : QueueSt) (s : State) : coreOf (setQueueState n st s) = coreOf s := by
  unfold setQueueState
  try dsimp only
  repeat' split
  all_goals (first | with_reducible rfl | (simp; done))

@[simp] theorem core_queueError (n reason : Nat) (s : State) : coreOf (queueError n reason s) = coreOf s := by
  unfold queueError
  try dsimp only
  repeat' split
  all_goals (first | with_reducible rfl | (simp; done))

@[simp] theorem core_acceptHead (n : Nat) (s : State) : coreOf (acceptHead n s) = coreOf s := by
  unfold acceptHead
  try dsimp only
  repeat' split
  all_goals (first | with_reducible rfl | (simp; done))

@[simp] theorem core_raiseBacklog (s : State) : coreOf (raiseBacklog s) = coreOf s := by
  unfold raiseBacklog
  try dsimp only
  repeat' split
  all_goals (first | with_reducible rfl | (simp; done))

@[simp] theorem core_hqAdvance (i n : Nat) (s : State) : coreOf (hqAdvance i n s) = coreOf s := by
  induction n generalizing s with
  | zero => rfl
  | succ n ih =>
    unfold hqAdvance
    try dsimp only
    repeat' split
    all_goals simp [ih]

@[simp] theorem core_advance (n : Nat) (s : State) : coreOf (advance n s) = coreOf s := core_hqAdvance n 128 s

@[simp] theorem core_readEntry (x : SubQ) (pos : Nat) (s : State) : coreOf (readEntry x pos s) = coreOf s := by
  unfold readEntry
  try dsimp only
  repeat' split
  all_goals (first | with_reducible rfl | (simp; done))

@[simp] theorem core_readPointed (n : Nat) (x : SubQ) (entry : Fetched) (s : State) : coreOf (readPointed n x entry s) = coreOf s := by
  unfold readPointed
  try dsimp only
  repeat' split
  all_goals (first | with_reducible rfl | (simp; done))

@[simp] theorem core_takeEntry (n : Nat) (x : SubQ) (entry : Fetched) (s0 : State) : coreOf (takeEntry n x entry s0) = coreOf s0 := by
  unfold takeEntry
  try dsimp only
  repeat' split
  all_goals (first | with_reducible rfl | (simp; done))

@[simp] theorem core_issueCqe (n pos addr : Nat) (bytes : List Byte) (s : State) : coreOf (issueCqe n pos addr bytes s) = coreOf s := by
  unfold issueCqe
  try dsimp only
  repeat' split
  all_goals (first | with_reducible rfl | (simp; done))

@[simp] theorem core_ringWrite (r : Nat) (c : Cqe) (s : State) : coreOf (ringWrite r c s) = coreOf s := by
  unfold ringWrite
  try dsimp only
  repeat' split
  all_goals (first | with_reducible rfl | (simp; done))

@[simp] theorem core_ringPut (r : Nat) (c : Cqe) (s : State) : coreOf (ringPut r c s) = coreOf s := by
  unfold ringPut
  try dsimp only
  repeat' split
  all_goals (first | with_reducible rfl | (simp; done))

@[simp] theorem core_flushBacklog (i n : Nat) (s : State) : coreOf (flushBacklog i n s) = coreOf s := by
  induction n generalizing s with
  | zero => rfl
  | succ n ih =>
    unfold flushBacklog
    try dsimp only
    repeat' split
    all_goals simp [ih]

@[simp] theorem core_flushRings (s : State) : coreOf (flushRings s) = coreOf s := by
  unfold flushRings
  try dsimp only
  repeat' split
  all_goals (first | with_reducible rfl | (simp; done))

@[simp] theorem core_hostCopyDone (p f group : Nat) (s : State) : coreOf (hostCopyDone p f group s) = coreOf s := by
  unfold hostCopyDone
  try dsimp only
  repeat' split
  all_goals (first | with_reducible rfl | (simp; done))

@[simp] theorem core_retireWork (x : SubQ) (w : Work) (s : State) : coreOf (retireWork x w s) = coreOf s := by
  unfold retireWork
  try dsimp only
  repeat' split
  all_goals (first | with_reducible rfl | (simp; done))

@[simp] theorem core_completeGen2 (n : Nat) (x : SubQ) (w : Work) (s : State) : coreOf (completeGen2 n x w s) = coreOf s := by
  unfold completeGen2
  try dsimp only
  repeat' split
  all_goals (first | with_reducible rfl | (simp; done))

@[simp] theorem core_completeGen1 (n : Nat) (x : SubQ) (w : Work) (s : State) : coreOf (completeGen1 n x w s) = coreOf s := by
  unfold completeGen1
  try dsimp only
  repeat' split
  all_goals (first | with_reducible rfl | (simp; done))

@[simp] theorem core_answerUnknown (s : State) : coreOf (answerUnknown s) = coreOf s := by
  unfold answerUnknown
  repeat' split
  all_goals first
    | with_reducible rfl
    | exact core_ifTurn  _ _ (fun s => by simp) _

@[simp] theorem core_countCqe (n : Nat) (x : SubQ) (s : State) : coreOf (countCqe n x s) = coreOf s := by
  unfold countCqe
  try dsimp only
  repeat' split
  all_goals (first | with_reducible rfl | (simp; done))

@[simp] theorem core_finish (n num status detail : Nat) (s : State) : coreOf (finish n num status detail s) = coreOf s := by
  unfold finish
  try dsimp only
  repeat' split
  all_goals (first | with_reducible rfl | (simp; done))

@[simp] theorem core_runPoolOp (n sub' : Nat) (same : Bool) (f : Work → Option PoolBuf → Nat ⊕ Option PoolBuf) (s0 : State) : coreOf (runPoolOp n sub' same f s0) = coreOf s0 := by
  unfold runPoolOp
  try dsimp only
  repeat' split
  all_goals (first | with_reducible rfl | (simp; done))

@[simp] theorem core_takeHostHead (p q : Nat) (s : State) : coreOf (takeHostHead p q s) = coreOf s := by
  unfold takeHostHead
  try dsimp only
  repeat' split
  all_goals (first | with_reducible rfl | (simp; done))

@[simp] theorem core_dropHostCopy (p q : Nat) (c : Copy) (s : State) : coreOf (dropHostCopy p q c s) = coreOf s := by
  unfold dropHostCopy
  try dsimp only
  repeat' split
  all_goals (first | with_reducible rfl | (simp; done))

@[simp] theorem core_fillBuffer (p q n : Nat) (w : Work) (c : Copy) (k : Stored) (t : Option Nat × Nat × Nat) (s : State) : coreOf (fillBuffer p q n w c k t s) = coreOf s := by
  unfold fillBuffer
  dsimp only
  have h : ∀ id, coreOf ((poolAlloc id n (noteRound id n 1 false s)).getD (0, s)).2 = coreOf s := by
    intro id
    cases hp : poolAlloc id n (noteRound id n 1 false s) with
    | none => rfl
    | some r => obtain ⟨i, t⟩ := r; simp [core_poolAlloc_some hp]
  split <;> simp [h]

@[simp] theorem core_noteWait (p q n : Nat) (empty : Bool) (s : State) : coreOf (noteWait p q n empty s) = coreOf s := by
  unfold noteWait
  try dsimp only
  repeat' split
  all_goals (first | with_reducible rfl | (simp; done))

@[simp] theorem core_createQueue (x : SubQ) (n : Nat) (s : State) : coreOf (createQueue x n s) = coreOf s := by
  unfold createQueue
  try dsimp only
  repeat' split
  all_goals (first | with_reducible rfl | (simp; done))

@[simp] theorem core_disableUnit (e : Env) (s : State) : coreOf (disableUnit e s) = coreOf s := by
  unfold disableUnit
  try dsimp only
  repeat' split
  all_goals (first | with_reducible rfl | (simp; done))

@[simp] theorem core_enableUnit (e : Env) (s : State) : coreOf (enableUnit e s) = coreOf s := by
  unfold enableUnit
  try dsimp only
  repeat' split
  all_goals (first | with_reducible rfl | (simp; done))

@[simp] theorem core_flushPosted (i n : Nat) (s : State) : coreOf (flushPosted i n s) = coreOf s := by
  induction n generalizing s with
  | zero => rfl
  | succ n ih =>
    unfold flushPosted
    try dsimp only
    repeat' split
    all_goals simp [ih]

@[simp] theorem core_resetUnit (e : Env) (s : State) : coreOf (resetUnit e s) = coreOf s := by
  unfold resetUnit
  try dsimp only
  repeat' split
  all_goals (first | with_reducible rfl | (simp; done))

@[simp] theorem core_otdCount (i n : Nat) (s : State) : coreOf (otdCount i n s) = coreOf s := by
  unfold otdCount
  try dsimp only
  repeat' split
  all_goals (first | with_reducible rfl | (simp; done))

@[simp] theorem core_pushLog (code source detail : Nat) (s : State) : coreOf (pushLog code source detail s) = coreOf s := by
  unfold pushLog
  try dsimp only
  repeat' split
  all_goals (first | with_reducible rfl | (simp; done))

@[simp] theorem core_loseLog (s : State) : coreOf (loseLog s) = coreOf s := by
  unfold loseLog
  try dsimp only
  repeat' split
  all_goals (first | with_reducible rfl | (simp; done))

@[simp] theorem core_otdLog (code source detail : Nat) (s : State) : coreOf (otdLog code source detail s) = coreOf s := by
  unfold otdLog
  try dsimp only
  repeat' split
  all_goals (first | with_reducible rfl | (simp; done))

@[simp] theorem core_flushIncs (s : State) : coreOf (flushIncs s) = coreOf s := by
  unfold flushIncs
  try dsimp only
  repeat' split
  all_goals (first | with_reducible rfl | (simp; done))

@[simp] theorem core_noteInc (s : State) (n : Nat × Nat) : coreOf (noteInc s n) = coreOf s := by
  unfold noteInc
  try dsimp only
  repeat' split
  all_goals (first | with_reducible rfl | (simp; done))

@[simp] theorem core_noteStep (s : State) (n : Nat × Int × Bool × Bool) : coreOf (noteStep s n) = coreOf s := by
  unfold noteStep
  try dsimp only
  repeat' split
  all_goals (first | with_reducible rfl | (simp; done))

@[simp] theorem core_otdTick (s : State) : coreOf (otdTick s) = coreOf s := by
  unfold otdTick
  try dsimp only
  repeat' split
  all_goals (first | with_reducible rfl | (simp; done))

@[simp] theorem core_takeInc (src inc : Nat) (s : State) : coreOf (takeInc src inc s) = coreOf s := by
  unfold takeInc
  try dsimp only
  repeat' split
  all_goals (first | with_reducible rfl | (simp; done))

@[simp] theorem core_takeStep (src : Nat) (amount : Int) (valid invalidate : Bool) (s : State) : coreOf (takeStep src amount valid invalidate s) = coreOf s := by
  unfold takeStep
  try dsimp only
  repeat' split
  all_goals (first | with_reducible rfl | (simp; done))

@[simp] theorem core_servoActed (lock : Bool) (s : State) : coreOf (servoActed lock s) = coreOf s := by
  unfold servoActed
  try dsimp only
  repeat' split
  all_goals (first | with_reducible rfl | (simp; done))

@[simp] theorem core_servoStep (amount : Int) (valid invalidate : Bool) (s : State) : coreOf (servoStep amount valid invalidate s) = coreOf s := by
  unfold servoStep
  try dsimp only
  repeat' split
  all_goals (first | with_reducible rfl | (simp; done))

@[simp] theorem core_holdoverTick (s : State) : coreOf (holdoverTick s) = coreOf s := by
  unfold holdoverTick
  try dsimp only
  repeat' split
  all_goals (first | with_reducible rfl | (simp; done))

@[simp] theorem core_syntTick (s : State) : coreOf (syntTick s) = coreOf s := by
  unfold syntTick
  try dsimp only
  repeat' split
  all_goals (first | with_reducible rfl | (simp; done))

@[simp] theorem core_noteInterval (old : TimeUnit) (s : State) : coreOf (noteInterval old s) = coreOf s := by
  unfold noteInterval
  try dsimp only
  repeat' split
  all_goals (first | with_reducible rfl | (simp; done))

@[simp] theorem core_latTick (s : State) : coreOf (latTick s) = coreOf s := by
  unfold latTick
  try dsimp only
  repeat' split
  all_goals (first | with_reducible rfl | (simp; done))

@[simp] theorem core_checkReceiver (bad : List Nat) (s : State) (sl : Nat) : coreOf (checkReceiver bad s sl) = coreOf s := by
  unfold checkReceiver
  try dsimp only
  repeat' split
  all_goals (first | with_reducible rfl | (simp; done))

@[simp] theorem core_latchTick (s : State) : coreOf (latchTick s) = coreOf s := by
  unfold latchTick
  try dsimp only
  repeat' split
  all_goals (first | with_reducible rfl | (simp; done))

@[simp] theorem core_stepPort (s0 : State) (d : Int) (s : State) (p : Nat) : coreOf (stepPort s0 d s p) = coreOf s := by
  unfold stepPort
  dsimp only
  repeat' split
  all_goals simp 

@[simp] theorem core_stepTick (s0 s : State) : coreOf (stepTick s0 s) = coreOf s := by
  unfold stepTick
  repeat' split
  all_goals first | with_reducible rfl | (simp; done)

@[simp] theorem core_ptpPortCfgSide (e : Env) (s : State) : coreOf (ptpPortCfgSide e s) = coreOf s := by
  unfold ptpPortCfgSide
  try dsimp only
  repeat' split
  all_goals (first | with_reducible rfl | (simp; done))

@[simp] theorem core_startRun (p slot : Nat) (s : State) : coreOf (startRun p slot s) = coreOf s := by
  unfold startRun
  try dsimp only
  repeat' split
  all_goals (first | with_reducible rfl | (simp; done))

@[simp] theorem core_calEvalPort (span : Nat) (temps : List Int) (s : State) (p : Nat) : coreOf (calEvalPort span temps s p) = coreOf s := by
  unfold calEvalPort
  try dsimp only
  repeat' split
  all_goals (first | with_reducible rfl | (simp; done))

@[simp] theorem core_calFinish (p : Nat) (r : CalRun) (s : State) : coreOf (calFinish p r s) = coreOf s := by
  unfold calFinish
  try dsimp only
  repeat' split
  all_goals (first | with_reducible rfl | (simp; done))

@[simp] theorem core_sideUpd (i : Instr) (s : State) : coreOf (sideUpd i s) = coreOf s := by
  unfold sideUpd
  try dsimp only
  repeat' split
  all_goals (first | with_reducible rfl | (simp; done))

@[simp] theorem core_retryHeld (id : Nat) (s : State) : coreOf (retryHeld id s) = coreOf s := by
  unfold retryHeld
  refine core_foldl _ (fun s t => core_foldl _ (fun s h => ?_) _ _) _ _
  dsimp only
  repeat' split
  all_goals simp

@[simp] theorem core_nameSet (id : Nat) (s : State) : coreOf (nameSet id s) = coreOf s := by
  unfold nameSet
  try dsimp only
  repeat' split
  all_goals (first | with_reducible rfl | (simp; done))

@[simp] theorem core_forgetSets (s : State) : coreOf (forgetSets s) = coreOf s := by
  unfold forgetSets
  try dsimp only
  repeat' split
  all_goals (first | with_reducible rfl | (simp; done))

@[simp] theorem core_settleStaged (id : Nat) (s : State) : coreOf (settleStaged id s) = coreOf s := by
  unfold settleStaged
  try dsimp only
  repeat' split
  all_goals (first | with_reducible rfl | (simp; done))

@[simp] theorem core_copyBanks (s : State) : coreOf (copyBanks s) = coreOf s := by
  unfold copyBanks
  try dsimp only
  repeat' split
  all_goals (first | with_reducible rfl | (simp; done))

@[simp] theorem core_abortSet (id : Nat) (s : State) : coreOf (abortSet id s) = coreOf s := by
  unfold abortSet
  try dsimp only
  repeat' split
  all_goals (first | with_reducible rfl | (simp; done))

@[simp] theorem core_answerOwed (q : QSet) (s : State) : coreOf (answerOwed q s) = coreOf s := by
  unfold answerOwed
  try dsimp only
  repeat' split
  all_goals (first | with_reducible rfl | (simp; done))

@[simp] theorem core_takeApply (id mode applyTime : Nat) (owed : Option Env) (s : State) : coreOf (takeApply id mode applyTime owed s) = coreOf s := by
  unfold takeApply
  try dsimp only
  repeat' split
  all_goals (first | with_reducible rfl | (simp; done))

@[simp] theorem core_runApply (e : Env) (mode : Nat) (refused : QSet → State → Bool) (go : QSet → State → State) (h : ∀ q s, coreOf (go q s) = coreOf s) (s : State) : coreOf (runApply e mode refused go s) = coreOf s := by
  unfold runApply
  refine core_ifTurn  _ _ (fun s => ?_) s
  dsimp only
  repeat' split
  all_goals simp [h]

@[simp] theorem core_missedFlip (q : QSet) (s : State) : coreOf (missedFlip q s) = coreOf s := by
  unfold missedFlip
  try dsimp only
  repeat' split
  all_goals (first | with_reducible rfl | (simp; done))

@[simp] theorem core_turnVis (id : Nat) (s : State) : coreOf (turnVis id s) = coreOf s := by
  unfold turnVis
  try dsimp only
  repeat' split
  all_goals (first | with_reducible rfl | (simp; done))

@[simp] theorem core_finishSet (id : Nat) (s : State) : coreOf (finishSet id s) = coreOf s := by
  unfold finishSet
  try dsimp only
  repeat' split
  all_goals (first | with_reducible rfl | (simp; done))

@[simp] theorem core_updDma (c : Nat) (f : DmaCh → DmaCh) (s : State) : coreOf (updDma c f s) = coreOf s := by
  unfold updDma
  try dsimp only
  repeat' split
  all_goals (first | with_reducible rfl | (simp; done))

@[simp] theorem core_onDma (c : Nat) (f : DmaCh → State → State) (h : ∀ x s, coreOf (f x s) = coreOf s) (s : State) : coreOf (onDma c f s) = coreOf s := by
  unfold onDma
  split
  · exact h _ _
  · rfl

@[simp] theorem core_dmaHalt (c kind addr : Nat) (s : State) : coreOf (dmaHalt c kind addr s) = coreOf s := by
  unfold dmaHalt
  try dsimp only
  repeat' split
  all_goals (first | with_reducible rfl | (simp; done))

@[simp] theorem core_dmaComplete (c : Nat) (half : Bool) (s : State) : coreOf (dmaComplete c half s) = coreOf s := by
  unfold dmaComplete
  try dsimp only
  repeat' split
  all_goals (first | with_reducible rfl | (simp; done))

@[simp] theorem core_dmaDone (c n : Nat) (s : State) : coreOf (dmaDone c n s) = coreOf s := by
  unfold dmaDone
  try dsimp only
  repeat' split
  all_goals (first | with_reducible rfl | (simp; done))

@[simp] theorem core_dmaFailed (c addr status kind : Nat) (again : State → State) (h : ∀ s, coreOf (again s) = coreOf s) (s : State) :
    coreOf (dmaFailed c addr status kind again s) = coreOf s := by
  unfold dmaFailed
  dsimp only
  split
  · rw [h]; simp
  · simp

@[simp] theorem core_dmaAbortEnds (c : Nat) (s : State) : coreOf (dmaAbortEnds c s) = coreOf s := by
  unfold dmaAbortEnds
  try dsimp only
  repeat' split
  all_goals (first | with_reducible rfl | (simp; done))

@[simp] theorem core_dmaReadAnswer (c : Nat) (b : Burst) (s0 : State) : coreOf (dmaReadAnswer c b s0) = coreOf s0 := by
  unfold dmaReadAnswer
  try dsimp only
  repeat' split
  all_goals (first | with_reducible rfl | (simp; done))

@[simp] theorem core_dmaWriteAnswer (c : Nat) (b : Burst) (s : State) : coreOf (dmaWriteAnswer c b s) = coreOf s := by
  unfold dmaWriteAnswer
  try dsimp only
  repeat' split
  all_goals (first | with_reducible rfl | (simp; done))

@[simp] theorem core_dmaReset (s : State) : coreOf (dmaReset s) = coreOf s := by
  unfold dmaReset
  try dsimp only
  repeat' split
  all_goals (first | with_reducible rfl | (simp; done))

@[simp] theorem core_updIrq (f : Irq → Irq) (s : State) : coreOf (updIrq f s) = coreOf s := by
  unfold updIrq
  try dsimp only
  repeat' split
  all_goals (first | with_reducible rfl | (simp; done))

@[simp] theorem core_updTarget (n : Nat) (f : Target → Target) (s : State) : coreOf (updTarget n f s) = coreOf s := by
  unfold updTarget
  try dsimp only
  repeat' split
  all_goals (first | with_reducible rfl | (simp; done))

@[simp] theorem core_settleAgain (n : Nat) (s : State) : coreOf (settleAgain n s) = coreOf s := by
  unfold settleAgain
  try dsimp only
  repeat' split
  all_goals (first | with_reducible rfl | (simp; done))

@[simp] theorem core_takeClaim (n id prio : Nat) (s : State) : coreOf (takeClaim n id prio s) = coreOf s := by
  unfold takeClaim
  try dsimp only
  repeat' split
  all_goals (first | with_reducible rfl | (simp; done))

@[simp] theorem core_endActive (n id : Nat) (s : State) : coreOf (endActive n id s) = coreOf s := by
  unfold endActive
  try dsimp only
  repeat' split
  all_goals (first | with_reducible rfl | (simp; done))

@[simp] theorem core_privWrite (n : Nat) (f : Target → Target) (s : State) : coreOf (privWrite n f s) = coreOf s := by
  unfold privWrite
  try dsimp only
  repeat' split
  all_goals (first | with_reducible rfl | (simp; done))

@[simp] theorem core_loseUnguarded (cs : List Copy) (s : State) : coreOf (loseUnguarded cs s) = coreOf s := by
  unfold loseUnguarded
  try dsimp only
  repeat' split
  all_goals (first | with_reducible rfl | (simp; done))

@[simp] theorem core_loseAtPort (own : Bool) (p : Nat) (s : State) : coreOf (loseAtPort own p s) = coreOf s := by
  unfold loseAtPort
  try dsimp only
  repeat' split
  all_goals (first | with_reducible rfl | (simp; done))

@[simp] theorem core_loseClassified (sl : Nat) (k : Classified) (s : State) : coreOf (loseClassified sl k s) = coreOf s := by
  unfold loseClassified
  try dsimp only
  repeat' split
  all_goals (first | with_reducible rfl | (simp; done))

@[simp] theorem core_clearCore (own : Bool) (sl : Nat) (s : State) : coreOf (clearCore own sl s) = coreOf s := by
  unfold clearCore
  try dsimp only
  repeat' split
  all_goals (first | with_reducible rfl | (simp; done))

@[simp] theorem core_abortQuietly (q : QSet) (s : State) : coreOf (abortQuietly q s) = coreOf s := by
  unfold abortQuietly
  try dsimp only
  repeat' split
  all_goals (first | with_reducible rfl | (simp; done))

@[simp] theorem core_warmSets (s : State) : coreOf (warmSets s) = coreOf s := by
  unfold warmSets
  try dsimp only
  repeat' split
  all_goals (first | with_reducible rfl | (simp; done))

@[simp] theorem core_warmRegisters (s : State) : coreOf (warmRegisters s) = coreOf s := by
  unfold warmRegisters
  try dsimp only
  repeat' split
  all_goals (first | with_reducible rfl | (simp; done))

@[simp] theorem core_warmQueues (s : State) : coreOf (warmQueues s) = coreOf s := by
  unfold warmQueues
  try dsimp only
  repeat' split
  all_goals (first | with_reducible rfl | (simp; done))

@[simp] theorem core_warmReset (s : State) : coreOf (warmReset s) = coreOf s := by
  unfold warmReset
  try dsimp only
  repeat' split
  all_goals (first | with_reducible rfl | (simp; done))

@[simp] theorem core_resetCore (sl : Nat) (s : State) : coreOf (resetCore sl s) = coreOf s := by
  unfold resetCore
  try dsimp only
  repeat' split
  all_goals (first | with_reducible rfl | (simp; done))

@[simp] theorem core_stompAll (s : State) : coreOf (stompAll s) = coreOf s := by
  unfold stompAll
  try dsimp only
  repeat' split
  all_goals (first | with_reducible rfl | (simp; done))

@[simp] theorem core_runOtd (op : Nat) (len : Nat → Bool) (fields : List (Nat × Bool)) (more : List (Option Verdict)) (eff : State → State × List Byte) (e : Env)
    (h : ∀ s, coreOf (eff s).1 = coreOf s) (s : State) : coreOf (runOtd op len fields more eff e s) = coreOf s := by
  unfold runOtd
  split
  · simp
  · simp [h]

@[simp] theorem core_writeLedger (code : Nat) (s : State) : coreOf (writeLedger code s) = coreOf s := by
  unfold writeLedger
  try dsimp only
  repeat' split
  all_goals (first | with_reducible rfl | (simp; done))

@[simp] theorem core_drawNonce (s : State) : coreOf (drawNonce s) = coreOf s := by
  unfold drawNonce
  try dsimp only
  repeat' split
  all_goals (first | with_reducible rfl | (simp; done))

@[simp] theorem core_oIssue (second : Bool) (s : State) : coreOf (oIssue second s) = coreOf s := by
  unfold oIssue
  try dsimp only
  repeat' split
  all_goals (first | with_reducible rfl | (simp; done))

@[simp] theorem core_oPump (s : State) : coreOf (oPump s) = coreOf s := by
  unfold oPump
  try dsimp only
  repeat' split
  all_goals (first | with_reducible rfl | (simp; done))

@[simp] theorem chargeGood_ocmd (x : TapSummary) (n b : Nat) (o : Otd) : (chargeGood x n b o).ocmd = o.ocmd := by
  unfold chargeGood
  split <;> rfl

@[simp] theorem chargeErr_ocmd (x : TapSummary) (n a : Nat) (o : Otd) : (chargeErr x n a o).ocmd = o.ocmd := rfl

@[simp] theorem core_chargeHeld (h : TapHeld) (s : State) : coreOf (chargeHeld h s) = coreOf s := by
  unfold chargeHeld
  dsimp only
  repeat' split
  all_goals first
    | (simp only [core_otdCount]; done)
    | (rw [core_updOtd _ (fun o => chargeGood_ocmd _ _ _ o), core_otdCount])
    | (rw [core_otdCount, core_updOtd _ (fun o => chargeGood_ocmd _ _ _ o), core_otdCount])
    | (rw [core_updOtd _ (fun o => chargeErr_ocmd _ _ _ o), core_otdCount])
    | (rw [core_otdCount, core_updOtd, core_otdCount]; exact fun _ => rfl)

@[simp] theorem core_applyAll (f : TapHeld → Bool) (s : State) : coreOf (applyAll f s) = coreOf s := by
  unfold applyAll
  try dsimp only
  repeat' split
  all_goals (first | with_reducible rfl | (simp; done))

@[simp] theorem core_addRecord (r : ORec) (s : State) : coreOf (addRecord r s) = coreOf s := by
  unfold addRecord
  try dsimp only
  repeat' split
  all_goals (first | with_reducible rfl | (simp; done))

@[simp] theorem core_accountRecord (c : Closing) (s : State) (a : Nat) : coreOf (accountRecord c s a) = coreOf s := by
  unfold accountRecord
  try dsimp only
  repeat' split
  all_goals (first | with_reducible rfl | (simp; done))

@[simp] theorem core_summaryRecord (c : Closing) (n : Nat) (s : State) : coreOf (summaryRecord c n s) = coreOf s := by
  unfold summaryRecord
  try dsimp only
  repeat' split
  all_goals (first | with_reducible rfl | (simp; done))

@[simp] theorem core_openInterval (c : Closing) (s : State) : coreOf (openInterval c s) = coreOf s := by
  unfold openInterval
  try dsimp only
  repeat' split
  all_goals (first | with_reducible rfl | (simp; done))

@[simp] theorem core_closeInterval (c : Closing) (s : State) : coreOf (closeInterval c s) = coreOf s := by
  unfold closeInterval
  try dsimp only
  repeat' split
  all_goals (first | with_reducible rfl | (simp; done))

@[simp] theorem core_mapWaiting (f : Frame → Frame) (s : State) : coreOf (mapWaiting f s) = coreOf s := by
  unfold mapWaiting
  try dsimp only
  repeat' split
  all_goals (first | with_reducible rfl | (simp; done))

@[simp] theorem core_beginClose (s : State) : coreOf (beginClose s) = coreOf s := by
  unfold beginClose
  try dsimp only
  repeat' split
  all_goals (first | with_reducible rfl | (simp; done))

@[simp] theorem core_finishClose (c : Closing) (s : State) : coreOf (finishClose c s) = coreOf s := by
  unfold finishClose
  try dsimp only
  repeat' split
  all_goals (first | with_reducible rfl | (simp; done))

@[simp] theorem core_unsealNow (s : State) : coreOf (unsealNow s) = coreOf s := by
  unfold unsealNow
  try dsimp only
  repeat' split
  all_goals (first | with_reducible rfl | (simp; done))

@[simp] theorem core_unsealDenied (s : State) : coreOf (unsealDenied s) = coreOf s := by
  unfold unsealDenied
  try dsimp only
  repeat' split
  all_goals (first | with_reducible rfl | (simp; done))

@[simp] theorem core_otdFinish (key : Option (List Byte)) (s : State) : coreOf (otdFinish key s) = coreOf s := by
  unfold otdFinish
  try dsimp only
  repeat' split
  all_goals (first | with_reducible rfl | (simp; done))

@[simp] theorem core_updPwr (f : Pwr → Pwr) (s : State) : coreOf (updPwr f s) = coreOf s := by
  unfold updPwr
  try dsimp only
  repeat' split
  all_goals (first | with_reducible rfl | (simp; done))

@[simp] theorem core_owlLog (code d detail : Nat) (s : State) : coreOf (owlLog code d detail s) = coreOf s := by
  unfold owlLog
  try dsimp only
  repeat' split
  all_goals (first | with_reducible rfl | (simp; done))

@[simp] theorem core_answerAsk (by' : AskBy) (v : Verdict) (s : State) : coreOf (answerAsk by' v s) = coreOf s := by
  unfold answerAsk
  try dsimp only
  repeat' split
  all_goals (first | with_reducible rfl | (simp; done))

@[simp] theorem core_refusedIrq (by' : AskBy) (s : State) : coreOf (refusedIrq by' s) = coreOf s := by
  unfold refusedIrq
  try dsimp only
  repeat' split
  all_goals (first | with_reducible rfl | (simp; done))

@[simp] theorem core_refuseEntry (by' : AskBy) (ds : List Nat) (d b detail : Nat) (s : State) : coreOf (refuseEntry by' ds d b detail s) = coreOf s := by
  unfold refuseEntry
  try dsimp only
  repeat' split
  all_goals (first | with_reducible rfl | (simp; done))

@[simp] theorem core_releaseLatches (s : State) : coreOf (releaseLatches s) = coreOf s := by
  unfold releaseLatches
  try dsimp only
  repeat' split
  all_goals (first | with_reducible rfl | (simp; done))

@[simp] theorem core_dropRound (r : AskRound) (s : State) : coreOf (dropRound r s) = coreOf s := by
  unfold dropRound
  try dsimp only
  repeat' split
  all_goals (first | with_reducible rfl | (simp; done))

@[simp] theorem core_abortRound (r : AskRound) (d b detail : Nat) (s : State) : coreOf (abortRound r d b detail s) = coreOf s := by
  unfold abortRound
  try dsimp only
  repeat' split
  all_goals (first | with_reducible rfl | (simp; done))

@[simp] theorem core_roundDone (r : AskRound) (s : State) : coreOf (roundDone r s) = coreOf s := by
  unfold roundDone
  try dsimp only
  repeat' split
  all_goals (first | with_reducible rfl | (simp; done))

@[simp] theorem core_startRound (by' : AskBy) (hib : Bool) (t : DomState) (ds : List Nat) (s : State) : coreOf (startRound by' hib t ds s) = coreOf s := by
  unfold startRound
  try dsimp only
  repeat' split
  all_goals (first | with_reducible rfl | (simp; done))

@[simp] theorem core_takeAck (r : AskRound) (d b : Nat) (s : State) : coreOf (takeAck r d b s) = coreOf s := by
  unfold takeAck
  try dsimp only
  repeat' split
  all_goals (first | with_reducible rfl | (simp; done))

@[simp] theorem core_ackNow (d b : Nat) (s : State) : coreOf (ackNow d b s) = coreOf s := by
  unfold ackNow
  try dsimp only
  repeat' split
  all_goals (first | with_reducible rfl | (simp; done))

@[simp] theorem core_askNow (e : Env) (t : DomState) (ds : List Nat) (s : State) : coreOf (askNow e t ds s) = coreOf s := by
  unfold askNow
  try dsimp only
  repeat' split
  all_goals (first | with_reducible rfl | (simp; done))

@[simp] theorem core_noteIdle (s : State) : coreOf (noteIdle s) = coreOf s := by
  unfold noteIdle
  try dsimp only
  repeat' split
  all_goals (first | with_reducible rfl | (simp; done))

@[simp] theorem core_settleEntry (s : State) : coreOf (settleEntry s) = coreOf s := by
  unfold settleEntry
  try dsimp only
  repeat' split
  all_goals (first | with_reducible rfl | (simp; done))

@[simp] theorem core_domUp (d : Nat) (s : State) : coreOf (domUp d s) = coreOf s := by
  unfold domUp
  try dsimp only
  repeat' split
  all_goals (first | with_reducible rfl | (simp; done))

@[simp] theorem core_markFail (d cause : Nat) (s : State) : coreOf (markFail d cause s) = coreOf s := by
  unfold markFail
  try dsimp only
  repeat' split
  all_goals (first | with_reducible rfl | (simp; done))

@[simp] theorem core_wakeFails (d cause : Nat) (s : State) : coreOf (wakeFails d cause s) = coreOf s := by
  unfold wakeFails
  try dsimp only
  repeat' split
  all_goals (first | with_reducible rfl | (simp; done))

@[simp] theorem core_warmEntry (s : State) : coreOf (warmEntry s) = coreOf s := by
  unfold warmEntry
  try dsimp only
  repeat' split
  all_goals (first | with_reducible rfl | (simp; done))

@[simp] theorem core_settleExit (s : State) : coreOf (settleExit s) = coreOf s := by
  unfold settleExit
  try dsimp only
  repeat' split
  all_goals (first | with_reducible rfl | (simp; done))

@[simp] theorem core_closeSwitch (d : Nat) (s : State) : coreOf (closeSwitch d s) = coreOf s := by
  unfold closeSwitch
  try dsimp only
  repeat' split
  all_goals (first | with_reducible rfl | (simp; done))

@[simp] theorem core_leaveDoze (d : Nat) (s : State) : coreOf (leaveDoze d s) = coreOf s := by
  unfold leaveDoze
  try dsimp only
  repeat' split
  all_goals (first | with_reducible rfl | (simp; done))

@[simp] theorem core_leaveSleep (d : Nat) (s : State) : coreOf (leaveSleep d s) = coreOf s := by
  unfold leaveSleep
  try dsimp only
  repeat' split
  all_goals (first | with_reducible rfl | (simp; done))

@[simp] theorem core_retryWorked (d step : Nat) (s : State) : coreOf (retryWorked d step s) = coreOf s := by
  unfold retryWorked
  try dsimp only
  repeat' split
  all_goals (first | with_reducible rfl | (simp; done))

@[simp] theorem core_exitPowered (s : State) : coreOf (exitPowered s) = coreOf s := by
  unfold exitPowered
  try dsimp only
  repeat' split
  all_goals (first | with_reducible rfl | (simp; done))

@[simp] theorem core_leaveHibernate (s : State) : coreOf (leaveHibernate s) = coreOf s := by
  unfold leaveHibernate
  try dsimp only
  repeat' split
  all_goals (first | with_reducible rfl | (simp; done))

@[simp] theorem core_pllLost (k : Nat) (onB : Bool) (s : State) : coreOf (pllLost k onB s) = coreOf s := by
  unfold pllLost
  try dsimp only
  repeat' split
  all_goals (first | with_reducible rfl | (simp; done))

@[simp] theorem core_pllTimeout (d : Nat) (retry : Bool) (s : State) : coreOf (pllTimeout d retry s) = coreOf s := by
  unfold pllTimeout
  try dsimp only
  repeat' split
  all_goals (first | with_reducible rfl | (simp; done))

@[simp] theorem core_regFails (s : State) : coreOf (regFails s) = coreOf s := by
  unfold regFails
  try dsimp only
  repeat' split
  all_goals (first | with_reducible rfl | (simp; done))

@[simp] theorem core_cutEntries (s : State) : coreOf (cutEntries s) = coreOf s := by
  unfold cutEntries
  try dsimp only
  repeat' split
  all_goals (first | with_reducible rfl | (simp; done))

@[simp] theorem core_causeWake (d : Nat) (s : State) : coreOf (causeWake d s) = coreOf s := by
  unfold causeWake
  try dsimp only
  repeat' split
  all_goals (first | with_reducible rfl | (simp; done))

@[simp] theorem core_cycleDone (s : State) : coreOf (cycleDone s) = coreOf s := by
  unfold cycleDone
  try dsimp only
  repeat' split
  all_goals (first | with_reducible rfl | (simp; done))

@[simp] theorem core_testDone (u result corrected : Nat) (s : State) : coreOf (testDone u result corrected s) = coreOf s := by
  unfold testDone
  try dsimp only
  repeat' split
  all_goals (first | with_reducible rfl | (simp; done))

@[simp] theorem core_testFault (u : Nat) (s : State) : coreOf (testFault u s) = coreOf s := by
  unfold testFault
  try dsimp only
  repeat' split
  all_goals (first | with_reducible rfl | (simp; done))

@[simp] theorem core_restoreUnit (u : Nat) (s : State) : coreOf (restoreUnit u s) = coreOf s := by
  unfold restoreUnit
  try dsimp only
  repeat' split
  all_goals (first | with_reducible rfl | (simp; done))

@[simp] theorem core_loseLine (u owner : Nat) (s : State) (x : LostLine) : coreOf (loseLine u owner s x) = coreOf s := by
  unfold loseLine
  try dsimp only
  repeat' split
  all_goals (first | with_reducible rfl | (simp; done))

@[simp] theorem core_sezLeave (s : State) : coreOf (sezLeave s) = coreOf s := by
  unfold sezLeave
  try dsimp only
  repeat' split
  all_goals (first | with_reducible rfl | (simp; done))

@[simp] theorem core_takeInbox (p : Nat) (d : List Byte) (s : State) : coreOf (takeInbox p d s) = coreOf s := by
  unfold takeInbox
  try dsimp only
  repeat' split
  all_goals (first | with_reducible rfl | (simp; done))

@[simp] theorem core_receiveCtl (msg p : Nat) (d : List Byte) (eff : CtlMsg → State → State) (h : ∀ m s, coreOf (eff m s) = coreOf s) (s : State) :
    coreOf (receiveCtl msg p d eff s) = coreOf s := by
  unfold receiveCtl
  dsimp only
  repeat' split
  all_goals simp [h]

@[simp] theorem core_noteSeen (m : CtlMsg) (s : State) : coreOf (noteSeen m s) = coreOf s := by
  unfold noteSeen
  try dsimp only
  repeat' split
  all_goals (first | with_reducible rfl | (simp; done))

@[simp] theorem core_receiveFlood (msg p : Nat) (d : List Byte) (eff : CtlMsg → State → State) (h : ∀ m s, coreOf (eff m s) = coreOf s) (s : State) :
    coreOf (receiveFlood msg p d eff s) = coreOf s := by
  unfold receiveFlood
  exact core_receiveCtl _ _ _ _ (fun m s => by split <;> simp [h]) s

@[simp] theorem core_setConflict (on : Bool) (s : State) : coreOf (setConflict on s) = coreOf s := by
  unfold setConflict
  try dsimp only
  repeat' split
  all_goals (first | with_reducible rfl | (simp; done))

@[simp] theorem core_keepMember (i : Nat) (m : Member) (s : State) : coreOf (keepMember i m s) = coreOf s := by
  unfold keepMember
  try dsimp only
  repeat' split
  all_goals (first | with_reducible rfl | (simp; done))

@[simp] theorem core_forgetMember (i : Nat) (record rival : Bool) (s : State) : coreOf (forgetMember i record rival s) = coreOf s := by
  unfold forgetMember
  try dsimp only
  repeat' split
  all_goals (first | with_reducible rfl | (simp; done))

@[simp] theorem core_servoActs (upValid : Bool) (offset : Int) (s : State) : coreOf (servoActs upValid offset s) = coreOf s := by
  unfold servoActs
  try dsimp only
  repeat' split
  all_goals (first | with_reducible rfl | (simp; done))

@[simp] theorem core_servoSynt (s : State) : coreOf (servoSynt s) = coreOf s := by
  unfold servoSynt
  try dsimp only
  repeat' split
  all_goals (first | with_reducible rfl | (simp; done))

@[simp] theorem core_takeOffset (upValid : Bool) (offset : Int) (s : State) : coreOf (takeOffset upValid offset s) = coreOf s := by
  unfold takeOffset
  try dsimp only
  repeat' split
  all_goals (first | with_reducible rfl | (simp; done))

@[simp] theorem core_settleSet (set result culprit : Nat) (s : State) : coreOf (settleSet set result culprit s) = coreOf s := by
  unfold settleSet
  try dsimp only
  repeat' split
  all_goals (first | with_reducible rfl | (simp; done))

@[simp] theorem core_decideSet (c : Coord) (result culprit : Nat) (s : State) : coreOf (decideSet c result culprit s) = coreOf s := by
  unfold decideSet
  try dsimp only
  repeat' split
  all_goals (first | with_reducible rfl | (simp; done))

@[simp] theorem core_tryCommit (c : Coord) (s : State) : coreOf (tryCommit c s) = coreOf s := by
  unfold tryCommit
  try dsimp only
  repeat' split
  all_goals (first | with_reducible rfl | (simp; done))

@[simp] theorem core_sendVote (v : Voting) (s : State) : coreOf (sendVote v s) = coreOf s := by
  unfold sendVote
  try dsimp only
  repeat' split
  all_goals (first | with_reducible rfl | (simp; done))

@[simp] theorem core_backInStep (s : State) : coreOf (backInStep s) = coreOf s := by
  unfold backInStep
  try dsimp only
  repeat' split
  all_goals (first | with_reducible rfl | (simp; done))

@[simp] theorem core_settleApplied (e : Env) (id : Nat) (s : State) : coreOf (settleApplied e id s) = coreOf s := by
  unfold settleApplied
  try dsimp only
  repeat' split
  all_goals (first | with_reducible rfl | (simp; done))

@[simp] theorem core_settleDiscarded (e : Env) (id : Nat) (s : State) : coreOf (settleDiscarded e id s) = coreOf s := by
  unfold settleDiscarded
  try dsimp only
  repeat' split
  all_goals (first | with_reducible rfl | (simp; done))

@[simp] theorem core_askReset (k op : Nat) (e : Env) (s : State) : coreOf (askReset k op e s) = coreOf s := by
  unfold askReset
  try dsimp only
  repeat' split
  all_goals (first | with_reducible rfl | (simp; done))

@[simp] theorem core_mailboxUnknown (s : State) : coreOf (mailboxUnknown s) = coreOf s := by
  unfold mailboxUnknown
  repeat' split
  all_goals first
    | with_reducible rfl
    | exact core_ifTurn  _ _ (fun s => by simp) _

@[simp] theorem core_otdUnknown (s : State) : coreOf (otdUnknown s) = coreOf s := by
  unfold otdUnknown
  try dsimp only
  repeat' split
  all_goals (first | with_reducible rfl | (simp; done))

@[simp] theorem core_rewriteAdmin (s : State) : coreOf (rewriteAdmin s) = coreOf s := by
  unfold rewriteAdmin
  try dsimp only
  repeat' split
  all_goals (first | with_reducible rfl | (simp; done))

end Sys2Proof.Machine
end

