-- ==== Sys2Proof/Laws/CoreExec.lean ====
section
/-! SUPPORT. For every meaning that leaves the core of the state alone, the lemma that says so of its next state. -/

namespace Sys2Proof.Machine

theorem core_execGateListSet (e : Env) (s : State) {t : State} (h : execGateListSet e s = .next t) : coreOf t = coreOf s := by
  simp only [execGateListSet, Host.Outcome.next.injEq] at h
  subst h
  refine core_runStagedV _ _ _ _ _ _ _ _ _ _ (fun _ => rfl) (fun s => ?_) _
  try dsimp only
  repeat' split
  all_goals (first | with_reducible rfl | (simp; done))

theorem core_execGateEnableOn (e : Env) (s : State) {t : State} (h : execGateEnableOn e s = .next t) : coreOf t = coreOf s := by
  simp only [execGateEnableOn, Host.Outcome.next.injEq] at h
  subst h
  refine core_runStagedV _ _ _ _ _ _ _ _ _ _ (fun _ => rfl) (fun s => ?_) _
  try dsimp only
  repeat' split
  all_goals (first | with_reducible rfl | (simp; done))

theorem core_execGateEnableOff (e : Env) (s : State) {t : State} (h : execGateEnableOff e s = .next t) : coreOf t = coreOf s := by
  simp only [execGateEnableOff, Host.Outcome.next.injEq] at h
  subst h
  repeat' split
  all_goals (first | with_reducible rfl | (simp; done))

theorem core_execGateStatus (e : Env) (s : State) {t : State} (h : execGateStatus e s = .next t) : coreOf t = coreOf s := by
  simp only [execGateStatus, Host.Outcome.next.injEq] at h
  subst h
  repeat' split
  all_goals (first | with_reducible rfl | (simp; done))

theorem core_execGateOverheadSet (e : Env) (s : State) {t : State} (h : execGateOverheadSet e s = .next t) : coreOf t = coreOf s := by
  simp only [execGateOverheadSet, Host.Outcome.next.injEq] at h
  subst h
  repeat' split
  all_goals (first | with_reducible rfl | (simp; done))

theorem core_execGateListStart (p : Nat) (s : State) {t : State} (h : execGateListStart p s = .next t) : coreOf t = coreOf s := by
  unfold execGateListStart at h
  try dsimp only at h
  repeat' split at h
  all_goals
    simp only [Host.Outcome.next.injEq] at h
    subst h
    first | with_reducible rfl | (simp; done) | (repeat' split) <;> simp

theorem core_execGateEntry (p : Nat) (s : State) {t : State} (h : execGateEntry p s = .next t) : coreOf t = coreOf s := by
  unfold execGateEntry at h
  try dsimp only at h
  repeat' split at h
  all_goals
    simp only [Host.Outcome.next.injEq] at h
    subst h
    first | with_reducible rfl | (simp; done) | (repeat' split) <;> simp

theorem core_execHoldAssert (p : Nat) (s : State) {t : State} (h : execHoldAssert p s = .next t) : coreOf t = coreOf s := by
  simp only [execHoldAssert, Host.Outcome.next.injEq] at h
  subst h
  repeat' split
  all_goals (first | with_reducible rfl | (simp; done))

theorem core_execPoolCreate (e : Env) (s : State) {t : State} (h : execPoolCreate e s = .next t) : coreOf t = coreOf s := by
  simp only [execPoolCreate, Host.Outcome.next.injEq] at h
  subst h
  repeat' split
  all_goals (first | with_reducible rfl | (simp; done))

theorem core_execPoolDelete (e : Env) (s : State) {t : State} (h : execPoolDelete e s = .next t) : coreOf t = coreOf s := by
  simp only [execPoolDelete, Host.Outcome.next.injEq] at h
  subst h
  repeat' split
  all_goals (first | with_reducible rfl | (simp; done))

theorem core_execFlowMinSet (e : Env) (s : State) {t : State} (h : execFlowMinSet e s = .next t) : coreOf t = coreOf s := by
  simp only [execFlowMinSet, Host.Outcome.next.injEq] at h
  subst h
  repeat' split
  all_goals (first | with_reducible rfl | (simp; done))

theorem core_execSharedLimitSet (e : Env) (s : State) {t : State} (h : execSharedLimitSet e s = .next t) : coreOf t = coreOf s := by
  simp only [execSharedLimitSet, Host.Outcome.next.injEq] at h
  subst h
  repeat' split
  all_goals (first | with_reducible rfl | (simp; done))

theorem core_execBufStatus (e : Env) (s : State) {t : State} (h : execBufStatus e s = .next t) : coreOf t = coreOf s := by
  simp only [execBufStatus, Host.Outcome.next.injEq] at h
  subst h
  repeat' split
  all_goals (first | with_reducible rfl | (simp; done))

theorem core_execCutThroughSet (e : Env) (s : State) {t : State} (h : execCutThroughSet e s = .next t) : coreOf t = coreOf s := by
  simp only [execCutThroughSet, Host.Outcome.next.injEq] at h
  subst h
  repeat' split
  all_goals (first | with_reducible rfl | (simp; done))

theorem core_execVlanSetVlan (e : Env) (s : State) {t : State} (h : execVlanSetVlan e s = .next t) : coreOf t = coreOf s := by
  simp only [execVlanSetVlan, Host.Outcome.next.injEq] at h
  subst h
  repeat' split
  all_goals (first | with_reducible rfl | (simp; done))

theorem core_execVlanSetPort (e : Env) (s : State) {t : State} (h : execVlanSetPort e s = .next t) : coreOf t = coreOf s := by
  simp only [execVlanSetPort, Host.Outcome.next.injEq] at h
  subst h
  repeat' split
  all_goals (first | with_reducible rfl | (simp; done))

theorem core_execMacAdd (e : Env) (s : State) {t : State} (h : execMacAdd e s = .next t) : coreOf t = coreOf s := by
  simp only [execMacAdd, Host.Outcome.next.injEq] at h
  subst h
  repeat' split
  all_goals (first | with_reducible rfl | (simp; done))

theorem core_execMacDelete (e : Env) (s : State) {t : State} (h : execMacDelete e s = .next t) : coreOf t = coreOf s := by
  simp only [execMacDelete, Host.Outcome.next.injEq] at h
  subst h
  repeat' split
  all_goals (first | with_reducible rfl | (simp; done))

theorem core_execMacFlush (e : Env) (s : State) {t : State} (h : execMacFlush e s = .next t) : coreOf t = coreOf s := by
  simp only [execMacFlush, Host.Outcome.next.injEq] at h
  subst h
  repeat' split
  all_goals (first | with_reducible rfl | (simp; done))

theorem core_execLearnCfgGlobal (e : Env) (s : State) {t : State} (h : execLearnCfgGlobal e s = .next t) : coreOf t = coreOf s := by
  simp only [execLearnCfgGlobal, Host.Outcome.next.injEq] at h
  subst h
  repeat' split
  all_goals (first | with_reducible rfl | (simp; done))

theorem core_execLearnCfgPort (e : Env) (s : State) {t : State} (h : execLearnCfgPort e s = .next t) : coreOf t = coreOf s := by
  simp only [execLearnCfgPort, Host.Outcome.next.injEq] at h
  subst h
  repeat' split
  all_goals (first | with_reducible rfl | (simp; done))

theorem core_execMcastGroupSet (e : Env) (s : State) {t : State} (h : execMcastGroupSet e s = .next t) : coreOf t = coreOf s := by
  simp only [execMcastGroupSet, Host.Outcome.next.injEq] at h
  subst h
  repeat' split
  all_goals (first | with_reducible rfl | (simp; done))

theorem core_execLagSet (e : Env) (s : State) {t : State} (h : execLagSet e s = .next t) : coreOf t = coreOf s := by
  simp only [execLagSet, Host.Outcome.next.injEq] at h
  subst h
  repeat' split
  all_goals (first | with_reducible rfl | (simp; done))

theorem core_execMacDump (e : Env) (s : State) {t : State} (h : execMacDump e s = .next t) : coreOf t = coreOf s := by
  simp only [execMacDump, Host.Outcome.next.injEq] at h
  subst h
  repeat' split
  all_goals (first | with_reducible rfl | (simp; done))

theorem core_execLearnApply (s : State) {t : State} (h : execLearnApply s = .next t) : coreOf t = coreOf s := by
  unfold execLearnApply at h
  try dsimp only at h
  repeat' split at h
  all_goals
    simp only [Host.Outcome.next.injEq] at h
    subst h
    first | with_reducible rfl | (simp; done) | (repeat' split) <;> simp

theorem core_execMacAgeScan (s : State) {t : State} (h : execMacAgeScan s = .next t) : coreOf t = coreOf s := by
  unfold execMacAgeScan at h
  try dsimp only at h
  repeat' split at h
  all_goals
    simp only [Host.Outcome.next.injEq] at h
    subst h
    first | with_reducible rfl | (simp; done) | (repeat' split) <;> simp

theorem core_execFreezeExpiry (fid mac : Nat) (s : State) {t : State} (h : execFreezeExpiry fid mac s = .next t) : coreOf t = coreOf s := by
  simp only [execFreezeExpiry, Host.Outcome.next.injEq] at h
  subst h
  repeat' split
  all_goals (first | with_reducible rfl | (simp; done))

theorem core_execFlowAdd (e : Env) (s : State) {t : State} (h : execFlowAdd e s = .next t) : coreOf t = coreOf s := by
  simp only [execFlowAdd, Host.Outcome.next.injEq] at h
  subst h
  repeat' split
  all_goals (first | with_reducible rfl | (simp; done))

theorem core_execFlowModify (e : Env) (s : State) {t : State} (h : execFlowModify e s = .next t) : coreOf t = coreOf s := by
  simp only [execFlowModify, Host.Outcome.next.injEq] at h
  subst h
  repeat' split
  all_goals (first | with_reducible rfl | (simp; done))

theorem core_execFlowDelete (e : Env) (s : State) {t : State} (h : execFlowDelete e s = .next t) : coreOf t = coreOf s := by
  simp only [execFlowDelete, Host.Outcome.next.injEq] at h
  subst h
  repeat' split
  all_goals (first | with_reducible rfl | (simp; done))

theorem core_execFlowRead (e : Env) (s : State) {t : State} (h : execFlowRead e s = .next t) : coreOf t = coreOf s := by
  simp only [execFlowRead, Host.Outcome.next.injEq] at h
  subst h
  repeat' split
  all_goals (first | with_reducible rfl | (simp; done))

theorem core_execFlowCounters (e : Env) (s : State) {t : State} (h : execFlowCounters e s = .next t) : coreOf t = coreOf s := by
  simp only [execFlowCounters, Host.Outcome.next.injEq] at h
  subst h
  repeat' split
  all_goals (first | with_reducible rfl | (simp; done))

theorem core_execPrpHsrSet (e : Env) (s : State) {t : State} (h : execPrpHsrSet e s = .next t) : coreOf t = coreOf s := by
  simp only [execPrpHsrSet, Host.Outcome.next.injEq] at h
  subst h
  repeat' split
  all_goals (first | with_reducible rfl | (simp; done))

theorem core_execGapTimeout (sl flow : Nat) (s : State) {t : State} (h : execGapTimeout sl flow s = .next t) : coreOf t = coreOf s := by
  simp only [execGapTimeout, Host.Outcome.next.injEq] at h
  subst h
  repeat' split
  all_goals (first | with_reducible rfl | (simp; done))

theorem core_execLinkFault (p : Nat) (stat : LinkStat) (s : State) {t : State} (h : execLinkFault p stat s = .next t) : coreOf t = coreOf s := by
  simp only [execLinkFault, Host.Outcome.next.injEq] at h
  subst h
  repeat' split
  all_goals (first | with_reducible rfl | (simp; done))

theorem core_execLinkFaultClear (p : Nat) (s : State) {t : State} (h : execLinkFaultClear p s = .next t) : coreOf t = coreOf s := by
  simp only [execLinkFaultClear, Host.Outcome.next.injEq] at h
  subst h
  repeat' split
  all_goals (first | with_reducible rfl | (simp; done))

theorem core_execLinkUp (p : Nat) (s : State) {t : State} (h : execLinkUp p s = .next t) : coreOf t = coreOf s := by
  simp only [execLinkUp, Host.Outcome.next.injEq] at h
  subst h
  repeat' split
  all_goals (first | with_reducible rfl | (simp; done))

theorem core_execLinkHoldExpiry (p : Nat) (s : State) {t : State} (h : execLinkHoldExpiry p s = .next t) : coreOf t = coreOf s := by
  simp only [execLinkHoldExpiry, Host.Outcome.next.injEq] at h
  subst h
  repeat' split
  all_goals (first | with_reducible rfl | (simp; done))

theorem core_execParseNodeSet (e : Env) (s : State) {t : State} (h : execParseNodeSet e s = .next t) : coreOf t = coreOf s := by
  simp only [execParseNodeSet, Host.Outcome.next.injEq] at h
  subst h
  repeat' split
  all_goals (first | with_reducible rfl | (simp; done))

theorem core_execParseNodeGet (e : Env) (s : State) {t : State} (h : execParseNodeGet e s = .next t) : coreOf t = coreOf s := by
  simp only [execParseNodeGet, Host.Outcome.next.injEq] at h
  subst h
  repeat' split
  all_goals (first | with_reducible rfl | (simp; done))

theorem core_execParseGraphDefault (e : Env) (s : State) {t : State} (h : execParseGraphDefault e s = .next t) : coreOf t = coreOf s := by
  simp only [execParseGraphDefault, Host.Outcome.next.injEq] at h
  subst h
  repeat' split
  all_goals (first | with_reducible rfl | (simp; done))

theorem core_execParseCounters (e : Env) (s : State) {t : State} (h : execParseCounters e s = .next t) : coreOf t = coreOf s := by
  simp only [execParseCounters, Host.Outcome.next.injEq] at h
  subst h
  repeat' split
  all_goals (first | with_reducible rfl | (simp; done))

theorem core_execTableCreate (e : Env) (s : State) {t : State} (h : execTableCreate e s = .next t) : coreOf t = coreOf s := by
  simp only [execTableCreate, Host.Outcome.next.injEq] at h
  subst h
  repeat' split
  all_goals (first | with_reducible rfl | (simp; done))

theorem core_execTableDelete (e : Env) (s : State) {t : State} (h : execTableDelete e s = .next t) : coreOf t = coreOf s := by
  simp only [execTableDelete, Host.Outcome.next.injEq] at h
  subst h
  repeat' split
  all_goals (first | with_reducible rfl | (simp; done))

theorem core_execEntryWrite (e : Env) (s : State) {t : State} (h : execEntryWrite e s = .next t) : coreOf t = coreOf s := by
  simp only [execEntryWrite, Host.Outcome.next.injEq] at h
  subst h
  repeat' split
  all_goals (first | with_reducible rfl | (simp; done))

theorem core_execEntryDelete (e : Env) (s : State) {t : State} (h : execEntryDelete e s = .next t) : coreOf t = coreOf s := by
  simp only [execEntryDelete, Host.Outcome.next.injEq] at h
  subst h
  repeat' split
  all_goals (first | with_reducible rfl | (simp; done))

theorem core_execEntryRead (e : Env) (s : State) {t : State} (h : execEntryRead e s = .next t) : coreOf t = coreOf s := by
  simp only [execEntryRead, Host.Outcome.next.injEq] at h
  subst h
  repeat' split
  all_goals (first | with_reducible rfl | (simp; done))

theorem core_execTableDump (e : Env) (s : State) {t : State} (h : execTableDump e s = .next t) : coreOf t = coreOf s := by
  simp only [execTableDump, Host.Outcome.next.injEq] at h
  subst h
  repeat' split
  all_goals (first | with_reducible rfl | (simp; done))

theorem core_execKeyProfileSet (e : Env) (s : State) {t : State} (h : execKeyProfileSet e s = .next t) : coreOf t = coreOf s := by
  simp only [execKeyProfileSet, Host.Outcome.next.injEq] at h
  subst h
  repeat' split
  all_goals (first | with_reducible rfl | (simp; done))

theorem core_execProgLoad (e : Env) (s : State) {t : State} (h : execProgLoad e s = .next t) : coreOf t = coreOf s := by
  simp only [execProgLoad, Host.Outcome.next.injEq] at h
  subst h
  refine core_ifTurn _ _ (fun s => ?_) _
  try dsimp only
  repeat' split
  all_goals (first | with_reducible rfl | (simp; done))

theorem core_execProgUnload (e : Env) (s : State) {t : State} (h : execProgUnload e s = .next t) : coreOf t = coreOf s := by
  simp only [execProgUnload, Host.Outcome.next.injEq] at h
  subst h
  repeat' split
  all_goals (first | with_reducible rfl | (simp; done))

theorem core_execProgBindMap (e : Env) (s : State) {t : State} (h : execProgBindMap e s = .next t) : coreOf t = coreOf s := by
  simp only [execProgBindMap, Host.Outcome.next.injEq] at h
  subst h
  repeat' split
  all_goals (first | with_reducible rfl | (simp; done))

theorem core_execProgBindDefault (e : Env) (s : State) {t : State} (h : execProgBindDefault e s = .next t) : coreOf t = coreOf s := by
  simp only [execProgBindDefault, Host.Outcome.next.injEq] at h
  subst h
  repeat' split
  all_goals (first | with_reducible rfl | (simp; done))

theorem core_execEngineStatus (e : Env) (s : State) {t : State} (h : execEngineStatus e s = .next t) : coreOf t = coreOf s := by
  simp only [execEngineStatus, Host.Outcome.next.injEq] at h
  subst h
  repeat' split
  all_goals (first | with_reducible rfl | (simp; done))

theorem core_execEngineResetDone (g : Nat) (s : State) {t : State} (h : execEngineResetDone g s = .next t) : coreOf t = coreOf s := by
  simp only [execEngineResetDone, Host.Outcome.next.injEq] at h
  subst h
  repeat' split
  all_goals (first | with_reducible rfl | (simp; done))

theorem core_execConstSet (e : Env) (s : State) {t : State} (h : execConstSet e s = .next t) : coreOf t = coreOf s := by
  simp only [execConstSet, Host.Outcome.next.injEq] at h
  subst h
  repeat' split
  all_goals (first | with_reducible rfl | (simp; done))

theorem core_execScratchRead (e : Env) (s : State) {t : State} (h : execScratchRead e s = .next t) : coreOf t = coreOf s := by
  simp only [execScratchRead, Host.Outcome.next.injEq] at h
  subst h
  repeat' split
  all_goals (first | with_reducible rfl | (simp; done))

theorem core_execPortCfg (e : Env) (s : State) {t : State} (h : execPortCfg e s = .next t) : coreOf t = coreOf s := by
  simp only [execPortCfg, Host.Outcome.next.injEq] at h
  subst h
  repeat' split
  all_goals (first | with_reducible rfl | (simp; done))

theorem core_execPortAdminUp (e : Env) (s : State) {t : State} (h : execPortAdminUp e s = .next t) : coreOf t = coreOf s := by
  simp only [execPortAdminUp, Host.Outcome.next.injEq] at h
  subst h
  repeat' split
  all_goals (first | with_reducible rfl | (simp; done))

theorem core_execPortAdminDown (e : Env) (s : State) {t : State} (h : execPortAdminDown e s = .next t) : coreOf t = coreOf s := by
  simp only [execPortAdminDown, Host.Outcome.next.injEq] at h
  subst h
  repeat' split
  all_goals (first | with_reducible rfl | (simp; done))

theorem core_execPortStatus (e : Env) (s : State) {t : State} (h : execPortStatus e s = .next t) : coreOf t = coreOf s := by
  simp only [execPortStatus, Host.Outcome.next.injEq] at h
  subst h
  repeat' split
  all_goals (first | with_reducible rfl | (simp; done))

theorem core_execPortCounters (e : Env) (s : State) {t : State} (h : execPortCounters e s = .next t) : coreOf t = coreOf s := by
  simp only [execPortCounters, Host.Outcome.next.injEq] at h
  subst h
  repeat' split
  all_goals (first | with_reducible rfl | (simp; done))

theorem core_execPortFc (e : Env) (s : State) {t : State} (h : execPortFc e s = .next t) : coreOf t = coreOf s := by
  simp only [execPortFc, Host.Outcome.next.injEq] at h
  subst h
  repeat' split
  all_goals (first | with_reducible rfl | (simp; done))

theorem core_execPortPreempt (e : Env) (s : State) {t : State} (h : execPortPreempt e s = .next t) : coreOf t = coreOf s := by
  simp only [execPortPreempt, Host.Outcome.next.injEq] at h
  subst h
  repeat' split
  all_goals (first | with_reducible rfl | (simp; done))

theorem core_execPortEee (e : Env) (s : State) {t : State} (h : execPortEee e s = .next t) : coreOf t = coreOf s := by
  simp only [execPortEee, Host.Outcome.next.injEq] at h
  subst h
  repeat' split
  all_goals (first | with_reducible rfl | (simp; done))

theorem core_execPortWakeFilter (e : Env) (s : State) {t : State} (h : execPortWakeFilter e s = .next t) : coreOf t = coreOf s := by
  simp only [execPortWakeFilter, Host.Outcome.next.injEq] at h
  subst h
  repeat' split
  all_goals (first | with_reducible rfl | (simp; done))

theorem core_execPortLinkHold (e : Env) (s : State) {t : State} (h : execPortLinkHold e s = .next t) : coreOf t = coreOf s := by
  simp only [execPortLinkHold, Host.Outcome.next.injEq] at h
  subst h
  repeat' split
  all_goals (first | with_reducible rfl | (simp; done))

theorem core_execRxFrame (f : RxFrame) (s0 : State) {t : State} (h : execRxFrame f s0 = .next t) : coreOf t = coreOf s0 := by
  unfold execRxFrame at h
  try dsimp only at h
  repeat' split at h
  all_goals
    simp only [Host.Outcome.next.injEq] at h
    subst h
    first | with_reducible rfl | (simp; done) | (repeat' split) <;> simp

theorem core_execStrayWord (sl lane sub : Nat) (s : State) {t : State} (h : execStrayWord sl lane sub s = .next t) : coreOf t = coreOf s := by
  simp only [execStrayWord, Host.Outcome.next.injEq] at h
  subst h
  repeat' split
  all_goals (first | with_reducible rfl | (simp; done))

theorem core_execPauseExpiry (p prio : Nat) (s : State) {t : State} (h : execPauseExpiry p prio s = .next t) : coreOf t = coreOf s := by
  simp only [execPauseExpiry, Host.Outcome.next.injEq] at h
  subst h
  repeat' split
  all_goals (first | with_reducible rfl | (simp; done))

theorem core_execDenDrain (sl : Nat) (s : State) {t : State} (h : execDenDrain sl s = .next t) : coreOf t = coreOf s := by
  simp only [execDenDrain, Host.Outcome.next.injEq] at h
  subst h
  repeat' split
  all_goals (first | with_reducible rfl | (simp; done))

theorem core_execXoffRefresh (p prio : Nat) (s : State) {t : State} (h : execXoffRefresh p prio s = .next t) : coreOf t = coreOf s := by
  simp only [execXoffRefresh, Host.Outcome.next.injEq] at h
  subst h
  repeat' split
  all_goals (first | with_reducible rfl | (simp; done))

theorem core_execLpiEnter (p : Nat) (s : State) {t : State} (h : execLpiEnter p s = .next t) : coreOf t = coreOf s := by
  simp only [execLpiEnter, Host.Outcome.next.injEq] at h
  subst h
  repeat' split
  all_goals (first | with_reducible rfl | (simp; done))

theorem core_execLpiExit (p : Nat) (s : State) {t : State} (h : execLpiExit p s = .next t) : coreOf t = coreOf s := by
  simp only [execLpiExit, Host.Outcome.next.injEq] at h
  subst h
  repeat' split
  all_goals (first | with_reducible rfl | (simp; done))

theorem core_execPartnerLpi (p : Nat) (level : Bool) (s : State) {t : State} (h : execPartnerLpi p level s = .next t) : coreOf t = coreOf s := by
  simp only [execPartnerLpi, Host.Outcome.next.injEq] at h
  subst h
  repeat' split
  all_goals (first | with_reducible rfl | (simp; done))

theorem core_execPreemptVerify (p : Nat) (event : VerifyEvent) (s : State) {t : State} (h : execPreemptVerify p event s = .next t) : coreOf t = coreOf s := by
  simp only [execPreemptVerify, Host.Outcome.next.injEq] at h
  subst h
  repeat' split
  all_goals (first | with_reducible rfl | (simp; done))

theorem core_execClassify (sl : Nat) (faults : LookupFaults) (s : State) {t : State} (h : execClassify sl faults s = .next t) : coreOf t = coreOf s := by
  simp only [execClassify, Host.Outcome.next.injEq] at h
  subst h
  repeat' split
  all_goals (first | with_reducible rfl | (simp; done))

theorem core_execEngineFault (g : Nat) (fault : EngineFault) (s : State) {t : State} (h : execEngineFault g fault s = .next t) : coreOf t = coreOf s := by
  simp only [execEngineFault, Host.Outcome.next.injEq] at h
  subst h
  repeat' split
  all_goals (first | with_reducible rfl | (simp; done))

theorem core_execEngineReset (e : Env) (s : State) {t : State} (h : execEngineReset e s = .next t) : coreOf t = coreOf s := by
  simp only [execEngineReset, Host.Outcome.next.injEq] at h
  subst h
  repeat' split
  all_goals (first | with_reducible rfl | (simp; done))

theorem core_execCellWrite (sl : Nat) (banks : BankClock) (s : State) {t : State} (h : execCellWrite sl s banks = .next t) : coreOf t = coreOf s := by
  simp only [execCellWrite, Host.Outcome.next.injEq] at h
  subst h
  split
  · rfl
  · split
    · rfl
    · split
      · rfl
      · simp
      · rename_i hw
        rw [← core_writeCell hw]
        try dsimp only
        repeat' split
        all_goals simp

theorem core_execAdmit (sl : Nat) (reads : CtxReads) (s : State) {t : State} (h : execAdmit sl s reads = .next t) : coreOf t = coreOf s := by
  simp only [execAdmit, Host.Outcome.next.injEq] at h
  subst h
  repeat' split
  all_goals (first | with_reducible rfl | (simp; done))

theorem core_execHandoff (f sl : Nat) (reads : CtxReads) (s : State) {t : State} (h : execHandoff f sl s reads = .next t) : coreOf t = coreOf s := by
  simp only [execHandoff, Host.Outcome.next.injEq] at h
  subst h
  repeat' split
  all_goals (first | with_reducible rfl | (simp; done))

theorem core_execQueueMapSet (e : Env) (s : State) {t : State} (h : execQueueMapSet e s = .next t) : coreOf t = coreOf s := by
  simp only [execQueueMapSet, Host.Outcome.next.injEq] at h
  subst h
  repeat' split
  all_goals (first | with_reducible rfl | (simp; done))

theorem core_execSchedSet (e : Env) (s : State) {t : State} (h : execSchedSet e s = .next t) : coreOf t = coreOf s := by
  simp only [execSchedSet, Host.Outcome.next.injEq] at h
  subst h
  repeat' split
  all_goals (first | with_reducible rfl | (simp; done))

theorem core_execShaperSet (e : Env) (s : State) {t : State} (h : execShaperSet e s = .next t) : coreOf t = coreOf s := by
  simp only [execShaperSet, Host.Outcome.next.injEq] at h
  subst h
  repeat' split
  all_goals (first | with_reducible rfl | (simp; done))

theorem core_execPolicerSet (e : Env) (s : State) {t : State} (h : execPolicerSet e s = .next t) : coreOf t = coreOf s := by
  simp only [execPolicerSet, Host.Outcome.next.injEq] at h
  subst h
  repeat' split
  all_goals (first | with_reducible rfl | (simp; done))

theorem core_execStreamFilterSet (e : Env) (s : State) {t : State} (h : execStreamFilterSet e s = .next t) : coreOf t = coreOf s := by
  simp only [execStreamFilterSet, Host.Outcome.next.injEq] at h
  subst h
  repeat' split
  all_goals (first | with_reducible rfl | (simp; done))

theorem core_execSampleCfg (e : Env) (s : State) {t : State} (h : execSampleCfg e s = .next t) : coreOf t = coreOf s := by
  simp only [execSampleCfg, Host.Outcome.next.injEq] at h
  subst h
  repeat' split
  all_goals (first | with_reducible rfl | (simp; done))

theorem core_execTmStatus (e : Env) (s : State) {t : State} (h : execTmStatus e s = .next t) : coreOf t = coreOf s := by
  simp only [execTmStatus, Host.Outcome.next.injEq] at h
  subst h
  repeat' split
  all_goals (first | with_reducible rfl | (simp; done))

theorem core_execSample (p : Nat) (s : State) {t : State} (h : execSample p s = .next t) : coreOf t = coreOf s := by
  unfold execSample at h
  try dsimp only at h
  repeat' split at h
  all_goals
    simp only [Host.Outcome.next.injEq] at h
    subst h
    first | with_reducible rfl | (simp; done) | (repeat' split) <;> simp

theorem core_execFoxtrotRingSet (e : Env) (s : State) {t : State} (h : execFoxtrotRingSet e s = .next t) : coreOf t = coreOf s := by
  simp only [execFoxtrotRingSet, Host.Outcome.next.injEq] at h
  subst h
  refine core_runOk _ _ _ _ _ _ (fun s => ?_) _
  repeat' split
  all_goals simp

theorem core_execCapRuleSet (e : Env) (s : State) {t : State} (h : execCapRuleSet e s = .next t) : coreOf t = coreOf s := by
  simp only [execCapRuleSet, Host.Outcome.next.injEq] at h
  subst h
  repeat' split
  all_goals (first | with_reducible rfl | (simp; done))

theorem core_execMirrorSet (e : Env) (s : State) {t : State} (h : execMirrorSet e s = .next t) : coreOf t = coreOf s := by
  simp only [execMirrorSet, Host.Outcome.next.injEq] at h
  subst h
  repeat' split
  all_goals (first | with_reducible rfl | (simp; done))

theorem core_execCapEnable (e : Env) (s : State) {t : State} (h : execCapEnable e s = .next t) : coreOf t = coreOf s := by
  simp only [execCapEnable, Host.Outcome.next.injEq] at h
  subst h
  repeat' split
  all_goals (first | with_reducible rfl | (simp; done))

theorem core_execFoxtrotRecordWrite (ring : Nat) (s : State) {t : State} (h : execFoxtrotRecordWrite ring s = .next t) : coreOf t = coreOf s := by
  unfold execFoxtrotRecordWrite at h
  try dsimp only at h
  repeat' split at h
  all_goals
    simp only [Host.Outcome.next.injEq] at h
    subst h
    first | with_reducible rfl | (simp; done) | (repeat' split) <;> simp

theorem core_execFoxtrotConsPoll (ring : Nat) (word : Word) (s : State) {t : State} (h : execFoxtrotConsPoll ring word s = .next t) : coreOf t = coreOf s := by
  unfold execFoxtrotConsPoll at h
  try dsimp only at h
  repeat' split at h
  all_goals
    simp only [Host.Outcome.next.injEq] at h
    subst h
    first | with_reducible rfl | (simp; done) | (repeat' split) <;> simp

theorem core_execMcastStoreExpiry (sl f : Nat) (s : State) {t : State} (h : execMcastStoreExpiry sl f s = .next t) : coreOf t = coreOf s := by
  simp only [execMcastStoreExpiry, Host.Outcome.next.injEq] at h
  subst h
  repeat' split
  all_goals (first | with_reducible rfl | (simp; done))

theorem core_execSchedRelease (p : Nat) (reads : CellReads) (s : State) {t : State} (h : execSchedRelease p reads s = .next t) : coreOf t = coreOf s := by
  simp only [execSchedRelease, Host.Outcome.next.injEq] at h
  subst h
  repeat' split
  all_goals (first | with_reducible rfl | (simp; done))

theorem core_execE3Pass (p : Nat) (faults : LookupFaults) (s : State) {t : State} (h : execE3Pass p faults s = .next t) : coreOf t = coreOf s := by
  simp only [execE3Pass, Host.Outcome.next.injEq] at h
  subst h
  repeat' split
  all_goals first
    | with_reducible rfl
    | (simp; done)
    | (rename_i hd; rw [core_egressDrop_some hd]; simp; done)
    | (rename_i hd; simp [core_egressDrop_none hd]; done)
    | (rename_i hd _; simp [core_egressDrop_none hd]; done)

theorem core_execDoneLogConsume (sl : Nat) (s : State) {t : State} (h : execDoneLogConsume sl s = .next t) : coreOf t = coreOf s := by
  simp only [execDoneLogConsume, Host.Outcome.next.injEq] at h
  subst h
  repeat' split
  all_goals (first | with_reducible rfl | (simp; done))

theorem core_execSliceCoreRecover (sl : Nat) (s : State) {t : State} (h : execSliceCoreRecover sl s = .next t) : coreOf t = coreOf s := by
  simp only [execSliceCoreRecover, Host.Outcome.next.injEq] at h
  subst h
  repeat' split
  all_goals (first | with_reducible rfl | (simp; done))

theorem core_execAgeScan (sl : Nat) (s : State) {t : State} (h : execAgeScan sl s = .next t) : coreOf t = coreOf s := by
  simp only [execAgeScan, Host.Outcome.next.injEq] at h
  subst h
  repeat' split
  all_goals (first | with_reducible rfl | (simp; done))

theorem core_execDuplicateEntryForget (node sa : Nat) (s : State) {t : State} (h : execDuplicateEntryForget node sa s = .next t) : coreOf t = coreOf s := by
  simp only [execDuplicateEntryForget, Host.Outcome.next.injEq] at h
  subst h
  repeat' split
  all_goals (first | with_reducible rfl | (simp; done))

theorem core_execTxStart (p : Nat) (tx : TxFirst) (s : State) {t : State} (h : execTxStart p tx s = .next t) : coreOf t = coreOf s := by
  simp only [execTxStart, Host.Outcome.next.injEq] at h
  subst h
  repeat' split
  all_goals (first | with_reducible rfl | (simp; done))

theorem core_execTxDone (p : Nat) (s : State) {t : State} (h : execTxDone p s = .next t) : coreOf t = coreOf s := by
  simp only [execTxDone, Host.Outcome.next.injEq] at h
  subst h
  repeat' split
  all_goals (first | with_reducible rfl | (simp; done))

theorem core_execTxStomp (p : Nat) (cause : StompCause) (s : State) {t : State} (h : execTxStomp p cause s = .next t) : coreOf t = coreOf s := by
  simp only [execTxStomp, Host.Outcome.next.injEq] at h
  subst h
  repeat' split
  all_goals (first | with_reducible rfl | (simp; done))

theorem core_execTxHint (p hint : Nat) (early : Bool) (s : State) {t : State} (h : execTxHint p hint s early = .next t) : coreOf t = coreOf s := by
  simp only [execTxHint, Host.Outcome.next.injEq] at h
  subst h
  repeat' split
  all_goals (first | with_reducible rfl | (simp; done))

theorem core_execHintMissing (p : Nat) (s : State) {t : State} (h : execHintMissing p s = .next t) : coreOf t = coreOf s := by
  simp only [execHintMissing, Host.Outcome.next.injEq] at h
  subst h
  repeat' split
  all_goals (first | with_reducible rfl | (simp; done))

theorem core_execStall (p : Nat) (s : State) {t : State} (h : execStall p s = .next t) : coreOf t = coreOf s := by
  simp only [execStall, Host.Outcome.next.injEq] at h
  subst h
  repeat' split
  all_goals (first | with_reducible rfl | (simp; done))

theorem core_execHeadWb (n : Nat) (s : State) {t : State} (h : execHeadWb n s = .next t) : coreOf t = coreOf s := by
  simp only [execHeadWb, Host.Outcome.next.injEq] at h
  subst h
  repeat' split
  all_goals (first | with_reducible rfl | (simp; done))

theorem core_execHeadWbAck (n : Nat) (s : State) {t : State} (h : execHeadWbAck n s = .next t) : coreOf t = coreOf s := by
  simp only [execHeadWbAck, Host.Outcome.next.injEq] at h
  subst h
  repeat' split
  all_goals (first | with_reducible rfl | (simp; done))

theorem core_execTx (n : Nat) (s : State) {t : State} (h : execTx n s = .next t) : coreOf t = coreOf s := by
  simp only [execTx, Host.Outcome.next.injEq] at h
  subst h
  repeat' split
  all_goals (first | with_reducible rfl | (simp; done))

theorem core_execEntryFetch (n : Nat) (entry : Fetched) (s : State) {t : State} (h : execEntryFetch n entry s = .next t) : coreOf t = coreOf s := by
  simp only [execEntryFetch, Host.Outcome.next.injEq] at h
  subst h
  repeat' split
  all_goals (first | with_reducible rfl | (simp; done))

theorem core_execPhaseRetry (n : Nat) (entry : Fetched) (s : State) {t : State} (h : execPhaseRetry n entry s = .next t) : coreOf t = coreOf s := by
  simp only [execPhaseRetry, Host.Outcome.next.injEq] at h
  subst h
  repeat' split
  all_goals (first | with_reducible rfl | (simp; done))

theorem core_execSqDb (n : Nat) (data : Word) (s : State) {t : State} (h : execSqDb n data s = .next t) : coreOf t = coreOf s := by
  simp only [execSqDb, Host.Outcome.next.injEq] at h
  subst h
  refine core_viaHst _ _ (fun s => ?_) _
  try dsimp only
  repeat' split
  all_goals (first | with_reducible rfl | (simp; done))

theorem core_execCqDb (r : Nat) (data : Word) (s : State) {t : State} (h : execCqDb r data s = .next t) : coreOf t = coreOf s := by
  simp only [execCqDb, Host.Outcome.next.injEq] at h
  subst h
  refine core_viaHst _ _ (fun s => ?_) _
  try dsimp only
  repeat' split
  all_goals (first | with_reducible rfl | (simp; done))

theorem core_execCompletionWrite (n pos : Nat) (s0 : State) {t : State} (h : execCompletionWrite n pos s0 = .next t) : coreOf t = coreOf s0 := by
  simp only [execCompletionWrite, Host.Outcome.next.injEq] at h
  subst h
  repeat' split
  all_goals (first | with_reducible rfl | (simp; done))

theorem core_execCompletionAck (n pos : Nat) (s : State) {t : State} (h : execCompletionAck n pos s = .next t) : coreOf t = coreOf s := by
  simp only [execCompletionAck, Host.Outcome.next.injEq] at h
  subst h
  repeat' split
  all_goals (first | with_reducible rfl | (simp; done))

theorem core_execCoalesceTimer (kind : RingKind) (id : Nat) (s : State) {t : State} (h : execCoalesceTimer kind id s = .next t) : coreOf t = coreOf s := by
  simp only [execCoalesceTimer, Host.Outcome.next.injEq] at h
  subst h
  repeat' split
  all_goals (first | with_reducible rfl | (simp; done))

theorem core_execNop (n : Nat) (s : State) {t : State} (h : execNop n s = .next t) : coreOf t = coreOf s := by
  simp only [execNop, Host.Outcome.next.injEq] at h
  subst h
  repeat' split
  all_goals (first | with_reducible rfl | (simp; done))

theorem core_execAlloc (n : Nat) (same : Bool) (s : State) {t : State} (h : execAlloc n s same = .next t) : coreOf t = coreOf s := by
  simp only [execAlloc, Host.Outcome.next.injEq] at h
  subst h
  repeat' split
  all_goals first
    | with_reducible rfl
    | (simp; done)
    | (rename_i hw; simp [core_poolAlloc_some hw]; done)
    | (rename_i hw _; simp [core_poolAlloc_some hw]; done)

theorem core_execShare (n : Nat) (same : Bool) (s : State) {t : State} (h : execShare n s same = .next t) : coreOf t = coreOf s := by
  simp only [execShare, Host.Outcome.next.injEq] at h
  subst h
  repeat' split
  all_goals (first | with_reducible rfl | (simp; done))

theorem core_execRelease (n : Nat) (same : Bool) (s : State) {t : State} (h : execRelease n s same = .next t) : coreOf t = coreOf s := by
  simp only [execRelease, Host.Outcome.next.injEq] at h
  subst h
  repeat' split
  all_goals (first | with_reducible rfl | (simp; done))

theorem core_execHandover (n : Nat) (same : Bool) (s : State) {t : State} (h : execHandover n s same = .next t) : coreOf t = coreOf s := by
  simp only [execHandover, Host.Outcome.next.injEq] at h
  subst h
  repeat' split
  all_goals (first | with_reducible rfl | (simp; done))

theorem core_execFree (n : Nat) (same : Bool) (s : State) {t : State} (h : execFree n s same = .next t) : coreOf t = coreOf s := by
  simp only [execFree, Host.Outcome.next.injEq] at h
  subst h
  repeat' split
  all_goals (first | with_reducible rfl | (simp; done))

theorem core_execTxHostInject (n : Nat) (s : State) {t : State} (h : execTxHostInject n s = .next t) : coreOf t = coreOf s := by
  simp only [execTxHostInject, Host.Outcome.next.injEq] at h
  subst h
  repeat' split
  all_goals (first | with_reducible rfl | (simp; done))

theorem core_execRxDispatch (p q : Nat) (s : State) {t : State} (h : execRxDispatch p q s = .next t) : coreOf t = coreOf s := by
  simp only [execRxDispatch, Host.Outcome.next.injEq] at h
  subst h
  repeat' split
  all_goals (first | with_reducible rfl | (simp; done))

theorem core_execRxWaitExpiry (p q : Nat) (s : State) {t : State} (h : execRxWaitExpiry p q s = .next t) : coreOf t = coreOf s := by
  simp only [execRxWaitExpiry, Host.Outcome.next.injEq] at h
  subst h
  repeat' split
  all_goals (first | with_reducible rfl | (simp; done))

theorem core_execRingCreate (e : Env) (s : State) {t : State} (h : execRingCreate e s = .next t) : coreOf t = coreOf s := by
  simp only [execRingCreate, Host.Outcome.next.injEq] at h
  subst h
  repeat' split
  all_goals (first | with_reducible rfl | (simp; done))

theorem core_execQpCreate (e : Env) (s : State) {t : State} (h : execQpCreate e s = .next t) : coreOf t = coreOf s := by
  simp only [execQpCreate, Host.Outcome.next.injEq] at h
  subst h
  repeat' split
  all_goals (first | with_reducible rfl | (simp; done))

theorem core_execCqCreate (e : Env) (s : State) {t : State} (h : execCqCreate e s = .next t) : coreOf t = coreOf s := by
  simp only [execCqCreate, Host.Outcome.next.injEq] at h
  subst h
  repeat' split
  all_goals (first | with_reducible rfl | (simp; done))

theorem core_execQueueDisable (e : Env) (s : State) {t : State} (h : execQueueDisable e s = .next t) : coreOf t = coreOf s := by
  simp only [execQueueDisable, Host.Outcome.next.injEq] at h
  subst h
  repeat' split
  all_goals (first | with_reducible rfl | (simp; done))

theorem core_execQueueEnable (e : Env) (s : State) {t : State} (h : execQueueEnable e s = .next t) : coreOf t = coreOf s := by
  simp only [execQueueEnable, Host.Outcome.next.injEq] at h
  subst h
  repeat' split
  all_goals (first | with_reducible rfl | (simp; done))

theorem core_execQueueDestroy (e : Env) (s : State) {t : State} (h : execQueueDestroy e s = .next t) : coreOf t = coreOf s := by
  simp only [execQueueDestroy, Host.Outcome.next.injEq] at h
  subst h
  repeat' split
  all_goals (first | with_reducible rfl | (simp; done))

theorem core_execQueueReset (e : Env) (s : State) {t : State} (h : execQueueReset e s = .next t) : coreOf t = coreOf s := by
  simp only [execQueueReset, Host.Outcome.next.injEq] at h
  subst h
  repeat' split
  all_goals (first | with_reducible rfl | (simp; done))

theorem core_execQueueStatus (e : Env) (s : State) {t : State} (h : execQueueStatus e s = .next t) : coreOf t = coreOf s := by
  simp only [execQueueStatus, Host.Outcome.next.injEq] at h
  subst h
  repeat' split
  all_goals (first | with_reducible rfl | (simp; done))

theorem core_execRxFilterSet (e : Env) (s : State) {t : State} (h : execRxFilterSet e s = .next t) : coreOf t = coreOf s := by
  simp only [execRxFilterSet, Host.Outcome.next.injEq] at h
  subst h
  repeat' split
  all_goals (first | with_reducible rfl | (simp; done))

theorem core_execRssSet (e : Env) (s : State) {t : State} (h : execRssSet e s = .next t) : coreOf t = coreOf s := by
  simp only [execRssSet, Host.Outcome.next.injEq] at h
  subst h
  repeat' split
  all_goals (first | with_reducible rfl | (simp; done))

theorem core_execOffloadSet (e : Env) (s : State) {t : State} (h : execOffloadSet e s = .next t) : coreOf t = coreOf s := by
  simp only [execOffloadSet, Host.Outcome.next.injEq] at h
  subst h
  repeat' split
  all_goals (first | with_reducible rfl | (simp; done))

theorem core_execTimerFire (n : Nat) (s : State) {t : State} (h : execTimerFire n s = .next t) : coreOf t = coreOf s := by
  simp only [execTimerFire, Host.Outcome.next.injEq] at h
  subst h
  repeat' split
  all_goals (first | with_reducible rfl | (simp; done))

theorem core_execTimerSet (e : Env) (s : State) {t : State} (h : execTimerSet e s = .next t) : coreOf t = coreOf s := by
  simp only [execTimerSet, Host.Outcome.next.injEq] at h
  subst h
  repeat' split
  all_goals (first | with_reducible rfl | (simp; done))

theorem core_execPpsCfg (e : Env) (s : State) {t : State} (h : execPpsCfg e s = .next t) : coreOf t = coreOf s := by
  simp only [execPpsCfg, Host.Outcome.next.injEq] at h
  subst h
  repeat' split
  all_goals (first | with_reducible rfl | (simp; done))

theorem core_execPpsInEdge (sixteenths : Nat) (s : State) {t : State} (h : execPpsInEdge sixteenths s = .next t) : coreOf t = coreOf s := by
  simp only [execPpsInEdge, Host.Outcome.next.injEq] at h
  subst h
  repeat' split
  all_goals (first | with_reducible rfl | (simp; done))

theorem core_execPpsOutEdge (s : State) {t : State} (h : execPpsOutEdge s = .next t) : coreOf t = coreOf s := by
  simp only [execPpsOutEdge, Host.Outcome.next.injEq] at h
  subst h
  repeat' split
  all_goals (first | with_reducible rfl | (simp; done))

theorem core_execPpsOutFall (s : State) {t : State} (h : execPpsOutFall s = .next t) : coreOf t = coreOf s := by
  simp only [execPpsOutFall, Host.Outcome.next.injEq] at h
  subst h
  repeat' split
  all_goals (first | with_reducible rfl | (simp; done))

theorem core_execSyntCfg (e : Env) (s : State) {t : State} (h : execSyntCfg e s = .next t) : coreOf t = coreOf s := by
  simp only [execSyntCfg, Host.Outcome.next.injEq] at h
  subst h
  repeat' split
  all_goals (first | with_reducible rfl | (simp; done))

theorem core_execSnapTimeLoRead (slot : Nat) (wide : Bool) (s : State) {t : State} (h : execSnapTimeLoRead slot wide s = .next t) : coreOf t = coreOf s := by
  simp only [execSnapTimeLoRead, Host.Outcome.next.injEq] at h
  subst h
  repeat' split
  all_goals (first | with_reducible rfl | (simp; done))

theorem core_execPpsGlitchRead (s : State) {t : State} (h : execPpsGlitchRead s = .next t) : coreOf t = coreOf s := by
  simp only [execPpsGlitchRead, Host.Outcome.next.injEq] at h
  subst h
  repeat' split
  all_goals (first | with_reducible rfl | (simp; done))

theorem core_execThermEval (readings : List Int) (s : State) {t : State} (h : execThermEval readings s = .next t) : coreOf t = coreOf s := by
  simp only [execThermEval, Host.Outcome.next.injEq] at h
  subst h
  repeat' split
  all_goals (first | with_reducible rfl | (simp; done))

theorem core_execSysEventCfg (e : Env) (s : State) {t : State} (h : execSysEventCfg e s = .next t) : coreOf t = coreOf s := by
  simp only [execSysEventCfg, Host.Outcome.next.injEq] at h
  subst h
  repeat' split
  all_goals (first | with_reducible rfl | (simp; done))

theorem core_execStampPortCfg (e : Env) (s : State) {t : State} (h : execStampPortCfg e s = .next t) : coreOf t = coreOf s := by
  simp only [execStampPortCfg, Host.Outcome.next.injEq] at h
  subst h
  repeat' split
  all_goals (first | with_reducible rfl | (simp; done))

theorem core_execPtpPortCfg (e : Env) (s : State) {t : State} (h : execPtpPortCfg e s = .next t) : coreOf t = coreOf s := by
  simp only [execPtpPortCfg, Host.Outcome.next.injEq] at h
  subst h
  repeat' split
  all_goals (first | with_reducible rfl | (simp; done))

theorem core_execCalRecordSet (e : Env) (s : State) {t : State} (h : execCalRecordSet e s = .next t) : coreOf t = coreOf s := by
  simp only [execCalRecordSet, Host.Outcome.next.injEq] at h
  subst h
  repeat' split
  all_goals (first | with_reducible rfl | (simp; done))

theorem core_execCalEval (temps : List Int) (s : State) {t : State} (h : execCalEval temps s = .next t) : coreOf t = coreOf s := by
  simp only [execCalEval, Host.Outcome.next.injEq] at h
  subst h
  repeat' split
  all_goals (first | with_reducible rfl | (simp; done))

theorem core_execCalRun (e : Env) (s : State) {t : State} (h : execCalRun e s = .next t) : coreOf t = coreOf s := by
  simp only [execCalRun, Host.Outcome.next.injEq] at h
  subst h
  repeat' split
  all_goals (first | with_reducible rfl | (simp; done))

theorem core_execLoopbackCal (e : Env) (s : State) {t : State} (h : execLoopbackCal e s = .next t) : coreOf t = coreOf s := by
  simp only [execLoopbackCal, Host.Outcome.next.injEq] at h
  subst h
  repeat' split
  all_goals (first | with_reducible rfl | (simp; done))

theorem core_execCalRequestTx (p : Nat) (s : State) {t : State} (h : execCalRequestTx p s = .next t) : coreOf t = coreOf s := by
  simp only [execCalRequestTx, Host.Outcome.next.injEq] at h
  subst h
  repeat' split
  all_goals (first | with_reducible rfl | (simp; done))

theorem core_execCalRequestRx (p reqId t2 : Nat) (s : State) {t : State} (h : execCalRequestRx p reqId t2 s = .next t) : coreOf t = coreOf s := by
  simp only [execCalRequestRx, Host.Outcome.next.injEq] at h
  subst h
  repeat' split
  all_goals (first | with_reducible rfl | (simp; done))

theorem core_execCalReplyRx (p : Nat) (reply : CalReply) (s : State) {t : State} (h : execCalReplyRx p reply s = .next t) : coreOf t = coreOf s := by
  simp only [execCalReplyRx, Host.Outcome.next.injEq] at h
  subst h
  repeat' split
  all_goals (first | with_reducible rfl | (simp; done))

theorem core_execCalExchangeTimeout (p : Nat) (s : State) {t : State} (h : execCalExchangeTimeout p s = .next t) : coreOf t = coreOf s := by
  simp only [execCalExchangeTimeout, Host.Outcome.next.injEq] at h
  subst h
  repeat' split
  all_goals (first | with_reducible rfl | (simp; done))

theorem core_execCalFail (p : Nat) (s : State) {t : State} (h : execCalFail p s = .next t) : coreOf t = coreOf s := by
  simp only [execCalFail, Host.Outcome.next.injEq] at h
  subst h
  repeat' split
  all_goals (first | with_reducible rfl | (simp; done))

theorem core_execQuadOpen (e : Env) (s : State) {t : State} (h : execQuadOpen e s = .next t) : coreOf t = coreOf s := by
  simp only [execQuadOpen, Host.Outcome.next.injEq] at h
  subst h
  repeat' split
  all_goals (first | with_reducible rfl | (simp; done))

theorem core_execQuadCheck (e : Env) (s : State) {t : State} (h : execQuadCheck e s = .next t) : coreOf t = coreOf s := by
  simp only [execQuadCheck, Host.Outcome.next.injEq] at h
  subst h
  split
  · simp
  · refine core_ifTurn _ _ (fun s => ?_) _
    try dsimp only
    repeat' split
    all_goals simp

theorem core_execQuadAbort (e : Env) (s : State) {t : State} (h : execQuadAbort e s = .next t) : coreOf t = coreOf s := by
  simp only [execQuadAbort, Host.Outcome.next.injEq] at h
  subst h
  repeat' split
  all_goals (first | with_reducible rfl | (simp; done))

theorem core_execQuadStatus (e : Env) (s : State) {t : State} (h : execQuadStatus e s = .next t) : coreOf t = coreOf s := by
  simp only [execQuadStatus, Host.Outcome.next.injEq] at h
  subst h
  repeat' split
  all_goals (first | with_reducible rfl | (simp; done))

theorem core_execQuadApplyNow (e : Env) (s : State) {t : State} (h : execQuadApplyNow e s = .next t) : coreOf t = coreOf s := by
  simp only [execQuadApplyNow, Host.Outcome.next.injEq] at h
  subst h
  repeat' split
  all_goals (first | with_reducible rfl | (simp; done))

theorem core_execQuadApplyAtTime (e : Env) (s : State) {t : State} (h : execQuadApplyAtTime e s = .next t) : coreOf t = coreOf s := by
  simp only [execQuadApplyAtTime, Host.Outcome.next.injEq] at h
  subst h
  repeat' split
  all_goals (first | with_reducible rfl | (simp; done))

theorem core_execQuadArmed (id : Nat) (s : State) {t : State} (h : execQuadArmed id s = .next t) : coreOf t = coreOf s := by
  simp only [execQuadArmed, Host.Outcome.next.injEq] at h
  subst h
  repeat' split
  all_goals (first | with_reducible rfl | (simp; done))

theorem core_execQuadFlip (id : Nat) (s : State) {t : State} (h : execQuadFlip id s = .next t) : coreOf t = coreOf s := by
  simp only [execQuadFlip, Host.Outcome.next.injEq] at h
  subst h
  repeat' split
  all_goals (first | with_reducible rfl | (simp; done))

theorem core_execNormalise (id : Nat) (s : State) {t : State} (h : execNormalise id s = .next t) : coreOf t = coreOf s := by
  simp only [execNormalise, Host.Outcome.next.injEq] at h
  subst h
  repeat' split
  all_goals (first | with_reducible rfl | (simp; done))

theorem core_execQuadIdleLimit (id : Nat) (s : State) {t : State} (h : execQuadIdleLimit id s = .next t) : coreOf t = coreOf s := by
  simp only [execQuadIdleLimit, Host.Outcome.next.injEq] at h
  subst h
  repeat' split
  all_goals (first | with_reducible rfl | (simp; done))

theorem core_execDmaGo (c : Nat) (s : State) {t : State} (h : execDmaGo c s = .next t) : coreOf t = coreOf s := by
  simp only [execDmaGo, Host.Outcome.next.injEq] at h
  subst h
  repeat' split
  all_goals (first | with_reducible rfl | (simp; done))

theorem core_execDmaShadowWrite (c off : Nat) (data : Word) (s : State) {t : State} (h : execDmaShadowWrite c off data s = .next t) : coreOf t = coreOf s := by
  simp only [execDmaShadowWrite, Host.Outcome.next.injEq] at h
  subst h
  repeat' split
  all_goals (first | with_reducible rfl | (simp; done))

theorem core_execDmaLoad (c : Nat) (s : State) {t : State} (h : execDmaLoad c s = .next t) : coreOf t = coreOf s := by
  simp only [execDmaLoad, Host.Outcome.next.injEq] at h
  subst h
  repeat' split
  all_goals (first | with_reducible rfl | (simp; done))

theorem core_execDmaZeroLenDone (c : Nat) (s : State) {t : State} (h : execDmaZeroLenDone c s = .next t) : coreOf t = coreOf s := by
  simp only [execDmaZeroLenDone, Host.Outcome.next.injEq] at h
  subst h
  repeat' split
  all_goals (first | with_reducible rfl | (simp; done))

theorem core_execDmaBurstResponse (c : Nat) (burst : Burst) (s : State) {t : State} (h : execDmaBurstResponse c burst s = .next t) : coreOf t = coreOf s := by
  simp only [execDmaBurstResponse, Host.Outcome.next.injEq] at h
  subst h
  repeat' split
  all_goals (first | with_reducible rfl | (simp; done))

theorem core_execDmaAbort (c : Nat) (s : State) {t : State} (h : execDmaAbort c s = .next t) : coreOf t = coreOf s := by
  simp only [execDmaAbort, Host.Outcome.next.injEq] at h
  subst h
  repeat' split
  all_goals (first | with_reducible rfl | (simp; done))

theorem core_execDmaResume (c : Nat) (s : State) {t : State} (h : execDmaResume c s = .next t) : coreOf t = coreOf s := by
  simp only [execDmaResume, Host.Outcome.next.injEq] at h
  subst h
  refine core_viaHst _ _ (fun s => ?_) _
  rw [show ∀ x, coreOf (hptOk 0 x) = coreOf x from fun _ => rfl]
  refine core_onDma _ _ (fun x s => ?_) _
  try dsimp only
  repeat' split
  all_goals simp

theorem core_execDmaClear (c : Nat) (s : State) {t : State} (h : execDmaClear c s = .next t) : coreOf t = coreOf s := by
  simp only [execDmaClear, Host.Outcome.next.injEq] at h
  subst h
  repeat' split
  all_goals (first | with_reducible rfl | (simp; done))

theorem core_execChCauseRead (c : Nat) (s : State) {t : State} (h : execChCauseRead c s = .next t) : coreOf t = coreOf s := by
  simp only [execChCauseRead, Host.Outcome.next.injEq] at h
  subst h
  repeat' split
  all_goals (first | with_reducible rfl | (simp; done))

theorem core_execSliceCauseRead (sl : Nat) (s : State) {t : State} (h : execSliceCauseRead sl s = .next t) : coreOf t = coreOf s := by
  simp only [execSliceCauseRead, Host.Outcome.next.injEq] at h
  subst h
  repeat' split
  all_goals (first | with_reducible rfl | (simp; done))

theorem core_execSliceLinkRead (sl : Nat) (s : State) {t : State} (h : execSliceLinkRead sl s = .next t) : coreOf t = coreOf s := by
  simp only [execSliceLinkRead, Host.Outcome.next.injEq] at h
  subst h
  repeat' split
  all_goals (first | with_reducible rfl | (simp; done))

theorem core_execEventTake (s : State) {t : State} (h : execEventTake s = .next t) : coreOf t = coreOf s := by
  simp only [execEventTake, Host.Outcome.next.injEq] at h
  subst h
  repeat' split
  all_goals (first | with_reducible rfl | (simp; done))

theorem core_execEventEoi (sl cause : Nat) (s : State) {t : State} (h : execEventEoi sl cause s = .next t) : coreOf t = coreOf s := by
  simp only [execEventEoi, Host.Outcome.next.injEq] at h
  subst h
  repeat' split
  all_goals (first | with_reducible rfl | (simp; done))

theorem core_execClaim (n : Nat) (s : State) {t : State} (h : execClaim n s = .next t) : coreOf t = coreOf s := by
  simp only [execClaim, Host.Outcome.next.injEq] at h
  subst h
  refine core_viaHst _ _ (fun s => ?_) _
  try dsimp only
  repeat' split
  all_goals (first | with_reducible rfl | (simp; done))

theorem core_execEoi (n : Nat) (data : Word) (s : State) {t : State} (h : execEoi n data s = .next t) : coreOf t = coreOf s := by
  simp only [execEoi, Host.Outcome.next.injEq] at h
  subst h
  refine core_viaHst _ _ (fun s => ?_) _
  try dsimp only
  repeat' split
  all_goals (first | with_reducible rfl | (simp; done))

theorem core_execPendSet (k : Nat) (data : Word) (s : State) {t : State} (h : execPendSet k data s = .next t) : coreOf t = coreOf s := by
  simp only [execPendSet, Host.Outcome.next.injEq] at h
  subst h
  repeat' split
  all_goals (first | with_reducible rfl | (simp; done))

theorem core_execPendClr (k : Nat) (data : Word) (s : State) {t : State} (h : execPendClr k data s = .next t) : coreOf t = coreOf s := by
  simp only [execPendClr, Host.Outcome.next.injEq] at h
  subst h
  repeat' split
  all_goals (first | with_reducible rfl | (simp; done))

theorem core_execEnSet (k : Nat) (data : Word) (s : State) {t : State} (h : execEnSet k data s = .next t) : coreOf t = coreOf s := by
  simp only [execEnSet, Host.Outcome.next.injEq] at h
  subst h
  repeat' split
  all_goals (first | with_reducible rfl | (simp; done))

theorem core_execEnClr (k : Nat) (data : Word) (s : State) {t : State} (h : execEnClr k data s = .next t) : coreOf t = coreOf s := by
  simp only [execEnClr, Host.Outcome.next.injEq] at h
  subst h
  repeat' split
  all_goals (first | with_reducible rfl | (simp; done))

theorem core_execSrcCfgWrite (i : Nat) (data : Word) (s : State) {t : State} (h : execSrcCfgWrite i data s = .next t) : coreOf t = coreOf s := by
  simp only [execSrcCfgWrite, Host.Outcome.next.injEq] at h
  subst h
  repeat' split
  all_goals (first | with_reducible rfl | (simp; done))

theorem core_execPrivPendSet (n : Nat) (data : Word) (s : State) {t : State} (h : execPrivPendSet n data s = .next t) : coreOf t = coreOf s := by
  simp only [execPrivPendSet, Host.Outcome.next.injEq] at h
  subst h
  repeat' split
  all_goals (first | with_reducible rfl | (simp; done))

theorem core_execPrivPendClr (n : Nat) (data : Word) (s : State) {t : State} (h : execPrivPendClr n data s = .next t) : coreOf t = coreOf s := by
  simp only [execPrivPendClr, Host.Outcome.next.injEq] at h
  subst h
  repeat' split
  all_goals (first | with_reducible rfl | (simp; done))

theorem core_execPrivEnSet (n : Nat) (data : Word) (s : State) {t : State} (h : execPrivEnSet n data s = .next t) : coreOf t = coreOf s := by
  simp only [execPrivEnSet, Host.Outcome.next.injEq] at h
  subst h
  repeat' split
  all_goals (first | with_reducible rfl | (simp; done))

theorem core_execPrivEnClr (n : Nat) (data : Word) (s : State) {t : State} (h : execPrivEnClr n data s = .next t) : coreOf t = coreOf s := by
  simp only [execPrivEnClr, Host.Outcome.next.injEq] at h
  subst h
  repeat' split
  all_goals (first | with_reducible rfl | (simp; done))

theorem core_execTargetCountsRead (n : Nat) (s : State) {t : State} (h : execTargetCountsRead n s = .next t) : coreOf t = coreOf s := by
  simp only [execTargetCountsRead, Host.Outcome.next.injEq] at h
  subst h
  repeat' split
  all_goals (first | with_reducible rfl | (simp; done))

theorem core_execTgtAwakeChange (n : Nat) (level : Bool) (s : State) {t : State} (h : execTgtAwakeChange n level s = .next t) : coreOf t = coreOf s := by
  simp only [execTgtAwakeChange, Host.Outcome.next.injEq] at h
  subst h
  repeat' split
  all_goals (first | with_reducible rfl | (simp; done))

theorem core_execWakeWaitExpiry (i : Nat) (s : State) {t : State} (h : execWakeWaitExpiry i s = .next t) : coreOf t = coreOf s := by
  simp only [execWakeWaitExpiry, Host.Outcome.next.injEq] at h
  subst h
  repeat' split
  all_goals (first | with_reducible rfl | (simp; done))

theorem core_execMsgWriteRetry (n : Nat) (s : State) {t : State} (h : execMsgWriteRetry n s = .next t) : coreOf t = coreOf s := by
  simp only [execMsgWriteRetry, Host.Outcome.next.injEq] at h
  subst h
  repeat' split
  all_goals (first | with_reducible rfl | (simp; done))

theorem core_execOsysInfo (e : Env) (s : State) {t : State} (h : execOsysInfo e s = .next t) : coreOf t = coreOf s := by
  simp only [execOsysInfo, Host.Outcome.next.injEq] at h
  subst h
  repeat' split
  all_goals (first | with_reducible rfl | (simp; done))

theorem core_execOsysStatus (e : Env) (s : State) {t : State} (h : execOsysStatus e s = .next t) : coreOf t = coreOf s := by
  simp only [execOsysStatus, Host.Outcome.next.injEq] at h
  subst h
  repeat' split
  all_goals (first | with_reducible rfl | (simp; done))

theorem core_execOtimeRead (e : Env) (s : State) {t : State} (h : execOtimeRead e s = .next t) : coreOf t = coreOf s := by
  simp only [execOtimeRead, Host.Outcome.next.injEq] at h
  subst h
  repeat' split
  all_goals (first | with_reducible rfl | (simp; done))

theorem core_execOtimeSetInc (e : Env) (s : State) {t : State} (h : execOtimeSetInc e s = .next t) : coreOf t = coreOf s := by
  simp only [execOtimeSetInc, Host.Outcome.next.injEq] at h
  subst h
  repeat' split
  all_goals (first | with_reducible rfl | (simp; done))

theorem core_execOtimeStep (e : Env) (s : State) {t : State} (h : execOtimeStep e s = .next t) : coreOf t = coreOf s := by
  simp only [execOtimeStep, Host.Outcome.next.injEq] at h
  subst h
  repeat' split
  all_goals (first | with_reducible rfl | (simp; done))

theorem core_execOtimeAuthority (e : Env) (s : State) {t : State} (h : execOtimeAuthority e s = .next t) : coreOf t = coreOf s := by
  simp only [execOtimeAuthority, Host.Outcome.next.injEq] at h
  subst h
  repeat' split
  all_goals (first | with_reducible rfl | (simp; done))

theorem core_execServoInc (inc : BitVec 40) (s : State) {t : State} (h : execServoInc inc s = .next t) : coreOf t = coreOf s := by
  simp only [execServoInc, Host.Outcome.next.injEq] at h
  subst h
  repeat' split
  all_goals (first | with_reducible rfl | (simp; done))

theorem core_execServoStep (amount : BitVec 80) (valid invalidate : Bool) (s : State) {t : State} (h : execServoStep amount valid invalidate s = .next t) : coreOf t = coreOf s := by
  simp only [execServoStep, Host.Outcome.next.injEq] at h
  subst h
  repeat' split
  all_goals (first | with_reducible rfl | (simp; done))

theorem core_execOmapSet (e : Env) (s : State) {t : State} (h : execOmapSet e s = .next t) : coreOf t = coreOf s := by
  simp only [execOmapSet, Host.Outcome.next.injEq] at h
  subst h
  repeat' split
  all_goals (first | with_reducible rfl | (simp; done))

theorem core_execOmapRead (e : Env) (s : State) {t : State} (h : execOmapRead e s = .next t) : coreOf t = coreOf s := by
  simp only [execOmapRead, Host.Outcome.next.injEq] at h
  subst h
  repeat' split
  all_goals (first | with_reducible rfl | (simp; done))

theorem core_execOmapClear (e : Env) (s : State) {t : State} (h : execOmapClear e s = .next t) : coreOf t = coreOf s := by
  simp only [execOmapClear, Host.Outcome.next.injEq] at h
  subst h
  repeat' split
  all_goals (first | with_reducible rfl | (simp; done))

theorem core_execOtdRecordWriteAck (s : State) {t : State} (h : execOtdRecordWriteAck s = .next t) : coreOf t = coreOf s := by
  simp only [execOtdRecordWriteAck, Host.Outcome.next.injEq] at h
  subst h
  repeat' split
  all_goals (first | with_reducible rfl | (simp; done))

theorem core_execOtdRecordRetry (s : State) {t : State} (h : execOtdRecordRetry s = .next t) : coreOf t = coreOf s := by
  simp only [execOtdRecordRetry, Host.Outcome.next.injEq] at h
  subst h
  repeat' split
  all_goals (first | with_reducible rfl | (simp; done))

theorem core_execOringConsWrite (data : Word) (s : State) {t : State} (h : execOringConsWrite data s = .next t) : coreOf t = coreOf s := by
  simp only [execOringConsWrite, Host.Outcome.next.injEq] at h
  subst h
  repeat' split
  all_goals (first | with_reducible rfl | (simp; done))

theorem oStop_ocmd (o : Otd) : (oStop o).ocmd = o.ocmd := by
  unfold oStop
  repeat' split
  all_goals rfl

theorem core_execOrecordRingSet (e : Env) (s : State) {t : State} (h : execOrecordRingSet e s = .next t) : coreOf t = coreOf s := by
  simp only [execOrecordRingSet, Host.Outcome.next.injEq] at h
  subst h
  refine core_runOtd _ _ _ _ _ _ (fun s => ?_) _
  repeat' split
  all_goals first
    | (simp; done)
    | exact core_updOtd _ (fun o => by
        split
        · rfl
        · exact oStop_ocmd o) _
    | (show coreOf (oPump _) = coreOf s; rw [core_oPump]; exact core_updOtd _ oStop_ocmd _)

theorem core_execOrecordInterval (e : Env) (s : State) {t : State} (h : execOrecordInterval e s = .next t) : coreOf t = coreOf s := by
  simp only [execOrecordInterval, Host.Outcome.next.injEq] at h
  subst h
  repeat' split
  all_goals (first | with_reducible rfl | (simp; done))

theorem core_execOrecordStatus (e : Env) (s : State) {t : State} (h : execOrecordStatus e s = .next t) : coreOf t = coreOf s := by
  simp only [execOrecordStatus, Host.Outcome.next.injEq] at h
  subst h
  repeat' split
  all_goals (first | with_reducible rfl | (simp; done))

theorem core_execTapSummary (summary : TapSummary) (s : State) {t : State} (h : execTapSummary summary s = .next t) : coreOf t = coreOf s := by
  simp only [execTapSummary, Host.Outcome.next.injEq] at h
  subst h
  repeat' split
  all_goals (first | with_reducible rfl | (simp; done))

theorem core_execIntervalBoundary (s : State) {t : State} (h : execIntervalBoundary s = .next t) : coreOf t = coreOf s := by
  simp only [execIntervalBoundary, Host.Outcome.next.injEq] at h
  subst h
  repeat' split
  all_goals (first | with_reducible rfl | (simp; done))

theorem core_execOsealStatus (e : Env) (s : State) {t : State} (h : execOsealStatus e s = .next t) : coreOf t = coreOf s := by
  simp only [execOsealStatus, Host.Outcome.next.injEq] at h
  subst h
  repeat' split
  all_goals (first | with_reducible rfl | (simp; done))

theorem core_execOsealSeal (e : Env) (s : State) {t : State} (h : execOsealSeal e s = .next t) : coreOf t = coreOf s := by
  simp only [execOsealSeal, Host.Outcome.next.injEq] at h
  subst h
  repeat' split
  all_goals (first | with_reducible rfl | (simp; done))

theorem core_execOsealUnseal (e : Env) (s : State) {t : State} (h : execOsealUnseal e s = .next t) : coreOf t = coreOf s := by
  simp only [execOsealUnseal, Host.Outcome.next.injEq] at h
  subst h
  repeat' split
  all_goals (first | with_reducible rfl | (simp; done))

theorem core_execUnsealBlockExpiry (s : State) {t : State} (h : execUnsealBlockExpiry s = .next t) : coreOf t = coreOf s := by
  simp only [execUnsealBlockExpiry, Host.Outcome.next.injEq] at h
  subst h
  repeat' split
  all_goals (first | with_reducible rfl | (simp; done))

theorem core_execSealSwitchChange (level : Bool) (s : State) {t : State} (h : execSealSwitchChange level s = .next t) : coreOf t = coreOf s := by
  simp only [execSealSwitchChange, Host.Outcome.next.injEq] at h
  subst h
  repeat' split
  all_goals (first | with_reducible rfl | (simp; done))

theorem core_execTestAccess (s : State) {t : State} (h : execTestAccess s = .next t) : coreOf t = coreOf s := by
  simp only [execTestAccess, Host.Outcome.next.injEq] at h
  subst h
  repeat' split
  all_goals (first | with_reducible rfl | (simp; done))

theorem core_execOlogRead (e : Env) (s : State) {t : State} (h : execOlogRead e s = .next t) : coreOf t = coreOf s := by
  simp only [execOlogRead, Host.Outcome.next.injEq] at h
  subst h
  repeat' split
  all_goals (first | with_reducible rfl | (simp; done))

theorem core_execOlogAck (e : Env) (s : State) {t : State} (h : execOlogAck e s = .next t) : coreOf t = coreOf s := by
  simp only [execOlogAck, Host.Outcome.next.injEq] at h
  subst h
  repeat' split
  all_goals (first | with_reducible rfl | (simp; done))

theorem core_execKeyWord (word : Word) (s : State) {t : State} (h : execKeyWord word s = .next t) : coreOf t = coreOf s := by
  simp only [execKeyWord, Host.Outcome.next.injEq] at h
  subst h
  repeat' split
  all_goals (first | with_reducible rfl | (simp; done))

theorem core_execKeyTimeout (s : State) {t : State} (h : execKeyTimeout s = .next t) : coreOf t = coreOf s := by
  simp only [execKeyTimeout, Host.Outcome.next.injEq] at h
  subst h
  repeat' split
  all_goals (first | with_reducible rfl | (simp; done))

theorem core_execAskAnswer (d b : Nat) (answer : Answer) (s : State) {t : State} (h : execAskAnswer d b answer s = .next t) : coreOf t = coreOf s := by
  simp only [execAskAnswer, Host.Outcome.next.injEq] at h
  subst h
  repeat' split
  all_goals (first | with_reducible rfl | (simp; done))

theorem core_execBadgerDelayEnd (d : Nat) (s : State) {t : State} (h : execBadgerDelayEnd d s = .next t) : coreOf t = coreOf s := by
  simp only [execBadgerDelayEnd, Host.Outcome.next.injEq] at h
  subst h
  repeat' split
  all_goals (first | with_reducible rfl | (simp; done))

theorem core_execDrainTimeout (d : Nat) (s : State) {t : State} (h : execDrainTimeout d s = .next t) : coreOf t = coreOf s := by
  simp only [execDrainTimeout, Host.Outcome.next.injEq] at h
  subst h
  repeat' split
  all_goals (first | with_reducible rfl | (simp; done))

theorem core_execPwrStateSet (e : Env) (s : State) {t : State} (h : execPwrStateSet e s = .next t) : coreOf t = coreOf s := by
  simp only [execPwrStateSet, Host.Outcome.next.injEq] at h
  subst h
  repeat' split
  all_goals (first | with_reducible rfl | (simp; done))

theorem core_execHibernate (e : Env) (s : State) {t : State} (h : execHibernate e s = .next t) : coreOf t = coreOf s := by
  simp only [execHibernate, Host.Outcome.next.injEq] at h
  subst h
  refine core_runCmd _ _ _ _ _ (fun s => ?_) _
  try dsimp only
  repeat' split
  all_goals (first | with_reducible rfl | (simp; done))

theorem core_execWakeSrcSet (e : Env) (s : State) {t : State} (h : execWakeSrcSet e s = .next t) : coreOf t = coreOf s := by
  simp only [execWakeSrcSet, Host.Outcome.next.injEq] at h
  subst h
  repeat' split
  all_goals (first | with_reducible rfl | (simp; done))

theorem core_execPwrStatus (e : Env) (s : State) {t : State} (h : execPwrStatus e s = .next t) : coreOf t = coreOf s := by
  simp only [execPwrStatus, Host.Outcome.next.injEq] at h
  subst h
  repeat' split
  all_goals (first | with_reducible rfl | (simp; done))

theorem core_execDrainLimitSet (e : Env) (s : State) {t : State} (h : execDrainLimitSet e s = .next t) : coreOf t = coreOf s := by
  simp only [execDrainLimitSet, Host.Outcome.next.injEq] at h
  subst h
  repeat' split
  all_goals (first | with_reducible rfl | (simp; done))

theorem core_execAutoSleepAsk (d : Nat) (s : State) {t : State} (h : execAutoSleepAsk d s = .next t) : coreOf t = coreOf s := by
  simp only [execAutoSleepAsk, Host.Outcome.next.injEq] at h
  subst h
  repeat' split
  all_goals (first | with_reducible rfl | (simp; done))

theorem core_execSleepEntry (d : Nat) (s : State) {t : State} (h : execSleepEntry d s = .next t) : coreOf t = coreOf s := by
  simp only [execSleepEntry, Host.Outcome.next.injEq] at h
  subst h
  repeat' split
  all_goals (first | with_reducible rfl | (simp; done))

theorem core_execPswLate (d : Nat) (s : State) {t : State} (h : execPswLate d s = .next t) : coreOf t = coreOf s := by
  simp only [execPswLate, Host.Outcome.next.injEq] at h
  subst h
  repeat' split
  all_goals (first | with_reducible rfl | (simp; done))

theorem core_execWake (d : Nat) (s : State) {t : State} (h : execWake d s = .next t) : coreOf t = coreOf s := by
  simp only [execWake, Host.Outcome.next.injEq] at h
  subst h
  repeat' split
  all_goals (first | with_reducible rfl | (simp; done))

theorem core_execRegReady (s : State) {t : State} (h : execRegReady s = .next t) : coreOf t = coreOf s := by
  simp only [execRegReady, Host.Outcome.next.injEq] at h
  subst h
  repeat' split
  all_goals (first | with_reducible rfl | (simp; done))

theorem core_execPswAck (d : Nat) (s : State) {t : State} (h : execPswAck d s = .next t) : coreOf t = coreOf s := by
  simp only [execPswAck, Host.Outcome.next.injEq] at h
  subst h
  repeat' split
  all_goals (first | with_reducible rfl | (simp; done))

theorem core_execPllLock (s : State) {t : State} (h : execPllLock s = .next t) : coreOf t = coreOf s := by
  simp only [execPllLock, Host.Outcome.next.injEq] at h
  subst h
  repeat' split
  all_goals (first | with_reducible rfl | (simp; done))

theorem core_execPllFault (pair : Nat) (pll : Bool) (s : State) {t : State} (h : execPllFault pair pll s = .next t) : coreOf t = coreOf s := by
  simp only [execPllFault, Host.Outcome.next.injEq] at h
  subst h
  repeat' split
  all_goals (first | with_reducible rfl | (simp; done))

theorem core_execWakeTimeout (d : Nat) (st : WakeStep) (s : State) {t : State} (h : execWakeTimeout d st s = .next t) : coreOf t = coreOf s := by
  simp only [execWakeTimeout, Host.Outcome.next.injEq] at h
  subst h
  repeat' split
  all_goals (first | with_reducible rfl | (simp; done))

theorem core_execVretLost (s : State) {t : State} (h : execVretLost s = .next t) : coreOf t = coreOf s := by
  simp only [execVretLost, Host.Outcome.next.injEq] at h
  subst h
  repeat' split
  all_goals (first | with_reducible rfl | (simp; done))

theorem core_execVretGoodRestored (s : State) {t : State} (h : execVretGoodRestored s = .next t) : coreOf t = coreOf s := by
  simp only [execVretGoodRestored, Host.Outcome.next.injEq] at h
  subst h
  repeat' split
  all_goals (first | with_reducible rfl | (simp; done))

theorem core_execBrownOut (s : State) {t : State} (h : execBrownOut s = .next t) : coreOf t = coreOf s := by
  simp only [execBrownOut, Host.Outcome.next.injEq] at h
  subst h
  repeat' split
  all_goals (first | with_reducible rfl | (simp; done))

theorem core_execBrownOutEnd (s : State) {t : State} (h : execBrownOutEnd s = .next t) : coreOf t = coreOf s := by
  simp only [execBrownOutEnd, Host.Outcome.next.injEq] at h
  subst h
  repeat' split
  all_goals (first | with_reducible rfl | (simp; done))

theorem core_execWakeReq (s : State) {t : State} (h : execWakeReq s = .next t) : coreOf t = coreOf s := by
  simp only [execWakeReq, Host.Outcome.next.injEq] at h
  subst h
  repeat' split
  all_goals (first | with_reducible rfl | (simp; done))

theorem core_execRetryFailed (s : State) {t : State} (h : execRetryFailed s = .next t) : coreOf t = coreOf s := by
  simp only [execRetryFailed, Host.Outcome.next.injEq] at h
  subst h
  repeat' split
  all_goals (first | with_reducible rfl | (simp; done))

theorem core_execBoAck (s : State) {t : State} (h : execBoAck s = .next t) : coreOf t = coreOf s := by
  simp only [execBoAck, Host.Outcome.next.injEq] at h
  subst h
  repeat' split
  all_goals (first | with_reducible rfl | (simp; done))

theorem core_execOwlLatchEdge (i : Nat) (s : State) {t : State} (h : execOwlLatchEdge i s = .next t) : coreOf t = coreOf s := by
  simp only [execOwlLatchEdge, Host.Outcome.next.injEq] at h
  subst h
  repeat' split
  all_goals (first | with_reducible rfl | (simp; done))

theorem core_execWarmReset (s : State) {t : State} (h : execWarmReset s = .next t) : coreOf t = coreOf s := by
  simp only [execWarmReset, Host.Outcome.next.injEq] at h
  subst h
  repeat' split
  all_goals (first | with_reducible rfl | (simp; done))

theorem core_execBadgerSlot (u : Nat) (outcome : TestOutcome) (s : State) {t : State} (h : execBadgerSlot u outcome s = .next t) : coreOf t = coreOf s := by
  simp only [execBadgerSlot, Host.Outcome.next.injEq] at h
  subst h
  repeat' split
  all_goals (first | with_reducible rfl | (simp; done))

theorem core_execBadgerOverdue (u : Nat) (s : State) {t : State} (h : execBadgerOverdue u s = .next t) : coreOf t = coreOf s := by
  simp only [execBadgerOverdue, Host.Outcome.next.injEq] at h
  subst h
  repeat' split
  all_goals (first | with_reducible rfl | (simp; done))

theorem core_execBadgerWindowEnd (s : State) {t : State} (h : execBadgerWindowEnd s = .next t) : coreOf t = coreOf s := by
  simp only [execBadgerWindowEnd, Host.Outcome.next.injEq] at h
  subst h
  repeat' split
  all_goals (first | with_reducible rfl | (simp; done))

theorem core_execBadgerCfg (e : Env) (s : State) {t : State} (h : execBadgerCfg e s = .next t) : coreOf t = coreOf s := by
  simp only [execBadgerCfg, Host.Outcome.next.injEq] at h
  subst h
  repeat' split
  all_goals (first | with_reducible rfl | (simp; done))

theorem core_execBadgerWindow (e : Env) (s : State) {t : State} (h : execBadgerWindow e s = .next t) : coreOf t = coreOf s := by
  simp only [execBadgerWindow, Host.Outcome.next.injEq] at h
  subst h
  repeat' split
  all_goals (first | with_reducible rfl | (simp; done))

theorem core_execBadgerRun (e : Env) (outcome : TestOutcome) (us : Nat) (s : State) {t : State} (h : execBadgerRun e outcome us s = .next t) : coreOf t = coreOf s := by
  simp only [execBadgerRun, Host.Outcome.next.injEq] at h
  subst h
  repeat' split
  all_goals (first | with_reducible rfl | (simp; done))

theorem core_execBadgerStatus (e : Env) (s : State) {t : State} (h : execBadgerStatus e s = .next t) : coreOf t = coreOf s := by
  simp only [execBadgerStatus, Host.Outcome.next.injEq] at h
  subst h
  repeat' split
  all_goals (first | with_reducible rfl | (simp; done))

theorem core_execMemRead (e : Env) (s : State) {t : State} (h : execMemRead e s = .next t) : coreOf t = coreOf s := by
  simp only [execMemRead, Host.Outcome.next.injEq] at h
  subst h
  repeat' split
  all_goals (first | with_reducible rfl | (simp; done))

theorem core_execErrCounters (e : Env) (s : State) {t : State} (h : execErrCounters e s = .next t) : coreOf t = coreOf s := by
  simp only [execErrCounters, Host.Outcome.next.injEq] at h
  subst h
  repeat' split
  all_goals (first | with_reducible rfl | (simp; done))

theorem core_execFaultLog (e : Env) (s : State) {t : State} (h : execFaultLog e s = .next t) : coreOf t = coreOf s := by
  simp only [execFaultLog, Host.Outcome.next.injEq] at h
  subst h
  repeat' split
  all_goals (first | with_reducible rfl | (simp; done))

theorem core_execIsolate (e : Env) (s : State) {t : State} (h : execIsolate e s = .next t) : coreOf t = coreOf s := by
  simp only [execIsolate, Host.Outcome.next.injEq] at h
  subst h
  repeat' split
  all_goals (first | with_reducible rfl | (simp; done))

theorem core_execRestore (e : Env) (outcome : TestOutcome) (s : State) {t : State} (h : execRestore e outcome s = .next t) : coreOf t = coreOf s := by
  simp only [execRestore, Host.Outcome.next.injEq] at h
  subst h
  repeat' split
  all_goals (first | with_reducible rfl | (simp; done))

theorem core_execRelocateDone (u : Nat) (lost : List LostLine) (s : State) {t : State} (h : execRelocateDone u lost s = .next t) : coreOf t = coreOf s := by
  simp only [execRelocateDone, Host.Outcome.next.injEq] at h
  subst h
  repeat' split
  all_goals (first | with_reducible rfl | (simp; done))

theorem core_execRebuildDone (u : Nat) (s : State) {t : State} (h : execRebuildDone u s = .next t) : coreOf t = coreOf s := by
  simp only [execRebuildDone, Host.Outcome.next.injEq] at h
  subst h
  repeat' split
  all_goals (first | with_reducible rfl | (simp; done))

theorem core_execSliceCoreFault (sl : Nat) (s : State) {t : State} (h : execSliceCoreFault sl s = .next t) : coreOf t = coreOf s := by
  simp only [execSliceCoreFault, Host.Outcome.next.injEq] at h
  subst h
  repeat' split
  all_goals (first | with_reducible rfl | (simp; done))

theorem core_execLockstepMismatch (s : State) {t : State} (h : execLockstepMismatch s = .next t) : coreOf t = coreOf s := by
  simp only [execLockstepMismatch, Host.Outcome.next.injEq] at h
  subst h
  repeat' split
  all_goals (first | with_reducible rfl | (simp; done))

theorem core_execCtlRestartDone (s : State) {t : State} (h : execCtlRestartDone s = .next t) : coreOf t = coreOf s := by
  simp only [execCtlRestartDone, Host.Outcome.next.injEq] at h
  subst h
  repeat' split
  all_goals (first | with_reducible rfl | (simp; done))

theorem core_execControlRamFault (s : State) {t : State} (h : execControlRamFault s = .next t) : coreOf t = coreOf s := by
  simp only [execControlRamFault, Host.Outcome.next.injEq] at h
  subst h
  repeat' split
  all_goals (first | with_reducible rfl | (simp; done))

theorem core_execSezalCfg (e : Env) (s : State) {t : State} (h : execSezalCfg e s = .next t) : coreOf t = coreOf s := by
  simp only [execSezalCfg, Host.Outcome.next.injEq] at h
  subst h
  repeat' split
  all_goals (first | with_reducible rfl | (simp; done))

theorem core_execDomainPortSet (e : Env) (s : State) {t : State} (h : execDomainPortSet e s = .next t) : coreOf t = coreOf s := by
  simp only [execDomainPortSet, Host.Outcome.next.injEq] at h
  subst h
  repeat' split
  all_goals (first | with_reducible rfl | (simp; done))

theorem core_execSezalStatus (e : Env) (s : State) {t : State} (h : execSezalStatus e s = .next t) : coreOf t = coreOf s := by
  simp only [execSezalStatus, Host.Outcome.next.injEq] at h
  subst h
  repeat' split
  all_goals (first | with_reducible rfl | (simp; done))

theorem core_execSezalMembers (e : Env) (s : State) {t : State} (h : execSezalMembers e s = .next t) : coreOf t = coreOf s := by
  simp only [execSezalMembers, Host.Outcome.next.injEq] at h
  subst h
  repeat' split
  all_goals (first | with_reducible rfl | (simp; done))

theorem core_execKeeperPrioSet (e : Env) (s : State) {t : State} (h : execKeeperPrioSet e s = .next t) : coreOf t = coreOf s := by
  simp only [execKeeperPrioSet, Host.Outcome.next.injEq] at h
  subst h
  repeat' split
  all_goals (first | with_reducible rfl | (simp; done))

theorem core_execHelloTx (p : Nat) (s : State) {t : State} (h : execHelloTx p s = .next t) : coreOf t = coreOf s := by
  simp only [execHelloTx, Host.Outcome.next.injEq] at h
  subst h
  repeat' split
  all_goals (first | with_reducible rfl | (simp; done))

theorem core_execHelloRx (p : Nat) (frame : List Byte) (s : State) {t : State} (h : execHelloRx p frame s = .next t) : coreOf t = coreOf s := by
  simp only [execHelloRx, Host.Outcome.next.injEq] at h
  subst h
  repeat' split
  all_goals (first | with_reducible rfl | (simp; done))

theorem core_execAdjacencyTimeout (p : Nat) (s : State) {t : State} (h : execAdjacencyTimeout p s = .next t) : coreOf t = coreOf s := by
  simp only [execAdjacencyTimeout, Host.Outcome.next.injEq] at h
  subst h
  repeat' split
  all_goals (first | with_reducible rfl | (simp; done))

theorem core_execMemberTx (s : State) {t : State} (h : execMemberTx s = .next t) : coreOf t = coreOf s := by
  simp only [execMemberTx, Host.Outcome.next.injEq] at h
  subst h
  repeat' split
  all_goals (first | with_reducible rfl | (simp; done))

theorem core_execMemberRx (p : Nat) (frame : List Byte) (s : State) {t : State} (h : execMemberRx p frame s = .next t) : coreOf t = coreOf s := by
  simp only [execMemberRx, Host.Outcome.next.injEq] at h
  subst h
  repeat' split
  all_goals (first | with_reducible rfl | (simp; done))

theorem core_execLeaveRx (p : Nat) (frame : List Byte) (s : State) {t : State} (h : execLeaveRx p frame s = .next t) : coreOf t = coreOf s := by
  simp only [execLeaveRx, Host.Outcome.next.injEq] at h
  subst h
  repeat' split
  all_goals (first | with_reducible rfl | (simp; done))

theorem core_execMemberAge (i : Nat) (s : State) {t : State} (h : execMemberAge i s = .next t) : coreOf t = coreOf s := by
  simp only [execMemberAge, Host.Outcome.next.injEq] at h
  subst h
  repeat' split
  all_goals (first | with_reducible rfl | (simp; done))

theorem core_execSyncReqTx (t1 : Nat) (s : State) {t : State} (h : execSyncReqTx t1 s = .next t) : coreOf t = coreOf s := by
  simp only [execSyncReqTx, Host.Outcome.next.injEq] at h
  subst h
  repeat' split
  all_goals (first | with_reducible rfl | (simp; done))

theorem core_execSyncReqRx (p : Nat) (frame : List Byte) (t2 : Nat) (s : State) {t : State} (h : execSyncReqRx p frame t2 s = .next t) : coreOf t = coreOf s := by
  simp only [execSyncReqRx, Host.Outcome.next.injEq] at h
  subst h
  repeat' split
  all_goals (first | with_reducible rfl | (simp; done))

theorem core_execSyncRespRx (p : Nat) (frame : List Byte) (t4 : Nat) (s : State) {t : State} (h : execSyncRespRx p frame t4 s = .next t) : coreOf t = coreOf s := by
  simp only [execSyncRespRx, Host.Outcome.next.injEq] at h
  subst h
  refine core_receiveCtl _ _ _ _ (fun m s => ?_) _
  try dsimp only
  repeat' split
  all_goals (first | with_reducible rfl | (simp; done))

theorem core_execHoldoverExpiry (s : State) {t : State} (h : execHoldoverExpiry s = .next t) : coreOf t = coreOf s := by
  simp only [execHoldoverExpiry, Host.Outcome.next.injEq] at h
  subst h
  repeat' split
  all_goals (first | with_reducible rfl | (simp; done))

theorem core_execQuadApplyAtDomain (e : Env) (s : State) {t : State} (h : execQuadApplyAtDomain e s = .next t) : coreOf t = coreOf s := by
  simp only [execQuadApplyAtDomain, Host.Outcome.next.injEq] at h
  subst h
  repeat' split
  all_goals (first | with_reducible rfl | (simp; done))

theorem core_execProposeRepeat (s : State) {t : State} (h : execProposeRepeat s = .next t) : coreOf t = coreOf s := by
  simp only [execProposeRepeat, Host.Outcome.next.injEq] at h
  subst h
  repeat' split
  all_goals (first | with_reducible rfl | (simp; done))

theorem core_execProposeRx (p : Nat) (frame : List Byte) (s : State) {t : State} (h : execProposeRx p frame s = .next t) : coreOf t = coreOf s := by
  simp only [execProposeRx, Host.Outcome.next.injEq] at h
  subst h
  repeat' split
  all_goals (first | with_reducible rfl | (simp; done))

theorem core_execVoteRepeat (s : State) {t : State} (h : execVoteRepeat s = .next t) : coreOf t = coreOf s := by
  simp only [execVoteRepeat, Host.Outcome.next.injEq] at h
  subst h
  repeat' split
  all_goals (first | with_reducible rfl | (simp; done))

theorem core_execVoteRx (p : Nat) (frame : List Byte) (s : State) {t : State} (h : execVoteRx p frame s = .next t) : coreOf t = coreOf s := by
  simp only [execVoteRx, Host.Outcome.next.injEq] at h
  subst h
  refine core_receiveCtl _ _ _ _ (fun m s => ?_) _
  try dsimp only
  repeat' split
  all_goals (first | with_reducible rfl | (simp; done))

theorem core_execVoteDeadline (s : State) {t : State} (h : execVoteDeadline s = .next t) : coreOf t = coreOf s := by
  simp only [execVoteDeadline, Host.Outcome.next.injEq] at h
  subst h
  repeat' split
  all_goals (first | with_reducible rfl | (simp; done))

theorem core_execOutcomeRepeat (s : State) {t : State} (h : execOutcomeRepeat s = .next t) : coreOf t = coreOf s := by
  simp only [execOutcomeRepeat, Host.Outcome.next.injEq] at h
  subst h
  repeat' split
  all_goals (first | with_reducible rfl | (simp; done))

theorem core_execOutcomeRx (p : Nat) (frame : List Byte) (s : State) {t : State} (h : execOutcomeRx p frame s = .next t) : coreOf t = coreOf s := by
  simp only [execOutcomeRx, Host.Outcome.next.injEq] at h
  subst h
  refine core_receiveFlood _ _ _ _ (fun m s => ?_) _
  try dsimp only
  repeat' split
  all_goals (first | with_reducible rfl | (simp; done))

theorem core_execOutcomeQueryRx (p : Nat) (frame : List Byte) (s : State) {t : State} (h : execOutcomeQueryRx p frame s = .next t) : coreOf t = coreOf s := by
  simp only [execOutcomeQueryRx, Host.Outcome.next.injEq] at h
  subst h
  refine core_receiveCtl _ _ _ _ (fun m s => ?_) _
  try dsimp only
  repeat' split
  all_goals (first | with_reducible rfl | (simp; done))

theorem core_execApplyTimeNoOutcome (set : Nat) (s : State) {t : State} (h : execApplyTimeNoOutcome set s = .next t) : coreOf t = coreOf s := by
  simp only [execApplyTimeNoOutcome, Host.Outcome.next.injEq] at h
  subst h
  repeat' split
  all_goals (first | with_reducible rfl | (simp; done))

theorem core_execSezalResyncFollow (e : Env) (s : State) {t : State} (h : execSezalResyncFollow e s = .next t) : coreOf t = coreOf s := by
  simp only [execSezalResyncFollow, Host.Outcome.next.injEq] at h
  subst h
  refine core_ifTurn _ _ (fun s => ?_) _
  try dsimp only
  repeat' split
  all_goals (first | with_reducible rfl | (simp; done))

theorem core_execSezalResyncForceApply (e : Env) (s : State) {t : State} (h : execSezalResyncForceApply e s = .next t) : coreOf t = coreOf s := by
  simp only [execSezalResyncForceApply, Host.Outcome.next.injEq] at h
  subst h
  refine core_ifTurn _ _ (fun s => ?_) _
  try dsimp only
  repeat' split
  all_goals (first | with_reducible rfl | (simp; done))

theorem core_execSezalResyncForceDiscard (e : Env) (s : State) {t : State} (h : execSezalResyncForceDiscard e s = .next t) : coreOf t = coreOf s := by
  simp only [execSezalResyncForceDiscard, Host.Outcome.next.injEq] at h
  subst h
  refine core_ifTurn _ _ (fun s => ?_) _
  try dsimp only
  repeat' split
  all_goals (first | with_reducible rfl | (simp; done))

theorem core_execResyncFollowTimeout (s : State) {t : State} (h : execResyncFollowTimeout s = .next t) : coreOf t = coreOf s := by
  simp only [execResyncFollowTimeout, Host.Outcome.next.injEq] at h
  subst h
  repeat' split
  all_goals (first | with_reducible rfl | (simp; done))

theorem core_execSysInfo (e : Env) (s : State) {t : State} (h : execSysInfo e s = .next t) : coreOf t = coreOf s := by
  simp only [execSysInfo, Host.Outcome.next.injEq] at h
  subst h
  repeat' split
  all_goals (first | with_reducible rfl | (simp; done))

theorem core_execSysAdminqSet (e : Env) (s : State) {t : State} (h : execSysAdminqSet e s = .next t) : coreOf t = coreOf s := by
  simp only [execSysAdminqSet, Host.Outcome.next.injEq] at h
  subst h
  repeat' split
  all_goals (first | with_reducible rfl | (simp; done))

theorem core_execSysResetWarm (e : Env) (s : State) {t : State} (h : execSysResetWarm e s = .next t) : coreOf t = coreOf s := by
  simp only [execSysResetWarm, Host.Outcome.next.injEq] at h
  subst h
  repeat' split
  all_goals (first | with_reducible rfl | (simp; done))

theorem core_execSysResetCold (e : Env) (s : State) {t : State} (h : execSysResetCold e s = .next t) : coreOf t = coreOf s := by
  simp only [execSysResetCold, Host.Outcome.next.injEq] at h
  subst h
  repeat' split
  all_goals (first | with_reducible rfl | (simp; done))

theorem core_execSysResetSlice (e : Env) (s : State) {t : State} (h : execSysResetSlice e s = .next t) : coreOf t = coreOf s := by
  simp only [execSysResetSlice, Host.Outcome.next.injEq] at h
  subst h
  repeat' split
  all_goals (first | with_reducible rfl | (simp; done))

theorem core_execSysResetCtl (e : Env) (s : State) {t : State} (h : execSysResetCtl e s = .next t) : coreOf t = coreOf s := by
  simp only [execSysResetCtl, Host.Outcome.next.injEq] at h
  subst h
  repeat' split
  all_goals (first | with_reducible rfl | (simp; done))

theorem core_execSysJournalStatus (e : Env) (s : State) {t : State} (h : execSysJournalStatus e s = .next t) : coreOf t = coreOf s := by
  simp only [execSysJournalStatus, Host.Outcome.next.injEq] at h
  subst h
  repeat' split
  all_goals (first | with_reducible rfl | (simp; done))

theorem core_execSysNop (e : Env) (s : State) {t : State} (h : execSysNop e s = .next t) : coreOf t = coreOf s := by
  simp only [execSysNop, Host.Outcome.next.injEq] at h
  subst h
  repeat' split
  all_goals (first | with_reducible rfl | (simp; done))

theorem core_execSysPatchLoad (e : Env) (s : State) {t : State} (h : execSysPatchLoad e s = .next t) : coreOf t = coreOf s := by
  simp only [execSysPatchLoad, Host.Outcome.next.injEq] at h
  subst h
  repeat' split
  all_goals (first | with_reducible rfl | (simp; done))

theorem core_execMbGo (data : Word) (s : State) {t : State} (h : execMbGo data s = .next t) : coreOf t = coreOf s := by
  simp only [execMbGo, Host.Outcome.next.injEq] at h
  subst h
  repeat' split
  all_goals (first | with_reducible rfl | (simp; done))

theorem core_execMbAck (data : Word) (s : State) {t : State} (h : execMbAck data s = .next t) : coreOf t = coreOf s := by
  simp only [execMbAck, Host.Outcome.next.injEq] at h
  subst h
  repeat' split
  all_goals (first | with_reducible rfl | (simp; done))

theorem core_execMbCommandDone (s0 : State) {t : State} (h : execMbCommandDone s0 = .next t) : coreOf t = coreOf s0 := by
  simp only [execMbCommandDone, Host.Outcome.next.injEq] at h
  subst h
  repeat' split
  all_goals (first | with_reducible rfl | (simp; done))

theorem core_execOmbGo (data : Word) (s : State) {t : State} (h : execOmbGo data s = .next t) : coreOf t = coreOf s := by
  simp only [execOmbGo, Host.Outcome.next.injEq] at h
  subst h
  repeat' split
  all_goals (first | with_reducible rfl | (simp; done))

theorem core_execOmbAck (data : Word) (s : State) {t : State} (h : execOmbAck data s = .next t) : coreOf t = coreOf s := by
  simp only [execOmbAck, Host.Outcome.next.injEq] at h
  subst h
  repeat' split
  all_goals (first | with_reducible rfl | (simp; done))

theorem core_execBoot (result : BootResult) (s : State) {t : State} (h : execBoot result s = .next t) : coreOf t = coreOf s := by
  simp only [execBoot, Host.Outcome.next.injEq] at h
  subst h
  repeat' split
  all_goals (first | with_reducible rfl | (simp; done))

theorem core_execDebugEnChange (level : Bool) (s : State) {t : State} (h : execDebugEnChange level s = .next t) : coreOf t = coreOf s := by
  simp only [execDebugEnChange, Host.Outcome.next.injEq] at h
  subst h
  repeat' split
  all_goals (first | with_reducible rfl | (simp; done))

end Sys2Proof.Machine
end

