-- ==== Sys2Proof/Laws/Frames.lean ====
section
/-! SUPPORT. Frames: the state seen through a mask of its parts, and for every operation one lemma that says which parts alone it may change. -/

namespace Sys2Proof.Machine

/-- The state with the parts of a mask blanked out. -/
def view (μ : StatePart → Bool) (s : State) : State :=
  { s with
    mb := if μ .mb then State.reset.mb else s.mb
    boot := if μ .boot then State.reset.boot else s.boot
    adm := if μ .adm then State.reset.adm else s.adm
    quad := if μ .quad then State.reset.quad else s.quad
    bank0 := if μ .bank0 then State.reset.bank0 else s.bank0
    bank1 := if μ .bank1 then State.reset.bank1 else s.bank1
    tables := if μ .tables then State.reset.tables else s.tables
    ports := if μ .ports then State.reset.ports else s.ports
    slices := if μ .slices then State.reset.slices else s.slices
    buf := if μ .buf then State.reset.buf else s.buf
    tm := if μ .tm then State.reset.tm else s.tm
    gate := if μ .gate then State.reset.gate else s.gate
    flows := if μ .flows then State.reset.flows else s.flows
    cap := if μ .cap then State.reset.cap else s.cap
    eng := if μ .eng then State.reset.eng else s.eng
    time := if μ .time then State.reset.time else s.time
    otd := if μ .otd then State.reset.otd else s.otd
    sez := if μ .sez then State.reset.sez else s.sez
    hq := if μ .hq then State.reset.hq else s.hq
    dma := if μ .dma then State.reset.dma else s.dma
    irq := if μ .irq then State.reset.irq else s.irq
    pwr := if μ .pwr then State.reset.pwr else s.pwr
    badger := if μ .badger then State.reset.badger else s.badger
    ctr := if μ .ctr then State.reset.ctr else s.ctr
    hpt := if μ .hpt then State.reset.hpt else s.hpt
    out := if μ .out then State.reset.out else s.out
    fresh := if μ .fresh then State.reset.fresh else s.fresh }

/-- States that look alike through a mask agree on the parts that it leaves. -/
theorem agree_of_view {μ : StatePart → Bool} {s t : State} (h : view μ t = view μ s) (p : StatePart) (hp : μ p = false) : State.agree p s t := by
  simp only [view, State.mk.injEq] at h
  cases p <;> simp_all only [State.agree, Bool.false_eq_true, if_false]

/-- Two states that agree on every part outside a mask look alike through it. -/
@[simp] theorem view_mk (μ : StatePart → Bool) (s : State) {x_mb x_boot x_adm x_quad x_bank0 x_bank1 x_tables x_ports x_slices x_buf x_tm x_gate x_flows x_cap x_eng x_time x_otd x_sez x_hq x_dma x_irq x_pwr x_badger x_ctr x_hpt x_out x_fresh}
    (h_mb : x_mb = s.mb ∨ μ .mb = true) (h_boot : x_boot = s.boot ∨ μ .boot = true) (h_adm : x_adm = s.adm ∨ μ .adm = true) (h_quad : x_quad = s.quad ∨ μ .quad = true) (h_bank0 : x_bank0 = s.bank0 ∨ μ .bank0 = true) (h_bank1 : x_bank1 = s.bank1 ∨ μ .bank1 = true) (h_tables : x_tables = s.tables ∨ μ .tables = true) (h_ports : x_ports = s.ports ∨ μ .ports = true) (h_slices : x_slices = s.slices ∨ μ .slices = true) (h_buf : x_buf = s.buf ∨ μ .buf = true) (h_tm : x_tm = s.tm ∨ μ .tm = true) (h_gate : x_gate = s.gate ∨ μ .gate = true) (h_flows : x_flows = s.flows ∨ μ .flows = true) (h_cap : x_cap = s.cap ∨ μ .cap = true) (h_eng : x_eng = s.eng ∨ μ .eng = true) (h_time : x_time = s.time ∨ μ .time = true) (h_otd : x_otd = s.otd ∨ μ .otd = true) (h_sez : x_sez = s.sez ∨ μ .sez = true) (h_hq : x_hq = s.hq ∨ μ .hq = true) (h_dma : x_dma = s.dma ∨ μ .dma = true) (h_irq : x_irq = s.irq ∨ μ .irq = true) (h_pwr : x_pwr = s.pwr ∨ μ .pwr = true) (h_badger : x_badger = s.badger ∨ μ .badger = true) (h_ctr : x_ctr = s.ctr ∨ μ .ctr = true) (h_hpt : x_hpt = s.hpt ∨ μ .hpt = true) (h_out : x_out = s.out ∨ μ .out = true) (h_fresh : x_fresh = s.fresh ∨ μ .fresh = true) :
    view μ ⟨s.build, x_mb, x_boot, x_adm, x_quad, x_bank0, x_bank1, x_tables, x_ports, x_slices, x_buf, x_tm, x_gate, x_flows, x_cap, x_eng, x_time, x_otd, x_sez, x_hq, x_dma, x_irq, x_pwr, x_badger, x_ctr, x_hpt, x_out, x_fresh, s.pending⟩ = view μ s := by
  simp only [view, State.mk.injEq, true_and, and_true]
  refine ⟨?_, ?_, ?_, ?_, ?_, ?_, ?_, ?_, ?_, ?_, ?_, ?_, ?_, ?_, ?_, ?_, ?_, ?_, ?_, ?_, ?_, ?_, ?_, ?_, ?_, ?_, ?_⟩
  · split
    · rfl
    · exact h_mb.resolve_right ‹_›
  · split
    · rfl
    · exact h_boot.resolve_right ‹_›
  · split
    · rfl
    · exact h_adm.resolve_right ‹_›
  · split
    · rfl
    · exact h_quad.resolve_right ‹_›
  · split
    · rfl
    · exact h_bank0.resolve_right ‹_›
  · split
    · rfl
    · exact h_bank1.resolve_right ‹_›
  · split
    · rfl
    · exact h_tables.resolve_right ‹_›
  · split
    · rfl
    · exact h_ports.resolve_right ‹_›
  · split
    · rfl
    · exact h_slices.resolve_right ‹_›
  · split
    · rfl
    · exact h_buf.resolve_right ‹_›
  · split
    · rfl
    · exact h_tm.resolve_right ‹_›
  · split
    · rfl
    · exact h_gate.resolve_right ‹_›
  · split
    · rfl
    · exact h_flows.resolve_right ‹_›
  · split
    · rfl
    · exact h_cap.resolve_right ‹_›
  · split
    · rfl
    · exact h_eng.resolve_right ‹_›
  · split
    · rfl
    · exact h_time.resolve_right ‹_›
  · split
    · rfl
    · exact h_otd.resolve_right ‹_›
  · split
    · rfl
    · exact h_sez.resolve_right ‹_›
  · split
    · rfl
    · exact h_hq.resolve_right ‹_›
  · split
    · rfl
    · exact h_dma.resolve_right ‹_›
  · split
    · rfl
    · exact h_irq.resolve_right ‹_›
  · split
    · rfl
    · exact h_pwr.resolve_right ‹_›
  · split
    · rfl
    · exact h_badger.resolve_right ‹_›
  · split
    · rfl
    · exact h_ctr.resolve_right ‹_›
  · split
    · rfl
    · exact h_hpt.resolve_right ‹_›
  · split
    · rfl
    · exact h_out.resolve_right ‹_›
  · split
    · rfl
    · exact h_fresh.resolve_right ‹_›

@[simp] theorem view_foldl {α : Type} {μ : StatePart → Bool} (g : State → α → State) (h : ∀ s a, view μ (g s a) = view μ s) (l : List α) (s : State) :
    view μ (l.foldl g s) = view μ s := by
  induction l generalizing s with
  | nil => rfl
  | cons a l ih => rw [List.foldl_cons, ih, h]

@[simp] theorem view_ite {μ : StatePart → Bool} (c : Prop) [Decidable c] (a b : State) : view μ (if c then a else b) = if c then view μ a else view μ b := by split <;> rfl

@[simp] theorem view_updCfg {μ : StatePart → Bool} (h_bank0 : μ .bank0 = true) (h_bank1 : μ .bank1 = true) (f : Cfg → Cfg) (s : State) : view μ (updCfg f s) = view μ s := by
  unfold updCfg
  try dsimp only
  repeat' split
  all_goals (first | with_reducible rfl | (simp [h_bank0, h_bank1]; done))

@[simp] theorem view_tellServo {μ : StatePart → Bool} (h_time : μ .time = true) (p : Nat) (transmit : Bool) (stamp : Nat) (data : List Byte) (s : State) : view μ (tellServo p transmit stamp data s) = view μ s := by
  unfold tellServo
  try dsimp only
  repeat' split
  all_goals (first | with_reducible rfl | (simp [h_time]; done))

@[simp] theorem view_updPort {μ : StatePart → Bool} (h_ports : μ .ports = true) (p : Nat) (f : PortRt → PortRt) (s : State) : view μ (updPort p f s) = view μ s := by
  unfold updPort
  try dsimp only
  repeat' split
  all_goals (first | with_reducible rfl | (simp [h_ports]; done))

@[simp] theorem view_updSlice {μ : StatePart → Bool} (h_slices : μ .slices = true) (sl : Nat) (f : SliceRt → SliceRt) (s : State) : view μ (updSlice sl f s) = view μ s := by
  unfold updSlice
  try dsimp only
  repeat' split
  all_goals (first | with_reducible rfl | (simp [h_slices]; done))

@[simp] theorem view_addCtr {μ : StatePart → Bool} (h_ctr : μ .ctr = true) (c : Ctr) (n : Nat) (s : State) : view μ (addCtr c n s) = view μ s := by
  unfold addCtr
  try dsimp only
  repeat' split
  all_goals (first | with_reducible rfl | (simp [h_ctr]; done))

@[simp] theorem view_bump {μ : StatePart → Bool} (h_ctr : μ .ctr = true) (c : Ctr) (s : State) : view μ (bump c s) = view μ s := by
  unfold bump
  try dsimp only
  repeat' split
  all_goals (first | with_reducible rfl | (simp [h_ctr]; done))

@[simp] theorem view_clearCtrs {μ : StatePart → Bool} (h_ctr : μ .ctr = true) (p : Ctr → Bool) (s : State) : view μ (clearCtrs p s) = view μ s := by
  unfold clearCtrs
  try dsimp only
  repeat' split
  all_goals (first | with_reducible rfl | (simp [h_ctr]; done))

@[simp] theorem view_emit {μ : StatePart → Bool} (h_out : μ .out = true) (o : Output) (s : State) : view μ (emit o s) = view μ s := by
  unfold emit
  try dsimp only
  repeat' split
  all_goals (first | with_reducible rfl | (simp [h_out]; done))

@[simp] theorem view_hpiWrite {μ : StatePart → Bool} (h_out : μ .out = true) (addr : Nat) (bytes : List Byte) (s : State) : view μ (hpiWrite addr bytes s) = view μ s := by
  unfold hpiWrite
  try dsimp only
  repeat' split
  all_goals (first | with_reducible rfl | (simp [h_out]; done))

@[simp] theorem view_hpiRead {μ : StatePart → Bool} (h_out : μ .out = true) (addr n : Nat) (s : State) : view μ (hpiRead addr n s) = view μ s := by
  unfold hpiRead
  try dsimp only
  repeat' split
  all_goals (first | with_reducible rfl | (simp [h_out]; done))

@[simp] theorem view_hptAnswer {μ : StatePart → Bool} (h_hpt : μ .hpt = true) (status data : Nat) (s : State) : view μ (hptAnswer status data s) = view μ s := by
  unfold hptAnswer
  try dsimp only
  repeat' split
  all_goals (first | with_reducible rfl | (simp [h_hpt]; done))

@[simp] theorem view_hptOk {μ : StatePart → Bool} (h_hpt : μ .hpt = true) (data : Nat) (s : State) : view μ (hptOk data s) = view μ s := by
  unfold hptOk
  try dsimp only
  repeat' split
  all_goals (first | with_reducible rfl | (simp [h_hpt]; done))

@[simp] theorem view_draw {μ : StatePart → Bool} (h_fresh : μ .fresh = true) (s : State) : view μ ((draw s).2) = view μ s := by
  unfold draw
  try dsimp only
  repeat' split
  all_goals (first | with_reducible rfl | (simp [h_fresh]; done))

@[simp] theorem view_updDom {μ : StatePart → Bool} (h_pwr : μ .pwr = true) (d : Nat) (f : Dom → Dom) (s : State) : view μ (updDom d f s) = view μ s := by
  unfold updDom
  try dsimp only
  repeat' split
  all_goals (first | with_reducible rfl | (simp [h_pwr]; done))

@[simp] theorem view_askWake {μ : StatePart → Bool} (h_pwr : μ .pwr = true) (d : Nat) (s : State) : view μ (askWake d s) = view μ s := by
  unfold askWake
  try dsimp only
  repeat' split
  all_goals (first | with_reducible rfl | (simp [h_pwr]; done))

@[simp] theorem view_msgWrite {μ : StatePart → Bool} (h_irq : μ .irq = true) (h_out : μ .out = true) (n : Nat) (s : State) : view μ (msgWrite n s) = view μ s := by
  unfold msgWrite
  try dsimp only
  repeat' split
  all_goals (first | with_reducible rfl | (simp [h_irq, h_out]; done))

@[simp] theorem view_settleTarget {μ : StatePart → Bool} (h_irq : μ .irq = true) (h_out : μ .out = true) (s : State) (n : Nat) : view μ (settleTarget s n) = view μ s := by
  unfold settleTarget
  try dsimp only
  repeat' split
  all_goals (first | with_reducible rfl | (simp [h_irq, h_out]; done))

@[simp] theorem view_settle {μ : StatePart → Bool} (h_irq : μ .irq = true) (h_out : μ .out = true) (s : State) : view μ (settle s) = view μ s := by
  unfold settle
  try dsimp only
  repeat' split
  all_goals (first | with_reducible rfl | (simp [h_irq, h_out]; done))

@[simp] theorem view_fire {μ : StatePart → Bool} (h_irq : μ .irq = true) (h_pwr : μ .pwr = true) (h_out : μ .out = true) (i : Nat) (s : State) : view μ (fire i s) = view μ s := by
  unfold fire
  try dsimp only
  repeat' split
  all_goals (first | with_reducible rfl | (simp [h_irq, h_pwr, h_out]; done))

@[simp] theorem view_sliceCause {μ : StatePart → Bool} (h_irq : μ .irq = true) (h_pwr : μ .pwr = true) (h_out : μ .out = true) (sl bit : Nat) (s : State) : view μ (sliceCause sl bit s) = view μ s := by
  unfold sliceCause
  try dsimp only
  repeat' split
  all_goals (first | with_reducible rfl | (simp [h_irq, h_pwr, h_out]; done))

@[simp] theorem view_linkEvent {μ : StatePart → Bool} (h_irq : μ .irq = true) (h_pwr : μ .pwr = true) (h_out : μ .out = true) (p : Nat) (s : State) : view μ (linkEvent p s) = view μ s := by
  unfold linkEvent
  try dsimp only
  repeat' split
  all_goals (first | with_reducible rfl | (simp [h_irq, h_pwr, h_out]; done))

@[simp] theorem view_updSet {μ : StatePart → Bool} (h_quad : μ .quad = true) (id : Nat) (f : QSet → QSet) (s : State) : view μ (updSet id f s) = view μ s := by
  unfold updSet
  try dsimp only
  repeat' split
  all_goals (first | with_reducible rfl | (simp [h_quad]; done))

@[simp] theorem view_ifTurn {μ : StatePart → Bool}  (e : Env) (f : State → State) (h : ∀ s, view μ (f s) = view μ s) (s : State) : view μ (ifTurn e f s) = view μ s := by
  unfold ifTurn
  split
  · exact h s
  · rfl

@[simp] theorem view_respond {μ : StatePart → Bool} (h_mb : μ .mb = true) (h_adm : μ .adm = true) (h_otd : μ .otd = true) (h_hq : μ .hq = true) (h_out : μ .out = true) (e : Env) (op : Nat) (v : Verdict) (s : State) : view μ (respond e op v s) = view μ s := by
  unfold respond
  try dsimp only
  repeat' split
  all_goals (first | with_reducible rfl | (simp [h_mb, h_adm, h_otd, h_hq, h_out]; done))

@[simp] theorem view_runCmd {μ : StatePart → Bool} (h_mb : μ .mb = true) (h_adm : μ .adm = true) (h_otd : μ .otd = true) (h_hq : μ .hq = true) (h_out : μ .out = true) (op : Nat) (len : Nat → Bool) (chk : Chk) (e : Env) (eff : State → State) (h : ∀ s, view μ (eff s) = view μ s) (s : State) : view μ (runCmd op len chk e eff s) = view μ s := by
  unfold runCmd
  refine view_ifTurn  _ _ (fun s => ?_) s
  split <;> simp [h_mb, h_adm, h_otd, h_hq, h_out, h]

@[simp] theorem view_runOk {μ : StatePart → Bool} (h_mb : μ .mb = true) (h_adm : μ .adm = true) (h_otd : μ .otd = true) (h_hq : μ .hq = true) (h_out : μ .out = true) (op : Nat) (len : Nat → Bool) (chk : Chk) (e : Env) (data : State → List Byte) (eff : State → State) (h : ∀ s, view μ (eff s) = view μ s) (s : State) : view μ (runOk op len chk e data eff s) = view μ s := by
  unfold runOk
  exact view_runCmd h_mb h_adm h_otd h_hq h_out _ _ _ _ _ (fun s => by simp [h_mb, h_adm, h_otd, h_hq, h_out, h]) s

@[simp] theorem view_setQueue {μ : StatePart → Bool} (h_ports : μ .ports = true) (h_tm : μ .tm = true) (id : Nat) (l : List Copy) (s : State) : view μ (setQueue id l s) = view μ s := by
  unfold setQueue
  try dsimp only
  repeat' split
  all_goals (first | with_reducible rfl | (simp [h_ports, h_tm]; done))

@[simp] theorem view_updStored {μ : StatePart → Bool} (h_buf : μ .buf = true) (f : Nat) (g : Stored → Stored) (s : State) : view μ (updStored f g s) = view μ s := by
  unfold updStored
  try dsimp only
  repeat' split
  all_goals (first | with_reducible rfl | (simp [h_buf]; done))

@[simp] theorem view_countLoad {μ : StatePart → Bool} (h_ports : μ .ports = true) (p : Nat) (transmit : Bool) (len : Nat) (s : State) : view μ (countLoad p transmit len s) = view μ s := by
  unfold countLoad
  try dsimp only
  repeat' split
  all_goals (first | with_reducible rfl | (simp [h_ports]; done))

@[simp] theorem view_meterAs {μ : StatePart → Bool} (h_otd : μ .otd = true) (old : Bool) (p : Nat) (transmit : Bool) (len outcome flow : Nat) (s : State) : view μ (meterAs old p transmit len outcome flow s) = view μ s := by
  unfold meterAs
  try dsimp only
  repeat' split
  all_goals (first | with_reducible rfl | (simp [h_otd]; done))

@[simp] theorem view_meterEvent {μ : StatePart → Bool} (h_otd : μ .otd = true) (p : Nat) (transmit : Bool) (len outcome flow : Nat) (s : State) : view μ (meterEvent p transmit len outcome flow s) = view μ s := by
  unfold meterEvent
  try dsimp only
  repeat' split
  all_goals (first | with_reducible rfl | (simp [h_otd]; done))

@[simp] theorem view_meterFrame {μ : StatePart → Bool} (h_otd : μ .otd = true) (f : Frame) (outcome flow : Nat) (s : State) : view μ (meterFrame f outcome flow s) = view μ s := by
  unfold meterFrame
  try dsimp only
  repeat' split
  all_goals (first | with_reducible rfl | (simp [h_otd]; done))

@[simp] theorem view_flowCount {μ : StatePart → Bool} (h_ctr : μ .ctr = true) (flow sl idx : Nat) (s : State) : view μ (flowCount flow sl idx s) = view μ s := by
  unfold flowCount
  try dsimp only
  repeat' split
  all_goals (first | with_reducible rfl | (simp [h_ctr]; done))

@[simp] theorem view_flowEvent {μ : StatePart → Bool} (h_flows : μ .flows = true) (h_irq : μ .irq = true) (h_pwr : μ .pwr = true) (h_out : μ .out = true) (flow cause : Nat) (s : State) : view μ (flowEvent flow cause s) = view μ s := by
  unfold flowEvent
  try dsimp only
  repeat' split
  all_goals (first | with_reducible rfl | (simp [h_flows, h_irq, h_pwr, h_out]; done))

@[simp] theorem view_returnCharges {μ : StatePart → Bool} (h_buf : μ .buf = true) (c : Classified) (s : State) : view μ (returnCharges c s) = view μ s := by
  unfold returnCharges
  try dsimp only
  repeat' split
  all_goals (first | with_reducible rfl | (simp [h_buf]; done))

@[simp] theorem view_freeCells {μ : StatePart → Bool} (h_buf : μ .buf = true) (cells : List Nat) (s : State) : view μ (freeCells cells s) = view μ s := by
  unfold freeCells
  try dsimp only
  repeat' split
  all_goals (first | with_reducible rfl | (simp [h_buf]; done))

@[simp] theorem view_sendPause {μ : StatePart → Bool} (h_ports : μ .ports = true) (p quanta : Nat) (prio : Option Nat) (s : State) : view μ (sendPause p quanta prio s) = view μ s := by
  unfold sendPause
  try dsimp only
  repeat' split
  all_goals (first | with_reducible rfl | (simp [h_ports]; done))

@[simp] theorem view_xoffCheck {μ : StatePart → Bool} (h_ports : μ .ports = true) (p prio : Nat) (s : State) : view μ (xoffCheck p prio s) = view μ s := by
  unfold xoffCheck
  try dsimp only
  repeat' split
  all_goals (first | with_reducible rfl | (simp [h_ports]; done))

@[simp] theorem view_xonCheck {μ : StatePart → Bool} (h_ports : μ .ports = true) (p prio : Nat) (s : State) : view μ (xonCheck p prio s) = view μ s := by
  unfold xonCheck
  try dsimp only
  repeat' split
  all_goals (first | with_reducible rfl | (simp [h_ports]; done))

@[simp] theorem view_releaseFrame {μ : StatePart → Bool} (h_ports : μ .ports = true) (h_buf : μ .buf = true) (c : Classified) (s : State) : view μ (releaseFrame c s) = view μ s := by
  unfold releaseFrame
  try dsimp only
  repeat' split
  all_goals (first | with_reducible rfl | (simp [h_ports, h_buf]; done))

@[simp] theorem view_txResult {μ : StatePart → Bool} (h_hq : μ .hq = true) (h : HostTx) (status stamp : Nat) (s : State) : view μ (txResult h status stamp s) = view μ s := by
  unfold txResult
  try dsimp only
  repeat' split
  all_goals (first | with_reducible rfl | (simp [h_hq]; done))

@[simp] theorem view_txLost {μ : StatePart → Bool} (h_hq : μ .hq = true) (f : Frame) (s : State) : view μ (txLost f s) = view μ s := by
  unfold txLost
  try dsimp only
  repeat' split
  all_goals (first | with_reducible rfl | (simp [h_hq]; done))

@[simp] theorem view_txLeft {μ : StatePart → Bool} (h_hq : μ .hq = true) (f : Frame) (stamp : Nat) (s : State) : view μ (txLeft f stamp s) = view μ s := by
  unfold txLeft
  try dsimp only
  repeat' split
  all_goals (first | with_reducible rfl | (simp [h_hq]; done))

@[simp] theorem view_freeIfDone {μ : StatePart → Bool} (h_ports : μ .ports = true) (h_buf : μ .buf = true) (h_hq : μ .hq = true) (f : Nat) (s : State) : view μ (freeIfDone f s) = view μ s := by
  unfold freeIfDone
  try dsimp only
  repeat' split
  all_goals (first | with_reducible rfl | (simp [h_ports, h_buf, h_hq]; done))

@[simp] theorem view_copyEnds {μ : StatePart → Bool} (h_ports : μ .ports = true) (h_buf : μ .buf = true) (h_hq : μ .hq = true) (f : Nat) (s : State) : view μ (copyEnds f s) = view μ s := by
  unfold copyEnds
  try dsimp only
  repeat' split
  all_goals (first | with_reducible rfl | (simp [h_ports, h_buf, h_hq]; done))

@[simp] theorem view_pushRecord {μ : StatePart → Bool} (h_cap : μ .cap = true) (h_ctr : μ .ctr = true) (sl ring : Nat) (bytes : List Byte) (s : State) : view μ (pushRecord sl ring bytes s) = view μ s := by
  unfold pushRecord
  try dsimp only
  repeat' split
  all_goals (first | with_reducible rfl | (simp [h_cap, h_ctr]; done))

theorem view_ruleStep {μ : StatePart → Bool} (h_cap : μ .cap = true) (h_ctr : μ .ctr = true) (h_out : μ .out = true) (v : CapEvent) (a : State × List Nat) (rule : Nat) : view μ (ruleStep v a rule).1 = view μ a.1 := by
  unfold ruleStep
  dsimp only
  repeat' split
  all_goals simp [h_cap, h_ctr, h_out]

@[simp] theorem view_capEvent {μ : StatePart → Bool} (h_cap : μ .cap = true) (h_ctr : μ .ctr = true) (h_out : μ .out = true) (v : CapEvent) (s : State) : view μ (capEvent v s).1 = view μ s := by
  have h : ∀ (l : List Nat) (a : State × List Nat), view μ (l.foldl (ruleStep v) a).1 = view μ a.1 := by
    intro l
    induction l with
    | nil => intro a; rfl
    | cons r l ih => intro a; rw [List.foldl_cons, ih, view_ruleStep h_cap h_ctr h_out]
  exact h _ _

@[simp] theorem view_capDrop {μ : StatePart → Bool} (h_cap : μ .cap = true) (h_ctr : μ .ctr = true) (h_out : μ .out = true) (sl reason : Nat) (c : Classified) (out : Option (Nat × Nat)) (s : State) : view μ (capDrop sl reason c out s) = view μ s := by
  unfold capDrop
  try dsimp only
  repeat' split
  all_goals (first | with_reducible rfl | (simp [h_cap, h_ctr, h_out]; done))

@[simp] theorem view_discardCopy {μ : StatePart → Bool} (h_ports : μ .ports = true) (h_buf : μ .buf = true) (h_cap : μ .cap = true) (h_hq : μ .hq = true) (h_ctr : μ .ctr = true) (h_out : μ .out = true) (reason : Nat) (x : Copy) (s : State) : view μ (discardCopy reason x s) = view μ s := by
  unfold discardCopy
  try dsimp only
  repeat' split
  all_goals (first | with_reducible rfl | (simp [h_ports, h_buf, h_cap, h_hq, h_ctr, h_out]; done))

@[simp] theorem view_flushPort {μ : StatePart → Bool} (h_ports : μ .ports = true) (h_buf : μ .buf = true) (h_tm : μ .tm = true) (h_cap : μ .cap = true) (h_hq : μ .hq = true) (h_ctr : μ .ctr = true) (h_out : μ .out = true) (p : Nat) (s : State) : view μ (flushPort p s) = view μ s := by
  unfold flushPort
  refine view_foldl _ (fun s q => ?_) _ _
  dsimp only
  split
  · rfl
  · rw [view_foldl _ (fun s c => by simp [h_ports, h_buf, h_tm, h_cap, h_hq, h_ctr, h_out])]
    simp [h_ports, h_buf, h_tm, h_cap, h_hq, h_ctr, h_out]

@[simp] theorem view_putBack {μ : StatePart → Bool} (h_ports : μ .ports = true) (h_tm : μ .tm = true) (cs : List Copy) (s : State) : view μ (putBack cs s) = view μ s := by
  unfold putBack
  exact view_foldl _ (fun s c => by simp [h_ports, h_tm]) _ _

@[simp] theorem view_pushDone {μ : StatePart → Bool} (h_slices : μ .slices = true) (sl : Nat) (e : DoneEntry) (s : State) : view μ (pushDone sl e s) = view μ s := by
  unfold pushDone
  try dsimp only
  repeat' split
  all_goals (first | with_reducible rfl | (simp [h_slices]; done))

@[simp] theorem view_noteEmpty {μ : StatePart → Bool} (h_ports : μ .ports = true) (p : Nat) (s : State) : view μ (noteEmpty p s) = view μ s := by
  unfold noteEmpty
  try dsimp only
  repeat' split
  all_goals (first | with_reducible rfl | (simp [h_ports]; done))

@[simp] theorem view_numberFrame {μ : StatePart → Bool} (h_flows : μ .flows = true) (k : Classified) (s : State) : view μ ((numberFrame k s).2) = view μ s := by
  unfold numberFrame
  try dsimp only
  repeat' split
  all_goals (first | with_reducible rfl | (simp [h_flows]; done))

@[simp] theorem view_dropAtDownPorts {μ : StatePart → Bool} (h_cap : μ .cap = true) (h_ctr : μ .ctr = true) (h_out : μ .out = true) (sl : Nat) (k : Classified) (s : State) : view μ ((dropAtDownPorts sl k s).2) = view μ s := by
  unfold dropAtDownPorts
  try dsimp only
  repeat' split
  all_goals (first | with_reducible rfl | (simp [h_cap, h_ctr, h_out]; done))

@[simp] theorem view_countRemaps {μ : StatePart → Bool} (h_ctr : μ .ctr = true) (k : Classified) (s : State) : view μ (countRemaps k s) = view μ s := by
  unfold countRemaps
  try dsimp only
  repeat' split
  all_goals (first | with_reducible rfl | (simp [h_ctr]; done))

@[simp] theorem view_storeFrame {μ : StatePart → Bool} (h_ports : μ .ports = true) (h_buf : μ .buf = true) (writing : Bool) (k : Classified) (s : State) : view μ (storeFrame writing k s) = view μ s := by
  unfold storeFrame
  try dsimp only
  repeat' split
  all_goals (first | with_reducible rfl | (simp [h_ports, h_buf]; done))

@[simp] theorem view_admitNow {μ : StatePart → Bool} (h_ports : μ .ports = true) (h_buf : μ .buf = true) (h_flows : μ .flows = true) (h_cap : μ .cap = true) (h_hq : μ .hq = true) (h_ctr : μ .ctr = true) (h_out : μ .out = true) (sl : Nat) (writing : Bool) (k : Classified) (s : State) : view μ (admitNow sl writing k s) = view μ s := by
  unfold admitNow
  try dsimp only
  repeat' split
  all_goals (first | with_reducible rfl | (simp [h_ports, h_buf, h_flows, h_cap, h_hq, h_ctr, h_out]; done))

@[simp] theorem view_updGate {μ : StatePart → Bool} (h_gate : μ .gate = true) (p : Nat) (f : GateRt → GateRt) (s : State) : view μ (updGate p f s) = view μ s := by
  unfold updGate
  try dsimp only
  repeat' split
  all_goals (first | with_reducible rfl | (simp [h_gate]; done))

@[simp] theorem view_changeLists {μ : StatePart → Bool} (h_gate : μ .gate = true) (p : Nat) (f : GateRt → GateRt) (s : State) : view μ (changeLists p f s) = view μ s := by
  unfold changeLists
  try dsimp only
  repeat' split
  all_goals (first | with_reducible rfl | (simp [h_gate]; done))

@[simp] theorem view_setTokens {μ : StatePart → Bool} (h_tm : μ .tm = true) (key : Nat) (t : Tokens) (s : State) : view μ (setTokens key t s) = view μ s := by
  unfold setTokens
  try dsimp only
  repeat' split
  all_goals (first | with_reducible rfl | (simp [h_tm]; done))

@[simp] theorem view_settleCredit {μ : StatePart → Bool} (h_tm : μ .tm = true) (p q : Nat) (s : State) : view μ (settleCredit p q s) = view μ s := by
  unfold settleCredit
  try dsimp only
  repeat' split
  all_goals (first | with_reducible rfl | (simp [h_tm]; done))

@[simp] theorem view_settleGateCredits {μ : StatePart → Bool} (h_tm : μ .tm = true) (p : Nat) (s : State) : view μ (settleGateCredits p s) = view μ s := by
  unfold settleGateCredits
  refine view_foldl _ (fun s q => ?_) _ _
  dsimp only
  repeat' split
  all_goals first | with_reducible rfl | (simp [h_tm]; done)

@[simp] theorem view_updQstat {μ : StatePart → Bool} (h_tm : μ .tm = true) (id : Nat) (f : QStat → QStat) (s : State) : view μ (updQstat id f s) = view μ s := by
  unfold updQstat
  try dsimp only
  repeat' split
  all_goals (first | with_reducible rfl | (simp [h_tm]; done))

@[simp] theorem view_freshDeficit {μ : StatePart → Bool} (h_tm : μ .tm = true) (p q : Nat) (s : State) : view μ (freshDeficit p q s) = view μ s := by
  unfold freshDeficit
  try dsimp only
  repeat' split
  all_goals (first | with_reducible rfl | (simp [h_tm]; done))

@[simp] theorem view_enqueueCopy {μ : StatePart → Bool} (h_ports : μ .ports = true) (h_tm : μ .tm = true) (h_cap : μ .cap = true) (h_pwr : μ .pwr = true) (h_ctr : μ .ctr = true) (h_out : μ .out = true) (c : Copy) (s : State) : view μ (enqueueCopy c s) = view μ s := by
  unfold enqueueCopy
  try dsimp only
  repeat' split
  all_goals (first | with_reducible rfl | (simp [h_ports, h_tm, h_cap, h_pwr, h_ctr, h_out]; done))

@[simp] theorem view_copyRecords {μ : StatePart → Bool} (h_flows : μ .flows = true) (f sl : Nat) (c : Classified) (s : State) : view μ ((copyRecords f sl c s).2) = view μ s := by
  unfold copyRecords
  try dsimp only
  repeat' split
  all_goals (first | with_reducible rfl | (simp [h_flows]; done))

@[simp] theorem view_enqueueMirror {μ : StatePart → Bool} (h_ports : μ .ports = true) (h_buf : μ .buf = true) (h_tm : μ .tm = true) (h_cap : μ .cap = true) (h_hq : μ .hq = true) (h_pwr : μ .pwr = true) (h_ctr : μ .ctr = true) (h_out : μ .out = true) (x : Copy) (s : State) : view μ (enqueueMirror x s) = view μ s := by
  unfold enqueueMirror
  try dsimp only
  repeat' split
  all_goals (first | with_reducible rfl | (simp [h_ports, h_buf, h_tm, h_cap, h_hq, h_pwr, h_ctr, h_out]; done))

@[simp] theorem view_dropMark {μ : StatePart → Bool} (h_ports : μ .ports = true) (h_buf : μ .buf = true) (h_hq : μ .hq = true) (f sl : Nat) (s : State) : view μ (dropMark f sl s) = view μ s := by
  unfold dropMark
  try dsimp only
  repeat' split
  all_goals (first | with_reducible rfl | (simp [h_ports, h_buf, h_hq]; done))

@[simp] theorem view_releaseMirrors {μ : StatePart → Bool} (h_ports : μ .ports = true) (h_buf : μ .buf = true) (h_tm : μ .tm = true) (h_cap : μ .cap = true) (h_hq : μ .hq = true) (h_pwr : μ .pwr = true) (h_ctr : μ .ctr = true) (h_out : μ .out = true) (f sl : Nat) (c : Classified) (s : State) : view μ (releaseMirrors f sl c s) = view μ s := by
  unfold releaseMirrors
  try dsimp only
  repeat' split
  all_goals (first | with_reducible rfl | (simp [h_ports, h_buf, h_tm, h_cap, h_hq, h_pwr, h_ctr, h_out]; done))

@[simp] theorem view_releaseHere {μ : StatePart → Bool} (h_ports : μ .ports = true) (h_buf : μ .buf = true) (h_tm : μ .tm = true) (h_flows : μ .flows = true) (h_cap : μ .cap = true) (h_hq : μ .hq = true) (h_pwr : μ .pwr = true) (h_ctr : μ .ctr = true) (h_out : μ .out = true) (sl f : Nat) (s : State) : view μ (releaseHere sl f s) = view μ s := by
  unfold releaseHere
  try dsimp only
  repeat' split
  all_goals (first | with_reducible rfl | (simp [h_ports, h_buf, h_tm, h_flows, h_cap, h_hq, h_pwr, h_ctr, h_out]; done))

@[simp] theorem view_discardHere {μ : StatePart → Bool} (h_ports : μ .ports = true) (h_buf : μ .buf = true) (h_tm : μ .tm = true) (h_cap : μ .cap = true) (h_hq : μ .hq = true) (h_pwr : μ .pwr = true) (h_ctr : μ .ctr = true) (h_out : μ .out = true) (sl f : Nat) (s : State) : view μ (discardHere sl f s) = view μ s := by
  unfold discardHere
  try dsimp only
  repeat' split
  all_goals (first | with_reducible rfl | (simp [h_ports, h_buf, h_tm, h_cap, h_hq, h_pwr, h_ctr, h_out]; done))

@[simp] theorem view_recCommit {μ : StatePart → Bool} (h_ports : μ .ports = true) (h_slices : μ .slices = true) (h_buf : μ .buf = true) (h_tm : μ .tm = true) (h_flows : μ .flows = true) (h_cap : μ .cap = true) (h_hq : μ .hq = true) (h_pwr : μ .pwr = true) (h_ctr : μ .ctr = true) (h_out : μ .out = true) (sl flow : Nat) (r : RecStep) (s : State) : view μ (recCommit sl flow r s) = view μ s := by
  unfold recCommit
  try dsimp only
  repeat' split
  all_goals (first | with_reducible rfl | (simp [h_ports, h_slices, h_buf, h_tm, h_flows, h_cap, h_hq, h_pwr, h_ctr, h_out]; done))

@[simp] theorem view_closeGapOf {μ : StatePart → Bool} (h_ports : μ .ports = true) (h_slices : μ .slices = true) (h_buf : μ .buf = true) (h_tm : μ .tm = true) (h_flows : μ .flows = true) (h_cap : μ .cap = true) (h_hq : μ .hq = true) (h_pwr : μ .pwr = true) (h_ctr : μ .ctr = true) (h_out : μ .out = true) (sl flow : Nat) (s : State) : view μ (closeGapOf sl flow s) = view μ s := by
  unfold closeGapOf
  try dsimp only
  repeat' split
  all_goals (first | with_reducible rfl | (simp [h_ports, h_slices, h_buf, h_tm, h_flows, h_cap, h_hq, h_pwr, h_ctr, h_out]; done))

@[simp] theorem view_closeAllOf {μ : StatePart → Bool} (h_ports : μ .ports = true) (h_slices : μ .slices = true) (h_buf : μ .buf = true) (h_tm : μ .tm = true) (h_flows : μ .flows = true) (h_cap : μ .cap = true) (h_hq : μ .hq = true) (h_pwr : μ .pwr = true) (h_ctr : μ .ctr = true) (h_out : μ .out = true) (sl flow : Nat) (s : State) : view μ (closeAllOf sl flow s) = view μ s := by
  unfold closeAllOf
  try dsimp only
  repeat' split
  all_goals (first | with_reducible rfl | (simp [h_ports, h_slices, h_buf, h_tm, h_flows, h_cap, h_hq, h_pwr, h_ctr, h_out]; done))

@[simp] theorem view_forceRoom {μ : StatePart → Bool} (h_ports : μ .ports = true) (h_slices : μ .slices = true) (h_buf : μ .buf = true) (h_tm : μ .tm = true) (h_flows : μ .flows = true) (h_cap : μ .cap = true) (h_hq : μ .hq = true) (h_irq : μ .irq = true) (h_pwr : μ .pwr = true) (h_ctr : μ .ctr = true) (h_out : μ .out = true) (sl : Nat) (s : State) : view μ (forceRoom sl s) = view μ s := by
  unfold forceRoom
  try dsimp only
  repeat' split
  all_goals (first | with_reducible rfl | (simp [h_ports, h_slices, h_buf, h_tm, h_flows, h_cap, h_hq, h_irq, h_pwr, h_ctr, h_out]; done))

@[simp] theorem view_recover {μ : StatePart → Bool} (h_ports : μ .ports = true) (h_slices : μ .slices = true) (h_buf : μ .buf = true) (h_tm : μ .tm = true) (h_flows : μ .flows = true) (h_cap : μ .cap = true) (h_hq : μ .hq = true) (h_irq : μ .irq = true) (h_pwr : μ .pwr = true) (h_ctr : μ .ctr = true) (h_out : μ .out = true) (sl flow recHold seq f : Nat) (s : State) : view μ (recover sl flow recHold seq f s) = view μ s := by
  unfold recover
  try dsimp only
  repeat' split
  all_goals (first | with_reducible rfl | (simp [h_ports, h_slices, h_buf, h_tm, h_flows, h_cap, h_hq, h_irq, h_pwr, h_ctr, h_out]; done))

@[simp] theorem view_takeHandoff {μ : StatePart → Bool} (h_ports : μ .ports = true) (h_slices : μ .slices = true) (h_buf : μ .buf = true) (h_tm : μ .tm = true) (h_flows : μ .flows = true) (h_cap : μ .cap = true) (h_hq : μ .hq = true) (h_irq : μ .irq = true) (h_pwr : μ .pwr = true) (h_ctr : μ .ctr = true) (h_out : μ .out = true) (sl f : Nat) (s : State) : view μ (takeHandoff sl f s) = view μ s := by
  unfold takeHandoff
  try dsimp only
  repeat' split
  all_goals (first | with_reducible rfl | (simp [h_ports, h_slices, h_buf, h_tm, h_flows, h_cap, h_hq, h_irq, h_pwr, h_ctr, h_out]; done))

@[simp] theorem view_setView {μ : StatePart → Bool} (h_bank0 : μ .bank0 = true) (h_bank1 : μ .bank1 = true) (h_ports : μ .ports = true) (h_slices : μ .slices = true) (h_buf : μ .buf = true) (h_tm : μ .tm = true) (h_gate : μ .gate = true) (h_flows : μ .flows = true) (h_cap : μ .cap = true) (h_hq : μ .hq = true) (h_irq : μ .irq = true) (h_pwr : μ .pwr = true) (h_ctr : μ .ctr = true) (h_out : μ .out = true) (h_fresh : μ .fresh = true) (id : Nat) (s : State) : view μ (setView id s) = view μ s := by
  unfold setView
  try dsimp only
  repeat' split
  all_goals (first | with_reducible rfl | (simp [h_bank0, h_bank1, h_ports, h_slices, h_buf, h_tm, h_gate, h_flows, h_cap, h_hq, h_irq, h_pwr, h_ctr, h_out, h_fresh]; done))

@[simp] theorem view_stageChange {μ : StatePart → Bool} (h_quad : μ .quad = true) (id : Nat) (ch : Change) (s : State) : view μ (stageChange id ch s) = view μ s := by
  unfold stageChange
  try dsimp only
  repeat' split
  all_goals (first | with_reducible rfl | (simp [h_quad]; done))

@[simp] theorem view_runStagedV {μ : StatePart → Bool} (h_mb : μ .mb = true) (h_adm : μ .adm = true) (h_quad : μ .quad = true) (h_bank0 : μ .bank0 = true) (h_bank1 : μ .bank1 = true) (h_ports : μ .ports = true) (h_slices : μ .slices = true) (h_buf : μ .buf = true) (h_tm : μ .tm = true) (h_gate : μ .gate = true) (h_flows : μ .flows = true) (h_cap : μ .cap = true) (h_otd : μ .otd = true) (h_hq : μ .hq = true) (h_irq : μ .irq = true) (h_pwr : μ .pwr = true) (h_ctr : μ .ctr = true) (h_out : μ .out = true) (h_fresh : μ .fresh = true) (i : Instr) (op : Nat) (len : Nat → Bool) (claims : List Claim) (table : Bool) (chk : State → Chk) (atStage : State → State) (d : List Byte) (imm : State → State × Verdict) (e : Env) (ha : ∀ s, view μ (atStage s) = view μ s) (hi : ∀ s, view μ (imm s).1 = view μ s) (s : State) : view μ (runStagedV i op len claims table chk atStage d imm e s) = view μ s := by
  unfold runStagedV
  refine view_ifTurn  _ _ (fun s => ?_) s
  repeat' split
  all_goals simp [h_mb, h_adm, h_quad, h_bank0, h_bank1, h_ports, h_slices, h_buf, h_tm, h_gate, h_flows, h_cap, h_otd, h_hq, h_irq, h_pwr, h_ctr, h_out, h_fresh, ha, hi]

@[simp] theorem view_runStaged {μ : StatePart → Bool} (h_mb : μ .mb = true) (h_adm : μ .adm = true) (h_quad : μ .quad = true) (h_bank0 : μ .bank0 = true) (h_bank1 : μ .bank1 = true) (h_ports : μ .ports = true) (h_slices : μ .slices = true) (h_buf : μ .buf = true) (h_tm : μ .tm = true) (h_gate : μ .gate = true) (h_flows : μ .flows = true) (h_cap : μ .cap = true) (h_otd : μ .otd = true) (h_hq : μ .hq = true) (h_irq : μ .irq = true) (h_pwr : μ .pwr = true) (h_ctr : μ .ctr = true) (h_out : μ .out = true) (h_fresh : μ .fresh = true) (i : Instr) (op : Nat) (len : Nat → Bool) (claims : List Claim) (chk : State → Chk) (side : State → State) (e : Env) (h : ∀ s, view μ (side s) = view μ s) (s : State) : view μ (runStaged i op len claims chk side e s) = view μ s := by
  unfold runStaged
  exact view_runStagedV h_mb h_adm h_quad h_bank0 h_bank1 h_ports h_slices h_buf h_tm h_gate h_flows h_cap h_otd h_hq h_irq h_pwr h_ctr h_out h_fresh _ _ _ _ _ _ _ _ _ _ (fun _ => rfl) (fun s => by simp [h_mb, h_adm, h_quad, h_bank0, h_bank1, h_ports, h_slices, h_buf, h_tm, h_gate, h_flows, h_cap, h_otd, h_hq, h_irq, h_pwr, h_ctr, h_out, h_fresh, h]) s

@[simp] theorem view_macInsert {μ : StatePart → Bool} (h_tables : μ .tables = true) (h_fresh : μ .fresh = true) (x : MacEntry) (s : State) : view μ (macInsert x s) = view μ s := by
  unfold macInsert
  try dsimp only
  repeat' split
  all_goals (first | with_reducible rfl | (simp [h_tables, h_fresh]; done))

@[simp] theorem view_macMap {μ : StatePart → Bool} (h_tables : μ .tables = true) (p : MacEntry → Bool) (f : MacEntry → MacEntry) (s : State) : view μ (macMap p f s) = view μ s := by
  unfold macMap
  try dsimp only
  repeat' split
  all_goals (first | with_reducible rfl | (simp [h_tables]; done))

@[simp] theorem view_macDrop {μ : StatePart → Bool} (h_tables : μ .tables = true) (p : MacEntry → Bool) (s : State) : view μ (macDrop p s) = view μ s := by
  unfold macDrop
  try dsimp only
  repeat' split
  all_goals (first | with_reducible rfl | (simp [h_tables]; done))

@[simp] theorem view_fwdCount {μ : StatePart → Bool} (h_ctr : μ .ctr = true) (sl i : Nat) (s : State) : view μ (fwdCount sl i s) = view μ s := by
  unfold fwdCount
  try dsimp only
  repeat' split
  all_goals (first | with_reducible rfl | (simp [h_ctr]; done))

@[simp] theorem view_learnOverflow {μ : StatePart → Bool} (h_tables : μ .tables = true) (h_irq : μ .irq = true) (h_pwr : μ .pwr = true) (h_out : μ .out = true) (s : State) : view μ (learnOverflow s) = view μ s := by
  unfold learnOverflow
  try dsimp only
  repeat' split
  all_goals (first | with_reducible rfl | (simp [h_tables, h_irq, h_pwr, h_out]; done))

@[simp] theorem view_macMove {μ : StatePart → Bool} (h_tables : μ .tables = true) (h_irq : μ .irq = true) (h_pwr : μ .pwr = true) (h_ctr : μ .ctr = true) (h_out : μ .out = true) (v : LearnEv) (x : MacEntry) (s : State) : view μ (macMove v x s) = view μ s := by
  unfold macMove
  try dsimp only
  repeat' split
  all_goals (first | with_reducible rfl | (simp [h_tables, h_irq, h_pwr, h_ctr, h_out]; done))

@[simp] theorem view_applyLearn {μ : StatePart → Bool} (h_tables : μ .tables = true) (h_irq : μ .irq = true) (h_pwr : μ .pwr = true) (h_ctr : μ .ctr = true) (h_out : μ .out = true) (h_fresh : μ .fresh = true) (v : LearnEv) (s : State) : view μ (applyLearn v s) = view μ s := by
  unfold applyLearn
  try dsimp only
  repeat' split
  all_goals (first | with_reducible rfl | (simp [h_tables, h_irq, h_pwr, h_ctr, h_out, h_fresh]; done))

@[simp] theorem view_drainLearn {μ : StatePart → Bool} (h_tables : μ .tables = true) (h_irq : μ .irq = true) (h_pwr : μ .pwr = true) (h_ctr : μ .ctr = true) (h_out : μ .out = true) (h_fresh : μ .fresh = true) (s : State) : view μ (drainLearn s) = view μ s := by
  unfold drainLearn
  try dsimp only
  repeat' split
  all_goals (first | with_reducible rfl | (simp [h_tables, h_irq, h_pwr, h_ctr, h_out, h_fresh]; done))

@[simp] theorem view_flushOnDown {μ : StatePart → Bool} (h_tables : μ .tables = true) (h_irq : μ .irq = true) (h_pwr : μ .pwr = true) (h_ctr : μ .ctr = true) (h_out : μ .out = true) (h_fresh : μ .fresh = true) (p : Nat) (s : State) : view μ (flushOnDown p s) = view μ s := by
  unfold flushOnDown
  try dsimp only
  repeat' split
  all_goals (first | with_reducible rfl | (simp [h_tables, h_irq, h_pwr, h_ctr, h_out, h_fresh]; done))

@[simp] theorem view_rebalance {μ : StatePart → Bool} (h_tables : μ .tables = true) (g : Nat) (s : State) : view μ (rebalance g s) = view μ s := by
  unfold rebalance
  try dsimp only
  repeat' split
  all_goals (first | with_reducible rfl | (simp [h_tables]; done))

@[simp] theorem view_rebalancePort {μ : StatePart → Bool} (h_tables : μ .tables = true) (p : Nat) (s : State) : view μ (rebalancePort p s) = view μ s := by
  unfold rebalancePort
  try dsimp only
  repeat' split
  all_goals (first | with_reducible rfl | (simp [h_tables]; done))

@[simp] theorem view_recomputeShared {μ : StatePart → Bool} (h_buf : μ .buf = true) (s : State) : view μ (recomputeShared s) = view μ s := by
  unfold recomputeShared
  try dsimp only
  repeat' split
  all_goals (first | with_reducible rfl | (simp [h_buf]; done))

@[simp] theorem view_settleHold {μ : StatePart → Bool} (h_gate : μ .gate = true) (p : Nat) (s : State) : view μ (settleHold p s) = view μ s := by
  unfold settleHold
  try dsimp only
  repeat' split
  all_goals (first | with_reducible rfl | (simp [h_gate]; done))

@[simp] theorem view_gateFlip {μ : StatePart → Bool} (h_tm : μ .tm = true) (h_gate : μ .gate = true) (p : Nat) (s : State) : view μ (gateFlip p s) = view μ s := by
  unfold gateFlip
  try dsimp only
  repeat' split
  all_goals (first | with_reducible rfl | (simp [h_tm, h_gate]; done))

@[simp] theorem view_gateArm {μ : StatePart → Bool} (h_gate : μ .gate = true) (p : Nat) (g : GateList) (s : State) : view μ ((gateArm p g s).1) = view μ s := by
  unfold gateArm
  try dsimp only
  repeat' split
  all_goals (first | with_reducible rfl | (simp [h_gate]; done))

@[simp] theorem view_gateListSetSide {μ : StatePart → Bool} (h_tm : μ .tm = true) (h_gate : μ .gate = true) (e : Env) (s : State) : view μ (gateListSetSide e s) = view μ s := by
  unfold gateListSetSide
  try dsimp only
  repeat' split
  all_goals (first | with_reducible rfl | (simp [h_tm, h_gate]; done))

@[simp] theorem view_gateEnableOnSide {μ : StatePart → Bool} (h_tm : μ .tm = true) (h_gate : μ .gate = true) (e : Env) (s : State) : view μ (gateEnableOnSide e s) = view μ s := by
  unfold gateEnableOnSide
  try dsimp only
  repeat' split
  all_goals (first | with_reducible rfl | (simp [h_tm, h_gate]; done))

@[simp] theorem view_gateEnableOffSide {μ : StatePart → Bool} (h_tm : μ .tm = true) (h_gate : μ .gate = true) (e : Env) (s : State) : view μ (gateEnableOffSide e s) = view μ s := by
  unfold gateEnableOffSide
  try dsimp only
  repeat' split
  all_goals (first | with_reducible rfl | (simp [h_tm, h_gate]; done))

@[simp] theorem view_cutFragment {μ : StatePart → Bool} (h_ports : μ .ports = true) (h_ctr : μ .ctr = true) (p : Nat) (s : State) : view μ (cutFragment p s) = view μ s := by
  unfold cutFragment
  try dsimp only
  repeat' split
  all_goals (first | with_reducible rfl | (simp [h_ports, h_ctr]; done))

@[simp] theorem view_flowMinSetSide {μ : StatePart → Bool} (h_buf : μ .buf = true) (_e : Env) (s : State) : view μ (flowMinSetSide _e s) = view μ s := by
  unfold flowMinSetSide
  try dsimp only
  repeat' split
  all_goals (first | with_reducible rfl | (simp [h_buf]; done))

@[simp] theorem view_macStageDelete {μ : StatePart → Bool} (h_tables : μ .tables = true) (e : Env) (s : State) : view μ (macStageDelete e s) = view μ s := by
  unfold macStageDelete
  try dsimp only
  repeat' split
  all_goals (first | with_reducible rfl | (simp [h_tables]; done))

@[simp] theorem view_macAddNow {μ : StatePart → Bool} (h_tables : μ .tables = true) (h_fresh : μ .fresh = true) (e : Env) (s : State) : view μ (macAddNow e s) = view μ s := by
  unfold macAddNow
  try dsimp only
  repeat' split
  all_goals (first | with_reducible rfl | (simp [h_tables, h_fresh]; done))

@[simp] theorem view_ageRestart {μ : StatePart → Bool} (h_tables : μ .tables = true) (old new : Nat) (s : State) : view μ (ageRestart old new s) = view μ s := by
  unfold ageRestart
  try dsimp only
  repeat' split
  all_goals (first | with_reducible rfl | (simp [h_tables]; done))

@[simp] theorem view_learnCfgGlobalSide {μ : StatePart → Bool} (h_tables : μ .tables = true) (_e : Env) (s : State) : view μ (learnCfgGlobalSide _e s) = view μ s := by
  unfold learnCfgGlobalSide
  try dsimp only
  repeat' split
  all_goals (first | with_reducible rfl | (simp [h_tables]; done))

@[simp] theorem view_lagSetSide {μ : StatePart → Bool} (h_tables : μ .tables = true) (e : Env) (s : State) : view μ (lagSetSide e s) = view μ s := by
  unfold lagSetSide
  try dsimp only
  repeat' split
  all_goals (first | with_reducible rfl | (simp [h_tables]; done))

@[simp] theorem view_flowContext {μ : StatePart → Bool} (h_ports : μ .ports = true) (h_slices : μ .slices = true) (h_buf : μ .buf = true) (h_tm : μ .tm = true) (h_flows : μ .flows = true) (h_cap : μ .cap = true) (h_hq : μ .hq = true) (h_pwr : μ .pwr = true) (h_ctr : μ .ctr = true) (h_out : μ .out = true) (f : Nat) (old new : Nat) (s : State) (sl : Nat) : view μ (flowContext f old new s sl) = view μ s := by
  unfold flowContext
  try dsimp only
  repeat' split
  all_goals (first | with_reducible rfl | (simp [h_ports, h_slices, h_buf, h_tm, h_flows, h_cap, h_hq, h_pwr, h_ctr, h_out]; done))

@[simp] theorem view_flowEnabled {μ : StatePart → Bool} (h_ports : μ .ports = true) (h_slices : μ .slices = true) (h_buf : μ .buf = true) (h_tm : μ .tm = true) (h_flows : μ .flows = true) (h_cap : μ .cap = true) (h_hq : μ .hq = true) (h_pwr : μ .pwr = true) (h_ctr : μ .ctr = true) (h_out : μ .out = true) (f : Nat) (s : State) : view μ (flowEnabled f s) = view μ s := by
  unfold flowEnabled
  try dsimp only
  repeat' split
  all_goals (first | with_reducible rfl | (simp [h_ports, h_slices, h_buf, h_tm, h_flows, h_cap, h_hq, h_pwr, h_ctr, h_out]; done))

@[simp] theorem view_mirrorAgain {μ : StatePart → Bool} (h_slices : μ .slices = true) (h_flows : μ .flows = true) (f : Nat) (x : FlowCfg) (s : State) : view μ (mirrorAgain f x s) = view μ s := by
  unfold mirrorAgain
  try dsimp only
  repeat' split
  all_goals (first | with_reducible rfl | (simp [h_slices, h_flows]; done))

@[simp] theorem view_flowSettle {μ : StatePart → Bool} (h_ports : μ .ports = true) (h_slices : μ .slices = true) (h_buf : μ .buf = true) (h_tm : μ .tm = true) (h_flows : μ .flows = true) (h_cap : μ .cap = true) (h_hq : μ .hq = true) (h_pwr : μ .pwr = true) (h_ctr : μ .ctr = true) (h_out : μ .out = true) (f : Nat) (old new : Option FlowCfg) (s : State) : view μ (flowSettle f old new s) = view μ s := by
  unfold flowSettle
  try dsimp only
  repeat' split
  all_goals (first | with_reducible rfl | (simp [h_ports, h_slices, h_buf, h_tm, h_flows, h_cap, h_hq, h_pwr, h_ctr, h_out]; done))

@[simp] theorem view_flowFlip {μ : StatePart → Bool} (h_ports : μ .ports = true) (h_slices : μ .slices = true) (h_buf : μ .buf = true) (h_tm : μ .tm = true) (h_flows : μ .flows = true) (h_cap : μ .cap = true) (h_hq : μ .hq = true) (h_pwr : μ .pwr = true) (h_ctr : μ .ctr = true) (h_out : μ .out = true) (f : Nat) (s : State) : view μ (flowFlip f s) = view μ s := by
  unfold flowFlip
  try dsimp only
  repeat' split
  all_goals (first | with_reducible rfl | (simp [h_ports, h_slices, h_buf, h_tm, h_flows, h_cap, h_hq, h_pwr, h_ctr, h_out]; done))

@[simp] theorem view_flowAddSide {μ : StatePart → Bool} (h_ports : μ .ports = true) (h_slices : μ .slices = true) (h_buf : μ .buf = true) (h_tm : μ .tm = true) (h_flows : μ .flows = true) (h_cap : μ .cap = true) (h_hq : μ .hq = true) (h_pwr : μ .pwr = true) (h_ctr : μ .ctr = true) (h_out : μ .out = true) (e : Env) (s : State) : view μ (flowAddSide e s) = view μ s := by
  unfold flowAddSide
  try dsimp only
  repeat' split
  all_goals (first | with_reducible rfl | (simp [h_ports, h_slices, h_buf, h_tm, h_flows, h_cap, h_hq, h_pwr, h_ctr, h_out]; done))

@[simp] theorem view_flowModifySide {μ : StatePart → Bool} (h_ports : μ .ports = true) (h_slices : μ .slices = true) (h_buf : μ .buf = true) (h_tm : μ .tm = true) (h_flows : μ .flows = true) (h_cap : μ .cap = true) (h_hq : μ .hq = true) (h_pwr : μ .pwr = true) (h_ctr : μ .ctr = true) (h_out : μ .out = true) (e : Env) (s : State) : view μ (flowModifySide e s) = view μ s := by
  unfold flowModifySide
  try dsimp only
  repeat' split
  all_goals (first | with_reducible rfl | (simp [h_ports, h_slices, h_buf, h_tm, h_flows, h_cap, h_hq, h_pwr, h_ctr, h_out]; done))

@[simp] theorem view_flowDeleteSide {μ : StatePart → Bool} (h_ports : μ .ports = true) (h_slices : μ .slices = true) (h_buf : μ .buf = true) (h_tm : μ .tm = true) (h_flows : μ .flows = true) (h_cap : μ .cap = true) (h_hq : μ .hq = true) (h_pwr : μ .pwr = true) (h_ctr : μ .ctr = true) (h_out : μ .out = true) (e : Env) (s : State) : view μ (flowDeleteSide e s) = view μ s := by
  unfold flowDeleteSide
  try dsimp only
  repeat' split
  all_goals (first | with_reducible rfl | (simp [h_ports, h_slices, h_buf, h_tm, h_flows, h_cap, h_hq, h_pwr, h_ctr, h_out]; done))

@[simp] theorem view_flowNow {μ : StatePart → Bool} (h_bank0 : μ .bank0 = true) (h_bank1 : μ .bank1 = true) (h_ports : μ .ports = true) (h_slices : μ .slices = true) (h_buf : μ .buf = true) (h_tm : μ .tm = true) (h_gate : μ .gate = true) (h_flows : μ .flows = true) (h_cap : μ .cap = true) (h_hq : μ .hq = true) (h_irq : μ .irq = true) (h_pwr : μ .pwr = true) (h_ctr : μ .ctr = true) (h_out : μ .out = true) (h_fresh : μ .fresh = true) (i : Instr) (f : Nat) (s : State) : view μ (flowNow i f s) = view μ s := by
  unfold flowNow
  try dsimp only
  repeat' split
  all_goals (first | with_reducible rfl | (simp [h_bank0, h_bank1, h_ports, h_slices, h_buf, h_tm, h_gate, h_flows, h_cap, h_hq, h_irq, h_pwr, h_ctr, h_out, h_fresh]; done))

@[simp] theorem view_stageKey {μ : StatePart → Bool} (h_tables : μ .tables = true) (f set : Nat) (ins : Option FlowCfg) (s : State) : view μ (stageKey f set ins s) = view μ s := by
  unfold stageKey
  try dsimp only
  repeat' split
  all_goals (first | with_reducible rfl | (simp [h_tables]; done))

@[simp] theorem view_flowCountersRead {μ : StatePart → Bool} (h_flows : μ .flows = true) (h_ctr : μ .ctr = true) (clear : Bool) (f sl : Nat) (s : State) : view μ (flowCountersRead clear f sl s) = view μ s := by
  unfold flowCountersRead
  try dsimp only
  repeat' split
  all_goals (first | with_reducible rfl | (simp [h_flows, h_ctr]; done))

@[simp] theorem view_prpHsrSetSide {μ : StatePart → Bool} (h_flows : μ .flows = true) (e : Env) (s : State) : view μ (prpHsrSetSide e s) = view μ s := by
  unfold prpHsrSetSide
  try dsimp only
  repeat' split
  all_goals (first | with_reducible rfl | (simp [h_flows]; done))

@[simp] theorem view_updSez {μ : StatePart → Bool} (h_sez : μ .sez = true) (f : Sezal → Sezal) (s : State) : view μ (updSez f s) = view μ s := by
  unfold updSez
  try dsimp only
  repeat' split
  all_goals (first | with_reducible rfl | (simp [h_sez]; done))

@[simp] theorem view_sezBump {μ : StatePart → Bool} (h_ctr : μ .ctr = true) (i : Nat) (s : State) : view μ (sezBump i s) = view μ s := by
  unfold sezBump
  try dsimp only
  repeat' split
  all_goals (first | with_reducible rfl | (simp [h_ctr]; done))

@[simp] theorem view_updAdj {μ : StatePart → Bool} (h_sez : μ .sez = true) (p : Nat) (f : Adj → Adj) (s : State) : view μ (updAdj p f s) = view μ s := by
  unfold updAdj
  try dsimp only
  repeat' split
  all_goals (first | with_reducible rfl | (simp [h_sez]; done))

@[simp] theorem view_goOutOfStep {μ : StatePart → Bool} (h_sez : μ .sez = true) (h_irq : μ .irq = true) (h_pwr : μ .pwr = true) (h_out : μ .out = true) (set : Nat) (s : State) : view μ (goOutOfStep set s) = view μ s := by
  unfold goOutOfStep
  try dsimp only
  repeat' split
  all_goals (first | with_reducible rfl | (simp [h_sez, h_irq, h_pwr, h_out]; done))

@[simp] theorem view_setTimeState {μ : StatePart → Bool} (h_time : μ .time = true) (h_sez : μ .sez = true) (h_irq : μ .irq = true) (h_pwr : μ .pwr = true) (h_out : μ .out = true) (t : TimeSt) (s : State) : view μ (setTimeState t s) = view μ s := by
  unfold setTimeState
  try dsimp only
  repeat' split
  all_goals (first | with_reducible rfl | (simp [h_time, h_sez, h_irq, h_pwr, h_out]; done))

@[simp] theorem view_sezResolve {μ : StatePart → Bool} (h_time : μ .time = true) (h_sez : μ .sez = true) (h_irq : μ .irq = true) (h_pwr : μ .pwr = true) (h_out : μ .out = true) (s : State) : view μ (sezResolve s) = view μ s := by
  unfold sezResolve
  try dsimp only
  repeat' split
  all_goals (first | with_reducible rfl | (simp [h_time, h_sez, h_irq, h_pwr, h_out]; done))

@[simp] theorem view_ctlOn {μ : StatePart → Bool} (h_ports : μ .ports = true) (h_ctr : μ .ctr = true) (tag p : Nat) (data : List Byte) (s : State) : view μ (ctlOn tag p data s) = view μ s := by
  unfold ctlOn
  try dsimp only
  repeat' split
  all_goals (first | with_reducible rfl | (simp [h_ports, h_ctr]; done))

@[simp] theorem view_takeSeq {μ : StatePart → Bool} (h_sez : μ .sez = true) (s : State) : view μ ((takeSeq s).2) = view μ s := by
  unfold takeSeq
  try dsimp only
  repeat' split
  all_goals (first | with_reducible rfl | (simp [h_sez]; done))

@[simp] theorem view_sendLocal {μ : StatePart → Bool} (h_ports : μ .ports = true) (h_sez : μ .sez = true) (h_ctr : μ .ctr = true) (tag p msg : Nat) (body : List Byte) (s : State) : view μ (sendLocal tag p msg body s) = view μ s := by
  unfold sendLocal
  try dsimp only
  repeat' split
  all_goals (first | with_reducible rfl | (simp [h_ports, h_sez, h_ctr]; done))

@[simp] theorem view_flood {μ : StatePart → Bool} (h_ports : μ .ports = true) (h_sez : μ .sez = true) (h_ctr : μ .ctr = true) (msg : Nat) (body : List Byte) (s : State) : view μ (flood msg body s) = view μ s := by
  unfold flood
  try dsimp only
  repeat' split
  all_goals (first | with_reducible rfl | (simp [h_ports, h_sez, h_ctr]; done))

@[simp] theorem view_forwardFlood {μ : StatePart → Bool} (h_ports : μ .ports = true) (h_ctr : μ .ctr = true) (p : Nat) (data : List Byte) (s : State) : view μ (forwardFlood p data s) = view μ s := by
  unfold forwardFlood
  try dsimp only
  repeat' split
  all_goals (first | with_reducible rfl | (simp [h_ports, h_ctr]; done))

@[simp] theorem view_sendToward {μ : StatePart → Bool} (h_ports : μ .ports = true) (h_ctr : μ .ctr = true) (dst : Nat) (data : List Byte) (s : State) : view μ (sendToward dst data s) = view μ s := by
  unfold sendToward
  try dsimp only
  repeat' split
  all_goals (first | with_reducible rfl | (simp [h_ports, h_ctr]; done))

@[simp] theorem view_sendDirected {μ : StatePart → Bool} (h_ports : μ .ports = true) (h_sez : μ .sez = true) (h_ctr : μ .ctr = true) (dst msg : Nat) (body : List Byte) (s : State) : view μ (sendDirected dst msg body s) = view μ s := by
  unfold sendDirected
  try dsimp only
  repeat' split
  all_goals (first | with_reducible rfl | (simp [h_ports, h_sez, h_ctr]; done))

@[simp] theorem view_floodOutcome {μ : StatePart → Bool} (h_ports : μ .ports = true) (h_sez : μ .sez = true) (h_ctr : μ .ctr = true) (set result culprit : Nat) (s : State) : view μ (floodOutcome set result culprit s) = view μ s := by
  unfold floodOutcome
  try dsimp only
  repeat' split
  all_goals (first | with_reducible rfl | (simp [h_ports, h_sez, h_ctr]; done))

@[simp] theorem view_cancelVote {μ : StatePart → Bool} (h_ports : μ .ports = true) (h_sez : μ .sez = true) (h_ctr : μ .ctr = true) (set : Nat) (s : State) : view μ (cancelVote set s) = view μ s := by
  unfold cancelVote
  try dsimp only
  repeat' split
  all_goals (first | with_reducible rfl | (simp [h_ports, h_sez, h_ctr]; done))

@[simp] theorem view_leaveDomain {μ : StatePart → Bool} (h_time : μ .time = true) (h_sez : μ .sez = true) (h_irq : μ .irq = true) (h_pwr : μ .pwr = true) (h_out : μ .out = true) (p : Nat) (s : State) : view μ (leaveDomain p s) = view μ s := by
  unfold leaveDomain
  try dsimp only
  repeat' split
  all_goals (first | with_reducible rfl | (simp [h_time, h_sez, h_irq, h_pwr, h_out]; done))

@[simp] theorem view_domainPortSetSide {μ : StatePart → Bool} (h_time : μ .time = true) (h_sez : μ .sez = true) (h_irq : μ .irq = true) (h_pwr : μ .pwr = true) (h_out : μ .out = true) (e : Env) (s : State) : view μ (domainPortSetSide e s) = view μ s := by
  unfold domainPortSetSide
  try dsimp only
  repeat' split
  all_goals (first | with_reducible rfl | (simp [h_time, h_sez, h_irq, h_pwr, h_out]; done))

@[simp] theorem view_recordDone {μ : StatePart → Bool} (h_ports : μ .ports = true) (h_slices : μ .slices = true) (p : Nat) (done : Bool) (t : TxCur) (c : Copy) (s : State) : view μ (recordDone p done t c s) = view μ s := by
  unfold recordDone
  try dsimp only
  repeat' split
  all_goals (first | with_reducible rfl | (simp [h_ports, h_slices]; done))

@[simp] theorem view_capTransmit {μ : StatePart → Bool} (h_cap : μ .cap = true) (h_ctr : μ .ctr = true) (h_out : μ .out = true) (p reason : Nat) (t : TxCur) (c : Copy) (s : State) : view μ (capTransmit p reason t c s) = view μ s := by
  unfold capTransmit
  try dsimp only
  repeat' split
  all_goals (first | with_reducible rfl | (simp [h_cap, h_ctr, h_out]; done))

@[simp] theorem view_loseHint {μ : StatePart → Bool} (h_ports : μ .ports = true) (p : Nat) (t : TxCur) (s : State) : view μ (loseHint p t s) = view μ s := by
  unfold loseHint
  try dsimp only
  repeat' split
  all_goals (first | with_reducible rfl | (simp [h_ports]; done))

@[simp] theorem view_countPred {μ : StatePart → Bool} (h_ctr : μ .ctr = true) (p : Nat) (t : TxCur) (s : State) : view μ (countPred p t s) = view μ s := by
  unfold countPred
  try dsimp only
  repeat' split
  all_goals (first | with_reducible rfl | (simp [h_ctr]; done))

@[simp] theorem view_stompItem {μ : StatePart → Bool} (h_ports : μ .ports = true) (h_slices : μ .slices = true) (h_buf : μ .buf = true) (h_cap : μ .cap = true) (h_otd : μ .otd = true) (h_hq : μ .hq = true) (h_ctr : μ .ctr = true) (h_out : μ .out = true) (h_fresh : μ .fresh = true) (p : Nat) (t : TxCur) (s : State) : view μ (stompItem p t s) = view μ s := by
  unfold stompItem
  try dsimp only
  repeat' split
  all_goals (first | with_reducible rfl | (simp [h_ports, h_slices, h_buf, h_cap, h_otd, h_hq, h_ctr, h_out, h_fresh]; done))

@[simp] theorem view_stompPort {μ : StatePart → Bool} (h_ports : μ .ports = true) (h_slices : μ .slices = true) (h_buf : μ .buf = true) (h_cap : μ .cap = true) (h_otd : μ .otd = true) (h_hq : μ .hq = true) (h_ctr : μ .ctr = true) (h_out : μ .out = true) (h_fresh : μ .fresh = true) (p : Nat) (s : State) : view μ (stompPort p s) = view μ s := by
  unfold stompPort
  try dsimp only
  repeat' split
  all_goals (first | with_reducible rfl | (simp [h_ports, h_slices, h_buf, h_cap, h_otd, h_hq, h_ctr, h_out, h_fresh]; done))

@[simp] theorem view_countResent {μ : StatePart → Bool} (h_ctr : μ .ctr = true) (c : Copy) (s : State) : view μ (countResent c s) = view μ s := by
  unfold countResent
  try dsimp only
  repeat' split
  all_goals (first | with_reducible rfl | (simp [h_ctr]; done))

@[simp] theorem view_dropInFlight {μ : StatePart → Bool} (h_slices : μ .slices = true) (sl : Nat) (cs : List Copy) (s : State) : view μ (dropInFlight sl cs s) = view μ s := by
  unfold dropInFlight
  try dsimp only
  repeat' split
  all_goals (first | with_reducible rfl | (simp [h_slices]; done))

@[simp] theorem view_endLpi {μ : StatePart → Bool} (h_ports : μ .ports = true) (h_ctr : μ .ctr = true) (h_out : μ .out = true) (p : Nat) (s : State) : view μ (endLpi p s) = view μ s := by
  unfold endLpi
  try dsimp only
  repeat' split
  all_goals (first | with_reducible rfl | (simp [h_ports, h_ctr, h_out]; done))

@[simp] theorem view_stopTransmit {μ : StatePart → Bool} (h_ports : μ .ports = true) (h_slices : μ .slices = true) (h_buf : μ .buf = true) (h_cap : μ .cap = true) (h_otd : μ .otd = true) (h_hq : μ .hq = true) (h_ctr : μ .ctr = true) (h_out : μ .out = true) (h_fresh : μ .fresh = true) (p : Nat) (s : State) : view μ (stopTransmit p s) = view μ s := by
  unfold stopTransmit
  try dsimp only
  repeat' split
  all_goals (first | with_reducible rfl | (simp [h_ports, h_slices, h_buf, h_cap, h_otd, h_hq, h_ctr, h_out, h_fresh]; done))

@[simp] theorem view_flushAll {μ : StatePart → Bool} (h_ports : μ .ports = true) (h_buf : μ .buf = true) (h_tm : μ .tm = true) (h_cap : μ .cap = true) (h_hq : μ .hq = true) (h_ctr : μ .ctr = true) (h_out : μ .out = true) (p : Nat) (s : State) : view μ (flushAll p s) = view μ s := by
  unfold flushAll
  try dsimp only
  repeat' split
  all_goals (first | with_reducible rfl | (simp [h_ports, h_buf, h_tm, h_cap, h_hq, h_ctr, h_out]; done))

@[simp] theorem view_linkWake {μ : StatePart → Bool} (h_pwr : μ .pwr = true) (p : Nat) (s : State) : view μ (linkWake p s) = view μ s := by
  unfold linkWake
  try dsimp only
  repeat' split
  all_goals (first | with_reducible rfl | (simp [h_pwr]; done))

@[simp] theorem view_enterHeld {μ : StatePart → Bool} (h_tables : μ .tables = true) (h_ports : μ .ports = true) (h_slices : μ .slices = true) (h_buf : μ .buf = true) (h_cap : μ .cap = true) (h_time : μ .time = true) (h_otd : μ .otd = true) (h_sez : μ .sez = true) (h_hq : μ .hq = true) (h_irq : μ .irq = true) (h_pwr : μ .pwr = true) (h_ctr : μ .ctr = true) (h_out : μ .out = true) (h_fresh : μ .fresh = true) (p : Nat) (s : State) : view μ (enterHeld p s) = view μ s := by
  unfold enterHeld
  try dsimp only
  repeat' split
  all_goals (first | with_reducible rfl | (simp [h_tables, h_ports, h_slices, h_buf, h_cap, h_time, h_otd, h_sez, h_hq, h_irq, h_pwr, h_ctr, h_out, h_fresh]; done))

@[simp] theorem view_enterComingUp {μ : StatePart → Bool} (h_ports : μ .ports = true) (h_pwr : μ .pwr = true) (p : Nat) (s : State) : view μ (enterComingUp p s) = view μ s := by
  unfold enterComingUp
  try dsimp only
  repeat' split
  all_goals (first | with_reducible rfl | (simp [h_ports, h_pwr]; done))

@[simp] theorem view_takeBanks {μ : StatePart → Bool} (h_tables : μ .tables = true) (id n : Nat) (s : State) (c : Nat) : view μ (takeBanks id n s c) = view μ s := by
  unfold takeBanks
  try dsimp only
  repeat' split
  all_goals (first | with_reducible rfl | (simp [h_tables]; done))

@[simp] theorem view_updTable {μ : StatePart → Bool} (h_tables : μ .tables = true) (id : Nat) (f : Table → Table) (s : State) : view μ (updTable id f s) = view μ s := by
  unfold updTable
  try dsimp only
  repeat' split
  all_goals (first | with_reducible rfl | (simp [h_tables]; done))

@[simp] theorem view_entryStage {μ : StatePart → Bool} (h_tables : μ .tables = true) (h_fresh : μ .fresh = true) (id setId : Nat) (x : Entry) (s : State) : view μ (entryStage id setId x s) = view μ s := by
  unfold entryStage
  try dsimp only
  repeat' split
  all_goals (first | with_reducible rfl | (simp [h_tables, h_fresh]; done))

@[simp] theorem view_logFaultAt {μ : StatePart → Bool} (h_irq : μ .irq = true) (h_pwr : μ .pwr = true) (h_badger : μ .badger = true) (h_out : μ .out = true) (code action unit addr : Nat) (s : State) : view μ (logFaultAt code action unit addr s) = view μ s := by
  unfold logFaultAt
  try dsimp only
  repeat' split
  all_goals (first | with_reducible rfl | (simp [h_irq, h_pwr, h_badger, h_out]; done))

@[simp] theorem view_logFault {μ : StatePart → Bool} (h_irq : μ .irq = true) (h_pwr : μ .pwr = true) (h_badger : μ .badger = true) (h_out : μ .out = true) (h_fresh : μ .fresh = true) (code action unit : Nat) (s : State) : view μ (logFault code action unit s) = view μ s := by
  unfold logFault
  try dsimp only
  repeat' split
  all_goals (first | with_reducible rfl | (simp [h_irq, h_pwr, h_badger, h_out, h_fresh]; done))

@[simp] theorem view_updUnit {μ : StatePart → Bool} (h_badger : μ .badger = true) (u : Nat) (f : UnitRt → UnitRt) (s : State) : view μ (updUnit u f s) = view μ s := by
  unfold updUnit
  try dsimp only
  repeat' split
  all_goals (first | with_reducible rfl | (simp [h_badger]; done))

@[simp] theorem view_isolateCluster {μ : StatePart → Bool} (h_tables : μ .tables = true) (h_badger : μ .badger = true) (u : Nat) (s : State) : view μ (isolateCluster u s) = view μ s := by
  unfold isolateCluster
  try dsimp only
  repeat' split
  all_goals (first | with_reducible rfl | (simp [h_tables, h_badger]; done))

@[simp] theorem view_isolateUnit {μ : StatePart → Bool} (h_tables : μ .tables = true) (h_slices : μ .slices = true) (h_buf : μ .buf = true) (h_eng : μ .eng = true) (h_irq : μ .irq = true) (h_pwr : μ .pwr = true) (h_badger : μ .badger = true) (h_out : μ .out = true) (u : Nat) (s : State) : view μ (isolateUnit u s) = view μ s := by
  unfold isolateUnit
  try dsimp only
  repeat' split
  all_goals (first | with_reducible rfl | (simp [h_tables, h_slices, h_buf, h_eng, h_irq, h_pwr, h_badger, h_out]; done))

@[simp] theorem view_updEngine {μ : StatePart → Bool} (h_eng : μ .eng = true) (g : Nat) (f : EngineRt → EngineRt) (s : State) : view μ (updEngine g f s) = view μ s := by
  unfold updEngine
  try dsimp only
  repeat' split
  all_goals (first | with_reducible rfl | (simp [h_eng]; done))

@[simp] theorem view_countCorrected {μ : StatePart → Bool} (h_ctr : μ .ctr = true) (u : Nat) (s : State) : view μ (countCorrected u s) = view μ s := by
  unfold countCorrected
  try dsimp only
  repeat' split
  all_goals (first | with_reducible rfl | (simp [h_ctr]; done))

@[simp] theorem view_bankFault {μ : StatePart → Bool} (h_tables : μ .tables = true) (h_slices : μ .slices = true) (h_buf : μ .buf = true) (h_eng : μ .eng = true) (h_irq : μ .irq = true) (h_pwr : μ .pwr = true) (h_badger : μ .badger = true) (h_out : μ .out = true) (h_fresh : μ .fresh = true) (u : Nat) (s : State) : view μ (bankFault u s) = view μ s := by
  unfold bankFault
  try dsimp only
  repeat' split
  all_goals (first | with_reducible rfl | (simp [h_tables, h_slices, h_buf, h_eng, h_irq, h_pwr, h_badger, h_out, h_fresh]; done))

@[simp] theorem view_memFault {μ : StatePart → Bool} (h_tables : μ .tables = true) (h_slices : μ .slices = true) (h_buf : μ .buf = true) (h_eng : μ .eng = true) (h_irq : μ .irq = true) (h_pwr : μ .pwr = true) (h_badger : μ .badger = true) (h_ctr : μ .ctr = true) (h_out : μ .out = true) (h_fresh : μ .fresh = true) (u : Nat) (s : State) : view μ (memFault u s) = view μ s := by
  unfold memFault
  try dsimp only
  repeat' split
  all_goals (first | with_reducible rfl | (simp [h_tables, h_slices, h_buf, h_eng, h_irq, h_pwr, h_badger, h_ctr, h_out, h_fresh]; done))

@[simp] theorem view_memErrors {μ : StatePart → Bool} (h_tables : μ .tables = true) (h_slices : μ .slices = true) (h_buf : μ .buf = true) (h_eng : μ .eng = true) (h_irq : μ .irq = true) (h_pwr : μ .pwr = true) (h_badger : μ .badger = true) (h_ctr : μ .ctr = true) (h_out : μ .out = true) (h_fresh : μ .fresh = true) (corrected bad : List Nat) (s : State) : view μ (memErrors corrected bad s) = view μ s := by
  unfold memErrors
  try dsimp only
  repeat' split
  all_goals (first | with_reducible rfl | (simp [h_tables, h_slices, h_buf, h_eng, h_irq, h_pwr, h_badger, h_ctr, h_out, h_fresh]; done))

@[simp] theorem view_returnPacing {μ : StatePart → Bool} (h_ports : μ .ports = true) (h_slices : μ .slices = true) (h_tm : μ .tm = true) (h_ctr : μ .ctr = true) (s : State) (p : Nat) : view μ (returnPacing s p) = view μ s := by
  unfold returnPacing
  try dsimp only
  repeat' split
  all_goals (first | with_reducible rfl | (simp [h_ports, h_slices, h_tm, h_ctr]; done))

@[simp] theorem view_resetEngine {μ : StatePart → Bool} (h_ports : μ .ports = true) (h_slices : μ .slices = true) (h_tm : μ .tm = true) (h_eng : μ .eng = true) (h_ctr : μ .ctr = true) (g cause : Nat) (s : State) : view μ (resetEngine g cause s) = view μ s := by
  unfold resetEngine
  try dsimp only
  repeat' split
  all_goals (first | with_reducible rfl | (simp [h_ports, h_slices, h_tm, h_eng, h_ctr]; done))

@[simp] theorem view_countReset {μ : StatePart → Bool} (h_tables : μ .tables = true) (h_slices : μ .slices = true) (h_buf : μ .buf = true) (h_eng : μ .eng = true) (h_irq : μ .irq = true) (h_pwr : μ .pwr = true) (h_badger : μ .badger = true) (h_out : μ .out = true) (g : Nat) (s : State) : view μ (countReset g s) = view μ s := by
  unfold countReset
  try dsimp only
  repeat' split
  all_goals (first | with_reducible rfl | (simp [h_tables, h_slices, h_buf, h_eng, h_irq, h_pwr, h_badger, h_out]; done))

@[simp] theorem view_scratchFault {μ : StatePart → Bool} (h_eng : μ .eng = true) (h_irq : μ .irq = true) (h_pwr : μ .pwr = true) (h_badger : μ .badger = true) (h_ctr : μ .ctr = true) (h_out : μ .out = true) (h_fresh : μ .fresh = true) (g n : Nat) (s : State) : view μ (scratchFault g n s) = view μ s := by
  unfold scratchFault
  try dsimp only
  repeat' split
  all_goals (first | with_reducible rfl | (simp [h_eng, h_irq, h_pwr, h_badger, h_ctr, h_out, h_fresh]; done))

@[simp] theorem view_runPass {μ : StatePart → Bool} (h_eng : μ .eng = true) (h_irq : μ .irq = true) (h_pwr : μ .pwr = true) (h_badger : μ .badger = true) (h_ctr : μ .ctr = true) (h_out : μ .out = true) (h_fresh : μ .fresh = true) (x : PassIn) (s : State) : view μ ((runPass x s).1) = view μ s := by
  unfold runPass
  try dsimp only
  repeat' split
  all_goals (first | with_reducible rfl | (simp [h_eng, h_irq, h_pwr, h_badger, h_ctr, h_out, h_fresh]; done))

@[simp] theorem view_portReshaped {μ : StatePart → Bool} (h_tables : μ .tables = true) (h_ports : μ .ports = true) (h_slices : μ .slices = true) (h_buf : μ .buf = true) (h_cap : μ .cap = true) (h_time : μ .time = true) (h_otd : μ .otd = true) (h_sez : μ .sez = true) (h_hq : μ .hq = true) (h_irq : μ .irq = true) (h_pwr : μ .pwr = true) (h_ctr : μ .ctr = true) (h_out : μ .out = true) (h_fresh : μ .fresh = true) (p : Nat) (old new : Option PortCfg) (s : State) : view μ (portReshaped p old new s) = view μ s := by
  unfold portReshaped
  try dsimp only
  repeat' split
  all_goals (first | with_reducible rfl | (simp [h_tables, h_ports, h_slices, h_buf, h_cap, h_time, h_otd, h_sez, h_hq, h_irq, h_pwr, h_ctr, h_out, h_fresh]; done))

@[simp] theorem view_portCfgSide {μ : StatePart → Bool} (h_tables : μ .tables = true) (h_ports : μ .ports = true) (h_slices : μ .slices = true) (h_buf : μ .buf = true) (h_cap : μ .cap = true) (h_time : μ .time = true) (h_otd : μ .otd = true) (h_sez : μ .sez = true) (h_hq : μ .hq = true) (h_irq : μ .irq = true) (h_pwr : μ .pwr = true) (h_ctr : μ .ctr = true) (h_out : μ .out = true) (h_fresh : μ .fresh = true) (e : Env) (s : State) : view μ (portCfgSide e s) = view μ s := by
  unfold portCfgSide
  try dsimp only
  repeat' split
  all_goals (first | with_reducible rfl | (simp [h_tables, h_ports, h_slices, h_buf, h_cap, h_time, h_otd, h_sez, h_hq, h_irq, h_pwr, h_ctr, h_out, h_fresh]; done))

@[simp] theorem view_adminUp {μ : StatePart → Bool} (h_ports : μ .ports = true) (h_pwr : μ .pwr = true) (p : Nat) (s : State) : view μ (adminUp p s) = view μ s := by
  unfold adminUp
  try dsimp only
  repeat' split
  all_goals (first | with_reducible rfl | (simp [h_ports, h_pwr]; done))

@[simp] theorem view_adminDown {μ : StatePart → Bool} (h_tables : μ .tables = true) (h_ports : μ .ports = true) (h_slices : μ .slices = true) (h_buf : μ .buf = true) (h_tm : μ .tm = true) (h_cap : μ .cap = true) (h_time : μ .time = true) (h_otd : μ .otd = true) (h_sez : μ .sez = true) (h_hq : μ .hq = true) (h_irq : μ .irq = true) (h_pwr : μ .pwr = true) (h_ctr : μ .ctr = true) (h_out : μ .out = true) (h_fresh : μ .fresh = true) (p : Nat) (s : State) : view μ (adminDown p s) = view μ s := by
  unfold adminDown
  try dsimp only
  repeat' split
  all_goals (first | with_reducible rfl | (simp [h_tables, h_ports, h_slices, h_buf, h_tm, h_cap, h_time, h_otd, h_sez, h_hq, h_irq, h_pwr, h_ctr, h_out, h_fresh]; done))

@[simp] theorem view_portCountersRead {μ : StatePart → Bool} (h_ports : μ .ports = true) (h_ctr : μ .ctr = true) (scope id : Nat) (clear : Bool) (s : State) : view μ (portCountersRead scope id clear s) = view μ s := by
  unfold portCountersRead
  try dsimp only
  repeat' split
  all_goals (first | with_reducible rfl | (simp [h_ports, h_ctr]; done))

@[simp] theorem view_fcChanged {μ : StatePart → Bool} (h_ports : μ .ports = true) (p : Nat) (old new : Nat) (s : State) : view μ (fcChanged p old new s) = view μ s := by
  unfold fcChanged
  try dsimp only
  repeat' split
  all_goals (first | with_reducible rfl | (simp [h_ports]; done))

@[simp] theorem view_portFcSide {μ : StatePart → Bool} (h_ports : μ .ports = true) (e : Env) (s : State) : view μ (portFcSide e s) = view μ s := by
  unfold portFcSide
  try dsimp only
  repeat' split
  all_goals (first | with_reducible rfl | (simp [h_ports]; done))

@[simp] theorem view_preemptChanged {μ : StatePart → Bool} (h_ports : μ .ports = true) (p : Nat) (old new : PreCfg) (s : State) : view μ (preemptChanged p old new s) = view μ s := by
  unfold preemptChanged
  try dsimp only
  repeat' split
  all_goals (first | with_reducible rfl | (simp [h_ports]; done))

@[simp] theorem view_portPreemptSide {μ : StatePart → Bool} (h_ports : μ .ports = true) (e : Env) (s : State) : view μ (portPreemptSide e s) = view μ s := by
  unfold portPreemptSide
  try dsimp only
  repeat' split
  all_goals (first | with_reducible rfl | (simp [h_ports]; done))

@[simp] theorem view_pauseKey {μ : StatePart → Bool} (h_ports : μ .ports = true) (p k quanta : Nat) (s : State) : view μ (pauseKey p k quanta s) = view μ s := by
  unfold pauseKey
  try dsimp only
  repeat' split
  all_goals (first | with_reducible rfl | (simp [h_ports]; done))

@[simp] theorem view_actPause {μ : StatePart → Bool} (h_ports : μ .ports = true) (p : Nat) (data : List Byte) (s : State) : view μ (actPause p data s) = view μ s := by
  unfold actPause
  try dsimp only
  repeat' split
  all_goals (first | with_reducible rfl | (simp [h_ports]; done))

@[simp] theorem view_actPfc {μ : StatePart → Bool} (h_ports : μ .ports = true) (p : Nat) (data : List Byte) (s : State) : view μ (actPfc p data s) = view μ s := by
  unfold actPfc
  try dsimp only
  repeat' split
  all_goals (first | with_reducible rfl | (simp [h_ports]; done))

@[simp] theorem view_raiseCtr {μ : StatePart → Bool} (h_ctr : μ .ctr = true) (c : Ctr) (v : Nat) (s : State) : view μ (raiseCtr c v s) = view μ s := by
  unfold raiseCtr
  try dsimp only
  repeat' split
  all_goals (first | with_reducible rfl | (simp [h_ctr]; done))

@[simp] theorem view_meterLost {μ : StatePart → Bool} (h_otd : μ .otd = true) (f : Frame) (s : State) : view μ (meterLost f s) = view μ s := by
  unfold meterLost
  try dsimp only
  repeat' split
  all_goals (first | with_reducible rfl | (simp [h_otd]; done))

@[simp] theorem view_toDen {μ : StatePart → Bool} (h_slices : μ .slices = true) (h_otd : μ .otd = true) (h_pwr : μ .pwr = true) (h_ctr : μ .ctr = true) (f : Frame) (s : State) : view μ (toDen f s) = view μ s := by
  unfold toDen
  try dsimp only
  repeat' split
  all_goals (first | with_reducible rfl | (simp [h_slices, h_otd, h_pwr, h_ctr]; done))

@[simp] theorem view_toIngress {μ : StatePart → Bool} (h_slices : μ .slices = true) (h_otd : μ .otd = true) (h_irq : μ .irq = true) (h_pwr : μ .pwr = true) (h_ctr : μ .ctr = true) (h_out : μ .out = true) (f : Frame) (s : State) : view μ (toIngress f s) = view μ s := by
  unfold toIngress
  try dsimp only
  repeat' split
  all_goals (first | with_reducible rfl | (simp [h_slices, h_otd, h_irq, h_pwr, h_ctr, h_out]; done))

@[simp] theorem view_passOn {μ : StatePart → Bool} (h_slices : μ .slices = true) (h_otd : μ .otd = true) (h_irq : μ .irq = true) (h_pwr : μ .pwr = true) (h_ctr : μ .ctr = true) (h_out : μ .out = true) (f : Frame) (s : State) : view μ (passOn f s) = view μ s := by
  unfold passOn
  try dsimp only
  repeat' split
  all_goals (first | with_reducible rfl | (simp [h_slices, h_otd, h_irq, h_pwr, h_ctr, h_out]; done))

@[simp] theorem view_leaveLpi {μ : StatePart → Bool} (h_ports : μ .ports = true) (h_ctr : μ .ctr = true) (h_out : μ .out = true) (p : Nat) (s : State) : view μ (leaveLpi p s) = view μ s := by
  unfold leaveLpi
  try dsimp only
  repeat' split
  all_goals (first | with_reducible rfl | (simp [h_ports, h_ctr, h_out]; done))

@[simp] theorem view_sendVerify {μ : StatePart → Bool} (h_ports : μ .ports = true) (p tag : Nat) (s : State) : view μ (sendVerify p tag s) = view μ s := by
  unfold sendVerify
  try dsimp only
  repeat' split
  all_goals (first | with_reducible rfl | (simp [h_ports]; done))

@[simp] theorem view_countParse {μ : StatePart → Bool} (h_ctr : μ .ctr = true) (sl : Nat) (r : ParseRes) (s : State) : view μ (countParse sl r s) = view μ s := by
  unfold countParse
  try dsimp only
  repeat' split
  all_goals (first | with_reducible rfl | (simp [h_ctr]; done))

@[simp] theorem view_meterRx {μ : StatePart → Bool} (h_otd : μ .otd = true) (f : Frame) (flow : Nat) (s : State) : view μ (meterRx f flow s) = view μ s := by
  unfold meterRx
  try dsimp only
  repeat' split
  all_goals (first | with_reducible rfl | (simp [h_otd]; done))

@[simp] theorem view_meterDomain {μ : StatePart → Bool} (h_otd : μ .otd = true) (f : Frame) (s : State) : view μ (meterDomain f s) = view μ s := by
  unfold meterDomain
  try dsimp only
  repeat' split
  all_goals (first | with_reducible rfl | (simp [h_otd]; done))

@[simp] theorem view_preDrop {μ : StatePart → Bool} (h_cap : μ .cap = true) (h_hq : μ .hq = true) (h_ctr : μ .ctr = true) (h_out : μ .out = true) (sl : Nat) (reason : Option Nat) (c : Classified) (s : State) : view μ (preDrop sl reason c s) = view μ s := by
  unfold preDrop
  try dsimp only
  repeat' split
  all_goals (first | with_reducible rfl | (simp [h_cap, h_hq, h_ctr, h_out]; done))

@[simp] theorem view_sezCount {μ : StatePart → Bool} (h_ctr : μ .ctr = true) (i : Nat) (s : State) : view μ (sezCount i s) = view μ s := by
  unfold sezCount
  try dsimp only
  repeat' split
  all_goals (first | with_reducible rfl | (simp [h_ctr]; done))

@[simp] theorem view_policeFrame {μ : StatePart → Bool} (h_tm : μ .tm = true) (h_ctr : μ .ctr = true) (sl idx : Nat) (f : Frame) (data : List Byte) (hs : List Hdr) (s : State) : view μ ((policeFrame sl idx f data hs s).1) = view μ s := by
  unfold policeFrame
  try dsimp only
  repeat' split
  all_goals (first | with_reducible rfl | (simp [h_tm, h_ctr]; done))

@[simp] theorem view_filterFrame {μ : StatePart → Bool} (h_tm : μ .tm = true) (h_ctr : μ .ctr = true) (c : Cfg) (sl flow : Nat) (f : Frame) (data : List Byte) (hs : List Hdr) (s : State) : view μ ((filterFrame c sl flow f data hs s).1) = view μ s := by
  unfold filterFrame
  try dsimp only
  repeat' split
  all_goals (first | with_reducible rfl | (simp [h_tm, h_ctr]; done))

@[simp] theorem view_nodeIn {μ : StatePart → Bool} (h_flows : μ .flows = true) (h_ctr : μ .ctr = true) (n : Nat × PrpNode) (f : Frame) (s : State) : view μ ((nodeIn n f s).2) = view μ s := by
  unfold nodeIn
  try dsimp only
  repeat' split
  all_goals (first | with_reducible rfl | (simp [h_flows, h_ctr]; done))

@[simp] theorem view_learnSa {μ : StatePart → Bool} (h_tables : μ .tables = true) (h_irq : μ .irq = true) (h_pwr : μ .pwr = true) (h_ctr : μ .ctr = true) (h_out : μ .out = true) (c : Cfg) (sl : Nat) (f : Frame) (raw : List Byte) (v : Vlan) (s : State) : view μ ((learnSa c sl f raw v s).2) = view μ s := by
  unfold learnSa
  try dsimp only
  repeat' split
  all_goals (first | with_reducible rfl | (simp [h_tables, h_irq, h_pwr, h_ctr, h_out]; done))

@[simp] theorem view_decide' {μ : StatePart → Bool} (h_tables : μ .tables = true) (h_ports : μ .ports = true) (h_sez : μ .sez = true) (h_irq : μ .irq = true) (h_pwr : μ .pwr = true) (h_ctr : μ .ctr = true) (h_out : μ .out = true) (sl : Nat) (x : FwdIn) (m : List Word) (s : State) : view μ ((decide' sl x m s).2.2) = view μ s := by
  unfold decide'
  dsimp only
  repeat' split
  all_goals first
    | simp [h_tables, h_ports, h_sez, h_irq, h_pwr, h_ctr, h_out]; done
    | (rename_i h; have h' := congrArg (fun x => view μ x.2) h; simpa [h_tables, h_ports, h_sez, h_irq, h_pwr, h_ctr, h_out] using h'.symm)

@[simp] theorem view_capIngress {μ : StatePart → Bool} (h_cap : μ .cap = true) (h_ctr : μ .ctr = true) (h_out : μ .out = true) (sl : Nat) (k : Classified) (s : State) : view μ ((capIngress sl k s).2) = view μ s := by
  unfold capIngress
  try dsimp only
  repeat' split
  all_goals (first | with_reducible rfl | (simp [h_cap, h_ctr, h_out]; done))

@[simp] theorem view_sendOn {μ : StatePart → Bool} (h_ports : μ .ports = true) (h_slices : μ .slices = true) (h_buf : μ .buf = true) (h_flows : μ .flows = true) (h_cap : μ .cap = true) (h_hq : μ .hq = true) (h_ctr : μ .ctr = true) (h_out : μ .out = true) (sl : Nat) (k : Classified) (s : State) : view μ (sendOn sl k s) = view μ s := by
  unfold sendOn
  try dsimp only
  repeat' split
  all_goals (first | with_reducible rfl | (simp [h_ports, h_slices, h_buf, h_flows, h_cap, h_hq, h_ctr, h_out]; done))

@[simp] theorem view_forward {μ : StatePart → Bool} (h_tables : μ .tables = true) (h_ports : μ .ports = true) (h_slices : μ .slices = true) (h_buf : μ .buf = true) (h_flows : μ .flows = true) (h_cap : μ .cap = true) (h_sez : μ .sez = true) (h_hq : μ .hq = true) (h_irq : μ .irq = true) (h_pwr : μ .pwr = true) (h_ctr : μ .ctr = true) (h_out : μ .out = true) (sl : Nat) (k : Classified) (tag : Option Nat) (raw : List Byte) (orig : List Hdr) (s : State) : view μ (forward sl k tag raw orig s) = view μ s := by
  unfold forward
  try dsimp only
  repeat' split
  all_goals (first | with_reducible rfl | (simp [h_tables, h_ports, h_slices, h_buf, h_flows, h_cap, h_sez, h_hq, h_irq, h_pwr, h_ctr, h_out]; done))

@[simp] theorem view_admitChecks {μ : StatePart → Bool} (h_tables : μ .tables = true) (h_ports : μ .ports = true) (h_slices : μ .slices = true) (h_buf : μ .buf = true) (h_tm : μ .tm = true) (h_flows : μ .flows = true) (h_cap : μ .cap = true) (h_sez : μ .sez = true) (h_hq : μ .hq = true) (h_irq : μ .irq = true) (h_pwr : μ .pwr = true) (h_ctr : μ .ctr = true) (h_out : μ .out = true) (sl : Nat) (k : Classified) (tag : Option Nat) (orig : ParseRes) (raw : List Byte) (s : State) : view μ (admitChecks sl k tag orig raw s) = view μ s := by
  unfold admitChecks
  dsimp only
  repeat' split
  all_goals first
    | simp [h_tables, h_ports, h_slices, h_buf, h_tm, h_flows, h_cap, h_sez, h_hq, h_irq, h_pwr, h_ctr, h_out]; done
    | (rename_i h; have h' := congrArg (fun x => view μ x.1) h; simp [h_tables, h_ports, h_slices, h_buf, h_tm, h_flows, h_cap, h_sez, h_hq, h_irq, h_pwr, h_ctr, h_out] at h' ⊢; exact h'.symm)
    | (rename_i h _; have h' := congrArg (fun x => view μ x.1) h; simp [h_tables, h_ports, h_slices, h_buf, h_tm, h_flows, h_cap, h_sez, h_hq, h_irq, h_pwr, h_ctr, h_out] at h' ⊢; exact h'.symm)
    | (rename_i h _ _; have h' := congrArg (fun x => view μ x.1) h; simp [h_tables, h_ports, h_slices, h_buf, h_tm, h_flows, h_cap, h_sez, h_hq, h_irq, h_pwr, h_ctr, h_out] at h' ⊢; exact h'.symm)

@[simp] theorem view_beforeE1 {μ : StatePart → Bool} (h_ports : μ .ports = true) (h_cap : μ .cap = true) (h_eng : μ .eng = true) (h_otd : μ .otd = true) (h_sez : μ .sez = true) (h_hq : μ .hq = true) (h_irq : μ .irq = true) (h_pwr : μ .pwr = true) (h_badger : μ .badger = true) (h_ctr : μ .ctr = true) (h_out : μ .out = true) (h_fresh : μ .fresh = true) (sl : Nat) (faults : LookupFaults) (f : Frame) (parse : ParseRes) (s : State) : view μ ((beforeE1 sl faults f parse s).1) = view μ s := by
  unfold beforeE1
  try dsimp only
  repeat' split
  all_goals (first | with_reducible rfl | (simp [h_ports, h_cap, h_eng, h_otd, h_sez, h_hq, h_irq, h_pwr, h_badger, h_ctr, h_out, h_fresh]; done))

@[simp] theorem view_throughE1 {μ : StatePart → Bool} (h_tables : μ .tables = true) (h_ports : μ .ports = true) (h_slices : μ .slices = true) (h_buf : μ .buf = true) (h_tm : μ .tm = true) (h_flows : μ .flows = true) (h_cap : μ .cap = true) (h_eng : μ .eng = true) (h_otd : μ .otd = true) (h_sez : μ .sez = true) (h_hq : μ .hq = true) (h_irq : μ .irq = true) (h_pwr : μ .pwr = true) (h_badger : μ .badger = true) (h_ctr : μ .ctr = true) (h_out : μ .out = true) (h_fresh : μ .fresh = true) (sl : Nat) (f : Frame) (parse : ParseRes) (x : AtE1) (s : State) : view μ (throughE1 sl f parse x s) = view μ s := by
  unfold throughE1
  try dsimp only
  repeat' split
  all_goals (first | with_reducible rfl | (simp [h_tables, h_ports, h_slices, h_buf, h_tm, h_flows, h_cap, h_eng, h_otd, h_sez, h_hq, h_irq, h_pwr, h_badger, h_ctr, h_out, h_fresh]; done))

@[simp] theorem view_lostInEngine {μ : StatePart → Bool} (h_ports : μ .ports = true) (h_cap : μ .cap = true) (h_eng : μ .eng = true) (h_otd : μ .otd = true) (h_sez : μ .sez = true) (h_hq : μ .hq = true) (h_irq : μ .irq = true) (h_pwr : μ .pwr = true) (h_badger : μ .badger = true) (h_ctr : μ .ctr = true) (h_out : μ .out = true) (h_fresh : μ .fresh = true) (g : Nat) (f : Frame) (parse : ParseRes) (s : State) : view μ (lostInEngine g f parse s) = view μ s := by
  unfold lostInEngine
  dsimp only
  repeat' split
  all_goals first
    | (simp [h_ports, h_cap, h_eng, h_otd, h_sez, h_hq, h_irq, h_pwr, h_badger, h_ctr, h_out, h_fresh]; done)
    | (rename_i h; have h' := congrArg (fun x => view μ x.1) h; simp [h_ports, h_cap, h_eng, h_otd, h_sez, h_hq, h_irq, h_pwr, h_badger, h_ctr, h_out, h_fresh] at h' ⊢; first | exact h'.symm | (rw [← h']))
    | (rename_i h _; have h' := congrArg (fun x => view μ x.1) h; simp [h_ports, h_cap, h_eng, h_otd, h_sez, h_hq, h_irq, h_pwr, h_badger, h_ctr, h_out, h_fresh] at h' ⊢; first | exact h'.symm | (rw [← h']))
    | (rename_i h _ _; have h' := congrArg (fun x => view μ x.1) h; simp [h_ports, h_cap, h_eng, h_otd, h_sez, h_hq, h_irq, h_pwr, h_badger, h_ctr, h_out, h_fresh] at h' ⊢; first | exact h'.symm | (rw [← h']))

@[simp] theorem view_classifyFrame {μ : StatePart → Bool} (h_tables : μ .tables = true) (h_ports : μ .ports = true) (h_slices : μ .slices = true) (h_buf : μ .buf = true) (h_tm : μ .tm = true) (h_flows : μ .flows = true) (h_cap : μ .cap = true) (h_eng : μ .eng = true) (h_time : μ .time = true) (h_otd : μ .otd = true) (h_sez : μ .sez = true) (h_hq : μ .hq = true) (h_irq : μ .irq = true) (h_pwr : μ .pwr = true) (h_badger : μ .badger = true) (h_ctr : μ .ctr = true) (h_out : μ .out = true) (h_fresh : μ .fresh = true) (sl : Nat) (lost : Option Nat) (faults : LookupFaults) (f : Frame) (s : State) : view μ (classifyFrame sl lost faults f s) = view μ s := by
  unfold classifyFrame
  dsimp only
  repeat' split
  all_goals first
    | (simp [h_tables, h_ports, h_slices, h_buf, h_tm, h_flows, h_cap, h_eng, h_time, h_otd, h_sez, h_hq, h_irq, h_pwr, h_badger, h_ctr, h_out, h_fresh]; done)
    | (rename_i h; have h' := congrArg (fun x => view μ x.1) h; simp [h_tables, h_ports, h_slices, h_buf, h_tm, h_flows, h_cap, h_eng, h_time, h_otd, h_sez, h_hq, h_irq, h_pwr, h_badger, h_ctr, h_out, h_fresh] at h' ⊢; first | exact h'.symm | (rw [← h']))
    | (rename_i h _; have h' := congrArg (fun x => view μ x.1) h; simp [h_tables, h_ports, h_slices, h_buf, h_tm, h_flows, h_cap, h_eng, h_time, h_otd, h_sez, h_hq, h_irq, h_pwr, h_badger, h_ctr, h_out, h_fresh] at h' ⊢; first | exact h'.symm | (rw [← h']))
    | (rename_i h _ _; have h' := congrArg (fun x => view μ x.1) h; simp [h_tables, h_ports, h_slices, h_buf, h_tm, h_flows, h_cap, h_eng, h_time, h_otd, h_sez, h_hq, h_irq, h_pwr, h_badger, h_ctr, h_out, h_fresh] at h' ⊢; first | exact h'.symm | (rw [← h']))

@[simp] theorem view_loseInEngine {μ : StatePart → Bool} (h_tables : μ .tables = true) (h_ports : μ .ports = true) (h_slices : μ .slices = true) (h_buf : μ .buf = true) (h_tm : μ .tm = true) (h_flows : μ .flows = true) (h_cap : μ .cap = true) (h_eng : μ .eng = true) (h_time : μ .time = true) (h_otd : μ .otd = true) (h_sez : μ .sez = true) (h_hq : μ .hq = true) (h_irq : μ .irq = true) (h_pwr : μ .pwr = true) (h_badger : μ .badger = true) (h_ctr : μ .ctr = true) (h_out : μ .out = true) (h_fresh : μ .fresh = true) (g : Nat) (s : State) : view μ (loseInEngine g s) = view μ s := by
  unfold loseInEngine
  try dsimp only
  repeat' split
  all_goals (first | with_reducible rfl | (simp [h_tables, h_ports, h_slices, h_buf, h_tm, h_flows, h_cap, h_eng, h_time, h_otd, h_sez, h_hq, h_irq, h_pwr, h_badger, h_ctr, h_out, h_fresh]; done))

@[simp] theorem view_engineFault {μ : StatePart → Bool} (h_tables : μ .tables = true) (h_ports : μ .ports = true) (h_slices : μ .slices = true) (h_buf : μ .buf = true) (h_tm : μ .tm = true) (h_flows : μ .flows = true) (h_cap : μ .cap = true) (h_eng : μ .eng = true) (h_time : μ .time = true) (h_otd : μ .otd = true) (h_sez : μ .sez = true) (h_hq : μ .hq = true) (h_irq : μ .irq = true) (h_pwr : μ .pwr = true) (h_badger : μ .badger = true) (h_ctr : μ .ctr = true) (h_out : μ .out = true) (h_fresh : μ .fresh = true) (g : Nat) (fault : EngineFault) (s : State) : view μ (engineFault g fault s) = view μ s := by
  unfold engineFault
  try dsimp only
  repeat' split
  all_goals (first | with_reducible rfl | (simp [h_tables, h_ports, h_slices, h_buf, h_tm, h_flows, h_cap, h_eng, h_time, h_otd, h_sez, h_hq, h_irq, h_pwr, h_badger, h_ctr, h_out, h_fresh]; done))

theorem view_chargeCell {μ : StatePart → Bool} (h_buf : μ .buf = true) {k k1 : Classified} {s t : State} (h : chargeCell k s = some (k1, t)) : view μ t = view μ s := by
  unfold chargeCell at h
  dsimp only at h
  repeat' split at h
  all_goals first
    | (simp only [Option.some.injEq, Prod.mk.injEq] at h; rw [← h.2]; simp [h_buf]; done)
    | (simp at h; done)

@[simp] theorem view_cacheNext {μ : StatePart → Bool} (h_buf : μ .buf = true) (h_fresh : μ .fresh = true) (b : Nat) (s : State) : view μ (cacheNext b s) = view μ s := by
  unfold cacheNext
  try dsimp only
  repeat' split
  all_goals (first | with_reducible rfl | (simp [h_buf, h_fresh]; done))

@[simp] theorem view_refillCache {μ : StatePart → Bool} (h_buf : μ .buf = true) (h_fresh : μ .fresh = true) (b : Nat) (s : State) : view μ (refillCache b s) = view μ s := by
  unfold refillCache
  try dsimp only
  repeat' split
  all_goals (first | with_reducible rfl | (simp [h_buf, h_fresh]; done))

theorem view_takeFrom {μ : StatePart → Bool} (h_buf : μ .buf = true) (h_fresh : μ .fresh = true) {b a : Nat} {s t : State} (h : takeFrom b s = some (a, t)) : view μ t = view μ s := by
  unfold takeFrom at h
  dsimp only at h
  split at h
  · simp at h
  · simp only [Option.some.injEq, Prod.mk.injEq] at h
    rw [← h.2]
    simp [h_buf, h_fresh]

theorem view_takeCell {μ : StatePart → Bool} (h_buf : μ .buf = true) (h_fresh : μ .fresh = true) {sl g a : Nat} {k : BankClock} {s t : State} (h : takeCell sl g k s = .taken a t) : view μ t = view μ s := by
  unfold takeCell at h
  dsimp only at h
  split at h
  · simp at h
  · split at h
    · rename_i r hr
      obtain ⟨b, _, hb⟩ := List.exists_of_findSome?_eq_some hr
      simp only [CellAt.taken.injEq] at h
      rw [← h.2]
      exact view_takeFrom h_buf h_fresh (a := r.1) (by rw [hb])
    · simp at h

@[simp] theorem view_putCell {μ : StatePart → Bool} (h_buf : μ .buf = true) (c : Nat) (bytes : List Byte) (s : State) : view μ (putCell c bytes s) = view μ s := by
  unfold putCell
  try dsimp only
  repeat' split
  all_goals (first | with_reducible rfl | (simp [h_buf]; done))

theorem view_writeCell {μ : StatePart → Bool} (h_buf : μ .buf = true) (h_fresh : μ .fresh = true) {sl : Nat} {banks : BankClock} {k k1 : Classified} {s t : State} (h : writeCell sl banks k s = .placed k1 t) : view μ t = view μ s := by
  unfold writeCell at h
  dsimp only at h
  split at h
  · split at h
    · cases h
    · rename_i hc
      rw [Option.bind_eq_some_iff] at hc
      obtain ⟨⟨k2, s2⟩, hc1, hc2⟩ := hc
      split at h
      · cases h
      · cases h
      · rename_i ha
        split at h
        · cases h
        · cases h
        · rename_i hb
          simp only [CellOut.placed.injEq] at h
          rw [← h.2, view_putCell h_buf, view_putCell h_buf, view_takeCell h_buf h_fresh hb, view_takeCell h_buf h_fresh ha, view_chargeCell h_buf hc2, view_chargeCell h_buf hc1]
  · split at h
    · cases h
    · rename_i hc
      split at h
      · cases h
      · cases h
      · rename_i ha
        simp only [CellOut.placed.injEq] at h
        rw [← h.2, view_putCell h_buf, view_takeCell h_buf h_fresh ha, view_chargeCell h_buf hc]

@[simp] theorem view_countIngress {μ : StatePart → Bool} (h_ports : μ .ports = true) (k : Classified) (s : State) : view μ (countIngress k s) = view μ s := by
  unfold countIngress
  try dsimp only
  repeat' split
  all_goals (first | with_reducible rfl | (simp [h_ports]; done))

@[simp] theorem view_abandonCut {μ : StatePart → Bool} (h_ports : μ .ports = true) (h_buf : μ .buf = true) (h_tm : μ .tm = true) (h_hq : μ .hq = true) (f : Nat) (k : Classified) (s : State) : view μ (abandonCut f k s) = view μ s := by
  unfold abandonCut
  try dsimp only
  repeat' split
  all_goals (first | with_reducible rfl | (simp [h_ports, h_buf, h_tm, h_hq]; done))

@[simp] theorem view_refuseFrame {μ : StatePart → Bool} (h_ports : μ .ports = true) (h_buf : μ .buf = true) (h_tm : μ .tm = true) (h_cap : μ .cap = true) (h_hq : μ .hq = true) (h_ctr : μ .ctr = true) (h_out : μ .out = true) (sl reason : Nat) (k : Classified) (s : State) : view μ (refuseFrame sl reason k s) = view μ s := by
  unfold refuseFrame
  try dsimp only
  repeat' split
  all_goals (first | with_reducible rfl | (simp [h_ports, h_buf, h_tm, h_cap, h_hq, h_ctr, h_out]; done))

@[simp] theorem view_noteCells {μ : StatePart → Bool} (h_ports : μ .ports = true) (h_buf : μ .buf = true) (h_hq : μ .hq = true) (k : Classified) (done : Bool) (s : State) : view μ (noteCells k done s) = view μ s := by
  unfold noteCells
  try dsimp only
  repeat' split
  all_goals (first | with_reducible rfl | (simp [h_ports, h_buf, h_hq]; done))

@[simp] theorem view_loseContext {μ : StatePart → Bool} (h_flows : μ .flows = true) (h_fresh : μ .fresh = true) (bad : List Nat) (flow : Nat) (s : State) : view μ (loseContext bad flow s) = view μ s := by
  unfold loseContext
  try dsimp only
  repeat' split
  all_goals (first | with_reducible rfl | (simp [h_flows, h_fresh]; done))

@[simp] theorem view_updSq {μ : StatePart → Bool} (h_hq : μ .hq = true) (n : Nat) (f : SubQ → SubQ) (s : State) : view μ (updSq n f s) = view μ s := by
  unfold updSq
  try dsimp only
  repeat' split
  all_goals (first | with_reducible rfl | (simp [h_hq]; done))

@[simp] theorem view_updWork {μ : StatePart → Bool} (h_hq : μ .hq = true) (n pos : Nat) (f : Work → Work) (s : State) : view μ (updWork n pos f s) = view μ s := by
  unfold updWork
  try dsimp only
  repeat' split
  all_goals (first | with_reducible rfl | (simp [h_hq]; done))

@[simp] theorem view_updPool {μ : StatePart → Bool} (h_buf : μ .buf = true) (id : Nat) (f : KMap Nat PoolBuf → KMap Nat PoolBuf) (s : State) : view μ (updPool id f s) = view μ s := by
  unfold updPool
  try dsimp only
  repeat' split
  all_goals (first | with_reducible rfl | (simp [h_buf]; done))

@[simp] theorem view_setPool {μ : StatePart → Bool} (h_buf : μ .buf = true) (id : Nat) (x : Pool) (s : State) : view μ (setPool id x s) = view μ s := by
  unfold setPool
  try dsimp only
  repeat' split
  all_goals (first | with_reducible rfl | (simp [h_buf]; done))

@[simp] theorem view_poolNext {μ : StatePart → Bool} (h_buf : μ .buf = true) (h_fresh : μ .fresh = true) (id : Nat) (s : State) : view μ (poolNext id s) = view μ s := by
  unfold poolNext
  try dsimp only
  repeat' split
  all_goals (first | with_reducible rfl | (simp [h_buf, h_fresh]; done))

@[simp] theorem view_poolRefill {μ : StatePart → Bool} (h_buf : μ .buf = true) (h_fresh : μ .fresh = true) (id : Nat) (s : State) : view μ (poolRefill id s) = view μ s := by
  unfold poolRefill
  try dsimp only
  repeat' split
  all_goals (first | with_reducible rfl | (simp [h_buf, h_fresh]; done))

@[simp] theorem view_poolAlloc {μ : StatePart → Bool} (h_buf : μ .buf = true) (h_fresh : μ .fresh = true) (id req : Nat) (s : State) : view μ ((poolAlloc id req s).getD (0, s)).2 = view μ s := by
  unfold poolAlloc
  dsimp only
  repeat' split
  all_goals simp [h_buf, h_fresh]

theorem view_poolAlloc_some {μ : StatePart → Bool} (h_buf : μ .buf = true) (h_fresh : μ .fresh = true) {id req i : Nat} {s t : State} (h : poolAlloc id req s = some (i, t)) : view μ t = view μ s := by
  have h1 := view_poolAlloc (μ := μ) h_buf h_fresh id req s
  rw [h] at h1
  exact h1

@[simp] theorem view_poolFree {μ : StatePart → Bool} (h_buf : μ .buf = true) (id i : Nat) (s : State) : view μ (poolFree id i s) = view μ s := by
  unfold poolFree
  try dsimp only
  repeat' split
  all_goals (first | with_reducible rfl | (simp [h_buf]; done))

@[simp] theorem view_noteRound {μ : StatePart → Bool} (h_buf : μ .buf = true) (id n k : Nat) (same : Bool) (s : State) : view μ (noteRound id n k same s) = view μ s := by
  unfold noteRound
  try dsimp only
  repeat' split
  all_goals (first | with_reducible rfl | (simp [h_buf]; done))

@[simp] theorem view_poolEmpty {μ : StatePart → Bool} (h_buf : μ .buf = true) (h_irq : μ .irq = true) (h_pwr : μ .pwr = true) (h_ctr : μ .ctr = true) (h_out : μ .out = true) (id : Nat) (s : State) : view μ (poolEmpty id s) = view μ s := by
  unfold poolEmpty
  try dsimp only
  repeat' split
  all_goals (first | with_reducible rfl | (simp [h_buf, h_irq, h_pwr, h_ctr, h_out]; done))

@[simp] theorem view_resetDeficits {μ : StatePart → Bool} (h_tm : μ .tm = true) (p : Nat) (old new : Sched) (s : State) : view μ (resetDeficits p old new s) = view μ s := by
  unfold resetDeficits
  try dsimp only
  repeat' split
  all_goals (first | with_reducible rfl | (simp [h_tm]; done))

@[simp] theorem view_schedSetSide {μ : StatePart → Bool} (h_tm : μ .tm = true) (e : Env) (s : State) : view μ (schedSetSide e s) = view μ s := by
  unfold schedSetSide
  try dsimp only
  repeat' split
  all_goals (first | with_reducible rfl | (simp [h_tm]; done))

@[simp] theorem view_shaperSetSide {μ : StatePart → Bool} (h_tm : μ .tm = true) (e : Env) (s : State) : view μ (shaperSetSide e s) = view μ s := by
  unfold shaperSetSide
  try dsimp only
  repeat' split
  all_goals (first | with_reducible rfl | (simp [h_tm]; done))

@[simp] theorem view_policerSetSide {μ : StatePart → Bool} (h_tm : μ .tm = true) (e : Env) (s : State) : view μ (policerSetSide e s) = view μ s := by
  unfold policerSetSide
  try dsimp only
  repeat' split
  all_goals (first | with_reducible rfl | (simp [h_tm]; done))

@[simp] theorem view_streamFilterSetSide {μ : StatePart → Bool} (h_tm : μ .tm = true) (e : Env) (s : State) : view μ (streamFilterSetSide e s) = view μ s := by
  unfold streamFilterSetSide
  try dsimp only
  repeat' split
  all_goals (first | with_reducible rfl | (simp [h_tm]; done))

@[simp] theorem view_sampleCfgSide {μ : StatePart → Bool} (h_tm : μ .tm = true) (e : Env) (s : State) : view μ (sampleCfgSide e s) = view μ s := by
  unfold sampleCfgSide
  try dsimp only
  repeat' split
  all_goals (first | with_reducible rfl | (simp [h_tm]; done))

@[simp] theorem view_tmStatusRead {μ : StatePart → Bool} (h_tm : μ .tm = true) (h_ctr : μ .ctr = true) (clear : Bool) (scope sl id : Nat) (s : State) : view μ (tmStatusRead clear scope sl id s) = view μ s := by
  unfold tmStatusRead
  try dsimp only
  repeat' split
  all_goals (first | with_reducible rfl | (simp [h_tm, h_ctr]; done))

@[simp] theorem view_sampleQueue {μ : StatePart → Bool} (h_tm : μ .tm = true) (h_cap : μ .cap = true) (h_ctr : μ .ctr = true) (h_out : μ .out = true) (p : Nat) (at' : Int) (s : State) (q : Nat) : view μ (sampleQueue p at' s q) = view μ s := by
  unfold sampleQueue
  try dsimp only
  repeat' split
  all_goals (first | with_reducible rfl | (simp [h_tm, h_cap, h_ctr, h_out]; done))

@[simp] theorem view_noteSampled {μ : StatePart → Bool} (h_tm : μ .tm = true) (p : Nat) (s : State) : view μ (noteSampled p s) = view μ s := by
  unfold noteSampled
  try dsimp only
  repeat' split
  all_goals (first | with_reducible rfl | (simp [h_tm]; done))

@[simp] theorem view_capRuleSetSide {μ : StatePart → Bool} (h_cap : μ .cap = true) (e : Env) (s : State) : view μ (capRuleSetSide e s) = view μ s := by
  unfold capRuleSetSide
  try dsimp only
  repeat' split
  all_goals (first | with_reducible rfl | (simp [h_cap]; done))

@[simp] theorem view_chargeBucket {μ : StatePart → Bool} (h_tm : μ .tm = true) (key len : Nat) (committed : Bool) (s : State) : view μ (chargeBucket key len committed s) = view μ s := by
  unfold chargeBucket
  try dsimp only
  repeat' split
  all_goals (first | with_reducible rfl | (simp [h_tm]; done))

@[simp] theorem view_chargeQueue {μ : StatePart → Bool} (h_tm : μ .tm = true) (p q len : Nat) (committed : Bool) (s : State) : view μ (chargeQueue p q len committed s) = view μ s := by
  unfold chargeQueue
  try dsimp only
  repeat' split
  all_goals (first | with_reducible rfl | (simp [h_tm]; done))

@[simp] theorem view_chargeRelease {μ : StatePart → Bool} (h_ports : μ .ports = true) (h_tm : μ .tm = true) (p h : Nat) (n q : Child) (d : Drr) (s : State) : view μ (chargeRelease p h n q d s) = view μ s := by
  unfold chargeRelease
  try dsimp only
  repeat' split
  all_goals (first | with_reducible rfl | (simp [h_ports, h_tm]; done))

@[simp] theorem view_delayAlarm {μ : StatePart → Bool} (h_slices : μ .slices = true) (h_irq : μ .irq = true) (h_pwr : μ .pwr = true) (h_out : μ .out = true) (p q sojourn : Nat) (s : State) : view μ (delayAlarm p q sojourn s) = view μ s := by
  unfold delayAlarm
  try dsimp only
  repeat' split
  all_goals (first | with_reducible rfl | (simp [h_slices, h_irq, h_pwr, h_out]; done))

@[simp] theorem view_releaseStats {μ : StatePart → Bool} (h_slices : μ .slices = true) (h_tm : μ .tm = true) (h_irq : μ .irq = true) (h_pwr : μ .pwr = true) (h_ctr : μ .ctr = true) (h_out : μ .out = true) (c : Copy) (s : State) : view μ (releaseStats c s) = view μ s := by
  unfold releaseStats
  try dsimp only
  repeat' split
  all_goals (first | with_reducible rfl | (simp [h_slices, h_tm, h_irq, h_pwr, h_ctr, h_out]; done))

@[simp] theorem view_countLoss {μ : StatePart → Bool} (h_flows : μ .flows = true) (h_irq : μ .irq = true) (h_pwr : μ .pwr = true) (h_ctr : μ .ctr = true) (h_out : μ .out = true) (c : Copy) (x : Stored) (s : State) : view μ (countLoss c x s) = view μ s := by
  unfold countLoss
  try dsimp only
  repeat' split
  all_goals (first | with_reducible rfl | (simp [h_flows, h_irq, h_pwr, h_ctr, h_out]; done))

@[simp] theorem view_stompFrameAt {μ : StatePart → Bool} (h_ports : μ .ports = true) (h_slices : μ .slices = true) (h_buf : μ .buf = true) (h_cap : μ .cap = true) (h_otd : μ .otd = true) (h_hq : μ .hq = true) (h_ctr : μ .ctr = true) (h_out : μ .out = true) (h_fresh : μ .fresh = true) (f : Nat) (s : State) (p : Nat) : view μ (stompFrameAt f s p) = view μ s := by
  unfold stompFrameAt
  try dsimp only
  repeat' split
  all_goals (first | with_reducible rfl | (simp [h_ports, h_slices, h_buf, h_cap, h_otd, h_hq, h_ctr, h_out, h_fresh]; done))

@[simp] theorem view_dropBadFrame {μ : StatePart → Bool} (h_ports : μ .ports = true) (h_slices : μ .slices = true) (h_buf : μ .buf = true) (h_tm : μ .tm = true) (h_cap : μ .cap = true) (h_otd : μ .otd = true) (h_hq : μ .hq = true) (h_ctr : μ .ctr = true) (h_out : μ .out = true) (h_fresh : μ .fresh = true) (f : Nat) (x : Stored) (now : Nat × Nat) (s : State) : view μ (dropBadFrame f x now s) = view μ s := by
  unfold dropBadFrame
  try dsimp only
  repeat' split
  all_goals (first | with_reducible rfl | (simp [h_ports, h_slices, h_buf, h_tm, h_cap, h_otd, h_hq, h_ctr, h_out, h_fresh]; done))

@[simp] theorem view_noteBad {μ : StatePart → Bool} (h_tables : μ .tables = true) (h_slices : μ .slices = true) (h_buf : μ .buf = true) (h_eng : μ .eng = true) (h_irq : μ .irq = true) (h_pwr : μ .pwr = true) (h_badger : μ .badger = true) (h_ctr : μ .ctr = true) (h_out : μ .out = true) (h_fresh : μ .fresh = true) (bad : List Nat) (s : State) : view μ (noteBad bad s) = view μ s := by
  unfold noteBad
  try dsimp only
  repeat' split
  all_goals (first | with_reducible rfl | (simp [h_tables, h_slices, h_buf, h_eng, h_irq, h_pwr, h_badger, h_ctr, h_out, h_fresh]; done))

@[simp] theorem view_countHopLoss {μ : StatePart → Bool} (h_flows : μ .flows = true) (h_irq : μ .irq = true) (h_pwr : μ .pwr = true) (h_ctr : μ .ctr = true) (h_out : μ .out = true) (c : Copy) (x : Stored) (s : State) : view μ (countHopLoss c x s) = view μ s := by
  unfold countHopLoss
  try dsimp only
  repeat' split
  all_goals (first | with_reducible rfl | (simp [h_flows, h_irq, h_pwr, h_ctr, h_out]; done))

@[simp] theorem view_readBuffer {μ : StatePart → Bool} (h_tables : μ .tables = true) (h_ports : μ .ports = true) (h_slices : μ .slices = true) (h_buf : μ .buf = true) (h_tm : μ .tm = true) (h_flows : μ .flows = true) (h_cap : μ .cap = true) (h_eng : μ .eng = true) (h_otd : μ .otd = true) (h_hq : μ .hq = true) (h_irq : μ .irq = true) (h_pwr : μ .pwr = true) (h_badger : μ .badger = true) (h_ctr : μ .ctr = true) (h_out : μ .out = true) (h_fresh : μ .fresh = true) (c : Copy) (x : Stored) (banks : List Nat) (s : State) : view μ ((readBuffer c x banks s).2) = view μ s := by
  unfold readBuffer
  try dsimp only
  repeat' split
  all_goals (first | with_reducible rfl | (simp [h_tables, h_ports, h_slices, h_buf, h_tm, h_flows, h_cap, h_eng, h_otd, h_hq, h_irq, h_pwr, h_badger, h_ctr, h_out, h_fresh]; done))

@[simp] theorem view_mcastRead {μ : StatePart → Bool} (h_buf : μ .buf = true) (h_ctr : μ .ctr = true) (c : Copy) (x : Stored) (s : State) : view μ ((mcastRead c x s).2) = view μ s := by
  unfold mcastRead
  try dsimp only
  repeat' split
  all_goals (first | with_reducible rfl | (simp [h_buf, h_ctr]; done))

@[simp] theorem view_mcastTaken {μ : StatePart → Bool} (h_buf : μ .buf = true) (f sl : Nat) (s : State) : view μ (mcastTaken f sl s) = view μ s := by
  unfold mcastTaken
  try dsimp only
  repeat' split
  all_goals (first | with_reducible rfl | (simp [h_buf]; done))

@[simp] theorem view_egressPass {μ : StatePart → Bool} (h_eng : μ .eng = true) (h_irq : μ .irq = true) (h_pwr : μ .pwr = true) (h_badger : μ .badger = true) (h_ctr : μ .ctr = true) (h_out : μ .out = true) (h_fresh : μ .fresh = true) (kind : Nat) (c : Copy) (k : Classified) (data : List Byte) (m : List Word) (hdrs : List Hdr) (faults : LookupFaults) (s : State) : view μ ((egressPass kind c k data m hdrs faults s).1) = view μ s := by
  unfold egressPass
  try dsimp only
  repeat' split
  all_goals (first | with_reducible rfl | (simp [h_eng, h_irq, h_pwr, h_badger, h_ctr, h_out, h_fresh]; done))

theorem view_egressDrop {μ : StatePart → Bool} (h_ports : μ .ports = true) (h_buf : μ .buf = true) (h_cap : μ .cap = true) (h_hq : μ .hq = true) (h_ctr : μ .ctr = true) (h_out : μ .out = true) (kind : Nat) (c : Copy) (r : EzPass) (s : State) :
    view μ (egressDrop kind c r s).2 = view μ s ∧ ∀ g, (egressDrop kind c r s).1 = some g → view μ g = view μ s := by
  unfold egressDrop
  dsimp only
  repeat' split
  all_goals simp [h_ports, h_buf, h_cap, h_hq, h_ctr, h_out]

theorem view_egressDrop_some {μ : StatePart → Bool} (h_ports : μ .ports = true) (h_buf : μ .buf = true) (h_cap : μ .cap = true) (h_hq : μ .hq = true) (h_ctr : μ .ctr = true) (h_out : μ .out = true) {kind : Nat} {c : Copy} {r : EzPass} {s g t : State} (h : egressDrop kind c r s = (some g, t)) : view μ g = view μ s :=
  (view_egressDrop h_ports h_buf h_cap h_hq h_ctr h_out kind c r s).2 g (by rw [h])

theorem view_egressDrop_none {μ : StatePart → Bool} (h_ports : μ .ports = true) (h_buf : μ .buf = true) (h_cap : μ .cap = true) (h_hq : μ .hq = true) (h_ctr : μ .ctr = true) (h_out : μ .out = true) {kind : Nat} {c : Copy} {r : EzPass} {s t : State} {o : Option State} (h : egressDrop kind c r s = (o, t)) : view μ t = view μ s := by
  have h1 := (view_egressDrop (μ := μ) h_ports h_buf h_cap h_hq h_ctr h_out kind c r s).1
  rw [h] at h1
  exact h1

@[simp] theorem view_releaseMirror {μ : StatePart → Bool} (h_ports : μ .ports = true) (h_buf : μ .buf = true) (h_tm : μ .tm = true) (h_cap : μ .cap = true) (h_hq : μ .hq = true) (h_pwr : μ .pwr = true) (h_ctr : μ .ctr = true) (h_out : μ .out = true) (f : Nat) (s : State) (sess : Nat) : view μ (releaseMirror f s sess) = view μ s := by
  unfold releaseMirror
  try dsimp only
  repeat' split
  all_goals (first | with_reducible rfl | (simp [h_ports, h_buf, h_tm, h_cap, h_hq, h_pwr, h_ctr, h_out]; done))

@[simp] theorem view_paceCopy {μ : StatePart → Bool} (h_ports : μ .ports = true) (h_slices : μ .slices = true) (h : Nat) (c : Copy) (len : Nat) (r : EzPass) (t : Nat) (s : State) : view μ (paceCopy h c len r t s) = view μ s := by
  unfold paceCopy
  try dsimp only
  repeat' split
  all_goals (first | with_reducible rfl | (simp [h_ports, h_slices]; done))

@[simp] theorem view_releaseCopy {μ : StatePart → Bool} (h_tables : μ .tables = true) (h_ports : μ .ports = true) (h_slices : μ .slices = true) (h_buf : μ .buf = true) (h_tm : μ .tm = true) (h_flows : μ .flows = true) (h_cap : μ .cap = true) (h_eng : μ .eng = true) (h_otd : μ .otd = true) (h_hq : μ .hq = true) (h_irq : μ .irq = true) (h_pwr : μ .pwr = true) (h_badger : μ .badger = true) (h_ctr : μ .ctr = true) (h_out : μ .out = true) (h_fresh : μ .fresh = true) (h : Nat) (c : Copy) (len : Nat) (reads : CellReads) (s : State) : view μ (releaseCopy h c len reads s) = view μ s := by
  unfold releaseCopy
  dsimp only
  repeat' split
  all_goals first
    | simp [h_tables, h_ports, h_slices, h_buf, h_tm, h_flows, h_cap, h_eng, h_otd, h_hq, h_irq, h_pwr, h_badger, h_ctr, h_out, h_fresh]; done
    | (rename_i hd; rw [view_egressDrop_some h_ports h_buf h_cap h_hq h_ctr h_out hd]; simp [h_tables, h_ports, h_slices, h_buf, h_tm, h_flows, h_cap, h_eng, h_otd, h_hq, h_irq, h_pwr, h_badger, h_ctr, h_out, h_fresh]; done)
    | (rename_i hd; simp [view_egressDrop_none h_ports h_buf h_cap h_hq h_ctr h_out hd, h_tables, h_ports, h_slices, h_buf, h_tm, h_flows, h_cap, h_eng, h_otd, h_hq, h_irq, h_pwr, h_badger, h_ctr, h_out, h_fresh]; done)

@[simp] theorem view_sweepGate {μ : StatePart → Bool} (h_mb : μ .mb = true) (h_adm : μ .adm = true) (h_ports : μ .ports = true) (h_slices : μ .slices = true) (h_buf : μ .buf = true) (h_tm : μ .tm = true) (h_time : μ .time = true) (h_otd : μ .otd = true) (h_hq : μ .hq = true) (h_dma : μ .dma = true) (h_irq : μ .irq = true) (h_pwr : μ .pwr = true) (h_ctr : μ .ctr = true) (h_hpt : μ .hpt = true) (h_out : μ .out = true) (h_fresh : μ .fresh = true) (p q n : Nat) (s : State) : view μ (sweepGate p q n s) = view μ s := by
  induction n generalizing s with
  | zero => rfl
  | succ n ih =>
    unfold sweepGate
    try dsimp only
    repeat' split
    all_goals simp [h_mb, h_adm, h_ports, h_slices, h_buf, h_tm, h_time, h_otd, h_hq, h_dma, h_irq, h_pwr, h_ctr, h_hpt, h_out, h_fresh, ih]

@[simp] theorem view_countStall {μ : StatePart → Bool} (h_slices : μ .slices = true) (h_ctr : μ .ctr = true) (sl : Nat) (s : State) : view μ (countStall sl s) = view μ s := by
  unfold countStall
  try dsimp only
  repeat' split
  all_goals (first | with_reducible rfl | (simp [h_slices, h_ctr]; done))

@[simp] theorem view_consumeDone {μ : StatePart → Bool} (h_ports : μ .ports = true) (h_slices : μ .slices = true) (h_buf : μ .buf = true) (h_hq : μ .hq = true) (h_ctr : μ .ctr = true) (sl : Nat) (e : DoneEntry) (s : State) : view μ (consumeDone sl e s) = view μ s := by
  unfold consumeDone
  try dsimp only
  repeat' split
  all_goals (first | with_reducible rfl | (simp [h_ports, h_slices, h_buf, h_hq, h_ctr]; done))

@[simp] theorem view_resend {μ : StatePart → Bool} (h_ports : μ .ports = true) (h_slices : μ .slices = true) (h_tm : μ .tm = true) (h_ctr : μ .ctr = true) (sl : Nat) (cs : List Copy) (s : State) : view μ (resend sl cs s) = view μ s := by
  unfold resend
  try dsimp only
  repeat' split
  all_goals (first | with_reducible rfl | (simp [h_ports, h_slices, h_tm, h_ctr]; done))

@[simp] theorem view_ageCopy {μ : StatePart → Bool} (h_ports : μ .ports = true) (h_buf : μ .buf = true) (h_flows : μ .flows = true) (h_cap : μ .cap = true) (h_hq : μ .hq = true) (h_irq : μ .irq = true) (h_pwr : μ .pwr = true) (h_ctr : μ .ctr = true) (h_out : μ .out = true) (c : Copy) (x : Stored) (s : State) : view μ (ageCopy c x s) = view μ s := by
  unfold ageCopy
  try dsimp only
  repeat' split
  all_goals (first | with_reducible rfl | (simp [h_ports, h_buf, h_flows, h_cap, h_hq, h_irq, h_pwr, h_ctr, h_out]; done))

@[simp] theorem view_ageQueue {μ : StatePart → Bool} (h_ports : μ .ports = true) (h_buf : μ .buf = true) (h_tm : μ .tm = true) (h_flows : μ .flows = true) (h_cap : μ .cap = true) (h_hq : μ .hq = true) (h_irq : μ .irq = true) (h_pwr : μ .pwr = true) (h_ctr : μ .ctr = true) (h_out : μ .out = true) (id n : Nat) (s : State) : view μ (ageQueue id n s) = view μ s := by
  induction n generalizing s with
  | zero => rfl
  | succ n ih =>
    unfold ageQueue
    try dsimp only
    repeat' split
    all_goals simp [h_ports, h_buf, h_tm, h_flows, h_cap, h_hq, h_irq, h_pwr, h_ctr, h_out, ih]

@[simp] theorem view_markLate {μ : StatePart → Bool} (h_ports : μ .ports = true) (h_ctr : μ .ctr = true) (p i : Nat) (s : State) : view μ (markLate p i s) = view μ s := by
  unfold markLate
  try dsimp only
  repeat' split
  all_goals (first | with_reducible rfl | (simp [h_ports, h_ctr]; done))

@[simp] theorem view_takeSlot {μ : StatePart → Bool} (h_ports : μ .ports = true) (p : Nat) (c : Copy) (s : State) : view μ (takeSlot p c s) = view μ s := by
  unfold takeSlot
  try dsimp only
  repeat' split
  all_goals (first | with_reducible rfl | (simp [h_ports]; done))

@[simp] theorem view_countOverrun {μ : StatePart → Bool} (h_ctr : μ .ctr = true) (p : Nat) (t : Int) (x : TxItem) (len : Nat) (s : State) : view μ (countOverrun p t x len s) = view μ s := by
  unfold countOverrun
  try dsimp only
  repeat' split
  all_goals (first | with_reducible rfl | (simp [h_ctr]; done))

@[simp] theorem view_dropStale {μ : StatePart → Bool} (h_ports : μ .ports = true) (h_slices : μ .slices = true) (h_buf : μ .buf = true) (h_hq : μ .hq = true) (h_ctr : μ .ctr = true) (p : Nat) (x : TxItem) (s : State) : view μ (dropStale p x s) = view μ s := by
  unfold dropStale
  try dsimp only
  repeat' split
  all_goals (first | with_reducible rfl | (simp [h_ports, h_slices, h_buf, h_hq, h_ctr]; done))

@[simp] theorem view_beginItem {μ : StatePart → Bool} (h_ports : μ .ports = true) (h_slices : μ .slices = true) (h_buf : μ .buf = true) (h_hq : μ .hq = true) (h_ctr : μ .ctr = true) (p i : Nat) (t : Int) (s : State) : view μ (beginItem p i t s) = view μ s := by
  unfold beginItem
  try dsimp only
  repeat' split
  all_goals (first | with_reducible rfl | (simp [h_ports, h_slices, h_buf, h_hq, h_ctr]; done))

@[simp] theorem view_suspendCur {μ : StatePart → Bool} (h_ports : μ .ports = true) (h_ctr : μ .ctr = true) (p : Nat) (s : State) : view μ (suspendCur p s) = view μ s := by
  unfold suspendCur
  try dsimp only
  repeat' split
  all_goals (first | with_reducible rfl | (simp [h_ports, h_ctr]; done))

@[simp] theorem view_takePick {μ : StatePart → Bool} (h_ports : μ .ports = true) (h_slices : μ .slices = true) (h_buf : μ .buf = true) (h_hq : μ .hq = true) (h_ctr : μ .ctr = true) (p : Nat) (t : Int) (k : TxPick) (s : State) : view μ (takePick p t k s) = view μ s := by
  unfold takePick
  try dsimp only
  repeat' split
  all_goals (first | with_reducible rfl | (simp [h_ports, h_slices, h_buf, h_hq, h_ctr]; done))

@[simp] theorem view_startNext {μ : StatePart → Bool} (h_ports : μ .ports = true) (h_slices : μ .slices = true) (h_buf : μ .buf = true) (h_hq : μ .hq = true) (h_ctr : μ .ctr = true) (p : Nat) (t : Int) (s : State) : view μ (startNext p t s) = view μ s := by
  unfold startNext
  try dsimp only
  repeat' split
  all_goals (first | with_reducible rfl | (simp [h_ports, h_slices, h_buf, h_hq, h_ctr]; done))

@[simp] theorem view_countLogHold {μ : StatePart → Bool} (h_slices : μ .slices = true) (h_ctr : μ .ctr = true) (p : Nat) (s : State) : view μ (countLogHold p s) = view μ s := by
  unfold countLogHold
  try dsimp only
  repeat' split
  all_goals (first | with_reducible rfl | (simp [h_slices, h_ctr]; done))

@[simp] theorem view_countSent {μ : StatePart → Bool} (h_ctr : μ .ctr = true) (p : Nat) (t : TxItem) (len : Nat) (s : State) : view μ (countSent p t len s) = view μ s := by
  unfold countSent
  try dsimp only
  repeat' split
  all_goals (first | with_reducible rfl | (simp [h_ctr]; done))

@[simp] theorem view_meterSent {μ : StatePart → Bool} (h_otd : μ .otd = true) (p : Nat) (t : TxItem) (len : Nat) (s : State) : view μ (meterSent p t len s) = view μ s := by
  unfold meterSent
  try dsimp only
  repeat' split
  all_goals (first | with_reducible rfl | (simp [h_otd]; done))

@[simp] theorem view_copySent {μ : StatePart → Bool} (h_ports : μ .ports = true) (h_slices : μ .slices = true) (h_buf : μ .buf = true) (h_cap : μ .cap = true) (h_time : μ .time = true) (h_hq : μ .hq = true) (h_ctr : μ .ctr = true) (h_out : μ .out = true) (p : Nat) (t : TxCur) (c : Copy) (s : State) : view μ (copySent p t c s) = view μ s := by
  unfold copySent
  try dsimp only
  repeat' split
  all_goals (first | with_reducible rfl | (simp [h_ports, h_slices, h_buf, h_cap, h_time, h_hq, h_ctr, h_out]; done))

@[simp] theorem view_countResetDrop {μ : StatePart → Bool} (h_ctr : μ .ctr = true) (p : Nat) (t : TxItem) (s : State) : view μ (countResetDrop p t s) = view μ s := by
  unfold countResetDrop
  try dsimp only
  repeat' split
  all_goals (first | with_reducible rfl | (simp [h_ctr]; done))

@[simp] theorem view_stompFor {μ : StatePart → Bool} (h_ports : μ .ports = true) (h_slices : μ .slices = true) (h_buf : μ .buf = true) (h_cap : μ .cap = true) (h_otd : μ .otd = true) (h_hq : μ .hq = true) (h_ctr : μ .ctr = true) (h_out : μ .out = true) (h_fresh : μ .fresh = true) (p : Nat) (cause : StompCause) (t : TxCur) (s : State) : view μ (stompFor p cause t s) = view μ s := by
  unfold stompFor
  try dsimp only
  repeat' split
  all_goals (first | with_reducible rfl | (simp [h_ports, h_slices, h_buf, h_cap, h_otd, h_hq, h_ctr, h_out, h_fresh]; done))

@[simp] theorem view_settleHint {μ : StatePart → Bool} (h_ctr : μ .ctr = true) (p hint : Nat) (arrived early : Bool) (t : TxCur) (s : State) : view μ ((settleHint p hint arrived early t s).2) = view μ s := by
  unfold settleHint
  try dsimp only
  repeat' split
  all_goals (first | with_reducible rfl | (simp [h_ctr]; done))

@[simp] theorem view_takeHint {μ : StatePart → Bool} (h_ports : μ .ports = true) (h_ctr : μ .ctr = true) (p hint : Nat) (arrived early : Bool) (s : State) : view μ (takeHint p hint arrived early s) = view μ s := by
  unfold takeHint
  try dsimp only
  repeat' split
  all_goals (first | with_reducible rfl | (simp [h_ports, h_ctr]; done))

@[simp] theorem view_hptErr {μ : StatePart → Bool} (h_hpt : μ .hpt = true) (s : State) : view μ (hptErr s) = view μ s := by
  unfold hptErr
  try dsimp only
  repeat' split
  all_goals (first | with_reducible rfl | (simp [h_hpt]; done))

@[simp] theorem view_hptDefer {μ : StatePart → Bool} (h_pwr : μ .pwr = true) (h_hpt : μ .hpt = true) (i : HptAccess) (ctl : Bool) (s : State) : view μ (hptDefer i ctl s) = view μ s := by
  unfold hptDefer
  try dsimp only
  repeat' split
  all_goals (first | with_reducible rfl | (simp [h_pwr, h_hpt]; done))

@[simp] theorem view_viaHst {μ : StatePart → Bool} (h_pwr : μ .pwr = true) (h_hpt : μ .hpt = true) (i : HptAccess) (f : State → State) (h : ∀ s, view μ (f s) = view μ s) (s : State) : view μ (viaHst i f s) = view μ s := by
  unfold viaHst atHst
  repeat' split
  all_goals simp [h_pwr, h_hpt, h]

@[simp] theorem view_viaCtl {μ : StatePart → Bool} (h_pwr : μ .pwr = true) (h_hpt : μ .hpt = true) (i : HptAccess) (f : State → State) (h : ∀ s, view μ (f s) = view μ s) (s : State) : view μ (viaCtl i f s) = view μ s := by
  unfold viaCtl atCtl atHst
  repeat' split
  all_goals simp [h_pwr, h_hpt, h]

@[simp] theorem view_forgetMailbox {μ : StatePart → Bool} (h_quad : μ .quad = true) (h_eng : μ .eng = true) (h_sez : μ .sez = true) (h_irq : μ .irq = true) (h_pwr : μ .pwr = true) (h_badger : μ .badger = true) (h_out : μ .out = true) (s : State) : view μ (forgetMailbox s) = view μ s := by
  unfold forgetMailbox
  dsimp only
  generalize hg : List.foldl _ s _ = s1
  have h1 : view μ s1 = view μ s := by
    rw [← hg]
    exact view_foldl _ (fun s r => view_foldl _ (fun s d => by simp [h_quad, h_eng, h_sez, h_irq, h_pwr, h_badger, h_out]) _ _) _ _
  rw [← h1]
  simp [h_quad, h_eng, h_sez, h_irq, h_pwr, h_badger, h_out]

@[simp] theorem view_ctlReset {μ : StatePart → Bool} (h_mb : μ .mb = true) (h_boot : μ .boot = true) (h_adm : μ .adm = true) (h_quad : μ .quad = true) (h_eng : μ .eng = true) (h_sez : μ .sez = true) (h_irq : μ .irq = true) (h_pwr : μ .pwr = true) (h_badger : μ .badger = true) (h_out : μ .out = true) (s : State) : view μ (ctlReset s) = view μ s := by
  unfold ctlReset
  simp [h_mb, h_boot, h_adm, h_quad, h_eng, h_sez, h_irq, h_pwr, h_badger, h_out]

@[simp] theorem view_ctlDue {μ : StatePart → Bool} (h_mb : μ .mb = true) (h_boot : μ .boot = true) (h_adm : μ .adm = true) (h_quad : μ .quad = true) (h_eng : μ .eng = true) (h_sez : μ .sez = true) (h_irq : μ .irq = true) (h_pwr : μ .pwr = true) (h_badger : μ .badger = true) (h_out : μ .out = true) (s : State) : view μ (ctlDue s) = view μ s := by
  unfold ctlDue
  try dsimp only
  repeat' split
  all_goals (first | with_reducible rfl | (simp [h_mb, h_boot, h_adm, h_quad, h_eng, h_sez, h_irq, h_pwr, h_badger, h_out]; done))

@[simp] theorem view_updCq {μ : StatePart → Bool} (h_hq : μ .hq = true) (n : Nat) (f : CompQ → CompQ) (s : State) : view μ (updCq n f s) = view μ s := by
  unfold updCq
  try dsimp only
  repeat' split
  all_goals (first | with_reducible rfl | (simp [h_hq]; done))

@[simp] theorem view_writeHead {μ : StatePart → Bool} (h_hq : μ .hq = true) (h_out : μ .out = true) (n : Nat) (s : State) : view μ (writeHead n s) = view μ s := by
  unfold writeHead
  try dsimp only
  repeat' split
  all_goals (first | with_reducible rfl | (simp [h_hq, h_out]; done))

@[simp] theorem view_setQueueState {μ : StatePart → Bool} (h_hq : μ .hq = true) (h_out : μ .out = true) (n : Nat) (st : QueueSt) (s : State) : view μ (setQueueState n st s) = view μ s := by
  unfold setQueueState
  try dsimp only
  repeat' split
  all_goals (first | with_reducible rfl | (simp [h_hq, h_out]; done))

@[simp] theorem view_queueError {μ : StatePart → Bool} (h_hq : μ .hq = true) (h_irq : μ .irq = true) (h_pwr : μ .pwr = true) (h_out : μ .out = true) (n reason : Nat) (s : State) : view μ (queueError n reason s) = view μ s := by
  unfold queueError
  try dsimp only
  repeat' split
  all_goals (first | with_reducible rfl | (simp [h_hq, h_irq, h_pwr, h_out]; done))

@[simp] theorem view_acceptHead {μ : StatePart → Bool} (h_adm : μ .adm = true) (h_hq : μ .hq = true) (h_pwr : μ .pwr = true) (h_ctr : μ .ctr = true) (n : Nat) (s : State) : view μ (acceptHead n s) = view μ s := by
  unfold acceptHead
  try dsimp only
  repeat' split
  all_goals (first | with_reducible rfl | (simp [h_adm, h_hq, h_pwr, h_ctr]; done))

@[simp] theorem view_raiseBacklog {μ : StatePart → Bool} (h_hq : μ .hq = true) (h_irq : μ .irq = true) (h_pwr : μ .pwr = true) (h_out : μ .out = true) (s : State) : view μ (raiseBacklog s) = view μ s := by
  unfold raiseBacklog
  try dsimp only
  repeat' split
  all_goals (first | with_reducible rfl | (simp [h_hq, h_irq, h_pwr, h_out]; done))

@[simp] theorem view_hqAdvance {μ : StatePart → Bool} (h_adm : μ .adm = true) (h_hq : μ .hq = true) (h_irq : μ .irq = true) (h_pwr : μ .pwr = true) (h_ctr : μ .ctr = true) (h_out : μ .out = true) (i n : Nat) (s : State) : view μ (hqAdvance i n s) = view μ s := by
  induction n generalizing s with
  | zero => rfl
  | succ n ih =>
    unfold hqAdvance
    try dsimp only
    repeat' split
    all_goals simp [h_adm, h_hq, h_irq, h_pwr, h_ctr, h_out, ih]

@[simp] theorem view_advance {μ : StatePart → Bool} (h_adm : μ .adm = true) (h_hq : μ .hq = true) (h_irq : μ .irq = true) (h_pwr : μ .pwr = true) (h_ctr : μ .ctr = true) (h_out : μ .out = true) (n : Nat) (s : State) : view μ (advance n s) = view μ s := by
  exact view_hqAdvance h_adm h_hq h_irq h_pwr h_ctr h_out n 128 s

@[simp] theorem view_readEntry {μ : StatePart → Bool} (h_out : μ .out = true) (x : SubQ) (pos : Nat) (s : State) : view μ (readEntry x pos s) = view μ s := by
  unfold readEntry
  try dsimp only
  repeat' split
  all_goals (first | with_reducible rfl | (simp [h_out]; done))

@[simp] theorem view_readPointed {μ : StatePart → Bool} (h_out : μ .out = true) (n : Nat) (x : SubQ) (entry : Fetched) (s : State) : view μ (readPointed n x entry s) = view μ s := by
  unfold readPointed
  try dsimp only
  repeat' split
  all_goals (first | with_reducible rfl | (simp [h_out]; done))

@[simp] theorem view_takeEntry {μ : StatePart → Bool} (h_adm : μ .adm = true) (h_hq : μ .hq = true) (h_irq : μ .irq = true) (h_pwr : μ .pwr = true) (h_ctr : μ .ctr = true) (h_out : μ .out = true) (n : Nat) (x : SubQ) (entry : Fetched) (s0 : State) : view μ (takeEntry n x entry s0) = view μ s0 := by
  unfold takeEntry
  try dsimp only
  repeat' split
  all_goals (first | with_reducible rfl | (simp [h_adm, h_hq, h_irq, h_pwr, h_ctr, h_out]; done))

@[simp] theorem view_issueCqe {μ : StatePart → Bool} (h_hq : μ .hq = true) (h_out : μ .out = true) (n pos addr : Nat) (bytes : List Byte) (s : State) : view μ (issueCqe n pos addr bytes s) = view μ s := by
  unfold issueCqe
  try dsimp only
  repeat' split
  all_goals (first | with_reducible rfl | (simp [h_hq, h_out]; done))

@[simp] theorem view_ringWrite {μ : StatePart → Bool} (h_hq : μ .hq = true) (h_ctr : μ .ctr = true) (h_out : μ .out = true) (r : Nat) (c : Cqe) (s : State) : view μ (ringWrite r c s) = view μ s := by
  unfold ringWrite
  try dsimp only
  repeat' split
  all_goals (first | with_reducible rfl | (simp [h_hq, h_ctr, h_out]; done))

@[simp] theorem view_ringPut {μ : StatePart → Bool} (h_hq : μ .hq = true) (h_ctr : μ .ctr = true) (h_out : μ .out = true) (r : Nat) (c : Cqe) (s : State) : view μ (ringPut r c s) = view μ s := by
  unfold ringPut
  try dsimp only
  repeat' split
  all_goals (first | with_reducible rfl | (simp [h_hq, h_ctr, h_out]; done))

@[simp] theorem view_flushBacklog {μ : StatePart → Bool} (h_hq : μ .hq = true) (h_ctr : μ .ctr = true) (h_out : μ .out = true) (i n : Nat) (s : State) : view μ (flushBacklog i n s) = view μ s := by
  induction n generalizing s with
  | zero => rfl
  | succ n ih =>
    unfold flushBacklog
    try dsimp only
    repeat' split
    all_goals simp [h_hq, h_ctr, h_out, ih]

@[simp] theorem view_flushRings {μ : StatePart → Bool} (h_hq : μ .hq = true) (h_ctr : μ .ctr = true) (h_out : μ .out = true) (s : State) : view μ (flushRings s) = view μ s := by
  unfold flushRings
  try dsimp only
  repeat' split
  all_goals (first | with_reducible rfl | (simp [h_hq, h_ctr, h_out]; done))

@[simp] theorem view_hostCopyDone {μ : StatePart → Bool} (h_ports : μ .ports = true) (h_slices : μ .slices = true) (h_buf : μ .buf = true) (h_hq : μ .hq = true) (h_ctr : μ .ctr = true) (p f group : Nat) (s : State) : view μ (hostCopyDone p f group s) = view μ s := by
  unfold hostCopyDone
  try dsimp only
  repeat' split
  all_goals (first | with_reducible rfl | (simp [h_ports, h_slices, h_buf, h_hq, h_ctr]; done))

@[simp] theorem view_retireWork {μ : StatePart → Bool} (h_adm : μ .adm = true) (h_ports : μ .ports = true) (h_slices : μ .slices = true) (h_buf : μ .buf = true) (h_hq : μ .hq = true) (h_ctr : μ .ctr = true) (x : SubQ) (w : Work) (s : State) : view μ (retireWork x w s) = view μ s := by
  unfold retireWork
  try dsimp only
  repeat' split
  all_goals (first | with_reducible rfl | (simp [h_adm, h_ports, h_slices, h_buf, h_hq, h_ctr]; done))

@[simp] theorem view_completeGen2 {μ : StatePart → Bool} (h_adm : μ .adm = true) (h_ports : μ .ports = true) (h_slices : μ .slices = true) (h_buf : μ .buf = true) (h_hq : μ .hq = true) (h_ctr : μ .ctr = true) (h_out : μ .out = true) (n : Nat) (x : SubQ) (w : Work) (s : State) : view μ (completeGen2 n x w s) = view μ s := by
  unfold completeGen2
  try dsimp only
  repeat' split
  all_goals (first | with_reducible rfl | (simp [h_adm, h_ports, h_slices, h_buf, h_hq, h_ctr, h_out]; done))

@[simp] theorem view_completeGen1 {μ : StatePart → Bool} (h_hq : μ .hq = true) (h_out : μ .out = true) (n : Nat) (x : SubQ) (w : Work) (s : State) : view μ (completeGen1 n x w s) = view μ s := by
  unfold completeGen1
  try dsimp only
  repeat' split
  all_goals (first | with_reducible rfl | (simp [h_hq, h_out]; done))

@[simp] theorem view_answerUnknown {μ : StatePart → Bool} (h_mb : μ .mb = true) (h_adm : μ .adm = true) (h_otd : μ .otd = true) (h_hq : μ .hq = true) (h_out : μ .out = true) (s : State) : view μ (answerUnknown s) = view μ s := by
  unfold answerUnknown
  repeat' split
  all_goals first
    | with_reducible rfl
    | exact view_ifTurn  _ _ (fun s => by simp [h_mb, h_adm, h_otd, h_hq, h_out]) _

@[simp] theorem view_countCqe {μ : StatePart → Bool} (h_hq : μ .hq = true) (h_irq : μ .irq = true) (h_pwr : μ .pwr = true) (h_out : μ .out = true) (n : Nat) (x : SubQ) (s : State) : view μ (countCqe n x s) = view μ s := by
  unfold countCqe
  try dsimp only
  repeat' split
  all_goals (first | with_reducible rfl | (simp [h_hq, h_irq, h_pwr, h_out]; done))

@[simp] theorem view_finish {μ : StatePart → Bool} (h_hq : μ .hq = true) (n num status detail : Nat) (s : State) : view μ (finish n num status detail s) = view μ s := by
  unfold finish
  try dsimp only
  repeat' split
  all_goals (first | with_reducible rfl | (simp [h_hq]; done))

@[simp] theorem view_runPoolOp {μ : StatePart → Bool} (h_buf : μ .buf = true) (h_hq : μ .hq = true) (h_ctr : μ .ctr = true) (n sub' : Nat) (same : Bool) (f : Work → Option PoolBuf → Nat ⊕ Option PoolBuf) (s0 : State) : view μ (runPoolOp n sub' same f s0) = view μ s0 := by
  unfold runPoolOp
  try dsimp only
  repeat' split
  all_goals (first | with_reducible rfl | (simp [h_buf, h_hq, h_ctr]; done))

@[simp] theorem view_takeHostHead {μ : StatePart → Bool} (h_ports : μ .ports = true) (h_hq : μ .hq = true) (p q : Nat) (s : State) : view μ (takeHostHead p q s) = view μ s := by
  unfold takeHostHead
  try dsimp only
  repeat' split
  all_goals (first | with_reducible rfl | (simp [h_ports, h_hq]; done))

@[simp] theorem view_dropHostCopy {μ : StatePart → Bool} (h_ports : μ .ports = true) (h_slices : μ .slices = true) (h_buf : μ .buf = true) (h_flows : μ .flows = true) (h_hq : μ .hq = true) (h_irq : μ .irq = true) (h_pwr : μ .pwr = true) (h_ctr : μ .ctr = true) (h_out : μ .out = true) (p q : Nat) (c : Copy) (s : State) : view μ (dropHostCopy p q c s) = view μ s := by
  unfold dropHostCopy
  try dsimp only
  repeat' split
  all_goals (first | with_reducible rfl | (simp [h_ports, h_slices, h_buf, h_flows, h_hq, h_irq, h_pwr, h_ctr, h_out]; done))

@[simp] theorem view_fillBuffer {μ : StatePart → Bool} (h_ports : μ .ports = true) (h_buf : μ .buf = true) (h_hq : μ .hq = true) (h_ctr : μ .ctr = true) (h_out : μ .out = true) (h_fresh : μ .fresh = true) (p q n : Nat) (w : Work) (c : Copy) (k : Stored) (t : Option Nat × Nat × Nat) (s : State) : view μ (fillBuffer p q n w c k t s) = view μ s := by
  unfold fillBuffer
  dsimp only
  have h : ∀ id, view μ ((poolAlloc id n (noteRound id n 1 false s)).getD (0, s)).2 = view μ s := by
    intro id
    cases hp : poolAlloc id n (noteRound id n 1 false s) with
    | none => rfl
    | some r => obtain ⟨i, t⟩ := r; simp [view_poolAlloc_some h_buf h_fresh hp, h_ports, h_buf, h_hq, h_ctr, h_out, h_fresh]
  split <;> simp [h_ports, h_buf, h_hq, h_ctr, h_out, h_fresh, h]

@[simp] theorem view_noteWait {μ : StatePart → Bool} (h_buf : μ .buf = true) (h_hq : μ .hq = true) (h_irq : μ .irq = true) (h_pwr : μ .pwr = true) (h_ctr : μ .ctr = true) (h_out : μ .out = true) (p q n : Nat) (empty : Bool) (s : State) : view μ (noteWait p q n empty s) = view μ s := by
  unfold noteWait
  try dsimp only
  repeat' split
  all_goals (first | with_reducible rfl | (simp [h_buf, h_hq, h_irq, h_pwr, h_ctr, h_out]; done))

@[simp] theorem view_createQueue {μ : StatePart → Bool} (h_hq : μ .hq = true) (h_fresh : μ .fresh = true) (x : SubQ) (n : Nat) (s : State) : view μ (createQueue x n s) = view μ s := by
  unfold createQueue
  try dsimp only
  repeat' split
  all_goals (first | with_reducible rfl | (simp [h_hq, h_fresh]; done))

@[simp] theorem view_disableUnit {μ : StatePart → Bool} (h_hq : μ .hq = true) (h_out : μ .out = true) (e : Env) (s : State) : view μ (disableUnit e s) = view μ s := by
  unfold disableUnit
  try dsimp only
  repeat' split
  all_goals (first | with_reducible rfl | (simp [h_hq, h_out]; done))

@[simp] theorem view_enableUnit {μ : StatePart → Bool} (h_adm : μ .adm = true) (h_hq : μ .hq = true) (h_irq : μ .irq = true) (h_pwr : μ .pwr = true) (h_ctr : μ .ctr = true) (h_out : μ .out = true) (e : Env) (s : State) : view μ (enableUnit e s) = view μ s := by
  unfold enableUnit
  try dsimp only
  repeat' split
  all_goals (first | with_reducible rfl | (simp [h_adm, h_hq, h_irq, h_pwr, h_ctr, h_out]; done))

@[simp] theorem view_flushPosted {μ : StatePart → Bool} (h_adm : μ .adm = true) (h_ports : μ .ports = true) (h_slices : μ .slices = true) (h_buf : μ .buf = true) (h_hq : μ .hq = true) (h_ctr : μ .ctr = true) (h_out : μ .out = true) (i n : Nat) (s : State) : view μ (flushPosted i n s) = view μ s := by
  induction n generalizing s with
  | zero => rfl
  | succ n ih =>
    unfold flushPosted
    try dsimp only
    repeat' split
    all_goals simp [h_adm, h_ports, h_slices, h_buf, h_hq, h_ctr, h_out, ih]

@[simp] theorem view_resetUnit {μ : StatePart → Bool} (h_adm : μ .adm = true) (h_ports : μ .ports = true) (h_slices : μ .slices = true) (h_buf : μ .buf = true) (h_hq : μ .hq = true) (h_ctr : μ .ctr = true) (h_out : μ .out = true) (e : Env) (s : State) : view μ (resetUnit e s) = view μ s := by
  unfold resetUnit
  try dsimp only
  repeat' split
  all_goals (first | with_reducible rfl | (simp [h_adm, h_ports, h_slices, h_buf, h_hq, h_ctr, h_out]; done))

@[simp] theorem view_updOtd {μ : StatePart → Bool} (h_otd : μ .otd = true) (f : Otd → Otd) (s : State) : view μ (updOtd f s) = view μ s := by
  unfold updOtd
  try dsimp only
  repeat' split
  all_goals (first | with_reducible rfl | (simp [h_otd]; done))

@[simp] theorem view_otdCount {μ : StatePart → Bool} (h_otd : μ .otd = true) (h_ctr : μ .ctr = true) (i n : Nat) (s : State) : view μ (otdCount i n s) = view μ s := by
  unfold otdCount
  try dsimp only
  repeat' split
  all_goals (first | with_reducible rfl | (simp [h_otd, h_ctr]; done))

@[simp] theorem view_pushLog {μ : StatePart → Bool} (h_otd : μ .otd = true) (h_irq : μ .irq = true) (h_pwr : μ .pwr = true) (h_out : μ .out = true) (code source detail : Nat) (s : State) : view μ (pushLog code source detail s) = view μ s := by
  unfold pushLog
  try dsimp only
  repeat' split
  all_goals (first | with_reducible rfl | (simp [h_otd, h_irq, h_pwr, h_out]; done))

@[simp] theorem view_loseLog {μ : StatePart → Bool} (h_otd : μ .otd = true) (h_irq : μ .irq = true) (h_pwr : μ .pwr = true) (h_out : μ .out = true) (s : State) : view μ (loseLog s) = view μ s := by
  unfold loseLog
  try dsimp only
  repeat' split
  all_goals (first | with_reducible rfl | (simp [h_otd, h_irq, h_pwr, h_out]; done))

@[simp] theorem view_otdLog {μ : StatePart → Bool} (h_otd : μ .otd = true) (h_irq : μ .irq = true) (h_pwr : μ .pwr = true) (h_out : μ .out = true) (code source detail : Nat) (s : State) : view μ (otdLog code source detail s) = view μ s := by
  unfold otdLog
  try dsimp only
  repeat' split
  all_goals (first | with_reducible rfl | (simp [h_otd, h_irq, h_pwr, h_out]; done))

@[simp] theorem view_flushIncs {μ : StatePart → Bool} (h_otd : μ .otd = true) (h_irq : μ .irq = true) (h_pwr : μ .pwr = true) (h_out : μ .out = true) (s : State) : view μ (flushIncs s) = view μ s := by
  unfold flushIncs
  try dsimp only
  repeat' split
  all_goals (first | with_reducible rfl | (simp [h_otd, h_irq, h_pwr, h_out]; done))

@[simp] theorem view_noteInc {μ : StatePart → Bool} (h_otd : μ .otd = true) (h_irq : μ .irq = true) (h_pwr : μ .pwr = true) (h_out : μ .out = true) (s : State) (n : Nat × Nat) : view μ (noteInc s n) = view μ s := by
  unfold noteInc
  try dsimp only
  repeat' split
  all_goals (first | with_reducible rfl | (simp [h_otd, h_irq, h_pwr, h_out]; done))

@[simp] theorem view_noteStep {μ : StatePart → Bool} (h_otd : μ .otd = true) (h_irq : μ .irq = true) (h_pwr : μ .pwr = true) (h_out : μ .out = true) (s : State) (n : Nat × Int × Bool × Bool) : view μ (noteStep s n) = view μ s := by
  unfold noteStep
  try dsimp only
  repeat' split
  all_goals (first | with_reducible rfl | (simp [h_otd, h_irq, h_pwr, h_out]; done))

@[simp] theorem view_otdTick {μ : StatePart → Bool} (h_otd : μ .otd = true) (h_irq : μ .irq = true) (h_pwr : μ .pwr = true) (h_out : μ .out = true) (s : State) : view μ (otdTick s) = view μ s := by
  unfold otdTick
  try dsimp only
  repeat' split
  all_goals (first | with_reducible rfl | (simp [h_otd, h_irq, h_pwr, h_out]; done))

@[simp] theorem view_takeInc {μ : StatePart → Bool} (h_time : μ .time = true) (h_otd : μ .otd = true) (src inc : Nat) (s : State) : view μ (takeInc src inc s) = view μ s := by
  unfold takeInc
  try dsimp only
  repeat' split
  all_goals (first | with_reducible rfl | (simp [h_time, h_otd]; done))

@[simp] theorem view_takeStep {μ : StatePart → Bool} (h_time : μ .time = true) (h_otd : μ .otd = true) (src : Nat) (amount : Int) (valid invalidate : Bool) (s : State) : view μ (takeStep src amount valid invalidate s) = view μ s := by
  unfold takeStep
  try dsimp only
  repeat' split
  all_goals (first | with_reducible rfl | (simp [h_time, h_otd]; done))

@[simp] theorem view_servoActed {μ : StatePart → Bool} (h_time : μ .time = true) (lock : Bool) (s : State) : view μ (servoActed lock s) = view μ s := by
  unfold servoActed
  try dsimp only
  repeat' split
  all_goals (first | with_reducible rfl | (simp [h_time]; done))

@[simp] theorem view_servoStep {μ : StatePart → Bool} (h_time : μ .time = true) (h_otd : μ .otd = true) (h_ctr : μ .ctr = true) (amount : Int) (valid invalidate : Bool) (s : State) : view μ (servoStep amount valid invalidate s) = view μ s := by
  unfold servoStep
  try dsimp only
  repeat' split
  all_goals (first | with_reducible rfl | (simp [h_time, h_otd, h_ctr]; done))

@[simp] theorem view_holdoverTick {μ : StatePart → Bool} (h_time : μ .time = true) (h_otd : μ .otd = true) (h_ctr : μ .ctr = true) (s : State) : view μ (holdoverTick s) = view μ s := by
  unfold holdoverTick
  try dsimp only
  repeat' split
  all_goals (first | with_reducible rfl | (simp [h_time, h_otd, h_ctr]; done))

@[simp] theorem view_syntTick {μ : StatePart → Bool} (h_time : μ .time = true) (s : State) : view μ (syntTick s) = view μ s := by
  unfold syntTick
  try dsimp only
  repeat' split
  all_goals (first | with_reducible rfl | (simp [h_time]; done))

@[simp] theorem view_noteInterval {μ : StatePart → Bool} (h_otd : μ .otd = true) (old : TimeUnit) (s : State) : view μ (noteInterval old s) = view μ s := by
  unfold noteInterval
  try dsimp only
  repeat' split
  all_goals (first | with_reducible rfl | (simp [h_otd]; done))

@[simp] theorem view_latTick {μ : StatePart → Bool} (h_ports : μ .ports = true) (s : State) : view μ (latTick s) = view μ s := by
  unfold latTick
  try dsimp only
  repeat' split
  all_goals (first | with_reducible rfl | (simp [h_ports]; done))

@[simp] theorem view_checkReceiver {μ : StatePart → Bool} (h_time : μ .time = true) (h_irq : μ .irq = true) (h_pwr : μ .pwr = true) (h_badger : μ .badger = true) (h_out : μ .out = true) (h_fresh : μ .fresh = true) (bad : List Nat) (s : State) (sl : Nat) : view μ (checkReceiver bad s sl) = view μ s := by
  unfold checkReceiver
  try dsimp only
  repeat' split
  all_goals (first | with_reducible rfl | (simp [h_time, h_irq, h_pwr, h_badger, h_out, h_fresh]; done))

@[simp] theorem view_busTick {μ : StatePart → Bool} (h_time : μ .time = true) (old : TimeUnit) (skewed : List Nat) (s : State) : view μ (busTick old skewed s) = view μ s := by
  unfold busTick
  try dsimp only
  repeat' split
  all_goals (first | with_reducible rfl | (simp [h_time]; done))

@[simp] theorem view_latchTick {μ : StatePart → Bool} (h_quad : μ .quad = true) (h_time : μ .time = true) (s : State) : view μ (latchTick s) = view μ s := by
  unfold latchTick
  try dsimp only
  repeat' split
  all_goals (first | with_reducible rfl | (simp [h_quad, h_time]; done))

@[simp] theorem view_stepPort {μ : StatePart → Bool} (h_ports : μ .ports = true) (h_gate : μ .gate = true) (h_ctr : μ .ctr = true) (s0 : State) (d : Int) (s : State) (p : Nat) : view μ (stepPort s0 d s p) = view μ s := by
  unfold stepPort
  dsimp only
  repeat' split
  all_goals simp [h_ports, h_gate, h_ctr]

@[simp] theorem view_stepTick {μ : StatePart → Bool} (h_ports : μ .ports = true) (h_gate : μ .gate = true) (h_irq : μ .irq = true) (h_pwr : μ .pwr = true) (h_ctr : μ .ctr = true) (h_out : μ .out = true) (s0 s : State) : view μ (stepTick s0 s) = view μ s := by
  unfold stepTick
  repeat' split
  all_goals first | with_reducible rfl | (simp [h_ports, h_gate, h_irq, h_pwr, h_ctr, h_out]; done)

@[simp] theorem view_tickTime {μ : StatePart → Bool} (h_quad : μ .quad = true) (h_ports : μ .ports = true) (h_gate : μ .gate = true) (h_time : μ .time = true) (h_otd : μ .otd = true) (h_irq : μ .irq = true) (h_pwr : μ .pwr = true) (h_badger : μ .badger = true) (h_ctr : μ .ctr = true) (h_out : μ .out = true) (h_fresh : μ .fresh = true) (skewed : List Nat) (s : State) : view μ (tickTime skewed s) = view μ s := by
  unfold tickTime
  try dsimp only
  repeat' split
  all_goals (first | with_reducible rfl | (simp [h_quad, h_ports, h_gate, h_time, h_otd, h_irq, h_pwr, h_badger, h_ctr, h_out, h_fresh]; done))

@[simp] theorem view_ptpPortCfgSide {μ : StatePart → Bool} (h_time : μ .time = true) (e : Env) (s : State) : view μ (ptpPortCfgSide e s) = view μ s := by
  unfold ptpPortCfgSide
  try dsimp only
  repeat' split
  all_goals (first | with_reducible rfl | (simp [h_time]; done))

@[simp] theorem view_startRun {μ : StatePart → Bool} (h_badger : μ .badger = true) (p slot : Nat) (s : State) : view μ (startRun p slot s) = view μ s := by
  unfold startRun
  try dsimp only
  repeat' split
  all_goals (first | with_reducible rfl | (simp [h_badger]; done))

@[simp] theorem view_calEvalPort {μ : StatePart → Bool} (h_ports : μ .ports = true) (h_irq : μ .irq = true) (h_pwr : μ .pwr = true) (h_badger : μ .badger = true) (h_out : μ .out = true) (span : Nat) (temps : List Int) (s : State) (p : Nat) : view μ (calEvalPort span temps s p) = view μ s := by
  unfold calEvalPort
  try dsimp only
  repeat' split
  all_goals (first | with_reducible rfl | (simp [h_ports, h_irq, h_pwr, h_badger, h_out]; done))

@[simp] theorem view_calFinish {μ : StatePart → Bool} (h_ports : μ .ports = true) (h_irq : μ .irq = true) (h_pwr : μ .pwr = true) (h_badger : μ .badger = true) (h_out : μ .out = true) (h_fresh : μ .fresh = true) (p : Nat) (r : CalRun) (s : State) : view μ (calFinish p r s) = view μ s := by
  unfold calFinish
  try dsimp only
  repeat' split
  all_goals (first | with_reducible rfl | (simp [h_ports, h_irq, h_pwr, h_badger, h_out, h_fresh]; done))

@[simp] theorem view_sideUpd {μ : StatePart → Bool} (h_tables : μ .tables = true) (h_ports : μ .ports = true) (h_slices : μ .slices = true) (h_buf : μ .buf = true) (h_tm : μ .tm = true) (h_gate : μ .gate = true) (h_flows : μ .flows = true) (h_cap : μ .cap = true) (h_time : μ .time = true) (h_otd : μ .otd = true) (h_sez : μ .sez = true) (h_hq : μ .hq = true) (h_irq : μ .irq = true) (h_pwr : μ .pwr = true) (h_ctr : μ .ctr = true) (h_out : μ .out = true) (h_fresh : μ .fresh = true) (i : Instr) (s : State) : view μ (sideUpd i s) = view μ s := by
  unfold sideUpd
  try dsimp only
  repeat' split
  all_goals (first | with_reducible rfl | (simp [h_tables, h_ports, h_slices, h_buf, h_tm, h_gate, h_flows, h_cap, h_time, h_otd, h_sez, h_hq, h_irq, h_pwr, h_ctr, h_out, h_fresh]; done))

@[simp] theorem view_retryHeld {μ : StatePart → Bool} (h_tables : μ .tables = true) (h_fresh : μ .fresh = true) (id : Nat) (s : State) : view μ (retryHeld id s) = view μ s := by
  unfold retryHeld
  refine view_foldl _ (fun s t => view_foldl _ (fun s h => ?_) _ _) _ _
  dsimp only
  repeat' split
  all_goals simp [h_tables, h_fresh]

@[simp] theorem view_nameSet {μ : StatePart → Bool} (h_quad : μ .quad = true) (id : Nat) (s : State) : view μ (nameSet id s) = view μ s := by
  unfold nameSet
  try dsimp only
  repeat' split
  all_goals (first | with_reducible rfl | (simp [h_quad]; done))

@[simp] theorem view_forgetSets {μ : StatePart → Bool} (h_quad : μ .quad = true) (s : State) : view μ (forgetSets s) = view μ s := by
  unfold forgetSets
  try dsimp only
  repeat' split
  all_goals (first | with_reducible rfl | (simp [h_quad]; done))

@[simp] theorem view_settleStaged {μ : StatePart → Bool} (h_tables : μ .tables = true) (id : Nat) (s : State) : view μ (settleStaged id s) = view μ s := by
  unfold settleStaged
  try dsimp only
  repeat' split
  all_goals (first | with_reducible rfl | (simp [h_tables]; done))

@[simp] theorem view_copyBanks {μ : StatePart → Bool} (h_bank0 : μ .bank0 = true) (h_bank1 : μ .bank1 = true) (s : State) : view μ (copyBanks s) = view μ s := by
  unfold copyBanks
  try dsimp only
  repeat' split
  all_goals (first | with_reducible rfl | (simp [h_bank0, h_bank1]; done))

@[simp] theorem view_abortSet {μ : StatePart → Bool} (h_quad : μ .quad = true) (h_bank0 : μ .bank0 = true) (h_bank1 : μ .bank1 = true) (h_tables : μ .tables = true) (h_irq : μ .irq = true) (h_pwr : μ .pwr = true) (h_out : μ .out = true) (id : Nat) (s : State) : view μ (abortSet id s) = view μ s := by
  unfold abortSet
  try dsimp only
  repeat' split
  all_goals (first | with_reducible rfl | (simp [h_quad, h_bank0, h_bank1, h_tables, h_irq, h_pwr, h_out]; done))

@[simp] theorem view_answerOwed {μ : StatePart → Bool} (h_mb : μ .mb = true) (h_adm : μ .adm = true) (h_otd : μ .otd = true) (h_hq : μ .hq = true) (h_out : μ .out = true) (q : QSet) (s : State) : view μ (answerOwed q s) = view μ s := by
  unfold answerOwed
  try dsimp only
  repeat' split
  all_goals (first | with_reducible rfl | (simp [h_mb, h_adm, h_otd, h_hq, h_out]; done))

@[simp] theorem view_takeApply {μ : StatePart → Bool} (h_quad : μ .quad = true) (id mode applyTime : Nat) (owed : Option Env) (s : State) : view μ (takeApply id mode applyTime owed s) = view μ s := by
  unfold takeApply
  try dsimp only
  repeat' split
  all_goals (first | with_reducible rfl | (simp [h_quad]; done))

@[simp] theorem view_runApply {μ : StatePart → Bool} (h_mb : μ .mb = true) (h_adm : μ .adm = true) (h_quad : μ .quad = true) (h_bank0 : μ .bank0 = true) (h_bank1 : μ .bank1 = true) (h_tables : μ .tables = true) (h_ports : μ .ports = true) (h_slices : μ .slices = true) (h_buf : μ .buf = true) (h_tm : μ .tm = true) (h_gate : μ .gate = true) (h_flows : μ .flows = true) (h_cap : μ .cap = true) (h_otd : μ .otd = true) (h_hq : μ .hq = true) (h_irq : μ .irq = true) (h_pwr : μ .pwr = true) (h_ctr : μ .ctr = true) (h_out : μ .out = true) (h_fresh : μ .fresh = true) (e : Env) (mode : Nat) (refused : QSet → State → Bool) (go : QSet → State → State) (h : ∀ q s, view μ (go q s) = view μ s) (s : State) : view μ (runApply e mode refused go s) = view μ s := by
  unfold runApply
  refine view_ifTurn  _ _ (fun s => ?_) s
  dsimp only
  repeat' split
  all_goals simp [h_mb, h_adm, h_quad, h_bank0, h_bank1, h_tables, h_ports, h_slices, h_buf, h_tm, h_gate, h_flows, h_cap, h_otd, h_hq, h_irq, h_pwr, h_ctr, h_out, h_fresh, h]

@[simp] theorem view_missedFlip {μ : StatePart → Bool} (h_sez : μ .sez = true) (h_irq : μ .irq = true) (h_pwr : μ .pwr = true) (h_out : μ .out = true) (q : QSet) (s : State) : view μ (missedFlip q s) = view μ s := by
  unfold missedFlip
  try dsimp only
  repeat' split
  all_goals (first | with_reducible rfl | (simp [h_sez, h_irq, h_pwr, h_out]; done))

@[simp] theorem view_turnVis {μ : StatePart → Bool} (h_tables : μ .tables = true) (id : Nat) (s : State) : view μ (turnVis id s) = view μ s := by
  unfold turnVis
  try dsimp only
  repeat' split
  all_goals (first | with_reducible rfl | (simp [h_tables]; done))

@[simp] theorem view_finishSet {μ : StatePart → Bool} (h_quad : μ .quad = true) (h_bank0 : μ .bank0 = true) (h_bank1 : μ .bank1 = true) (h_tables : μ .tables = true) (h_irq : μ .irq = true) (h_pwr : μ .pwr = true) (h_out : μ .out = true) (id : Nat) (s : State) : view μ (finishSet id s) = view μ s := by
  unfold finishSet
  try dsimp only
  repeat' split
  all_goals (first | with_reducible rfl | (simp [h_quad, h_bank0, h_bank1, h_tables, h_irq, h_pwr, h_out]; done))

@[simp] theorem view_updDma {μ : StatePart → Bool} (h_dma : μ .dma = true) (c : Nat) (f : DmaCh → DmaCh) (s : State) : view μ (updDma c f s) = view μ s := by
  unfold updDma
  try dsimp only
  repeat' split
  all_goals (first | with_reducible rfl | (simp [h_dma]; done))

@[simp] theorem view_onDma {μ : StatePart → Bool}  (c : Nat) (f : DmaCh → State → State) (h : ∀ x s, view μ (f x s) = view μ s) (s : State) : view μ (onDma c f s) = view μ s := by
  unfold onDma
  split
  · exact h _ _
  · simp []

@[simp] theorem view_dmaHalt {μ : StatePart → Bool} (h_dma : μ .dma = true) (h_irq : μ .irq = true) (h_pwr : μ .pwr = true) (h_out : μ .out = true) (c kind addr : Nat) (s : State) : view μ (dmaHalt c kind addr s) = view μ s := by
  unfold dmaHalt
  try dsimp only
  repeat' split
  all_goals (first | with_reducible rfl | (simp [h_dma, h_irq, h_pwr, h_out]; done))

@[simp] theorem view_dmaComplete {μ : StatePart → Bool} (h_dma : μ .dma = true) (h_irq : μ .irq = true) (h_pwr : μ .pwr = true) (h_out : μ .out = true) (c : Nat) (half : Bool) (s : State) : view μ (dmaComplete c half s) = view μ s := by
  unfold dmaComplete
  try dsimp only
  repeat' split
  all_goals (first | with_reducible rfl | (simp [h_dma, h_irq, h_pwr, h_out]; done))

@[simp] theorem view_dmaDone {μ : StatePart → Bool} (h_dma : μ .dma = true) (h_irq : μ .irq = true) (h_pwr : μ .pwr = true) (h_out : μ .out = true) (c n : Nat) (s : State) : view μ (dmaDone c n s) = view μ s := by
  unfold dmaDone
  try dsimp only
  repeat' split
  all_goals (first | with_reducible rfl | (simp [h_dma, h_irq, h_pwr, h_out]; done))

@[simp] theorem view_dmaFailed {μ : StatePart → Bool} (h_dma : μ .dma = true) (h_irq : μ .irq = true) (h_pwr : μ .pwr = true) (h_out : μ .out = true) (c addr status kind : Nat) (again : State → State) (h : ∀ s, view μ (again s) = view μ s) (s : State) : view μ (dmaFailed c addr status kind again s) = view μ s := by
  unfold dmaFailed
  dsimp only
  split
  · rw [h]; simp [h_dma, h_irq, h_pwr, h_out]
  · simp [h_dma, h_irq, h_pwr, h_out]

@[simp] theorem view_dmaAbortEnds {μ : StatePart → Bool} (h_dma : μ .dma = true) (c : Nat) (s : State) : view μ (dmaAbortEnds c s) = view μ s := by
  unfold dmaAbortEnds
  try dsimp only
  repeat' split
  all_goals (first | with_reducible rfl | (simp [h_dma]; done))

@[simp] theorem view_dmaReadAnswer {μ : StatePart → Bool} (h_dma : μ .dma = true) (h_irq : μ .irq = true) (h_pwr : μ .pwr = true) (h_out : μ .out = true) (c : Nat) (b : Burst) (s0 : State) : view μ (dmaReadAnswer c b s0) = view μ s0 := by
  unfold dmaReadAnswer
  try dsimp only
  repeat' split
  all_goals (first | with_reducible rfl | (simp [h_dma, h_irq, h_pwr, h_out]; done))

@[simp] theorem view_dmaWriteAnswer {μ : StatePart → Bool} (h_dma : μ .dma = true) (h_irq : μ .irq = true) (h_pwr : μ .pwr = true) (h_out : μ .out = true) (c : Nat) (b : Burst) (s : State) : view μ (dmaWriteAnswer c b s) = view μ s := by
  unfold dmaWriteAnswer
  try dsimp only
  repeat' split
  all_goals (first | with_reducible rfl | (simp [h_dma, h_irq, h_pwr, h_out]; done))

@[simp] theorem view_dmaReset {μ : StatePart → Bool} (h_dma : μ .dma = true) (h_irq : μ .irq = true) (h_pwr : μ .pwr = true) (h_out : μ .out = true) (s : State) : view μ (dmaReset s) = view μ s := by
  unfold dmaReset
  try dsimp only
  repeat' split
  all_goals (first | with_reducible rfl | (simp [h_dma, h_irq, h_pwr, h_out]; done))

@[simp] theorem view_updIrq {μ : StatePart → Bool} (h_irq : μ .irq = true) (f : Irq → Irq) (s : State) : view μ (updIrq f s) = view μ s := by
  unfold updIrq
  try dsimp only
  repeat' split
  all_goals (first | with_reducible rfl | (simp [h_irq]; done))

@[simp] theorem view_updTarget {μ : StatePart → Bool} (h_irq : μ .irq = true) (n : Nat) (f : Target → Target) (s : State) : view μ (updTarget n f s) = view μ s := by
  unfold updTarget
  try dsimp only
  repeat' split
  all_goals (first | with_reducible rfl | (simp [h_irq]; done))

@[simp] theorem view_settleAgain {μ : StatePart → Bool} (h_irq : μ .irq = true) (h_out : μ .out = true) (n : Nat) (s : State) : view μ (settleAgain n s) = view μ s := by
  unfold settleAgain
  try dsimp only
  repeat' split
  all_goals (first | with_reducible rfl | (simp [h_irq, h_out]; done))

@[simp] theorem view_takeClaim {μ : StatePart → Bool} (h_irq : μ .irq = true) (n id prio : Nat) (s : State) : view μ (takeClaim n id prio s) = view μ s := by
  unfold takeClaim
  try dsimp only
  repeat' split
  all_goals (first | with_reducible rfl | (simp [h_irq]; done))

@[simp] theorem view_endActive {μ : StatePart → Bool} (h_irq : μ .irq = true) (n id : Nat) (s : State) : view μ (endActive n id s) = view μ s := by
  unfold endActive
  try dsimp only
  repeat' split
  all_goals (first | with_reducible rfl | (simp [h_irq]; done))

@[simp] theorem view_privWrite {μ : StatePart → Bool} (h_irq : μ .irq = true) (h_hpt : μ .hpt = true) (h_out : μ .out = true) (n : Nat) (f : Target → Target) (s : State) : view μ (privWrite n f s) = view μ s := by
  unfold privWrite
  try dsimp only
  repeat' split
  all_goals (first | with_reducible rfl | (simp [h_irq, h_hpt, h_out]; done))

@[simp] theorem view_loseUnguarded {μ : StatePart → Bool} (h_ports : μ .ports = true) (h_buf : μ .buf = true) (h_hq : μ .hq = true) (cs : List Copy) (s : State) : view μ (loseUnguarded cs s) = view μ s := by
  unfold loseUnguarded
  try dsimp only
  repeat' split
  all_goals (first | with_reducible rfl | (simp [h_ports, h_buf, h_hq]; done))

@[simp] theorem view_loseAtPort {μ : StatePart → Bool} (h_ports : μ .ports = true) (h_buf : μ .buf = true) (h_tm : μ .tm = true) (h_hq : μ .hq = true) (own : Bool) (p : Nat) (s : State) : view μ (loseAtPort own p s) = view μ s := by
  unfold loseAtPort
  try dsimp only
  repeat' split
  all_goals (first | with_reducible rfl | (simp [h_ports, h_buf, h_tm, h_hq]; done))

@[simp] theorem view_loseClassified {μ : StatePart → Bool} (h_ports : μ .ports = true) (h_buf : μ .buf = true) (h_tm : μ .tm = true) (h_cap : μ .cap = true) (h_hq : μ .hq = true) (h_ctr : μ .ctr = true) (h_out : μ .out = true) (sl : Nat) (k : Classified) (s : State) : view μ (loseClassified sl k s) = view μ s := by
  unfold loseClassified
  try dsimp only
  repeat' split
  all_goals (first | with_reducible rfl | (simp [h_ports, h_buf, h_tm, h_cap, h_hq, h_ctr, h_out]; done))

@[simp] theorem view_clearCore {μ : StatePart → Bool} (h_ports : μ .ports = true) (h_slices : μ .slices = true) (h_buf : μ .buf = true) (h_tm : μ .tm = true) (h_cap : μ .cap = true) (h_otd : μ .otd = true) (h_hq : μ .hq = true) (h_pwr : μ .pwr = true) (h_ctr : μ .ctr = true) (h_out : μ .out = true) (own : Bool) (sl : Nat) (s : State) : view μ (clearCore own sl s) = view μ s := by
  unfold clearCore
  try dsimp only
  repeat' split
  all_goals (first | with_reducible rfl | (simp [h_ports, h_slices, h_buf, h_tm, h_cap, h_otd, h_hq, h_pwr, h_ctr, h_out]; done))

@[simp] theorem view_abortQuietly {μ : StatePart → Bool} (h_boot : μ .boot = true) (h_quad : μ .quad = true) (h_bank0 : μ .bank0 = true) (h_bank1 : μ .bank1 = true) (h_tables : μ .tables = true) (h_sez : μ .sez = true) (h_irq : μ .irq = true) (h_pwr : μ .pwr = true) (h_out : μ .out = true) (q : QSet) (s : State) : view μ (abortQuietly q s) = view μ s := by
  unfold abortQuietly
  try dsimp only
  repeat' split
  all_goals (first | with_reducible rfl | (simp [h_boot, h_quad, h_bank0, h_bank1, h_tables, h_sez, h_irq, h_pwr, h_out]; done))

@[simp] theorem view_warmSets {μ : StatePart → Bool} (h_boot : μ .boot = true) (h_quad : μ .quad = true) (h_bank0 : μ .bank0 = true) (h_bank1 : μ .bank1 = true) (h_tables : μ .tables = true) (h_sez : μ .sez = true) (h_irq : μ .irq = true) (h_pwr : μ .pwr = true) (h_out : μ .out = true) (s : State) : view μ (warmSets s) = view μ s := by
  unfold warmSets
  try dsimp only
  repeat' split
  all_goals (first | with_reducible rfl | (simp [h_boot, h_quad, h_bank0, h_bank1, h_tables, h_sez, h_irq, h_pwr, h_out]; done))

@[simp] theorem view_warmRegisters {μ : StatePart → Bool} (h_mb : μ .mb = true) (h_boot : μ .boot = true) (h_adm : μ .adm = true) (h_tables : μ .tables = true) (h_ports : μ .ports = true) (h_eng : μ .eng = true) (h_time : μ .time = true) (h_irq : μ .irq = true) (h_badger : μ .badger = true) (s : State) : view μ (warmRegisters s) = view μ s := by
  unfold warmRegisters
  try dsimp only
  repeat' split
  all_goals (first | with_reducible rfl | (simp [h_mb, h_boot, h_adm, h_tables, h_ports, h_eng, h_time, h_irq, h_badger]; done))

@[simp] theorem view_warmQueues {μ : StatePart → Bool} (h_hq : μ .hq = true) (h_out : μ .out = true) (s : State) : view μ (warmQueues s) = view μ s := by
  unfold warmQueues
  try dsimp only
  repeat' split
  all_goals (first | with_reducible rfl | (simp [h_hq, h_out]; done))

@[simp] theorem view_warmReset {μ : StatePart → Bool} (h_mb : μ .mb = true) (h_boot : μ .boot = true) (h_adm : μ .adm = true) (h_quad : μ .quad = true) (h_bank0 : μ .bank0 = true) (h_bank1 : μ .bank1 = true) (h_tables : μ .tables = true) (h_ports : μ .ports = true) (h_slices : μ .slices = true) (h_buf : μ .buf = true) (h_tm : μ .tm = true) (h_cap : μ .cap = true) (h_eng : μ .eng = true) (h_time : μ .time = true) (h_otd : μ .otd = true) (h_sez : μ .sez = true) (h_hq : μ .hq = true) (h_dma : μ .dma = true) (h_irq : μ .irq = true) (h_pwr : μ .pwr = true) (h_badger : μ .badger = true) (h_ctr : μ .ctr = true) (h_out : μ .out = true) (h_fresh : μ .fresh = true) (s : State) : view μ (warmReset s) = view μ s := by
  unfold warmReset
  try dsimp only
  repeat' split
  all_goals (first | with_reducible rfl | (simp [h_mb, h_boot, h_adm, h_quad, h_bank0, h_bank1, h_tables, h_ports, h_slices, h_buf, h_tm, h_cap, h_eng, h_time, h_otd, h_sez, h_hq, h_dma, h_irq, h_pwr, h_badger, h_ctr, h_out, h_fresh]; done))

@[simp] theorem view_resetCore {μ : StatePart → Bool} (h_ports : μ .ports = true) (h_slices : μ .slices = true) (h_buf : μ .buf = true) (h_tm : μ .tm = true) (h_cap : μ .cap = true) (h_otd : μ .otd = true) (h_hq : μ .hq = true) (h_pwr : μ .pwr = true) (h_ctr : μ .ctr = true) (h_out : μ .out = true) (sl : Nat) (s : State) : view μ (resetCore sl s) = view μ s := by
  unfold resetCore
  try dsimp only
  repeat' split
  all_goals (first | with_reducible rfl | (simp [h_ports, h_slices, h_buf, h_tm, h_cap, h_otd, h_hq, h_pwr, h_ctr, h_out]; done))

@[simp] theorem view_stompAll {μ : StatePart → Bool} (h_ports : μ .ports = true) (h_slices : μ .slices = true) (h_buf : μ .buf = true) (h_cap : μ .cap = true) (h_otd : μ .otd = true) (h_hq : μ .hq = true) (h_ctr : μ .ctr = true) (h_out : μ .out = true) (h_fresh : μ .fresh = true) (s : State) : view μ (stompAll s) = view μ s := by
  unfold stompAll
  try dsimp only
  repeat' split
  all_goals (first | with_reducible rfl | (simp [h_ports, h_slices, h_buf, h_cap, h_otd, h_hq, h_ctr, h_out, h_fresh]; done))

@[simp] theorem view_runOtd {μ : StatePart → Bool} (h_mb : μ .mb = true) (h_adm : μ .adm = true) (h_otd : μ .otd = true) (h_hq : μ .hq = true) (h_out : μ .out = true) (op : Nat) (len : Nat → Bool) (fields : List (Nat × Bool)) (more : List (Option Verdict)) (eff : State → State × List Byte) (e : Env) (h : ∀ s, view μ (eff s).1 = view μ s) (s : State) : view μ (runOtd op len fields more eff e s) = view μ s := by
  unfold runOtd
  split
  · simp [h_mb, h_adm, h_otd, h_hq, h_out]
  · simp [h_mb, h_adm, h_otd, h_hq, h_out, h]

@[simp] theorem view_writeLedger {μ : StatePart → Bool} (h_otd : μ .otd = true) (code : Nat) (s : State) : view μ (writeLedger code s) = view μ s := by
  unfold writeLedger
  try dsimp only
  repeat' split
  all_goals (first | with_reducible rfl | (simp [h_otd]; done))

@[simp] theorem view_drawNonce {μ : StatePart → Bool} (h_otd : μ .otd = true) (s : State) : view μ (drawNonce s) = view μ s := by
  unfold drawNonce
  try dsimp only
  repeat' split
  all_goals (first | with_reducible rfl | (simp [h_otd]; done))

@[simp] theorem view_oIssue {μ : StatePart → Bool} (h_otd : μ .otd = true) (h_out : μ .out = true) (second : Bool) (s : State) : view μ (oIssue second s) = view μ s := by
  unfold oIssue
  try dsimp only
  repeat' split
  all_goals (first | with_reducible rfl | (simp [h_otd, h_out]; done))

@[simp] theorem view_oPump {μ : StatePart → Bool} (h_otd : μ .otd = true) (h_pwr : μ .pwr = true) (h_out : μ .out = true) (s : State) : view μ (oPump s) = view μ s := by
  unfold oPump
  try dsimp only
  repeat' split
  all_goals (first | with_reducible rfl | (simp [h_otd, h_pwr, h_out]; done))

@[simp] theorem view_chargeHeld {μ : StatePart → Bool} (h_otd : μ .otd = true) (h_ctr : μ .ctr = true) (h : TapHeld) (s : State) : view μ (chargeHeld h s) = view μ s := by
  unfold chargeHeld
  try dsimp only
  repeat' split
  all_goals (first | with_reducible rfl | (simp [h_otd, h_ctr]; done))

@[simp] theorem view_applyAll {μ : StatePart → Bool} (h_otd : μ .otd = true) (h_ctr : μ .ctr = true) (f : TapHeld → Bool) (s : State) : view μ (applyAll f s) = view μ s := by
  unfold applyAll
  try dsimp only
  repeat' split
  all_goals (first | with_reducible rfl | (simp [h_otd, h_ctr]; done))

@[simp] theorem view_addRecord {μ : StatePart → Bool} (h_otd : μ .otd = true) (r : ORec) (s : State) : view μ (addRecord r s) = view μ s := by
  unfold addRecord
  try dsimp only
  repeat' split
  all_goals (first | with_reducible rfl | (simp [h_otd]; done))

@[simp] theorem view_accountRecord {μ : StatePart → Bool} (h_otd : μ .otd = true) (c : Closing) (s : State) (a : Nat) : view μ (accountRecord c s a) = view μ s := by
  unfold accountRecord
  try dsimp only
  repeat' split
  all_goals (first | with_reducible rfl | (simp [h_otd]; done))

@[simp] theorem view_summaryRecord {μ : StatePart → Bool} (h_otd : μ .otd = true) (c : Closing) (n : Nat) (s : State) : view μ (summaryRecord c n s) = view μ s := by
  unfold summaryRecord
  try dsimp only
  repeat' split
  all_goals (first | with_reducible rfl | (simp [h_otd]; done))

@[simp] theorem view_openInterval {μ : StatePart → Bool} (h_otd : μ .otd = true) (c : Closing) (s : State) : view μ (openInterval c s) = view μ s := by
  unfold openInterval
  try dsimp only
  repeat' split
  all_goals (first | with_reducible rfl | (simp [h_otd]; done))

@[simp] theorem view_closeInterval {μ : StatePart → Bool} (h_otd : μ .otd = true) (c : Closing) (s : State) : view μ (closeInterval c s) = view μ s := by
  unfold closeInterval
  try dsimp only
  repeat' split
  all_goals (first | with_reducible rfl | (simp [h_otd]; done))

@[simp] theorem view_mapWaiting {μ : StatePart → Bool} (h_slices : μ .slices = true) (f : Frame → Frame) (s : State) : view μ (mapWaiting f s) = view μ s := by
  unfold mapWaiting
  try dsimp only
  repeat' split
  all_goals (first | with_reducible rfl | (simp [h_slices]; done))

@[simp] theorem view_beginClose {μ : StatePart → Bool} (h_slices : μ .slices = true) (h_otd : μ .otd = true) (h_irq : μ .irq = true) (h_pwr : μ .pwr = true) (h_ctr : μ .ctr = true) (h_out : μ .out = true) (s : State) : view μ (beginClose s) = view μ s := by
  unfold beginClose
  try dsimp only
  repeat' split
  all_goals (first | with_reducible rfl | (simp [h_slices, h_otd, h_irq, h_pwr, h_ctr, h_out]; done))

@[simp] theorem view_finishClose {μ : StatePart → Bool} (h_slices : μ .slices = true) (h_otd : μ .otd = true) (h_irq : μ .irq = true) (h_pwr : μ .pwr = true) (h_ctr : μ .ctr = true) (h_out : μ .out = true) (c : Closing) (s : State) : view μ (finishClose c s) = view μ s := by
  unfold finishClose
  try dsimp only
  repeat' split
  all_goals (first | with_reducible rfl | (simp [h_slices, h_otd, h_irq, h_pwr, h_ctr, h_out]; done))

@[simp] theorem view_unsealNow {μ : StatePart → Bool} (h_otd : μ .otd = true) (h_irq : μ .irq = true) (h_pwr : μ .pwr = true) (h_out : μ .out = true) (s : State) : view μ (unsealNow s) = view μ s := by
  unfold unsealNow
  try dsimp only
  repeat' split
  all_goals (first | with_reducible rfl | (simp [h_otd, h_irq, h_pwr, h_out]; done))

@[simp] theorem view_unsealDenied {μ : StatePart → Bool} (h_otd : μ .otd = true) (h_irq : μ .irq = true) (h_pwr : μ .pwr = true) (h_ctr : μ .ctr = true) (h_out : μ .out = true) (s : State) : view μ (unsealDenied s) = view μ s := by
  unfold unsealDenied
  try dsimp only
  repeat' split
  all_goals (first | with_reducible rfl | (simp [h_otd, h_irq, h_pwr, h_ctr, h_out]; done))

@[simp] theorem view_otdFinish {μ : StatePart → Bool} (h_time : μ .time = true) (h_otd : μ .otd = true) (h_irq : μ .irq = true) (h_pwr : μ .pwr = true) (h_out : μ .out = true) (key : Option (List Byte)) (s : State) : view μ (otdFinish key s) = view μ s := by
  unfold otdFinish
  try dsimp only
  repeat' split
  all_goals (first | with_reducible rfl | (simp [h_time, h_otd, h_irq, h_pwr, h_out]; done))

@[simp] theorem view_updPwr {μ : StatePart → Bool} (h_pwr : μ .pwr = true) (f : Pwr → Pwr) (s : State) : view μ (updPwr f s) = view μ s := by
  unfold updPwr
  try dsimp only
  repeat' split
  all_goals (first | with_reducible rfl | (simp [h_pwr]; done))

@[simp] theorem view_owlLog {μ : StatePart → Bool} (h_pwr : μ .pwr = true) (code d detail : Nat) (s : State) : view μ (owlLog code d detail s) = view μ s := by
  unfold owlLog
  try dsimp only
  repeat' split
  all_goals (first | with_reducible rfl | (simp [h_pwr]; done))

@[simp] theorem view_answerAsk {μ : StatePart → Bool} (h_mb : μ .mb = true) (h_adm : μ .adm = true) (h_otd : μ .otd = true) (h_hq : μ .hq = true) (h_out : μ .out = true) (by' : AskBy) (v : Verdict) (s : State) : view μ (answerAsk by' v s) = view μ s := by
  unfold answerAsk
  try dsimp only
  repeat' split
  all_goals (first | with_reducible rfl | (simp [h_mb, h_adm, h_otd, h_hq, h_out]; done))

@[simp] theorem view_refusedIrq {μ : StatePart → Bool} (h_irq : μ .irq = true) (h_pwr : μ .pwr = true) (h_out : μ .out = true) (by' : AskBy) (s : State) : view μ (refusedIrq by' s) = view μ s := by
  unfold refusedIrq
  try dsimp only
  repeat' split
  all_goals (first | with_reducible rfl | (simp [h_irq, h_pwr, h_out]; done))

@[simp] theorem view_refuseEntry {μ : StatePart → Bool} (h_mb : μ .mb = true) (h_adm : μ .adm = true) (h_otd : μ .otd = true) (h_hq : μ .hq = true) (h_irq : μ .irq = true) (h_pwr : μ .pwr = true) (h_out : μ .out = true) (by' : AskBy) (ds : List Nat) (d b detail : Nat) (s : State) : view μ (refuseEntry by' ds d b detail s) = view μ s := by
  unfold refuseEntry
  try dsimp only
  repeat' split
  all_goals (first | with_reducible rfl | (simp [h_mb, h_adm, h_otd, h_hq, h_irq, h_pwr, h_out]; done))

@[simp] theorem view_releaseLatches {μ : StatePart → Bool} (h_irq : μ .irq = true) (h_out : μ .out = true) (s : State) : view μ (releaseLatches s) = view μ s := by
  unfold releaseLatches
  try dsimp only
  repeat' split
  all_goals (first | with_reducible rfl | (simp [h_irq, h_out]; done))

@[simp] theorem view_dropRound {μ : StatePart → Bool} (h_pwr : μ .pwr = true) (r : AskRound) (s : State) : view μ (dropRound r s) = view μ s := by
  unfold dropRound
  try dsimp only
  repeat' split
  all_goals (first | with_reducible rfl | (simp [h_pwr]; done))

@[simp] theorem view_abortRound {μ : StatePart → Bool} (h_mb : μ .mb = true) (h_adm : μ .adm = true) (h_otd : μ .otd = true) (h_hq : μ .hq = true) (h_irq : μ .irq = true) (h_pwr : μ .pwr = true) (h_out : μ .out = true) (r : AskRound) (d b detail : Nat) (s : State) : view μ (abortRound r d b detail s) = view μ s := by
  unfold abortRound
  try dsimp only
  repeat' split
  all_goals (first | with_reducible rfl | (simp [h_mb, h_adm, h_otd, h_hq, h_irq, h_pwr, h_out]; done))

@[simp] theorem view_roundDone {μ : StatePart → Bool} (h_mb : μ .mb = true) (h_adm : μ .adm = true) (h_otd : μ .otd = true) (h_hq : μ .hq = true) (h_pwr : μ .pwr = true) (h_out : μ .out = true) (r : AskRound) (s : State) : view μ (roundDone r s) = view μ s := by
  unfold roundDone
  try dsimp only
  repeat' split
  all_goals (first | with_reducible rfl | (simp [h_mb, h_adm, h_otd, h_hq, h_pwr, h_out]; done))

@[simp] theorem view_startRound {μ : StatePart → Bool} (h_mb : μ .mb = true) (h_adm : μ .adm = true) (h_ports : μ .ports = true) (h_otd : μ .otd = true) (h_hq : μ .hq = true) (h_irq : μ .irq = true) (h_pwr : μ .pwr = true) (h_ctr : μ .ctr = true) (h_out : μ .out = true) (by' : AskBy) (hib : Bool) (t : DomState) (ds : List Nat) (s : State) : view μ (startRound by' hib t ds s) = view μ s := by
  unfold startRound
  try dsimp only
  repeat' split
  all_goals (first | with_reducible rfl | (simp [h_mb, h_adm, h_ports, h_otd, h_hq, h_irq, h_pwr, h_ctr, h_out]; done))

@[simp] theorem view_takeAck {μ : StatePart → Bool} (h_mb : μ .mb = true) (h_adm : μ .adm = true) (h_otd : μ .otd = true) (h_hq : μ .hq = true) (h_pwr : μ .pwr = true) (h_out : μ .out = true) (r : AskRound) (d b : Nat) (s : State) : view μ (takeAck r d b s) = view μ s := by
  unfold takeAck
  try dsimp only
  repeat' split
  all_goals (first | with_reducible rfl | (simp [h_mb, h_adm, h_otd, h_hq, h_pwr, h_out]; done))

@[simp] theorem view_ackNow {μ : StatePart → Bool} (h_mb : μ .mb = true) (h_adm : μ .adm = true) (h_otd : μ .otd = true) (h_hq : μ .hq = true) (h_pwr : μ .pwr = true) (h_out : μ .out = true) (d b : Nat) (s : State) : view μ (ackNow d b s) = view μ s := by
  unfold ackNow
  try dsimp only
  repeat' split
  all_goals (first | with_reducible rfl | (simp [h_mb, h_adm, h_otd, h_hq, h_pwr, h_out]; done))

@[simp] theorem view_askNow {μ : StatePart → Bool} (h_mb : μ .mb = true) (h_adm : μ .adm = true) (h_ports : μ .ports = true) (h_otd : μ .otd = true) (h_hq : μ .hq = true) (h_irq : μ .irq = true) (h_pwr : μ .pwr = true) (h_ctr : μ .ctr = true) (h_out : μ .out = true) (e : Env) (t : DomState) (ds : List Nat) (s : State) : view μ (askNow e t ds s) = view μ s := by
  unfold askNow
  try dsimp only
  repeat' split
  all_goals (first | with_reducible rfl | (simp [h_mb, h_adm, h_ports, h_otd, h_hq, h_irq, h_pwr, h_ctr, h_out]; done))

@[simp] theorem view_noteIdle {μ : StatePart → Bool} (h_pwr : μ .pwr = true) (s : State) : view μ (noteIdle s) = view μ s := by
  unfold noteIdle
  try dsimp only
  repeat' split
  all_goals (first | with_reducible rfl | (simp [h_pwr]; done))

@[simp] theorem view_settleEntry {μ : StatePart → Bool} (h_pwr : μ .pwr = true) (s : State) : view μ (settleEntry s) = view μ s := by
  unfold settleEntry
  try dsimp only
  repeat' split
  all_goals (first | with_reducible rfl | (simp [h_pwr]; done))

@[simp] theorem view_domUp {μ : StatePart → Bool} (h_slices : μ .slices = true) (h_otd : μ .otd = true) (h_irq : μ .irq = true) (h_pwr : μ .pwr = true) (h_out : μ .out = true) (d : Nat) (s : State) : view μ (domUp d s) = view μ s := by
  unfold domUp
  try dsimp only
  repeat' split
  all_goals (first | with_reducible rfl | (simp [h_slices, h_otd, h_irq, h_pwr, h_out]; done))

@[simp] theorem view_markFail {μ : StatePart → Bool} (h_slices : μ .slices = true) (h_irq : μ .irq = true) (h_pwr : μ .pwr = true) (h_out : μ .out = true) (d cause : Nat) (s : State) : view μ (markFail d cause s) = view μ s := by
  unfold markFail
  try dsimp only
  repeat' split
  all_goals (first | with_reducible rfl | (simp [h_slices, h_irq, h_pwr, h_out]; done))

@[simp] theorem view_wakeFails {μ : StatePart → Bool} (h_slices : μ .slices = true) (h_irq : μ .irq = true) (h_pwr : μ .pwr = true) (h_out : μ .out = true) (d cause : Nat) (s : State) : view μ (wakeFails d cause s) = view μ s := by
  unfold wakeFails
  try dsimp only
  repeat' split
  all_goals (first | with_reducible rfl | (simp [h_slices, h_irq, h_pwr, h_out]; done))

@[simp] theorem view_warmEntry {μ : StatePart → Bool} (h_mb : μ .mb = true) (h_boot : μ .boot = true) (h_adm : μ .adm = true) (h_quad : μ .quad = true) (h_bank0 : μ .bank0 = true) (h_bank1 : μ .bank1 = true) (h_tables : μ .tables = true) (h_ports : μ .ports = true) (h_slices : μ .slices = true) (h_buf : μ .buf = true) (h_tm : μ .tm = true) (h_cap : μ .cap = true) (h_eng : μ .eng = true) (h_time : μ .time = true) (h_otd : μ .otd = true) (h_sez : μ .sez = true) (h_hq : μ .hq = true) (h_dma : μ .dma = true) (h_irq : μ .irq = true) (h_pwr : μ .pwr = true) (h_badger : μ .badger = true) (h_ctr : μ .ctr = true) (h_out : μ .out = true) (h_fresh : μ .fresh = true) (s : State) : view μ (warmEntry s) = view μ s := by
  unfold warmEntry
  dsimp only
  rw [view_warmReset h_mb h_boot h_adm h_quad h_bank0 h_bank1 h_tables h_ports h_slices h_buf h_tm h_cap h_eng h_time h_otd h_sez h_hq h_dma h_irq h_pwr h_badger h_ctr h_out h_fresh]
  simp [h_mb, h_boot, h_adm, h_quad, h_bank0, h_bank1, h_tables, h_ports, h_slices, h_buf, h_tm, h_cap, h_eng, h_time, h_otd, h_sez, h_hq, h_dma, h_irq, h_pwr, h_badger, h_ctr, h_out, h_fresh]
  refine view_foldl _ (fun s r => view_foldl _ (fun s d => ?_) _ _) _ _
  simp [h_mb, h_boot, h_adm, h_quad, h_bank0, h_bank1, h_tables, h_ports, h_slices, h_buf, h_tm, h_cap, h_eng, h_time, h_otd, h_sez, h_hq, h_dma, h_irq, h_pwr, h_badger, h_ctr, h_out, h_fresh]

@[simp] theorem view_settleExit {μ : StatePart → Bool} (h_mb : μ .mb = true) (h_boot : μ .boot = true) (h_adm : μ .adm = true) (h_quad : μ .quad = true) (h_bank0 : μ .bank0 = true) (h_bank1 : μ .bank1 = true) (h_tables : μ .tables = true) (h_ports : μ .ports = true) (h_slices : μ .slices = true) (h_buf : μ .buf = true) (h_tm : μ .tm = true) (h_cap : μ .cap = true) (h_eng : μ .eng = true) (h_time : μ .time = true) (h_otd : μ .otd = true) (h_sez : μ .sez = true) (h_hq : μ .hq = true) (h_dma : μ .dma = true) (h_irq : μ .irq = true) (h_pwr : μ .pwr = true) (h_badger : μ .badger = true) (h_ctr : μ .ctr = true) (h_out : μ .out = true) (h_fresh : μ .fresh = true) (s : State) : view μ (settleExit s) = view μ s := by
  unfold settleExit
  try dsimp only
  repeat' split
  all_goals (first | with_reducible rfl | (simp [h_mb, h_boot, h_adm, h_quad, h_bank0, h_bank1, h_tables, h_ports, h_slices, h_buf, h_tm, h_cap, h_eng, h_time, h_otd, h_sez, h_hq, h_dma, h_irq, h_pwr, h_badger, h_ctr, h_out, h_fresh]; done))

@[simp] theorem view_closeSwitch {μ : StatePart → Bool} (h_pwr : μ .pwr = true) (d : Nat) (s : State) : view μ (closeSwitch d s) = view μ s := by
  unfold closeSwitch
  try dsimp only
  repeat' split
  all_goals (first | with_reducible rfl | (simp [h_pwr]; done))

@[simp] theorem view_leaveDoze {μ : StatePart → Bool} (h_slices : μ .slices = true) (h_irq : μ .irq = true) (h_pwr : μ .pwr = true) (h_out : μ .out = true) (d : Nat) (s : State) : view μ (leaveDoze d s) = view μ s := by
  unfold leaveDoze
  try dsimp only
  repeat' split
  all_goals (first | with_reducible rfl | (simp [h_slices, h_irq, h_pwr, h_out]; done))

@[simp] theorem view_leaveSleep {μ : StatePart → Bool} (h_slices : μ .slices = true) (h_otd : μ .otd = true) (h_irq : μ .irq = true) (h_pwr : μ .pwr = true) (h_out : μ .out = true) (d : Nat) (s : State) : view μ (leaveSleep d s) = view μ s := by
  unfold leaveSleep
  try dsimp only
  repeat' split
  all_goals (first | with_reducible rfl | (simp [h_slices, h_otd, h_irq, h_pwr, h_out]; done))

@[simp] theorem view_retryWorked {μ : StatePart → Bool} (h_mb : μ .mb = true) (h_adm : μ .adm = true) (h_time : μ .time = true) (h_otd : μ .otd = true) (h_hq : μ .hq = true) (h_dma : μ .dma = true) (h_irq : μ .irq = true) (h_pwr : μ .pwr = true) (h_ctr : μ .ctr = true) (h_hpt : μ .hpt = true) (h_out : μ .out = true) (h_fresh : μ .fresh = true) (d step : Nat) (s : State) : view μ (retryWorked d step s) = view μ s := by
  unfold retryWorked
  try dsimp only
  repeat' split
  all_goals (first | with_reducible rfl | (simp [h_mb, h_adm, h_time, h_otd, h_hq, h_dma, h_irq, h_pwr, h_ctr, h_hpt, h_out, h_fresh]; done))

@[simp] theorem view_exitPowered {μ : StatePart → Bool} (h_mb : μ .mb = true) (h_boot : μ .boot = true) (h_adm : μ .adm = true) (h_quad : μ .quad = true) (h_bank0 : μ .bank0 = true) (h_bank1 : μ .bank1 = true) (h_tables : μ .tables = true) (h_ports : μ .ports = true) (h_slices : μ .slices = true) (h_buf : μ .buf = true) (h_tm : μ .tm = true) (h_cap : μ .cap = true) (h_eng : μ .eng = true) (h_time : μ .time = true) (h_otd : μ .otd = true) (h_sez : μ .sez = true) (h_hq : μ .hq = true) (h_dma : μ .dma = true) (h_irq : μ .irq = true) (h_pwr : μ .pwr = true) (h_badger : μ .badger = true) (h_ctr : μ .ctr = true) (h_hpt : μ .hpt = true) (h_out : μ .out = true) (h_fresh : μ .fresh = true) (s : State) : view μ (exitPowered s) = view μ s := by
  unfold exitPowered
  try dsimp only
  repeat' split
  all_goals (first | with_reducible rfl | (simp [h_mb, h_boot, h_adm, h_quad, h_bank0, h_bank1, h_tables, h_ports, h_slices, h_buf, h_tm, h_cap, h_eng, h_time, h_otd, h_sez, h_hq, h_dma, h_irq, h_pwr, h_badger, h_ctr, h_hpt, h_out, h_fresh]; done))

@[simp] theorem view_leaveHibernate {μ : StatePart → Bool} (h_mb : μ .mb = true) (h_boot : μ .boot = true) (h_adm : μ .adm = true) (h_quad : μ .quad = true) (h_bank0 : μ .bank0 = true) (h_bank1 : μ .bank1 = true) (h_tables : μ .tables = true) (h_ports : μ .ports = true) (h_slices : μ .slices = true) (h_buf : μ .buf = true) (h_tm : μ .tm = true) (h_cap : μ .cap = true) (h_eng : μ .eng = true) (h_time : μ .time = true) (h_otd : μ .otd = true) (h_sez : μ .sez = true) (h_hq : μ .hq = true) (h_dma : μ .dma = true) (h_irq : μ .irq = true) (h_pwr : μ .pwr = true) (h_badger : μ .badger = true) (h_ctr : μ .ctr = true) (h_hpt : μ .hpt = true) (h_out : μ .out = true) (h_fresh : μ .fresh = true) (s : State) : view μ (leaveHibernate s) = view μ s := by
  unfold leaveHibernate
  try dsimp only
  repeat' split
  all_goals (first | with_reducible rfl | (simp [h_mb, h_boot, h_adm, h_quad, h_bank0, h_bank1, h_tables, h_ports, h_slices, h_buf, h_tm, h_cap, h_eng, h_time, h_otd, h_sez, h_hq, h_dma, h_irq, h_pwr, h_badger, h_ctr, h_hpt, h_out, h_fresh]; done))

@[simp] theorem view_pllLost {μ : StatePart → Bool} (h_pwr : μ .pwr = true) (k : Nat) (onB : Bool) (s : State) : view μ (pllLost k onB s) = view μ s := by
  unfold pllLost
  try dsimp only
  repeat' split
  all_goals (first | with_reducible rfl | (simp [h_pwr]; done))

@[simp] theorem view_pllTimeout {μ : StatePart → Bool} (h_mb : μ .mb = true) (h_boot : μ .boot = true) (h_adm : μ .adm = true) (h_quad : μ .quad = true) (h_bank0 : μ .bank0 = true) (h_bank1 : μ .bank1 = true) (h_tables : μ .tables = true) (h_ports : μ .ports = true) (h_slices : μ .slices = true) (h_buf : μ .buf = true) (h_tm : μ .tm = true) (h_cap : μ .cap = true) (h_eng : μ .eng = true) (h_time : μ .time = true) (h_otd : μ .otd = true) (h_sez : μ .sez = true) (h_hq : μ .hq = true) (h_dma : μ .dma = true) (h_irq : μ .irq = true) (h_pwr : μ .pwr = true) (h_badger : μ .badger = true) (h_ctr : μ .ctr = true) (h_out : μ .out = true) (h_fresh : μ .fresh = true) (d : Nat) (retry : Bool) (s : State) : view μ (pllTimeout d retry s) = view μ s := by
  unfold pllTimeout
  try dsimp only
  repeat' split
  all_goals (first | with_reducible rfl | (simp [h_mb, h_boot, h_adm, h_quad, h_bank0, h_bank1, h_tables, h_ports, h_slices, h_buf, h_tm, h_cap, h_eng, h_time, h_otd, h_sez, h_hq, h_dma, h_irq, h_pwr, h_badger, h_ctr, h_out, h_fresh]; done))

@[simp] theorem view_regFails {μ : StatePart → Bool} (h_slices : μ .slices = true) (h_irq : μ .irq = true) (h_pwr : μ .pwr = true) (h_out : μ .out = true) (s : State) : view μ (regFails s) = view μ s := by
  unfold regFails
  try dsimp only
  repeat' split
  all_goals (first | with_reducible rfl | (simp [h_slices, h_irq, h_pwr, h_out]; done))

@[simp] theorem view_cutEntries {μ : StatePart → Bool} (h_irq : μ .irq = true) (h_pwr : μ .pwr = true) (h_out : μ .out = true) (s : State) : view μ (cutEntries s) = view μ s := by
  unfold cutEntries
  try dsimp only
  repeat' split
  all_goals (first | with_reducible rfl | (simp [h_irq, h_pwr, h_out]; done))

@[simp] theorem view_causeWake {μ : StatePart → Bool} (h_pwr : μ .pwr = true) (d : Nat) (s : State) : view μ (causeWake d s) = view μ s := by
  unfold causeWake
  try dsimp only
  repeat' split
  all_goals (first | with_reducible rfl | (simp [h_pwr]; done))

@[simp] theorem view_cycleDone {μ : StatePart → Bool} (h_irq : μ .irq = true) (h_pwr : μ .pwr = true) (h_badger : μ .badger = true) (h_out : μ .out = true) (s : State) : view μ (cycleDone s) = view μ s := by
  unfold cycleDone
  try dsimp only
  repeat' split
  all_goals (first | with_reducible rfl | (simp [h_irq, h_pwr, h_badger, h_out]; done))

@[simp] theorem view_testDone {μ : StatePart → Bool} (h_irq : μ .irq = true) (h_pwr : μ .pwr = true) (h_badger : μ .badger = true) (h_ctr : μ .ctr = true) (h_out : μ .out = true) (u result corrected : Nat) (s : State) : view μ (testDone u result corrected s) = view μ s := by
  unfold testDone
  try dsimp only
  repeat' split
  all_goals (first | with_reducible rfl | (simp [h_irq, h_pwr, h_badger, h_ctr, h_out]; done))

@[simp] theorem view_testFault {μ : StatePart → Bool} (h_tables : μ .tables = true) (h_ports : μ .ports = true) (h_slices : μ .slices = true) (h_buf : μ .buf = true) (h_tm : μ .tm = true) (h_flows : μ .flows = true) (h_cap : μ .cap = true) (h_eng : μ .eng = true) (h_time : μ .time = true) (h_otd : μ .otd = true) (h_sez : μ .sez = true) (h_hq : μ .hq = true) (h_irq : μ .irq = true) (h_pwr : μ .pwr = true) (h_badger : μ .badger = true) (h_ctr : μ .ctr = true) (h_out : μ .out = true) (h_fresh : μ .fresh = true) (u : Nat) (s : State) : view μ (testFault u s) = view μ s := by
  unfold testFault
  try dsimp only
  repeat' split
  all_goals (first | with_reducible rfl | (simp [h_tables, h_ports, h_slices, h_buf, h_tm, h_flows, h_cap, h_eng, h_time, h_otd, h_sez, h_hq, h_irq, h_pwr, h_badger, h_ctr, h_out, h_fresh]; done))

@[simp] theorem view_restoreUnit {μ : StatePart → Bool} (h_slices : μ .slices = true) (h_buf : μ .buf = true) (h_flows : μ .flows = true) (h_eng : μ .eng = true) (h_irq : μ .irq = true) (h_pwr : μ .pwr = true) (h_badger : μ .badger = true) (h_out : μ .out = true) (u : Nat) (s : State) : view μ (restoreUnit u s) = view μ s := by
  unfold restoreUnit
  try dsimp only
  repeat' split
  all_goals (first | with_reducible rfl | (simp [h_slices, h_buf, h_flows, h_eng, h_irq, h_pwr, h_badger, h_out]; done))

@[simp] theorem view_loseLine {μ : StatePart → Bool} (h_tables : μ .tables = true) (h_irq : μ .irq = true) (h_pwr : μ .pwr = true) (h_badger : μ .badger = true) (h_out : μ .out = true) (u owner : Nat) (s : State) (x : LostLine) : view μ (loseLine u owner s x) = view μ s := by
  unfold loseLine
  try dsimp only
  repeat' split
  all_goals (first | with_reducible rfl | (simp [h_tables, h_irq, h_pwr, h_badger, h_out]; done))

@[simp] theorem view_sezLeave {μ : StatePart → Bool} (h_bank0 : μ .bank0 = true) (h_bank1 : μ .bank1 = true) (h_ports : μ .ports = true) (h_time : μ .time = true) (h_sez : μ .sez = true) (h_irq : μ .irq = true) (h_pwr : μ .pwr = true) (h_ctr : μ .ctr = true) (h_out : μ .out = true) (s : State) : view μ (sezLeave s) = view μ s := by
  unfold sezLeave
  try dsimp only
  repeat' split
  all_goals (first | with_reducible rfl | (simp [h_bank0, h_bank1, h_ports, h_time, h_sez, h_irq, h_pwr, h_ctr, h_out]; done))

@[simp] theorem view_takeInbox {μ : StatePart → Bool} (h_sez : μ .sez = true) (p : Nat) (d : List Byte) (s : State) : view μ (takeInbox p d s) = view μ s := by
  unfold takeInbox
  try dsimp only
  repeat' split
  all_goals (first | with_reducible rfl | (simp [h_sez]; done))

@[simp] theorem view_receiveCtl {μ : StatePart → Bool} (h_sez : μ .sez = true) (h_ctr : μ .ctr = true) (msg p : Nat) (d : List Byte) (eff : CtlMsg → State → State) (h : ∀ m s, view μ (eff m s) = view μ s) (s : State) : view μ (receiveCtl msg p d eff s) = view μ s := by
  unfold receiveCtl
  dsimp only
  repeat' split
  all_goals simp [h_sez, h_ctr, h]

@[simp] theorem view_noteSeen {μ : StatePart → Bool} (h_sez : μ .sez = true) (m : CtlMsg) (s : State) : view μ (noteSeen m s) = view μ s := by
  unfold noteSeen
  try dsimp only
  repeat' split
  all_goals (first | with_reducible rfl | (simp [h_sez]; done))

@[simp] theorem view_receiveFlood {μ : StatePart → Bool} (h_ports : μ .ports = true) (h_sez : μ .sez = true) (h_ctr : μ .ctr = true) (msg p : Nat) (d : List Byte) (eff : CtlMsg → State → State) (h : ∀ m s, view μ (eff m s) = view μ s) (s : State) : view μ (receiveFlood msg p d eff s) = view μ s := by
  unfold receiveFlood
  exact view_receiveCtl h_sez h_ctr _ _ _ _ (fun m s => by split <;> simp [h_ports, h_sez, h_ctr, h]) s

@[simp] theorem view_setConflict {μ : StatePart → Bool} (h_sez : μ .sez = true) (h_irq : μ .irq = true) (h_pwr : μ .pwr = true) (h_out : μ .out = true) (on : Bool) (s : State) : view μ (setConflict on s) = view μ s := by
  unfold setConflict
  try dsimp only
  repeat' split
  all_goals (first | with_reducible rfl | (simp [h_sez, h_irq, h_pwr, h_out]; done))

@[simp] theorem view_keepMember {μ : StatePart → Bool} (h_sez : μ .sez = true) (h_irq : μ .irq = true) (h_pwr : μ .pwr = true) (h_out : μ .out = true) (i : Nat) (m : Member) (s : State) : view μ (keepMember i m s) = view μ s := by
  unfold keepMember
  try dsimp only
  repeat' split
  all_goals (first | with_reducible rfl | (simp [h_sez, h_irq, h_pwr, h_out]; done))

@[simp] theorem view_forgetMember {μ : StatePart → Bool} (h_time : μ .time = true) (h_sez : μ .sez = true) (h_irq : μ .irq = true) (h_pwr : μ .pwr = true) (h_out : μ .out = true) (i : Nat) (record rival : Bool) (s : State) : view μ (forgetMember i record rival s) = view μ s := by
  unfold forgetMember
  try dsimp only
  repeat' split
  all_goals (first | with_reducible rfl | (simp [h_time, h_sez, h_irq, h_pwr, h_out]; done))

@[simp] theorem view_servoActs {μ : StatePart → Bool} (h_time : μ .time = true) (h_otd : μ .otd = true) (h_ctr : μ .ctr = true) (upValid : Bool) (offset : Int) (s : State) : view μ (servoActs upValid offset s) = view μ s := by
  unfold servoActs
  try dsimp only
  repeat' split
  all_goals (first | with_reducible rfl | (simp [h_time, h_otd, h_ctr]; done))

@[simp] theorem view_servoSynt {μ : StatePart → Bool} (h_time : μ .time = true) (h_fresh : μ .fresh = true) (s : State) : view μ (servoSynt s) = view μ s := by
  unfold servoSynt
  try dsimp only
  repeat' split
  all_goals (first | with_reducible rfl | (simp [h_time, h_fresh]; done))

@[simp] theorem view_takeOffset {μ : StatePart → Bool} (h_time : μ .time = true) (h_otd : μ .otd = true) (h_sez : μ .sez = true) (h_irq : μ .irq = true) (h_pwr : μ .pwr = true) (h_ctr : μ .ctr = true) (h_out : μ .out = true) (h_fresh : μ .fresh = true) (upValid : Bool) (offset : Int) (s : State) : view μ (takeOffset upValid offset s) = view μ s := by
  unfold takeOffset
  try dsimp only
  repeat' split
  all_goals (first | with_reducible rfl | (simp [h_time, h_otd, h_sez, h_irq, h_pwr, h_ctr, h_out, h_fresh]; done))

@[simp] theorem view_settleSet {μ : StatePart → Bool} (h_quad : μ .quad = true) (h_bank0 : μ .bank0 = true) (h_bank1 : μ .bank1 = true) (h_tables : μ .tables = true) (h_sez : μ .sez = true) (h_irq : μ .irq = true) (h_pwr : μ .pwr = true) (h_out : μ .out = true) (set result culprit : Nat) (s : State) : view μ (settleSet set result culprit s) = view μ s := by
  unfold settleSet
  try dsimp only
  repeat' split
  all_goals (first | with_reducible rfl | (simp [h_quad, h_bank0, h_bank1, h_tables, h_sez, h_irq, h_pwr, h_out]; done))

@[simp] theorem view_decideSet {μ : StatePart → Bool} (h_quad : μ .quad = true) (h_bank0 : μ .bank0 = true) (h_bank1 : μ .bank1 = true) (h_tables : μ .tables = true) (h_ports : μ .ports = true) (h_sez : μ .sez = true) (h_irq : μ .irq = true) (h_pwr : μ .pwr = true) (h_ctr : μ .ctr = true) (h_out : μ .out = true) (c : Coord) (result culprit : Nat) (s : State) : view μ (decideSet c result culprit s) = view μ s := by
  unfold decideSet
  try dsimp only
  repeat' split
  all_goals (first | with_reducible rfl | (simp [h_quad, h_bank0, h_bank1, h_tables, h_ports, h_sez, h_irq, h_pwr, h_ctr, h_out]; done))

@[simp] theorem view_tryCommit {μ : StatePart → Bool} (h_quad : μ .quad = true) (h_bank0 : μ .bank0 = true) (h_bank1 : μ .bank1 = true) (h_tables : μ .tables = true) (h_ports : μ .ports = true) (h_sez : μ .sez = true) (h_irq : μ .irq = true) (h_pwr : μ .pwr = true) (h_ctr : μ .ctr = true) (h_out : μ .out = true) (c : Coord) (s : State) : view μ (tryCommit c s) = view μ s := by
  unfold tryCommit
  try dsimp only
  repeat' split
  all_goals (first | with_reducible rfl | (simp [h_quad, h_bank0, h_bank1, h_tables, h_ports, h_sez, h_irq, h_pwr, h_ctr, h_out]; done))

@[simp] theorem view_sendVote {μ : StatePart → Bool} (h_ports : μ .ports = true) (h_sez : μ .sez = true) (h_ctr : μ .ctr = true) (v : Voting) (s : State) : view μ (sendVote v s) = view μ s := by
  unfold sendVote
  try dsimp only
  repeat' split
  all_goals (first | with_reducible rfl | (simp [h_ports, h_sez, h_ctr]; done))

@[simp] theorem view_backInStep {μ : StatePart → Bool} (h_sez : μ .sez = true) (s : State) : view μ (backInStep s) = view μ s := by
  unfold backInStep
  try dsimp only
  repeat' split
  all_goals (first | with_reducible rfl | (simp [h_sez]; done))

@[simp] theorem view_settleApplied {μ : StatePart → Bool} (h_mb : μ .mb = true) (h_adm : μ .adm = true) (h_quad : μ .quad = true) (h_otd : μ .otd = true) (h_sez : μ .sez = true) (h_hq : μ .hq = true) (h_out : μ .out = true) (e : Env) (id : Nat) (s : State) : view μ (settleApplied e id s) = view μ s := by
  unfold settleApplied
  try dsimp only
  repeat' split
  all_goals (first | with_reducible rfl | (simp [h_mb, h_adm, h_quad, h_otd, h_sez, h_hq, h_out]; done))

@[simp] theorem view_settleDiscarded {μ : StatePart → Bool} (h_mb : μ .mb = true) (h_adm : μ .adm = true) (h_quad : μ .quad = true) (h_bank0 : μ .bank0 = true) (h_bank1 : μ .bank1 = true) (h_tables : μ .tables = true) (h_otd : μ .otd = true) (h_sez : μ .sez = true) (h_hq : μ .hq = true) (h_irq : μ .irq = true) (h_pwr : μ .pwr = true) (h_out : μ .out = true) (e : Env) (id : Nat) (s : State) : view μ (settleDiscarded e id s) = view μ s := by
  unfold settleDiscarded
  try dsimp only
  repeat' split
  all_goals (first | with_reducible rfl | (simp [h_mb, h_adm, h_quad, h_bank0, h_bank1, h_tables, h_otd, h_sez, h_hq, h_irq, h_pwr, h_out]; done))

@[simp] theorem view_askReset {μ : StatePart → Bool} (h_mb : μ .mb = true) (h_boot : μ .boot = true) (h_adm : μ .adm = true) (h_otd : μ .otd = true) (h_hq : μ .hq = true) (h_out : μ .out = true) (k op : Nat) (e : Env) (s : State) : view μ (askReset k op e s) = view μ s := by
  unfold askReset
  try dsimp only
  repeat' split
  all_goals (first | with_reducible rfl | (simp [h_mb, h_boot, h_adm, h_otd, h_hq, h_out]; done))

@[simp] theorem view_mailboxUnknown {μ : StatePart → Bool} (h_mb : μ .mb = true) (h_adm : μ .adm = true) (h_otd : μ .otd = true) (h_hq : μ .hq = true) (h_out : μ .out = true) (s : State) : view μ (mailboxUnknown s) = view μ s := by
  unfold mailboxUnknown
  repeat' split
  all_goals first
    | with_reducible rfl
    | exact view_ifTurn  _ _ (fun s => by simp [h_mb, h_adm, h_otd, h_hq, h_out]) _

@[simp] theorem view_otdUnknown {μ : StatePart → Bool} (h_mb : μ .mb = true) (h_adm : μ .adm = true) (h_otd : μ .otd = true) (h_hq : μ .hq = true) (h_out : μ .out = true) (s : State) : view μ (otdUnknown s) = view μ s := by
  unfold otdUnknown
  try dsimp only
  repeat' split
  all_goals (first | with_reducible rfl | (simp [h_mb, h_adm, h_otd, h_hq, h_out]; done))

@[simp] theorem view_rewriteAdmin {μ : StatePart → Bool} (h_out : μ .out = true) (s : State) : view μ (rewriteAdmin s) = view μ s := by
  unfold rewriteAdmin
  try dsimp only
  repeat' split
  all_goals (first | with_reducible rfl | (simp [h_out]; done))

end Sys2Proof.Machine
end

