-- ==== Sys2Proof/Laws/FramesExec.lean ====
section
/-! SUPPORT. Frames of the meanings: for every command, the parts of the state that it alone may change. -/

namespace Sys2Proof.Machine

theorem view_execGateListSet {μ : StatePart → Bool} (h_mb : μ .mb = true) (h_adm : μ .adm = true) (h_quad : μ .quad = true) (h_bank0 : μ .bank0 = true) (h_bank1 : μ .bank1 = true) (h_ports : μ .ports = true) (h_slices : μ .slices = true) (h_buf : μ .buf = true) (h_tm : μ .tm = true) (h_gate : μ .gate = true) (h_flows : μ .flows = true) (h_cap : μ .cap = true) (h_otd : μ .otd = true) (h_hq : μ .hq = true) (h_irq : μ .irq = true) (h_pwr : μ .pwr = true) (h_ctr : μ .ctr = true) (h_out : μ .out = true) (h_fresh : μ .fresh = true) (e : Env) (s : State) {t : State} (h : execGateListSet e s = .next t) : view μ t = view μ s := by
  simp only [execGateListSet, Host.Outcome.next.injEq] at h
  subst h
  refine view_runStagedV h_mb h_adm h_quad h_bank0 h_bank1 h_ports h_slices h_buf h_tm h_gate h_flows h_cap h_otd h_hq h_irq h_pwr h_ctr h_out h_fresh _ _ _ _ _ _ _ _ _ _ (fun _ => rfl) (fun s => ?_) _
  try dsimp only
  repeat' split
  all_goals (first | with_reducible rfl | (simp [h_mb, h_adm, h_quad, h_bank0, h_bank1, h_ports, h_slices, h_buf, h_tm, h_gate, h_flows, h_cap, h_otd, h_hq, h_irq, h_pwr, h_ctr, h_out, h_fresh]; done))

theorem view_execGateEnableOn {μ : StatePart → Bool} (h_mb : μ .mb = true) (h_adm : μ .adm = true) (h_quad : μ .quad = true) (h_bank0 : μ .bank0 = true) (h_bank1 : μ .bank1 = true) (h_ports : μ .ports = true) (h_slices : μ .slices = true) (h_buf : μ .buf = true) (h_tm : μ .tm = true) (h_gate : μ .gate = true) (h_flows : μ .flows = true) (h_cap : μ .cap = true) (h_otd : μ .otd = true) (h_hq : μ .hq = true) (h_irq : μ .irq = true) (h_pwr : μ .pwr = true) (h_ctr : μ .ctr = true) (h_out : μ .out = true) (h_fresh : μ .fresh = true) (e : Env) (s : State) {t : State} (h : execGateEnableOn e s = .next t) : view μ t = view μ s := by
  simp only [execGateEnableOn, Host.Outcome.next.injEq] at h
  subst h
  refine view_runStagedV h_mb h_adm h_quad h_bank0 h_bank1 h_ports h_slices h_buf h_tm h_gate h_flows h_cap h_otd h_hq h_irq h_pwr h_ctr h_out h_fresh _ _ _ _ _ _ _ _ _ _ (fun _ => rfl) (fun s => ?_) _
  try dsimp only
  repeat' split
  all_goals (first | with_reducible rfl | (simp [h_mb, h_adm, h_quad, h_bank0, h_bank1, h_ports, h_slices, h_buf, h_tm, h_gate, h_flows, h_cap, h_otd, h_hq, h_irq, h_pwr, h_ctr, h_out, h_fresh]; done))

theorem view_execGateEnableOff {μ : StatePart → Bool} (h_mb : μ .mb = true) (h_adm : μ .adm = true) (h_quad : μ .quad = true) (h_bank0 : μ .bank0 = true) (h_bank1 : μ .bank1 = true) (h_ports : μ .ports = true) (h_slices : μ .slices = true) (h_buf : μ .buf = true) (h_tm : μ .tm = true) (h_gate : μ .gate = true) (h_flows : μ .flows = true) (h_cap : μ .cap = true) (h_otd : μ .otd = true) (h_hq : μ .hq = true) (h_irq : μ .irq = true) (h_pwr : μ .pwr = true) (h_ctr : μ .ctr = true) (h_out : μ .out = true) (h_fresh : μ .fresh = true) (e : Env) (s : State) {t : State} (h : execGateEnableOff e s = .next t) : view μ t = view μ s := by
  simp only [execGateEnableOff, Host.Outcome.next.injEq] at h
  subst h
  repeat' split
  all_goals (first | with_reducible rfl | (simp [h_mb, h_adm, h_quad, h_bank0, h_bank1, h_ports, h_slices, h_buf, h_tm, h_gate, h_flows, h_cap, h_otd, h_hq, h_irq, h_pwr, h_ctr, h_out, h_fresh]; done))

theorem view_execGateStatus {μ : StatePart → Bool} (h_mb : μ .mb = true) (h_adm : μ .adm = true) (h_otd : μ .otd = true) (h_hq : μ .hq = true) (h_ctr : μ .ctr = true) (h_out : μ .out = true) (e : Env) (s : State) {t : State} (h : execGateStatus e s = .next t) : view μ t = view μ s := by
  simp only [execGateStatus, Host.Outcome.next.injEq] at h
  subst h
  repeat' split
  all_goals (first | with_reducible rfl | (simp [h_mb, h_adm, h_otd, h_hq, h_ctr, h_out]; done))

theorem view_execGateOverheadSet {μ : StatePart → Bool} (h_mb : μ .mb = true) (h_adm : μ .adm = true) (h_quad : μ .quad = true) (h_bank0 : μ .bank0 = true) (h_bank1 : μ .bank1 = true) (h_ports : μ .ports = true) (h_slices : μ .slices = true) (h_buf : μ .buf = true) (h_tm : μ .tm = true) (h_gate : μ .gate = true) (h_flows : μ .flows = true) (h_cap : μ .cap = true) (h_otd : μ .otd = true) (h_hq : μ .hq = true) (h_irq : μ .irq = true) (h_pwr : μ .pwr = true) (h_ctr : μ .ctr = true) (h_out : μ .out = true) (h_fresh : μ .fresh = true) (e : Env) (s : State) {t : State} (h : execGateOverheadSet e s = .next t) : view μ t = view μ s := by
  simp only [execGateOverheadSet, Host.Outcome.next.injEq] at h
  subst h
  repeat' split
  all_goals (first | with_reducible rfl | (simp [h_mb, h_adm, h_quad, h_bank0, h_bank1, h_ports, h_slices, h_buf, h_tm, h_gate, h_flows, h_cap, h_otd, h_hq, h_irq, h_pwr, h_ctr, h_out, h_fresh]; done))

theorem view_execGateListStart {μ : StatePart → Bool} (h_ports : μ .ports = true) (h_tm : μ .tm = true) (h_gate : μ .gate = true) (h_ctr : μ .ctr = true) (p : Nat) (s : State) {t : State} (h : execGateListStart p s = .next t) : view μ t = view μ s := by
  unfold execGateListStart at h
  try dsimp only at h
  repeat' split at h
  all_goals
    simp only [Host.Outcome.next.injEq] at h
    subst h
    first | with_reducible rfl | (simp [h_ports, h_tm, h_gate, h_ctr]; done) | (repeat' split) <;> simp [h_ports, h_tm, h_gate, h_ctr]

theorem view_execGateEntry {μ : StatePart → Bool} (h_ports : μ .ports = true) (h_gate : μ .gate = true) (h_ctr : μ .ctr = true) (p : Nat) (s : State) {t : State} (h : execGateEntry p s = .next t) : view μ t = view μ s := by
  unfold execGateEntry at h
  try dsimp only at h
  repeat' split at h
  all_goals
    simp only [Host.Outcome.next.injEq] at h
    subst h
    first | with_reducible rfl | (simp [h_ports, h_gate, h_ctr]; done) | (repeat' split) <;> simp [h_ports, h_gate, h_ctr]

theorem view_execHoldAssert {μ : StatePart → Bool} (h_ports : μ .ports = true) (h_gate : μ .gate = true) (h_ctr : μ .ctr = true) (p : Nat) (s : State) {t : State} (h : execHoldAssert p s = .next t) : view μ t = view μ s := by
  simp only [execHoldAssert, Host.Outcome.next.injEq] at h
  subst h
  repeat' split
  all_goals (first | with_reducible rfl | (simp [h_ports, h_gate, h_ctr]; done))

theorem view_execPoolCreate {μ : StatePart → Bool} (h_mb : μ .mb = true) (h_adm : μ .adm = true) (h_buf : μ .buf = true) (h_otd : μ .otd = true) (h_hq : μ .hq = true) (h_out : μ .out = true) (h_fresh : μ .fresh = true) (e : Env) (s : State) {t : State} (h : execPoolCreate e s = .next t) : view μ t = view μ s := by
  simp only [execPoolCreate, Host.Outcome.next.injEq] at h
  subst h
  repeat' split
  all_goals (first | with_reducible rfl | (simp [h_mb, h_adm, h_buf, h_otd, h_hq, h_out, h_fresh]; done))

theorem view_execPoolDelete {μ : StatePart → Bool} (h_mb : μ .mb = true) (h_adm : μ .adm = true) (h_buf : μ .buf = true) (h_otd : μ .otd = true) (h_hq : μ .hq = true) (h_out : μ .out = true) (e : Env) (s : State) {t : State} (h : execPoolDelete e s = .next t) : view μ t = view μ s := by
  simp only [execPoolDelete, Host.Outcome.next.injEq] at h
  subst h
  repeat' split
  all_goals (first | with_reducible rfl | (simp [h_mb, h_adm, h_buf, h_otd, h_hq, h_out]; done))

theorem view_execFlowMinSet {μ : StatePart → Bool} (h_mb : μ .mb = true) (h_adm : μ .adm = true) (h_quad : μ .quad = true) (h_bank0 : μ .bank0 = true) (h_bank1 : μ .bank1 = true) (h_ports : μ .ports = true) (h_slices : μ .slices = true) (h_buf : μ .buf = true) (h_tm : μ .tm = true) (h_gate : μ .gate = true) (h_flows : μ .flows = true) (h_cap : μ .cap = true) (h_otd : μ .otd = true) (h_hq : μ .hq = true) (h_irq : μ .irq = true) (h_pwr : μ .pwr = true) (h_ctr : μ .ctr = true) (h_out : μ .out = true) (h_fresh : μ .fresh = true) (e : Env) (s : State) {t : State} (h : execFlowMinSet e s = .next t) : view μ t = view μ s := by
  simp only [execFlowMinSet, Host.Outcome.next.injEq] at h
  subst h
  repeat' split
  all_goals (first | with_reducible rfl | (simp [h_mb, h_adm, h_quad, h_bank0, h_bank1, h_ports, h_slices, h_buf, h_tm, h_gate, h_flows, h_cap, h_otd, h_hq, h_irq, h_pwr, h_ctr, h_out, h_fresh]; done))

theorem view_execSharedLimitSet {μ : StatePart → Bool} (h_mb : μ .mb = true) (h_adm : μ .adm = true) (h_quad : μ .quad = true) (h_bank0 : μ .bank0 = true) (h_bank1 : μ .bank1 = true) (h_ports : μ .ports = true) (h_slices : μ .slices = true) (h_buf : μ .buf = true) (h_tm : μ .tm = true) (h_gate : μ .gate = true) (h_flows : μ .flows = true) (h_cap : μ .cap = true) (h_otd : μ .otd = true) (h_hq : μ .hq = true) (h_irq : μ .irq = true) (h_pwr : μ .pwr = true) (h_ctr : μ .ctr = true) (h_out : μ .out = true) (h_fresh : μ .fresh = true) (e : Env) (s : State) {t : State} (h : execSharedLimitSet e s = .next t) : view μ t = view μ s := by
  simp only [execSharedLimitSet, Host.Outcome.next.injEq] at h
  subst h
  repeat' split
  all_goals (first | with_reducible rfl | (simp [h_mb, h_adm, h_quad, h_bank0, h_bank1, h_ports, h_slices, h_buf, h_tm, h_gate, h_flows, h_cap, h_otd, h_hq, h_irq, h_pwr, h_ctr, h_out, h_fresh]; done))

theorem view_execBufStatus {μ : StatePart → Bool} (h_mb : μ .mb = true) (h_adm : μ .adm = true) (h_otd : μ .otd = true) (h_hq : μ .hq = true) (h_ctr : μ .ctr = true) (h_out : μ .out = true) (e : Env) (s : State) {t : State} (h : execBufStatus e s = .next t) : view μ t = view μ s := by
  simp only [execBufStatus, Host.Outcome.next.injEq] at h
  subst h
  repeat' split
  all_goals (first | with_reducible rfl | (simp [h_mb, h_adm, h_otd, h_hq, h_ctr, h_out]; done))

theorem view_execCutThroughSet {μ : StatePart → Bool} (h_mb : μ .mb = true) (h_adm : μ .adm = true) (h_quad : μ .quad = true) (h_bank0 : μ .bank0 = true) (h_bank1 : μ .bank1 = true) (h_ports : μ .ports = true) (h_slices : μ .slices = true) (h_buf : μ .buf = true) (h_tm : μ .tm = true) (h_gate : μ .gate = true) (h_flows : μ .flows = true) (h_cap : μ .cap = true) (h_otd : μ .otd = true) (h_hq : μ .hq = true) (h_irq : μ .irq = true) (h_pwr : μ .pwr = true) (h_ctr : μ .ctr = true) (h_out : μ .out = true) (h_fresh : μ .fresh = true) (e : Env) (s : State) {t : State} (h : execCutThroughSet e s = .next t) : view μ t = view μ s := by
  simp only [execCutThroughSet, Host.Outcome.next.injEq] at h
  subst h
  repeat' split
  all_goals (first | with_reducible rfl | (simp [h_mb, h_adm, h_quad, h_bank0, h_bank1, h_ports, h_slices, h_buf, h_tm, h_gate, h_flows, h_cap, h_otd, h_hq, h_irq, h_pwr, h_ctr, h_out, h_fresh]; done))

theorem view_execVlanSetVlan {μ : StatePart → Bool} (h_mb : μ .mb = true) (h_adm : μ .adm = true) (h_quad : μ .quad = true) (h_bank0 : μ .bank0 = true) (h_bank1 : μ .bank1 = true) (h_ports : μ .ports = true) (h_slices : μ .slices = true) (h_buf : μ .buf = true) (h_tm : μ .tm = true) (h_gate : μ .gate = true) (h_flows : μ .flows = true) (h_cap : μ .cap = true) (h_otd : μ .otd = true) (h_hq : μ .hq = true) (h_irq : μ .irq = true) (h_pwr : μ .pwr = true) (h_ctr : μ .ctr = true) (h_out : μ .out = true) (h_fresh : μ .fresh = true) (e : Env) (s : State) {t : State} (h : execVlanSetVlan e s = .next t) : view μ t = view μ s := by
  simp only [execVlanSetVlan, Host.Outcome.next.injEq] at h
  subst h
  repeat' split
  all_goals (first | with_reducible rfl | (simp [h_mb, h_adm, h_quad, h_bank0, h_bank1, h_ports, h_slices, h_buf, h_tm, h_gate, h_flows, h_cap, h_otd, h_hq, h_irq, h_pwr, h_ctr, h_out, h_fresh]; done))

theorem view_execVlanSetPort {μ : StatePart → Bool} (h_mb : μ .mb = true) (h_adm : μ .adm = true) (h_quad : μ .quad = true) (h_bank0 : μ .bank0 = true) (h_bank1 : μ .bank1 = true) (h_ports : μ .ports = true) (h_slices : μ .slices = true) (h_buf : μ .buf = true) (h_tm : μ .tm = true) (h_gate : μ .gate = true) (h_flows : μ .flows = true) (h_cap : μ .cap = true) (h_otd : μ .otd = true) (h_hq : μ .hq = true) (h_irq : μ .irq = true) (h_pwr : μ .pwr = true) (h_ctr : μ .ctr = true) (h_out : μ .out = true) (h_fresh : μ .fresh = true) (e : Env) (s : State) {t : State} (h : execVlanSetPort e s = .next t) : view μ t = view μ s := by
  simp only [execVlanSetPort, Host.Outcome.next.injEq] at h
  subst h
  repeat' split
  all_goals (first | with_reducible rfl | (simp [h_mb, h_adm, h_quad, h_bank0, h_bank1, h_ports, h_slices, h_buf, h_tm, h_gate, h_flows, h_cap, h_otd, h_hq, h_irq, h_pwr, h_ctr, h_out, h_fresh]; done))

theorem view_execMacAdd {μ : StatePart → Bool} (h_mb : μ .mb = true) (h_adm : μ .adm = true) (h_quad : μ .quad = true) (h_bank0 : μ .bank0 = true) (h_bank1 : μ .bank1 = true) (h_tables : μ .tables = true) (h_ports : μ .ports = true) (h_slices : μ .slices = true) (h_buf : μ .buf = true) (h_tm : μ .tm = true) (h_gate : μ .gate = true) (h_flows : μ .flows = true) (h_cap : μ .cap = true) (h_otd : μ .otd = true) (h_hq : μ .hq = true) (h_irq : μ .irq = true) (h_pwr : μ .pwr = true) (h_ctr : μ .ctr = true) (h_out : μ .out = true) (h_fresh : μ .fresh = true) (e : Env) (s : State) {t : State} (h : execMacAdd e s = .next t) : view μ t = view μ s := by
  simp only [execMacAdd, Host.Outcome.next.injEq] at h
  subst h
  repeat' split
  all_goals (first | with_reducible rfl | (simp [h_mb, h_adm, h_quad, h_bank0, h_bank1, h_tables, h_ports, h_slices, h_buf, h_tm, h_gate, h_flows, h_cap, h_otd, h_hq, h_irq, h_pwr, h_ctr, h_out, h_fresh]; done))

theorem view_execMacDelete {μ : StatePart → Bool} (h_mb : μ .mb = true) (h_adm : μ .adm = true) (h_quad : μ .quad = true) (h_bank0 : μ .bank0 = true) (h_bank1 : μ .bank1 = true) (h_tables : μ .tables = true) (h_ports : μ .ports = true) (h_slices : μ .slices = true) (h_buf : μ .buf = true) (h_tm : μ .tm = true) (h_gate : μ .gate = true) (h_flows : μ .flows = true) (h_cap : μ .cap = true) (h_otd : μ .otd = true) (h_hq : μ .hq = true) (h_irq : μ .irq = true) (h_pwr : μ .pwr = true) (h_ctr : μ .ctr = true) (h_out : μ .out = true) (h_fresh : μ .fresh = true) (e : Env) (s : State) {t : State} (h : execMacDelete e s = .next t) : view μ t = view μ s := by
  simp only [execMacDelete, Host.Outcome.next.injEq] at h
  subst h
  repeat' split
  all_goals (first | with_reducible rfl | (simp [h_mb, h_adm, h_quad, h_bank0, h_bank1, h_tables, h_ports, h_slices, h_buf, h_tm, h_gate, h_flows, h_cap, h_otd, h_hq, h_irq, h_pwr, h_ctr, h_out, h_fresh]; done))

theorem view_execMacFlush {μ : StatePart → Bool} (h_mb : μ .mb = true) (h_adm : μ .adm = true) (h_tables : μ .tables = true) (h_otd : μ .otd = true) (h_hq : μ .hq = true) (h_irq : μ .irq = true) (h_pwr : μ .pwr = true) (h_ctr : μ .ctr = true) (h_out : μ .out = true) (h_fresh : μ .fresh = true) (e : Env) (s : State) {t : State} (h : execMacFlush e s = .next t) : view μ t = view μ s := by
  simp only [execMacFlush, Host.Outcome.next.injEq] at h
  subst h
  repeat' split
  all_goals (first | with_reducible rfl | (simp [h_mb, h_adm, h_tables, h_otd, h_hq, h_irq, h_pwr, h_ctr, h_out, h_fresh]; done))

theorem view_execLearnCfgGlobal {μ : StatePart → Bool} (h_mb : μ .mb = true) (h_adm : μ .adm = true) (h_quad : μ .quad = true) (h_bank0 : μ .bank0 = true) (h_bank1 : μ .bank1 = true) (h_tables : μ .tables = true) (h_ports : μ .ports = true) (h_slices : μ .slices = true) (h_buf : μ .buf = true) (h_tm : μ .tm = true) (h_gate : μ .gate = true) (h_flows : μ .flows = true) (h_cap : μ .cap = true) (h_otd : μ .otd = true) (h_hq : μ .hq = true) (h_irq : μ .irq = true) (h_pwr : μ .pwr = true) (h_ctr : μ .ctr = true) (h_out : μ .out = true) (h_fresh : μ .fresh = true) (e : Env) (s : State) {t : State} (h : execLearnCfgGlobal e s = .next t) : view μ t = view μ s := by
  simp only [execLearnCfgGlobal, Host.Outcome.next.injEq] at h
  subst h
  repeat' split
  all_goals (first | with_reducible rfl | (simp [h_mb, h_adm, h_quad, h_bank0, h_bank1, h_tables, h_ports, h_slices, h_buf, h_tm, h_gate, h_flows, h_cap, h_otd, h_hq, h_irq, h_pwr, h_ctr, h_out, h_fresh]; done))

theorem view_execLearnCfgPort {μ : StatePart → Bool} (h_mb : μ .mb = true) (h_adm : μ .adm = true) (h_quad : μ .quad = true) (h_bank0 : μ .bank0 = true) (h_bank1 : μ .bank1 = true) (h_ports : μ .ports = true) (h_slices : μ .slices = true) (h_buf : μ .buf = true) (h_tm : μ .tm = true) (h_gate : μ .gate = true) (h_flows : μ .flows = true) (h_cap : μ .cap = true) (h_otd : μ .otd = true) (h_hq : μ .hq = true) (h_irq : μ .irq = true) (h_pwr : μ .pwr = true) (h_ctr : μ .ctr = true) (h_out : μ .out = true) (h_fresh : μ .fresh = true) (e : Env) (s : State) {t : State} (h : execLearnCfgPort e s = .next t) : view μ t = view μ s := by
  simp only [execLearnCfgPort, Host.Outcome.next.injEq] at h
  subst h
  repeat' split
  all_goals (first | with_reducible rfl | (simp [h_mb, h_adm, h_quad, h_bank0, h_bank1, h_ports, h_slices, h_buf, h_tm, h_gate, h_flows, h_cap, h_otd, h_hq, h_irq, h_pwr, h_ctr, h_out, h_fresh]; done))

theorem view_execMcastGroupSet {μ : StatePart → Bool} (h_mb : μ .mb = true) (h_adm : μ .adm = true) (h_quad : μ .quad = true) (h_bank0 : μ .bank0 = true) (h_bank1 : μ .bank1 = true) (h_ports : μ .ports = true) (h_slices : μ .slices = true) (h_buf : μ .buf = true) (h_tm : μ .tm = true) (h_gate : μ .gate = true) (h_flows : μ .flows = true) (h_cap : μ .cap = true) (h_otd : μ .otd = true) (h_hq : μ .hq = true) (h_irq : μ .irq = true) (h_pwr : μ .pwr = true) (h_ctr : μ .ctr = true) (h_out : μ .out = true) (h_fresh : μ .fresh = true) (e : Env) (s : State) {t : State} (h : execMcastGroupSet e s = .next t) : view μ t = view μ s := by
  simp only [execMcastGroupSet, Host.Outcome.next.injEq] at h
  subst h
  repeat' split
  all_goals (first | with_reducible rfl | (simp [h_mb, h_adm, h_quad, h_bank0, h_bank1, h_ports, h_slices, h_buf, h_tm, h_gate, h_flows, h_cap, h_otd, h_hq, h_irq, h_pwr, h_ctr, h_out, h_fresh]; done))

theorem view_execLagSet {μ : StatePart → Bool} (h_mb : μ .mb = true) (h_adm : μ .adm = true) (h_quad : μ .quad = true) (h_bank0 : μ .bank0 = true) (h_bank1 : μ .bank1 = true) (h_tables : μ .tables = true) (h_ports : μ .ports = true) (h_slices : μ .slices = true) (h_buf : μ .buf = true) (h_tm : μ .tm = true) (h_gate : μ .gate = true) (h_flows : μ .flows = true) (h_cap : μ .cap = true) (h_otd : μ .otd = true) (h_hq : μ .hq = true) (h_irq : μ .irq = true) (h_pwr : μ .pwr = true) (h_ctr : μ .ctr = true) (h_out : μ .out = true) (h_fresh : μ .fresh = true) (e : Env) (s : State) {t : State} (h : execLagSet e s = .next t) : view μ t = view μ s := by
  simp only [execLagSet, Host.Outcome.next.injEq] at h
  subst h
  repeat' split
  all_goals (first | with_reducible rfl | (simp [h_mb, h_adm, h_quad, h_bank0, h_bank1, h_tables, h_ports, h_slices, h_buf, h_tm, h_gate, h_flows, h_cap, h_otd, h_hq, h_irq, h_pwr, h_ctr, h_out, h_fresh]; done))

theorem view_execMacDump {μ : StatePart → Bool} (h_mb : μ .mb = true) (h_adm : μ .adm = true) (h_otd : μ .otd = true) (h_hq : μ .hq = true) (h_out : μ .out = true) (e : Env) (s : State) {t : State} (h : execMacDump e s = .next t) : view μ t = view μ s := by
  simp only [execMacDump, Host.Outcome.next.injEq] at h
  subst h
  repeat' split
  all_goals (first | with_reducible rfl | (simp [h_mb, h_adm, h_otd, h_hq, h_out]; done))

theorem view_execLearnApply {μ : StatePart → Bool} (h_tables : μ .tables = true) (h_irq : μ .irq = true) (h_pwr : μ .pwr = true) (h_ctr : μ .ctr = true) (h_out : μ .out = true) (h_fresh : μ .fresh = true) (s : State) {t : State} (h : execLearnApply s = .next t) : view μ t = view μ s := by
  unfold execLearnApply at h
  try dsimp only at h
  repeat' split at h
  all_goals
    simp only [Host.Outcome.next.injEq] at h
    subst h
    first | with_reducible rfl | (simp [h_tables, h_irq, h_pwr, h_ctr, h_out, h_fresh]; done) | (repeat' split) <;> simp [h_tables, h_irq, h_pwr, h_ctr, h_out, h_fresh]

theorem view_execMacAgeScan {μ : StatePart → Bool} (h_tables : μ .tables = true) (s : State) {t : State} (h : execMacAgeScan s = .next t) : view μ t = view μ s := by
  unfold execMacAgeScan at h
  try dsimp only at h
  repeat' split at h
  all_goals
    simp only [Host.Outcome.next.injEq] at h
    subst h
    first | with_reducible rfl | (simp [h_tables]; done) | (repeat' split) <;> simp [h_tables]

theorem view_execFreezeExpiry {μ : StatePart → Bool} (h_tables : μ .tables = true) (fid mac : Nat) (s : State) {t : State} (h : execFreezeExpiry fid mac s = .next t) : view μ t = view μ s := by
  simp only [execFreezeExpiry, Host.Outcome.next.injEq] at h
  subst h
  repeat' split
  all_goals (first | with_reducible rfl | (simp [h_tables]; done))

theorem view_execFlowAdd {μ : StatePart → Bool} (h_mb : μ .mb = true) (h_adm : μ .adm = true) (h_quad : μ .quad = true) (h_bank0 : μ .bank0 = true) (h_bank1 : μ .bank1 = true) (h_tables : μ .tables = true) (h_ports : μ .ports = true) (h_slices : μ .slices = true) (h_buf : μ .buf = true) (h_tm : μ .tm = true) (h_gate : μ .gate = true) (h_flows : μ .flows = true) (h_cap : μ .cap = true) (h_otd : μ .otd = true) (h_hq : μ .hq = true) (h_irq : μ .irq = true) (h_pwr : μ .pwr = true) (h_ctr : μ .ctr = true) (h_out : μ .out = true) (h_fresh : μ .fresh = true) (e : Env) (s : State) {t : State} (h : execFlowAdd e s = .next t) : view μ t = view μ s := by
  simp only [execFlowAdd, Host.Outcome.next.injEq] at h
  subst h
  repeat' split
  all_goals (first | with_reducible rfl | (simp [h_mb, h_adm, h_quad, h_bank0, h_bank1, h_tables, h_ports, h_slices, h_buf, h_tm, h_gate, h_flows, h_cap, h_otd, h_hq, h_irq, h_pwr, h_ctr, h_out, h_fresh]; done))

theorem view_execFlowModify {μ : StatePart → Bool} (h_mb : μ .mb = true) (h_adm : μ .adm = true) (h_quad : μ .quad = true) (h_bank0 : μ .bank0 = true) (h_bank1 : μ .bank1 = true) (h_ports : μ .ports = true) (h_slices : μ .slices = true) (h_buf : μ .buf = true) (h_tm : μ .tm = true) (h_gate : μ .gate = true) (h_flows : μ .flows = true) (h_cap : μ .cap = true) (h_otd : μ .otd = true) (h_hq : μ .hq = true) (h_irq : μ .irq = true) (h_pwr : μ .pwr = true) (h_ctr : μ .ctr = true) (h_out : μ .out = true) (h_fresh : μ .fresh = true) (e : Env) (s : State) {t : State} (h : execFlowModify e s = .next t) : view μ t = view μ s := by
  simp only [execFlowModify, Host.Outcome.next.injEq] at h
  subst h
  repeat' split
  all_goals (first | with_reducible rfl | (simp [h_mb, h_adm, h_quad, h_bank0, h_bank1, h_ports, h_slices, h_buf, h_tm, h_gate, h_flows, h_cap, h_otd, h_hq, h_irq, h_pwr, h_ctr, h_out, h_fresh]; done))

theorem view_execFlowDelete {μ : StatePart → Bool} (h_mb : μ .mb = true) (h_adm : μ .adm = true) (h_quad : μ .quad = true) (h_bank0 : μ .bank0 = true) (h_bank1 : μ .bank1 = true) (h_tables : μ .tables = true) (h_ports : μ .ports = true) (h_slices : μ .slices = true) (h_buf : μ .buf = true) (h_tm : μ .tm = true) (h_gate : μ .gate = true) (h_flows : μ .flows = true) (h_cap : μ .cap = true) (h_otd : μ .otd = true) (h_hq : μ .hq = true) (h_irq : μ .irq = true) (h_pwr : μ .pwr = true) (h_ctr : μ .ctr = true) (h_out : μ .out = true) (h_fresh : μ .fresh = true) (e : Env) (s : State) {t : State} (h : execFlowDelete e s = .next t) : view μ t = view μ s := by
  simp only [execFlowDelete, Host.Outcome.next.injEq] at h
  subst h
  repeat' split
  all_goals (first | with_reducible rfl | (simp [h_mb, h_adm, h_quad, h_bank0, h_bank1, h_tables, h_ports, h_slices, h_buf, h_tm, h_gate, h_flows, h_cap, h_otd, h_hq, h_irq, h_pwr, h_ctr, h_out, h_fresh]; done))

theorem view_execFlowRead {μ : StatePart → Bool} (h_mb : μ .mb = true) (h_adm : μ .adm = true) (h_otd : μ .otd = true) (h_hq : μ .hq = true) (h_out : μ .out = true) (e : Env) (s : State) {t : State} (h : execFlowRead e s = .next t) : view μ t = view μ s := by
  simp only [execFlowRead, Host.Outcome.next.injEq] at h
  subst h
  repeat' split
  all_goals (first | with_reducible rfl | (simp [h_mb, h_adm, h_otd, h_hq, h_out]; done))

theorem view_execFlowCounters {μ : StatePart → Bool} (h_mb : μ .mb = true) (h_adm : μ .adm = true) (h_flows : μ .flows = true) (h_otd : μ .otd = true) (h_hq : μ .hq = true) (h_ctr : μ .ctr = true) (h_out : μ .out = true) (e : Env) (s : State) {t : State} (h : execFlowCounters e s = .next t) : view μ t = view μ s := by
  simp only [execFlowCounters, Host.Outcome.next.injEq] at h
  subst h
  repeat' split
  all_goals (first | with_reducible rfl | (simp [h_mb, h_adm, h_flows, h_otd, h_hq, h_ctr, h_out]; done))

theorem view_execPrpHsrSet {μ : StatePart → Bool} (h_mb : μ .mb = true) (h_adm : μ .adm = true) (h_quad : μ .quad = true) (h_bank0 : μ .bank0 = true) (h_bank1 : μ .bank1 = true) (h_ports : μ .ports = true) (h_slices : μ .slices = true) (h_buf : μ .buf = true) (h_tm : μ .tm = true) (h_gate : μ .gate = true) (h_flows : μ .flows = true) (h_cap : μ .cap = true) (h_otd : μ .otd = true) (h_hq : μ .hq = true) (h_irq : μ .irq = true) (h_pwr : μ .pwr = true) (h_ctr : μ .ctr = true) (h_out : μ .out = true) (h_fresh : μ .fresh = true) (e : Env) (s : State) {t : State} (h : execPrpHsrSet e s = .next t) : view μ t = view μ s := by
  simp only [execPrpHsrSet, Host.Outcome.next.injEq] at h
  subst h
  repeat' split
  all_goals (first | with_reducible rfl | (simp [h_mb, h_adm, h_quad, h_bank0, h_bank1, h_ports, h_slices, h_buf, h_tm, h_gate, h_flows, h_cap, h_otd, h_hq, h_irq, h_pwr, h_ctr, h_out, h_fresh]; done))

theorem view_execGapTimeout {μ : StatePart → Bool} (h_ports : μ .ports = true) (h_slices : μ .slices = true) (h_buf : μ .buf = true) (h_tm : μ .tm = true) (h_flows : μ .flows = true) (h_cap : μ .cap = true) (h_hq : μ .hq = true) (h_pwr : μ .pwr = true) (h_ctr : μ .ctr = true) (h_out : μ .out = true) (sl flow : Nat) (s : State) {t : State} (h : execGapTimeout sl flow s = .next t) : view μ t = view μ s := by
  simp only [execGapTimeout, Host.Outcome.next.injEq] at h
  subst h
  repeat' split
  all_goals (first | with_reducible rfl | (simp [h_ports, h_slices, h_buf, h_tm, h_flows, h_cap, h_hq, h_pwr, h_ctr, h_out]; done))

theorem view_execLinkFault {μ : StatePart → Bool} (h_tables : μ .tables = true) (h_ports : μ .ports = true) (h_slices : μ .slices = true) (h_buf : μ .buf = true) (h_cap : μ .cap = true) (h_time : μ .time = true) (h_otd : μ .otd = true) (h_sez : μ .sez = true) (h_hq : μ .hq = true) (h_irq : μ .irq = true) (h_pwr : μ .pwr = true) (h_ctr : μ .ctr = true) (h_out : μ .out = true) (h_fresh : μ .fresh = true) (p : Nat) (stat : LinkStat) (s : State) {t : State} (h : execLinkFault p stat s = .next t) : view μ t = view μ s := by
  simp only [execLinkFault, Host.Outcome.next.injEq] at h
  subst h
  repeat' split
  all_goals (first | with_reducible rfl | (simp [h_tables, h_ports, h_slices, h_buf, h_cap, h_time, h_otd, h_sez, h_hq, h_irq, h_pwr, h_ctr, h_out, h_fresh]; done))

theorem view_execLinkFaultClear {μ : StatePart → Bool} (h_ports : μ .ports = true) (h_pwr : μ .pwr = true) (p : Nat) (s : State) {t : State} (h : execLinkFaultClear p s = .next t) : view μ t = view μ s := by
  simp only [execLinkFaultClear, Host.Outcome.next.injEq] at h
  subst h
  repeat' split
  all_goals (first | with_reducible rfl | (simp [h_ports, h_pwr]; done))

theorem view_execLinkUp {μ : StatePart → Bool} (h_tables : μ .tables = true) (h_ports : μ .ports = true) (h_pwr : μ .pwr = true) (p : Nat) (s : State) {t : State} (h : execLinkUp p s = .next t) : view μ t = view μ s := by
  simp only [execLinkUp, Host.Outcome.next.injEq] at h
  subst h
  repeat' split
  all_goals (first | with_reducible rfl | (simp [h_tables, h_ports, h_pwr]; done))

theorem view_execLinkHoldExpiry {μ : StatePart → Bool} (h_tables : μ .tables = true) (h_ports : μ .ports = true) (h_buf : μ .buf = true) (h_tm : μ .tm = true) (h_cap : μ .cap = true) (h_hq : μ .hq = true) (h_irq : μ .irq = true) (h_pwr : μ .pwr = true) (h_ctr : μ .ctr = true) (h_out : μ .out = true) (h_fresh : μ .fresh = true) (p : Nat) (s : State) {t : State} (h : execLinkHoldExpiry p s = .next t) : view μ t = view μ s := by
  simp only [execLinkHoldExpiry, Host.Outcome.next.injEq] at h
  subst h
  repeat' split
  all_goals (first | with_reducible rfl | (simp [h_tables, h_ports, h_buf, h_tm, h_cap, h_hq, h_irq, h_pwr, h_ctr, h_out, h_fresh]; done))

theorem view_execParseNodeSet {μ : StatePart → Bool} (h_mb : μ .mb = true) (h_adm : μ .adm = true) (h_quad : μ .quad = true) (h_bank0 : μ .bank0 = true) (h_bank1 : μ .bank1 = true) (h_ports : μ .ports = true) (h_slices : μ .slices = true) (h_buf : μ .buf = true) (h_tm : μ .tm = true) (h_gate : μ .gate = true) (h_flows : μ .flows = true) (h_cap : μ .cap = true) (h_otd : μ .otd = true) (h_hq : μ .hq = true) (h_irq : μ .irq = true) (h_pwr : μ .pwr = true) (h_ctr : μ .ctr = true) (h_out : μ .out = true) (h_fresh : μ .fresh = true) (e : Env) (s : State) {t : State} (h : execParseNodeSet e s = .next t) : view μ t = view μ s := by
  simp only [execParseNodeSet, Host.Outcome.next.injEq] at h
  subst h
  repeat' split
  all_goals (first | with_reducible rfl | (simp [h_mb, h_adm, h_quad, h_bank0, h_bank1, h_ports, h_slices, h_buf, h_tm, h_gate, h_flows, h_cap, h_otd, h_hq, h_irq, h_pwr, h_ctr, h_out, h_fresh]; done))

theorem view_execParseNodeGet {μ : StatePart → Bool} (h_mb : μ .mb = true) (h_adm : μ .adm = true) (h_otd : μ .otd = true) (h_hq : μ .hq = true) (h_out : μ .out = true) (e : Env) (s : State) {t : State} (h : execParseNodeGet e s = .next t) : view μ t = view μ s := by
  simp only [execParseNodeGet, Host.Outcome.next.injEq] at h
  subst h
  repeat' split
  all_goals (first | with_reducible rfl | (simp [h_mb, h_adm, h_otd, h_hq, h_out]; done))

theorem view_execParseGraphDefault {μ : StatePart → Bool} (h_mb : μ .mb = true) (h_adm : μ .adm = true) (h_quad : μ .quad = true) (h_bank0 : μ .bank0 = true) (h_bank1 : μ .bank1 = true) (h_ports : μ .ports = true) (h_slices : μ .slices = true) (h_buf : μ .buf = true) (h_tm : μ .tm = true) (h_gate : μ .gate = true) (h_flows : μ .flows = true) (h_cap : μ .cap = true) (h_otd : μ .otd = true) (h_hq : μ .hq = true) (h_irq : μ .irq = true) (h_pwr : μ .pwr = true) (h_ctr : μ .ctr = true) (h_out : μ .out = true) (h_fresh : μ .fresh = true) (e : Env) (s : State) {t : State} (h : execParseGraphDefault e s = .next t) : view μ t = view μ s := by
  simp only [execParseGraphDefault, Host.Outcome.next.injEq] at h
  subst h
  repeat' split
  all_goals (first | with_reducible rfl | (simp [h_mb, h_adm, h_quad, h_bank0, h_bank1, h_ports, h_slices, h_buf, h_tm, h_gate, h_flows, h_cap, h_otd, h_hq, h_irq, h_pwr, h_ctr, h_out, h_fresh]; done))

theorem view_execParseCounters {μ : StatePart → Bool} (h_mb : μ .mb = true) (h_adm : μ .adm = true) (h_otd : μ .otd = true) (h_hq : μ .hq = true) (h_ctr : μ .ctr = true) (h_out : μ .out = true) (e : Env) (s : State) {t : State} (h : execParseCounters e s = .next t) : view μ t = view μ s := by
  simp only [execParseCounters, Host.Outcome.next.injEq] at h
  subst h
  repeat' split
  all_goals (first | with_reducible rfl | (simp [h_mb, h_adm, h_otd, h_hq, h_ctr, h_out]; done))

theorem view_execTableCreate {μ : StatePart → Bool} (h_mb : μ .mb = true) (h_adm : μ .adm = true) (h_tables : μ .tables = true) (h_otd : μ .otd = true) (h_hq : μ .hq = true) (h_out : μ .out = true) (h_fresh : μ .fresh = true) (e : Env) (s : State) {t : State} (h : execTableCreate e s = .next t) : view μ t = view μ s := by
  simp only [execTableCreate, Host.Outcome.next.injEq] at h
  subst h
  refine view_runOk h_mb h_adm h_otd h_hq h_out _ _ _ _ _ _ (fun s => ?_) _
  simp [h_mb, h_adm, h_tables, h_otd, h_hq, h_out, h_fresh]

theorem view_execTableDelete {μ : StatePart → Bool} (h_mb : μ .mb = true) (h_adm : μ .adm = true) (h_tables : μ .tables = true) (h_otd : μ .otd = true) (h_hq : μ .hq = true) (h_out : μ .out = true) (e : Env) (s : State) {t : State} (h : execTableDelete e s = .next t) : view μ t = view μ s := by
  simp only [execTableDelete, Host.Outcome.next.injEq] at h
  subst h
  repeat' split
  all_goals (first | with_reducible rfl | (simp [h_mb, h_adm, h_tables, h_otd, h_hq, h_out]; done))

theorem view_execEntryWrite {μ : StatePart → Bool} (h_mb : μ .mb = true) (h_adm : μ .adm = true) (h_quad : μ .quad = true) (h_bank0 : μ .bank0 = true) (h_bank1 : μ .bank1 = true) (h_tables : μ .tables = true) (h_ports : μ .ports = true) (h_slices : μ .slices = true) (h_buf : μ .buf = true) (h_tm : μ .tm = true) (h_gate : μ .gate = true) (h_flows : μ .flows = true) (h_cap : μ .cap = true) (h_otd : μ .otd = true) (h_hq : μ .hq = true) (h_irq : μ .irq = true) (h_pwr : μ .pwr = true) (h_ctr : μ .ctr = true) (h_out : μ .out = true) (h_fresh : μ .fresh = true) (e : Env) (s : State) {t : State} (h : execEntryWrite e s = .next t) : view μ t = view μ s := by
  simp only [execEntryWrite, Host.Outcome.next.injEq] at h
  subst h
  repeat' split
  all_goals (first | with_reducible rfl | (simp [h_mb, h_adm, h_quad, h_bank0, h_bank1, h_tables, h_ports, h_slices, h_buf, h_tm, h_gate, h_flows, h_cap, h_otd, h_hq, h_irq, h_pwr, h_ctr, h_out, h_fresh]; done))

theorem view_execEntryDelete {μ : StatePart → Bool} (h_mb : μ .mb = true) (h_adm : μ .adm = true) (h_quad : μ .quad = true) (h_bank0 : μ .bank0 = true) (h_bank1 : μ .bank1 = true) (h_tables : μ .tables = true) (h_ports : μ .ports = true) (h_slices : μ .slices = true) (h_buf : μ .buf = true) (h_tm : μ .tm = true) (h_gate : μ .gate = true) (h_flows : μ .flows = true) (h_cap : μ .cap = true) (h_otd : μ .otd = true) (h_hq : μ .hq = true) (h_irq : μ .irq = true) (h_pwr : μ .pwr = true) (h_ctr : μ .ctr = true) (h_out : μ .out = true) (h_fresh : μ .fresh = true) (e : Env) (s : State) {t : State} (h : execEntryDelete e s = .next t) : view μ t = view μ s := by
  simp only [execEntryDelete, Host.Outcome.next.injEq] at h
  subst h
  repeat' split
  all_goals (first | with_reducible rfl | (simp [h_mb, h_adm, h_quad, h_bank0, h_bank1, h_tables, h_ports, h_slices, h_buf, h_tm, h_gate, h_flows, h_cap, h_otd, h_hq, h_irq, h_pwr, h_ctr, h_out, h_fresh]; done))

theorem view_execEntryRead {μ : StatePart → Bool} (h_mb : μ .mb = true) (h_adm : μ .adm = true) (h_otd : μ .otd = true) (h_hq : μ .hq = true) (h_out : μ .out = true) (e : Env) (s : State) {t : State} (h : execEntryRead e s = .next t) : view μ t = view μ s := by
  simp only [execEntryRead, Host.Outcome.next.injEq] at h
  subst h
  repeat' split
  all_goals (first | with_reducible rfl | (simp [h_mb, h_adm, h_otd, h_hq, h_out]; done))

theorem view_execTableDump {μ : StatePart → Bool} (h_mb : μ .mb = true) (h_adm : μ .adm = true) (h_otd : μ .otd = true) (h_hq : μ .hq = true) (h_out : μ .out = true) (e : Env) (s : State) {t : State} (h : execTableDump e s = .next t) : view μ t = view μ s := by
  simp only [execTableDump, Host.Outcome.next.injEq] at h
  subst h
  repeat' split
  all_goals (first | with_reducible rfl | (simp [h_mb, h_adm, h_otd, h_hq, h_out]; done))

theorem view_execKeyProfileSet {μ : StatePart → Bool} (h_mb : μ .mb = true) (h_adm : μ .adm = true) (h_quad : μ .quad = true) (h_bank0 : μ .bank0 = true) (h_bank1 : μ .bank1 = true) (h_ports : μ .ports = true) (h_slices : μ .slices = true) (h_buf : μ .buf = true) (h_tm : μ .tm = true) (h_gate : μ .gate = true) (h_flows : μ .flows = true) (h_cap : μ .cap = true) (h_otd : μ .otd = true) (h_hq : μ .hq = true) (h_irq : μ .irq = true) (h_pwr : μ .pwr = true) (h_ctr : μ .ctr = true) (h_out : μ .out = true) (h_fresh : μ .fresh = true) (e : Env) (s : State) {t : State} (h : execKeyProfileSet e s = .next t) : view μ t = view μ s := by
  simp only [execKeyProfileSet, Host.Outcome.next.injEq] at h
  subst h
  repeat' split
  all_goals (first | with_reducible rfl | (simp [h_mb, h_adm, h_quad, h_bank0, h_bank1, h_ports, h_slices, h_buf, h_tm, h_gate, h_flows, h_cap, h_otd, h_hq, h_irq, h_pwr, h_ctr, h_out, h_fresh]; done))

theorem view_execProgLoad {μ : StatePart → Bool} (h_mb : μ .mb = true) (h_adm : μ .adm = true) (h_eng : μ .eng = true) (h_otd : μ .otd = true) (h_hq : μ .hq = true) (h_out : μ .out = true) (h_fresh : μ .fresh = true) (e : Env) (s : State) {t : State} (h : execProgLoad e s = .next t) : view μ t = view μ s := by
  simp only [execProgLoad, Host.Outcome.next.injEq] at h
  subst h
  refine view_ifTurn  _ _ (fun s => ?_) _
  try dsimp only
  repeat' split
  all_goals (first | with_reducible rfl | (simp [h_mb, h_adm, h_eng, h_otd, h_hq, h_out, h_fresh]; done))

theorem view_execProgUnload {μ : StatePart → Bool} (h_mb : μ .mb = true) (h_adm : μ .adm = true) (h_eng : μ .eng = true) (h_otd : μ .otd = true) (h_hq : μ .hq = true) (h_out : μ .out = true) (e : Env) (s : State) {t : State} (h : execProgUnload e s = .next t) : view μ t = view μ s := by
  simp only [execProgUnload, Host.Outcome.next.injEq] at h
  subst h
  repeat' split
  all_goals (first | with_reducible rfl | (simp [h_mb, h_adm, h_eng, h_otd, h_hq, h_out]; done))

theorem view_execProgBindMap {μ : StatePart → Bool} (h_mb : μ .mb = true) (h_adm : μ .adm = true) (h_quad : μ .quad = true) (h_bank0 : μ .bank0 = true) (h_bank1 : μ .bank1 = true) (h_ports : μ .ports = true) (h_slices : μ .slices = true) (h_buf : μ .buf = true) (h_tm : μ .tm = true) (h_gate : μ .gate = true) (h_flows : μ .flows = true) (h_cap : μ .cap = true) (h_otd : μ .otd = true) (h_hq : μ .hq = true) (h_irq : μ .irq = true) (h_pwr : μ .pwr = true) (h_ctr : μ .ctr = true) (h_out : μ .out = true) (h_fresh : μ .fresh = true) (e : Env) (s : State) {t : State} (h : execProgBindMap e s = .next t) : view μ t = view μ s := by
  simp only [execProgBindMap, Host.Outcome.next.injEq] at h
  subst h
  repeat' split
  all_goals (first | with_reducible rfl | (simp [h_mb, h_adm, h_quad, h_bank0, h_bank1, h_ports, h_slices, h_buf, h_tm, h_gate, h_flows, h_cap, h_otd, h_hq, h_irq, h_pwr, h_ctr, h_out, h_fresh]; done))

theorem view_execProgBindDefault {μ : StatePart → Bool} (h_mb : μ .mb = true) (h_adm : μ .adm = true) (h_quad : μ .quad = true) (h_bank0 : μ .bank0 = true) (h_bank1 : μ .bank1 = true) (h_ports : μ .ports = true) (h_slices : μ .slices = true) (h_buf : μ .buf = true) (h_tm : μ .tm = true) (h_gate : μ .gate = true) (h_flows : μ .flows = true) (h_cap : μ .cap = true) (h_otd : μ .otd = true) (h_hq : μ .hq = true) (h_irq : μ .irq = true) (h_pwr : μ .pwr = true) (h_ctr : μ .ctr = true) (h_out : μ .out = true) (h_fresh : μ .fresh = true) (e : Env) (s : State) {t : State} (h : execProgBindDefault e s = .next t) : view μ t = view μ s := by
  simp only [execProgBindDefault, Host.Outcome.next.injEq] at h
  subst h
  repeat' split
  all_goals (first | with_reducible rfl | (simp [h_mb, h_adm, h_quad, h_bank0, h_bank1, h_ports, h_slices, h_buf, h_tm, h_gate, h_flows, h_cap, h_otd, h_hq, h_irq, h_pwr, h_ctr, h_out, h_fresh]; done))

theorem view_execEngineStatus {μ : StatePart → Bool} (h_mb : μ .mb = true) (h_adm : μ .adm = true) (h_otd : μ .otd = true) (h_hq : μ .hq = true) (h_ctr : μ .ctr = true) (h_out : μ .out = true) (e : Env) (s : State) {t : State} (h : execEngineStatus e s = .next t) : view μ t = view μ s := by
  simp only [execEngineStatus, Host.Outcome.next.injEq] at h
  subst h
  repeat' split
  all_goals (first | with_reducible rfl | (simp [h_mb, h_adm, h_otd, h_hq, h_ctr, h_out]; done))

theorem view_execEngineResetDone {μ : StatePart → Bool} (h_mb : μ .mb = true) (h_adm : μ .adm = true) (h_eng : μ .eng = true) (h_otd : μ .otd = true) (h_hq : μ .hq = true) (h_out : μ .out = true) (g : Nat) (s : State) {t : State} (h : execEngineResetDone g s = .next t) : view μ t = view μ s := by
  simp only [execEngineResetDone, Host.Outcome.next.injEq] at h
  subst h
  repeat' split
  all_goals (first | with_reducible rfl | (simp [h_mb, h_adm, h_eng, h_otd, h_hq, h_out]; done))

theorem view_execConstSet {μ : StatePart → Bool} (h_mb : μ .mb = true) (h_adm : μ .adm = true) (h_quad : μ .quad = true) (h_bank0 : μ .bank0 = true) (h_bank1 : μ .bank1 = true) (h_ports : μ .ports = true) (h_slices : μ .slices = true) (h_buf : μ .buf = true) (h_tm : μ .tm = true) (h_gate : μ .gate = true) (h_flows : μ .flows = true) (h_cap : μ .cap = true) (h_otd : μ .otd = true) (h_hq : μ .hq = true) (h_irq : μ .irq = true) (h_pwr : μ .pwr = true) (h_ctr : μ .ctr = true) (h_out : μ .out = true) (h_fresh : μ .fresh = true) (e : Env) (s : State) {t : State} (h : execConstSet e s = .next t) : view μ t = view μ s := by
  simp only [execConstSet, Host.Outcome.next.injEq] at h
  subst h
  repeat' split
  all_goals (first | with_reducible rfl | (simp [h_mb, h_adm, h_quad, h_bank0, h_bank1, h_ports, h_slices, h_buf, h_tm, h_gate, h_flows, h_cap, h_otd, h_hq, h_irq, h_pwr, h_ctr, h_out, h_fresh]; done))

theorem view_execScratchRead {μ : StatePart → Bool} (h_mb : μ .mb = true) (h_adm : μ .adm = true) (h_eng : μ .eng = true) (h_otd : μ .otd = true) (h_hq : μ .hq = true) (h_out : μ .out = true) (e : Env) (s : State) {t : State} (h : execScratchRead e s = .next t) : view μ t = view μ s := by
  simp only [execScratchRead, Host.Outcome.next.injEq] at h
  subst h
  repeat' split
  all_goals (first | with_reducible rfl | (simp [h_mb, h_adm, h_eng, h_otd, h_hq, h_out]; done))

theorem view_execPortCfg {μ : StatePart → Bool} (h_mb : μ .mb = true) (h_adm : μ .adm = true) (h_quad : μ .quad = true) (h_bank0 : μ .bank0 = true) (h_bank1 : μ .bank1 = true) (h_ports : μ .ports = true) (h_slices : μ .slices = true) (h_buf : μ .buf = true) (h_tm : μ .tm = true) (h_gate : μ .gate = true) (h_flows : μ .flows = true) (h_cap : μ .cap = true) (h_otd : μ .otd = true) (h_hq : μ .hq = true) (h_irq : μ .irq = true) (h_pwr : μ .pwr = true) (h_ctr : μ .ctr = true) (h_out : μ .out = true) (h_fresh : μ .fresh = true) (e : Env) (s : State) {t : State} (h : execPortCfg e s = .next t) : view μ t = view μ s := by
  simp only [execPortCfg, Host.Outcome.next.injEq] at h
  subst h
  repeat' split
  all_goals (first | with_reducible rfl | (simp [h_mb, h_adm, h_quad, h_bank0, h_bank1, h_ports, h_slices, h_buf, h_tm, h_gate, h_flows, h_cap, h_otd, h_hq, h_irq, h_pwr, h_ctr, h_out, h_fresh]; done))

theorem view_execPortAdminUp {μ : StatePart → Bool} (h_mb : μ .mb = true) (h_adm : μ .adm = true) (h_ports : μ .ports = true) (h_otd : μ .otd = true) (h_hq : μ .hq = true) (h_pwr : μ .pwr = true) (h_out : μ .out = true) (e : Env) (s : State) {t : State} (h : execPortAdminUp e s = .next t) : view μ t = view μ s := by
  simp only [execPortAdminUp, Host.Outcome.next.injEq] at h
  subst h
  repeat' split
  all_goals (first | with_reducible rfl | (simp [h_mb, h_adm, h_ports, h_otd, h_hq, h_pwr, h_out]; done))

theorem view_execPortAdminDown {μ : StatePart → Bool} (h_mb : μ .mb = true) (h_adm : μ .adm = true) (h_tables : μ .tables = true) (h_ports : μ .ports = true) (h_slices : μ .slices = true) (h_buf : μ .buf = true) (h_tm : μ .tm = true) (h_cap : μ .cap = true) (h_time : μ .time = true) (h_otd : μ .otd = true) (h_sez : μ .sez = true) (h_hq : μ .hq = true) (h_irq : μ .irq = true) (h_pwr : μ .pwr = true) (h_ctr : μ .ctr = true) (h_out : μ .out = true) (h_fresh : μ .fresh = true) (e : Env) (s : State) {t : State} (h : execPortAdminDown e s = .next t) : view μ t = view μ s := by
  simp only [execPortAdminDown, Host.Outcome.next.injEq] at h
  subst h
  repeat' split
  all_goals (first | with_reducible rfl | (simp [h_mb, h_adm, h_tables, h_ports, h_slices, h_buf, h_tm, h_cap, h_time, h_otd, h_sez, h_hq, h_irq, h_pwr, h_ctr, h_out, h_fresh]; done))

theorem view_execPortStatus {μ : StatePart → Bool} (h_mb : μ .mb = true) (h_adm : μ .adm = true) (h_otd : μ .otd = true) (h_hq : μ .hq = true) (h_out : μ .out = true) (e : Env) (s : State) {t : State} (h : execPortStatus e s = .next t) : view μ t = view μ s := by
  simp only [execPortStatus, Host.Outcome.next.injEq] at h
  subst h
  repeat' split
  all_goals (first | with_reducible rfl | (simp [h_mb, h_adm, h_otd, h_hq, h_out]; done))

theorem view_execPortCounters {μ : StatePart → Bool} (h_mb : μ .mb = true) (h_adm : μ .adm = true) (h_ports : μ .ports = true) (h_otd : μ .otd = true) (h_hq : μ .hq = true) (h_ctr : μ .ctr = true) (h_out : μ .out = true) (e : Env) (s : State) {t : State} (h : execPortCounters e s = .next t) : view μ t = view μ s := by
  simp only [execPortCounters, Host.Outcome.next.injEq] at h
  subst h
  repeat' split
  all_goals (first | with_reducible rfl | (simp [h_mb, h_adm, h_ports, h_otd, h_hq, h_ctr, h_out]; done))

theorem view_execPortFc {μ : StatePart → Bool} (h_mb : μ .mb = true) (h_adm : μ .adm = true) (h_quad : μ .quad = true) (h_bank0 : μ .bank0 = true) (h_bank1 : μ .bank1 = true) (h_ports : μ .ports = true) (h_slices : μ .slices = true) (h_buf : μ .buf = true) (h_tm : μ .tm = true) (h_gate : μ .gate = true) (h_flows : μ .flows = true) (h_cap : μ .cap = true) (h_otd : μ .otd = true) (h_hq : μ .hq = true) (h_irq : μ .irq = true) (h_pwr : μ .pwr = true) (h_ctr : μ .ctr = true) (h_out : μ .out = true) (h_fresh : μ .fresh = true) (e : Env) (s : State) {t : State} (h : execPortFc e s = .next t) : view μ t = view μ s := by
  simp only [execPortFc, Host.Outcome.next.injEq] at h
  subst h
  repeat' split
  all_goals (first | with_reducible rfl | (simp [h_mb, h_adm, h_quad, h_bank0, h_bank1, h_ports, h_slices, h_buf, h_tm, h_gate, h_flows, h_cap, h_otd, h_hq, h_irq, h_pwr, h_ctr, h_out, h_fresh]; done))

theorem view_execPortPreempt {μ : StatePart → Bool} (h_mb : μ .mb = true) (h_adm : μ .adm = true) (h_quad : μ .quad = true) (h_bank0 : μ .bank0 = true) (h_bank1 : μ .bank1 = true) (h_ports : μ .ports = true) (h_slices : μ .slices = true) (h_buf : μ .buf = true) (h_tm : μ .tm = true) (h_gate : μ .gate = true) (h_flows : μ .flows = true) (h_cap : μ .cap = true) (h_otd : μ .otd = true) (h_hq : μ .hq = true) (h_irq : μ .irq = true) (h_pwr : μ .pwr = true) (h_ctr : μ .ctr = true) (h_out : μ .out = true) (h_fresh : μ .fresh = true) (e : Env) (s : State) {t : State} (h : execPortPreempt e s = .next t) : view μ t = view μ s := by
  simp only [execPortPreempt, Host.Outcome.next.injEq] at h
  subst h
  repeat' split
  all_goals (first | with_reducible rfl | (simp [h_mb, h_adm, h_quad, h_bank0, h_bank1, h_ports, h_slices, h_buf, h_tm, h_gate, h_flows, h_cap, h_otd, h_hq, h_irq, h_pwr, h_ctr, h_out, h_fresh]; done))

theorem view_execPortEee {μ : StatePart → Bool} (h_mb : μ .mb = true) (h_adm : μ .adm = true) (h_quad : μ .quad = true) (h_bank0 : μ .bank0 = true) (h_bank1 : μ .bank1 = true) (h_ports : μ .ports = true) (h_slices : μ .slices = true) (h_buf : μ .buf = true) (h_tm : μ .tm = true) (h_gate : μ .gate = true) (h_flows : μ .flows = true) (h_cap : μ .cap = true) (h_otd : μ .otd = true) (h_hq : μ .hq = true) (h_irq : μ .irq = true) (h_pwr : μ .pwr = true) (h_ctr : μ .ctr = true) (h_out : μ .out = true) (h_fresh : μ .fresh = true) (e : Env) (s : State) {t : State} (h : execPortEee e s = .next t) : view μ t = view μ s := by
  simp only [execPortEee, Host.Outcome.next.injEq] at h
  subst h
  repeat' split
  all_goals (first | with_reducible rfl | (simp [h_mb, h_adm, h_quad, h_bank0, h_bank1, h_ports, h_slices, h_buf, h_tm, h_gate, h_flows, h_cap, h_otd, h_hq, h_irq, h_pwr, h_ctr, h_out, h_fresh]; done))

theorem view_execPortWakeFilter {μ : StatePart → Bool} (h_mb : μ .mb = true) (h_adm : μ .adm = true) (h_quad : μ .quad = true) (h_bank0 : μ .bank0 = true) (h_bank1 : μ .bank1 = true) (h_ports : μ .ports = true) (h_slices : μ .slices = true) (h_buf : μ .buf = true) (h_tm : μ .tm = true) (h_gate : μ .gate = true) (h_flows : μ .flows = true) (h_cap : μ .cap = true) (h_otd : μ .otd = true) (h_hq : μ .hq = true) (h_irq : μ .irq = true) (h_pwr : μ .pwr = true) (h_ctr : μ .ctr = true) (h_out : μ .out = true) (h_fresh : μ .fresh = true) (e : Env) (s : State) {t : State} (h : execPortWakeFilter e s = .next t) : view μ t = view μ s := by
  simp only [execPortWakeFilter, Host.Outcome.next.injEq] at h
  subst h
  repeat' split
  all_goals (first | with_reducible rfl | (simp [h_mb, h_adm, h_quad, h_bank0, h_bank1, h_ports, h_slices, h_buf, h_tm, h_gate, h_flows, h_cap, h_otd, h_hq, h_irq, h_pwr, h_ctr, h_out, h_fresh]; done))

theorem view_execPortLinkHold {μ : StatePart → Bool} (h_mb : μ .mb = true) (h_adm : μ .adm = true) (h_quad : μ .quad = true) (h_bank0 : μ .bank0 = true) (h_bank1 : μ .bank1 = true) (h_ports : μ .ports = true) (h_slices : μ .slices = true) (h_buf : μ .buf = true) (h_tm : μ .tm = true) (h_gate : μ .gate = true) (h_flows : μ .flows = true) (h_cap : μ .cap = true) (h_otd : μ .otd = true) (h_hq : μ .hq = true) (h_irq : μ .irq = true) (h_pwr : μ .pwr = true) (h_ctr : μ .ctr = true) (h_out : μ .out = true) (h_fresh : μ .fresh = true) (e : Env) (s : State) {t : State} (h : execPortLinkHold e s = .next t) : view μ t = view μ s := by
  simp only [execPortLinkHold, Host.Outcome.next.injEq] at h
  subst h
  repeat' split
  all_goals (first | with_reducible rfl | (simp [h_mb, h_adm, h_quad, h_bank0, h_bank1, h_ports, h_slices, h_buf, h_tm, h_gate, h_flows, h_cap, h_otd, h_hq, h_irq, h_pwr, h_ctr, h_out, h_fresh]; done))

theorem view_execRxFrame {μ : StatePart → Bool} (h_ports : μ .ports = true) (h_slices : μ .slices = true) (h_otd : μ .otd = true) (h_irq : μ .irq = true) (h_pwr : μ .pwr = true) (h_ctr : μ .ctr = true) (h_out : μ .out = true) (f : RxFrame) (s0 : State) {t : State} (h : execRxFrame f s0 = .next t) : view μ t = view μ s0 := by
  unfold execRxFrame at h
  try dsimp only at h
  repeat' split at h
  all_goals
    simp only [Host.Outcome.next.injEq] at h
    subst h
    first | with_reducible rfl | (simp [h_ports, h_slices, h_otd, h_irq, h_pwr, h_ctr, h_out]; done) | (repeat' split) <;> simp [h_ports, h_slices, h_otd, h_irq, h_pwr, h_ctr, h_out]

theorem view_execStrayWord {μ : StatePart → Bool} (h_ctr : μ .ctr = true) (sl lane sub : Nat) (s : State) {t : State} (h : execStrayWord sl lane sub s = .next t) : view μ t = view μ s := by
  simp only [execStrayWord, Host.Outcome.next.injEq] at h
  subst h
  repeat' split
  all_goals (first | with_reducible rfl | (simp [h_ctr]; done))

theorem view_execPauseExpiry {μ : StatePart → Bool} (h_ports : μ .ports = true) (p prio : Nat) (s : State) {t : State} (h : execPauseExpiry p prio s = .next t) : view μ t = view μ s := by
  simp only [execPauseExpiry, Host.Outcome.next.injEq] at h
  subst h
  repeat' split
  all_goals (first | with_reducible rfl | (simp [h_ports]; done))

theorem view_execDenDrain {μ : StatePart → Bool} (h_slices : μ .slices = true) (h_otd : μ .otd = true) (h_irq : μ .irq = true) (h_pwr : μ .pwr = true) (h_ctr : μ .ctr = true) (h_out : μ .out = true) (sl : Nat) (s : State) {t : State} (h : execDenDrain sl s = .next t) : view μ t = view μ s := by
  simp only [execDenDrain, Host.Outcome.next.injEq] at h
  subst h
  repeat' split
  all_goals (first | with_reducible rfl | (simp [h_slices, h_otd, h_irq, h_pwr, h_ctr, h_out]; done))

theorem view_execXoffRefresh {μ : StatePart → Bool} (h_ports : μ .ports = true) (p prio : Nat) (s : State) {t : State} (h : execXoffRefresh p prio s = .next t) : view μ t = view μ s := by
  simp only [execXoffRefresh, Host.Outcome.next.injEq] at h
  subst h
  repeat' split
  all_goals (first | with_reducible rfl | (simp [h_ports]; done))

theorem view_execLpiEnter {μ : StatePart → Bool} (h_ports : μ .ports = true) (h_out : μ .out = true) (p : Nat) (s : State) {t : State} (h : execLpiEnter p s = .next t) : view μ t = view μ s := by
  simp only [execLpiEnter, Host.Outcome.next.injEq] at h
  subst h
  repeat' split
  all_goals (first | with_reducible rfl | (simp [h_ports, h_out]; done))

theorem view_execLpiExit {μ : StatePart → Bool} (h_ports : μ .ports = true) (h_ctr : μ .ctr = true) (h_out : μ .out = true) (p : Nat) (s : State) {t : State} (h : execLpiExit p s = .next t) : view μ t = view μ s := by
  simp only [execLpiExit, Host.Outcome.next.injEq] at h
  subst h
  repeat' split
  all_goals (first | with_reducible rfl | (simp [h_ports, h_ctr, h_out]; done))

theorem view_execPartnerLpi {μ : StatePart → Bool} (h_ports : μ .ports = true) (h_ctr : μ .ctr = true) (p : Nat) (level : Bool) (s : State) {t : State} (h : execPartnerLpi p level s = .next t) : view μ t = view μ s := by
  simp only [execPartnerLpi, Host.Outcome.next.injEq] at h
  subst h
  repeat' split
  all_goals (first | with_reducible rfl | (simp [h_ports, h_ctr]; done))

theorem view_execPreemptVerify {μ : StatePart → Bool} (h_ports : μ .ports = true) (p : Nat) (event : VerifyEvent) (s : State) {t : State} (h : execPreemptVerify p event s = .next t) : view μ t = view μ s := by
  simp only [execPreemptVerify, Host.Outcome.next.injEq] at h
  subst h
  repeat' split
  all_goals (first | with_reducible rfl | (simp [h_ports]; done))

theorem view_execClassify {μ : StatePart → Bool} (h_tables : μ .tables = true) (h_ports : μ .ports = true) (h_slices : μ .slices = true) (h_buf : μ .buf = true) (h_tm : μ .tm = true) (h_flows : μ .flows = true) (h_cap : μ .cap = true) (h_eng : μ .eng = true) (h_time : μ .time = true) (h_otd : μ .otd = true) (h_sez : μ .sez = true) (h_hq : μ .hq = true) (h_irq : μ .irq = true) (h_pwr : μ .pwr = true) (h_badger : μ .badger = true) (h_ctr : μ .ctr = true) (h_out : μ .out = true) (h_fresh : μ .fresh = true) (sl : Nat) (faults : LookupFaults) (s : State) {t : State} (h : execClassify sl faults s = .next t) : view μ t = view μ s := by
  simp only [execClassify, Host.Outcome.next.injEq] at h
  subst h
  repeat' split
  all_goals (first | with_reducible rfl | (simp [h_tables, h_ports, h_slices, h_buf, h_tm, h_flows, h_cap, h_eng, h_time, h_otd, h_sez, h_hq, h_irq, h_pwr, h_badger, h_ctr, h_out, h_fresh]; done))

theorem view_execEngineFault {μ : StatePart → Bool} (h_tables : μ .tables = true) (h_ports : μ .ports = true) (h_slices : μ .slices = true) (h_buf : μ .buf = true) (h_tm : μ .tm = true) (h_flows : μ .flows = true) (h_cap : μ .cap = true) (h_eng : μ .eng = true) (h_time : μ .time = true) (h_otd : μ .otd = true) (h_sez : μ .sez = true) (h_hq : μ .hq = true) (h_irq : μ .irq = true) (h_pwr : μ .pwr = true) (h_badger : μ .badger = true) (h_ctr : μ .ctr = true) (h_out : μ .out = true) (h_fresh : μ .fresh = true) (g : Nat) (fault : EngineFault) (s : State) {t : State} (h : execEngineFault g fault s = .next t) : view μ t = view μ s := by
  simp only [execEngineFault, Host.Outcome.next.injEq] at h
  subst h
  repeat' split
  all_goals (first | with_reducible rfl | (simp [h_tables, h_ports, h_slices, h_buf, h_tm, h_flows, h_cap, h_eng, h_time, h_otd, h_sez, h_hq, h_irq, h_pwr, h_badger, h_ctr, h_out, h_fresh]; done))

theorem view_execEngineReset {μ : StatePart → Bool} (h_mb : μ .mb = true) (h_adm : μ .adm = true) (h_tables : μ .tables = true) (h_ports : μ .ports = true) (h_slices : μ .slices = true) (h_buf : μ .buf = true) (h_tm : μ .tm = true) (h_flows : μ .flows = true) (h_cap : μ .cap = true) (h_eng : μ .eng = true) (h_time : μ .time = true) (h_otd : μ .otd = true) (h_sez : μ .sez = true) (h_hq : μ .hq = true) (h_irq : μ .irq = true) (h_pwr : μ .pwr = true) (h_badger : μ .badger = true) (h_ctr : μ .ctr = true) (h_out : μ .out = true) (h_fresh : μ .fresh = true) (e : Env) (s : State) {t : State} (h : execEngineReset e s = .next t) : view μ t = view μ s := by
  simp only [execEngineReset, Host.Outcome.next.injEq] at h
  subst h
  repeat' split
  all_goals (first | with_reducible rfl | (simp [h_mb, h_adm, h_tables, h_ports, h_slices, h_buf, h_tm, h_flows, h_cap, h_eng, h_time, h_otd, h_sez, h_hq, h_irq, h_pwr, h_badger, h_ctr, h_out, h_fresh]; done))

theorem view_execCellWrite {μ : StatePart → Bool} (h_ports : μ .ports = true) (h_slices : μ .slices = true) (h_buf : μ .buf = true) (h_tm : μ .tm = true) (h_cap : μ .cap = true) (h_hq : μ .hq = true) (h_ctr : μ .ctr = true) (h_out : μ .out = true) (h_fresh : μ .fresh = true) (sl : Nat) (banks : BankClock) (s : State) {t : State} (h : execCellWrite sl s banks = .next t) : view μ t = view μ s := by
  simp only [execCellWrite, Host.Outcome.next.injEq] at h
  subst h
  split
  · rfl
  · split
    · rfl
    · split
      · rfl
      · simp [h_ports, h_slices, h_buf, h_tm, h_cap, h_hq, h_ctr, h_out, h_fresh]
      · rename_i hw
        rw [← view_writeCell h_buf h_fresh hw]
        try dsimp only
        repeat' split
        all_goals simp [h_ports, h_slices, h_buf, h_tm, h_cap, h_hq, h_ctr, h_out, h_fresh]

theorem view_execAdmit {μ : StatePart → Bool} (h_tables : μ .tables = true) (h_ports : μ .ports = true) (h_slices : μ .slices = true) (h_buf : μ .buf = true) (h_tm : μ .tm = true) (h_flows : μ .flows = true) (h_cap : μ .cap = true) (h_eng : μ .eng = true) (h_hq : μ .hq = true) (h_irq : μ .irq = true) (h_pwr : μ .pwr = true) (h_badger : μ .badger = true) (h_ctr : μ .ctr = true) (h_out : μ .out = true) (h_fresh : μ .fresh = true) (sl : Nat) (reads : CtxReads) (s : State) {t : State} (h : execAdmit sl s reads = .next t) : view μ t = view μ s := by
  simp only [execAdmit, Host.Outcome.next.injEq] at h
  subst h
  repeat' split
  all_goals (first | with_reducible rfl | (simp [h_tables, h_ports, h_slices, h_buf, h_tm, h_flows, h_cap, h_eng, h_hq, h_irq, h_pwr, h_badger, h_ctr, h_out, h_fresh]; done))

theorem view_execHandoff {μ : StatePart → Bool} (h_tables : μ .tables = true) (h_ports : μ .ports = true) (h_slices : μ .slices = true) (h_buf : μ .buf = true) (h_tm : μ .tm = true) (h_flows : μ .flows = true) (h_cap : μ .cap = true) (h_eng : μ .eng = true) (h_hq : μ .hq = true) (h_irq : μ .irq = true) (h_pwr : μ .pwr = true) (h_badger : μ .badger = true) (h_ctr : μ .ctr = true) (h_out : μ .out = true) (h_fresh : μ .fresh = true) (f sl : Nat) (reads : CtxReads) (s : State) {t : State} (h : execHandoff f sl s reads = .next t) : view μ t = view μ s := by
  simp only [execHandoff, Host.Outcome.next.injEq] at h
  subst h
  repeat' split
  all_goals (first | with_reducible rfl | (simp [h_tables, h_ports, h_slices, h_buf, h_tm, h_flows, h_cap, h_eng, h_hq, h_irq, h_pwr, h_badger, h_ctr, h_out, h_fresh]; done))

theorem view_execQueueMapSet {μ : StatePart → Bool} (h_mb : μ .mb = true) (h_adm : μ .adm = true) (h_quad : μ .quad = true) (h_bank0 : μ .bank0 = true) (h_bank1 : μ .bank1 = true) (h_ports : μ .ports = true) (h_slices : μ .slices = true) (h_buf : μ .buf = true) (h_tm : μ .tm = true) (h_gate : μ .gate = true) (h_flows : μ .flows = true) (h_cap : μ .cap = true) (h_otd : μ .otd = true) (h_hq : μ .hq = true) (h_irq : μ .irq = true) (h_pwr : μ .pwr = true) (h_ctr : μ .ctr = true) (h_out : μ .out = true) (h_fresh : μ .fresh = true) (e : Env) (s : State) {t : State} (h : execQueueMapSet e s = .next t) : view μ t = view μ s := by
  simp only [execQueueMapSet, Host.Outcome.next.injEq] at h
  subst h
  repeat' split
  all_goals (first | with_reducible rfl | (simp [h_mb, h_adm, h_quad, h_bank0, h_bank1, h_ports, h_slices, h_buf, h_tm, h_gate, h_flows, h_cap, h_otd, h_hq, h_irq, h_pwr, h_ctr, h_out, h_fresh]; done))

theorem view_execSchedSet {μ : StatePart → Bool} (h_mb : μ .mb = true) (h_adm : μ .adm = true) (h_quad : μ .quad = true) (h_bank0 : μ .bank0 = true) (h_bank1 : μ .bank1 = true) (h_ports : μ .ports = true) (h_slices : μ .slices = true) (h_buf : μ .buf = true) (h_tm : μ .tm = true) (h_gate : μ .gate = true) (h_flows : μ .flows = true) (h_cap : μ .cap = true) (h_otd : μ .otd = true) (h_hq : μ .hq = true) (h_irq : μ .irq = true) (h_pwr : μ .pwr = true) (h_ctr : μ .ctr = true) (h_out : μ .out = true) (h_fresh : μ .fresh = true) (e : Env) (s : State) {t : State} (h : execSchedSet e s = .next t) : view μ t = view μ s := by
  simp only [execSchedSet, Host.Outcome.next.injEq] at h
  subst h
  repeat' split
  all_goals (first | with_reducible rfl | (simp [h_mb, h_adm, h_quad, h_bank0, h_bank1, h_ports, h_slices, h_buf, h_tm, h_gate, h_flows, h_cap, h_otd, h_hq, h_irq, h_pwr, h_ctr, h_out, h_fresh]; done))

theorem view_execShaperSet {μ : StatePart → Bool} (h_mb : μ .mb = true) (h_adm : μ .adm = true) (h_quad : μ .quad = true) (h_bank0 : μ .bank0 = true) (h_bank1 : μ .bank1 = true) (h_ports : μ .ports = true) (h_slices : μ .slices = true) (h_buf : μ .buf = true) (h_tm : μ .tm = true) (h_gate : μ .gate = true) (h_flows : μ .flows = true) (h_cap : μ .cap = true) (h_otd : μ .otd = true) (h_hq : μ .hq = true) (h_irq : μ .irq = true) (h_pwr : μ .pwr = true) (h_ctr : μ .ctr = true) (h_out : μ .out = true) (h_fresh : μ .fresh = true) (e : Env) (s : State) {t : State} (h : execShaperSet e s = .next t) : view μ t = view μ s := by
  simp only [execShaperSet, Host.Outcome.next.injEq] at h
  subst h
  repeat' split
  all_goals (first | with_reducible rfl | (simp [h_mb, h_adm, h_quad, h_bank0, h_bank1, h_ports, h_slices, h_buf, h_tm, h_gate, h_flows, h_cap, h_otd, h_hq, h_irq, h_pwr, h_ctr, h_out, h_fresh]; done))

theorem view_execPolicerSet {μ : StatePart → Bool} (h_mb : μ .mb = true) (h_adm : μ .adm = true) (h_quad : μ .quad = true) (h_bank0 : μ .bank0 = true) (h_bank1 : μ .bank1 = true) (h_ports : μ .ports = true) (h_slices : μ .slices = true) (h_buf : μ .buf = true) (h_tm : μ .tm = true) (h_gate : μ .gate = true) (h_flows : μ .flows = true) (h_cap : μ .cap = true) (h_otd : μ .otd = true) (h_hq : μ .hq = true) (h_irq : μ .irq = true) (h_pwr : μ .pwr = true) (h_ctr : μ .ctr = true) (h_out : μ .out = true) (h_fresh : μ .fresh = true) (e : Env) (s : State) {t : State} (h : execPolicerSet e s = .next t) : view μ t = view μ s := by
  simp only [execPolicerSet, Host.Outcome.next.injEq] at h
  subst h
  repeat' split
  all_goals (first | with_reducible rfl | (simp [h_mb, h_adm, h_quad, h_bank0, h_bank1, h_ports, h_slices, h_buf, h_tm, h_gate, h_flows, h_cap, h_otd, h_hq, h_irq, h_pwr, h_ctr, h_out, h_fresh]; done))

theorem view_execStreamFilterSet {μ : StatePart → Bool} (h_mb : μ .mb = true) (h_adm : μ .adm = true) (h_quad : μ .quad = true) (h_bank0 : μ .bank0 = true) (h_bank1 : μ .bank1 = true) (h_ports : μ .ports = true) (h_slices : μ .slices = true) (h_buf : μ .buf = true) (h_tm : μ .tm = true) (h_gate : μ .gate = true) (h_flows : μ .flows = true) (h_cap : μ .cap = true) (h_otd : μ .otd = true) (h_hq : μ .hq = true) (h_irq : μ .irq = true) (h_pwr : μ .pwr = true) (h_ctr : μ .ctr = true) (h_out : μ .out = true) (h_fresh : μ .fresh = true) (e : Env) (s : State) {t : State} (h : execStreamFilterSet e s = .next t) : view μ t = view μ s := by
  simp only [execStreamFilterSet, Host.Outcome.next.injEq] at h
  subst h
  repeat' split
  all_goals (first | with_reducible rfl | (simp [h_mb, h_adm, h_quad, h_bank0, h_bank1, h_ports, h_slices, h_buf, h_tm, h_gate, h_flows, h_cap, h_otd, h_hq, h_irq, h_pwr, h_ctr, h_out, h_fresh]; done))

theorem view_execSampleCfg {μ : StatePart → Bool} (h_mb : μ .mb = true) (h_adm : μ .adm = true) (h_quad : μ .quad = true) (h_bank0 : μ .bank0 = true) (h_bank1 : μ .bank1 = true) (h_ports : μ .ports = true) (h_slices : μ .slices = true) (h_buf : μ .buf = true) (h_tm : μ .tm = true) (h_gate : μ .gate = true) (h_flows : μ .flows = true) (h_cap : μ .cap = true) (h_otd : μ .otd = true) (h_hq : μ .hq = true) (h_irq : μ .irq = true) (h_pwr : μ .pwr = true) (h_ctr : μ .ctr = true) (h_out : μ .out = true) (h_fresh : μ .fresh = true) (e : Env) (s : State) {t : State} (h : execSampleCfg e s = .next t) : view μ t = view μ s := by
  simp only [execSampleCfg, Host.Outcome.next.injEq] at h
  subst h
  repeat' split
  all_goals (first | with_reducible rfl | (simp [h_mb, h_adm, h_quad, h_bank0, h_bank1, h_ports, h_slices, h_buf, h_tm, h_gate, h_flows, h_cap, h_otd, h_hq, h_irq, h_pwr, h_ctr, h_out, h_fresh]; done))

theorem view_execTmStatus {μ : StatePart → Bool} (h_mb : μ .mb = true) (h_adm : μ .adm = true) (h_tm : μ .tm = true) (h_otd : μ .otd = true) (h_hq : μ .hq = true) (h_ctr : μ .ctr = true) (h_out : μ .out = true) (e : Env) (s : State) {t : State} (h : execTmStatus e s = .next t) : view μ t = view μ s := by
  simp only [execTmStatus, Host.Outcome.next.injEq] at h
  subst h
  repeat' split
  all_goals (first | with_reducible rfl | (simp [h_mb, h_adm, h_tm, h_otd, h_hq, h_ctr, h_out]; done))

theorem view_execSample {μ : StatePart → Bool} (h_tm : μ .tm = true) (h_cap : μ .cap = true) (h_ctr : μ .ctr = true) (h_out : μ .out = true) (p : Nat) (s : State) {t : State} (h : execSample p s = .next t) : view μ t = view μ s := by
  unfold execSample at h
  try dsimp only at h
  repeat' split at h
  all_goals
    simp only [Host.Outcome.next.injEq] at h
    subst h
    first | with_reducible rfl | (simp [h_tm, h_cap, h_ctr, h_out]; done) | (repeat' split) <;> simp [h_tm, h_cap, h_ctr, h_out]

theorem view_execFoxtrotRingSet {μ : StatePart → Bool} (h_mb : μ .mb = true) (h_adm : μ .adm = true) (h_cap : μ .cap = true) (h_otd : μ .otd = true) (h_hq : μ .hq = true) (h_out : μ .out = true) (e : Env) (s : State) {t : State} (h : execFoxtrotRingSet e s = .next t) : view μ t = view μ s := by
  simp only [execFoxtrotRingSet, Host.Outcome.next.injEq] at h
  subst h
  refine view_runOk h_mb h_adm h_otd h_hq h_out _ _ _ _ _ _ (fun s => ?_) _
  repeat' split
  all_goals simp [h_mb, h_adm, h_cap, h_otd, h_hq, h_out]

theorem view_execCapRuleSet {μ : StatePart → Bool} (h_mb : μ .mb = true) (h_adm : μ .adm = true) (h_quad : μ .quad = true) (h_bank0 : μ .bank0 = true) (h_bank1 : μ .bank1 = true) (h_ports : μ .ports = true) (h_slices : μ .slices = true) (h_buf : μ .buf = true) (h_tm : μ .tm = true) (h_gate : μ .gate = true) (h_flows : μ .flows = true) (h_cap : μ .cap = true) (h_otd : μ .otd = true) (h_hq : μ .hq = true) (h_irq : μ .irq = true) (h_pwr : μ .pwr = true) (h_ctr : μ .ctr = true) (h_out : μ .out = true) (h_fresh : μ .fresh = true) (e : Env) (s : State) {t : State} (h : execCapRuleSet e s = .next t) : view μ t = view μ s := by
  simp only [execCapRuleSet, Host.Outcome.next.injEq] at h
  subst h
  repeat' split
  all_goals (first | with_reducible rfl | (simp [h_mb, h_adm, h_quad, h_bank0, h_bank1, h_ports, h_slices, h_buf, h_tm, h_gate, h_flows, h_cap, h_otd, h_hq, h_irq, h_pwr, h_ctr, h_out, h_fresh]; done))

theorem view_execMirrorSet {μ : StatePart → Bool} (h_mb : μ .mb = true) (h_adm : μ .adm = true) (h_quad : μ .quad = true) (h_bank0 : μ .bank0 = true) (h_bank1 : μ .bank1 = true) (h_ports : μ .ports = true) (h_slices : μ .slices = true) (h_buf : μ .buf = true) (h_tm : μ .tm = true) (h_gate : μ .gate = true) (h_flows : μ .flows = true) (h_cap : μ .cap = true) (h_otd : μ .otd = true) (h_hq : μ .hq = true) (h_irq : μ .irq = true) (h_pwr : μ .pwr = true) (h_ctr : μ .ctr = true) (h_out : μ .out = true) (h_fresh : μ .fresh = true) (e : Env) (s : State) {t : State} (h : execMirrorSet e s = .next t) : view μ t = view μ s := by
  simp only [execMirrorSet, Host.Outcome.next.injEq] at h
  subst h
  repeat' split
  all_goals (first | with_reducible rfl | (simp [h_mb, h_adm, h_quad, h_bank0, h_bank1, h_ports, h_slices, h_buf, h_tm, h_gate, h_flows, h_cap, h_otd, h_hq, h_irq, h_pwr, h_ctr, h_out, h_fresh]; done))

theorem view_execCapEnable {μ : StatePart → Bool} (h_mb : μ .mb = true) (h_adm : μ .adm = true) (h_quad : μ .quad = true) (h_bank0 : μ .bank0 = true) (h_bank1 : μ .bank1 = true) (h_ports : μ .ports = true) (h_slices : μ .slices = true) (h_buf : μ .buf = true) (h_tm : μ .tm = true) (h_gate : μ .gate = true) (h_flows : μ .flows = true) (h_cap : μ .cap = true) (h_otd : μ .otd = true) (h_hq : μ .hq = true) (h_irq : μ .irq = true) (h_pwr : μ .pwr = true) (h_ctr : μ .ctr = true) (h_out : μ .out = true) (h_fresh : μ .fresh = true) (e : Env) (s : State) {t : State} (h : execCapEnable e s = .next t) : view μ t = view μ s := by
  simp only [execCapEnable, Host.Outcome.next.injEq] at h
  subst h
  repeat' split
  all_goals (first | with_reducible rfl | (simp [h_mb, h_adm, h_quad, h_bank0, h_bank1, h_ports, h_slices, h_buf, h_tm, h_gate, h_flows, h_cap, h_otd, h_hq, h_irq, h_pwr, h_ctr, h_out, h_fresh]; done))

theorem view_execFoxtrotRecordWrite {μ : StatePart → Bool} (h_cap : μ .cap = true) (h_irq : μ .irq = true) (h_pwr : μ .pwr = true) (h_ctr : μ .ctr = true) (h_out : μ .out = true) (ring : Nat) (s : State) {t : State} (h : execFoxtrotRecordWrite ring s = .next t) : view μ t = view μ s := by
  unfold execFoxtrotRecordWrite at h
  try dsimp only at h
  repeat' split at h
  all_goals
    simp only [Host.Outcome.next.injEq] at h
    subst h
    first | with_reducible rfl | (simp [h_cap, h_irq, h_pwr, h_ctr, h_out]; done) | (repeat' split) <;> simp [h_cap, h_irq, h_pwr, h_ctr, h_out]

theorem view_execFoxtrotConsPoll {μ : StatePart → Bool} (h_cap : μ .cap = true) (h_out : μ .out = true) (ring : Nat) (word : Word) (s : State) {t : State} (h : execFoxtrotConsPoll ring word s = .next t) : view μ t = view μ s := by
  unfold execFoxtrotConsPoll at h
  try dsimp only at h
  repeat' split at h
  all_goals
    simp only [Host.Outcome.next.injEq] at h
    subst h
    first | with_reducible rfl | (simp [h_cap, h_out]; done) | (repeat' split) <;> simp [h_cap, h_out]

theorem view_execMcastStoreExpiry {μ : StatePart → Bool} (h_buf : μ .buf = true) (sl f : Nat) (s : State) {t : State} (h : execMcastStoreExpiry sl f s = .next t) : view μ t = view μ s := by
  simp only [execMcastStoreExpiry, Host.Outcome.next.injEq] at h
  subst h
  repeat' split
  all_goals (first | with_reducible rfl | (simp [h_buf]; done))

theorem view_execSchedRelease {μ : StatePart → Bool} (h_mb : μ .mb = true) (h_adm : μ .adm = true) (h_tables : μ .tables = true) (h_ports : μ .ports = true) (h_slices : μ .slices = true) (h_buf : μ .buf = true) (h_tm : μ .tm = true) (h_flows : μ .flows = true) (h_cap : μ .cap = true) (h_eng : μ .eng = true) (h_time : μ .time = true) (h_otd : μ .otd = true) (h_hq : μ .hq = true) (h_dma : μ .dma = true) (h_irq : μ .irq = true) (h_pwr : μ .pwr = true) (h_badger : μ .badger = true) (h_ctr : μ .ctr = true) (h_hpt : μ .hpt = true) (h_out : μ .out = true) (h_fresh : μ .fresh = true) (p : Nat) (reads : CellReads) (s : State) {t : State} (h : execSchedRelease p reads s = .next t) : view μ t = view μ s := by
  simp only [execSchedRelease, Host.Outcome.next.injEq] at h
  subst h
  repeat' split
  all_goals (first | with_reducible rfl | (simp [h_mb, h_adm, h_tables, h_ports, h_slices, h_buf, h_tm, h_flows, h_cap, h_eng, h_time, h_otd, h_hq, h_dma, h_irq, h_pwr, h_badger, h_ctr, h_hpt, h_out, h_fresh]; done))

theorem view_execE3Pass {μ : StatePart → Bool} (h_ports : μ .ports = true) (h_slices : μ .slices = true) (h_buf : μ .buf = true) (h_flows : μ .flows = true) (h_cap : μ .cap = true) (h_eng : μ .eng = true) (h_hq : μ .hq = true) (h_irq : μ .irq = true) (h_pwr : μ .pwr = true) (h_badger : μ .badger = true) (h_ctr : μ .ctr = true) (h_out : μ .out = true) (h_fresh : μ .fresh = true) (p : Nat) (faults : LookupFaults) (s : State) {t : State} (h : execE3Pass p faults s = .next t) : view μ t = view μ s := by
  simp only [execE3Pass, Host.Outcome.next.injEq] at h
  subst h
  repeat' split
  all_goals first
    | with_reducible rfl
    | (simp [h_ports, h_slices, h_buf, h_flows, h_cap, h_eng, h_hq, h_irq, h_pwr, h_badger, h_ctr, h_out, h_fresh]; done)
    | (rename_i hd; rw [view_egressDrop_some h_ports h_buf h_cap h_hq h_ctr h_out hd]; simp [h_ports, h_slices, h_buf, h_flows, h_cap, h_eng, h_hq, h_irq, h_pwr, h_badger, h_ctr, h_out, h_fresh]; done)
    | (rename_i hd; simp [view_egressDrop_none h_ports h_buf h_cap h_hq h_ctr h_out hd, h_ports, h_slices, h_buf, h_flows, h_cap, h_eng, h_hq, h_irq, h_pwr, h_badger, h_ctr, h_out, h_fresh]; done)
    | (rename_i hd _; simp [view_egressDrop_none h_ports h_buf h_cap h_hq h_ctr h_out hd, h_ports, h_slices, h_buf, h_flows, h_cap, h_eng, h_hq, h_irq, h_pwr, h_badger, h_ctr, h_out, h_fresh]; done)

theorem view_execDoneLogConsume {μ : StatePart → Bool} (h_ports : μ .ports = true) (h_slices : μ .slices = true) (h_buf : μ .buf = true) (h_tm : μ .tm = true) (h_hq : μ .hq = true) (h_ctr : μ .ctr = true) (sl : Nat) (s : State) {t : State} (h : execDoneLogConsume sl s = .next t) : view μ t = view μ s := by
  simp only [execDoneLogConsume, Host.Outcome.next.injEq] at h
  subst h
  repeat' split
  all_goals (first | with_reducible rfl | (simp [h_ports, h_slices, h_buf, h_tm, h_hq, h_ctr]; done))

theorem view_execSliceCoreRecover {μ : StatePart → Bool} (h_mb : μ .mb = true) (h_adm : μ .adm = true) (h_ports : μ .ports = true) (h_slices : μ .slices = true) (h_buf : μ .buf = true) (h_tm : μ .tm = true) (h_otd : μ .otd = true) (h_hq : μ .hq = true) (h_badger : μ .badger = true) (h_ctr : μ .ctr = true) (h_out : μ .out = true) (sl : Nat) (s : State) {t : State} (h : execSliceCoreRecover sl s = .next t) : view μ t = view μ s := by
  simp only [execSliceCoreRecover, Host.Outcome.next.injEq] at h
  subst h
  repeat' split
  all_goals (first | with_reducible rfl | (simp [h_mb, h_adm, h_ports, h_slices, h_buf, h_tm, h_otd, h_hq, h_badger, h_ctr, h_out]; done))

theorem view_execAgeScan {μ : StatePart → Bool} (h_ports : μ .ports = true) (h_buf : μ .buf = true) (h_tm : μ .tm = true) (h_flows : μ .flows = true) (h_cap : μ .cap = true) (h_hq : μ .hq = true) (h_irq : μ .irq = true) (h_pwr : μ .pwr = true) (h_ctr : μ .ctr = true) (h_out : μ .out = true) (sl : Nat) (s : State) {t : State} (h : execAgeScan sl s = .next t) : view μ t = view μ s := by
  simp only [execAgeScan, Host.Outcome.next.injEq] at h
  subst h
  repeat' split
  all_goals (first | with_reducible rfl | (simp [h_ports, h_buf, h_tm, h_flows, h_cap, h_hq, h_irq, h_pwr, h_ctr, h_out]; done))

theorem view_execDuplicateEntryForget {μ : StatePart → Bool} (h_flows : μ .flows = true) (node sa : Nat) (s : State) {t : State} (h : execDuplicateEntryForget node sa s = .next t) : view μ t = view μ s := by
  simp only [execDuplicateEntryForget, Host.Outcome.next.injEq] at h
  subst h
  repeat' split
  all_goals (first | with_reducible rfl | (simp [h_flows]; done))

theorem view_execTxStart {μ : StatePart → Bool} (h_ports : μ .ports = true) (h_slices : μ .slices = true) (h_buf : μ .buf = true) (h_hq : μ .hq = true) (h_ctr : μ .ctr = true) (p : Nat) (tx : TxFirst) (s : State) {t : State} (h : execTxStart p tx s = .next t) : view μ t = view μ s := by
  simp only [execTxStart, Host.Outcome.next.injEq] at h
  subst h
  repeat' split
  all_goals (first | with_reducible rfl | (simp [h_ports, h_slices, h_buf, h_hq, h_ctr]; done))

theorem view_execTxDone {μ : StatePart → Bool} (h_ports : μ .ports = true) (h_slices : μ .slices = true) (h_buf : μ .buf = true) (h_cap : μ .cap = true) (h_time : μ .time = true) (h_otd : μ .otd = true) (h_hq : μ .hq = true) (h_ctr : μ .ctr = true) (h_out : μ .out = true) (p : Nat) (s : State) {t : State} (h : execTxDone p s = .next t) : view μ t = view μ s := by
  simp only [execTxDone, Host.Outcome.next.injEq] at h
  subst h
  repeat' split
  all_goals (first | with_reducible rfl | (simp [h_ports, h_slices, h_buf, h_cap, h_time, h_otd, h_hq, h_ctr, h_out]; done))

theorem view_execTxStomp {μ : StatePart → Bool} (h_ports : μ .ports = true) (h_slices : μ .slices = true) (h_buf : μ .buf = true) (h_cap : μ .cap = true) (h_otd : μ .otd = true) (h_hq : μ .hq = true) (h_ctr : μ .ctr = true) (h_out : μ .out = true) (h_fresh : μ .fresh = true) (p : Nat) (cause : StompCause) (s : State) {t : State} (h : execTxStomp p cause s = .next t) : view μ t = view μ s := by
  simp only [execTxStomp, Host.Outcome.next.injEq] at h
  subst h
  repeat' split
  all_goals (first | with_reducible rfl | (simp [h_ports, h_slices, h_buf, h_cap, h_otd, h_hq, h_ctr, h_out, h_fresh]; done))

theorem view_execTxHint {μ : StatePart → Bool} (h_ports : μ .ports = true) (h_ctr : μ .ctr = true) (p hint : Nat) (early : Bool) (s : State) {t : State} (h : execTxHint p hint s early = .next t) : view μ t = view μ s := by
  simp only [execTxHint, Host.Outcome.next.injEq] at h
  subst h
  repeat' split
  all_goals (first | with_reducible rfl | (simp [h_ports, h_ctr]; done))

theorem view_execHintMissing {μ : StatePart → Bool} (h_ports : μ .ports = true) (h_ctr : μ .ctr = true) (p : Nat) (s : State) {t : State} (h : execHintMissing p s = .next t) : view μ t = view μ s := by
  simp only [execHintMissing, Host.Outcome.next.injEq] at h
  subst h
  repeat' split
  all_goals (first | with_reducible rfl | (simp [h_ports, h_ctr]; done))

theorem view_execStall {μ : StatePart → Bool} (h_ctr : μ .ctr = true) (p : Nat) (s : State) {t : State} (h : execStall p s = .next t) : view μ t = view μ s := by
  simp only [execStall, Host.Outcome.next.injEq] at h
  subst h
  repeat' split
  all_goals (first | with_reducible rfl | (simp [h_ctr]; done))

theorem view_execHeadWb {μ : StatePart → Bool} (h_hq : μ .hq = true) (h_out : μ .out = true) (n : Nat) (s : State) {t : State} (h : execHeadWb n s = .next t) : view μ t = view μ s := by
  simp only [execHeadWb, Host.Outcome.next.injEq] at h
  subst h
  repeat' split
  all_goals (first | with_reducible rfl | (simp [h_hq, h_out]; done))

theorem view_execHeadWbAck {μ : StatePart → Bool} (h_hq : μ .hq = true) (n : Nat) (s : State) {t : State} (h : execHeadWbAck n s = .next t) : view μ t = view μ s := by
  simp only [execHeadWbAck, Host.Outcome.next.injEq] at h
  subst h
  repeat' split
  all_goals (first | with_reducible rfl | (simp [h_hq]; done))

theorem view_execTx {μ : StatePart → Bool} (h_adm : μ .adm = true) (h_hq : μ .hq = true) (h_irq : μ .irq = true) (h_pwr : μ .pwr = true) (h_ctr : μ .ctr = true) (h_out : μ .out = true) (n : Nat) (s : State) {t : State} (h : execTx n s = .next t) : view μ t = view μ s := by
  simp only [execTx, Host.Outcome.next.injEq] at h
  subst h
  repeat' split
  all_goals (first | with_reducible rfl | (simp [h_adm, h_hq, h_irq, h_pwr, h_ctr, h_out]; done))

theorem view_execEntryFetch {μ : StatePart → Bool} (h_adm : μ .adm = true) (h_hq : μ .hq = true) (h_irq : μ .irq = true) (h_pwr : μ .pwr = true) (h_ctr : μ .ctr = true) (h_out : μ .out = true) (n : Nat) (entry : Fetched) (s : State) {t : State} (h : execEntryFetch n entry s = .next t) : view μ t = view μ s := by
  simp only [execEntryFetch, Host.Outcome.next.injEq] at h
  subst h
  repeat' split
  all_goals (first | with_reducible rfl | (simp [h_adm, h_hq, h_irq, h_pwr, h_ctr, h_out]; done))

theorem view_execPhaseRetry {μ : StatePart → Bool} (h_adm : μ .adm = true) (h_hq : μ .hq = true) (h_irq : μ .irq = true) (h_pwr : μ .pwr = true) (h_ctr : μ .ctr = true) (h_out : μ .out = true) (n : Nat) (entry : Fetched) (s : State) {t : State} (h : execPhaseRetry n entry s = .next t) : view μ t = view μ s := by
  simp only [execPhaseRetry, Host.Outcome.next.injEq] at h
  subst h
  repeat' split
  all_goals (first | with_reducible rfl | (simp [h_adm, h_hq, h_irq, h_pwr, h_ctr, h_out]; done))

theorem view_execSqDb {μ : StatePart → Bool} (h_adm : μ .adm = true) (h_hq : μ .hq = true) (h_irq : μ .irq = true) (h_pwr : μ .pwr = true) (h_ctr : μ .ctr = true) (h_hpt : μ .hpt = true) (h_out : μ .out = true) (n : Nat) (data : Word) (s : State) {t : State} (h : execSqDb n data s = .next t) : view μ t = view μ s := by
  simp only [execSqDb, Host.Outcome.next.injEq] at h
  subst h
  refine view_viaHst h_pwr h_hpt _ _ (fun s => ?_) _
  try dsimp only
  repeat' split
  all_goals (first | with_reducible rfl | (simp [h_adm, h_hq, h_irq, h_pwr, h_ctr, h_hpt, h_out]; done))

theorem view_execCqDb {μ : StatePart → Bool} (h_adm : μ .adm = true) (h_hq : μ .hq = true) (h_irq : μ .irq = true) (h_pwr : μ .pwr = true) (h_ctr : μ .ctr = true) (h_hpt : μ .hpt = true) (h_out : μ .out = true) (r : Nat) (data : Word) (s : State) {t : State} (h : execCqDb r data s = .next t) : view μ t = view μ s := by
  simp only [execCqDb, Host.Outcome.next.injEq] at h
  subst h
  refine view_viaHst h_pwr h_hpt _ _ (fun s => ?_) _
  try dsimp only
  repeat' split
  all_goals (first | with_reducible rfl | (simp [h_adm, h_hq, h_irq, h_pwr, h_ctr, h_hpt, h_out]; done))

theorem view_execCompletionWrite {μ : StatePart → Bool} (h_mb : μ .mb = true) (h_adm : μ .adm = true) (h_ports : μ .ports = true) (h_slices : μ .slices = true) (h_buf : μ .buf = true) (h_otd : μ .otd = true) (h_hq : μ .hq = true) (h_ctr : μ .ctr = true) (h_out : μ .out = true) (n pos : Nat) (s0 : State) {t : State} (h : execCompletionWrite n pos s0 = .next t) : view μ t = view μ s0 := by
  simp only [execCompletionWrite, Host.Outcome.next.injEq] at h
  subst h
  repeat' split
  all_goals (first | with_reducible rfl | (simp [h_mb, h_adm, h_ports, h_slices, h_buf, h_otd, h_hq, h_ctr, h_out]; done))

theorem view_execCompletionAck {μ : StatePart → Bool} (h_mb : μ .mb = true) (h_boot : μ .boot = true) (h_adm : μ .adm = true) (h_quad : μ .quad = true) (h_ports : μ .ports = true) (h_slices : μ .slices = true) (h_buf : μ .buf = true) (h_eng : μ .eng = true) (h_sez : μ .sez = true) (h_hq : μ .hq = true) (h_irq : μ .irq = true) (h_pwr : μ .pwr = true) (h_badger : μ .badger = true) (h_ctr : μ .ctr = true) (h_out : μ .out = true) (n pos : Nat) (s : State) {t : State} (h : execCompletionAck n pos s = .next t) : view μ t = view μ s := by
  simp only [execCompletionAck, Host.Outcome.next.injEq] at h
  subst h
  repeat' split
  all_goals (first | with_reducible rfl | (simp [h_mb, h_boot, h_adm, h_quad, h_ports, h_slices, h_buf, h_eng, h_sez, h_hq, h_irq, h_pwr, h_badger, h_ctr, h_out]; done))

theorem view_execCoalesceTimer {μ : StatePart → Bool} (h_cap : μ .cap = true) (h_hq : μ .hq = true) (h_irq : μ .irq = true) (h_pwr : μ .pwr = true) (h_out : μ .out = true) (kind : RingKind) (id : Nat) (s : State) {t : State} (h : execCoalesceTimer kind id s = .next t) : view μ t = view μ s := by
  simp only [execCoalesceTimer, Host.Outcome.next.injEq] at h
  subst h
  repeat' split
  all_goals (first | with_reducible rfl | (simp [h_cap, h_hq, h_irq, h_pwr, h_out]; done))

theorem view_execNop {μ : StatePart → Bool} (h_hq : μ .hq = true) (n : Nat) (s : State) {t : State} (h : execNop n s = .next t) : view μ t = view μ s := by
  simp only [execNop, Host.Outcome.next.injEq] at h
  subst h
  repeat' split
  all_goals (first | with_reducible rfl | (simp [h_hq]; done))

theorem view_execAlloc {μ : StatePart → Bool} (h_buf : μ .buf = true) (h_hq : μ .hq = true) (h_irq : μ .irq = true) (h_pwr : μ .pwr = true) (h_ctr : μ .ctr = true) (h_out : μ .out = true) (h_fresh : μ .fresh = true) (n : Nat) (same : Bool) (s : State) {t : State} (h : execAlloc n s same = .next t) : view μ t = view μ s := by
  simp only [execAlloc, Host.Outcome.next.injEq] at h
  subst h
  repeat' split
  all_goals first
    | with_reducible rfl
    | (simp [h_buf, h_hq, h_irq, h_pwr, h_ctr, h_out, h_fresh]; done)
    | (rename_i hw; simp [view_poolAlloc_some h_buf h_fresh hw, h_buf, h_hq, h_irq, h_pwr, h_ctr, h_out, h_fresh]; done)
    | (rename_i hw _; simp [view_poolAlloc_some h_buf h_fresh hw, h_buf, h_hq, h_irq, h_pwr, h_ctr, h_out, h_fresh]; done)

theorem view_execShare {μ : StatePart → Bool} (h_buf : μ .buf = true) (h_hq : μ .hq = true) (h_ctr : μ .ctr = true) (n : Nat) (same : Bool) (s : State) {t : State} (h : execShare n s same = .next t) : view μ t = view μ s := by
  simp only [execShare, Host.Outcome.next.injEq] at h
  subst h
  repeat' split
  all_goals (first | with_reducible rfl | (simp [h_buf, h_hq, h_ctr]; done))

theorem view_execRelease {μ : StatePart → Bool} (h_buf : μ .buf = true) (h_hq : μ .hq = true) (h_ctr : μ .ctr = true) (n : Nat) (same : Bool) (s : State) {t : State} (h : execRelease n s same = .next t) : view μ t = view μ s := by
  simp only [execRelease, Host.Outcome.next.injEq] at h
  subst h
  repeat' split
  all_goals (first | with_reducible rfl | (simp [h_buf, h_hq, h_ctr]; done))

theorem view_execHandover {μ : StatePart → Bool} (h_buf : μ .buf = true) (h_hq : μ .hq = true) (h_ctr : μ .ctr = true) (n : Nat) (same : Bool) (s : State) {t : State} (h : execHandover n s same = .next t) : view μ t = view μ s := by
  simp only [execHandover, Host.Outcome.next.injEq] at h
  subst h
  repeat' split
  all_goals (first | with_reducible rfl | (simp [h_buf, h_hq, h_ctr]; done))

theorem view_execFree {μ : StatePart → Bool} (h_buf : μ .buf = true) (h_hq : μ .hq = true) (h_ctr : μ .ctr = true) (n : Nat) (same : Bool) (s : State) {t : State} (h : execFree n s same = .next t) : view μ t = view μ s := by
  simp only [execFree, Host.Outcome.next.injEq] at h
  subst h
  repeat' split
  all_goals (first | with_reducible rfl | (simp [h_buf, h_hq, h_ctr]; done))

theorem view_execTxHostInject {μ : StatePart → Bool} (h_slices : μ .slices = true) (h_otd : μ .otd = true) (h_hq : μ .hq = true) (h_irq : μ .irq = true) (h_pwr : μ .pwr = true) (h_ctr : μ .ctr = true) (h_out : μ .out = true) (n : Nat) (s : State) {t : State} (h : execTxHostInject n s = .next t) : view μ t = view μ s := by
  simp only [execTxHostInject, Host.Outcome.next.injEq] at h
  subst h
  repeat' split
  all_goals (first | with_reducible rfl | (simp [h_slices, h_otd, h_hq, h_irq, h_pwr, h_ctr, h_out]; done))

theorem view_execRxDispatch {μ : StatePart → Bool} (h_ports : μ .ports = true) (h_slices : μ .slices = true) (h_buf : μ .buf = true) (h_flows : μ .flows = true) (h_hq : μ .hq = true) (h_irq : μ .irq = true) (h_pwr : μ .pwr = true) (h_ctr : μ .ctr = true) (h_out : μ .out = true) (h_fresh : μ .fresh = true) (p q : Nat) (s : State) {t : State} (h : execRxDispatch p q s = .next t) : view μ t = view μ s := by
  simp only [execRxDispatch, Host.Outcome.next.injEq] at h
  subst h
  repeat' split
  all_goals (first | with_reducible rfl | (simp [h_ports, h_slices, h_buf, h_flows, h_hq, h_irq, h_pwr, h_ctr, h_out, h_fresh]; done))

theorem view_execRxWaitExpiry {μ : StatePart → Bool} (h_ports : μ .ports = true) (h_slices : μ .slices = true) (h_buf : μ .buf = true) (h_tm : μ .tm = true) (h_flows : μ .flows = true) (h_hq : μ .hq = true) (h_irq : μ .irq = true) (h_pwr : μ .pwr = true) (h_ctr : μ .ctr = true) (h_out : μ .out = true) (p q : Nat) (s : State) {t : State} (h : execRxWaitExpiry p q s = .next t) : view μ t = view μ s := by
  simp only [execRxWaitExpiry, Host.Outcome.next.injEq] at h
  subst h
  repeat' split
  all_goals (first | with_reducible rfl | (simp [h_ports, h_slices, h_buf, h_tm, h_flows, h_hq, h_irq, h_pwr, h_ctr, h_out]; done))

theorem view_execRingCreate {μ : StatePart → Bool} (h_mb : μ .mb = true) (h_adm : μ .adm = true) (h_otd : μ .otd = true) (h_hq : μ .hq = true) (h_out : μ .out = true) (h_fresh : μ .fresh = true) (e : Env) (s : State) {t : State} (h : execRingCreate e s = .next t) : view μ t = view μ s := by
  simp only [execRingCreate, Host.Outcome.next.injEq] at h
  subst h
  repeat' split
  all_goals (first | with_reducible rfl | (simp [h_mb, h_adm, h_otd, h_hq, h_out, h_fresh]; done))

theorem view_execQpCreate {μ : StatePart → Bool} (h_mb : μ .mb = true) (h_adm : μ .adm = true) (h_otd : μ .otd = true) (h_hq : μ .hq = true) (h_out : μ .out = true) (h_fresh : μ .fresh = true) (e : Env) (s : State) {t : State} (h : execQpCreate e s = .next t) : view μ t = view μ s := by
  simp only [execQpCreate, Host.Outcome.next.injEq] at h
  subst h
  repeat' split
  all_goals (first | with_reducible rfl | (simp [h_mb, h_adm, h_otd, h_hq, h_out, h_fresh]; done))

theorem view_execCqCreate {μ : StatePart → Bool} (h_mb : μ .mb = true) (h_adm : μ .adm = true) (h_otd : μ .otd = true) (h_hq : μ .hq = true) (h_out : μ .out = true) (h_fresh : μ .fresh = true) (e : Env) (s : State) {t : State} (h : execCqCreate e s = .next t) : view μ t = view μ s := by
  simp only [execCqCreate, Host.Outcome.next.injEq] at h
  subst h
  repeat' split
  all_goals (first | with_reducible rfl | (simp [h_mb, h_adm, h_otd, h_hq, h_out, h_fresh]; done))

theorem view_execQueueDisable {μ : StatePart → Bool} (h_mb : μ .mb = true) (h_adm : μ .adm = true) (h_otd : μ .otd = true) (h_hq : μ .hq = true) (h_out : μ .out = true) (e : Env) (s : State) {t : State} (h : execQueueDisable e s = .next t) : view μ t = view μ s := by
  simp only [execQueueDisable, Host.Outcome.next.injEq] at h
  subst h
  repeat' split
  all_goals (first | with_reducible rfl | (simp [h_mb, h_adm, h_otd, h_hq, h_out]; done))

theorem view_execQueueEnable {μ : StatePart → Bool} (h_mb : μ .mb = true) (h_adm : μ .adm = true) (h_otd : μ .otd = true) (h_hq : μ .hq = true) (h_irq : μ .irq = true) (h_pwr : μ .pwr = true) (h_ctr : μ .ctr = true) (h_out : μ .out = true) (e : Env) (s : State) {t : State} (h : execQueueEnable e s = .next t) : view μ t = view μ s := by
  simp only [execQueueEnable, Host.Outcome.next.injEq] at h
  subst h
  repeat' split
  all_goals (first | with_reducible rfl | (simp [h_mb, h_adm, h_otd, h_hq, h_irq, h_pwr, h_ctr, h_out]; done))

theorem view_execQueueDestroy {μ : StatePart → Bool} (h_mb : μ .mb = true) (h_adm : μ .adm = true) (h_otd : μ .otd = true) (h_hq : μ .hq = true) (h_out : μ .out = true) (e : Env) (s : State) {t : State} (h : execQueueDestroy e s = .next t) : view μ t = view μ s := by
  simp only [execQueueDestroy, Host.Outcome.next.injEq] at h
  subst h
  repeat' split
  all_goals (first | with_reducible rfl | (simp [h_mb, h_adm, h_otd, h_hq, h_out]; done))

theorem view_execQueueReset {μ : StatePart → Bool} (h_mb : μ .mb = true) (h_adm : μ .adm = true) (h_ports : μ .ports = true) (h_slices : μ .slices = true) (h_buf : μ .buf = true) (h_otd : μ .otd = true) (h_hq : μ .hq = true) (h_ctr : μ .ctr = true) (h_out : μ .out = true) (e : Env) (s : State) {t : State} (h : execQueueReset e s = .next t) : view μ t = view μ s := by
  simp only [execQueueReset, Host.Outcome.next.injEq] at h
  subst h
  repeat' split
  all_goals (first | with_reducible rfl | (simp [h_mb, h_adm, h_ports, h_slices, h_buf, h_otd, h_hq, h_ctr, h_out]; done))

theorem view_execQueueStatus {μ : StatePart → Bool} (h_mb : μ .mb = true) (h_adm : μ .adm = true) (h_otd : μ .otd = true) (h_hq : μ .hq = true) (h_ctr : μ .ctr = true) (h_out : μ .out = true) (e : Env) (s : State) {t : State} (h : execQueueStatus e s = .next t) : view μ t = view μ s := by
  simp only [execQueueStatus, Host.Outcome.next.injEq] at h
  subst h
  repeat' split
  all_goals (first | with_reducible rfl | (simp [h_mb, h_adm, h_otd, h_hq, h_ctr, h_out]; done))

theorem view_execRxFilterSet {μ : StatePart → Bool} (h_mb : μ .mb = true) (h_adm : μ .adm = true) (h_quad : μ .quad = true) (h_bank0 : μ .bank0 = true) (h_bank1 : μ .bank1 = true) (h_ports : μ .ports = true) (h_slices : μ .slices = true) (h_buf : μ .buf = true) (h_tm : μ .tm = true) (h_gate : μ .gate = true) (h_flows : μ .flows = true) (h_cap : μ .cap = true) (h_otd : μ .otd = true) (h_hq : μ .hq = true) (h_irq : μ .irq = true) (h_pwr : μ .pwr = true) (h_ctr : μ .ctr = true) (h_out : μ .out = true) (h_fresh : μ .fresh = true) (e : Env) (s : State) {t : State} (h : execRxFilterSet e s = .next t) : view μ t = view μ s := by
  simp only [execRxFilterSet, Host.Outcome.next.injEq] at h
  subst h
  repeat' split
  all_goals (first | with_reducible rfl | (simp [h_mb, h_adm, h_quad, h_bank0, h_bank1, h_ports, h_slices, h_buf, h_tm, h_gate, h_flows, h_cap, h_otd, h_hq, h_irq, h_pwr, h_ctr, h_out, h_fresh]; done))

theorem view_execRssSet {μ : StatePart → Bool} (h_mb : μ .mb = true) (h_adm : μ .adm = true) (h_quad : μ .quad = true) (h_bank0 : μ .bank0 = true) (h_bank1 : μ .bank1 = true) (h_ports : μ .ports = true) (h_slices : μ .slices = true) (h_buf : μ .buf = true) (h_tm : μ .tm = true) (h_gate : μ .gate = true) (h_flows : μ .flows = true) (h_cap : μ .cap = true) (h_otd : μ .otd = true) (h_hq : μ .hq = true) (h_irq : μ .irq = true) (h_pwr : μ .pwr = true) (h_ctr : μ .ctr = true) (h_out : μ .out = true) (h_fresh : μ .fresh = true) (e : Env) (s : State) {t : State} (h : execRssSet e s = .next t) : view μ t = view μ s := by
  simp only [execRssSet, Host.Outcome.next.injEq] at h
  subst h
  repeat' split
  all_goals (first | with_reducible rfl | (simp [h_mb, h_adm, h_quad, h_bank0, h_bank1, h_ports, h_slices, h_buf, h_tm, h_gate, h_flows, h_cap, h_otd, h_hq, h_irq, h_pwr, h_ctr, h_out, h_fresh]; done))

theorem view_execOffloadSet {μ : StatePart → Bool} (h_mb : μ .mb = true) (h_adm : μ .adm = true) (h_quad : μ .quad = true) (h_bank0 : μ .bank0 = true) (h_bank1 : μ .bank1 = true) (h_ports : μ .ports = true) (h_slices : μ .slices = true) (h_buf : μ .buf = true) (h_tm : μ .tm = true) (h_gate : μ .gate = true) (h_flows : μ .flows = true) (h_cap : μ .cap = true) (h_otd : μ .otd = true) (h_hq : μ .hq = true) (h_irq : μ .irq = true) (h_pwr : μ .pwr = true) (h_ctr : μ .ctr = true) (h_out : μ .out = true) (h_fresh : μ .fresh = true) (e : Env) (s : State) {t : State} (h : execOffloadSet e s = .next t) : view μ t = view μ s := by
  simp only [execOffloadSet, Host.Outcome.next.injEq] at h
  subst h
  repeat' split
  all_goals (first | with_reducible rfl | (simp [h_mb, h_adm, h_quad, h_bank0, h_bank1, h_ports, h_slices, h_buf, h_tm, h_gate, h_flows, h_cap, h_otd, h_hq, h_irq, h_pwr, h_ctr, h_out, h_fresh]; done))

theorem view_execTimerFire {μ : StatePart → Bool} (h_time : μ .time = true) (h_irq : μ .irq = true) (h_pwr : μ .pwr = true) (h_out : μ .out = true) (h_fresh : μ .fresh = true) (n : Nat) (s : State) {t : State} (h : execTimerFire n s = .next t) : view μ t = view μ s := by
  simp only [execTimerFire, Host.Outcome.next.injEq] at h
  subst h
  repeat' split
  all_goals (first | with_reducible rfl | (simp [h_time, h_irq, h_pwr, h_out, h_fresh]; done))

theorem view_execTimerSet {μ : StatePart → Bool} (h_mb : μ .mb = true) (h_adm : μ .adm = true) (h_time : μ .time = true) (h_otd : μ .otd = true) (h_hq : μ .hq = true) (h_out : μ .out = true) (e : Env) (s : State) {t : State} (h : execTimerSet e s = .next t) : view μ t = view μ s := by
  simp only [execTimerSet, Host.Outcome.next.injEq] at h
  subst h
  repeat' split
  all_goals (first | with_reducible rfl | (simp [h_mb, h_adm, h_time, h_otd, h_hq, h_out]; done))

theorem view_execPpsCfg {μ : StatePart → Bool} (h_mb : μ .mb = true) (h_adm : μ .adm = true) (h_time : μ .time = true) (h_otd : μ .otd = true) (h_hq : μ .hq = true) (h_out : μ .out = true) (e : Env) (s : State) {t : State} (h : execPpsCfg e s = .next t) : view μ t = view μ s := by
  simp only [execPpsCfg, Host.Outcome.next.injEq] at h
  subst h
  repeat' split
  all_goals (first | with_reducible rfl | (simp [h_mb, h_adm, h_time, h_otd, h_hq, h_out]; done))

theorem view_execPpsInEdge {μ : StatePart → Bool} (h_time : μ .time = true) (h_irq : μ .irq = true) (h_pwr : μ .pwr = true) (h_out : μ .out = true) (sixteenths : Nat) (s : State) {t : State} (h : execPpsInEdge sixteenths s = .next t) : view μ t = view μ s := by
  simp only [execPpsInEdge, Host.Outcome.next.injEq] at h
  subst h
  repeat' split
  all_goals (first | with_reducible rfl | (simp [h_time, h_irq, h_pwr, h_out]; done))

theorem view_execPpsOutEdge {μ : StatePart → Bool} (h_time : μ .time = true) (h_fresh : μ .fresh = true) (s : State) {t : State} (h : execPpsOutEdge s = .next t) : view μ t = view μ s := by
  simp only [execPpsOutEdge, Host.Outcome.next.injEq] at h
  subst h
  repeat' split
  all_goals (first | with_reducible rfl | (simp [h_time, h_fresh]; done))

theorem view_execPpsOutFall {μ : StatePart → Bool} (h_time : μ .time = true) (s : State) {t : State} (h : execPpsOutFall s = .next t) : view μ t = view μ s := by
  simp only [execPpsOutFall, Host.Outcome.next.injEq] at h
  subst h
  repeat' split
  all_goals (first | with_reducible rfl | (simp [h_time]; done))

theorem view_execSyntCfg {μ : StatePart → Bool} (h_mb : μ .mb = true) (h_adm : μ .adm = true) (h_time : μ .time = true) (h_otd : μ .otd = true) (h_hq : μ .hq = true) (h_out : μ .out = true) (e : Env) (s : State) {t : State} (h : execSyntCfg e s = .next t) : view μ t = view μ s := by
  simp only [execSyntCfg, Host.Outcome.next.injEq] at h
  subst h
  repeat' split
  all_goals (first | with_reducible rfl | (simp [h_mb, h_adm, h_time, h_otd, h_hq, h_out]; done))

theorem view_execSnapTimeLoRead {μ : StatePart → Bool} (h_time : μ .time = true) (h_hpt : μ .hpt = true) (slot : Nat) (wide : Bool) (s : State) {t : State} (h : execSnapTimeLoRead slot wide s = .next t) : view μ t = view μ s := by
  simp only [execSnapTimeLoRead, Host.Outcome.next.injEq] at h
  subst h
  repeat' split
  all_goals (first | with_reducible rfl | (simp [h_time, h_hpt]; done))

theorem view_execPpsGlitchRead {μ : StatePart → Bool} (h_time : μ .time = true) (h_hpt : μ .hpt = true) (s : State) {t : State} (h : execPpsGlitchRead s = .next t) : view μ t = view μ s := by
  simp only [execPpsGlitchRead, Host.Outcome.next.injEq] at h
  subst h
  repeat' split
  all_goals (first | with_reducible rfl | (simp [h_time, h_hpt]; done))

theorem view_execThermEval {μ : StatePart → Bool} (h_boot : μ .boot = true) (h_time : μ .time = true) (h_irq : μ .irq = true) (h_pwr : μ .pwr = true) (h_out : μ .out = true) (readings : List Int) (s : State) {t : State} (h : execThermEval readings s = .next t) : view μ t = view μ s := by
  simp only [execThermEval, Host.Outcome.next.injEq] at h
  subst h
  repeat' split
  all_goals (first | with_reducible rfl | (simp [h_boot, h_time, h_irq, h_pwr, h_out]; done))

theorem view_execSysEventCfg {μ : StatePart → Bool} (h_mb : μ .mb = true) (h_boot : μ .boot = true) (h_adm : μ .adm = true) (h_otd : μ .otd = true) (h_hq : μ .hq = true) (h_out : μ .out = true) (e : Env) (s : State) {t : State} (h : execSysEventCfg e s = .next t) : view μ t = view μ s := by
  simp only [execSysEventCfg, Host.Outcome.next.injEq] at h
  subst h
  repeat' split
  all_goals (first | with_reducible rfl | (simp [h_mb, h_boot, h_adm, h_otd, h_hq, h_out]; done))

theorem view_execStampPortCfg {μ : StatePart → Bool} (h_mb : μ .mb = true) (h_adm : μ .adm = true) (h_quad : μ .quad = true) (h_bank0 : μ .bank0 = true) (h_bank1 : μ .bank1 = true) (h_ports : μ .ports = true) (h_slices : μ .slices = true) (h_buf : μ .buf = true) (h_tm : μ .tm = true) (h_gate : μ .gate = true) (h_flows : μ .flows = true) (h_cap : μ .cap = true) (h_otd : μ .otd = true) (h_hq : μ .hq = true) (h_irq : μ .irq = true) (h_pwr : μ .pwr = true) (h_ctr : μ .ctr = true) (h_out : μ .out = true) (h_fresh : μ .fresh = true) (e : Env) (s : State) {t : State} (h : execStampPortCfg e s = .next t) : view μ t = view μ s := by
  simp only [execStampPortCfg, Host.Outcome.next.injEq] at h
  subst h
  repeat' split
  all_goals (first | with_reducible rfl | (simp [h_mb, h_adm, h_quad, h_bank0, h_bank1, h_ports, h_slices, h_buf, h_tm, h_gate, h_flows, h_cap, h_otd, h_hq, h_irq, h_pwr, h_ctr, h_out, h_fresh]; done))

theorem view_execPtpPortCfg {μ : StatePart → Bool} (h_mb : μ .mb = true) (h_adm : μ .adm = true) (h_quad : μ .quad = true) (h_bank0 : μ .bank0 = true) (h_bank1 : μ .bank1 = true) (h_ports : μ .ports = true) (h_slices : μ .slices = true) (h_buf : μ .buf = true) (h_tm : μ .tm = true) (h_gate : μ .gate = true) (h_flows : μ .flows = true) (h_cap : μ .cap = true) (h_time : μ .time = true) (h_otd : μ .otd = true) (h_hq : μ .hq = true) (h_irq : μ .irq = true) (h_pwr : μ .pwr = true) (h_ctr : μ .ctr = true) (h_out : μ .out = true) (h_fresh : μ .fresh = true) (e : Env) (s : State) {t : State} (h : execPtpPortCfg e s = .next t) : view μ t = view μ s := by
  simp only [execPtpPortCfg, Host.Outcome.next.injEq] at h
  subst h
  repeat' split
  all_goals (first | with_reducible rfl | (simp [h_mb, h_adm, h_quad, h_bank0, h_bank1, h_ports, h_slices, h_buf, h_tm, h_gate, h_flows, h_cap, h_time, h_otd, h_hq, h_irq, h_pwr, h_ctr, h_out, h_fresh]; done))

theorem view_execCalRecordSet {μ : StatePart → Bool} (h_mb : μ .mb = true) (h_adm : μ .adm = true) (h_ports : μ .ports = true) (h_otd : μ .otd = true) (h_hq : μ .hq = true) (h_out : μ .out = true) (e : Env) (s : State) {t : State} (h : execCalRecordSet e s = .next t) : view μ t = view μ s := by
  simp only [execCalRecordSet, Host.Outcome.next.injEq] at h
  subst h
  repeat' split
  all_goals (first | with_reducible rfl | (simp [h_mb, h_adm, h_ports, h_otd, h_hq, h_out]; done))

theorem view_execCalEval {μ : StatePart → Bool} (h_ports : μ .ports = true) (h_time : μ .time = true) (h_irq : μ .irq = true) (h_pwr : μ .pwr = true) (h_badger : μ .badger = true) (h_out : μ .out = true) (temps : List Int) (s : State) {t : State} (h : execCalEval temps s = .next t) : view μ t = view μ s := by
  simp only [execCalEval, Host.Outcome.next.injEq] at h
  subst h
  repeat' split
  all_goals (first | with_reducible rfl | (simp [h_ports, h_time, h_irq, h_pwr, h_badger, h_out]; done))

theorem view_execCalRun {μ : StatePart → Bool} (h_mb : μ .mb = true) (h_adm : μ .adm = true) (h_otd : μ .otd = true) (h_hq : μ .hq = true) (h_badger : μ .badger = true) (h_out : μ .out = true) (e : Env) (s : State) {t : State} (h : execCalRun e s = .next t) : view μ t = view μ s := by
  simp only [execCalRun, Host.Outcome.next.injEq] at h
  subst h
  repeat' split
  all_goals (first | with_reducible rfl | (simp [h_mb, h_adm, h_otd, h_hq, h_badger, h_out]; done))

theorem view_execLoopbackCal {μ : StatePart → Bool} (h_mb : μ .mb = true) (h_adm : μ .adm = true) (h_otd : μ .otd = true) (h_hq : μ .hq = true) (h_badger : μ .badger = true) (h_out : μ .out = true) (e : Env) (s : State) {t : State} (h : execLoopbackCal e s = .next t) : view μ t = view μ s := by
  simp only [execLoopbackCal, Host.Outcome.next.injEq] at h
  subst h
  repeat' split
  all_goals (first | with_reducible rfl | (simp [h_mb, h_adm, h_otd, h_hq, h_badger, h_out]; done))

theorem view_execCalRequestTx {μ : StatePart → Bool} (h_ports : μ .ports = true) (h_badger : μ .badger = true) (p : Nat) (s : State) {t : State} (h : execCalRequestTx p s = .next t) : view μ t = view μ s := by
  simp only [execCalRequestTx, Host.Outcome.next.injEq] at h
  subst h
  repeat' split
  all_goals (first | with_reducible rfl | (simp [h_ports, h_badger]; done))

theorem view_execCalRequestRx {μ : StatePart → Bool} (h_ports : μ .ports = true) (h_otd : μ .otd = true) (p reqId t2 : Nat) (s : State) {t : State} (h : execCalRequestRx p reqId t2 s = .next t) : view μ t = view μ s := by
  simp only [execCalRequestRx, Host.Outcome.next.injEq] at h
  subst h
  repeat' split
  all_goals (first | with_reducible rfl | (simp [h_ports, h_otd]; done))

theorem view_execCalReplyRx {μ : StatePart → Bool} (h_ports : μ .ports = true) (h_otd : μ .otd = true) (h_irq : μ .irq = true) (h_pwr : μ .pwr = true) (h_badger : μ .badger = true) (h_out : μ .out = true) (h_fresh : μ .fresh = true) (p : Nat) (reply : CalReply) (s : State) {t : State} (h : execCalReplyRx p reply s = .next t) : view μ t = view μ s := by
  simp only [execCalReplyRx, Host.Outcome.next.injEq] at h
  subst h
  repeat' split
  all_goals (first | with_reducible rfl | (simp [h_ports, h_otd, h_irq, h_pwr, h_badger, h_out, h_fresh]; done))

theorem view_execCalExchangeTimeout {μ : StatePart → Bool} (h_badger : μ .badger = true) (p : Nat) (s : State) {t : State} (h : execCalExchangeTimeout p s = .next t) : view μ t = view μ s := by
  simp only [execCalExchangeTimeout, Host.Outcome.next.injEq] at h
  subst h
  repeat' split
  all_goals (first | with_reducible rfl | (simp [h_badger]; done))

theorem view_execCalFail {μ : StatePart → Bool} (h_irq : μ .irq = true) (h_pwr : μ .pwr = true) (h_badger : μ .badger = true) (h_out : μ .out = true) (p : Nat) (s : State) {t : State} (h : execCalFail p s = .next t) : view μ t = view μ s := by
  simp only [execCalFail, Host.Outcome.next.injEq] at h
  subst h
  repeat' split
  all_goals (first | with_reducible rfl | (simp [h_irq, h_pwr, h_badger, h_out]; done))

theorem view_execQuadOpen {μ : StatePart → Bool} (h_mb : μ .mb = true) (h_adm : μ .adm = true) (h_quad : μ .quad = true) (h_otd : μ .otd = true) (h_hq : μ .hq = true) (h_out : μ .out = true) (h_fresh : μ .fresh = true) (e : Env) (s : State) {t : State} (h : execQuadOpen e s = .next t) : view μ t = view μ s := by
  simp only [execQuadOpen, Host.Outcome.next.injEq] at h
  subst h
  repeat' split
  all_goals (first | with_reducible rfl | (simp [h_mb, h_adm, h_quad, h_otd, h_hq, h_out, h_fresh]; done))

theorem view_execQuadCheck {μ : StatePart → Bool} (h_mb : μ .mb = true) (h_adm : μ .adm = true) (h_quad : μ .quad = true) (h_bank0 : μ .bank0 = true) (h_bank1 : μ .bank1 = true) (h_tables : μ .tables = true) (h_ports : μ .ports = true) (h_slices : μ .slices = true) (h_buf : μ .buf = true) (h_tm : μ .tm = true) (h_gate : μ .gate = true) (h_flows : μ .flows = true) (h_cap : μ .cap = true) (h_otd : μ .otd = true) (h_hq : μ .hq = true) (h_irq : μ .irq = true) (h_pwr : μ .pwr = true) (h_ctr : μ .ctr = true) (h_out : μ .out = true) (h_fresh : μ .fresh = true) (e : Env) (s : State) {t : State} (h : execQuadCheck e s = .next t) : view μ t = view μ s := by
  simp only [execQuadCheck, Host.Outcome.next.injEq] at h
  subst h
  split
  · simp [h_mb, h_adm, h_quad, h_bank0, h_bank1, h_tables, h_ports, h_slices, h_buf, h_tm, h_gate, h_flows, h_cap, h_otd, h_hq, h_irq, h_pwr, h_ctr, h_out, h_fresh]
  · refine view_ifTurn  _ _ (fun s => ?_) _
    try dsimp only
    repeat' split
    all_goals simp [h_mb, h_adm, h_quad, h_bank0, h_bank1, h_tables, h_ports, h_slices, h_buf, h_tm, h_gate, h_flows, h_cap, h_otd, h_hq, h_irq, h_pwr, h_ctr, h_out, h_fresh]

theorem view_execQuadAbort {μ : StatePart → Bool} (h_mb : μ .mb = true) (h_adm : μ .adm = true) (h_quad : μ .quad = true) (h_bank0 : μ .bank0 = true) (h_bank1 : μ .bank1 = true) (h_tables : μ .tables = true) (h_ports : μ .ports = true) (h_otd : μ .otd = true) (h_sez : μ .sez = true) (h_hq : μ .hq = true) (h_irq : μ .irq = true) (h_pwr : μ .pwr = true) (h_ctr : μ .ctr = true) (h_out : μ .out = true) (e : Env) (s : State) {t : State} (h : execQuadAbort e s = .next t) : view μ t = view μ s := by
  simp only [execQuadAbort, Host.Outcome.next.injEq] at h
  subst h
  repeat' split
  all_goals (first | with_reducible rfl | (simp [h_mb, h_adm, h_quad, h_bank0, h_bank1, h_tables, h_ports, h_otd, h_sez, h_hq, h_irq, h_pwr, h_ctr, h_out]; done))

theorem view_execQuadStatus {μ : StatePart → Bool} (h_mb : μ .mb = true) (h_adm : μ .adm = true) (h_quad : μ .quad = true) (h_otd : μ .otd = true) (h_hq : μ .hq = true) (h_out : μ .out = true) (e : Env) (s : State) {t : State} (h : execQuadStatus e s = .next t) : view μ t = view μ s := by
  simp only [execQuadStatus, Host.Outcome.next.injEq] at h
  subst h
  repeat' split
  all_goals (first | with_reducible rfl | (simp [h_mb, h_adm, h_quad, h_otd, h_hq, h_out]; done))

theorem view_execQuadApplyNow {μ : StatePart → Bool} (h_mb : μ .mb = true) (h_adm : μ .adm = true) (h_quad : μ .quad = true) (h_bank0 : μ .bank0 = true) (h_bank1 : μ .bank1 = true) (h_tables : μ .tables = true) (h_ports : μ .ports = true) (h_slices : μ .slices = true) (h_buf : μ .buf = true) (h_tm : μ .tm = true) (h_gate : μ .gate = true) (h_flows : μ .flows = true) (h_cap : μ .cap = true) (h_otd : μ .otd = true) (h_hq : μ .hq = true) (h_irq : μ .irq = true) (h_pwr : μ .pwr = true) (h_ctr : μ .ctr = true) (h_out : μ .out = true) (h_fresh : μ .fresh = true) (e : Env) (s : State) {t : State} (h : execQuadApplyNow e s = .next t) : view μ t = view μ s := by
  simp only [execQuadApplyNow, Host.Outcome.next.injEq] at h
  subst h
  repeat' split
  all_goals (first | with_reducible rfl | (simp [h_mb, h_adm, h_quad, h_bank0, h_bank1, h_tables, h_ports, h_slices, h_buf, h_tm, h_gate, h_flows, h_cap, h_otd, h_hq, h_irq, h_pwr, h_ctr, h_out, h_fresh]; done))

theorem view_execQuadApplyAtTime {μ : StatePart → Bool} (h_mb : μ .mb = true) (h_adm : μ .adm = true) (h_quad : μ .quad = true) (h_bank0 : μ .bank0 = true) (h_bank1 : μ .bank1 = true) (h_tables : μ .tables = true) (h_ports : μ .ports = true) (h_slices : μ .slices = true) (h_buf : μ .buf = true) (h_tm : μ .tm = true) (h_gate : μ .gate = true) (h_flows : μ .flows = true) (h_cap : μ .cap = true) (h_otd : μ .otd = true) (h_hq : μ .hq = true) (h_irq : μ .irq = true) (h_pwr : μ .pwr = true) (h_ctr : μ .ctr = true) (h_out : μ .out = true) (h_fresh : μ .fresh = true) (e : Env) (s : State) {t : State} (h : execQuadApplyAtTime e s = .next t) : view μ t = view μ s := by
  simp only [execQuadApplyAtTime, Host.Outcome.next.injEq] at h
  subst h
  repeat' split
  all_goals (first | with_reducible rfl | (simp [h_mb, h_adm, h_quad, h_bank0, h_bank1, h_tables, h_ports, h_slices, h_buf, h_tm, h_gate, h_flows, h_cap, h_otd, h_hq, h_irq, h_pwr, h_ctr, h_out, h_fresh]; done))

theorem view_execQuadArmed {μ : StatePart → Bool} (h_mb : μ .mb = true) (h_adm : μ .adm = true) (h_quad : μ .quad = true) (h_bank0 : μ .bank0 = true) (h_bank1 : μ .bank1 = true) (h_ports : μ .ports = true) (h_slices : μ .slices = true) (h_buf : μ .buf = true) (h_tm : μ .tm = true) (h_gate : μ .gate = true) (h_flows : μ .flows = true) (h_cap : μ .cap = true) (h_otd : μ .otd = true) (h_sez : μ .sez = true) (h_hq : μ .hq = true) (h_irq : μ .irq = true) (h_pwr : μ .pwr = true) (h_ctr : μ .ctr = true) (h_out : μ .out = true) (h_fresh : μ .fresh = true) (id : Nat) (s : State) {t : State} (h : execQuadArmed id s = .next t) : view μ t = view μ s := by
  simp only [execQuadArmed, Host.Outcome.next.injEq] at h
  subst h
  repeat' split
  all_goals (first | with_reducible rfl | (simp [h_mb, h_adm, h_quad, h_bank0, h_bank1, h_ports, h_slices, h_buf, h_tm, h_gate, h_flows, h_cap, h_otd, h_sez, h_hq, h_irq, h_pwr, h_ctr, h_out, h_fresh]; done))

theorem view_execQuadFlip {μ : StatePart → Bool} (h_quad : μ .quad = true) (h_tables : μ .tables = true) (h_ports : μ .ports = true) (h_slices : μ .slices = true) (h_buf : μ .buf = true) (h_tm : μ .tm = true) (h_gate : μ .gate = true) (h_flows : μ .flows = true) (h_cap : μ .cap = true) (h_time : μ .time = true) (h_otd : μ .otd = true) (h_sez : μ .sez = true) (h_hq : μ .hq = true) (h_irq : μ .irq = true) (h_pwr : μ .pwr = true) (h_ctr : μ .ctr = true) (h_out : μ .out = true) (h_fresh : μ .fresh = true) (id : Nat) (s : State) {t : State} (h : execQuadFlip id s = .next t) : view μ t = view μ s := by
  simp only [execQuadFlip, Host.Outcome.next.injEq] at h
  subst h
  repeat' split
  all_goals (first | with_reducible rfl | (simp [h_quad, h_tables, h_ports, h_slices, h_buf, h_tm, h_gate, h_flows, h_cap, h_time, h_otd, h_sez, h_hq, h_irq, h_pwr, h_ctr, h_out, h_fresh]; done))

theorem view_execNormalise {μ : StatePart → Bool} (h_quad : μ .quad = true) (h_bank0 : μ .bank0 = true) (h_bank1 : μ .bank1 = true) (h_tables : μ .tables = true) (h_irq : μ .irq = true) (h_pwr : μ .pwr = true) (h_out : μ .out = true) (id : Nat) (s : State) {t : State} (h : execNormalise id s = .next t) : view μ t = view μ s := by
  simp only [execNormalise, Host.Outcome.next.injEq] at h
  subst h
  repeat' split
  all_goals (first | with_reducible rfl | (simp [h_quad, h_bank0, h_bank1, h_tables, h_irq, h_pwr, h_out]; done))

theorem view_execQuadIdleLimit {μ : StatePart → Bool} (h_quad : μ .quad = true) (h_bank0 : μ .bank0 = true) (h_bank1 : μ .bank1 = true) (h_tables : μ .tables = true) (h_irq : μ .irq = true) (h_pwr : μ .pwr = true) (h_out : μ .out = true) (id : Nat) (s : State) {t : State} (h : execQuadIdleLimit id s = .next t) : view μ t = view μ s := by
  simp only [execQuadIdleLimit, Host.Outcome.next.injEq] at h
  subst h
  repeat' split
  all_goals (first | with_reducible rfl | (simp [h_quad, h_bank0, h_bank1, h_tables, h_irq, h_pwr, h_out]; done))

theorem view_execDmaGo {μ : StatePart → Bool} (h_dma : μ .dma = true) (h_pwr : μ .pwr = true) (h_hpt : μ .hpt = true) (c : Nat) (s : State) {t : State} (h : execDmaGo c s = .next t) : view μ t = view μ s := by
  simp only [execDmaGo, Host.Outcome.next.injEq] at h
  subst h
  refine view_viaHst h_pwr h_hpt _ _ (fun s => ?_) _
  rw [view_hptOk h_hpt]
  refine view_onDma  _ _ (fun x s => ?_) _
  try dsimp only
  repeat' split
  all_goals simp [h_dma, h_pwr, h_hpt]

theorem view_execDmaShadowWrite {μ : StatePart → Bool} (h_dma : μ .dma = true) (h_pwr : μ .pwr = true) (h_hpt : μ .hpt = true) (c off : Nat) (data : Word) (s : State) {t : State} (h : execDmaShadowWrite c off data s = .next t) : view μ t = view μ s := by
  simp only [execDmaShadowWrite, Host.Outcome.next.injEq] at h
  subst h
  refine view_viaHst h_pwr h_hpt _ _ (fun s => ?_) _
  rw [view_hptOk h_hpt]
  refine view_onDma  _ _ (fun x s => ?_) _
  try dsimp only
  repeat' split
  all_goals simp [h_dma, h_pwr, h_hpt]

theorem view_execDmaLoad {μ : StatePart → Bool} (h_dma : μ .dma = true) (h_irq : μ .irq = true) (h_pwr : μ .pwr = true) (h_out : μ .out = true) (c : Nat) (s : State) {t : State} (h : execDmaLoad c s = .next t) : view μ t = view μ s := by
  simp only [execDmaLoad, Host.Outcome.next.injEq] at h
  subst h
  repeat' split
  all_goals (first | with_reducible rfl | (simp [h_dma, h_irq, h_pwr, h_out]; done))

theorem view_execDmaZeroLenDone {μ : StatePart → Bool} (h_dma : μ .dma = true) (h_irq : μ .irq = true) (h_pwr : μ .pwr = true) (h_out : μ .out = true) (c : Nat) (s : State) {t : State} (h : execDmaZeroLenDone c s = .next t) : view μ t = view μ s := by
  simp only [execDmaZeroLenDone, Host.Outcome.next.injEq] at h
  subst h
  repeat' split
  all_goals (first | with_reducible rfl | (simp [h_dma, h_irq, h_pwr, h_out]; done))

theorem view_execDmaBurstResponse {μ : StatePart → Bool} (h_dma : μ .dma = true) (h_irq : μ .irq = true) (h_pwr : μ .pwr = true) (h_out : μ .out = true) (c : Nat) (burst : Burst) (s : State) {t : State} (h : execDmaBurstResponse c burst s = .next t) : view μ t = view μ s := by
  simp only [execDmaBurstResponse, Host.Outcome.next.injEq] at h
  subst h
  repeat' split
  all_goals (first | with_reducible rfl | (simp [h_dma, h_irq, h_pwr, h_out]; done))

theorem view_execDmaAbort {μ : StatePart → Bool} (h_dma : μ .dma = true) (h_pwr : μ .pwr = true) (h_hpt : μ .hpt = true) (c : Nat) (s : State) {t : State} (h : execDmaAbort c s = .next t) : view μ t = view μ s := by
  simp only [execDmaAbort, Host.Outcome.next.injEq] at h
  subst h
  refine view_viaHst h_pwr h_hpt _ _ (fun s => ?_) _
  rw [view_hptOk h_hpt]
  refine view_onDma  _ _ (fun x s => ?_) _
  try dsimp only
  repeat' split
  all_goals simp [h_dma, h_pwr, h_hpt]

theorem view_execDmaResume {μ : StatePart → Bool} (h_dma : μ .dma = true) (h_pwr : μ .pwr = true) (h_hpt : μ .hpt = true) (h_out : μ .out = true) (c : Nat) (s : State) {t : State} (h : execDmaResume c s = .next t) : view μ t = view μ s := by
  simp only [execDmaResume, Host.Outcome.next.injEq] at h
  subst h
  refine view_viaHst h_pwr h_hpt _ _ (fun s => ?_) _
  rw [view_hptOk h_hpt]
  refine view_onDma  _ _ (fun x s => ?_) _
  try dsimp only
  repeat' split
  all_goals simp [h_dma, h_pwr, h_hpt, h_out]

theorem view_execDmaClear {μ : StatePart → Bool} (h_dma : μ .dma = true) (h_pwr : μ .pwr = true) (h_hpt : μ .hpt = true) (c : Nat) (s : State) {t : State} (h : execDmaClear c s = .next t) : view μ t = view μ s := by
  simp only [execDmaClear, Host.Outcome.next.injEq] at h
  subst h
  refine view_viaHst h_pwr h_hpt _ _ (fun s => ?_) _
  rw [view_hptOk h_hpt]
  refine view_onDma  _ _ (fun x s => ?_) _
  try dsimp only
  repeat' split
  all_goals simp [h_dma, h_pwr, h_hpt]

theorem view_execChCauseRead {μ : StatePart → Bool} (h_dma : μ .dma = true) (h_pwr : μ .pwr = true) (h_hpt : μ .hpt = true) (c : Nat) (s : State) {t : State} (h : execChCauseRead c s = .next t) : view μ t = view μ s := by
  simp only [execChCauseRead, Host.Outcome.next.injEq] at h
  subst h
  repeat' split
  all_goals (first | with_reducible rfl | (simp [h_dma, h_pwr, h_hpt]; done))

theorem view_execSliceCauseRead {μ : StatePart → Bool} (h_irq : μ .irq = true) (h_pwr : μ .pwr = true) (h_hpt : μ .hpt = true) (h_out : μ .out = true) (sl : Nat) (s : State) {t : State} (h : execSliceCauseRead sl s = .next t) : view μ t = view μ s := by
  simp only [execSliceCauseRead, Host.Outcome.next.injEq] at h
  subst h
  repeat' split
  all_goals (first | with_reducible rfl | (simp [h_irq, h_pwr, h_hpt, h_out]; done))

theorem view_execSliceLinkRead {μ : StatePart → Bool} (h_irq : μ .irq = true) (h_pwr : μ .pwr = true) (h_hpt : μ .hpt = true) (sl : Nat) (s : State) {t : State} (h : execSliceLinkRead sl s = .next t) : view μ t = view μ s := by
  simp only [execSliceLinkRead, Host.Outcome.next.injEq] at h
  subst h
  repeat' split
  all_goals (first | with_reducible rfl | (simp [h_irq, h_pwr, h_hpt]; done))

theorem view_execEventTake {μ : StatePart → Bool} (h_irq : μ .irq = true) (s : State) {t : State} (h : execEventTake s = .next t) : view μ t = view μ s := by
  simp only [execEventTake, Host.Outcome.next.injEq] at h
  subst h
  repeat' split
  all_goals (first | with_reducible rfl | (simp [h_irq]; done))

theorem view_execEventEoi {μ : StatePart → Bool} (h_irq : μ .irq = true) (sl cause : Nat) (s : State) {t : State} (h : execEventEoi sl cause s = .next t) : view μ t = view μ s := by
  simp only [execEventEoi, Host.Outcome.next.injEq] at h
  subst h
  repeat' split
  all_goals (first | with_reducible rfl | (simp [h_irq]; done))

theorem view_execClaim {μ : StatePart → Bool} (h_irq : μ .irq = true) (h_pwr : μ .pwr = true) (h_hpt : μ .hpt = true) (h_out : μ .out = true) (n : Nat) (s : State) {t : State} (h : execClaim n s = .next t) : view μ t = view μ s := by
  simp only [execClaim, Host.Outcome.next.injEq] at h
  subst h
  refine view_viaHst h_pwr h_hpt _ _ (fun s => ?_) _
  try dsimp only
  repeat' split
  all_goals (first | with_reducible rfl | (simp [h_irq, h_pwr, h_hpt, h_out]; done))

theorem view_execEoi {μ : StatePart → Bool} (h_irq : μ .irq = true) (h_pwr : μ .pwr = true) (h_hpt : μ .hpt = true) (h_out : μ .out = true) (n : Nat) (data : Word) (s : State) {t : State} (h : execEoi n data s = .next t) : view μ t = view μ s := by
  simp only [execEoi, Host.Outcome.next.injEq] at h
  subst h
  refine view_viaHst h_pwr h_hpt _ _ (fun s => ?_) _
  try dsimp only
  repeat' split
  all_goals (first | with_reducible rfl | (simp [h_irq, h_pwr, h_hpt, h_out]; done))

theorem view_execPendSet {μ : StatePart → Bool} (h_irq : μ .irq = true) (h_pwr : μ .pwr = true) (h_hpt : μ .hpt = true) (h_out : μ .out = true) (k : Nat) (data : Word) (s : State) {t : State} (h : execPendSet k data s = .next t) : view μ t = view μ s := by
  simp only [execPendSet, Host.Outcome.next.injEq] at h
  subst h
  repeat' split
  all_goals (first | with_reducible rfl | (simp [h_irq, h_pwr, h_hpt, h_out]; done))

theorem view_execPendClr {μ : StatePart → Bool} (h_irq : μ .irq = true) (h_pwr : μ .pwr = true) (h_hpt : μ .hpt = true) (h_out : μ .out = true) (k : Nat) (data : Word) (s : State) {t : State} (h : execPendClr k data s = .next t) : view μ t = view μ s := by
  simp only [execPendClr, Host.Outcome.next.injEq] at h
  subst h
  repeat' split
  all_goals (first | with_reducible rfl | (simp [h_irq, h_pwr, h_hpt, h_out]; done))

theorem view_execEnSet {μ : StatePart → Bool} (h_irq : μ .irq = true) (h_pwr : μ .pwr = true) (h_hpt : μ .hpt = true) (h_out : μ .out = true) (k : Nat) (data : Word) (s : State) {t : State} (h : execEnSet k data s = .next t) : view μ t = view μ s := by
  simp only [execEnSet, Host.Outcome.next.injEq] at h
  subst h
  repeat' split
  all_goals (first | with_reducible rfl | (simp [h_irq, h_pwr, h_hpt, h_out]; done))

theorem view_execEnClr {μ : StatePart → Bool} (h_irq : μ .irq = true) (h_pwr : μ .pwr = true) (h_hpt : μ .hpt = true) (h_out : μ .out = true) (k : Nat) (data : Word) (s : State) {t : State} (h : execEnClr k data s = .next t) : view μ t = view μ s := by
  simp only [execEnClr, Host.Outcome.next.injEq] at h
  subst h
  repeat' split
  all_goals (first | with_reducible rfl | (simp [h_irq, h_pwr, h_hpt, h_out]; done))

theorem view_execSrcCfgWrite {μ : StatePart → Bool} (h_irq : μ .irq = true) (h_pwr : μ .pwr = true) (h_hpt : μ .hpt = true) (h_out : μ .out = true) (i : Nat) (data : Word) (s : State) {t : State} (h : execSrcCfgWrite i data s = .next t) : view μ t = view μ s := by
  simp only [execSrcCfgWrite, Host.Outcome.next.injEq] at h
  subst h
  repeat' split
  all_goals (first | with_reducible rfl | (simp [h_irq, h_pwr, h_hpt, h_out]; done))

theorem view_execPrivPendSet {μ : StatePart → Bool} (h_irq : μ .irq = true) (h_pwr : μ .pwr = true) (h_hpt : μ .hpt = true) (h_out : μ .out = true) (n : Nat) (data : Word) (s : State) {t : State} (h : execPrivPendSet n data s = .next t) : view μ t = view μ s := by
  simp only [execPrivPendSet, Host.Outcome.next.injEq] at h
  subst h
  repeat' split
  all_goals (first | with_reducible rfl | (simp [h_irq, h_pwr, h_hpt, h_out]; done))

theorem view_execPrivPendClr {μ : StatePart → Bool} (h_irq : μ .irq = true) (h_pwr : μ .pwr = true) (h_hpt : μ .hpt = true) (h_out : μ .out = true) (n : Nat) (data : Word) (s : State) {t : State} (h : execPrivPendClr n data s = .next t) : view μ t = view μ s := by
  simp only [execPrivPendClr, Host.Outcome.next.injEq] at h
  subst h
  repeat' split
  all_goals (first | with_reducible rfl | (simp [h_irq, h_pwr, h_hpt, h_out]; done))

theorem view_execPrivEnSet {μ : StatePart → Bool} (h_irq : μ .irq = true) (h_pwr : μ .pwr = true) (h_hpt : μ .hpt = true) (h_out : μ .out = true) (n : Nat) (data : Word) (s : State) {t : State} (h : execPrivEnSet n data s = .next t) : view μ t = view μ s := by
  simp only [execPrivEnSet, Host.Outcome.next.injEq] at h
  subst h
  repeat' split
  all_goals (first | with_reducible rfl | (simp [h_irq, h_pwr, h_hpt, h_out]; done))

theorem view_execPrivEnClr {μ : StatePart → Bool} (h_irq : μ .irq = true) (h_pwr : μ .pwr = true) (h_hpt : μ .hpt = true) (h_out : μ .out = true) (n : Nat) (data : Word) (s : State) {t : State} (h : execPrivEnClr n data s = .next t) : view μ t = view μ s := by
  simp only [execPrivEnClr, Host.Outcome.next.injEq] at h
  subst h
  repeat' split
  all_goals (first | with_reducible rfl | (simp [h_irq, h_pwr, h_hpt, h_out]; done))

theorem view_execTargetCountsRead {μ : StatePart → Bool} (h_irq : μ .irq = true) (h_pwr : μ .pwr = true) (h_hpt : μ .hpt = true) (n : Nat) (s : State) {t : State} (h : execTargetCountsRead n s = .next t) : view μ t = view μ s := by
  simp only [execTargetCountsRead, Host.Outcome.next.injEq] at h
  subst h
  repeat' split
  all_goals (first | with_reducible rfl | (simp [h_irq, h_pwr, h_hpt]; done))

theorem view_execTgtAwakeChange {μ : StatePart → Bool} (h_irq : μ .irq = true) (h_out : μ .out = true) (n : Nat) (level : Bool) (s : State) {t : State} (h : execTgtAwakeChange n level s = .next t) : view μ t = view μ s := by
  simp only [execTgtAwakeChange, Host.Outcome.next.injEq] at h
  subst h
  repeat' split
  all_goals (first | with_reducible rfl | (simp [h_irq, h_out]; done))

theorem view_execWakeWaitExpiry {μ : StatePart → Bool} (h_irq : μ .irq = true) (h_out : μ .out = true) (i : Nat) (s : State) {t : State} (h : execWakeWaitExpiry i s = .next t) : view μ t = view μ s := by
  simp only [execWakeWaitExpiry, Host.Outcome.next.injEq] at h
  subst h
  repeat' split
  all_goals (first | with_reducible rfl | (simp [h_irq, h_out]; done))

theorem view_execMsgWriteRetry {μ : StatePart → Bool} (h_irq : μ .irq = true) (h_out : μ .out = true) (n : Nat) (s : State) {t : State} (h : execMsgWriteRetry n s = .next t) : view μ t = view μ s := by
  simp only [execMsgWriteRetry, Host.Outcome.next.injEq] at h
  subst h
  repeat' split
  all_goals (first | with_reducible rfl | (simp [h_irq, h_out]; done))

theorem view_execOsysInfo {μ : StatePart → Bool} (h_mb : μ .mb = true) (h_adm : μ .adm = true) (h_otd : μ .otd = true) (h_hq : μ .hq = true) (h_out : μ .out = true) (e : Env) (s : State) {t : State} (h : execOsysInfo e s = .next t) : view μ t = view μ s := by
  simp only [execOsysInfo, Host.Outcome.next.injEq] at h
  subst h
  repeat' split
  all_goals (first | with_reducible rfl | (simp [h_mb, h_adm, h_otd, h_hq, h_out]; done))

theorem view_execOsysStatus {μ : StatePart → Bool} (h_mb : μ .mb = true) (h_adm : μ .adm = true) (h_otd : μ .otd = true) (h_hq : μ .hq = true) (h_ctr : μ .ctr = true) (h_out : μ .out = true) (e : Env) (s : State) {t : State} (h : execOsysStatus e s = .next t) : view μ t = view μ s := by
  simp only [execOsysStatus, Host.Outcome.next.injEq] at h
  subst h
  repeat' split
  all_goals (first | with_reducible rfl | (simp [h_mb, h_adm, h_otd, h_hq, h_ctr, h_out]; done))

theorem view_execOtimeRead {μ : StatePart → Bool} (h_mb : μ .mb = true) (h_adm : μ .adm = true) (h_otd : μ .otd = true) (h_hq : μ .hq = true) (h_out : μ .out = true) (e : Env) (s : State) {t : State} (h : execOtimeRead e s = .next t) : view μ t = view μ s := by
  simp only [execOtimeRead, Host.Outcome.next.injEq] at h
  subst h
  repeat' split
  all_goals (first | with_reducible rfl | (simp [h_mb, h_adm, h_otd, h_hq, h_out]; done))

theorem view_execOtimeSetInc {μ : StatePart → Bool} (h_mb : μ .mb = true) (h_adm : μ .adm = true) (h_time : μ .time = true) (h_otd : μ .otd = true) (h_hq : μ .hq = true) (h_out : μ .out = true) (e : Env) (s : State) {t : State} (h : execOtimeSetInc e s = .next t) : view μ t = view μ s := by
  simp only [execOtimeSetInc, Host.Outcome.next.injEq] at h
  subst h
  repeat' split
  all_goals (first | with_reducible rfl | (simp [h_mb, h_adm, h_time, h_otd, h_hq, h_out]; done))

theorem view_execOtimeStep {μ : StatePart → Bool} (h_mb : μ .mb = true) (h_adm : μ .adm = true) (h_time : μ .time = true) (h_otd : μ .otd = true) (h_hq : μ .hq = true) (h_out : μ .out = true) (e : Env) (s : State) {t : State} (h : execOtimeStep e s = .next t) : view μ t = view μ s := by
  simp only [execOtimeStep, Host.Outcome.next.injEq] at h
  subst h
  repeat' split
  all_goals (first | with_reducible rfl | (simp [h_mb, h_adm, h_time, h_otd, h_hq, h_out]; done))

theorem view_execOtimeAuthority {μ : StatePart → Bool} (h_mb : μ .mb = true) (h_adm : μ .adm = true) (h_otd : μ .otd = true) (h_hq : μ .hq = true) (h_irq : μ .irq = true) (h_pwr : μ .pwr = true) (h_out : μ .out = true) (e : Env) (s : State) {t : State} (h : execOtimeAuthority e s = .next t) : view μ t = view μ s := by
  simp only [execOtimeAuthority, Host.Outcome.next.injEq] at h
  subst h
  repeat' split
  all_goals (first | with_reducible rfl | (simp [h_mb, h_adm, h_otd, h_hq, h_irq, h_pwr, h_out]; done))

theorem view_execServoInc {μ : StatePart → Bool} (h_time : μ .time = true) (h_otd : μ .otd = true) (h_ctr : μ .ctr = true) (inc : BitVec 40) (s : State) {t : State} (h : execServoInc inc s = .next t) : view μ t = view μ s := by
  simp only [execServoInc, Host.Outcome.next.injEq] at h
  subst h
  repeat' split
  all_goals (first | with_reducible rfl | (simp [h_time, h_otd, h_ctr]; done))

theorem view_execServoStep {μ : StatePart → Bool} (h_time : μ .time = true) (h_otd : μ .otd = true) (h_ctr : μ .ctr = true) (amount : BitVec 80) (valid invalidate : Bool) (s : State) {t : State} (h : execServoStep amount valid invalidate s = .next t) : view μ t = view μ s := by
  simp only [execServoStep, Host.Outcome.next.injEq] at h
  subst h
  repeat' split
  all_goals (first | with_reducible rfl | (simp [h_time, h_otd, h_ctr]; done))

theorem view_execOmapSet {μ : StatePart → Bool} (h_mb : μ .mb = true) (h_adm : μ .adm = true) (h_ports : μ .ports = true) (h_flows : μ .flows = true) (h_otd : μ .otd = true) (h_hq : μ .hq = true) (h_irq : μ .irq = true) (h_pwr : μ .pwr = true) (h_out : μ .out = true) (e : Env) (s : State) {t : State} (h : execOmapSet e s = .next t) : view μ t = view μ s := by
  simp only [execOmapSet, Host.Outcome.next.injEq] at h
  subst h
  repeat' split
  all_goals (first | with_reducible rfl | (simp [h_mb, h_adm, h_ports, h_flows, h_otd, h_hq, h_irq, h_pwr, h_out]; done))

theorem view_execOmapRead {μ : StatePart → Bool} (h_mb : μ .mb = true) (h_adm : μ .adm = true) (h_otd : μ .otd = true) (h_hq : μ .hq = true) (h_out : μ .out = true) (e : Env) (s : State) {t : State} (h : execOmapRead e s = .next t) : view μ t = view μ s := by
  simp only [execOmapRead, Host.Outcome.next.injEq] at h
  subst h
  repeat' split
  all_goals (first | with_reducible rfl | (simp [h_mb, h_adm, h_otd, h_hq, h_out]; done))

theorem view_execOmapClear {μ : StatePart → Bool} (h_mb : μ .mb = true) (h_adm : μ .adm = true) (h_ports : μ .ports = true) (h_flows : μ .flows = true) (h_otd : μ .otd = true) (h_hq : μ .hq = true) (h_irq : μ .irq = true) (h_pwr : μ .pwr = true) (h_out : μ .out = true) (e : Env) (s : State) {t : State} (h : execOmapClear e s = .next t) : view μ t = view μ s := by
  simp only [execOmapClear, Host.Outcome.next.injEq] at h
  subst h
  repeat' split
  all_goals (first | with_reducible rfl | (simp [h_mb, h_adm, h_ports, h_flows, h_otd, h_hq, h_irq, h_pwr, h_out]; done))

theorem view_execOtdRecordWriteAck {μ : StatePart → Bool} (h_otd : μ .otd = true) (h_irq : μ .irq = true) (h_pwr : μ .pwr = true) (h_out : μ .out = true) (s : State) {t : State} (h : execOtdRecordWriteAck s = .next t) : view μ t = view μ s := by
  simp only [execOtdRecordWriteAck, Host.Outcome.next.injEq] at h
  subst h
  repeat' split
  all_goals (first | with_reducible rfl | (simp [h_otd, h_irq, h_pwr, h_out]; done))

theorem view_execOtdRecordRetry {μ : StatePart → Bool} (h_otd : μ .otd = true) (h_irq : μ .irq = true) (h_pwr : μ .pwr = true) (h_ctr : μ .ctr = true) (h_out : μ .out = true) (s : State) {t : State} (h : execOtdRecordRetry s = .next t) : view μ t = view μ s := by
  simp only [execOtdRecordRetry, Host.Outcome.next.injEq] at h
  subst h
  repeat' split
  all_goals (first | with_reducible rfl | (simp [h_otd, h_irq, h_pwr, h_ctr, h_out]; done))

theorem view_execOringConsWrite {μ : StatePart → Bool} (h_otd : μ .otd = true) (h_pwr : μ .pwr = true) (h_ctr : μ .ctr = true) (h_hpt : μ .hpt = true) (h_out : μ .out = true) (data : Word) (s : State) {t : State} (h : execOringConsWrite data s = .next t) : view μ t = view μ s := by
  simp only [execOringConsWrite, Host.Outcome.next.injEq] at h
  subst h
  repeat' split
  all_goals (first | with_reducible rfl | (simp [h_otd, h_pwr, h_ctr, h_hpt, h_out]; done))

theorem view_execOrecordRingSet {μ : StatePart → Bool} (h_mb : μ .mb = true) (h_adm : μ .adm = true) (h_otd : μ .otd = true) (h_hq : μ .hq = true) (h_pwr : μ .pwr = true) (h_out : μ .out = true) (e : Env) (s : State) {t : State} (h : execOrecordRingSet e s = .next t) : view μ t = view μ s := by
  simp only [execOrecordRingSet, Host.Outcome.next.injEq] at h
  subst h
  repeat' split
  all_goals (first | with_reducible rfl | (simp [h_mb, h_adm, h_otd, h_hq, h_pwr, h_out]; done))

theorem view_execOrecordInterval {μ : StatePart → Bool} (h_mb : μ .mb = true) (h_adm : μ .adm = true) (h_otd : μ .otd = true) (h_hq : μ .hq = true) (h_irq : μ .irq = true) (h_pwr : μ .pwr = true) (h_out : μ .out = true) (e : Env) (s : State) {t : State} (h : execOrecordInterval e s = .next t) : view μ t = view μ s := by
  simp only [execOrecordInterval, Host.Outcome.next.injEq] at h
  subst h
  repeat' split
  all_goals (first | with_reducible rfl | (simp [h_mb, h_adm, h_otd, h_hq, h_irq, h_pwr, h_out]; done))

theorem view_execOrecordStatus {μ : StatePart → Bool} (h_mb : μ .mb = true) (h_adm : μ .adm = true) (h_otd : μ .otd = true) (h_hq : μ .hq = true) (h_out : μ .out = true) (e : Env) (s : State) {t : State} (h : execOrecordStatus e s = .next t) : view μ t = view μ s := by
  simp only [execOrecordStatus, Host.Outcome.next.injEq] at h
  subst h
  repeat' split
  all_goals (first | with_reducible rfl | (simp [h_mb, h_adm, h_otd, h_hq, h_out]; done))

theorem view_execTapSummary {μ : StatePart → Bool} (h_otd : μ .otd = true) (h_ctr : μ .ctr = true) (summary : TapSummary) (s : State) {t : State} (h : execTapSummary summary s = .next t) : view μ t = view μ s := by
  simp only [execTapSummary, Host.Outcome.next.injEq] at h
  subst h
  repeat' split
  all_goals (first | with_reducible rfl | (simp [h_otd, h_ctr]; done))

theorem view_execIntervalBoundary {μ : StatePart → Bool} (h_slices : μ .slices = true) (h_otd : μ .otd = true) (h_irq : μ .irq = true) (h_pwr : μ .pwr = true) (h_ctr : μ .ctr = true) (h_out : μ .out = true) (s : State) {t : State} (h : execIntervalBoundary s = .next t) : view μ t = view μ s := by
  simp only [execIntervalBoundary, Host.Outcome.next.injEq] at h
  subst h
  repeat' split
  all_goals (first | with_reducible rfl | (simp [h_slices, h_otd, h_irq, h_pwr, h_ctr, h_out]; done))

theorem view_execOsealStatus {μ : StatePart → Bool} (h_mb : μ .mb = true) (h_adm : μ .adm = true) (h_otd : μ .otd = true) (h_hq : μ .hq = true) (h_out : μ .out = true) (e : Env) (s : State) {t : State} (h : execOsealStatus e s = .next t) : view μ t = view μ s := by
  simp only [execOsealStatus, Host.Outcome.next.injEq] at h
  subst h
  repeat' split
  all_goals (first | with_reducible rfl | (simp [h_mb, h_adm, h_otd, h_hq, h_out]; done))

theorem view_execOsealSeal {μ : StatePart → Bool} (h_mb : μ .mb = true) (h_adm : μ .adm = true) (h_otd : μ .otd = true) (h_hq : μ .hq = true) (h_irq : μ .irq = true) (h_pwr : μ .pwr = true) (h_out : μ .out = true) (e : Env) (s : State) {t : State} (h : execOsealSeal e s = .next t) : view μ t = view μ s := by
  simp only [execOsealSeal, Host.Outcome.next.injEq] at h
  subst h
  repeat' split
  all_goals (first | with_reducible rfl | (simp [h_mb, h_adm, h_otd, h_hq, h_irq, h_pwr, h_out]; done))

theorem view_execOsealUnseal {μ : StatePart → Bool} (h_mb : μ .mb = true) (h_adm : μ .adm = true) (h_otd : μ .otd = true) (h_hq : μ .hq = true) (h_irq : μ .irq = true) (h_pwr : μ .pwr = true) (h_ctr : μ .ctr = true) (h_out : μ .out = true) (e : Env) (s : State) {t : State} (h : execOsealUnseal e s = .next t) : view μ t = view μ s := by
  simp only [execOsealUnseal, Host.Outcome.next.injEq] at h
  subst h
  repeat' split
  all_goals (first | with_reducible rfl | (simp [h_mb, h_adm, h_otd, h_hq, h_irq, h_pwr, h_ctr, h_out]; done))

theorem view_execUnsealBlockExpiry {μ : StatePart → Bool} (h_otd : μ .otd = true) (s : State) {t : State} (h : execUnsealBlockExpiry s = .next t) : view μ t = view μ s := by
  simp only [execUnsealBlockExpiry, Host.Outcome.next.injEq] at h
  subst h
  repeat' split
  all_goals (first | with_reducible rfl | (simp [h_otd]; done))

theorem view_execSealSwitchChange {μ : StatePart → Bool} (h_otd : μ .otd = true) (h_irq : μ .irq = true) (h_pwr : μ .pwr = true) (h_out : μ .out = true) (level : Bool) (s : State) {t : State} (h : execSealSwitchChange level s = .next t) : view μ t = view μ s := by
  simp only [execSealSwitchChange, Host.Outcome.next.injEq] at h
  subst h
  repeat' split
  all_goals (first | with_reducible rfl | (simp [h_otd, h_irq, h_pwr, h_out]; done))

theorem view_execTestAccess {μ : StatePart → Bool} (h_boot : μ .boot = true) (h_otd : μ .otd = true) (h_irq : μ .irq = true) (h_pwr : μ .pwr = true) (h_out : μ .out = true) (s : State) {t : State} (h : execTestAccess s = .next t) : view μ t = view μ s := by
  simp only [execTestAccess, Host.Outcome.next.injEq] at h
  subst h
  repeat' split
  all_goals (first | with_reducible rfl | (simp [h_boot, h_otd, h_irq, h_pwr, h_out]; done))

theorem view_execOlogRead {μ : StatePart → Bool} (h_mb : μ .mb = true) (h_adm : μ .adm = true) (h_otd : μ .otd = true) (h_hq : μ .hq = true) (h_out : μ .out = true) (e : Env) (s : State) {t : State} (h : execOlogRead e s = .next t) : view μ t = view μ s := by
  simp only [execOlogRead, Host.Outcome.next.injEq] at h
  subst h
  repeat' split
  all_goals (first | with_reducible rfl | (simp [h_mb, h_adm, h_otd, h_hq, h_out]; done))

theorem view_execOlogAck {μ : StatePart → Bool} (h_mb : μ .mb = true) (h_adm : μ .adm = true) (h_otd : μ .otd = true) (h_hq : μ .hq = true) (h_irq : μ .irq = true) (h_pwr : μ .pwr = true) (h_out : μ .out = true) (e : Env) (s : State) {t : State} (h : execOlogAck e s = .next t) : view μ t = view μ s := by
  simp only [execOlogAck, Host.Outcome.next.injEq] at h
  subst h
  repeat' split
  all_goals (first | with_reducible rfl | (simp [h_mb, h_adm, h_otd, h_hq, h_irq, h_pwr, h_out]; done))

theorem view_execOtdPowerOn {μ : StatePart → Bool} (h_time : μ .time = true) (h_otd : μ .otd = true) (h_irq : μ .irq = true) (h_pwr : μ .pwr = true) (h_out : μ .out = true) (romOk level : Bool) (s : State) {t : State} (h : execOtdPowerOn romOk level s = .next t) : view μ t = view μ s := by
  simp only [execOtdPowerOn, Host.Outcome.next.injEq] at h
  subst h
  repeat' split
  all_goals (first | with_reducible rfl | (simp [h_time, h_otd, h_irq, h_pwr, h_out]; done))

theorem view_execKeyWord {μ : StatePart → Bool} (h_time : μ .time = true) (h_otd : μ .otd = true) (h_irq : μ .irq = true) (h_pwr : μ .pwr = true) (h_out : μ .out = true) (word : Word) (s : State) {t : State} (h : execKeyWord word s = .next t) : view μ t = view μ s := by
  simp only [execKeyWord, Host.Outcome.next.injEq] at h
  subst h
  repeat' split
  all_goals (first | with_reducible rfl | (simp [h_time, h_otd, h_irq, h_pwr, h_out]; done))

theorem view_execKeyTimeout {μ : StatePart → Bool} (h_time : μ .time = true) (h_otd : μ .otd = true) (h_irq : μ .irq = true) (h_pwr : μ .pwr = true) (h_out : μ .out = true) (s : State) {t : State} (h : execKeyTimeout s = .next t) : view μ t = view μ s := by
  simp only [execKeyTimeout, Host.Outcome.next.injEq] at h
  subst h
  repeat' split
  all_goals (first | with_reducible rfl | (simp [h_time, h_otd, h_irq, h_pwr, h_out]; done))

theorem view_execAskAnswer {μ : StatePart → Bool} (h_mb : μ .mb = true) (h_adm : μ .adm = true) (h_otd : μ .otd = true) (h_hq : μ .hq = true) (h_irq : μ .irq = true) (h_pwr : μ .pwr = true) (h_out : μ .out = true) (d b : Nat) (answer : Answer) (s : State) {t : State} (h : execAskAnswer d b answer s = .next t) : view μ t = view μ s := by
  simp only [execAskAnswer, Host.Outcome.next.injEq] at h
  subst h
  repeat' split
  all_goals (first | with_reducible rfl | (simp [h_mb, h_adm, h_otd, h_hq, h_irq, h_pwr, h_out]; done))

theorem view_execBadgerDelayEnd {μ : StatePart → Bool} (h_mb : μ .mb = true) (h_adm : μ .adm = true) (h_otd : μ .otd = true) (h_hq : μ .hq = true) (h_pwr : μ .pwr = true) (h_out : μ .out = true) (d : Nat) (s : State) {t : State} (h : execBadgerDelayEnd d s = .next t) : view μ t = view μ s := by
  simp only [execBadgerDelayEnd, Host.Outcome.next.injEq] at h
  subst h
  repeat' split
  all_goals (first | with_reducible rfl | (simp [h_mb, h_adm, h_otd, h_hq, h_pwr, h_out]; done))

theorem view_execDrainTimeout {μ : StatePart → Bool} (h_mb : μ .mb = true) (h_adm : μ .adm = true) (h_otd : μ .otd = true) (h_hq : μ .hq = true) (h_irq : μ .irq = true) (h_pwr : μ .pwr = true) (h_out : μ .out = true) (d : Nat) (s : State) {t : State} (h : execDrainTimeout d s = .next t) : view μ t = view μ s := by
  simp only [execDrainTimeout, Host.Outcome.next.injEq] at h
  subst h
  repeat' split
  all_goals (first | with_reducible rfl | (simp [h_mb, h_adm, h_otd, h_hq, h_irq, h_pwr, h_out]; done))

theorem view_execPwrStateSet {μ : StatePart → Bool} (h_mb : μ .mb = true) (h_adm : μ .adm = true) (h_ports : μ .ports = true) (h_otd : μ .otd = true) (h_hq : μ .hq = true) (h_irq : μ .irq = true) (h_pwr : μ .pwr = true) (h_ctr : μ .ctr = true) (h_out : μ .out = true) (e : Env) (s : State) {t : State} (h : execPwrStateSet e s = .next t) : view μ t = view μ s := by
  simp only [execPwrStateSet, Host.Outcome.next.injEq] at h
  subst h
  refine view_runCmd h_mb h_adm h_otd h_hq h_out _ _ _ _ _ (fun s => ?_) _
  try dsimp only
  split
  · rw [view_askNow h_mb h_adm h_ports h_otd h_hq h_irq h_pwr h_ctr h_out]
    exact view_foldl _ (fun s c => by simp [h_mb, h_adm, h_ports, h_otd, h_hq, h_irq, h_pwr, h_ctr, h_out]) _ _
  · rw [view_respond h_mb h_adm h_otd h_hq h_out]
    exact view_foldl _ (fun s c => by simp [h_mb, h_adm, h_ports, h_otd, h_hq, h_irq, h_pwr, h_ctr, h_out]) _ _

theorem view_execHibernate {μ : StatePart → Bool} (h_mb : μ .mb = true) (h_adm : μ .adm = true) (h_ports : μ .ports = true) (h_otd : μ .otd = true) (h_hq : μ .hq = true) (h_irq : μ .irq = true) (h_pwr : μ .pwr = true) (h_ctr : μ .ctr = true) (h_out : μ .out = true) (e : Env) (s : State) {t : State} (h : execHibernate e s = .next t) : view μ t = view μ s := by
  simp only [execHibernate, Host.Outcome.next.injEq] at h
  subst h
  refine view_runCmd h_mb h_adm h_otd h_hq h_out _ _ _ _ _ (fun s => ?_) _
  try dsimp only
  rw [view_startRound h_mb h_adm h_ports h_otd h_hq h_irq h_pwr h_ctr h_out]
  refine view_foldl _ (fun s r => ?_) _ _
  rw [view_answerAsk h_mb h_adm h_otd h_hq h_out, view_foldl _ (fun s d => by simp [h_mb, h_adm, h_ports, h_otd, h_hq, h_irq, h_pwr, h_ctr, h_out])]
  simp [h_mb, h_adm, h_ports, h_otd, h_hq, h_irq, h_pwr, h_ctr, h_out]

theorem view_execWakeSrcSet {μ : StatePart → Bool} (h_mb : μ .mb = true) (h_adm : μ .adm = true) (h_otd : μ .otd = true) (h_hq : μ .hq = true) (h_pwr : μ .pwr = true) (h_out : μ .out = true) (e : Env) (s : State) {t : State} (h : execWakeSrcSet e s = .next t) : view μ t = view μ s := by
  simp only [execWakeSrcSet, Host.Outcome.next.injEq] at h
  subst h
  repeat' split
  all_goals (first | with_reducible rfl | (simp [h_mb, h_adm, h_otd, h_hq, h_pwr, h_out]; done))

theorem view_execPwrStatus {μ : StatePart → Bool} (h_mb : μ .mb = true) (h_adm : μ .adm = true) (h_slices : μ .slices = true) (h_otd : μ .otd = true) (h_hq : μ .hq = true) (h_irq : μ .irq = true) (h_pwr : μ .pwr = true) (h_out : μ .out = true) (e : Env) (s : State) {t : State} (h : execPwrStatus e s = .next t) : view μ t = view μ s := by
  simp only [execPwrStatus, Host.Outcome.next.injEq] at h
  subst h
  repeat' split
  all_goals (first | with_reducible rfl | (simp [h_mb, h_adm, h_slices, h_otd, h_hq, h_irq, h_pwr, h_out]; done))

theorem view_execDrainLimitSet {μ : StatePart → Bool} (h_mb : μ .mb = true) (h_adm : μ .adm = true) (h_otd : μ .otd = true) (h_hq : μ .hq = true) (h_pwr : μ .pwr = true) (h_out : μ .out = true) (e : Env) (s : State) {t : State} (h : execDrainLimitSet e s = .next t) : view μ t = view μ s := by
  simp only [execDrainLimitSet, Host.Outcome.next.injEq] at h
  subst h
  refine view_runOk h_mb h_adm h_otd h_hq h_out _ _ _ _ _ _ (fun s => ?_) _
  exact view_foldl _ (fun s c => by simp [h_mb, h_adm, h_otd, h_hq, h_pwr, h_out]) _ _

theorem view_execOwlTick {μ : StatePart → Bool} (h_quad : μ .quad = true) (h_ports : μ .ports = true) (h_gate : μ .gate = true) (h_time : μ .time = true) (h_otd : μ .otd = true) (h_irq : μ .irq = true) (h_pwr : μ .pwr = true) (h_badger : μ .badger = true) (h_ctr : μ .ctr = true) (h_out : μ .out = true) (h_fresh : μ .fresh = true) (skewed : List Nat) (s : State) {t : State} (h : execOwlTick skewed s = .next t) : view μ t = view μ s := by
  simp only [execOwlTick, Host.Outcome.next.injEq] at h
  subst h
  repeat' split
  all_goals (first | with_reducible rfl | (simp [h_quad, h_ports, h_gate, h_time, h_otd, h_irq, h_pwr, h_badger, h_ctr, h_out, h_fresh]; done))

theorem view_execAutoSleepAsk {μ : StatePart → Bool} (h_mb : μ .mb = true) (h_adm : μ .adm = true) (h_ports : μ .ports = true) (h_otd : μ .otd = true) (h_hq : μ .hq = true) (h_irq : μ .irq = true) (h_pwr : μ .pwr = true) (h_ctr : μ .ctr = true) (h_out : μ .out = true) (d : Nat) (s : State) {t : State} (h : execAutoSleepAsk d s = .next t) : view μ t = view μ s := by
  simp only [execAutoSleepAsk, Host.Outcome.next.injEq] at h
  subst h
  repeat' split
  all_goals (first | with_reducible rfl | (simp [h_mb, h_adm, h_ports, h_otd, h_hq, h_irq, h_pwr, h_ctr, h_out]; done))

theorem view_execSleepEntry {μ : StatePart → Bool} (h_pwr : μ .pwr = true) (d : Nat) (s : State) {t : State} (h : execSleepEntry d s = .next t) : view μ t = view μ s := by
  simp only [execSleepEntry, Host.Outcome.next.injEq] at h
  subst h
  repeat' split
  all_goals (first | with_reducible rfl | (simp [h_pwr]; done))

theorem view_execPswLate {μ : StatePart → Bool} (h_pwr : μ .pwr = true) (d : Nat) (s : State) {t : State} (h : execPswLate d s = .next t) : view μ t = view μ s := by
  simp only [execPswLate, Host.Outcome.next.injEq] at h
  subst h
  repeat' split
  all_goals (first | with_reducible rfl | (simp [h_pwr]; done))

theorem view_execWake {μ : StatePart → Bool} (h_mb : μ .mb = true) (h_boot : μ .boot = true) (h_adm : μ .adm = true) (h_quad : μ .quad = true) (h_bank0 : μ .bank0 = true) (h_bank1 : μ .bank1 = true) (h_tables : μ .tables = true) (h_ports : μ .ports = true) (h_slices : μ .slices = true) (h_buf : μ .buf = true) (h_tm : μ .tm = true) (h_cap : μ .cap = true) (h_eng : μ .eng = true) (h_time : μ .time = true) (h_otd : μ .otd = true) (h_sez : μ .sez = true) (h_hq : μ .hq = true) (h_dma : μ .dma = true) (h_irq : μ .irq = true) (h_pwr : μ .pwr = true) (h_badger : μ .badger = true) (h_ctr : μ .ctr = true) (h_hpt : μ .hpt = true) (h_out : μ .out = true) (h_fresh : μ .fresh = true) (d : Nat) (s : State) {t : State} (h : execWake d s = .next t) : view μ t = view μ s := by
  simp only [execWake, Host.Outcome.next.injEq] at h
  subst h
  repeat' split
  all_goals (first | with_reducible rfl | (simp [h_mb, h_boot, h_adm, h_quad, h_bank0, h_bank1, h_tables, h_ports, h_slices, h_buf, h_tm, h_cap, h_eng, h_time, h_otd, h_sez, h_hq, h_dma, h_irq, h_pwr, h_badger, h_ctr, h_hpt, h_out, h_fresh]; done))

theorem view_execRegReady {μ : StatePart → Bool} (h_mb : μ .mb = true) (h_boot : μ .boot = true) (h_adm : μ .adm = true) (h_quad : μ .quad = true) (h_bank0 : μ .bank0 = true) (h_bank1 : μ .bank1 = true) (h_tables : μ .tables = true) (h_ports : μ .ports = true) (h_slices : μ .slices = true) (h_buf : μ .buf = true) (h_tm : μ .tm = true) (h_cap : μ .cap = true) (h_eng : μ .eng = true) (h_time : μ .time = true) (h_otd : μ .otd = true) (h_sez : μ .sez = true) (h_hq : μ .hq = true) (h_dma : μ .dma = true) (h_irq : μ .irq = true) (h_pwr : μ .pwr = true) (h_badger : μ .badger = true) (h_ctr : μ .ctr = true) (h_hpt : μ .hpt = true) (h_out : μ .out = true) (h_fresh : μ .fresh = true) (s : State) {t : State} (h : execRegReady s = .next t) : view μ t = view μ s := by
  simp only [execRegReady, Host.Outcome.next.injEq] at h
  subst h
  repeat' split
  all_goals (first | with_reducible rfl | (simp [h_mb, h_boot, h_adm, h_quad, h_bank0, h_bank1, h_tables, h_ports, h_slices, h_buf, h_tm, h_cap, h_eng, h_time, h_otd, h_sez, h_hq, h_dma, h_irq, h_pwr, h_badger, h_ctr, h_hpt, h_out, h_fresh]; done))

theorem view_execPswAck {μ : StatePart → Bool} (h_mb : μ .mb = true) (h_boot : μ .boot = true) (h_adm : μ .adm = true) (h_quad : μ .quad = true) (h_bank0 : μ .bank0 = true) (h_bank1 : μ .bank1 = true) (h_tables : μ .tables = true) (h_ports : μ .ports = true) (h_slices : μ .slices = true) (h_buf : μ .buf = true) (h_tm : μ .tm = true) (h_cap : μ .cap = true) (h_eng : μ .eng = true) (h_time : μ .time = true) (h_otd : μ .otd = true) (h_sez : μ .sez = true) (h_hq : μ .hq = true) (h_dma : μ .dma = true) (h_irq : μ .irq = true) (h_pwr : μ .pwr = true) (h_badger : μ .badger = true) (h_ctr : μ .ctr = true) (h_hpt : μ .hpt = true) (h_out : μ .out = true) (h_fresh : μ .fresh = true) (d : Nat) (s : State) {t : State} (h : execPswAck d s = .next t) : view μ t = view μ s := by
  simp only [execPswAck, Host.Outcome.next.injEq] at h
  subst h
  repeat' split
  all_goals (first | with_reducible rfl | (simp [h_mb, h_boot, h_adm, h_quad, h_bank0, h_bank1, h_tables, h_ports, h_slices, h_buf, h_tm, h_cap, h_eng, h_time, h_otd, h_sez, h_hq, h_dma, h_irq, h_pwr, h_badger, h_ctr, h_hpt, h_out, h_fresh]; done))

theorem view_execPllLock {μ : StatePart → Bool} (h_mb : μ .mb = true) (h_boot : μ .boot = true) (h_adm : μ .adm = true) (h_quad : μ .quad = true) (h_bank0 : μ .bank0 = true) (h_bank1 : μ .bank1 = true) (h_tables : μ .tables = true) (h_ports : μ .ports = true) (h_slices : μ .slices = true) (h_buf : μ .buf = true) (h_tm : μ .tm = true) (h_cap : μ .cap = true) (h_eng : μ .eng = true) (h_time : μ .time = true) (h_otd : μ .otd = true) (h_sez : μ .sez = true) (h_hq : μ .hq = true) (h_dma : μ .dma = true) (h_irq : μ .irq = true) (h_pwr : μ .pwr = true) (h_badger : μ .badger = true) (h_ctr : μ .ctr = true) (h_hpt : μ .hpt = true) (h_out : μ .out = true) (h_fresh : μ .fresh = true) (s : State) {t : State} (h : execPllLock s = .next t) : view μ t = view μ s := by
  simp only [execPllLock, Host.Outcome.next.injEq] at h
  subst h
  repeat' split
  all_goals (first | with_reducible rfl | (simp [h_mb, h_boot, h_adm, h_quad, h_bank0, h_bank1, h_tables, h_ports, h_slices, h_buf, h_tm, h_cap, h_eng, h_time, h_otd, h_sez, h_hq, h_dma, h_irq, h_pwr, h_badger, h_ctr, h_hpt, h_out, h_fresh]; done))

theorem view_execPllFault {μ : StatePart → Bool} (h_slices : μ .slices = true) (h_irq : μ .irq = true) (h_pwr : μ .pwr = true) (h_badger : μ .badger = true) (h_out : μ .out = true) (h_fresh : μ .fresh = true) (pair : Nat) (pll : Bool) (s : State) {t : State} (h : execPllFault pair pll s = .next t) : view μ t = view μ s := by
  simp only [execPllFault, Host.Outcome.next.injEq] at h
  subst h
  repeat' split
  all_goals (first | with_reducible rfl | (simp [h_slices, h_irq, h_pwr, h_badger, h_out, h_fresh]; done))

theorem view_execWakeTimeout {μ : StatePart → Bool} (h_mb : μ .mb = true) (h_boot : μ .boot = true) (h_adm : μ .adm = true) (h_quad : μ .quad = true) (h_bank0 : μ .bank0 = true) (h_bank1 : μ .bank1 = true) (h_tables : μ .tables = true) (h_ports : μ .ports = true) (h_slices : μ .slices = true) (h_buf : μ .buf = true) (h_tm : μ .tm = true) (h_cap : μ .cap = true) (h_eng : μ .eng = true) (h_time : μ .time = true) (h_otd : μ .otd = true) (h_sez : μ .sez = true) (h_hq : μ .hq = true) (h_dma : μ .dma = true) (h_irq : μ .irq = true) (h_pwr : μ .pwr = true) (h_badger : μ .badger = true) (h_ctr : μ .ctr = true) (h_out : μ .out = true) (h_fresh : μ .fresh = true) (d : Nat) (st : WakeStep) (s : State) {t : State} (h : execWakeTimeout d st s = .next t) : view μ t = view μ s := by
  simp only [execWakeTimeout, Host.Outcome.next.injEq] at h
  subst h
  repeat' split
  all_goals (first | with_reducible rfl | (simp [h_mb, h_boot, h_adm, h_quad, h_bank0, h_bank1, h_tables, h_ports, h_slices, h_buf, h_tm, h_cap, h_eng, h_time, h_otd, h_sez, h_hq, h_dma, h_irq, h_pwr, h_badger, h_ctr, h_out, h_fresh]; done))

theorem view_execVretLost {μ : StatePart → Bool} (h_mb : μ .mb = true) (h_adm : μ .adm = true) (h_otd : μ .otd = true) (h_hq : μ .hq = true) (h_irq : μ .irq = true) (h_pwr : μ .pwr = true) (h_out : μ .out = true) (s : State) {t : State} (h : execVretLost s = .next t) : view μ t = view μ s := by
  simp only [execVretLost, Host.Outcome.next.injEq] at h
  subst h
  repeat' split
  all_goals (first | with_reducible rfl | (simp [h_mb, h_adm, h_otd, h_hq, h_irq, h_pwr, h_out]; done))

theorem view_execVretGoodRestored {μ : StatePart → Bool} (h_pwr : μ .pwr = true) (s : State) {t : State} (h : execVretGoodRestored s = .next t) : view μ t = view μ s := by
  simp only [execVretGoodRestored, Host.Outcome.next.injEq] at h
  subst h
  repeat' split
  all_goals (first | with_reducible rfl | (simp [h_pwr]; done))

theorem view_execBrownOut {μ : StatePart → Bool} (h_time : μ .time = true) (h_irq : μ .irq = true) (h_pwr : μ .pwr = true) (h_out : μ .out = true) (s : State) {t : State} (h : execBrownOut s = .next t) : view μ t = view μ s := by
  simp only [execBrownOut, Host.Outcome.next.injEq] at h
  subst h
  repeat' split
  all_goals (first | with_reducible rfl | (simp [h_time, h_irq, h_pwr, h_out]; done))

theorem view_execBrownOutEnd {μ : StatePart → Bool} (h_otd : μ .otd = true) (h_irq : μ .irq = true) (h_pwr : μ .pwr = true) (h_out : μ .out = true) (s : State) {t : State} (h : execBrownOutEnd s = .next t) : view μ t = view μ s := by
  simp only [execBrownOutEnd, Host.Outcome.next.injEq] at h
  subst h
  repeat' split
  all_goals (first | with_reducible rfl | (simp [h_otd, h_irq, h_pwr, h_out]; done))

theorem view_execWakeReq {μ : StatePart → Bool} (h_pwr : μ .pwr = true) (h_hpt : μ .hpt = true) (s : State) {t : State} (h : execWakeReq s = .next t) : view μ t = view μ s := by
  simp only [execWakeReq, Host.Outcome.next.injEq] at h
  subst h
  repeat' split
  all_goals (first | with_reducible rfl | (simp [h_pwr, h_hpt]; done))

theorem view_execRetryFailed {μ : StatePart → Bool} (h_pwr : μ .pwr = true) (h_hpt : μ .hpt = true) (s : State) {t : State} (h : execRetryFailed s = .next t) : view μ t = view μ s := by
  simp only [execRetryFailed, Host.Outcome.next.injEq] at h
  subst h
  repeat' split
  all_goals (first | with_reducible rfl | (simp [h_pwr, h_hpt]; done))

theorem view_execBoAck {μ : StatePart → Bool} (h_pwr : μ .pwr = true) (h_hpt : μ .hpt = true) (s : State) {t : State} (h : execBoAck s = .next t) : view μ t = view μ s := by
  simp only [execBoAck, Host.Outcome.next.injEq] at h
  subst h
  repeat' split
  all_goals (first | with_reducible rfl | (simp [h_pwr, h_hpt]; done))

theorem view_execOwlLatchEdge {μ : StatePart → Bool} (h_irq : μ .irq = true) (h_pwr : μ .pwr = true) (h_out : μ .out = true) (i : Nat) (s : State) {t : State} (h : execOwlLatchEdge i s = .next t) : view μ t = view μ s := by
  simp only [execOwlLatchEdge, Host.Outcome.next.injEq] at h
  subst h
  repeat' split
  all_goals (first | with_reducible rfl | (simp [h_irq, h_pwr, h_out]; done))

theorem view_execWarmReset {μ : StatePart → Bool} (h_mb : μ .mb = true) (h_boot : μ .boot = true) (h_adm : μ .adm = true) (h_quad : μ .quad = true) (h_bank0 : μ .bank0 = true) (h_bank1 : μ .bank1 = true) (h_tables : μ .tables = true) (h_ports : μ .ports = true) (h_slices : μ .slices = true) (h_buf : μ .buf = true) (h_tm : μ .tm = true) (h_cap : μ .cap = true) (h_eng : μ .eng = true) (h_time : μ .time = true) (h_otd : μ .otd = true) (h_sez : μ .sez = true) (h_hq : μ .hq = true) (h_dma : μ .dma = true) (h_irq : μ .irq = true) (h_pwr : μ .pwr = true) (h_badger : μ .badger = true) (h_ctr : μ .ctr = true) (h_out : μ .out = true) (h_fresh : μ .fresh = true) (s : State) {t : State} (h : execWarmReset s = .next t) : view μ t = view μ s := by
  simp only [execWarmReset, Host.Outcome.next.injEq] at h
  subst h
  repeat' split
  all_goals (first | with_reducible rfl | (simp [h_mb, h_boot, h_adm, h_quad, h_bank0, h_bank1, h_tables, h_ports, h_slices, h_buf, h_tm, h_cap, h_eng, h_time, h_otd, h_sez, h_hq, h_dma, h_irq, h_pwr, h_badger, h_ctr, h_out, h_fresh]; done))

theorem view_execBadgerSlot {μ : StatePart → Bool} (h_tables : μ .tables = true) (h_ports : μ .ports = true) (h_slices : μ .slices = true) (h_buf : μ .buf = true) (h_tm : μ .tm = true) (h_flows : μ .flows = true) (h_cap : μ .cap = true) (h_eng : μ .eng = true) (h_time : μ .time = true) (h_otd : μ .otd = true) (h_sez : μ .sez = true) (h_hq : μ .hq = true) (h_irq : μ .irq = true) (h_pwr : μ .pwr = true) (h_badger : μ .badger = true) (h_ctr : μ .ctr = true) (h_out : μ .out = true) (h_fresh : μ .fresh = true) (u : Nat) (outcome : TestOutcome) (s : State) {t : State} (h : execBadgerSlot u outcome s = .next t) : view μ t = view μ s := by
  simp only [execBadgerSlot, Host.Outcome.next.injEq] at h
  subst h
  repeat' split
  all_goals (first | with_reducible rfl | (simp [h_tables, h_ports, h_slices, h_buf, h_tm, h_flows, h_cap, h_eng, h_time, h_otd, h_sez, h_hq, h_irq, h_pwr, h_badger, h_ctr, h_out, h_fresh]; done))

theorem view_execBadgerOverdue {μ : StatePart → Bool} (h_irq : μ .irq = true) (h_pwr : μ .pwr = true) (h_badger : μ .badger = true) (h_out : μ .out = true) (u : Nat) (s : State) {t : State} (h : execBadgerOverdue u s = .next t) : view μ t = view μ s := by
  simp only [execBadgerOverdue, Host.Outcome.next.injEq] at h
  subst h
  repeat' split
  all_goals (first | with_reducible rfl | (simp [h_irq, h_pwr, h_badger, h_out]; done))

theorem view_execBadgerWindowEnd {μ : StatePart → Bool} (h_badger : μ .badger = true) (s : State) {t : State} (h : execBadgerWindowEnd s = .next t) : view μ t = view μ s := by
  simp only [execBadgerWindowEnd, Host.Outcome.next.injEq] at h
  subst h
  repeat' split
  all_goals (first | with_reducible rfl | (simp [h_badger]; done))

theorem view_execBadgerCfg {μ : StatePart → Bool} (h_mb : μ .mb = true) (h_adm : μ .adm = true) (h_otd : μ .otd = true) (h_hq : μ .hq = true) (h_badger : μ .badger = true) (h_out : μ .out = true) (e : Env) (s : State) {t : State} (h : execBadgerCfg e s = .next t) : view μ t = view μ s := by
  simp only [execBadgerCfg, Host.Outcome.next.injEq] at h
  subst h
  repeat' split
  all_goals (first | with_reducible rfl | (simp [h_mb, h_adm, h_otd, h_hq, h_badger, h_out]; done))

theorem view_execBadgerWindow {μ : StatePart → Bool} (h_mb : μ .mb = true) (h_adm : μ .adm = true) (h_otd : μ .otd = true) (h_hq : μ .hq = true) (h_badger : μ .badger = true) (h_out : μ .out = true) (e : Env) (s : State) {t : State} (h : execBadgerWindow e s = .next t) : view μ t = view μ s := by
  simp only [execBadgerWindow, Host.Outcome.next.injEq] at h
  subst h
  repeat' split
  all_goals (first | with_reducible rfl | (simp [h_mb, h_adm, h_otd, h_hq, h_badger, h_out]; done))

theorem view_execBadgerRun {μ : StatePart → Bool} (h_mb : μ .mb = true) (h_adm : μ .adm = true) (h_tables : μ .tables = true) (h_ports : μ .ports = true) (h_slices : μ .slices = true) (h_buf : μ .buf = true) (h_tm : μ .tm = true) (h_flows : μ .flows = true) (h_cap : μ .cap = true) (h_eng : μ .eng = true) (h_time : μ .time = true) (h_otd : μ .otd = true) (h_sez : μ .sez = true) (h_hq : μ .hq = true) (h_irq : μ .irq = true) (h_pwr : μ .pwr = true) (h_badger : μ .badger = true) (h_ctr : μ .ctr = true) (h_out : μ .out = true) (h_fresh : μ .fresh = true) (e : Env) (outcome : TestOutcome) (us : Nat) (s : State) {t : State} (h : execBadgerRun e outcome us s = .next t) : view μ t = view μ s := by
  simp only [execBadgerRun, Host.Outcome.next.injEq] at h
  subst h
  repeat' split
  all_goals (first | with_reducible rfl | (simp [h_mb, h_adm, h_tables, h_ports, h_slices, h_buf, h_tm, h_flows, h_cap, h_eng, h_time, h_otd, h_sez, h_hq, h_irq, h_pwr, h_badger, h_ctr, h_out, h_fresh]; done))

theorem view_execBadgerStatus {μ : StatePart → Bool} (h_mb : μ .mb = true) (h_adm : μ .adm = true) (h_otd : μ .otd = true) (h_hq : μ .hq = true) (h_out : μ .out = true) (e : Env) (s : State) {t : State} (h : execBadgerStatus e s = .next t) : view μ t = view μ s := by
  simp only [execBadgerStatus, Host.Outcome.next.injEq] at h
  subst h
  repeat' split
  all_goals (first | with_reducible rfl | (simp [h_mb, h_adm, h_otd, h_hq, h_out]; done))

theorem view_execMemRead {μ : StatePart → Bool} (h_mb : μ .mb = true) (h_adm : μ .adm = true) (h_otd : μ .otd = true) (h_hq : μ .hq = true) (h_out : μ .out = true) (h_fresh : μ .fresh = true) (e : Env) (s : State) {t : State} (h : execMemRead e s = .next t) : view μ t = view μ s := by
  simp only [execMemRead, Host.Outcome.next.injEq] at h
  subst h
  repeat' split
  all_goals (first | with_reducible rfl | (simp [h_mb, h_adm, h_otd, h_hq, h_out, h_fresh]; done))

theorem view_execErrCounters {μ : StatePart → Bool} (h_mb : μ .mb = true) (h_adm : μ .adm = true) (h_otd : μ .otd = true) (h_hq : μ .hq = true) (h_ctr : μ .ctr = true) (h_out : μ .out = true) (e : Env) (s : State) {t : State} (h : execErrCounters e s = .next t) : view μ t = view μ s := by
  simp only [execErrCounters, Host.Outcome.next.injEq] at h
  subst h
  repeat' split
  all_goals (first | with_reducible rfl | (simp [h_mb, h_adm, h_otd, h_hq, h_ctr, h_out]; done))

theorem view_execFaultLog {μ : StatePart → Bool} (h_mb : μ .mb = true) (h_adm : μ .adm = true) (h_otd : μ .otd = true) (h_hq : μ .hq = true) (h_out : μ .out = true) (e : Env) (s : State) {t : State} (h : execFaultLog e s = .next t) : view μ t = view μ s := by
  simp only [execFaultLog, Host.Outcome.next.injEq] at h
  subst h
  repeat' split
  all_goals (first | with_reducible rfl | (simp [h_mb, h_adm, h_otd, h_hq, h_out]; done))

theorem view_execIsolate {μ : StatePart → Bool} (h_mb : μ .mb = true) (h_adm : μ .adm = true) (h_tables : μ .tables = true) (h_slices : μ .slices = true) (h_buf : μ .buf = true) (h_eng : μ .eng = true) (h_otd : μ .otd = true) (h_hq : μ .hq = true) (h_irq : μ .irq = true) (h_pwr : μ .pwr = true) (h_badger : μ .badger = true) (h_out : μ .out = true) (e : Env) (s : State) {t : State} (h : execIsolate e s = .next t) : view μ t = view μ s := by
  simp only [execIsolate, Host.Outcome.next.injEq] at h
  subst h
  repeat' split
  all_goals (first | with_reducible rfl | (simp [h_mb, h_adm, h_tables, h_slices, h_buf, h_eng, h_otd, h_hq, h_irq, h_pwr, h_badger, h_out]; done))

theorem view_execRestore {μ : StatePart → Bool} (h_mb : μ .mb = true) (h_adm : μ .adm = true) (h_slices : μ .slices = true) (h_buf : μ .buf = true) (h_flows : μ .flows = true) (h_eng : μ .eng = true) (h_otd : μ .otd = true) (h_hq : μ .hq = true) (h_irq : μ .irq = true) (h_pwr : μ .pwr = true) (h_badger : μ .badger = true) (h_ctr : μ .ctr = true) (h_out : μ .out = true) (e : Env) (outcome : TestOutcome) (s : State) {t : State} (h : execRestore e outcome s = .next t) : view μ t = view μ s := by
  simp only [execRestore, Host.Outcome.next.injEq] at h
  subst h
  repeat' split
  all_goals (first | with_reducible rfl | (simp [h_mb, h_adm, h_slices, h_buf, h_flows, h_eng, h_otd, h_hq, h_irq, h_pwr, h_badger, h_ctr, h_out]; done))

theorem view_execRelocateDone {μ : StatePart → Bool} (h_tables : μ .tables = true) (h_irq : μ .irq = true) (h_pwr : μ .pwr = true) (h_badger : μ .badger = true) (h_out : μ .out = true) (u : Nat) (lost : List LostLine) (s : State) {t : State} (h : execRelocateDone u lost s = .next t) : view μ t = view μ s := by
  simp only [execRelocateDone, Host.Outcome.next.injEq] at h
  subst h
  repeat' split
  all_goals (first | with_reducible rfl | (simp [h_tables, h_irq, h_pwr, h_badger, h_out]; done))

theorem view_execRebuildDone {μ : StatePart → Bool} (h_slices : μ .slices = true) (h_flows : μ .flows = true) (h_irq : μ .irq = true) (h_pwr : μ .pwr = true) (h_badger : μ .badger = true) (h_out : μ .out = true) (h_fresh : μ .fresh = true) (u : Nat) (s : State) {t : State} (h : execRebuildDone u s = .next t) : view μ t = view μ s := by
  simp only [execRebuildDone, Host.Outcome.next.injEq] at h
  subst h
  repeat' split
  all_goals (first | with_reducible rfl | (simp [h_slices, h_flows, h_irq, h_pwr, h_badger, h_out, h_fresh]; done))

theorem view_execSliceCoreFault {μ : StatePart → Bool} (h_ports : μ .ports = true) (h_slices : μ .slices = true) (h_buf : μ .buf = true) (h_tm : μ .tm = true) (h_cap : μ .cap = true) (h_otd : μ .otd = true) (h_hq : μ .hq = true) (h_irq : μ .irq = true) (h_pwr : μ .pwr = true) (h_badger : μ .badger = true) (h_ctr : μ .ctr = true) (h_out : μ .out = true) (h_fresh : μ .fresh = true) (sl : Nat) (s : State) {t : State} (h : execSliceCoreFault sl s = .next t) : view μ t = view μ s := by
  simp only [execSliceCoreFault, Host.Outcome.next.injEq] at h
  subst h
  repeat' split
  all_goals (first | with_reducible rfl | (simp [h_ports, h_slices, h_buf, h_tm, h_cap, h_otd, h_hq, h_irq, h_pwr, h_badger, h_ctr, h_out, h_fresh]; done))

theorem view_execLockstepMismatch {μ : StatePart → Bool} (h_mb : μ .mb = true) (h_boot : μ .boot = true) (h_adm : μ .adm = true) (h_quad : μ .quad = true) (h_eng : μ .eng = true) (h_sez : μ .sez = true) (h_irq : μ .irq = true) (h_pwr : μ .pwr = true) (h_badger : μ .badger = true) (h_out : μ .out = true) (h_fresh : μ .fresh = true) (s : State) {t : State} (h : execLockstepMismatch s = .next t) : view μ t = view μ s := by
  simp only [execLockstepMismatch, Host.Outcome.next.injEq] at h
  subst h
  repeat' split
  all_goals (first | with_reducible rfl | (simp [h_mb, h_boot, h_adm, h_quad, h_eng, h_sez, h_irq, h_pwr, h_badger, h_out, h_fresh]; done))

theorem view_execCtlRestartDone {μ : StatePart → Bool} (h_boot : μ .boot = true) (h_irq : μ .irq = true) (h_pwr : μ .pwr = true) (h_badger : μ .badger = true) (h_out : μ .out = true) (s : State) {t : State} (h : execCtlRestartDone s = .next t) : view μ t = view μ s := by
  simp only [execCtlRestartDone, Host.Outcome.next.injEq] at h
  subst h
  repeat' split
  all_goals (first | with_reducible rfl | (simp [h_boot, h_irq, h_pwr, h_badger, h_out]; done))

theorem view_execControlRamFault {μ : StatePart → Bool} (h_boot : μ .boot = true) (h_irq : μ .irq = true) (h_pwr : μ .pwr = true) (h_badger : μ .badger = true) (h_out : μ .out = true) (h_fresh : μ .fresh = true) (s : State) {t : State} (h : execControlRamFault s = .next t) : view μ t = view μ s := by
  simp only [execControlRamFault, Host.Outcome.next.injEq] at h
  subst h
  repeat' split
  all_goals (first | with_reducible rfl | (simp [h_boot, h_irq, h_pwr, h_badger, h_out, h_fresh]; done))

theorem view_execSezalCfg {μ : StatePart → Bool} (h_mb : μ .mb = true) (h_adm : μ .adm = true) (h_bank0 : μ .bank0 = true) (h_bank1 : μ .bank1 = true) (h_ports : μ .ports = true) (h_time : μ .time = true) (h_otd : μ .otd = true) (h_sez : μ .sez = true) (h_hq : μ .hq = true) (h_irq : μ .irq = true) (h_pwr : μ .pwr = true) (h_ctr : μ .ctr = true) (h_out : μ .out = true) (e : Env) (s : State) {t : State} (h : execSezalCfg e s = .next t) : view μ t = view μ s := by
  simp only [execSezalCfg, Host.Outcome.next.injEq] at h
  subst h
  repeat' split
  all_goals (first | with_reducible rfl | (simp [h_mb, h_adm, h_bank0, h_bank1, h_ports, h_time, h_otd, h_sez, h_hq, h_irq, h_pwr, h_ctr, h_out]; done))

theorem view_execDomainPortSet {μ : StatePart → Bool} (h_mb : μ .mb = true) (h_adm : μ .adm = true) (h_quad : μ .quad = true) (h_bank0 : μ .bank0 = true) (h_bank1 : μ .bank1 = true) (h_ports : μ .ports = true) (h_slices : μ .slices = true) (h_buf : μ .buf = true) (h_tm : μ .tm = true) (h_gate : μ .gate = true) (h_flows : μ .flows = true) (h_cap : μ .cap = true) (h_time : μ .time = true) (h_otd : μ .otd = true) (h_sez : μ .sez = true) (h_hq : μ .hq = true) (h_irq : μ .irq = true) (h_pwr : μ .pwr = true) (h_ctr : μ .ctr = true) (h_out : μ .out = true) (h_fresh : μ .fresh = true) (e : Env) (s : State) {t : State} (h : execDomainPortSet e s = .next t) : view μ t = view μ s := by
  simp only [execDomainPortSet, Host.Outcome.next.injEq] at h
  subst h
  repeat' split
  all_goals (first | with_reducible rfl | (simp [h_mb, h_adm, h_quad, h_bank0, h_bank1, h_ports, h_slices, h_buf, h_tm, h_gate, h_flows, h_cap, h_time, h_otd, h_sez, h_hq, h_irq, h_pwr, h_ctr, h_out, h_fresh]; done))

theorem view_execSezalStatus {μ : StatePart → Bool} (h_mb : μ .mb = true) (h_adm : μ .adm = true) (h_otd : μ .otd = true) (h_hq : μ .hq = true) (h_ctr : μ .ctr = true) (h_out : μ .out = true) (e : Env) (s : State) {t : State} (h : execSezalStatus e s = .next t) : view μ t = view μ s := by
  simp only [execSezalStatus, Host.Outcome.next.injEq] at h
  subst h
  repeat' split
  all_goals (first | with_reducible rfl | (simp [h_mb, h_adm, h_otd, h_hq, h_ctr, h_out]; done))

theorem view_execSezalMembers {μ : StatePart → Bool} (h_mb : μ .mb = true) (h_adm : μ .adm = true) (h_otd : μ .otd = true) (h_hq : μ .hq = true) (h_out : μ .out = true) (e : Env) (s : State) {t : State} (h : execSezalMembers e s = .next t) : view μ t = view μ s := by
  simp only [execSezalMembers, Host.Outcome.next.injEq] at h
  subst h
  repeat' split
  all_goals (first | with_reducible rfl | (simp [h_mb, h_adm, h_otd, h_hq, h_out]; done))

theorem view_execKeeperPrioSet {μ : StatePart → Bool} (h_mb : μ .mb = true) (h_adm : μ .adm = true) (h_time : μ .time = true) (h_otd : μ .otd = true) (h_sez : μ .sez = true) (h_hq : μ .hq = true) (h_irq : μ .irq = true) (h_pwr : μ .pwr = true) (h_out : μ .out = true) (e : Env) (s : State) {t : State} (h : execKeeperPrioSet e s = .next t) : view μ t = view μ s := by
  simp only [execKeeperPrioSet, Host.Outcome.next.injEq] at h
  subst h
  repeat' split
  all_goals (first | with_reducible rfl | (simp [h_mb, h_adm, h_time, h_otd, h_sez, h_hq, h_irq, h_pwr, h_out]; done))

theorem view_execHelloTx {μ : StatePart → Bool} (h_ports : μ .ports = true) (h_sez : μ .sez = true) (h_ctr : μ .ctr = true) (p : Nat) (s : State) {t : State} (h : execHelloTx p s = .next t) : view μ t = view μ s := by
  simp only [execHelloTx, Host.Outcome.next.injEq] at h
  subst h
  repeat' split
  all_goals (first | with_reducible rfl | (simp [h_ports, h_sez, h_ctr]; done))

theorem view_execHelloRx {μ : StatePart → Bool} (h_time : μ .time = true) (h_sez : μ .sez = true) (h_irq : μ .irq = true) (h_pwr : μ .pwr = true) (h_ctr : μ .ctr = true) (h_out : μ .out = true) (p : Nat) (frame : List Byte) (s : State) {t : State} (h : execHelloRx p frame s = .next t) : view μ t = view μ s := by
  simp only [execHelloRx, Host.Outcome.next.injEq] at h
  subst h
  repeat' split
  all_goals (first | with_reducible rfl | (simp [h_time, h_sez, h_irq, h_pwr, h_ctr, h_out]; done))

theorem view_execAdjacencyTimeout {μ : StatePart → Bool} (h_time : μ .time = true) (h_sez : μ .sez = true) (h_irq : μ .irq = true) (h_pwr : μ .pwr = true) (h_out : μ .out = true) (p : Nat) (s : State) {t : State} (h : execAdjacencyTimeout p s = .next t) : view μ t = view μ s := by
  simp only [execAdjacencyTimeout, Host.Outcome.next.injEq] at h
  subst h
  repeat' split
  all_goals (first | with_reducible rfl | (simp [h_time, h_sez, h_irq, h_pwr, h_out]; done))

theorem view_execMemberTx {μ : StatePart → Bool} (h_ports : μ .ports = true) (h_sez : μ .sez = true) (h_ctr : μ .ctr = true) (s : State) {t : State} (h : execMemberTx s = .next t) : view μ t = view μ s := by
  simp only [execMemberTx, Host.Outcome.next.injEq] at h
  subst h
  repeat' split
  all_goals (first | with_reducible rfl | (simp [h_ports, h_sez, h_ctr]; done))

theorem view_execMemberRx {μ : StatePart → Bool} (h_ports : μ .ports = true) (h_time : μ .time = true) (h_sez : μ .sez = true) (h_irq : μ .irq = true) (h_pwr : μ .pwr = true) (h_ctr : μ .ctr = true) (h_out : μ .out = true) (p : Nat) (frame : List Byte) (s : State) {t : State} (h : execMemberRx p frame s = .next t) : view μ t = view μ s := by
  simp only [execMemberRx, Host.Outcome.next.injEq] at h
  subst h
  repeat' split
  all_goals (first | with_reducible rfl | (simp [h_ports, h_time, h_sez, h_irq, h_pwr, h_ctr, h_out]; done))

theorem view_execLeaveRx {μ : StatePart → Bool} (h_ports : μ .ports = true) (h_time : μ .time = true) (h_sez : μ .sez = true) (h_irq : μ .irq = true) (h_pwr : μ .pwr = true) (h_ctr : μ .ctr = true) (h_out : μ .out = true) (p : Nat) (frame : List Byte) (s : State) {t : State} (h : execLeaveRx p frame s = .next t) : view μ t = view μ s := by
  simp only [execLeaveRx, Host.Outcome.next.injEq] at h
  subst h
  repeat' split
  all_goals (first | with_reducible rfl | (simp [h_ports, h_time, h_sez, h_irq, h_pwr, h_ctr, h_out]; done))

theorem view_execMemberAge {μ : StatePart → Bool} (h_time : μ .time = true) (h_sez : μ .sez = true) (h_irq : μ .irq = true) (h_pwr : μ .pwr = true) (h_out : μ .out = true) (i : Nat) (s : State) {t : State} (h : execMemberAge i s = .next t) : view μ t = view μ s := by
  simp only [execMemberAge, Host.Outcome.next.injEq] at h
  subst h
  repeat' split
  all_goals (first | with_reducible rfl | (simp [h_time, h_sez, h_irq, h_pwr, h_out]; done))

theorem view_execSyncReqTx {μ : StatePart → Bool} (h_ports : μ .ports = true) (h_sez : μ .sez = true) (h_ctr : μ .ctr = true) (t1 : Nat) (s : State) {t : State} (h : execSyncReqTx t1 s = .next t) : view μ t = view μ s := by
  simp only [execSyncReqTx, Host.Outcome.next.injEq] at h
  subst h
  repeat' split
  all_goals (first | with_reducible rfl | (simp [h_ports, h_sez, h_ctr]; done))

theorem view_execSyncReqRx {μ : StatePart → Bool} (h_ports : μ .ports = true) (h_sez : μ .sez = true) (h_ctr : μ .ctr = true) (p : Nat) (frame : List Byte) (t2 : Nat) (s : State) {t : State} (h : execSyncReqRx p frame t2 s = .next t) : view μ t = view μ s := by
  simp only [execSyncReqRx, Host.Outcome.next.injEq] at h
  subst h
  repeat' split
  all_goals (first | with_reducible rfl | (simp [h_ports, h_sez, h_ctr]; done))

theorem view_execSyncRespRx {μ : StatePart → Bool} (h_time : μ .time = true) (h_otd : μ .otd = true) (h_sez : μ .sez = true) (h_irq : μ .irq = true) (h_pwr : μ .pwr = true) (h_ctr : μ .ctr = true) (h_out : μ .out = true) (h_fresh : μ .fresh = true) (p : Nat) (frame : List Byte) (t4 : Nat) (s : State) {t : State} (h : execSyncRespRx p frame t4 s = .next t) : view μ t = view μ s := by
  simp only [execSyncRespRx, Host.Outcome.next.injEq] at h
  subst h
  refine view_receiveCtl h_sez h_ctr _ _ _ _ (fun m s => ?_) _
  try dsimp only
  repeat' split
  all_goals (first | with_reducible rfl | (simp [h_time, h_otd, h_sez, h_irq, h_pwr, h_ctr, h_out, h_fresh]; done))

theorem view_execHoldoverExpiry {μ : StatePart → Bool} (h_time : μ .time = true) (h_sez : μ .sez = true) (h_irq : μ .irq = true) (h_pwr : μ .pwr = true) (h_out : μ .out = true) (s : State) {t : State} (h : execHoldoverExpiry s = .next t) : view μ t = view μ s := by
  simp only [execHoldoverExpiry, Host.Outcome.next.injEq] at h
  subst h
  repeat' split
  all_goals (first | with_reducible rfl | (simp [h_time, h_sez, h_irq, h_pwr, h_out]; done))

theorem view_execQuadApplyAtDomain {μ : StatePart → Bool} (h_mb : μ .mb = true) (h_adm : μ .adm = true) (h_quad : μ .quad = true) (h_bank0 : μ .bank0 = true) (h_bank1 : μ .bank1 = true) (h_tables : μ .tables = true) (h_ports : μ .ports = true) (h_slices : μ .slices = true) (h_buf : μ .buf = true) (h_tm : μ .tm = true) (h_gate : μ .gate = true) (h_flows : μ .flows = true) (h_cap : μ .cap = true) (h_otd : μ .otd = true) (h_sez : μ .sez = true) (h_hq : μ .hq = true) (h_irq : μ .irq = true) (h_pwr : μ .pwr = true) (h_ctr : μ .ctr = true) (h_out : μ .out = true) (h_fresh : μ .fresh = true) (e : Env) (s : State) {t : State} (h : execQuadApplyAtDomain e s = .next t) : view μ t = view μ s := by
  simp only [execQuadApplyAtDomain, Host.Outcome.next.injEq] at h
  subst h
  repeat' split
  all_goals (first | with_reducible rfl | (simp [h_mb, h_adm, h_quad, h_bank0, h_bank1, h_tables, h_ports, h_slices, h_buf, h_tm, h_gate, h_flows, h_cap, h_otd, h_sez, h_hq, h_irq, h_pwr, h_ctr, h_out, h_fresh]; done))

theorem view_execProposeRepeat {μ : StatePart → Bool} (h_ports : μ .ports = true) (h_sez : μ .sez = true) (h_ctr : μ .ctr = true) (s : State) {t : State} (h : execProposeRepeat s = .next t) : view μ t = view μ s := by
  simp only [execProposeRepeat, Host.Outcome.next.injEq] at h
  subst h
  repeat' split
  all_goals (first | with_reducible rfl | (simp [h_ports, h_sez, h_ctr]; done))

theorem view_execProposeRx {μ : StatePart → Bool} (h_quad : μ .quad = true) (h_bank0 : μ .bank0 = true) (h_bank1 : μ .bank1 = true) (h_tables : μ .tables = true) (h_ports : μ .ports = true) (h_slices : μ .slices = true) (h_buf : μ .buf = true) (h_tm : μ .tm = true) (h_gate : μ .gate = true) (h_flows : μ .flows = true) (h_cap : μ .cap = true) (h_sez : μ .sez = true) (h_hq : μ .hq = true) (h_irq : μ .irq = true) (h_pwr : μ .pwr = true) (h_ctr : μ .ctr = true) (h_out : μ .out = true) (h_fresh : μ .fresh = true) (p : Nat) (frame : List Byte) (s : State) {t : State} (h : execProposeRx p frame s = .next t) : view μ t = view μ s := by
  simp only [execProposeRx, Host.Outcome.next.injEq] at h
  subst h
  repeat' split
  all_goals (first | with_reducible rfl | (simp [h_quad, h_bank0, h_bank1, h_tables, h_ports, h_slices, h_buf, h_tm, h_gate, h_flows, h_cap, h_sez, h_hq, h_irq, h_pwr, h_ctr, h_out, h_fresh]; done))

theorem view_execVoteRepeat {μ : StatePart → Bool} (h_ports : μ .ports = true) (h_sez : μ .sez = true) (h_ctr : μ .ctr = true) (s : State) {t : State} (h : execVoteRepeat s = .next t) : view μ t = view μ s := by
  simp only [execVoteRepeat, Host.Outcome.next.injEq] at h
  subst h
  repeat' split
  all_goals (first | with_reducible rfl | (simp [h_ports, h_sez, h_ctr]; done))

theorem view_execVoteRx {μ : StatePart → Bool} (h_quad : μ .quad = true) (h_bank0 : μ .bank0 = true) (h_bank1 : μ .bank1 = true) (h_tables : μ .tables = true) (h_ports : μ .ports = true) (h_sez : μ .sez = true) (h_irq : μ .irq = true) (h_pwr : μ .pwr = true) (h_ctr : μ .ctr = true) (h_out : μ .out = true) (p : Nat) (frame : List Byte) (s : State) {t : State} (h : execVoteRx p frame s = .next t) : view μ t = view μ s := by
  simp only [execVoteRx, Host.Outcome.next.injEq] at h
  subst h
  refine view_receiveCtl h_sez h_ctr _ _ _ _ (fun m s => ?_) _
  try dsimp only
  repeat' split
  all_goals (first | with_reducible rfl | (simp [h_quad, h_bank0, h_bank1, h_tables, h_ports, h_sez, h_irq, h_pwr, h_ctr, h_out]; done))

theorem view_execVoteDeadline {μ : StatePart → Bool} (h_quad : μ .quad = true) (h_bank0 : μ .bank0 = true) (h_bank1 : μ .bank1 = true) (h_tables : μ .tables = true) (h_ports : μ .ports = true) (h_sez : μ .sez = true) (h_irq : μ .irq = true) (h_pwr : μ .pwr = true) (h_ctr : μ .ctr = true) (h_out : μ .out = true) (s : State) {t : State} (h : execVoteDeadline s = .next t) : view μ t = view μ s := by
  simp only [execVoteDeadline, Host.Outcome.next.injEq] at h
  subst h
  repeat' split
  all_goals (first | with_reducible rfl | (simp [h_quad, h_bank0, h_bank1, h_tables, h_ports, h_sez, h_irq, h_pwr, h_ctr, h_out]; done))

theorem view_execOutcomeRepeat {μ : StatePart → Bool} (h_ports : μ .ports = true) (h_sez : μ .sez = true) (h_ctr : μ .ctr = true) (s : State) {t : State} (h : execOutcomeRepeat s = .next t) : view μ t = view μ s := by
  simp only [execOutcomeRepeat, Host.Outcome.next.injEq] at h
  subst h
  repeat' split
  all_goals (first | with_reducible rfl | (simp [h_ports, h_sez, h_ctr]; done))

theorem view_execOutcomeRx {μ : StatePart → Bool} (h_mb : μ .mb = true) (h_adm : μ .adm = true) (h_quad : μ .quad = true) (h_bank0 : μ .bank0 = true) (h_bank1 : μ .bank1 = true) (h_tables : μ .tables = true) (h_ports : μ .ports = true) (h_otd : μ .otd = true) (h_sez : μ .sez = true) (h_hq : μ .hq = true) (h_irq : μ .irq = true) (h_pwr : μ .pwr = true) (h_ctr : μ .ctr = true) (h_out : μ .out = true) (p : Nat) (frame : List Byte) (s : State) {t : State} (h : execOutcomeRx p frame s = .next t) : view μ t = view μ s := by
  simp only [execOutcomeRx, Host.Outcome.next.injEq] at h
  subst h
  refine view_receiveFlood h_ports h_sez h_ctr _ _ _ _ (fun m s => ?_) _
  try dsimp only
  repeat' split
  all_goals (first | with_reducible rfl | (simp [h_mb, h_adm, h_quad, h_bank0, h_bank1, h_tables, h_ports, h_otd, h_sez, h_hq, h_irq, h_pwr, h_ctr, h_out]; done))

theorem view_execOutcomeQueryRx {μ : StatePart → Bool} (h_ports : μ .ports = true) (h_sez : μ .sez = true) (h_ctr : μ .ctr = true) (p : Nat) (frame : List Byte) (s : State) {t : State} (h : execOutcomeQueryRx p frame s = .next t) : view μ t = view μ s := by
  simp only [execOutcomeQueryRx, Host.Outcome.next.injEq] at h
  subst h
  refine view_receiveCtl h_sez h_ctr _ _ _ _ (fun m s => ?_) _
  try dsimp only
  repeat' split
  all_goals (first | with_reducible rfl | (simp [h_ports, h_sez, h_ctr]; done))

theorem view_execApplyTimeNoOutcome {μ : StatePart → Bool} (h_quad : μ .quad = true) (h_bank0 : μ .bank0 = true) (h_bank1 : μ .bank1 = true) (h_tables : μ .tables = true) (h_sez : μ .sez = true) (h_irq : μ .irq = true) (h_pwr : μ .pwr = true) (h_out : μ .out = true) (set : Nat) (s : State) {t : State} (h : execApplyTimeNoOutcome set s = .next t) : view μ t = view μ s := by
  simp only [execApplyTimeNoOutcome, Host.Outcome.next.injEq] at h
  subst h
  repeat' split
  all_goals (first | with_reducible rfl | (simp [h_quad, h_bank0, h_bank1, h_tables, h_sez, h_irq, h_pwr, h_out]; done))

theorem view_execSezalResyncFollow {μ : StatePart → Bool} (h_mb : μ .mb = true) (h_adm : μ .adm = true) (h_ports : μ .ports = true) (h_otd : μ .otd = true) (h_sez : μ .sez = true) (h_hq : μ .hq = true) (h_ctr : μ .ctr = true) (h_out : μ .out = true) (e : Env) (s : State) {t : State} (h : execSezalResyncFollow e s = .next t) : view μ t = view μ s := by
  simp only [execSezalResyncFollow, Host.Outcome.next.injEq] at h
  subst h
  refine view_ifTurn  _ _ (fun s => ?_) _
  try dsimp only
  repeat' split
  all_goals (first | with_reducible rfl | (simp [h_mb, h_adm, h_ports, h_otd, h_sez, h_hq, h_ctr, h_out]; done))

theorem view_execSezalResyncForceApply {μ : StatePart → Bool} (h_mb : μ .mb = true) (h_adm : μ .adm = true) (h_quad : μ .quad = true) (h_otd : μ .otd = true) (h_sez : μ .sez = true) (h_hq : μ .hq = true) (h_out : μ .out = true) (e : Env) (s : State) {t : State} (h : execSezalResyncForceApply e s = .next t) : view μ t = view μ s := by
  simp only [execSezalResyncForceApply, Host.Outcome.next.injEq] at h
  subst h
  refine view_ifTurn  _ _ (fun s => ?_) _
  try dsimp only
  repeat' split
  all_goals (first | with_reducible rfl | (simp [h_mb, h_adm, h_quad, h_otd, h_sez, h_hq, h_out]; done))

theorem view_execSezalResyncForceDiscard {μ : StatePart → Bool} (h_mb : μ .mb = true) (h_adm : μ .adm = true) (h_quad : μ .quad = true) (h_bank0 : μ .bank0 = true) (h_bank1 : μ .bank1 = true) (h_tables : μ .tables = true) (h_otd : μ .otd = true) (h_sez : μ .sez = true) (h_hq : μ .hq = true) (h_irq : μ .irq = true) (h_pwr : μ .pwr = true) (h_out : μ .out = true) (e : Env) (s : State) {t : State} (h : execSezalResyncForceDiscard e s = .next t) : view μ t = view μ s := by
  simp only [execSezalResyncForceDiscard, Host.Outcome.next.injEq] at h
  subst h
  refine view_ifTurn  _ _ (fun s => ?_) _
  try dsimp only
  repeat' split
  all_goals (first | with_reducible rfl | (simp [h_mb, h_adm, h_quad, h_bank0, h_bank1, h_tables, h_otd, h_sez, h_hq, h_irq, h_pwr, h_out]; done))

theorem view_execResyncFollowTimeout {μ : StatePart → Bool} (h_mb : μ .mb = true) (h_adm : μ .adm = true) (h_otd : μ .otd = true) (h_sez : μ .sez = true) (h_hq : μ .hq = true) (h_out : μ .out = true) (s : State) {t : State} (h : execResyncFollowTimeout s = .next t) : view μ t = view μ s := by
  simp only [execResyncFollowTimeout, Host.Outcome.next.injEq] at h
  subst h
  repeat' split
  all_goals (first | with_reducible rfl | (simp [h_mb, h_adm, h_otd, h_sez, h_hq, h_out]; done))

theorem view_execSysInfo {μ : StatePart → Bool} (h_mb : μ .mb = true) (h_adm : μ .adm = true) (h_otd : μ .otd = true) (h_hq : μ .hq = true) (h_out : μ .out = true) (e : Env) (s : State) {t : State} (h : execSysInfo e s = .next t) : view μ t = view μ s := by
  simp only [execSysInfo, Host.Outcome.next.injEq] at h
  subst h
  repeat' split
  all_goals (first | with_reducible rfl | (simp [h_mb, h_adm, h_otd, h_hq, h_out]; done))

theorem view_execSysAdminqSet {μ : StatePart → Bool} (h_mb : μ .mb = true) (h_adm : μ .adm = true) (h_otd : μ .otd = true) (h_hq : μ .hq = true) (h_out : μ .out = true) (e : Env) (s : State) {t : State} (h : execSysAdminqSet e s = .next t) : view μ t = view μ s := by
  simp only [execSysAdminqSet, Host.Outcome.next.injEq] at h
  subst h
  repeat' split
  all_goals (first | with_reducible rfl | (simp [h_mb, h_adm, h_otd, h_hq, h_out]; done))

theorem view_execSysResetWarm {μ : StatePart → Bool} (h_mb : μ .mb = true) (h_boot : μ .boot = true) (h_adm : μ .adm = true) (h_otd : μ .otd = true) (h_hq : μ .hq = true) (h_out : μ .out = true) (e : Env) (s : State) {t : State} (h : execSysResetWarm e s = .next t) : view μ t = view μ s := by
  simp only [execSysResetWarm, Host.Outcome.next.injEq] at h
  subst h
  repeat' split
  all_goals (first | with_reducible rfl | (simp [h_mb, h_boot, h_adm, h_otd, h_hq, h_out]; done))

theorem view_execSysResetCold {μ : StatePart → Bool} (h_mb : μ .mb = true) (h_boot : μ .boot = true) (h_adm : μ .adm = true) (h_otd : μ .otd = true) (h_hq : μ .hq = true) (h_out : μ .out = true) (e : Env) (s : State) {t : State} (h : execSysResetCold e s = .next t) : view μ t = view μ s := by
  simp only [execSysResetCold, Host.Outcome.next.injEq] at h
  subst h
  repeat' split
  all_goals (first | with_reducible rfl | (simp [h_mb, h_boot, h_adm, h_otd, h_hq, h_out]; done))

theorem view_execSysResetSlice {μ : StatePart → Bool} (h_mb : μ .mb = true) (h_adm : μ .adm = true) (h_ports : μ .ports = true) (h_slices : μ .slices = true) (h_buf : μ .buf = true) (h_tm : μ .tm = true) (h_cap : μ .cap = true) (h_otd : μ .otd = true) (h_hq : μ .hq = true) (h_pwr : μ .pwr = true) (h_badger : μ .badger = true) (h_ctr : μ .ctr = true) (h_out : μ .out = true) (e : Env) (s : State) {t : State} (h : execSysResetSlice e s = .next t) : view μ t = view μ s := by
  simp only [execSysResetSlice, Host.Outcome.next.injEq] at h
  subst h
  repeat' split
  all_goals (first | with_reducible rfl | (simp [h_mb, h_adm, h_ports, h_slices, h_buf, h_tm, h_cap, h_otd, h_hq, h_pwr, h_badger, h_ctr, h_out]; done))

theorem view_execSysResetCtl {μ : StatePart → Bool} (h_mb : μ .mb = true) (h_boot : μ .boot = true) (h_adm : μ .adm = true) (h_quad : μ .quad = true) (h_eng : μ .eng = true) (h_otd : μ .otd = true) (h_sez : μ .sez = true) (h_hq : μ .hq = true) (h_irq : μ .irq = true) (h_pwr : μ .pwr = true) (h_badger : μ .badger = true) (h_out : μ .out = true) (e : Env) (s : State) {t : State} (h : execSysResetCtl e s = .next t) : view μ t = view μ s := by
  simp only [execSysResetCtl, Host.Outcome.next.injEq] at h
  subst h
  repeat' split
  all_goals (first | with_reducible rfl | (simp [h_mb, h_boot, h_adm, h_quad, h_eng, h_otd, h_sez, h_hq, h_irq, h_pwr, h_badger, h_out]; done))

theorem view_execSysJournalStatus {μ : StatePart → Bool} (h_mb : μ .mb = true) (h_adm : μ .adm = true) (h_otd : μ .otd = true) (h_hq : μ .hq = true) (h_out : μ .out = true) (e : Env) (s : State) {t : State} (h : execSysJournalStatus e s = .next t) : view μ t = view μ s := by
  simp only [execSysJournalStatus, Host.Outcome.next.injEq] at h
  subst h
  repeat' split
  all_goals (first | with_reducible rfl | (simp [h_mb, h_adm, h_otd, h_hq, h_out]; done))

theorem view_execSysNop {μ : StatePart → Bool} (h_mb : μ .mb = true) (h_adm : μ .adm = true) (h_otd : μ .otd = true) (h_hq : μ .hq = true) (h_out : μ .out = true) (e : Env) (s : State) {t : State} (h : execSysNop e s = .next t) : view μ t = view μ s := by
  simp only [execSysNop, Host.Outcome.next.injEq] at h
  subst h
  repeat' split
  all_goals (first | with_reducible rfl | (simp [h_mb, h_adm, h_otd, h_hq, h_out]; done))

theorem view_execSysPatchLoad {μ : StatePart → Bool} (h_mb : μ .mb = true) (h_boot : μ .boot = true) (h_adm : μ .adm = true) (h_otd : μ .otd = true) (h_hq : μ .hq = true) (h_out : μ .out = true) (e : Env) (s : State) {t : State} (h : execSysPatchLoad e s = .next t) : view μ t = view μ s := by
  simp only [execSysPatchLoad, Host.Outcome.next.injEq] at h
  subst h
  repeat' split
  all_goals (first | with_reducible rfl | (simp [h_mb, h_boot, h_adm, h_otd, h_hq, h_out]; done))

theorem view_execMbGo {μ : StatePart → Bool} (h_mb : μ .mb = true) (h_pwr : μ .pwr = true) (h_hpt : μ .hpt = true) (data : Word) (s : State) {t : State} (h : execMbGo data s = .next t) : view μ t = view μ s := by
  simp only [execMbGo, Host.Outcome.next.injEq] at h
  subst h
  repeat' split
  all_goals (first | with_reducible rfl | (simp [h_mb, h_pwr, h_hpt]; done))

theorem view_execMbAck {μ : StatePart → Bool} (h_mb : μ .mb = true) (h_pwr : μ .pwr = true) (h_hpt : μ .hpt = true) (data : Word) (s : State) {t : State} (h : execMbAck data s = .next t) : view μ t = view μ s := by
  simp only [execMbAck, Host.Outcome.next.injEq] at h
  subst h
  repeat' split
  all_goals (first | with_reducible rfl | (simp [h_mb, h_pwr, h_hpt]; done))

theorem view_execMbCmdWrite {μ : StatePart → Bool} (h_mb : μ .mb = true) (h_pwr : μ .pwr = true) (h_hpt : μ .hpt = true) (off : Nat) (data : List Byte) (s : State) {t : State} (h : execMbCmdWrite off data s = .next t) : view μ t = view μ s := by
  simp only [execMbCmdWrite, Host.Outcome.next.injEq] at h
  subst h
  repeat' split
  all_goals (first | with_reducible rfl | (simp [h_mb, h_pwr, h_hpt]; done))

theorem view_execMbCommandDone {μ : StatePart → Bool} (h_mb : μ .mb = true) (h_boot : μ .boot = true) (h_adm : μ .adm = true) (h_quad : μ .quad = true) (h_eng : μ .eng = true) (h_otd : μ .otd = true) (h_sez : μ .sez = true) (h_hq : μ .hq = true) (h_irq : μ .irq = true) (h_pwr : μ .pwr = true) (h_badger : μ .badger = true) (h_out : μ .out = true) (s0 : State) {t : State} (h : execMbCommandDone s0 = .next t) : view μ t = view μ s0 := by
  simp only [execMbCommandDone, Host.Outcome.next.injEq] at h
  subst h
  repeat' split
  all_goals (first | with_reducible rfl | (simp [h_mb, h_boot, h_adm, h_quad, h_eng, h_otd, h_sez, h_hq, h_irq, h_pwr, h_badger, h_out]; done))

theorem view_execOmbGo {μ : StatePart → Bool} (h_mb : μ .mb = true) (h_adm : μ .adm = true) (h_otd : μ .otd = true) (h_hq : μ .hq = true) (h_hpt : μ .hpt = true) (h_out : μ .out = true) (data : Word) (s : State) {t : State} (h : execOmbGo data s = .next t) : view μ t = view μ s := by
  simp only [execOmbGo, Host.Outcome.next.injEq] at h
  subst h
  repeat' split
  all_goals (first | with_reducible rfl | (simp [h_mb, h_adm, h_otd, h_hq, h_hpt, h_out]; done))

theorem view_execOmbAck {μ : StatePart → Bool} (h_otd : μ .otd = true) (h_hpt : μ .hpt = true) (data : Word) (s : State) {t : State} (h : execOmbAck data s = .next t) : view μ t = view μ s := by
  simp only [execOmbAck, Host.Outcome.next.injEq] at h
  subst h
  repeat' split
  all_goals (first | with_reducible rfl | (simp [h_otd, h_hpt]; done))

theorem view_execBoot {μ : StatePart → Bool} (h_boot : μ .boot = true) (h_irq : μ .irq = true) (h_pwr : μ .pwr = true) (h_out : μ .out = true) (h_fresh : μ .fresh = true) (result : BootResult) (s : State) {t : State} (h : execBoot result s = .next t) : view μ t = view μ s := by
  simp only [execBoot, Host.Outcome.next.injEq] at h
  subst h
  repeat' split
  all_goals (first | with_reducible rfl | (simp [h_boot, h_irq, h_pwr, h_out, h_fresh]; done))

theorem view_execDebugEnChange {μ : StatePart → Bool} (h_boot : μ .boot = true) (level : Bool) (s : State) {t : State} (h : execDebugEnChange level s = .next t) : view μ t = view μ s := by
  simp only [execDebugEnChange, Host.Outcome.next.injEq] at h
  subst h
  repeat' split
  all_goals (first | with_reducible rfl | (simp [h_boot]; done))

end Sys2Proof.Machine
end

