-- ==== Sys2Proof/Laws/Map.lean ====
section
/-! SUPPORT. Laws of the finite maps: what stands under a key after a set, a delete, a change of every value; counters, ports, slices, domains. -/

namespace Sys2Proof.Machine

section
variable {κ α : Type} [DecidableEq κ]

/-- The key just set holds its value. -/
@[simp] theorem KMap.get?_set_same (m : KMap κ α) (k : κ) (v : α) : (m.set k v).get? k = some v := by
  induction m with
  | nil => simp [KMap.set, KMap.get?]
  | cons a m ih =>
    obtain ⟨k', v'⟩ := a
    by_cases h : k' = k <;> simp [KMap.set, KMap.get?, h, ih]

/-- Every other key holds what it held. -/
theorem KMap.get?_set_other (m : KMap κ α) {k j : κ} (v : α) (h : j ≠ k) : (m.set k v).get? j = m.get? j := by
  induction m with
  | nil => simp [KMap.set, KMap.get?, Ne.symm h]
  | cons a m ih =>
    obtain ⟨k', v'⟩ := a
    by_cases h1 : k' = k
    · subst h1; simp [KMap.set, KMap.get?, Ne.symm h]
    · by_cases h2 : k' = j
      · subst h2; simp [KMap.set, KMap.get?, h1]
      · simp [KMap.set, KMap.get?, h1, h2, ih]

/-- What stands under a key after a set. -/
theorem KMap.get?_set (m : KMap κ α) (k j : κ) (v : α) : (m.set k v).get? j = if j = k then some v else m.get? j := by
  split
  · rename_i h; subst h; simp
  · rename_i h; exact KMap.get?_set_other m v h

@[simp] theorem KMap.getD_set_same (m : KMap κ α) (k : κ) (v d : α) : (m.set k v).getD k d = v := by simp [KMap.getD]

theorem KMap.getD_set_other (m : KMap κ α) {k j : κ} (v d : α) (h : j ≠ k) : (m.set k v).getD j d = m.getD j d := by
  simp [KMap.getD, KMap.get?_set_other m v h]

theorem KMap.getD_set (m : KMap κ α) (k j : κ) (v d : α) : (m.set k v).getD j d = if j = k then v else m.getD j d := by
  split
  · rename_i h; subst h; simp
  · rename_i h; exact KMap.getD_set_other m v d h

/-- Of two writes under one key the later stands. -/
theorem KMap.set_set (m : KMap κ α) (k : κ) (v w : α) : (m.set k v).set k w = m.set k w := by
  induction m with
  | nil => simp [KMap.set]
  | cons a m ih => by_cases h : a.1 = k <;> simp [KMap.set, h, ih]

/-- A change of one key's value. -/
theorem KMap.getD_upd (m : KMap κ α) (k j : κ) (d : α) (f : α → α) : (m.upd k d f).getD j d = if j = k then f (m.getD k d) else m.getD j d :=
  KMap.getD_set m k j _ d

/-- Two changes under one key are one. -/
theorem KMap.upd_upd (m : KMap κ α) (k : κ) (d : α) (f g : α → α) : (m.upd k d f).upd k d g = m.upd k d (fun x => g (f x)) := by
  simp only [KMap.upd, KMap.set_set, KMap.getD_set, if_true]

@[simp] theorem KMap.getD_upd_same (m : KMap κ α) (k : κ) (d : α) (f : α → α) : (m.upd k d f).getD k d = f (m.getD k d) := by simp [KMap.upd]

@[simp] theorem KMap.get?_upd_same (m : KMap κ α) (k : κ) (d : α) (f : α → α) : (m.upd k d f).get? k = some (f (m.getD k d)) := by simp [KMap.upd]

/-- A change of every value. -/
theorem KMap.get?_mapV (m : KMap κ α) (k : κ) (f : κ → α → α) : (m.mapV f).get? k = (m.get? k).map (f k) := by
  induction m with
  | nil => rfl
  | cons a m ih =>
    obtain ⟨k', v'⟩ := a
    by_cases h : k' = k
    · subst h; simp [KMap.mapV, KMap.get?]
    · simpa [KMap.mapV, KMap.get?, h] using ih

/-- A deleted key holds nothing. -/
@[simp] theorem KMap.get?_del_same (m : KMap κ α) (k : κ) : (m.del k).get? k = none := by
  induction m with
  | nil => rfl
  | cons a m ih =>
    obtain ⟨k', v'⟩ := a
    by_cases h : k' = k <;> simp_all [KMap.del, KMap.get?]

/-- A delete leaves every other key. -/
theorem KMap.get?_del_other (m : KMap κ α) {k j : κ} (h : j ≠ k) : (m.del k).get? j = m.get? j := by
  induction m with
  | nil => rfl
  | cons a m ih =>
    obtain ⟨k', v'⟩ := a
    by_cases h1 : k' = k
    · subst h1; simp_all [KMap.del, KMap.get?, Ne.symm h]
    · by_cases h2 : k' = j <;> simp_all [KMap.del, KMap.get?]

end

/-! Accessors after one update. -/

theorem port_updPort (p q : Nat) (f : PortRt → PortRt) (s : State) : port (updPort p f s) q = if q = p then f (port s p) else port s q :=
  KMap.getD_upd s.ports p q {} f

@[simp] theorem port_updPort_same (p : Nat) (f : PortRt → PortRt) (s : State) : port (updPort p f s) p = f (port s p) := by simp [port_updPort]

theorem slice_updSlice (a b : Nat) (f : SliceRt → SliceRt) (s : State) : slice (updSlice a f s) b = if b = a then f (slice s a) else slice s b :=
  KMap.getD_upd s.slices a b {} f

@[simp] theorem slice_updSlice_same (a : Nat) (f : SliceRt → SliceRt) (s : State) : slice (updSlice a f s) a = f (slice s a) := by simp [slice_updSlice]

theorem ctrOf_addCtr (c k : Ctr) (n : Nat) (s : State) : ctrOf (addCtr c n s) k = if k = c then (ctrOf s c + n) % 2 ^ 64 else ctrOf s k :=
  KMap.getD_upd s.ctr c k 0 (fun v => (v + n) % 2 ^ 64)

@[simp] theorem ctrOf_addCtr_same (c : Ctr) (n : Nat) (s : State) : ctrOf (addCtr c n s) c = (ctrOf s c + n) % 2 ^ 64 := by simp [ctrOf_addCtr]

theorem ctrOf_bump (c k : Ctr) (s : State) : ctrOf (bump c s) k = if k = c then (ctrOf s c + 1) % 2 ^ 64 else ctrOf s k := ctrOf_addCtr c k 1 s

@[simp] theorem ctrOf_bump_same (c : Ctr) (s : State) : ctrOf (bump c s) c = (ctrOf s c + 1) % 2 ^ 64 := by simp [ctrOf_bump]

/-- The same operation on the rest of the state leaves a counter, a port, a slice, a domain alone. -/
theorem ctrOf_congr {s t : State} (h : t.ctr = s.ctr) (c : Ctr) : ctrOf t c = ctrOf s c := by rw [ctrOf, h, ctrOf]

theorem port_congr {s t : State} (h : t.ports = s.ports) (p : Nat) : port t p = port s p := by rw [port, h, port]

theorem slice_congr {s t : State} (h : t.slices = s.slices) (n : Nat) : slice t n = slice s n := by rw [slice, h, slice]

theorem dom_updDom_same (d : Nat) (f : Dom → Dom) (s : State) : dom (updDom d f s) d = f (dom s d) := by
  show ((s.pwr.dom.set d _).getD d _) = _
  rw [KMap.getD_set_same]

theorem dom_updDom_other {d e : Nat} (f : Dom → Dom) (s : State) (h : e ≠ d) : dom (updDom d f s) e = dom s e := by
  show ((s.pwr.dom.set d _).getD e _) = (s.pwr.dom.getD e _)
  rw [KMap.getD_set_other _ _ _ h]

/-- Counters that are cleared read 0, the others keep their value. -/
theorem ctrOf_clearCtrs (p : Ctr → Bool) (s : State) (c : Ctr) : ctrOf (clearCtrs p s) c = if p c then 0 else ctrOf s c := by
  unfold ctrOf clearCtrs KMap.getD
  generalize s.ctr = m
  induction m with
  | nil => simp [KMap.get?]
  | cons a m ih =>
    obtain ⟨k, v⟩ := a
    by_cases hp : p k = true
    · by_cases hk : k = c
      · subst hk; simp_all [List.filter_cons, KMap.get?]
      · simp_all [List.filter_cons, KMap.get?]
    · by_cases hk : k = c
      · subst hk; simp_all [List.filter_cons, KMap.get?]
      · simp_all [List.filter_cons, KMap.get?]

end Sys2Proof.Machine
end

