-- ==== Sys2Proof/Laws/Irq.lean ====
section
/-! SUPPORT. What the next offer of the distributor keeps (R455 to R457): settling changes no source, no stack and no count, and the winner is the least of
the eligible sources. -/

namespace Sys2Proof.Laws

open Sys2Proof.Machine

/-- `t` differs from `s` in the distributor by offers, open message writes and waits alone. -/
def SameSources (s t : State) : Prop :=
  t.irq = { s.irq with tgt := t.irq.tgt, waits := t.irq.waits }
  ∧ ∀ n, tgtOf t.irq n = { tgtOf s.irq n with offered := (tgtOf t.irq n).offered, msgOpen := (tgtOf t.irq n).msgOpen }

theorem SameSources.refl (s : State) : SameSources s s := ⟨rfl, fun _ => rfl⟩

theorem SameSources.trans {a b c : State} (h : SameSources a b) (g : SameSources b c) : SameSources a c :=
  ⟨by rw [g.1, h.1], fun n => by rw [g.2 n, h.2 n]⟩

theorem sameSources_updTgt (s : State) (n : Nat) (f : Target → Target) (h : ∀ t, f t = { t with offered := (f t).offered, msgOpen := (f t).msgOpen }) :
    SameSources s { s with irq := { s.irq with tgt := s.irq.tgt.upd n {} f } } := by
  refine ⟨rfl, fun k => ?_⟩
  simp only [tgtOf, KMap.getD_upd]
  split
  · rename_i e; subst e; exact h _
  · rfl

theorem sameSources_msgWrite (n : Nat) (s : State) : SameSources s (msgWrite n s) :=
  sameSources_updTgt s n (fun t => { t with msgOpen := true }) (fun _ => rfl)

theorem sameSources_settleTarget (s : State) (n : Nat) : SameSources s (settleTarget s n) := by
  rw [settleTarget]
  by_cases h : offeredNow s.irq n = (tgtOf s.irq n).offered
  · simp only [h, if_true]; exact .refl s
  · simp only [h, if_false]
    have g := sameSources_updTgt s n (fun t => { t with offered := offeredNow s.irq n }) (fun _ => rfl)
    split
    · exact g.trans (sameSources_msgWrite n _)
    · exact g

theorem sameSources_settle (s : State) : SameSources s (settle s) := by
  have fold : ∀ (l : List Nat) (s : State), SameSources s (l.foldl settleTarget s) := by
    intro l
    induction l with
    | nil => exact .refl
    | cons a l ih => exact fun s => (sameSources_settleTarget s a).trans (ih _)
  exact SameSources.trans (b := { s with irq := settleWaits (rawNs s) s.irq }) ⟨rfl, fun _ => rfl⟩ (fold _ _)

theorem sameSources_settleAgain (n : Nat) (s : State) : SameSources s (settleAgain n s) :=
  (sameSources_updTgt s n (fun t => { t with offered := t.offered && !t.mode }) (fun _ => rfl)).trans (sameSources_settle _)

@[simp] theorem askWake_irq (d : Nat) (s : State) : (askWake d s).irq = s.irq := by unfold askWake; simp only []; (try split) <;> rfl

/-- The least member is a member, and none lies below it; there is none only in the empty list. -/
theorem leastBy_spec {α : Type} (key : α → Nat) (l : List α) :
    (leastBy key l = none ↔ l = []) ∧ ∀ a, leastBy key l = some a → a ∈ l ∧ ∀ b, b ∈ l → key a ≤ key b := by
  induction l with
  | nil => simp [leastBy]
  | cons x l ih =>
    obtain ⟨i1, i2⟩ := ih
    unfold leastBy
    cases h : leastBy key l with
    | none => have := i1.1 h; subst this; simp
    | some b =>
      obtain ⟨j1, j2⟩ := i2 b h
      have le : ∀ a, key a ≤ key x → key a ≤ key b → ∀ c, c ∈ x :: l → key a ≤ key c := by
        intro a ha hb c hc
        rcases List.mem_cons.1 hc with rfl | hc
        · exact ha
        · exact Nat.le_trans hb (j2 c hc)
      simp only []
      split
      · refine ⟨by simp, fun a ha => ?_⟩
        simp at ha; subst ha
        exact ⟨by simp [j1], le b (by omega) (Nat.le_refl _)⟩
      · refine ⟨by simp, fun a ha => ?_⟩
        simp at ha; subst ha
        exact ⟨by simp, le x (Nat.le_refl _) (by omega)⟩

theorem winner_none (q : Irq) (n : Nat) : winner q n = none ↔ eligible q n = [] := (leastBy_spec _ _).1

theorem winner_some {q : Irq} {n id prio : Nat} (h : winner q n = some (id, prio)) :
    (id, prio) ∈ eligible q n ∧ ∀ e, e ∈ eligible q n → prio * 8192 + id ≤ e.2 * 8192 + e.1 := (leastBy_spec _ _).2 _ h

end Sys2Proof.Laws
end

