-- ==== Sys2Proof/Laws/Keeps.lean ====
section
/-! SUPPORT. For the shared operations, the parts of the state that each leaves as they are, field by field. -/

namespace Sys2Proof.Machine

@[simp] theorem bump_keeps (c : Ctr) (s : State) :
    (bump c s).build = s.build ∧ (bump c s).mb = s.mb ∧ (bump c s).boot = s.boot ∧ (bump c s).adm = s.adm ∧ (bump c s).quad = s.quad ∧ (bump c s).bank0 = s.bank0 ∧ (bump c s).bank1 = s.bank1 ∧ (bump c s).tables = s.tables ∧ (bump c s).ports = s.ports ∧ (bump c s).slices = s.slices ∧ (bump c s).buf = s.buf ∧ (bump c s).tm = s.tm ∧ (bump c s).gate = s.gate ∧ (bump c s).flows = s.flows ∧ (bump c s).cap = s.cap ∧ (bump c s).eng = s.eng ∧ (bump c s).time = s.time ∧ (bump c s).otd = s.otd ∧ (bump c s).sez = s.sez ∧ (bump c s).hq = s.hq ∧ (bump c s).dma = s.dma ∧ (bump c s).irq = s.irq ∧ (bump c s).pwr = s.pwr ∧ (bump c s).badger = s.badger ∧ (bump c s).hpt = s.hpt ∧ (bump c s).out = s.out ∧ (bump c s).fresh = s.fresh ∧ (bump c s).pending = s.pending := by
  have h := view_bump (μ := fun p => p == .ctr) rfl c s
  simp [view, State.mk.injEq] at h
  simp [h]

@[simp] theorem clearCtrs_keeps (p : Ctr → Bool) (s : State) :
    (clearCtrs p s).build = s.build ∧ (clearCtrs p s).mb = s.mb ∧ (clearCtrs p s).boot = s.boot ∧ (clearCtrs p s).adm = s.adm ∧ (clearCtrs p s).quad = s.quad ∧ (clearCtrs p s).bank0 = s.bank0 ∧ (clearCtrs p s).bank1 = s.bank1 ∧ (clearCtrs p s).tables = s.tables ∧ (clearCtrs p s).ports = s.ports ∧ (clearCtrs p s).slices = s.slices ∧ (clearCtrs p s).buf = s.buf ∧ (clearCtrs p s).tm = s.tm ∧ (clearCtrs p s).gate = s.gate ∧ (clearCtrs p s).flows = s.flows ∧ (clearCtrs p s).cap = s.cap ∧ (clearCtrs p s).eng = s.eng ∧ (clearCtrs p s).time = s.time ∧ (clearCtrs p s).otd = s.otd ∧ (clearCtrs p s).sez = s.sez ∧ (clearCtrs p s).hq = s.hq ∧ (clearCtrs p s).dma = s.dma ∧ (clearCtrs p s).irq = s.irq ∧ (clearCtrs p s).pwr = s.pwr ∧ (clearCtrs p s).badger = s.badger ∧ (clearCtrs p s).hpt = s.hpt ∧ (clearCtrs p s).out = s.out ∧ (clearCtrs p s).fresh = s.fresh ∧ (clearCtrs p s).pending = s.pending := by
  have h := view_clearCtrs (μ := fun p => p == .ctr) rfl p s
  simp [view, State.mk.injEq] at h
  simp [h]

@[simp] theorem hpiWrite_keeps (addr : Nat) (bytes : List Byte) (s : State) :
    (hpiWrite addr bytes s).build = s.build ∧ (hpiWrite addr bytes s).mb = s.mb ∧ (hpiWrite addr bytes s).boot = s.boot ∧ (hpiWrite addr bytes s).adm = s.adm ∧ (hpiWrite addr bytes s).quad = s.quad ∧ (hpiWrite addr bytes s).bank0 = s.bank0 ∧ (hpiWrite addr bytes s).bank1 = s.bank1 ∧ (hpiWrite addr bytes s).tables = s.tables ∧ (hpiWrite addr bytes s).ports = s.ports ∧ (hpiWrite addr bytes s).slices = s.slices ∧ (hpiWrite addr bytes s).buf = s.buf ∧ (hpiWrite addr bytes s).tm = s.tm ∧ (hpiWrite addr bytes s).gate = s.gate ∧ (hpiWrite addr bytes s).flows = s.flows ∧ (hpiWrite addr bytes s).cap = s.cap ∧ (hpiWrite addr bytes s).eng = s.eng ∧ (hpiWrite addr bytes s).time = s.time ∧ (hpiWrite addr bytes s).otd = s.otd ∧ (hpiWrite addr bytes s).sez = s.sez ∧ (hpiWrite addr bytes s).hq = s.hq ∧ (hpiWrite addr bytes s).dma = s.dma ∧ (hpiWrite addr bytes s).irq = s.irq ∧ (hpiWrite addr bytes s).pwr = s.pwr ∧ (hpiWrite addr bytes s).badger = s.badger ∧ (hpiWrite addr bytes s).ctr = s.ctr ∧ (hpiWrite addr bytes s).hpt = s.hpt ∧ (hpiWrite addr bytes s).fresh = s.fresh ∧ (hpiWrite addr bytes s).pending = s.pending := by
  have h := view_hpiWrite (μ := fun p => p == .out) rfl addr bytes s
  simp [view, State.mk.injEq] at h
  simp [h]

@[simp] theorem hpiRead_keeps (addr n : Nat) (s : State) :
    (hpiRead addr n s).build = s.build ∧ (hpiRead addr n s).mb = s.mb ∧ (hpiRead addr n s).boot = s.boot ∧ (hpiRead addr n s).adm = s.adm ∧ (hpiRead addr n s).quad = s.quad ∧ (hpiRead addr n s).bank0 = s.bank0 ∧ (hpiRead addr n s).bank1 = s.bank1 ∧ (hpiRead addr n s).tables = s.tables ∧ (hpiRead addr n s).ports = s.ports ∧ (hpiRead addr n s).slices = s.slices ∧ (hpiRead addr n s).buf = s.buf ∧ (hpiRead addr n s).tm = s.tm ∧ (hpiRead addr n s).gate = s.gate ∧ (hpiRead addr n s).flows = s.flows ∧ (hpiRead addr n s).cap = s.cap ∧ (hpiRead addr n s).eng = s.eng ∧ (hpiRead addr n s).time = s.time ∧ (hpiRead addr n s).otd = s.otd ∧ (hpiRead addr n s).sez = s.sez ∧ (hpiRead addr n s).hq = s.hq ∧ (hpiRead addr n s).dma = s.dma ∧ (hpiRead addr n s).irq = s.irq ∧ (hpiRead addr n s).pwr = s.pwr ∧ (hpiRead addr n s).badger = s.badger ∧ (hpiRead addr n s).ctr = s.ctr ∧ (hpiRead addr n s).hpt = s.hpt ∧ (hpiRead addr n s).fresh = s.fresh ∧ (hpiRead addr n s).pending = s.pending := by
  have h := view_hpiRead (μ := fun p => p == .out) rfl addr n s
  simp [view, State.mk.injEq] at h
  simp [h]

@[simp] theorem askWake_keeps (d : Nat) (s : State) :
    (askWake d s).build = s.build ∧ (askWake d s).mb = s.mb ∧ (askWake d s).boot = s.boot ∧ (askWake d s).adm = s.adm ∧ (askWake d s).quad = s.quad ∧ (askWake d s).bank0 = s.bank0 ∧ (askWake d s).bank1 = s.bank1 ∧ (askWake d s).tables = s.tables ∧ (askWake d s).ports = s.ports ∧ (askWake d s).slices = s.slices ∧ (askWake d s).buf = s.buf ∧ (askWake d s).tm = s.tm ∧ (askWake d s).gate = s.gate ∧ (askWake d s).flows = s.flows ∧ (askWake d s).cap = s.cap ∧ (askWake d s).eng = s.eng ∧ (askWake d s).time = s.time ∧ (askWake d s).otd = s.otd ∧ (askWake d s).sez = s.sez ∧ (askWake d s).hq = s.hq ∧ (askWake d s).dma = s.dma ∧ (askWake d s).irq = s.irq ∧ (askWake d s).badger = s.badger ∧ (askWake d s).ctr = s.ctr ∧ (askWake d s).hpt = s.hpt ∧ (askWake d s).out = s.out ∧ (askWake d s).fresh = s.fresh ∧ (askWake d s).pending = s.pending := by
  have h := view_askWake (μ := fun p => p == .pwr) rfl d s
  simp [view, State.mk.injEq] at h
  simp [h]

@[simp] theorem settle_keeps (s : State) :
    (settle s).build = s.build ∧ (settle s).mb = s.mb ∧ (settle s).boot = s.boot ∧ (settle s).adm = s.adm ∧ (settle s).quad = s.quad ∧ (settle s).bank0 = s.bank0 ∧ (settle s).bank1 = s.bank1 ∧ (settle s).tables = s.tables ∧ (settle s).ports = s.ports ∧ (settle s).slices = s.slices ∧ (settle s).buf = s.buf ∧ (settle s).tm = s.tm ∧ (settle s).gate = s.gate ∧ (settle s).flows = s.flows ∧ (settle s).cap = s.cap ∧ (settle s).eng = s.eng ∧ (settle s).time = s.time ∧ (settle s).otd = s.otd ∧ (settle s).sez = s.sez ∧ (settle s).hq = s.hq ∧ (settle s).dma = s.dma ∧ (settle s).pwr = s.pwr ∧ (settle s).badger = s.badger ∧ (settle s).ctr = s.ctr ∧ (settle s).hpt = s.hpt ∧ (settle s).fresh = s.fresh ∧ (settle s).pending = s.pending := by
  have h := view_settle (μ := fun p => p == .irq || p == .out) rfl rfl s
  simp [view, State.mk.injEq] at h
  simp [h]

@[simp] theorem fire_keeps (i : Nat) (s : State) :
    (fire i s).build = s.build ∧ (fire i s).mb = s.mb ∧ (fire i s).boot = s.boot ∧ (fire i s).adm = s.adm ∧ (fire i s).quad = s.quad ∧ (fire i s).bank0 = s.bank0 ∧ (fire i s).bank1 = s.bank1 ∧ (fire i s).tables = s.tables ∧ (fire i s).ports = s.ports ∧ (fire i s).slices = s.slices ∧ (fire i s).buf = s.buf ∧ (fire i s).tm = s.tm ∧ (fire i s).gate = s.gate ∧ (fire i s).flows = s.flows ∧ (fire i s).cap = s.cap ∧ (fire i s).eng = s.eng ∧ (fire i s).time = s.time ∧ (fire i s).otd = s.otd ∧ (fire i s).sez = s.sez ∧ (fire i s).hq = s.hq ∧ (fire i s).dma = s.dma ∧ (fire i s).badger = s.badger ∧ (fire i s).ctr = s.ctr ∧ (fire i s).hpt = s.hpt ∧ (fire i s).fresh = s.fresh ∧ (fire i s).pending = s.pending := by
  have h := view_fire (μ := fun p => p == .irq || p == .pwr || p == .out) rfl rfl rfl i s
  simp [view, State.mk.injEq] at h
  simp [h]

@[simp] theorem sliceCause_keeps (sl bit : Nat) (s : State) :
    (sliceCause sl bit s).build = s.build ∧ (sliceCause sl bit s).mb = s.mb ∧ (sliceCause sl bit s).boot = s.boot ∧ (sliceCause sl bit s).adm = s.adm ∧ (sliceCause sl bit s).quad = s.quad ∧ (sliceCause sl bit s).bank0 = s.bank0 ∧ (sliceCause sl bit s).bank1 = s.bank1 ∧ (sliceCause sl bit s).tables = s.tables ∧ (sliceCause sl bit s).ports = s.ports ∧ (sliceCause sl bit s).slices = s.slices ∧ (sliceCause sl bit s).buf = s.buf ∧ (sliceCause sl bit s).tm = s.tm ∧ (sliceCause sl bit s).gate = s.gate ∧ (sliceCause sl bit s).flows = s.flows ∧ (sliceCause sl bit s).cap = s.cap ∧ (sliceCause sl bit s).eng = s.eng ∧ (sliceCause sl bit s).time = s.time ∧ (sliceCause sl bit s).otd = s.otd ∧ (sliceCause sl bit s).sez = s.sez ∧ (sliceCause sl bit s).hq = s.hq ∧ (sliceCause sl bit s).dma = s.dma ∧ (sliceCause sl bit s).badger = s.badger ∧ (sliceCause sl bit s).ctr = s.ctr ∧ (sliceCause sl bit s).hpt = s.hpt ∧ (sliceCause sl bit s).fresh = s.fresh ∧ (sliceCause sl bit s).pending = s.pending := by
  have h := view_sliceCause (μ := fun p => p == .irq || p == .pwr || p == .out) rfl rfl rfl sl bit s
  simp [view, State.mk.injEq] at h
  simp [h]

@[simp] theorem updSet_keeps (id : Nat) (f : QSet → QSet) (s : State) :
    (updSet id f s).build = s.build ∧ (updSet id f s).mb = s.mb ∧ (updSet id f s).boot = s.boot ∧ (updSet id f s).adm = s.adm ∧ (updSet id f s).bank0 = s.bank0 ∧ (updSet id f s).bank1 = s.bank1 ∧ (updSet id f s).tables = s.tables ∧ (updSet id f s).ports = s.ports ∧ (updSet id f s).slices = s.slices ∧ (updSet id f s).buf = s.buf ∧ (updSet id f s).tm = s.tm ∧ (updSet id f s).gate = s.gate ∧ (updSet id f s).flows = s.flows ∧ (updSet id f s).cap = s.cap ∧ (updSet id f s).eng = s.eng ∧ (updSet id f s).time = s.time ∧ (updSet id f s).otd = s.otd ∧ (updSet id f s).sez = s.sez ∧ (updSet id f s).hq = s.hq ∧ (updSet id f s).dma = s.dma ∧ (updSet id f s).irq = s.irq ∧ (updSet id f s).pwr = s.pwr ∧ (updSet id f s).badger = s.badger ∧ (updSet id f s).ctr = s.ctr ∧ (updSet id f s).hpt = s.hpt ∧ (updSet id f s).out = s.out ∧ (updSet id f s).fresh = s.fresh ∧ (updSet id f s).pending = s.pending := by
  have h := view_updSet (μ := fun p => p == .quad) rfl id f s
  simp [view, State.mk.injEq] at h
  simp [h]

@[simp] theorem respond_keeps (e : Env) (op : Nat) (v : Verdict) (s : State) :
    (respond e op v s).build = s.build ∧ (respond e op v s).boot = s.boot ∧ (respond e op v s).quad = s.quad ∧ (respond e op v s).bank0 = s.bank0 ∧ (respond e op v s).bank1 = s.bank1 ∧ (respond e op v s).tables = s.tables ∧ (respond e op v s).ports = s.ports ∧ (respond e op v s).slices = s.slices ∧ (respond e op v s).buf = s.buf ∧ (respond e op v s).tm = s.tm ∧ (respond e op v s).gate = s.gate ∧ (respond e op v s).flows = s.flows ∧ (respond e op v s).cap = s.cap ∧ (respond e op v s).eng = s.eng ∧ (respond e op v s).time = s.time ∧ (respond e op v s).sez = s.sez ∧ (respond e op v s).dma = s.dma ∧ (respond e op v s).irq = s.irq ∧ (respond e op v s).pwr = s.pwr ∧ (respond e op v s).badger = s.badger ∧ (respond e op v s).ctr = s.ctr ∧ (respond e op v s).hpt = s.hpt ∧ (respond e op v s).fresh = s.fresh ∧ (respond e op v s).pending = s.pending := by
  have h := view_respond (μ := fun p => p == .mb || p == .adm || p == .otd || p == .hq || p == .out) rfl rfl rfl rfl rfl e op v s
  simp [view, State.mk.injEq] at h
  simp [h]

@[simp] theorem setQueue_keeps (id : Nat) (l : List Copy) (s : State) :
    (setQueue id l s).build = s.build ∧ (setQueue id l s).mb = s.mb ∧ (setQueue id l s).boot = s.boot ∧ (setQueue id l s).adm = s.adm ∧ (setQueue id l s).quad = s.quad ∧ (setQueue id l s).bank0 = s.bank0 ∧ (setQueue id l s).bank1 = s.bank1 ∧ (setQueue id l s).tables = s.tables ∧ (setQueue id l s).slices = s.slices ∧ (setQueue id l s).buf = s.buf ∧ (setQueue id l s).gate = s.gate ∧ (setQueue id l s).flows = s.flows ∧ (setQueue id l s).cap = s.cap ∧ (setQueue id l s).eng = s.eng ∧ (setQueue id l s).time = s.time ∧ (setQueue id l s).otd = s.otd ∧ (setQueue id l s).sez = s.sez ∧ (setQueue id l s).hq = s.hq ∧ (setQueue id l s).dma = s.dma ∧ (setQueue id l s).irq = s.irq ∧ (setQueue id l s).pwr = s.pwr ∧ (setQueue id l s).badger = s.badger ∧ (setQueue id l s).ctr = s.ctr ∧ (setQueue id l s).hpt = s.hpt ∧ (setQueue id l s).out = s.out ∧ (setQueue id l s).fresh = s.fresh ∧ (setQueue id l s).pending = s.pending := by
  have h := view_setQueue (μ := fun p => p == .ports || p == .tm) rfl rfl id l s
  simp [view, State.mk.injEq] at h
  simp [h]

@[simp] theorem updStored_keeps (f : Nat) (g : Stored → Stored) (s : State) :
    (updStored f g s).build = s.build ∧ (updStored f g s).mb = s.mb ∧ (updStored f g s).boot = s.boot ∧ (updStored f g s).adm = s.adm ∧ (updStored f g s).quad = s.quad ∧ (updStored f g s).bank0 = s.bank0 ∧ (updStored f g s).bank1 = s.bank1 ∧ (updStored f g s).tables = s.tables ∧ (updStored f g s).ports = s.ports ∧ (updStored f g s).slices = s.slices ∧ (updStored f g s).tm = s.tm ∧ (updStored f g s).gate = s.gate ∧ (updStored f g s).flows = s.flows ∧ (updStored f g s).cap = s.cap ∧ (updStored f g s).eng = s.eng ∧ (updStored f g s).time = s.time ∧ (updStored f g s).otd = s.otd ∧ (updStored f g s).sez = s.sez ∧ (updStored f g s).hq = s.hq ∧ (updStored f g s).dma = s.dma ∧ (updStored f g s).irq = s.irq ∧ (updStored f g s).pwr = s.pwr ∧ (updStored f g s).badger = s.badger ∧ (updStored f g s).ctr = s.ctr ∧ (updStored f g s).hpt = s.hpt ∧ (updStored f g s).out = s.out ∧ (updStored f g s).fresh = s.fresh ∧ (updStored f g s).pending = s.pending := by
  have h := view_updStored (μ := fun p => p == .buf) rfl f g s
  simp [view, State.mk.injEq] at h
  simp [h]

@[simp] theorem meterEvent_keeps (p : Nat) (transmit : Bool) (len outcome flow : Nat) (s : State) :
    (meterEvent p transmit len outcome flow s).build = s.build ∧ (meterEvent p transmit len outcome flow s).mb = s.mb ∧ (meterEvent p transmit len outcome flow s).boot = s.boot ∧ (meterEvent p transmit len outcome flow s).adm = s.adm ∧ (meterEvent p transmit len outcome flow s).quad = s.quad ∧ (meterEvent p transmit len outcome flow s).bank0 = s.bank0 ∧ (meterEvent p transmit len outcome flow s).bank1 = s.bank1 ∧ (meterEvent p transmit len outcome flow s).tables = s.tables ∧ (meterEvent p transmit len outcome flow s).ports = s.ports ∧ (meterEvent p transmit len outcome flow s).slices = s.slices ∧ (meterEvent p transmit len outcome flow s).buf = s.buf ∧ (meterEvent p transmit len outcome flow s).tm = s.tm ∧ (meterEvent p transmit len outcome flow s).gate = s.gate ∧ (meterEvent p transmit len outcome flow s).flows = s.flows ∧ (meterEvent p transmit len outcome flow s).cap = s.cap ∧ (meterEvent p transmit len outcome flow s).eng = s.eng ∧ (meterEvent p transmit len outcome flow s).time = s.time ∧ (meterEvent p transmit len outcome flow s).sez = s.sez ∧ (meterEvent p transmit len outcome flow s).hq = s.hq ∧ (meterEvent p transmit len outcome flow s).dma = s.dma ∧ (meterEvent p transmit len outcome flow s).irq = s.irq ∧ (meterEvent p transmit len outcome flow s).pwr = s.pwr ∧ (meterEvent p transmit len outcome flow s).badger = s.badger ∧ (meterEvent p transmit len outcome flow s).ctr = s.ctr ∧ (meterEvent p transmit len outcome flow s).hpt = s.hpt ∧ (meterEvent p transmit len outcome flow s).out = s.out ∧ (meterEvent p transmit len outcome flow s).fresh = s.fresh ∧ (meterEvent p transmit len outcome flow s).pending = s.pending := by
  have h := view_meterEvent (μ := fun p => p == .otd) rfl p transmit len outcome flow s
  simp [view, State.mk.injEq] at h
  simp [h]

@[simp] theorem meterFrame_keeps (f : Frame) (outcome flow : Nat) (s : State) :
    (meterFrame f outcome flow s).build = s.build ∧ (meterFrame f outcome flow s).mb = s.mb ∧ (meterFrame f outcome flow s).boot = s.boot ∧ (meterFrame f outcome flow s).adm = s.adm ∧ (meterFrame f outcome flow s).quad = s.quad ∧ (meterFrame f outcome flow s).bank0 = s.bank0 ∧ (meterFrame f outcome flow s).bank1 = s.bank1 ∧ (meterFrame f outcome flow s).tables = s.tables ∧ (meterFrame f outcome flow s).ports = s.ports ∧ (meterFrame f outcome flow s).slices = s.slices ∧ (meterFrame f outcome flow s).buf = s.buf ∧ (meterFrame f outcome flow s).tm = s.tm ∧ (meterFrame f outcome flow s).gate = s.gate ∧ (meterFrame f outcome flow s).flows = s.flows ∧ (meterFrame f outcome flow s).cap = s.cap ∧ (meterFrame f outcome flow s).eng = s.eng ∧ (meterFrame f outcome flow s).time = s.time ∧ (meterFrame f outcome flow s).sez = s.sez ∧ (meterFrame f outcome flow s).hq = s.hq ∧ (meterFrame f outcome flow s).dma = s.dma ∧ (meterFrame f outcome flow s).irq = s.irq ∧ (meterFrame f outcome flow s).pwr = s.pwr ∧ (meterFrame f outcome flow s).badger = s.badger ∧ (meterFrame f outcome flow s).ctr = s.ctr ∧ (meterFrame f outcome flow s).hpt = s.hpt ∧ (meterFrame f outcome flow s).out = s.out ∧ (meterFrame f outcome flow s).fresh = s.fresh ∧ (meterFrame f outcome flow s).pending = s.pending := by
  have h := view_meterFrame (μ := fun p => p == .otd) rfl f outcome flow s
  simp [view, State.mk.injEq] at h
  simp [h]

@[simp] theorem flowCount_keeps (flow sl idx : Nat) (s : State) :
    (flowCount flow sl idx s).build = s.build ∧ (flowCount flow sl idx s).mb = s.mb ∧ (flowCount flow sl idx s).boot = s.boot ∧ (flowCount flow sl idx s).adm = s.adm ∧ (flowCount flow sl idx s).quad = s.quad ∧ (flowCount flow sl idx s).bank0 = s.bank0 ∧ (flowCount flow sl idx s).bank1 = s.bank1 ∧ (flowCount flow sl idx s).tables = s.tables ∧ (flowCount flow sl idx s).ports = s.ports ∧ (flowCount flow sl idx s).slices = s.slices ∧ (flowCount flow sl idx s).buf = s.buf ∧ (flowCount flow sl idx s).tm = s.tm ∧ (flowCount flow sl idx s).gate = s.gate ∧ (flowCount flow sl idx s).flows = s.flows ∧ (flowCount flow sl idx s).cap = s.cap ∧ (flowCount flow sl idx s).eng = s.eng ∧ (flowCount flow sl idx s).time = s.time ∧ (flowCount flow sl idx s).otd = s.otd ∧ (flowCount flow sl idx s).sez = s.sez ∧ (flowCount flow sl idx s).hq = s.hq ∧ (flowCount flow sl idx s).dma = s.dma ∧ (flowCount flow sl idx s).irq = s.irq ∧ (flowCount flow sl idx s).pwr = s.pwr ∧ (flowCount flow sl idx s).badger = s.badger ∧ (flowCount flow sl idx s).hpt = s.hpt ∧ (flowCount flow sl idx s).out = s.out ∧ (flowCount flow sl idx s).fresh = s.fresh ∧ (flowCount flow sl idx s).pending = s.pending := by
  have h := view_flowCount (μ := fun p => p == .ctr) rfl flow sl idx s
  simp [view, State.mk.injEq] at h
  simp [h]

@[simp] theorem flowEvent_keeps (flow cause : Nat) (s : State) :
    (flowEvent flow cause s).build = s.build ∧ (flowEvent flow cause s).mb = s.mb ∧ (flowEvent flow cause s).boot = s.boot ∧ (flowEvent flow cause s).adm = s.adm ∧ (flowEvent flow cause s).quad = s.quad ∧ (flowEvent flow cause s).bank0 = s.bank0 ∧ (flowEvent flow cause s).bank1 = s.bank1 ∧ (flowEvent flow cause s).tables = s.tables ∧ (flowEvent flow cause s).ports = s.ports ∧ (flowEvent flow cause s).slices = s.slices ∧ (flowEvent flow cause s).buf = s.buf ∧ (flowEvent flow cause s).tm = s.tm ∧ (flowEvent flow cause s).gate = s.gate ∧ (flowEvent flow cause s).cap = s.cap ∧ (flowEvent flow cause s).eng = s.eng ∧ (flowEvent flow cause s).time = s.time ∧ (flowEvent flow cause s).otd = s.otd ∧ (flowEvent flow cause s).sez = s.sez ∧ (flowEvent flow cause s).hq = s.hq ∧ (flowEvent flow cause s).dma = s.dma ∧ (flowEvent flow cause s).badger = s.badger ∧ (flowEvent flow cause s).ctr = s.ctr ∧ (flowEvent flow cause s).hpt = s.hpt ∧ (flowEvent flow cause s).fresh = s.fresh ∧ (flowEvent flow cause s).pending = s.pending := by
  have h := view_flowEvent (μ := fun p => p == .flows || p == .irq || p == .pwr || p == .out) rfl rfl rfl rfl flow cause s
  simp [view, State.mk.injEq] at h
  simp [h]

@[simp] theorem txLost_keeps (f : Frame) (s : State) :
    (txLost f s).build = s.build ∧ (txLost f s).mb = s.mb ∧ (txLost f s).boot = s.boot ∧ (txLost f s).adm = s.adm ∧ (txLost f s).quad = s.quad ∧ (txLost f s).bank0 = s.bank0 ∧ (txLost f s).bank1 = s.bank1 ∧ (txLost f s).tables = s.tables ∧ (txLost f s).ports = s.ports ∧ (txLost f s).slices = s.slices ∧ (txLost f s).buf = s.buf ∧ (txLost f s).tm = s.tm ∧ (txLost f s).gate = s.gate ∧ (txLost f s).flows = s.flows ∧ (txLost f s).cap = s.cap ∧ (txLost f s).eng = s.eng ∧ (txLost f s).time = s.time ∧ (txLost f s).otd = s.otd ∧ (txLost f s).sez = s.sez ∧ (txLost f s).dma = s.dma ∧ (txLost f s).irq = s.irq ∧ (txLost f s).pwr = s.pwr ∧ (txLost f s).badger = s.badger ∧ (txLost f s).ctr = s.ctr ∧ (txLost f s).hpt = s.hpt ∧ (txLost f s).out = s.out ∧ (txLost f s).fresh = s.fresh ∧ (txLost f s).pending = s.pending := by
  have h := view_txLost (μ := fun p => p == .hq) rfl f s
  simp [view, State.mk.injEq] at h
  simp [h]

@[simp] theorem freeIfDone_keeps (f : Nat) (s : State) :
    (freeIfDone f s).build = s.build ∧ (freeIfDone f s).mb = s.mb ∧ (freeIfDone f s).boot = s.boot ∧ (freeIfDone f s).adm = s.adm ∧ (freeIfDone f s).quad = s.quad ∧ (freeIfDone f s).bank0 = s.bank0 ∧ (freeIfDone f s).bank1 = s.bank1 ∧ (freeIfDone f s).tables = s.tables ∧ (freeIfDone f s).slices = s.slices ∧ (freeIfDone f s).tm = s.tm ∧ (freeIfDone f s).gate = s.gate ∧ (freeIfDone f s).flows = s.flows ∧ (freeIfDone f s).cap = s.cap ∧ (freeIfDone f s).eng = s.eng ∧ (freeIfDone f s).time = s.time ∧ (freeIfDone f s).otd = s.otd ∧ (freeIfDone f s).sez = s.sez ∧ (freeIfDone f s).dma = s.dma ∧ (freeIfDone f s).irq = s.irq ∧ (freeIfDone f s).pwr = s.pwr ∧ (freeIfDone f s).badger = s.badger ∧ (freeIfDone f s).ctr = s.ctr ∧ (freeIfDone f s).hpt = s.hpt ∧ (freeIfDone f s).out = s.out ∧ (freeIfDone f s).fresh = s.fresh ∧ (freeIfDone f s).pending = s.pending := by
  have h := view_freeIfDone (μ := fun p => p == .ports || p == .buf || p == .hq) rfl rfl rfl f s
  simp [view, State.mk.injEq] at h
  simp [h]

@[simp] theorem copyEnds_keeps (f : Nat) (s : State) :
    (copyEnds f s).build = s.build ∧ (copyEnds f s).mb = s.mb ∧ (copyEnds f s).boot = s.boot ∧ (copyEnds f s).adm = s.adm ∧ (copyEnds f s).quad = s.quad ∧ (copyEnds f s).bank0 = s.bank0 ∧ (copyEnds f s).bank1 = s.bank1 ∧ (copyEnds f s).tables = s.tables ∧ (copyEnds f s).slices = s.slices ∧ (copyEnds f s).tm = s.tm ∧ (copyEnds f s).gate = s.gate ∧ (copyEnds f s).flows = s.flows ∧ (copyEnds f s).cap = s.cap ∧ (copyEnds f s).eng = s.eng ∧ (copyEnds f s).time = s.time ∧ (copyEnds f s).otd = s.otd ∧ (copyEnds f s).sez = s.sez ∧ (copyEnds f s).dma = s.dma ∧ (copyEnds f s).irq = s.irq ∧ (copyEnds f s).pwr = s.pwr ∧ (copyEnds f s).badger = s.badger ∧ (copyEnds f s).ctr = s.ctr ∧ (copyEnds f s).hpt = s.hpt ∧ (copyEnds f s).out = s.out ∧ (copyEnds f s).fresh = s.fresh ∧ (copyEnds f s).pending = s.pending := by
  have h := view_copyEnds (μ := fun p => p == .ports || p == .buf || p == .hq) rfl rfl rfl f s
  simp [view, State.mk.injEq] at h
  simp [h]

@[simp] theorem capDrop_keeps (sl reason : Nat) (c : Classified) (out : Option (Nat × Nat)) (s : State) :
    (capDrop sl reason c out s).build = s.build ∧ (capDrop sl reason c out s).mb = s.mb ∧ (capDrop sl reason c out s).boot = s.boot ∧ (capDrop sl reason c out s).adm = s.adm ∧ (capDrop sl reason c out s).quad = s.quad ∧ (capDrop sl reason c out s).bank0 = s.bank0 ∧ (capDrop sl reason c out s).bank1 = s.bank1 ∧ (capDrop sl reason c out s).tables = s.tables ∧ (capDrop sl reason c out s).ports = s.ports ∧ (capDrop sl reason c out s).slices = s.slices ∧ (capDrop sl reason c out s).buf = s.buf ∧ (capDrop sl reason c out s).tm = s.tm ∧ (capDrop sl reason c out s).gate = s.gate ∧ (capDrop sl reason c out s).flows = s.flows ∧ (capDrop sl reason c out s).eng = s.eng ∧ (capDrop sl reason c out s).time = s.time ∧ (capDrop sl reason c out s).otd = s.otd ∧ (capDrop sl reason c out s).sez = s.sez ∧ (capDrop sl reason c out s).hq = s.hq ∧ (capDrop sl reason c out s).dma = s.dma ∧ (capDrop sl reason c out s).irq = s.irq ∧ (capDrop sl reason c out s).pwr = s.pwr ∧ (capDrop sl reason c out s).badger = s.badger ∧ (capDrop sl reason c out s).hpt = s.hpt ∧ (capDrop sl reason c out s).fresh = s.fresh ∧ (capDrop sl reason c out s).pending = s.pending := by
  have h := view_capDrop (μ := fun p => p == .cap || p == .ctr || p == .out) rfl rfl rfl sl reason c out s
  simp [view, State.mk.injEq] at h
  simp [h]

@[simp] theorem discardCopy_keeps (reason : Nat) (x : Copy) (s : State) :
    (discardCopy reason x s).build = s.build ∧ (discardCopy reason x s).mb = s.mb ∧ (discardCopy reason x s).boot = s.boot ∧ (discardCopy reason x s).adm = s.adm ∧ (discardCopy reason x s).quad = s.quad ∧ (discardCopy reason x s).bank0 = s.bank0 ∧ (discardCopy reason x s).bank1 = s.bank1 ∧ (discardCopy reason x s).tables = s.tables ∧ (discardCopy reason x s).slices = s.slices ∧ (discardCopy reason x s).tm = s.tm ∧ (discardCopy reason x s).gate = s.gate ∧ (discardCopy reason x s).flows = s.flows ∧ (discardCopy reason x s).eng = s.eng ∧ (discardCopy reason x s).time = s.time ∧ (discardCopy reason x s).otd = s.otd ∧ (discardCopy reason x s).sez = s.sez ∧ (discardCopy reason x s).dma = s.dma ∧ (discardCopy reason x s).irq = s.irq ∧ (discardCopy reason x s).pwr = s.pwr ∧ (discardCopy reason x s).badger = s.badger ∧ (discardCopy reason x s).hpt = s.hpt ∧ (discardCopy reason x s).fresh = s.fresh ∧ (discardCopy reason x s).pending = s.pending := by
  have h := view_discardCopy (μ := fun p => p == .ports || p == .buf || p == .cap || p == .hq || p == .ctr || p == .out) rfl rfl rfl rfl rfl rfl reason x s
  simp [view, State.mk.injEq] at h
  simp [h]

@[simp] theorem noteEmpty_keeps (p : Nat) (s : State) :
    (noteEmpty p s).build = s.build ∧ (noteEmpty p s).mb = s.mb ∧ (noteEmpty p s).boot = s.boot ∧ (noteEmpty p s).adm = s.adm ∧ (noteEmpty p s).quad = s.quad ∧ (noteEmpty p s).bank0 = s.bank0 ∧ (noteEmpty p s).bank1 = s.bank1 ∧ (noteEmpty p s).tables = s.tables ∧ (noteEmpty p s).slices = s.slices ∧ (noteEmpty p s).buf = s.buf ∧ (noteEmpty p s).tm = s.tm ∧ (noteEmpty p s).gate = s.gate ∧ (noteEmpty p s).flows = s.flows ∧ (noteEmpty p s).cap = s.cap ∧ (noteEmpty p s).eng = s.eng ∧ (noteEmpty p s).time = s.time ∧ (noteEmpty p s).otd = s.otd ∧ (noteEmpty p s).sez = s.sez ∧ (noteEmpty p s).hq = s.hq ∧ (noteEmpty p s).dma = s.dma ∧ (noteEmpty p s).irq = s.irq ∧ (noteEmpty p s).pwr = s.pwr ∧ (noteEmpty p s).badger = s.badger ∧ (noteEmpty p s).ctr = s.ctr ∧ (noteEmpty p s).hpt = s.hpt ∧ (noteEmpty p s).out = s.out ∧ (noteEmpty p s).fresh = s.fresh ∧ (noteEmpty p s).pending = s.pending := by
  have h := view_noteEmpty (μ := fun p => p == .ports) rfl p s
  simp [view, State.mk.injEq] at h
  simp [h]

@[simp] theorem changeLists_keeps (p : Nat) (f : GateRt → GateRt) (s : State) :
    (changeLists p f s).build = s.build ∧ (changeLists p f s).mb = s.mb ∧ (changeLists p f s).boot = s.boot ∧ (changeLists p f s).adm = s.adm ∧ (changeLists p f s).quad = s.quad ∧ (changeLists p f s).bank0 = s.bank0 ∧ (changeLists p f s).bank1 = s.bank1 ∧ (changeLists p f s).tables = s.tables ∧ (changeLists p f s).ports = s.ports ∧ (changeLists p f s).slices = s.slices ∧ (changeLists p f s).buf = s.buf ∧ (changeLists p f s).tm = s.tm ∧ (changeLists p f s).flows = s.flows ∧ (changeLists p f s).cap = s.cap ∧ (changeLists p f s).eng = s.eng ∧ (changeLists p f s).time = s.time ∧ (changeLists p f s).otd = s.otd ∧ (changeLists p f s).sez = s.sez ∧ (changeLists p f s).hq = s.hq ∧ (changeLists p f s).dma = s.dma ∧ (changeLists p f s).irq = s.irq ∧ (changeLists p f s).pwr = s.pwr ∧ (changeLists p f s).badger = s.badger ∧ (changeLists p f s).ctr = s.ctr ∧ (changeLists p f s).hpt = s.hpt ∧ (changeLists p f s).out = s.out ∧ (changeLists p f s).fresh = s.fresh ∧ (changeLists p f s).pending = s.pending := by
  have h := view_changeLists (μ := fun p => p == .gate) rfl p f s
  simp [view, State.mk.injEq] at h
  simp [h]

@[simp] theorem setTokens_keeps (key : Nat) (t : Tokens) (s : State) :
    (setTokens key t s).build = s.build ∧ (setTokens key t s).mb = s.mb ∧ (setTokens key t s).boot = s.boot ∧ (setTokens key t s).adm = s.adm ∧ (setTokens key t s).quad = s.quad ∧ (setTokens key t s).bank0 = s.bank0 ∧ (setTokens key t s).bank1 = s.bank1 ∧ (setTokens key t s).tables = s.tables ∧ (setTokens key t s).ports = s.ports ∧ (setTokens key t s).slices = s.slices ∧ (setTokens key t s).buf = s.buf ∧ (setTokens key t s).gate = s.gate ∧ (setTokens key t s).flows = s.flows ∧ (setTokens key t s).cap = s.cap ∧ (setTokens key t s).eng = s.eng ∧ (setTokens key t s).time = s.time ∧ (setTokens key t s).otd = s.otd ∧ (setTokens key t s).sez = s.sez ∧ (setTokens key t s).hq = s.hq ∧ (setTokens key t s).dma = s.dma ∧ (setTokens key t s).irq = s.irq ∧ (setTokens key t s).pwr = s.pwr ∧ (setTokens key t s).badger = s.badger ∧ (setTokens key t s).ctr = s.ctr ∧ (setTokens key t s).hpt = s.hpt ∧ (setTokens key t s).out = s.out ∧ (setTokens key t s).fresh = s.fresh ∧ (setTokens key t s).pending = s.pending := by
  have h := view_setTokens (μ := fun p => p == .tm) rfl key t s
  simp [view, State.mk.injEq] at h
  simp [h]

@[simp] theorem updQstat_keeps (id : Nat) (f : QStat → QStat) (s : State) :
    (updQstat id f s).build = s.build ∧ (updQstat id f s).mb = s.mb ∧ (updQstat id f s).boot = s.boot ∧ (updQstat id f s).adm = s.adm ∧ (updQstat id f s).quad = s.quad ∧ (updQstat id f s).bank0 = s.bank0 ∧ (updQstat id f s).bank1 = s.bank1 ∧ (updQstat id f s).tables = s.tables ∧ (updQstat id f s).ports = s.ports ∧ (updQstat id f s).slices = s.slices ∧ (updQstat id f s).buf = s.buf ∧ (updQstat id f s).gate = s.gate ∧ (updQstat id f s).flows = s.flows ∧ (updQstat id f s).cap = s.cap ∧ (updQstat id f s).eng = s.eng ∧ (updQstat id f s).time = s.time ∧ (updQstat id f s).otd = s.otd ∧ (updQstat id f s).sez = s.sez ∧ (updQstat id f s).hq = s.hq ∧ (updQstat id f s).dma = s.dma ∧ (updQstat id f s).irq = s.irq ∧ (updQstat id f s).pwr = s.pwr ∧ (updQstat id f s).badger = s.badger ∧ (updQstat id f s).ctr = s.ctr ∧ (updQstat id f s).hpt = s.hpt ∧ (updQstat id f s).out = s.out ∧ (updQstat id f s).fresh = s.fresh ∧ (updQstat id f s).pending = s.pending := by
  have h := view_updQstat (μ := fun p => p == .tm) rfl id f s
  simp [view, State.mk.injEq] at h
  simp [h]

@[simp] theorem macMap_keeps (p : MacEntry → Bool) (f : MacEntry → MacEntry) (s : State) :
    (macMap p f s).build = s.build ∧ (macMap p f s).mb = s.mb ∧ (macMap p f s).boot = s.boot ∧ (macMap p f s).adm = s.adm ∧ (macMap p f s).quad = s.quad ∧ (macMap p f s).bank0 = s.bank0 ∧ (macMap p f s).bank1 = s.bank1 ∧ (macMap p f s).ports = s.ports ∧ (macMap p f s).slices = s.slices ∧ (macMap p f s).buf = s.buf ∧ (macMap p f s).tm = s.tm ∧ (macMap p f s).gate = s.gate ∧ (macMap p f s).flows = s.flows ∧ (macMap p f s).cap = s.cap ∧ (macMap p f s).eng = s.eng ∧ (macMap p f s).time = s.time ∧ (macMap p f s).otd = s.otd ∧ (macMap p f s).sez = s.sez ∧ (macMap p f s).hq = s.hq ∧ (macMap p f s).dma = s.dma ∧ (macMap p f s).irq = s.irq ∧ (macMap p f s).pwr = s.pwr ∧ (macMap p f s).badger = s.badger ∧ (macMap p f s).ctr = s.ctr ∧ (macMap p f s).hpt = s.hpt ∧ (macMap p f s).out = s.out ∧ (macMap p f s).fresh = s.fresh ∧ (macMap p f s).pending = s.pending := by
  have h := view_macMap (μ := fun p => p == .tables) rfl p f s
  simp [view, State.mk.injEq] at h
  simp [h]

@[simp] theorem macDrop_keeps (p : MacEntry → Bool) (s : State) :
    (macDrop p s).build = s.build ∧ (macDrop p s).mb = s.mb ∧ (macDrop p s).boot = s.boot ∧ (macDrop p s).adm = s.adm ∧ (macDrop p s).quad = s.quad ∧ (macDrop p s).bank0 = s.bank0 ∧ (macDrop p s).bank1 = s.bank1 ∧ (macDrop p s).ports = s.ports ∧ (macDrop p s).slices = s.slices ∧ (macDrop p s).buf = s.buf ∧ (macDrop p s).tm = s.tm ∧ (macDrop p s).gate = s.gate ∧ (macDrop p s).flows = s.flows ∧ (macDrop p s).cap = s.cap ∧ (macDrop p s).eng = s.eng ∧ (macDrop p s).time = s.time ∧ (macDrop p s).otd = s.otd ∧ (macDrop p s).sez = s.sez ∧ (macDrop p s).hq = s.hq ∧ (macDrop p s).dma = s.dma ∧ (macDrop p s).irq = s.irq ∧ (macDrop p s).pwr = s.pwr ∧ (macDrop p s).badger = s.badger ∧ (macDrop p s).ctr = s.ctr ∧ (macDrop p s).hpt = s.hpt ∧ (macDrop p s).out = s.out ∧ (macDrop p s).fresh = s.fresh ∧ (macDrop p s).pending = s.pending := by
  have h := view_macDrop (μ := fun p => p == .tables) rfl p s
  simp [view, State.mk.injEq] at h
  simp [h]

@[simp] theorem fwdCount_keeps (sl i : Nat) (s : State) :
    (fwdCount sl i s).build = s.build ∧ (fwdCount sl i s).mb = s.mb ∧ (fwdCount sl i s).boot = s.boot ∧ (fwdCount sl i s).adm = s.adm ∧ (fwdCount sl i s).quad = s.quad ∧ (fwdCount sl i s).bank0 = s.bank0 ∧ (fwdCount sl i s).bank1 = s.bank1 ∧ (fwdCount sl i s).tables = s.tables ∧ (fwdCount sl i s).ports = s.ports ∧ (fwdCount sl i s).slices = s.slices ∧ (fwdCount sl i s).buf = s.buf ∧ (fwdCount sl i s).tm = s.tm ∧ (fwdCount sl i s).gate = s.gate ∧ (fwdCount sl i s).flows = s.flows ∧ (fwdCount sl i s).cap = s.cap ∧ (fwdCount sl i s).eng = s.eng ∧ (fwdCount sl i s).time = s.time ∧ (fwdCount sl i s).otd = s.otd ∧ (fwdCount sl i s).sez = s.sez ∧ (fwdCount sl i s).hq = s.hq ∧ (fwdCount sl i s).dma = s.dma ∧ (fwdCount sl i s).irq = s.irq ∧ (fwdCount sl i s).pwr = s.pwr ∧ (fwdCount sl i s).badger = s.badger ∧ (fwdCount sl i s).hpt = s.hpt ∧ (fwdCount sl i s).out = s.out ∧ (fwdCount sl i s).fresh = s.fresh ∧ (fwdCount sl i s).pending = s.pending := by
  have h := view_fwdCount (μ := fun p => p == .ctr) rfl sl i s
  simp [view, State.mk.injEq] at h
  simp [h]

@[simp] theorem recomputeShared_keeps (s : State) :
    (recomputeShared s).build = s.build ∧ (recomputeShared s).mb = s.mb ∧ (recomputeShared s).boot = s.boot ∧ (recomputeShared s).adm = s.adm ∧ (recomputeShared s).quad = s.quad ∧ (recomputeShared s).bank0 = s.bank0 ∧ (recomputeShared s).bank1 = s.bank1 ∧ (recomputeShared s).tables = s.tables ∧ (recomputeShared s).ports = s.ports ∧ (recomputeShared s).slices = s.slices ∧ (recomputeShared s).tm = s.tm ∧ (recomputeShared s).gate = s.gate ∧ (recomputeShared s).flows = s.flows ∧ (recomputeShared s).cap = s.cap ∧ (recomputeShared s).eng = s.eng ∧ (recomputeShared s).time = s.time ∧ (recomputeShared s).otd = s.otd ∧ (recomputeShared s).sez = s.sez ∧ (recomputeShared s).hq = s.hq ∧ (recomputeShared s).dma = s.dma ∧ (recomputeShared s).irq = s.irq ∧ (recomputeShared s).pwr = s.pwr ∧ (recomputeShared s).badger = s.badger ∧ (recomputeShared s).ctr = s.ctr ∧ (recomputeShared s).hpt = s.hpt ∧ (recomputeShared s).out = s.out ∧ (recomputeShared s).fresh = s.fresh ∧ (recomputeShared s).pending = s.pending := by
  have h := view_recomputeShared (μ := fun p => p == .buf) rfl s
  simp [view, State.mk.injEq] at h
  simp [h]

@[simp] theorem cutFragment_keeps (p : Nat) (s : State) :
    (cutFragment p s).build = s.build ∧ (cutFragment p s).mb = s.mb ∧ (cutFragment p s).boot = s.boot ∧ (cutFragment p s).adm = s.adm ∧ (cutFragment p s).quad = s.quad ∧ (cutFragment p s).bank0 = s.bank0 ∧ (cutFragment p s).bank1 = s.bank1 ∧ (cutFragment p s).tables = s.tables ∧ (cutFragment p s).slices = s.slices ∧ (cutFragment p s).buf = s.buf ∧ (cutFragment p s).tm = s.tm ∧ (cutFragment p s).gate = s.gate ∧ (cutFragment p s).flows = s.flows ∧ (cutFragment p s).cap = s.cap ∧ (cutFragment p s).eng = s.eng ∧ (cutFragment p s).time = s.time ∧ (cutFragment p s).otd = s.otd ∧ (cutFragment p s).sez = s.sez ∧ (cutFragment p s).hq = s.hq ∧ (cutFragment p s).dma = s.dma ∧ (cutFragment p s).irq = s.irq ∧ (cutFragment p s).pwr = s.pwr ∧ (cutFragment p s).badger = s.badger ∧ (cutFragment p s).hpt = s.hpt ∧ (cutFragment p s).out = s.out ∧ (cutFragment p s).fresh = s.fresh ∧ (cutFragment p s).pending = s.pending := by
  have h := view_cutFragment (μ := fun p => p == .ports || p == .ctr) rfl rfl p s
  simp [view, State.mk.injEq] at h
  simp [h]

@[simp] theorem sezBump_keeps (i : Nat) (s : State) :
    (sezBump i s).build = s.build ∧ (sezBump i s).mb = s.mb ∧ (sezBump i s).boot = s.boot ∧ (sezBump i s).adm = s.adm ∧ (sezBump i s).quad = s.quad ∧ (sezBump i s).bank0 = s.bank0 ∧ (sezBump i s).bank1 = s.bank1 ∧ (sezBump i s).tables = s.tables ∧ (sezBump i s).ports = s.ports ∧ (sezBump i s).slices = s.slices ∧ (sezBump i s).buf = s.buf ∧ (sezBump i s).tm = s.tm ∧ (sezBump i s).gate = s.gate ∧ (sezBump i s).flows = s.flows ∧ (sezBump i s).cap = s.cap ∧ (sezBump i s).eng = s.eng ∧ (sezBump i s).time = s.time ∧ (sezBump i s).otd = s.otd ∧ (sezBump i s).sez = s.sez ∧ (sezBump i s).hq = s.hq ∧ (sezBump i s).dma = s.dma ∧ (sezBump i s).irq = s.irq ∧ (sezBump i s).pwr = s.pwr ∧ (sezBump i s).badger = s.badger ∧ (sezBump i s).hpt = s.hpt ∧ (sezBump i s).out = s.out ∧ (sezBump i s).fresh = s.fresh ∧ (sezBump i s).pending = s.pending := by
  have h := view_sezBump (μ := fun p => p == .ctr) rfl i s
  simp [view, State.mk.injEq] at h
  simp [h]

@[simp] theorem goOutOfStep_keeps (set : Nat) (s : State) :
    (goOutOfStep set s).build = s.build ∧ (goOutOfStep set s).mb = s.mb ∧ (goOutOfStep set s).boot = s.boot ∧ (goOutOfStep set s).adm = s.adm ∧ (goOutOfStep set s).quad = s.quad ∧ (goOutOfStep set s).bank0 = s.bank0 ∧ (goOutOfStep set s).bank1 = s.bank1 ∧ (goOutOfStep set s).tables = s.tables ∧ (goOutOfStep set s).ports = s.ports ∧ (goOutOfStep set s).slices = s.slices ∧ (goOutOfStep set s).buf = s.buf ∧ (goOutOfStep set s).tm = s.tm ∧ (goOutOfStep set s).gate = s.gate ∧ (goOutOfStep set s).flows = s.flows ∧ (goOutOfStep set s).cap = s.cap ∧ (goOutOfStep set s).eng = s.eng ∧ (goOutOfStep set s).time = s.time ∧ (goOutOfStep set s).otd = s.otd ∧ (goOutOfStep set s).hq = s.hq ∧ (goOutOfStep set s).dma = s.dma ∧ (goOutOfStep set s).badger = s.badger ∧ (goOutOfStep set s).ctr = s.ctr ∧ (goOutOfStep set s).hpt = s.hpt ∧ (goOutOfStep set s).fresh = s.fresh ∧ (goOutOfStep set s).pending = s.pending := by
  have h := view_goOutOfStep (μ := fun p => p == .sez || p == .irq || p == .pwr || p == .out) rfl rfl rfl rfl set s
  simp [view, State.mk.injEq] at h
  simp [h]

@[simp] theorem setTimeState_keeps (t : TimeSt) (s : State) :
    (setTimeState t s).build = s.build ∧ (setTimeState t s).mb = s.mb ∧ (setTimeState t s).boot = s.boot ∧ (setTimeState t s).adm = s.adm ∧ (setTimeState t s).quad = s.quad ∧ (setTimeState t s).bank0 = s.bank0 ∧ (setTimeState t s).bank1 = s.bank1 ∧ (setTimeState t s).tables = s.tables ∧ (setTimeState t s).ports = s.ports ∧ (setTimeState t s).slices = s.slices ∧ (setTimeState t s).buf = s.buf ∧ (setTimeState t s).tm = s.tm ∧ (setTimeState t s).gate = s.gate ∧ (setTimeState t s).flows = s.flows ∧ (setTimeState t s).cap = s.cap ∧ (setTimeState t s).eng = s.eng ∧ (setTimeState t s).otd = s.otd ∧ (setTimeState t s).hq = s.hq ∧ (setTimeState t s).dma = s.dma ∧ (setTimeState t s).badger = s.badger ∧ (setTimeState t s).ctr = s.ctr ∧ (setTimeState t s).hpt = s.hpt ∧ (setTimeState t s).fresh = s.fresh ∧ (setTimeState t s).pending = s.pending := by
  have h := view_setTimeState (μ := fun p => p == .time || p == .sez || p == .irq || p == .pwr || p == .out) rfl rfl rfl rfl rfl t s
  simp [view, State.mk.injEq] at h
  simp [h]

@[simp] theorem sezResolve_keeps (s : State) :
    (sezResolve s).build = s.build ∧ (sezResolve s).mb = s.mb ∧ (sezResolve s).boot = s.boot ∧ (sezResolve s).adm = s.adm ∧ (sezResolve s).quad = s.quad ∧ (sezResolve s).bank0 = s.bank0 ∧ (sezResolve s).bank1 = s.bank1 ∧ (sezResolve s).tables = s.tables ∧ (sezResolve s).ports = s.ports ∧ (sezResolve s).slices = s.slices ∧ (sezResolve s).buf = s.buf ∧ (sezResolve s).tm = s.tm ∧ (sezResolve s).gate = s.gate ∧ (sezResolve s).flows = s.flows ∧ (sezResolve s).cap = s.cap ∧ (sezResolve s).eng = s.eng ∧ (sezResolve s).otd = s.otd ∧ (sezResolve s).hq = s.hq ∧ (sezResolve s).dma = s.dma ∧ (sezResolve s).badger = s.badger ∧ (sezResolve s).ctr = s.ctr ∧ (sezResolve s).hpt = s.hpt ∧ (sezResolve s).fresh = s.fresh ∧ (sezResolve s).pending = s.pending := by
  have h := view_sezResolve (μ := fun p => p == .time || p == .sez || p == .irq || p == .pwr || p == .out) rfl rfl rfl rfl rfl s
  simp [view, State.mk.injEq] at h
  simp [h]

@[simp] theorem ctlOn_keeps (tag p : Nat) (data : List Byte) (s : State) :
    (ctlOn tag p data s).build = s.build ∧ (ctlOn tag p data s).mb = s.mb ∧ (ctlOn tag p data s).boot = s.boot ∧ (ctlOn tag p data s).adm = s.adm ∧ (ctlOn tag p data s).quad = s.quad ∧ (ctlOn tag p data s).bank0 = s.bank0 ∧ (ctlOn tag p data s).bank1 = s.bank1 ∧ (ctlOn tag p data s).tables = s.tables ∧ (ctlOn tag p data s).slices = s.slices ∧ (ctlOn tag p data s).buf = s.buf ∧ (ctlOn tag p data s).tm = s.tm ∧ (ctlOn tag p data s).gate = s.gate ∧ (ctlOn tag p data s).flows = s.flows ∧ (ctlOn tag p data s).cap = s.cap ∧ (ctlOn tag p data s).eng = s.eng ∧ (ctlOn tag p data s).time = s.time ∧ (ctlOn tag p data s).otd = s.otd ∧ (ctlOn tag p data s).sez = s.sez ∧ (ctlOn tag p data s).hq = s.hq ∧ (ctlOn tag p data s).dma = s.dma ∧ (ctlOn tag p data s).irq = s.irq ∧ (ctlOn tag p data s).pwr = s.pwr ∧ (ctlOn tag p data s).badger = s.badger ∧ (ctlOn tag p data s).hpt = s.hpt ∧ (ctlOn tag p data s).out = s.out ∧ (ctlOn tag p data s).fresh = s.fresh ∧ (ctlOn tag p data s).pending = s.pending := by
  have h := view_ctlOn (μ := fun p => p == .ports || p == .ctr) rfl rfl tag p data s
  simp [view, State.mk.injEq] at h
  simp [h]

@[simp] theorem flood_keeps (msg : Nat) (body : List Byte) (s : State) :
    (flood msg body s).build = s.build ∧ (flood msg body s).mb = s.mb ∧ (flood msg body s).boot = s.boot ∧ (flood msg body s).adm = s.adm ∧ (flood msg body s).quad = s.quad ∧ (flood msg body s).bank0 = s.bank0 ∧ (flood msg body s).bank1 = s.bank1 ∧ (flood msg body s).tables = s.tables ∧ (flood msg body s).slices = s.slices ∧ (flood msg body s).buf = s.buf ∧ (flood msg body s).tm = s.tm ∧ (flood msg body s).gate = s.gate ∧ (flood msg body s).flows = s.flows ∧ (flood msg body s).cap = s.cap ∧ (flood msg body s).eng = s.eng ∧ (flood msg body s).time = s.time ∧ (flood msg body s).otd = s.otd ∧ (flood msg body s).hq = s.hq ∧ (flood msg body s).dma = s.dma ∧ (flood msg body s).irq = s.irq ∧ (flood msg body s).pwr = s.pwr ∧ (flood msg body s).badger = s.badger ∧ (flood msg body s).hpt = s.hpt ∧ (flood msg body s).out = s.out ∧ (flood msg body s).fresh = s.fresh ∧ (flood msg body s).pending = s.pending := by
  have h := view_flood (μ := fun p => p == .ports || p == .sez || p == .ctr) rfl rfl rfl msg body s
  simp [view, State.mk.injEq] at h
  simp [h]

@[simp] theorem floodOutcome_keeps (set result culprit : Nat) (s : State) :
    (floodOutcome set result culprit s).build = s.build ∧ (floodOutcome set result culprit s).mb = s.mb ∧ (floodOutcome set result culprit s).boot = s.boot ∧ (floodOutcome set result culprit s).adm = s.adm ∧ (floodOutcome set result culprit s).quad = s.quad ∧ (floodOutcome set result culprit s).bank0 = s.bank0 ∧ (floodOutcome set result culprit s).bank1 = s.bank1 ∧ (floodOutcome set result culprit s).tables = s.tables ∧ (floodOutcome set result culprit s).slices = s.slices ∧ (floodOutcome set result culprit s).buf = s.buf ∧ (floodOutcome set result culprit s).tm = s.tm ∧ (floodOutcome set result culprit s).gate = s.gate ∧ (floodOutcome set result culprit s).flows = s.flows ∧ (floodOutcome set result culprit s).cap = s.cap ∧ (floodOutcome set result culprit s).eng = s.eng ∧ (floodOutcome set result culprit s).time = s.time ∧ (floodOutcome set result culprit s).otd = s.otd ∧ (floodOutcome set result culprit s).hq = s.hq ∧ (floodOutcome set result culprit s).dma = s.dma ∧ (floodOutcome set result culprit s).irq = s.irq ∧ (floodOutcome set result culprit s).pwr = s.pwr ∧ (floodOutcome set result culprit s).badger = s.badger ∧ (floodOutcome set result culprit s).hpt = s.hpt ∧ (floodOutcome set result culprit s).out = s.out ∧ (floodOutcome set result culprit s).fresh = s.fresh ∧ (floodOutcome set result culprit s).pending = s.pending := by
  have h := view_floodOutcome (μ := fun p => p == .ports || p == .sez || p == .ctr) rfl rfl rfl set result culprit s
  simp [view, State.mk.injEq] at h
  simp [h]

@[simp] theorem leaveDomain_keeps (p : Nat) (s : State) :
    (leaveDomain p s).build = s.build ∧ (leaveDomain p s).mb = s.mb ∧ (leaveDomain p s).boot = s.boot ∧ (leaveDomain p s).adm = s.adm ∧ (leaveDomain p s).quad = s.quad ∧ (leaveDomain p s).bank0 = s.bank0 ∧ (leaveDomain p s).bank1 = s.bank1 ∧ (leaveDomain p s).tables = s.tables ∧ (leaveDomain p s).ports = s.ports ∧ (leaveDomain p s).slices = s.slices ∧ (leaveDomain p s).buf = s.buf ∧ (leaveDomain p s).tm = s.tm ∧ (leaveDomain p s).gate = s.gate ∧ (leaveDomain p s).flows = s.flows ∧ (leaveDomain p s).cap = s.cap ∧ (leaveDomain p s).eng = s.eng ∧ (leaveDomain p s).otd = s.otd ∧ (leaveDomain p s).hq = s.hq ∧ (leaveDomain p s).dma = s.dma ∧ (leaveDomain p s).badger = s.badger ∧ (leaveDomain p s).ctr = s.ctr ∧ (leaveDomain p s).hpt = s.hpt ∧ (leaveDomain p s).fresh = s.fresh ∧ (leaveDomain p s).pending = s.pending := by
  have h := view_leaveDomain (μ := fun p => p == .time || p == .sez || p == .irq || p == .pwr || p == .out) rfl rfl rfl rfl rfl p s
  simp [view, State.mk.injEq] at h
  simp [h]

@[simp] theorem dropInFlight_keeps (sl : Nat) (cs : List Copy) (s : State) :
    (dropInFlight sl cs s).build = s.build ∧ (dropInFlight sl cs s).mb = s.mb ∧ (dropInFlight sl cs s).boot = s.boot ∧ (dropInFlight sl cs s).adm = s.adm ∧ (dropInFlight sl cs s).quad = s.quad ∧ (dropInFlight sl cs s).bank0 = s.bank0 ∧ (dropInFlight sl cs s).bank1 = s.bank1 ∧ (dropInFlight sl cs s).tables = s.tables ∧ (dropInFlight sl cs s).ports = s.ports ∧ (dropInFlight sl cs s).buf = s.buf ∧ (dropInFlight sl cs s).tm = s.tm ∧ (dropInFlight sl cs s).gate = s.gate ∧ (dropInFlight sl cs s).flows = s.flows ∧ (dropInFlight sl cs s).cap = s.cap ∧ (dropInFlight sl cs s).eng = s.eng ∧ (dropInFlight sl cs s).time = s.time ∧ (dropInFlight sl cs s).otd = s.otd ∧ (dropInFlight sl cs s).sez = s.sez ∧ (dropInFlight sl cs s).hq = s.hq ∧ (dropInFlight sl cs s).dma = s.dma ∧ (dropInFlight sl cs s).irq = s.irq ∧ (dropInFlight sl cs s).pwr = s.pwr ∧ (dropInFlight sl cs s).badger = s.badger ∧ (dropInFlight sl cs s).ctr = s.ctr ∧ (dropInFlight sl cs s).hpt = s.hpt ∧ (dropInFlight sl cs s).out = s.out ∧ (dropInFlight sl cs s).fresh = s.fresh ∧ (dropInFlight sl cs s).pending = s.pending := by
  have h := view_dropInFlight (μ := fun p => p == .slices) rfl sl cs s
  simp [view, State.mk.injEq] at h
  simp [h]

@[simp] theorem linkWake_keeps (p : Nat) (s : State) :
    (linkWake p s).build = s.build ∧ (linkWake p s).mb = s.mb ∧ (linkWake p s).boot = s.boot ∧ (linkWake p s).adm = s.adm ∧ (linkWake p s).quad = s.quad ∧ (linkWake p s).bank0 = s.bank0 ∧ (linkWake p s).bank1 = s.bank1 ∧ (linkWake p s).tables = s.tables ∧ (linkWake p s).ports = s.ports ∧ (linkWake p s).slices = s.slices ∧ (linkWake p s).buf = s.buf ∧ (linkWake p s).tm = s.tm ∧ (linkWake p s).gate = s.gate ∧ (linkWake p s).flows = s.flows ∧ (linkWake p s).cap = s.cap ∧ (linkWake p s).eng = s.eng ∧ (linkWake p s).time = s.time ∧ (linkWake p s).otd = s.otd ∧ (linkWake p s).sez = s.sez ∧ (linkWake p s).hq = s.hq ∧ (linkWake p s).dma = s.dma ∧ (linkWake p s).irq = s.irq ∧ (linkWake p s).badger = s.badger ∧ (linkWake p s).ctr = s.ctr ∧ (linkWake p s).hpt = s.hpt ∧ (linkWake p s).out = s.out ∧ (linkWake p s).fresh = s.fresh ∧ (linkWake p s).pending = s.pending := by
  have h := view_linkWake (μ := fun p => p == .pwr) rfl p s
  simp [view, State.mk.injEq] at h
  simp [h]

@[simp] theorem updTable_keeps (id : Nat) (f : Table → Table) (s : State) :
    (updTable id f s).build = s.build ∧ (updTable id f s).mb = s.mb ∧ (updTable id f s).boot = s.boot ∧ (updTable id f s).adm = s.adm ∧ (updTable id f s).quad = s.quad ∧ (updTable id f s).bank0 = s.bank0 ∧ (updTable id f s).bank1 = s.bank1 ∧ (updTable id f s).ports = s.ports ∧ (updTable id f s).slices = s.slices ∧ (updTable id f s).buf = s.buf ∧ (updTable id f s).tm = s.tm ∧ (updTable id f s).gate = s.gate ∧ (updTable id f s).flows = s.flows ∧ (updTable id f s).cap = s.cap ∧ (updTable id f s).eng = s.eng ∧ (updTable id f s).time = s.time ∧ (updTable id f s).otd = s.otd ∧ (updTable id f s).sez = s.sez ∧ (updTable id f s).hq = s.hq ∧ (updTable id f s).dma = s.dma ∧ (updTable id f s).irq = s.irq ∧ (updTable id f s).pwr = s.pwr ∧ (updTable id f s).badger = s.badger ∧ (updTable id f s).ctr = s.ctr ∧ (updTable id f s).hpt = s.hpt ∧ (updTable id f s).out = s.out ∧ (updTable id f s).fresh = s.fresh ∧ (updTable id f s).pending = s.pending := by
  have h := view_updTable (μ := fun p => p == .tables) rfl id f s
  simp [view, State.mk.injEq] at h
  simp [h]

@[simp] theorem logFault_keeps (code action unit : Nat) (s : State) :
    (logFault code action unit s).build = s.build ∧ (logFault code action unit s).mb = s.mb ∧ (logFault code action unit s).boot = s.boot ∧ (logFault code action unit s).adm = s.adm ∧ (logFault code action unit s).quad = s.quad ∧ (logFault code action unit s).bank0 = s.bank0 ∧ (logFault code action unit s).bank1 = s.bank1 ∧ (logFault code action unit s).tables = s.tables ∧ (logFault code action unit s).ports = s.ports ∧ (logFault code action unit s).slices = s.slices ∧ (logFault code action unit s).buf = s.buf ∧ (logFault code action unit s).tm = s.tm ∧ (logFault code action unit s).gate = s.gate ∧ (logFault code action unit s).flows = s.flows ∧ (logFault code action unit s).cap = s.cap ∧ (logFault code action unit s).eng = s.eng ∧ (logFault code action unit s).time = s.time ∧ (logFault code action unit s).otd = s.otd ∧ (logFault code action unit s).sez = s.sez ∧ (logFault code action unit s).hq = s.hq ∧ (logFault code action unit s).dma = s.dma ∧ (logFault code action unit s).ctr = s.ctr ∧ (logFault code action unit s).hpt = s.hpt ∧ (logFault code action unit s).pending = s.pending := by
  have h := view_logFault (μ := fun p => p == .irq || p == .pwr || p == .badger || p == .out || p == .fresh) rfl rfl rfl rfl rfl code action unit s
  simp [view, State.mk.injEq] at h
  simp [h]

@[simp] theorem isolateUnit_keeps (u : Nat) (s : State) :
    (isolateUnit u s).build = s.build ∧ (isolateUnit u s).mb = s.mb ∧ (isolateUnit u s).boot = s.boot ∧ (isolateUnit u s).adm = s.adm ∧ (isolateUnit u s).quad = s.quad ∧ (isolateUnit u s).bank0 = s.bank0 ∧ (isolateUnit u s).bank1 = s.bank1 ∧ (isolateUnit u s).ports = s.ports ∧ (isolateUnit u s).tm = s.tm ∧ (isolateUnit u s).gate = s.gate ∧ (isolateUnit u s).flows = s.flows ∧ (isolateUnit u s).cap = s.cap ∧ (isolateUnit u s).time = s.time ∧ (isolateUnit u s).otd = s.otd ∧ (isolateUnit u s).sez = s.sez ∧ (isolateUnit u s).hq = s.hq ∧ (isolateUnit u s).dma = s.dma ∧ (isolateUnit u s).ctr = s.ctr ∧ (isolateUnit u s).hpt = s.hpt ∧ (isolateUnit u s).fresh = s.fresh ∧ (isolateUnit u s).pending = s.pending := by
  have h := view_isolateUnit (μ := fun p => p == .tables || p == .slices || p == .buf || p == .eng || p == .irq || p == .pwr || p == .badger || p == .out) rfl rfl rfl rfl rfl rfl rfl rfl u s
  simp [view, State.mk.injEq] at h
  simp [h]

@[simp] theorem toIngress_keeps (f : Frame) (s : State) :
    (toIngress f s).build = s.build ∧ (toIngress f s).mb = s.mb ∧ (toIngress f s).boot = s.boot ∧ (toIngress f s).adm = s.adm ∧ (toIngress f s).quad = s.quad ∧ (toIngress f s).bank0 = s.bank0 ∧ (toIngress f s).bank1 = s.bank1 ∧ (toIngress f s).tables = s.tables ∧ (toIngress f s).ports = s.ports ∧ (toIngress f s).buf = s.buf ∧ (toIngress f s).tm = s.tm ∧ (toIngress f s).gate = s.gate ∧ (toIngress f s).flows = s.flows ∧ (toIngress f s).cap = s.cap ∧ (toIngress f s).eng = s.eng ∧ (toIngress f s).time = s.time ∧ (toIngress f s).sez = s.sez ∧ (toIngress f s).hq = s.hq ∧ (toIngress f s).dma = s.dma ∧ (toIngress f s).badger = s.badger ∧ (toIngress f s).hpt = s.hpt ∧ (toIngress f s).fresh = s.fresh ∧ (toIngress f s).pending = s.pending := by
  have h := view_toIngress (μ := fun p => p == .slices || p == .otd || p == .irq || p == .pwr || p == .ctr || p == .out) rfl rfl rfl rfl rfl rfl f s
  simp [view, State.mk.injEq] at h
  simp [h]

@[simp] theorem meterRx_keeps (f : Frame) (flow : Nat) (s : State) :
    (meterRx f flow s).build = s.build ∧ (meterRx f flow s).mb = s.mb ∧ (meterRx f flow s).boot = s.boot ∧ (meterRx f flow s).adm = s.adm ∧ (meterRx f flow s).quad = s.quad ∧ (meterRx f flow s).bank0 = s.bank0 ∧ (meterRx f flow s).bank1 = s.bank1 ∧ (meterRx f flow s).tables = s.tables ∧ (meterRx f flow s).ports = s.ports ∧ (meterRx f flow s).slices = s.slices ∧ (meterRx f flow s).buf = s.buf ∧ (meterRx f flow s).tm = s.tm ∧ (meterRx f flow s).gate = s.gate ∧ (meterRx f flow s).flows = s.flows ∧ (meterRx f flow s).cap = s.cap ∧ (meterRx f flow s).eng = s.eng ∧ (meterRx f flow s).time = s.time ∧ (meterRx f flow s).sez = s.sez ∧ (meterRx f flow s).hq = s.hq ∧ (meterRx f flow s).dma = s.dma ∧ (meterRx f flow s).irq = s.irq ∧ (meterRx f flow s).pwr = s.pwr ∧ (meterRx f flow s).badger = s.badger ∧ (meterRx f flow s).ctr = s.ctr ∧ (meterRx f flow s).hpt = s.hpt ∧ (meterRx f flow s).out = s.out ∧ (meterRx f flow s).fresh = s.fresh ∧ (meterRx f flow s).pending = s.pending := by
  have h := view_meterRx (μ := fun p => p == .otd) rfl f flow s
  simp [view, State.mk.injEq] at h
  simp [h]

@[simp] theorem preDrop_keeps (sl : Nat) (reason : Option Nat) (c : Classified) (s : State) :
    (preDrop sl reason c s).build = s.build ∧ (preDrop sl reason c s).mb = s.mb ∧ (preDrop sl reason c s).boot = s.boot ∧ (preDrop sl reason c s).adm = s.adm ∧ (preDrop sl reason c s).quad = s.quad ∧ (preDrop sl reason c s).bank0 = s.bank0 ∧ (preDrop sl reason c s).bank1 = s.bank1 ∧ (preDrop sl reason c s).tables = s.tables ∧ (preDrop sl reason c s).ports = s.ports ∧ (preDrop sl reason c s).slices = s.slices ∧ (preDrop sl reason c s).buf = s.buf ∧ (preDrop sl reason c s).tm = s.tm ∧ (preDrop sl reason c s).gate = s.gate ∧ (preDrop sl reason c s).flows = s.flows ∧ (preDrop sl reason c s).eng = s.eng ∧ (preDrop sl reason c s).time = s.time ∧ (preDrop sl reason c s).otd = s.otd ∧ (preDrop sl reason c s).sez = s.sez ∧ (preDrop sl reason c s).dma = s.dma ∧ (preDrop sl reason c s).irq = s.irq ∧ (preDrop sl reason c s).pwr = s.pwr ∧ (preDrop sl reason c s).badger = s.badger ∧ (preDrop sl reason c s).hpt = s.hpt ∧ (preDrop sl reason c s).fresh = s.fresh ∧ (preDrop sl reason c s).pending = s.pending := by
  have h := view_preDrop (μ := fun p => p == .cap || p == .hq || p == .ctr || p == .out) rfl rfl rfl rfl sl reason c s
  simp [view, State.mk.injEq] at h
  simp [h]

@[simp] theorem sezCount_keeps (i : Nat) (s : State) :
    (sezCount i s).build = s.build ∧ (sezCount i s).mb = s.mb ∧ (sezCount i s).boot = s.boot ∧ (sezCount i s).adm = s.adm ∧ (sezCount i s).quad = s.quad ∧ (sezCount i s).bank0 = s.bank0 ∧ (sezCount i s).bank1 = s.bank1 ∧ (sezCount i s).tables = s.tables ∧ (sezCount i s).ports = s.ports ∧ (sezCount i s).slices = s.slices ∧ (sezCount i s).buf = s.buf ∧ (sezCount i s).tm = s.tm ∧ (sezCount i s).gate = s.gate ∧ (sezCount i s).flows = s.flows ∧ (sezCount i s).cap = s.cap ∧ (sezCount i s).eng = s.eng ∧ (sezCount i s).time = s.time ∧ (sezCount i s).otd = s.otd ∧ (sezCount i s).sez = s.sez ∧ (sezCount i s).hq = s.hq ∧ (sezCount i s).dma = s.dma ∧ (sezCount i s).irq = s.irq ∧ (sezCount i s).pwr = s.pwr ∧ (sezCount i s).badger = s.badger ∧ (sezCount i s).hpt = s.hpt ∧ (sezCount i s).out = s.out ∧ (sezCount i s).fresh = s.fresh ∧ (sezCount i s).pending = s.pending := by
  have h := view_sezCount (μ := fun p => p == .ctr) rfl i s
  simp [view, State.mk.injEq] at h
  simp [h]

@[simp] theorem updSq_keeps (n : Nat) (f : SubQ → SubQ) (s : State) :
    (updSq n f s).build = s.build ∧ (updSq n f s).mb = s.mb ∧ (updSq n f s).boot = s.boot ∧ (updSq n f s).adm = s.adm ∧ (updSq n f s).quad = s.quad ∧ (updSq n f s).bank0 = s.bank0 ∧ (updSq n f s).bank1 = s.bank1 ∧ (updSq n f s).tables = s.tables ∧ (updSq n f s).ports = s.ports ∧ (updSq n f s).slices = s.slices ∧ (updSq n f s).buf = s.buf ∧ (updSq n f s).tm = s.tm ∧ (updSq n f s).gate = s.gate ∧ (updSq n f s).flows = s.flows ∧ (updSq n f s).cap = s.cap ∧ (updSq n f s).eng = s.eng ∧ (updSq n f s).time = s.time ∧ (updSq n f s).otd = s.otd ∧ (updSq n f s).sez = s.sez ∧ (updSq n f s).dma = s.dma ∧ (updSq n f s).irq = s.irq ∧ (updSq n f s).pwr = s.pwr ∧ (updSq n f s).badger = s.badger ∧ (updSq n f s).ctr = s.ctr ∧ (updSq n f s).hpt = s.hpt ∧ (updSq n f s).out = s.out ∧ (updSq n f s).fresh = s.fresh ∧ (updSq n f s).pending = s.pending := by
  have h := view_updSq (μ := fun p => p == .hq) rfl n f s
  simp [view, State.mk.injEq] at h
  simp [h]

@[simp] theorem setPool_keeps (id : Nat) (x : Pool) (s : State) :
    (setPool id x s).build = s.build ∧ (setPool id x s).mb = s.mb ∧ (setPool id x s).boot = s.boot ∧ (setPool id x s).adm = s.adm ∧ (setPool id x s).quad = s.quad ∧ (setPool id x s).bank0 = s.bank0 ∧ (setPool id x s).bank1 = s.bank1 ∧ (setPool id x s).tables = s.tables ∧ (setPool id x s).ports = s.ports ∧ (setPool id x s).slices = s.slices ∧ (setPool id x s).tm = s.tm ∧ (setPool id x s).gate = s.gate ∧ (setPool id x s).flows = s.flows ∧ (setPool id x s).cap = s.cap ∧ (setPool id x s).eng = s.eng ∧ (setPool id x s).time = s.time ∧ (setPool id x s).otd = s.otd ∧ (setPool id x s).sez = s.sez ∧ (setPool id x s).hq = s.hq ∧ (setPool id x s).dma = s.dma ∧ (setPool id x s).irq = s.irq ∧ (setPool id x s).pwr = s.pwr ∧ (setPool id x s).badger = s.badger ∧ (setPool id x s).ctr = s.ctr ∧ (setPool id x s).hpt = s.hpt ∧ (setPool id x s).out = s.out ∧ (setPool id x s).fresh = s.fresh ∧ (setPool id x s).pending = s.pending := by
  have h := view_setPool (μ := fun p => p == .buf) rfl id x s
  simp [view, State.mk.injEq] at h
  simp [h]

@[simp] theorem countLoss_keeps (c : Copy) (x : Stored) (s : State) :
    (countLoss c x s).build = s.build ∧ (countLoss c x s).mb = s.mb ∧ (countLoss c x s).boot = s.boot ∧ (countLoss c x s).adm = s.adm ∧ (countLoss c x s).quad = s.quad ∧ (countLoss c x s).bank0 = s.bank0 ∧ (countLoss c x s).bank1 = s.bank1 ∧ (countLoss c x s).tables = s.tables ∧ (countLoss c x s).ports = s.ports ∧ (countLoss c x s).slices = s.slices ∧ (countLoss c x s).buf = s.buf ∧ (countLoss c x s).tm = s.tm ∧ (countLoss c x s).gate = s.gate ∧ (countLoss c x s).cap = s.cap ∧ (countLoss c x s).eng = s.eng ∧ (countLoss c x s).time = s.time ∧ (countLoss c x s).otd = s.otd ∧ (countLoss c x s).sez = s.sez ∧ (countLoss c x s).hq = s.hq ∧ (countLoss c x s).dma = s.dma ∧ (countLoss c x s).badger = s.badger ∧ (countLoss c x s).hpt = s.hpt ∧ (countLoss c x s).fresh = s.fresh ∧ (countLoss c x s).pending = s.pending := by
  have h := view_countLoss (μ := fun p => p == .flows || p == .irq || p == .pwr || p == .ctr || p == .out) rfl rfl rfl rfl rfl c x s
  simp [view, State.mk.injEq] at h
  simp [h]

@[simp] theorem updCq_keeps (n : Nat) (f : CompQ → CompQ) (s : State) :
    (updCq n f s).build = s.build ∧ (updCq n f s).mb = s.mb ∧ (updCq n f s).boot = s.boot ∧ (updCq n f s).adm = s.adm ∧ (updCq n f s).quad = s.quad ∧ (updCq n f s).bank0 = s.bank0 ∧ (updCq n f s).bank1 = s.bank1 ∧ (updCq n f s).tables = s.tables ∧ (updCq n f s).ports = s.ports ∧ (updCq n f s).slices = s.slices ∧ (updCq n f s).buf = s.buf ∧ (updCq n f s).tm = s.tm ∧ (updCq n f s).gate = s.gate ∧ (updCq n f s).flows = s.flows ∧ (updCq n f s).cap = s.cap ∧ (updCq n f s).eng = s.eng ∧ (updCq n f s).time = s.time ∧ (updCq n f s).otd = s.otd ∧ (updCq n f s).sez = s.sez ∧ (updCq n f s).dma = s.dma ∧ (updCq n f s).irq = s.irq ∧ (updCq n f s).pwr = s.pwr ∧ (updCq n f s).badger = s.badger ∧ (updCq n f s).ctr = s.ctr ∧ (updCq n f s).hpt = s.hpt ∧ (updCq n f s).out = s.out ∧ (updCq n f s).fresh = s.fresh ∧ (updCq n f s).pending = s.pending := by
  have h := view_updCq (μ := fun p => p == .hq) rfl n f s
  simp [view, State.mk.injEq] at h
  simp [h]

@[simp] theorem setQueueState_keeps (n : Nat) (st : QueueSt) (s : State) :
    (setQueueState n st s).build = s.build ∧ (setQueueState n st s).mb = s.mb ∧ (setQueueState n st s).boot = s.boot ∧ (setQueueState n st s).adm = s.adm ∧ (setQueueState n st s).quad = s.quad ∧ (setQueueState n st s).bank0 = s.bank0 ∧ (setQueueState n st s).bank1 = s.bank1 ∧ (setQueueState n st s).tables = s.tables ∧ (setQueueState n st s).ports = s.ports ∧ (setQueueState n st s).slices = s.slices ∧ (setQueueState n st s).buf = s.buf ∧ (setQueueState n st s).tm = s.tm ∧ (setQueueState n st s).gate = s.gate ∧ (setQueueState n st s).flows = s.flows ∧ (setQueueState n st s).cap = s.cap ∧ (setQueueState n st s).eng = s.eng ∧ (setQueueState n st s).time = s.time ∧ (setQueueState n st s).otd = s.otd ∧ (setQueueState n st s).sez = s.sez ∧ (setQueueState n st s).dma = s.dma ∧ (setQueueState n st s).irq = s.irq ∧ (setQueueState n st s).pwr = s.pwr ∧ (setQueueState n st s).badger = s.badger ∧ (setQueueState n st s).ctr = s.ctr ∧ (setQueueState n st s).hpt = s.hpt ∧ (setQueueState n st s).fresh = s.fresh ∧ (setQueueState n st s).pending = s.pending := by
  have h := view_setQueueState (μ := fun p => p == .hq || p == .out) rfl rfl n st s
  simp [view, State.mk.injEq] at h
  simp [h]

@[simp] theorem finish_keeps (n num status detail : Nat) (s : State) :
    (finish n num status detail s).build = s.build ∧ (finish n num status detail s).mb = s.mb ∧ (finish n num status detail s).boot = s.boot ∧ (finish n num status detail s).adm = s.adm ∧ (finish n num status detail s).quad = s.quad ∧ (finish n num status detail s).bank0 = s.bank0 ∧ (finish n num status detail s).bank1 = s.bank1 ∧ (finish n num status detail s).tables = s.tables ∧ (finish n num status detail s).ports = s.ports ∧ (finish n num status detail s).slices = s.slices ∧ (finish n num status detail s).buf = s.buf ∧ (finish n num status detail s).tm = s.tm ∧ (finish n num status detail s).gate = s.gate ∧ (finish n num status detail s).flows = s.flows ∧ (finish n num status detail s).cap = s.cap ∧ (finish n num status detail s).eng = s.eng ∧ (finish n num status detail s).time = s.time ∧ (finish n num status detail s).otd = s.otd ∧ (finish n num status detail s).sez = s.sez ∧ (finish n num status detail s).dma = s.dma ∧ (finish n num status detail s).irq = s.irq ∧ (finish n num status detail s).pwr = s.pwr ∧ (finish n num status detail s).badger = s.badger ∧ (finish n num status detail s).ctr = s.ctr ∧ (finish n num status detail s).hpt = s.hpt ∧ (finish n num status detail s).out = s.out ∧ (finish n num status detail s).fresh = s.fresh ∧ (finish n num status detail s).pending = s.pending := by
  have h := view_finish (μ := fun p => p == .hq) rfl n num status detail s
  simp [view, State.mk.injEq] at h
  simp [h]

@[simp] theorem runPoolOp_keeps (n sub' : Nat) (same : Bool) (f : Work → Option PoolBuf → Nat ⊕ Option PoolBuf) (s0 : State) :
    (runPoolOp n sub' same f s0).build = s0.build ∧ (runPoolOp n sub' same f s0).mb = s0.mb ∧ (runPoolOp n sub' same f s0).boot = s0.boot ∧ (runPoolOp n sub' same f s0).adm = s0.adm ∧ (runPoolOp n sub' same f s0).quad = s0.quad ∧ (runPoolOp n sub' same f s0).bank0 = s0.bank0 ∧ (runPoolOp n sub' same f s0).bank1 = s0.bank1 ∧ (runPoolOp n sub' same f s0).tables = s0.tables ∧ (runPoolOp n sub' same f s0).ports = s0.ports ∧ (runPoolOp n sub' same f s0).slices = s0.slices ∧ (runPoolOp n sub' same f s0).tm = s0.tm ∧ (runPoolOp n sub' same f s0).gate = s0.gate ∧ (runPoolOp n sub' same f s0).flows = s0.flows ∧ (runPoolOp n sub' same f s0).cap = s0.cap ∧ (runPoolOp n sub' same f s0).eng = s0.eng ∧ (runPoolOp n sub' same f s0).time = s0.time ∧ (runPoolOp n sub' same f s0).otd = s0.otd ∧ (runPoolOp n sub' same f s0).sez = s0.sez ∧ (runPoolOp n sub' same f s0).dma = s0.dma ∧ (runPoolOp n sub' same f s0).irq = s0.irq ∧ (runPoolOp n sub' same f s0).pwr = s0.pwr ∧ (runPoolOp n sub' same f s0).badger = s0.badger ∧ (runPoolOp n sub' same f s0).hpt = s0.hpt ∧ (runPoolOp n sub' same f s0).out = s0.out ∧ (runPoolOp n sub' same f s0).fresh = s0.fresh ∧ (runPoolOp n sub' same f s0).pending = s0.pending := by
  have h := view_runPoolOp (μ := fun p => p == .buf || p == .hq || p == .ctr) rfl rfl rfl n sub' same f s0
  simp [view, State.mk.injEq] at h
  simp [h]

@[simp] theorem otdCount_keeps (i n : Nat) (s : State) :
    (otdCount i n s).build = s.build ∧ (otdCount i n s).mb = s.mb ∧ (otdCount i n s).boot = s.boot ∧ (otdCount i n s).adm = s.adm ∧ (otdCount i n s).quad = s.quad ∧ (otdCount i n s).bank0 = s.bank0 ∧ (otdCount i n s).bank1 = s.bank1 ∧ (otdCount i n s).tables = s.tables ∧ (otdCount i n s).ports = s.ports ∧ (otdCount i n s).slices = s.slices ∧ (otdCount i n s).buf = s.buf ∧ (otdCount i n s).tm = s.tm ∧ (otdCount i n s).gate = s.gate ∧ (otdCount i n s).flows = s.flows ∧ (otdCount i n s).cap = s.cap ∧ (otdCount i n s).eng = s.eng ∧ (otdCount i n s).time = s.time ∧ (otdCount i n s).sez = s.sez ∧ (otdCount i n s).hq = s.hq ∧ (otdCount i n s).dma = s.dma ∧ (otdCount i n s).irq = s.irq ∧ (otdCount i n s).pwr = s.pwr ∧ (otdCount i n s).badger = s.badger ∧ (otdCount i n s).hpt = s.hpt ∧ (otdCount i n s).out = s.out ∧ (otdCount i n s).fresh = s.fresh ∧ (otdCount i n s).pending = s.pending := by
  have h := view_otdCount (μ := fun p => p == .otd || p == .ctr) rfl rfl i n s
  simp [view, State.mk.injEq] at h
  simp [h]

@[simp] theorem otdLog_keeps (code source detail : Nat) (s : State) :
    (otdLog code source detail s).build = s.build ∧ (otdLog code source detail s).mb = s.mb ∧ (otdLog code source detail s).boot = s.boot ∧ (otdLog code source detail s).adm = s.adm ∧ (otdLog code source detail s).quad = s.quad ∧ (otdLog code source detail s).bank0 = s.bank0 ∧ (otdLog code source detail s).bank1 = s.bank1 ∧ (otdLog code source detail s).tables = s.tables ∧ (otdLog code source detail s).ports = s.ports ∧ (otdLog code source detail s).slices = s.slices ∧ (otdLog code source detail s).buf = s.buf ∧ (otdLog code source detail s).tm = s.tm ∧ (otdLog code source detail s).gate = s.gate ∧ (otdLog code source detail s).flows = s.flows ∧ (otdLog code source detail s).cap = s.cap ∧ (otdLog code source detail s).eng = s.eng ∧ (otdLog code source detail s).time = s.time ∧ (otdLog code source detail s).sez = s.sez ∧ (otdLog code source detail s).hq = s.hq ∧ (otdLog code source detail s).dma = s.dma ∧ (otdLog code source detail s).badger = s.badger ∧ (otdLog code source detail s).ctr = s.ctr ∧ (otdLog code source detail s).hpt = s.hpt ∧ (otdLog code source detail s).fresh = s.fresh ∧ (otdLog code source detail s).pending = s.pending := by
  have h := view_otdLog (μ := fun p => p == .otd || p == .irq || p == .pwr || p == .out) rfl rfl rfl rfl code source detail s
  simp [view, State.mk.injEq] at h
  simp [h]

@[simp] theorem abortSet_keeps (id : Nat) (s : State) :
    (abortSet id s).build = s.build ∧ (abortSet id s).mb = s.mb ∧ (abortSet id s).boot = s.boot ∧ (abortSet id s).adm = s.adm ∧ (abortSet id s).ports = s.ports ∧ (abortSet id s).slices = s.slices ∧ (abortSet id s).buf = s.buf ∧ (abortSet id s).tm = s.tm ∧ (abortSet id s).gate = s.gate ∧ (abortSet id s).flows = s.flows ∧ (abortSet id s).cap = s.cap ∧ (abortSet id s).eng = s.eng ∧ (abortSet id s).time = s.time ∧ (abortSet id s).otd = s.otd ∧ (abortSet id s).sez = s.sez ∧ (abortSet id s).hq = s.hq ∧ (abortSet id s).dma = s.dma ∧ (abortSet id s).badger = s.badger ∧ (abortSet id s).ctr = s.ctr ∧ (abortSet id s).hpt = s.hpt ∧ (abortSet id s).fresh = s.fresh ∧ (abortSet id s).pending = s.pending := by
  have h := view_abortSet (μ := fun p => p == .quad || p == .bank0 || p == .bank1 || p == .tables || p == .irq || p == .pwr || p == .out) rfl rfl rfl rfl rfl rfl rfl id s
  simp [view, State.mk.injEq] at h
  simp [h]

@[simp] theorem takeApply_keeps (id mode applyTime : Nat) (owed : Option Env) (s : State) :
    (takeApply id mode applyTime owed s).build = s.build ∧ (takeApply id mode applyTime owed s).mb = s.mb ∧ (takeApply id mode applyTime owed s).boot = s.boot ∧ (takeApply id mode applyTime owed s).adm = s.adm ∧ (takeApply id mode applyTime owed s).bank0 = s.bank0 ∧ (takeApply id mode applyTime owed s).bank1 = s.bank1 ∧ (takeApply id mode applyTime owed s).tables = s.tables ∧ (takeApply id mode applyTime owed s).ports = s.ports ∧ (takeApply id mode applyTime owed s).slices = s.slices ∧ (takeApply id mode applyTime owed s).buf = s.buf ∧ (takeApply id mode applyTime owed s).tm = s.tm ∧ (takeApply id mode applyTime owed s).gate = s.gate ∧ (takeApply id mode applyTime owed s).flows = s.flows ∧ (takeApply id mode applyTime owed s).cap = s.cap ∧ (takeApply id mode applyTime owed s).eng = s.eng ∧ (takeApply id mode applyTime owed s).time = s.time ∧ (takeApply id mode applyTime owed s).otd = s.otd ∧ (takeApply id mode applyTime owed s).sez = s.sez ∧ (takeApply id mode applyTime owed s).hq = s.hq ∧ (takeApply id mode applyTime owed s).dma = s.dma ∧ (takeApply id mode applyTime owed s).irq = s.irq ∧ (takeApply id mode applyTime owed s).pwr = s.pwr ∧ (takeApply id mode applyTime owed s).badger = s.badger ∧ (takeApply id mode applyTime owed s).ctr = s.ctr ∧ (takeApply id mode applyTime owed s).hpt = s.hpt ∧ (takeApply id mode applyTime owed s).out = s.out ∧ (takeApply id mode applyTime owed s).fresh = s.fresh ∧ (takeApply id mode applyTime owed s).pending = s.pending := by
  have h := view_takeApply (μ := fun p => p == .quad) rfl id mode applyTime owed s
  simp [view, State.mk.injEq] at h
  simp [h]

@[simp] theorem updTarget_keeps (n : Nat) (f : Target → Target) (s : State) :
    (updTarget n f s).build = s.build ∧ (updTarget n f s).mb = s.mb ∧ (updTarget n f s).boot = s.boot ∧ (updTarget n f s).adm = s.adm ∧ (updTarget n f s).quad = s.quad ∧ (updTarget n f s).bank0 = s.bank0 ∧ (updTarget n f s).bank1 = s.bank1 ∧ (updTarget n f s).tables = s.tables ∧ (updTarget n f s).ports = s.ports ∧ (updTarget n f s).slices = s.slices ∧ (updTarget n f s).buf = s.buf ∧ (updTarget n f s).tm = s.tm ∧ (updTarget n f s).gate = s.gate ∧ (updTarget n f s).flows = s.flows ∧ (updTarget n f s).cap = s.cap ∧ (updTarget n f s).eng = s.eng ∧ (updTarget n f s).time = s.time ∧ (updTarget n f s).otd = s.otd ∧ (updTarget n f s).sez = s.sez ∧ (updTarget n f s).hq = s.hq ∧ (updTarget n f s).dma = s.dma ∧ (updTarget n f s).pwr = s.pwr ∧ (updTarget n f s).badger = s.badger ∧ (updTarget n f s).ctr = s.ctr ∧ (updTarget n f s).hpt = s.hpt ∧ (updTarget n f s).out = s.out ∧ (updTarget n f s).fresh = s.fresh ∧ (updTarget n f s).pending = s.pending := by
  have h := view_updTarget (μ := fun p => p == .irq) rfl n f s
  simp [view, State.mk.injEq] at h
  simp [h]

@[simp] theorem privWrite_keeps (n : Nat) (f : Target → Target) (s : State) :
    (privWrite n f s).build = s.build ∧ (privWrite n f s).mb = s.mb ∧ (privWrite n f s).boot = s.boot ∧ (privWrite n f s).adm = s.adm ∧ (privWrite n f s).quad = s.quad ∧ (privWrite n f s).bank0 = s.bank0 ∧ (privWrite n f s).bank1 = s.bank1 ∧ (privWrite n f s).tables = s.tables ∧ (privWrite n f s).ports = s.ports ∧ (privWrite n f s).slices = s.slices ∧ (privWrite n f s).buf = s.buf ∧ (privWrite n f s).tm = s.tm ∧ (privWrite n f s).gate = s.gate ∧ (privWrite n f s).flows = s.flows ∧ (privWrite n f s).cap = s.cap ∧ (privWrite n f s).eng = s.eng ∧ (privWrite n f s).time = s.time ∧ (privWrite n f s).otd = s.otd ∧ (privWrite n f s).sez = s.sez ∧ (privWrite n f s).hq = s.hq ∧ (privWrite n f s).dma = s.dma ∧ (privWrite n f s).pwr = s.pwr ∧ (privWrite n f s).badger = s.badger ∧ (privWrite n f s).ctr = s.ctr ∧ (privWrite n f s).fresh = s.fresh ∧ (privWrite n f s).pending = s.pending := by
  have h := view_privWrite (μ := fun p => p == .irq || p == .hpt || p == .out) rfl rfl rfl n f s
  simp [view, State.mk.injEq] at h
  simp [h]

@[simp] theorem oPump_keeps (s : State) :
    (oPump s).build = s.build ∧ (oPump s).mb = s.mb ∧ (oPump s).boot = s.boot ∧ (oPump s).adm = s.adm ∧ (oPump s).quad = s.quad ∧ (oPump s).bank0 = s.bank0 ∧ (oPump s).bank1 = s.bank1 ∧ (oPump s).tables = s.tables ∧ (oPump s).ports = s.ports ∧ (oPump s).slices = s.slices ∧ (oPump s).buf = s.buf ∧ (oPump s).tm = s.tm ∧ (oPump s).gate = s.gate ∧ (oPump s).flows = s.flows ∧ (oPump s).cap = s.cap ∧ (oPump s).eng = s.eng ∧ (oPump s).time = s.time ∧ (oPump s).sez = s.sez ∧ (oPump s).hq = s.hq ∧ (oPump s).dma = s.dma ∧ (oPump s).irq = s.irq ∧ (oPump s).badger = s.badger ∧ (oPump s).ctr = s.ctr ∧ (oPump s).hpt = s.hpt ∧ (oPump s).fresh = s.fresh ∧ (oPump s).pending = s.pending := by
  have h := view_oPump (μ := fun p => p == .otd || p == .pwr || p == .out) rfl rfl rfl s
  simp [view, State.mk.injEq] at h
  simp [h]

@[simp] theorem owlLog_keeps (code d detail : Nat) (s : State) :
    (owlLog code d detail s).build = s.build ∧ (owlLog code d detail s).mb = s.mb ∧ (owlLog code d detail s).boot = s.boot ∧ (owlLog code d detail s).adm = s.adm ∧ (owlLog code d detail s).quad = s.quad ∧ (owlLog code d detail s).bank0 = s.bank0 ∧ (owlLog code d detail s).bank1 = s.bank1 ∧ (owlLog code d detail s).tables = s.tables ∧ (owlLog code d detail s).ports = s.ports ∧ (owlLog code d detail s).slices = s.slices ∧ (owlLog code d detail s).buf = s.buf ∧ (owlLog code d detail s).tm = s.tm ∧ (owlLog code d detail s).gate = s.gate ∧ (owlLog code d detail s).flows = s.flows ∧ (owlLog code d detail s).cap = s.cap ∧ (owlLog code d detail s).eng = s.eng ∧ (owlLog code d detail s).time = s.time ∧ (owlLog code d detail s).otd = s.otd ∧ (owlLog code d detail s).sez = s.sez ∧ (owlLog code d detail s).hq = s.hq ∧ (owlLog code d detail s).dma = s.dma ∧ (owlLog code d detail s).irq = s.irq ∧ (owlLog code d detail s).badger = s.badger ∧ (owlLog code d detail s).ctr = s.ctr ∧ (owlLog code d detail s).hpt = s.hpt ∧ (owlLog code d detail s).out = s.out ∧ (owlLog code d detail s).fresh = s.fresh ∧ (owlLog code d detail s).pending = s.pending := by
  have h := view_owlLog (μ := fun p => p == .pwr) rfl code d detail s
  simp [view, State.mk.injEq] at h
  simp [h]

@[simp] theorem releaseLatches_keeps (s : State) :
    (releaseLatches s).build = s.build ∧ (releaseLatches s).mb = s.mb ∧ (releaseLatches s).boot = s.boot ∧ (releaseLatches s).adm = s.adm ∧ (releaseLatches s).quad = s.quad ∧ (releaseLatches s).bank0 = s.bank0 ∧ (releaseLatches s).bank1 = s.bank1 ∧ (releaseLatches s).tables = s.tables ∧ (releaseLatches s).ports = s.ports ∧ (releaseLatches s).slices = s.slices ∧ (releaseLatches s).buf = s.buf ∧ (releaseLatches s).tm = s.tm ∧ (releaseLatches s).gate = s.gate ∧ (releaseLatches s).flows = s.flows ∧ (releaseLatches s).cap = s.cap ∧ (releaseLatches s).eng = s.eng ∧ (releaseLatches s).time = s.time ∧ (releaseLatches s).otd = s.otd ∧ (releaseLatches s).sez = s.sez ∧ (releaseLatches s).hq = s.hq ∧ (releaseLatches s).dma = s.dma ∧ (releaseLatches s).pwr = s.pwr ∧ (releaseLatches s).badger = s.badger ∧ (releaseLatches s).ctr = s.ctr ∧ (releaseLatches s).hpt = s.hpt ∧ (releaseLatches s).fresh = s.fresh ∧ (releaseLatches s).pending = s.pending := by
  have h := view_releaseLatches (μ := fun p => p == .irq || p == .out) rfl rfl s
  simp [view, State.mk.injEq] at h
  simp [h]

@[simp] theorem wakeFails_keeps (d cause : Nat) (s : State) :
    (wakeFails d cause s).build = s.build ∧ (wakeFails d cause s).mb = s.mb ∧ (wakeFails d cause s).boot = s.boot ∧ (wakeFails d cause s).adm = s.adm ∧ (wakeFails d cause s).quad = s.quad ∧ (wakeFails d cause s).bank0 = s.bank0 ∧ (wakeFails d cause s).bank1 = s.bank1 ∧ (wakeFails d cause s).tables = s.tables ∧ (wakeFails d cause s).ports = s.ports ∧ (wakeFails d cause s).buf = s.buf ∧ (wakeFails d cause s).tm = s.tm ∧ (wakeFails d cause s).gate = s.gate ∧ (wakeFails d cause s).flows = s.flows ∧ (wakeFails d cause s).cap = s.cap ∧ (wakeFails d cause s).eng = s.eng ∧ (wakeFails d cause s).time = s.time ∧ (wakeFails d cause s).otd = s.otd ∧ (wakeFails d cause s).sez = s.sez ∧ (wakeFails d cause s).hq = s.hq ∧ (wakeFails d cause s).dma = s.dma ∧ (wakeFails d cause s).badger = s.badger ∧ (wakeFails d cause s).ctr = s.ctr ∧ (wakeFails d cause s).hpt = s.hpt ∧ (wakeFails d cause s).fresh = s.fresh ∧ (wakeFails d cause s).pending = s.pending := by
  have h := view_wakeFails (μ := fun p => p == .slices || p == .irq || p == .pwr || p == .out) rfl rfl rfl rfl d cause s
  simp [view, State.mk.injEq] at h
  simp [h]

end Sys2Proof.Machine
end

