-- ==== Sys2Proof/Laws/Memory.lean ====
section
/-! SUPPORT. A command page: reading after a write, and the canonical form that every write keeps (R83, R400). -/

namespace Sys2Proof.Machine

/-- A page that is canonical from a bound reads 0 below it. -/
theorem Memory.read_below {m : List Host.Cell} {lo a : Nat} (h : Memory.wfFrom lo m = true) (ha : a < lo) : Memory.read m a = 0 := by
  induction m generalizing lo with
  | nil => rfl
  | cons c m ih =>
    simp only [Memory.wfFrom, Bool.and_eq_true, decide_eq_true_eq] at h
    have hc : c.1 ≠ a := by omega
    simp only [Memory.read, hc, if_false]
    exact ih h.2 (by omega)

/-- The canonical form from a bound holds from every lower one. -/
theorem Memory.wfFrom_mono {m : List Host.Cell} {lo lo' : Nat} (h : Memory.wfFrom lo m = true) (hl : lo' ≤ lo) : Memory.wfFrom lo' m = true := by
  cases m with
  | nil => rfl
  | cons c m =>
    simp only [Memory.wfFrom, Bool.and_eq_true, decide_eq_true_eq] at h ⊢
    exact ⟨⟨by omega, h.1.2⟩, h.2⟩

/-- A write keeps the canonical form from a bound. -/
theorem Memory.wfFrom_write {m : List Host.Cell} {lo a : Nat} (b : Byte) (h : Memory.wfFrom lo m = true) (ha : lo ≤ a) :
    Memory.wfFrom lo (Memory.write a b m) = true := by
  induction m generalizing lo with
  | nil =>
    by_cases hb : b = 0
    · simp [Memory.write, hb, Memory.wfFrom]
    · rw [Memory.write, if_neg hb]
      simp only [Memory.wfFrom, Bool.and_eq_true, decide_eq_true_eq]
      exact ⟨⟨ha, hb⟩, trivial⟩
  | cons c m ih =>
    simp only [Memory.wfFrom, Bool.and_eq_true, decide_eq_true_eq] at h
    obtain ⟨⟨hc, hz⟩, hm⟩ := h
    simp only [Memory.write]
    split
    · split
      · simp only [Memory.wfFrom, Bool.and_eq_true, decide_eq_true_eq]
        exact ⟨⟨hc, hz⟩, hm⟩
      · rename_i hlt hb
        simp only [Memory.wfFrom, Bool.and_eq_true, decide_eq_true_eq]
        exact ⟨⟨ha, hb⟩, ⟨by omega, hz⟩, hm⟩
    · split
      · rename_i hlt heq
        split
        · exact Memory.wfFrom_mono hm (by omega)
        · rename_i hb
          simp only [Memory.wfFrom, Bool.and_eq_true, decide_eq_true_eq]
          exact ⟨⟨ha, hb⟩, by rw [heq]; exact hm⟩
      · simp only [Memory.wfFrom, Bool.and_eq_true, decide_eq_true_eq]
        exact ⟨⟨hc, hz⟩, ih hm (by omega)⟩

/-- A write keeps the canonical form. -/
theorem Memory.wf_write {m : List Host.Cell} (a : Nat) (b : Byte) (h : Memory.wf m = true) : Memory.wf (Memory.write a b m) = true :=
  Memory.wfFrom_write b h (Nat.zero_le a)

/-- A write leaves every other byte. -/
theorem Memory.read_write_other {a a' : Nat} (b : Byte) (m : List Host.Cell) (h : a' ≠ a) : Memory.read (Memory.write a b m) a' = Memory.read m a' := by
  induction m with
  | nil =>
    by_cases hb : b = 0
    · simp [Memory.write, hb]
    · rw [Memory.write, if_neg hb]; simp [Memory.read, Ne.symm h]
  | cons c m ih =>
    simp only [Memory.write]
    split
    · split
      · rfl
      · simp [Memory.read, Ne.symm h]
    · split
      · rename_i hac
        have hne : c.1 ≠ a' := by omega
        split
        · simp [Memory.read, hne]
        · simp [Memory.read, Ne.symm h, hne]
      · simp only [Memory.read, ih]

/-- A write is read back. -/
theorem Memory.read_write_same {m : List Host.Cell} {lo a : Nat} (b : Byte) (h : Memory.wfFrom lo m = true) : Memory.read (Memory.write a b m) a = b := by
  induction m generalizing lo with
  | nil =>
    by_cases hb : b = 0
    · simp [Memory.write, hb, Memory.read]
    · rw [Memory.write, if_neg hb]; simp [Memory.read]
  | cons c m ih =>
    simp only [Memory.wfFrom, Bool.and_eq_true, decide_eq_true_eq] at h
    obtain ⟨⟨hc, hz⟩, hm⟩ := h
    simp only [Memory.write]
    split
    · split
      · rename_i hlt hb
        rw [hb]
        exact Memory.read_below (lo := c.1) (by simp only [Memory.wfFrom, Bool.and_eq_true, decide_eq_true_eq]; exact ⟨⟨Nat.le_refl _, hz⟩, hm⟩) hlt
      · simp [Memory.read]
    · split
      · rename_i hac
        split
        · rename_i hb
          rw [hb]
          exact Memory.read_below hm (by omega)
        · simp [Memory.read]
      · rename_i hac
        have hne : c.1 ≠ a := fun hh => hac hh.symm
        simp only [Memory.read, hne, if_false]
        exact ih hm

/-- A write of bytes into a page keeps the canonical form. -/
theorem pageWrite_wf {m : List Host.Cell} (off : Nat) (l : List Byte) (h : Memory.wf m = true) : Memory.wf (pageWrite off l m) = true := by
  induction l generalizing off m with
  | nil => exact h
  | cons b l ih =>
    simp only [pageWrite]
    split
    · exact ih (off + 1) (Memory.wf_write off b h)
    · exact ih (off + 1) h

/-- A write of bytes into a page leaves what lies outside them, and what lies outside the page. -/
theorem pageWrite_read_other {a : Nat} (off : Nat) (l : List Byte) (m : List Host.Cell) (h : a < off ∨ off + l.length ≤ a ∨ 256 ≤ a) :
    Memory.read (pageWrite off l m) a = Memory.read m a := by
  induction l generalizing off m with
  | nil => rfl
  | cons b l ih =>
    simp only [List.length_cons] at h
    simp only [pageWrite]
    rw [ih (off + 1) _ (by omega)]
    split
    · exact Memory.read_write_other b m (by omega)
    · rfl

/-- A write of bytes into a page is read back within the page. -/
theorem pageWrite_read {m : List Host.Cell} {k : Nat} (off : Nat) (l : List Byte) (h : Memory.wf m = true) (hk : k < l.length) (hp : off + k < 256) :
    Memory.read (pageWrite off l m) (off + k) = l.getD k 0 := by
  induction l generalizing off m k with
  | nil => simp at hk
  | cons b l ih =>
    simp only [pageWrite]
    cases k with
    | zero =>
      rw [pageWrite_read_other (off + 1) l _ (by omega)]
      have ho : off < 256 := by omega
      simp only [ho, if_true, Nat.add_zero]
      exact Memory.read_write_same b h
    | succ k =>
      have hk' : k < l.length := by simpa using hk
      rw [show off + (k + 1) = off + 1 + k by omega, ih (off + 1) (by split; exacts [Memory.wf_write off b h, h]) hk' (by omega)]
      rfl

end Sys2Proof.Machine
end

