-- ==== Sys2Proof/Laws/Replay.lean ====
section
/-! SUPPORT. JOURNAL_REPLAY runs the meanings of journalled commands: it leaves the core of the state alone, as each of them does. -/

namespace Sys2Proof.Machine

/-- A meaning of a command leaves the core of the state alone. -/
def KeepsCore (f : Env → State → Host.Outcome State Fault Refusal) : Prop := ∀ e s t, f e s = .next t → coreOf t = coreOf s

/-- Every meaning of the class keeps the core. -/
theorem core_meansSys : ∀ m ∈ meansSys, KeepsCore m.2 := by
  simp only [meansSys, List.forall_mem_cons]
  refine ⟨
    fun e s _ h => core_execSysInfo e s h,
    fun e s _ h => core_execSysAdminqSet e s h,
    ?_,
    fun e s _ h => core_execSysEventCfg e s h,
    fun e s _ h => core_execSysJournalStatus e s h,
    fun e s _ h => core_execSysNop e s h,
    fun e s _ h => core_execSysPatchLoad e s h,
    fun _ hx => nomatch hx⟩
  all_goals
    intro e s t h
    simp only [apply_ite (f := fun o => o = Host.Outcome.next t)] at h
    repeat' split at h
    all_goals first | exact core_execSysResetWarm e s h | exact core_execSysResetCold e s h | exact core_execSysResetSlice e s h | exact core_execSysResetCtl e s h

/-- Every meaning of the class keeps the core. -/
theorem core_meansQuad : ∀ m ∈ meansQuad, KeepsCore m.2 := by
  simp only [meansQuad, List.forall_mem_cons]
  refine ⟨
    fun e s _ h => core_execQuadOpen e s h,
    fun e s _ h => core_execQuadCheck e s h,
    ?_,
    fun e s _ h => core_execQuadAbort e s h,
    fun e s _ h => core_execQuadStatus e s h,
    fun _ hx => nomatch hx⟩
  all_goals
    intro e s t h
    simp only [apply_ite (f := fun o => o = Host.Outcome.next t)] at h
    repeat' split at h
    all_goals first | exact core_execQuadApplyNow e s h | exact core_execQuadApplyAtTime e s h | exact core_execQuadApplyAtDomain e s h

/-- Every meaning of the class keeps the core. -/
theorem core_meansPort : ∀ m ∈ meansPort, KeepsCore m.2 := by
  simp only [meansPort, List.forall_mem_cons]
  refine ⟨
    fun e s _ h => core_execPortCfg e s h,
    ?_,
    fun e s _ h => core_execPortStatus e s h,
    fun e s _ h => core_execPortCounters e s h,
    fun e s _ h => core_execPortFc e s h,
    fun e s _ h => core_execPortPreempt e s h,
    fun e s _ h => core_execPortEee e s h,
    fun e s _ h => core_execPortWakeFilter e s h,
    fun e s _ h => core_execPortLinkHold e s h,
    fun _ hx => nomatch hx⟩
  all_goals
    intro e s t h
    simp only [apply_ite (f := fun o => o = Host.Outcome.next t)] at h
    repeat' split at h
    all_goals first | exact core_execPortAdminDown e s h | exact core_execPortAdminUp e s h

/-- Every meaning of the class keeps the core. -/
theorem core_meansParse : ∀ m ∈ meansParse, KeepsCore m.2 := by
  simp only [meansParse, List.forall_mem_cons]
  refine ⟨
    fun e s _ h => core_execParseNodeSet e s h,
    fun e s _ h => core_execParseNodeGet e s h,
    fun e s _ h => core_execParseGraphDefault e s h,
    fun e s _ h => core_execParseCounters e s h,
    fun _ hx => nomatch hx⟩

/-- Every meaning of the class keeps the core. -/
theorem core_meansTable : ∀ m ∈ meansTable, KeepsCore m.2 := by
  simp only [meansTable, List.forall_mem_cons]
  refine ⟨
    fun e s _ h => core_execTableCreate e s h,
    fun e s _ h => core_execTableDelete e s h,
    fun e s _ h => core_execEntryWrite e s h,
    fun e s _ h => core_execEntryDelete e s h,
    fun e s _ h => core_execEntryRead e s h,
    fun e s _ h => core_execKeyProfileSet e s h,
    fun e s _ h => core_execTableDump e s h,
    fun _ hx => nomatch hx⟩

/-- Every meaning of the class keeps the core. -/
theorem core_meansEz : ∀ m ∈ meansEz, KeepsCore m.2 := by
  simp only [meansEz, List.forall_mem_cons]
  refine ⟨
    ?_,
    ?_,
    fun e s _ h => core_execEngineStatus e s h,
    fun e s _ h => core_execEngineReset e s h,
    fun e s _ h => core_execConstSet e s h,
    fun e s _ h => core_execScratchRead e s h,
    fun _ hx => nomatch hx⟩
  all_goals
    intro e s t h
    simp only [apply_ite (f := fun o => o = Host.Outcome.next t)] at h
    repeat' split at h
    all_goals first | exact core_execProgLoad e s h | exact core_execProgUnload e s h | exact core_execProgBindMap e s h | exact core_execProgBindDefault e s h

/-- Every meaning of the class keeps the core. -/
theorem core_meansBuf : ∀ m ∈ meansBuf, KeepsCore m.2 := by
  simp only [meansBuf, List.forall_mem_cons]
  refine ⟨
    fun e s _ h => core_execPoolCreate e s h,
    fun e s _ h => core_execPoolDelete e s h,
    fun e s _ h => core_execFlowMinSet e s h,
    fun e s _ h => core_execSharedLimitSet e s h,
    fun e s _ h => core_execBufStatus e s h,
    fun e s _ h => core_execCutThroughSet e s h,
    fun _ hx => nomatch hx⟩

/-- Every meaning of the class keeps the core. -/
theorem core_meansFwd : ∀ m ∈ meansFwd, KeepsCore m.2 := by
  simp only [meansFwd, List.forall_mem_cons]
  refine ⟨
    ?_,
    fun e s _ h => core_execMacAdd e s h,
    fun e s _ h => core_execMacDelete e s h,
    fun e s _ h => core_execMacFlush e s h,
    ?_,
    fun e s _ h => core_execMcastGroupSet e s h,
    fun e s _ h => core_execLagSet e s h,
    fun e s _ h => core_execMacDump e s h,
    fun _ hx => nomatch hx⟩
  all_goals
    intro e s t h
    simp only [apply_ite (f := fun o => o = Host.Outcome.next t)] at h
    repeat' split at h
    all_goals first | exact core_execVlanSetVlan e s h | exact core_execVlanSetPort e s h | exact core_execLearnCfgGlobal e s h | exact core_execLearnCfgPort e s h

/-- Every meaning of the class keeps the core. -/
theorem core_meansTm : ∀ m ∈ meansTm, KeepsCore m.2 := by
  simp only [meansTm, List.forall_mem_cons]
  refine ⟨
    fun e s _ h => core_execQueueMapSet e s h,
    fun e s _ h => core_execSchedSet e s h,
    fun e s _ h => core_execShaperSet e s h,
    fun e s _ h => core_execPolicerSet e s h,
    fun e s _ h => core_execStreamFilterSet e s h,
    fun e s _ h => core_execSampleCfg e s h,
    fun e s _ h => core_execTmStatus e s h,
    fun _ hx => nomatch hx⟩

/-- Every meaning of the class keeps the core. -/
theorem core_meansGate : ∀ m ∈ meansGate, KeepsCore m.2 := by
  simp only [meansGate, List.forall_mem_cons]
  refine ⟨
    fun e s _ h => core_execGateListSet e s h,
    ?_,
    fun e s _ h => core_execGateStatus e s h,
    fun e s _ h => core_execGateOverheadSet e s h,
    fun _ hx => nomatch hx⟩
  all_goals
    intro e s t h
    simp only [apply_ite (f := fun o => o = Host.Outcome.next t)] at h
    repeat' split at h
    all_goals first | exact core_execGateEnableOff e s h | exact core_execGateEnableOn e s h

/-- Every meaning of the class keeps the core. -/
theorem core_meansFlow : ∀ m ∈ meansFlow, KeepsCore m.2 := by
  simp only [meansFlow, List.forall_mem_cons]
  refine ⟨
    fun e s _ h => core_execFlowAdd e s h,
    fun e s _ h => core_execFlowModify e s h,
    fun e s _ h => core_execFlowDelete e s h,
    fun e s _ h => core_execFlowRead e s h,
    fun e s _ h => core_execFlowCounters e s h,
    fun e s _ h => core_execPrpHsrSet e s h,
    fun _ hx => nomatch hx⟩

/-- Every meaning of the class keeps the core. -/
theorem core_meansTime : ∀ m ∈ meansTime, KeepsCore m.2 := by
  simp only [meansTime, List.forall_mem_cons]
  refine ⟨
    fun e s _ h => core_execStampPortCfg e s h,
    fun e s _ h => core_execCalRecordSet e s h,
    fun e s _ h => core_execCalRun e s h,
    fun e s _ h => core_execPtpPortCfg e s h,
    fun e s _ h => core_execTimerSet e s h,
    fun e s _ h => core_execPpsCfg e s h,
    fun e s _ h => core_execSyntCfg e s h,
    fun _ hx => nomatch hx⟩

/-- Every meaning of the class keeps the core. -/
theorem core_meansSezal : ∀ m ∈ meansSezal, KeepsCore m.2 := by
  simp only [meansSezal, List.forall_mem_cons]
  refine ⟨
    fun e s _ h => core_execSezalCfg e s h,
    fun e s _ h => core_execDomainPortSet e s h,
    fun e s _ h => core_execSezalStatus e s h,
    fun e s _ h => core_execSezalMembers e s h,
    ?_,
    fun e s _ h => core_execKeeperPrioSet e s h,
    fun _ hx => nomatch hx⟩
  all_goals
    intro e s t h
    simp only [apply_ite (f := fun o => o = Host.Outcome.next t)] at h
    repeat' split at h
    all_goals first | exact core_execSezalResyncFollow e s h | exact core_execSezalResyncForceApply e s h | exact core_execSezalResyncForceDiscard e s h

/-- Every meaning of the class keeps the core. -/
theorem core_meansHq : ∀ m ∈ meansHq, KeepsCore m.2 := by
  simp only [meansHq, List.forall_mem_cons]
  refine ⟨
    fun e s _ h => core_execRingCreate e s h,
    fun e s _ h => core_execQpCreate e s h,
    fun e s _ h => core_execCqCreate e s h,
    ?_,
    fun e s _ h => core_execQueueReset e s h,
    fun e s _ h => core_execQueueStatus e s h,
    fun e s _ h => core_execRxFilterSet e s h,
    fun e s _ h => core_execRssSet e s h,
    fun e s _ h => core_execOffloadSet e s h,
    fun _ hx => nomatch hx⟩
  all_goals
    intro e s t h
    simp only [apply_ite (f := fun o => o = Host.Outcome.next t)] at h
    repeat' split at h
    all_goals first | exact core_execQueueDisable e s h | exact core_execQueueEnable e s h | exact core_execQueueDestroy e s h

/-- Every meaning of the class keeps the core. -/
theorem core_meansPwr : ∀ m ∈ meansPwr, KeepsCore m.2 := by
  simp only [meansPwr, List.forall_mem_cons]
  refine ⟨
    fun e s _ h => core_execPwrStateSet e s h,
    fun e s _ h => core_execHibernate e s h,
    fun e s _ h => core_execWakeSrcSet e s h,
    fun e s _ h => core_execPwrStatus e s h,
    fun e s _ h => core_execDrainLimitSet e s h,
    fun _ hx => nomatch hx⟩

/-- Every meaning of the class keeps the core. -/
theorem core_meansBadger : ∀ m ∈ meansBadger, KeepsCore m.2 := by
  simp only [meansBadger, List.forall_mem_cons]
  refine ⟨
    fun e s _ h => core_execBadgerCfg e s h,
    fun e s _ h => core_execBadgerWindow e s h,
    fun e s _ h => core_execBadgerStatus e s h,
    fun e s _ h => core_execLoopbackCal e s h,
    fun _ hx => nomatch hx⟩

/-- Every meaning of the class keeps the core. -/
theorem core_meansCap : ∀ m ∈ meansCap, KeepsCore m.2 := by
  simp only [meansCap, List.forall_mem_cons]
  refine ⟨
    fun e s _ h => core_execFoxtrotRingSet e s h,
    fun e s _ h => core_execCapRuleSet e s h,
    fun e s _ h => core_execMirrorSet e s h,
    fun e s _ h => core_execCapEnable e s h,
    fun _ hx => nomatch hx⟩

/-- Every meaning of the class keeps the core. -/
theorem core_meansDiag : ∀ m ∈ meansDiag, KeepsCore m.2 := by
  simp only [meansDiag, List.forall_mem_cons]
  refine ⟨
    fun e s _ h => core_execMemRead e s h,
    fun e s _ h => core_execErrCounters e s h,
    fun e s _ h => core_execFaultLog e s h,
    fun e s _ h => core_execIsolate e s h,
    fun _ hx => nomatch hx⟩

/-- Every meaning that the replay knows keeps the core. -/
theorem core_meanings : ∀ m ∈ meanings, KeepsCore m.2 := by
  simp only [meanings, List.forall_mem_append]
  exact ⟨⟨⟨⟨⟨⟨⟨⟨⟨⟨⟨⟨⟨⟨⟨⟨⟨core_meansSys, core_meansQuad⟩, core_meansPort⟩, core_meansParse⟩, core_meansTable⟩, core_meansEz⟩, core_meansBuf⟩, core_meansFwd⟩, core_meansTm⟩, core_meansGate⟩, core_meansFlow⟩, core_meansTime⟩, core_meansSezal⟩, core_meansHq⟩, core_meansPwr⟩, core_meansBadger⟩, core_meansCap⟩, core_meansDiag⟩

@[simp] theorem core_runJournalled (j : JEntry) (s : State) : coreOf (runJournalled j s) = coreOf s := by
  simp only [runJournalled]
  split
  · rename_i m hm
    split
    · rename_i t ht; exact core_meanings m (List.mem_of_find?_eq_some hm) _ _ _ ht
    · rfl
  · split <;> simp

@[simp] theorem core_replayFrom (k : Nat) (s : State) : coreOf (replayFrom k s) = coreOf s := by
  induction k generalizing s with
  | zero => rfl
  | succ k ih => simp only [replayFrom]; split <;> simp [ih]

theorem core_execJournalReplay (s : State) {t : State} (h : execJournalReplay s = .next t) : coreOf t = coreOf s := by
  simp only [execJournalReplay, Host.Outcome.next.injEq] at h
  subst h
  split
  · rfl
  · split
    · simp
    · exact (core_rewriteAdmin _).trans (core_replayFrom _ _)

end Sys2Proof.Machine
end

