-- ==== Sys2Proof/Laws/State.lean ====
section
/-! SUPPORT. What each named update of the state leaves in every field: one lemma a field, true by unfolding the update. -/

namespace Sys2Proof.Machine

@[simp] theorem updPort_build (p : Nat) (f : PortRt → PortRt) (s : State) : (updPort p f s).build = s.build := rfl
@[simp] theorem updPort_mb (p : Nat) (f : PortRt → PortRt) (s : State) : (updPort p f s).mb = s.mb := rfl
@[simp] theorem updPort_boot (p : Nat) (f : PortRt → PortRt) (s : State) : (updPort p f s).boot = s.boot := rfl
@[simp] theorem updPort_adm (p : Nat) (f : PortRt → PortRt) (s : State) : (updPort p f s).adm = s.adm := rfl
@[simp] theorem updPort_quad (p : Nat) (f : PortRt → PortRt) (s : State) : (updPort p f s).quad = s.quad := rfl
@[simp] theorem updPort_bank0 (p : Nat) (f : PortRt → PortRt) (s : State) : (updPort p f s).bank0 = s.bank0 := rfl
@[simp] theorem updPort_bank1 (p : Nat) (f : PortRt → PortRt) (s : State) : (updPort p f s).bank1 = s.bank1 := rfl
@[simp] theorem updPort_tables (p : Nat) (f : PortRt → PortRt) (s : State) : (updPort p f s).tables = s.tables := rfl
@[simp] theorem updPort_ports (p : Nat) (f : PortRt → PortRt) (s : State) : (updPort p f s).ports = s.ports.upd p {} f := rfl
@[simp] theorem updPort_slices (p : Nat) (f : PortRt → PortRt) (s : State) : (updPort p f s).slices = s.slices := rfl
@[simp] theorem updPort_buf (p : Nat) (f : PortRt → PortRt) (s : State) : (updPort p f s).buf = s.buf := rfl
@[simp] theorem updPort_tm (p : Nat) (f : PortRt → PortRt) (s : State) : (updPort p f s).tm = s.tm := rfl
@[simp] theorem updPort_gate (p : Nat) (f : PortRt → PortRt) (s : State) : (updPort p f s).gate = s.gate := rfl
@[simp] theorem updPort_flows (p : Nat) (f : PortRt → PortRt) (s : State) : (updPort p f s).flows = s.flows := rfl
@[simp] theorem updPort_cap (p : Nat) (f : PortRt → PortRt) (s : State) : (updPort p f s).cap = s.cap := rfl
@[simp] theorem updPort_eng (p : Nat) (f : PortRt → PortRt) (s : State) : (updPort p f s).eng = s.eng := rfl
@[simp] theorem updPort_time (p : Nat) (f : PortRt → PortRt) (s : State) : (updPort p f s).time = s.time := rfl
@[simp] theorem updPort_otd (p : Nat) (f : PortRt → PortRt) (s : State) : (updPort p f s).otd = s.otd := rfl
@[simp] theorem updPort_sez (p : Nat) (f : PortRt → PortRt) (s : State) : (updPort p f s).sez = s.sez := rfl
@[simp] theorem updPort_hq (p : Nat) (f : PortRt → PortRt) (s : State) : (updPort p f s).hq = s.hq := rfl
@[simp] theorem updPort_dma (p : Nat) (f : PortRt → PortRt) (s : State) : (updPort p f s).dma = s.dma := rfl
@[simp] theorem updPort_irq (p : Nat) (f : PortRt → PortRt) (s : State) : (updPort p f s).irq = s.irq := rfl
@[simp] theorem updPort_pwr (p : Nat) (f : PortRt → PortRt) (s : State) : (updPort p f s).pwr = s.pwr := rfl
@[simp] theorem updPort_badger (p : Nat) (f : PortRt → PortRt) (s : State) : (updPort p f s).badger = s.badger := rfl
@[simp] theorem updPort_ctr (p : Nat) (f : PortRt → PortRt) (s : State) : (updPort p f s).ctr = s.ctr := rfl
@[simp] theorem updPort_hpt (p : Nat) (f : PortRt → PortRt) (s : State) : (updPort p f s).hpt = s.hpt := rfl
@[simp] theorem updPort_out (p : Nat) (f : PortRt → PortRt) (s : State) : (updPort p f s).out = s.out := rfl
@[simp] theorem updPort_fresh (p : Nat) (f : PortRt → PortRt) (s : State) : (updPort p f s).fresh = s.fresh := rfl
@[simp] theorem updPort_pending (p : Nat) (f : PortRt → PortRt) (s : State) : (updPort p f s).pending = s.pending := rfl

@[simp] theorem updSlice_build (sl : Nat) (f : SliceRt → SliceRt) (s : State) : (updSlice sl f s).build = s.build := rfl
@[simp] theorem updSlice_mb (sl : Nat) (f : SliceRt → SliceRt) (s : State) : (updSlice sl f s).mb = s.mb := rfl
@[simp] theorem updSlice_boot (sl : Nat) (f : SliceRt → SliceRt) (s : State) : (updSlice sl f s).boot = s.boot := rfl
@[simp] theorem updSlice_adm (sl : Nat) (f : SliceRt → SliceRt) (s : State) : (updSlice sl f s).adm = s.adm := rfl
@[simp] theorem updSlice_quad (sl : Nat) (f : SliceRt → SliceRt) (s : State) : (updSlice sl f s).quad = s.quad := rfl
@[simp] theorem updSlice_bank0 (sl : Nat) (f : SliceRt → SliceRt) (s : State) : (updSlice sl f s).bank0 = s.bank0 := rfl
@[simp] theorem updSlice_bank1 (sl : Nat) (f : SliceRt → SliceRt) (s : State) : (updSlice sl f s).bank1 = s.bank1 := rfl
@[simp] theorem updSlice_tables (sl : Nat) (f : SliceRt → SliceRt) (s : State) : (updSlice sl f s).tables = s.tables := rfl
@[simp] theorem updSlice_ports (sl : Nat) (f : SliceRt → SliceRt) (s : State) : (updSlice sl f s).ports = s.ports := rfl
@[simp] theorem updSlice_slices (sl : Nat) (f : SliceRt → SliceRt) (s : State) : (updSlice sl f s).slices = s.slices.upd sl {} f := rfl
@[simp] theorem updSlice_buf (sl : Nat) (f : SliceRt → SliceRt) (s : State) : (updSlice sl f s).buf = s.buf := rfl
@[simp] theorem updSlice_tm (sl : Nat) (f : SliceRt → SliceRt) (s : State) : (updSlice sl f s).tm = s.tm := rfl
@[simp] theorem updSlice_gate (sl : Nat) (f : SliceRt → SliceRt) (s : State) : (updSlice sl f s).gate = s.gate := rfl
@[simp] theorem updSlice_flows (sl : Nat) (f : SliceRt → SliceRt) (s : State) : (updSlice sl f s).flows = s.flows := rfl
@[simp] theorem updSlice_cap (sl : Nat) (f : SliceRt → SliceRt) (s : State) : (updSlice sl f s).cap = s.cap := rfl
@[simp] theorem updSlice_eng (sl : Nat) (f : SliceRt → SliceRt) (s : State) : (updSlice sl f s).eng = s.eng := rfl
@[simp] theorem updSlice_time (sl : Nat) (f : SliceRt → SliceRt) (s : State) : (updSlice sl f s).time = s.time := rfl
@[simp] theorem updSlice_otd (sl : Nat) (f : SliceRt → SliceRt) (s : State) : (updSlice sl f s).otd = s.otd := rfl
@[simp] theorem updSlice_sez (sl : Nat) (f : SliceRt → SliceRt) (s : State) : (updSlice sl f s).sez = s.sez := rfl
@[simp] theorem updSlice_hq (sl : Nat) (f : SliceRt → SliceRt) (s : State) : (updSlice sl f s).hq = s.hq := rfl
@[simp] theorem updSlice_dma (sl : Nat) (f : SliceRt → SliceRt) (s : State) : (updSlice sl f s).dma = s.dma := rfl
@[simp] theorem updSlice_irq (sl : Nat) (f : SliceRt → SliceRt) (s : State) : (updSlice sl f s).irq = s.irq := rfl
@[simp] theorem updSlice_pwr (sl : Nat) (f : SliceRt → SliceRt) (s : State) : (updSlice sl f s).pwr = s.pwr := rfl
@[simp] theorem updSlice_badger (sl : Nat) (f : SliceRt → SliceRt) (s : State) : (updSlice sl f s).badger = s.badger := rfl
@[simp] theorem updSlice_ctr (sl : Nat) (f : SliceRt → SliceRt) (s : State) : (updSlice sl f s).ctr = s.ctr := rfl
@[simp] theorem updSlice_hpt (sl : Nat) (f : SliceRt → SliceRt) (s : State) : (updSlice sl f s).hpt = s.hpt := rfl
@[simp] theorem updSlice_out (sl : Nat) (f : SliceRt → SliceRt) (s : State) : (updSlice sl f s).out = s.out := rfl
@[simp] theorem updSlice_fresh (sl : Nat) (f : SliceRt → SliceRt) (s : State) : (updSlice sl f s).fresh = s.fresh := rfl
@[simp] theorem updSlice_pending (sl : Nat) (f : SliceRt → SliceRt) (s : State) : (updSlice sl f s).pending = s.pending := rfl

@[simp] theorem updCfg_build (f : Cfg → Cfg) (s : State) : (updCfg f s).build = s.build := rfl
@[simp] theorem updCfg_mb (f : Cfg → Cfg) (s : State) : (updCfg f s).mb = s.mb := rfl
@[simp] theorem updCfg_boot (f : Cfg → Cfg) (s : State) : (updCfg f s).boot = s.boot := rfl
@[simp] theorem updCfg_adm (f : Cfg → Cfg) (s : State) : (updCfg f s).adm = s.adm := rfl
@[simp] theorem updCfg_quad (f : Cfg → Cfg) (s : State) : (updCfg f s).quad = s.quad := rfl
@[simp] theorem updCfg_bank0 (f : Cfg → Cfg) (s : State) : (updCfg f s).bank0 = f s.bank0 := rfl
@[simp] theorem updCfg_bank1 (f : Cfg → Cfg) (s : State) : (updCfg f s).bank1 = f s.bank1 := rfl
@[simp] theorem updCfg_tables (f : Cfg → Cfg) (s : State) : (updCfg f s).tables = s.tables := rfl
@[simp] theorem updCfg_ports (f : Cfg → Cfg) (s : State) : (updCfg f s).ports = s.ports := rfl
@[simp] theorem updCfg_slices (f : Cfg → Cfg) (s : State) : (updCfg f s).slices = s.slices := rfl
@[simp] theorem updCfg_buf (f : Cfg → Cfg) (s : State) : (updCfg f s).buf = s.buf := rfl
@[simp] theorem updCfg_tm (f : Cfg → Cfg) (s : State) : (updCfg f s).tm = s.tm := rfl
@[simp] theorem updCfg_gate (f : Cfg → Cfg) (s : State) : (updCfg f s).gate = s.gate := rfl
@[simp] theorem updCfg_flows (f : Cfg → Cfg) (s : State) : (updCfg f s).flows = s.flows := rfl
@[simp] theorem updCfg_cap (f : Cfg → Cfg) (s : State) : (updCfg f s).cap = s.cap := rfl
@[simp] theorem updCfg_eng (f : Cfg → Cfg) (s : State) : (updCfg f s).eng = s.eng := rfl
@[simp] theorem updCfg_time (f : Cfg → Cfg) (s : State) : (updCfg f s).time = s.time := rfl
@[simp] theorem updCfg_otd (f : Cfg → Cfg) (s : State) : (updCfg f s).otd = s.otd := rfl
@[simp] theorem updCfg_sez (f : Cfg → Cfg) (s : State) : (updCfg f s).sez = s.sez := rfl
@[simp] theorem updCfg_hq (f : Cfg → Cfg) (s : State) : (updCfg f s).hq = s.hq := rfl
@[simp] theorem updCfg_dma (f : Cfg → Cfg) (s : State) : (updCfg f s).dma = s.dma := rfl
@[simp] theorem updCfg_irq (f : Cfg → Cfg) (s : State) : (updCfg f s).irq = s.irq := rfl
@[simp] theorem updCfg_pwr (f : Cfg → Cfg) (s : State) : (updCfg f s).pwr = s.pwr := rfl
@[simp] theorem updCfg_badger (f : Cfg → Cfg) (s : State) : (updCfg f s).badger = s.badger := rfl
@[simp] theorem updCfg_ctr (f : Cfg → Cfg) (s : State) : (updCfg f s).ctr = s.ctr := rfl
@[simp] theorem updCfg_hpt (f : Cfg → Cfg) (s : State) : (updCfg f s).hpt = s.hpt := rfl
@[simp] theorem updCfg_out (f : Cfg → Cfg) (s : State) : (updCfg f s).out = s.out := rfl
@[simp] theorem updCfg_fresh (f : Cfg → Cfg) (s : State) : (updCfg f s).fresh = s.fresh := rfl
@[simp] theorem updCfg_pending (f : Cfg → Cfg) (s : State) : (updCfg f s).pending = s.pending := rfl

@[simp] theorem updDom_build (d : Nat) (f : Dom → Dom) (s : State) : (updDom d f s).build = s.build := rfl
@[simp] theorem updDom_mb (d : Nat) (f : Dom → Dom) (s : State) : (updDom d f s).mb = s.mb := rfl
@[simp] theorem updDom_boot (d : Nat) (f : Dom → Dom) (s : State) : (updDom d f s).boot = s.boot := rfl
@[simp] theorem updDom_adm (d : Nat) (f : Dom → Dom) (s : State) : (updDom d f s).adm = s.adm := rfl
@[simp] theorem updDom_quad (d : Nat) (f : Dom → Dom) (s : State) : (updDom d f s).quad = s.quad := rfl
@[simp] theorem updDom_bank0 (d : Nat) (f : Dom → Dom) (s : State) : (updDom d f s).bank0 = s.bank0 := rfl
@[simp] theorem updDom_bank1 (d : Nat) (f : Dom → Dom) (s : State) : (updDom d f s).bank1 = s.bank1 := rfl
@[simp] theorem updDom_tables (d : Nat) (f : Dom → Dom) (s : State) : (updDom d f s).tables = s.tables := rfl
@[simp] theorem updDom_ports (d : Nat) (f : Dom → Dom) (s : State) : (updDom d f s).ports = s.ports := rfl
@[simp] theorem updDom_slices (d : Nat) (f : Dom → Dom) (s : State) : (updDom d f s).slices = s.slices := rfl
@[simp] theorem updDom_buf (d : Nat) (f : Dom → Dom) (s : State) : (updDom d f s).buf = s.buf := rfl
@[simp] theorem updDom_tm (d : Nat) (f : Dom → Dom) (s : State) : (updDom d f s).tm = s.tm := rfl
@[simp] theorem updDom_gate (d : Nat) (f : Dom → Dom) (s : State) : (updDom d f s).gate = s.gate := rfl
@[simp] theorem updDom_flows (d : Nat) (f : Dom → Dom) (s : State) : (updDom d f s).flows = s.flows := rfl
@[simp] theorem updDom_cap (d : Nat) (f : Dom → Dom) (s : State) : (updDom d f s).cap = s.cap := rfl
@[simp] theorem updDom_eng (d : Nat) (f : Dom → Dom) (s : State) : (updDom d f s).eng = s.eng := rfl
@[simp] theorem updDom_time (d : Nat) (f : Dom → Dom) (s : State) : (updDom d f s).time = s.time := rfl
@[simp] theorem updDom_otd (d : Nat) (f : Dom → Dom) (s : State) : (updDom d f s).otd = s.otd := rfl
@[simp] theorem updDom_sez (d : Nat) (f : Dom → Dom) (s : State) : (updDom d f s).sez = s.sez := rfl
@[simp] theorem updDom_hq (d : Nat) (f : Dom → Dom) (s : State) : (updDom d f s).hq = s.hq := rfl
@[simp] theorem updDom_dma (d : Nat) (f : Dom → Dom) (s : State) : (updDom d f s).dma = s.dma := rfl
@[simp] theorem updDom_irq (d : Nat) (f : Dom → Dom) (s : State) : (updDom d f s).irq = s.irq := rfl
@[simp] theorem updDom_pwr (d : Nat) (f : Dom → Dom) (s : State) : (updDom d f s).pwr = { s.pwr with dom := s.pwr.dom.set d (f (dom s d)) } := rfl
@[simp] theorem updDom_badger (d : Nat) (f : Dom → Dom) (s : State) : (updDom d f s).badger = s.badger := rfl
@[simp] theorem updDom_ctr (d : Nat) (f : Dom → Dom) (s : State) : (updDom d f s).ctr = s.ctr := rfl
@[simp] theorem updDom_hpt (d : Nat) (f : Dom → Dom) (s : State) : (updDom d f s).hpt = s.hpt := rfl
@[simp] theorem updDom_out (d : Nat) (f : Dom → Dom) (s : State) : (updDom d f s).out = s.out := rfl
@[simp] theorem updDom_fresh (d : Nat) (f : Dom → Dom) (s : State) : (updDom d f s).fresh = s.fresh := rfl
@[simp] theorem updDom_pending (d : Nat) (f : Dom → Dom) (s : State) : (updDom d f s).pending = s.pending := rfl

@[simp] theorem updPwr_build (f : Pwr → Pwr) (s : State) : (updPwr f s).build = s.build := rfl
@[simp] theorem updPwr_mb (f : Pwr → Pwr) (s : State) : (updPwr f s).mb = s.mb := rfl
@[simp] theorem updPwr_boot (f : Pwr → Pwr) (s : State) : (updPwr f s).boot = s.boot := rfl
@[simp] theorem updPwr_adm (f : Pwr → Pwr) (s : State) : (updPwr f s).adm = s.adm := rfl
@[simp] theorem updPwr_quad (f : Pwr → Pwr) (s : State) : (updPwr f s).quad = s.quad := rfl
@[simp] theorem updPwr_bank0 (f : Pwr → Pwr) (s : State) : (updPwr f s).bank0 = s.bank0 := rfl
@[simp] theorem updPwr_bank1 (f : Pwr → Pwr) (s : State) : (updPwr f s).bank1 = s.bank1 := rfl
@[simp] theorem updPwr_tables (f : Pwr → Pwr) (s : State) : (updPwr f s).tables = s.tables := rfl
@[simp] theorem updPwr_ports (f : Pwr → Pwr) (s : State) : (updPwr f s).ports = s.ports := rfl
@[simp] theorem updPwr_slices (f : Pwr → Pwr) (s : State) : (updPwr f s).slices = s.slices := rfl
@[simp] theorem updPwr_buf (f : Pwr → Pwr) (s : State) : (updPwr f s).buf = s.buf := rfl
@[simp] theorem updPwr_tm (f : Pwr → Pwr) (s : State) : (updPwr f s).tm = s.tm := rfl
@[simp] theorem updPwr_gate (f : Pwr → Pwr) (s : State) : (updPwr f s).gate = s.gate := rfl
@[simp] theorem updPwr_flows (f : Pwr → Pwr) (s : State) : (updPwr f s).flows = s.flows := rfl
@[simp] theorem updPwr_cap (f : Pwr → Pwr) (s : State) : (updPwr f s).cap = s.cap := rfl
@[simp] theorem updPwr_eng (f : Pwr → Pwr) (s : State) : (updPwr f s).eng = s.eng := rfl
@[simp] theorem updPwr_time (f : Pwr → Pwr) (s : State) : (updPwr f s).time = s.time := rfl
@[simp] theorem updPwr_otd (f : Pwr → Pwr) (s : State) : (updPwr f s).otd = s.otd := rfl
@[simp] theorem updPwr_sez (f : Pwr → Pwr) (s : State) : (updPwr f s).sez = s.sez := rfl
@[simp] theorem updPwr_hq (f : Pwr → Pwr) (s : State) : (updPwr f s).hq = s.hq := rfl
@[simp] theorem updPwr_dma (f : Pwr → Pwr) (s : State) : (updPwr f s).dma = s.dma := rfl
@[simp] theorem updPwr_irq (f : Pwr → Pwr) (s : State) : (updPwr f s).irq = s.irq := rfl
@[simp] theorem updPwr_pwr (f : Pwr → Pwr) (s : State) : (updPwr f s).pwr = f s.pwr := rfl
@[simp] theorem updPwr_badger (f : Pwr → Pwr) (s : State) : (updPwr f s).badger = s.badger := rfl
@[simp] theorem updPwr_ctr (f : Pwr → Pwr) (s : State) : (updPwr f s).ctr = s.ctr := rfl
@[simp] theorem updPwr_hpt (f : Pwr → Pwr) (s : State) : (updPwr f s).hpt = s.hpt := rfl
@[simp] theorem updPwr_out (f : Pwr → Pwr) (s : State) : (updPwr f s).out = s.out := rfl
@[simp] theorem updPwr_fresh (f : Pwr → Pwr) (s : State) : (updPwr f s).fresh = s.fresh := rfl
@[simp] theorem updPwr_pending (f : Pwr → Pwr) (s : State) : (updPwr f s).pending = s.pending := rfl

@[simp] theorem updIrq_build (f : Irq → Irq) (s : State) : (updIrq f s).build = s.build := rfl
@[simp] theorem updIrq_mb (f : Irq → Irq) (s : State) : (updIrq f s).mb = s.mb := rfl
@[simp] theorem updIrq_boot (f : Irq → Irq) (s : State) : (updIrq f s).boot = s.boot := rfl
@[simp] theorem updIrq_adm (f : Irq → Irq) (s : State) : (updIrq f s).adm = s.adm := rfl
@[simp] theorem updIrq_quad (f : Irq → Irq) (s : State) : (updIrq f s).quad = s.quad := rfl
@[simp] theorem updIrq_bank0 (f : Irq → Irq) (s : State) : (updIrq f s).bank0 = s.bank0 := rfl
@[simp] theorem updIrq_bank1 (f : Irq → Irq) (s : State) : (updIrq f s).bank1 = s.bank1 := rfl
@[simp] theorem updIrq_tables (f : Irq → Irq) (s : State) : (updIrq f s).tables = s.tables := rfl
@[simp] theorem updIrq_ports (f : Irq → Irq) (s : State) : (updIrq f s).ports = s.ports := rfl
@[simp] theorem updIrq_slices (f : Irq → Irq) (s : State) : (updIrq f s).slices = s.slices := rfl
@[simp] theorem updIrq_buf (f : Irq → Irq) (s : State) : (updIrq f s).buf = s.buf := rfl
@[simp] theorem updIrq_tm (f : Irq → Irq) (s : State) : (updIrq f s).tm = s.tm := rfl
@[simp] theorem updIrq_gate (f : Irq → Irq) (s : State) : (updIrq f s).gate = s.gate := rfl
@[simp] theorem updIrq_flows (f : Irq → Irq) (s : State) : (updIrq f s).flows = s.flows := rfl
@[simp] theorem updIrq_cap (f : Irq → Irq) (s : State) : (updIrq f s).cap = s.cap := rfl
@[simp] theorem updIrq_eng (f : Irq → Irq) (s : State) : (updIrq f s).eng = s.eng := rfl
@[simp] theorem updIrq_time (f : Irq → Irq) (s : State) : (updIrq f s).time = s.time := rfl
@[simp] theorem updIrq_otd (f : Irq → Irq) (s : State) : (updIrq f s).otd = s.otd := rfl
@[simp] theorem updIrq_sez (f : Irq → Irq) (s : State) : (updIrq f s).sez = s.sez := rfl
@[simp] theorem updIrq_hq (f : Irq → Irq) (s : State) : (updIrq f s).hq = s.hq := rfl
@[simp] theorem updIrq_dma (f : Irq → Irq) (s : State) : (updIrq f s).dma = s.dma := rfl
@[simp] theorem updIrq_irq (f : Irq → Irq) (s : State) : (updIrq f s).irq = f s.irq := rfl
@[simp] theorem updIrq_pwr (f : Irq → Irq) (s : State) : (updIrq f s).pwr = s.pwr := rfl
@[simp] theorem updIrq_badger (f : Irq → Irq) (s : State) : (updIrq f s).badger = s.badger := rfl
@[simp] theorem updIrq_ctr (f : Irq → Irq) (s : State) : (updIrq f s).ctr = s.ctr := rfl
@[simp] theorem updIrq_hpt (f : Irq → Irq) (s : State) : (updIrq f s).hpt = s.hpt := rfl
@[simp] theorem updIrq_out (f : Irq → Irq) (s : State) : (updIrq f s).out = s.out := rfl
@[simp] theorem updIrq_fresh (f : Irq → Irq) (s : State) : (updIrq f s).fresh = s.fresh := rfl
@[simp] theorem updIrq_pending (f : Irq → Irq) (s : State) : (updIrq f s).pending = s.pending := rfl

@[simp] theorem updOtd_build (f : Otd → Otd) (s : State) : (updOtd f s).build = s.build := rfl
@[simp] theorem updOtd_mb (f : Otd → Otd) (s : State) : (updOtd f s).mb = s.mb := rfl
@[simp] theorem updOtd_boot (f : Otd → Otd) (s : State) : (updOtd f s).boot = s.boot := rfl
@[simp] theorem updOtd_adm (f : Otd → Otd) (s : State) : (updOtd f s).adm = s.adm := rfl
@[simp] theorem updOtd_quad (f : Otd → Otd) (s : State) : (updOtd f s).quad = s.quad := rfl
@[simp] theorem updOtd_bank0 (f : Otd → Otd) (s : State) : (updOtd f s).bank0 = s.bank0 := rfl
@[simp] theorem updOtd_bank1 (f : Otd → Otd) (s : State) : (updOtd f s).bank1 = s.bank1 := rfl
@[simp] theorem updOtd_tables (f : Otd → Otd) (s : State) : (updOtd f s).tables = s.tables := rfl
@[simp] theorem updOtd_ports (f : Otd → Otd) (s : State) : (updOtd f s).ports = s.ports := rfl
@[simp] theorem updOtd_slices (f : Otd → Otd) (s : State) : (updOtd f s).slices = s.slices := rfl
@[simp] theorem updOtd_buf (f : Otd → Otd) (s : State) : (updOtd f s).buf = s.buf := rfl
@[simp] theorem updOtd_tm (f : Otd → Otd) (s : State) : (updOtd f s).tm = s.tm := rfl
@[simp] theorem updOtd_gate (f : Otd → Otd) (s : State) : (updOtd f s).gate = s.gate := rfl
@[simp] theorem updOtd_flows (f : Otd → Otd) (s : State) : (updOtd f s).flows = s.flows := rfl
@[simp] theorem updOtd_cap (f : Otd → Otd) (s : State) : (updOtd f s).cap = s.cap := rfl
@[simp] theorem updOtd_eng (f : Otd → Otd) (s : State) : (updOtd f s).eng = s.eng := rfl
@[simp] theorem updOtd_time (f : Otd → Otd) (s : State) : (updOtd f s).time = s.time := rfl
@[simp] theorem updOtd_otd (f : Otd → Otd) (s : State) : (updOtd f s).otd = f s.otd := rfl
@[simp] theorem updOtd_sez (f : Otd → Otd) (s : State) : (updOtd f s).sez = s.sez := rfl
@[simp] theorem updOtd_hq (f : Otd → Otd) (s : State) : (updOtd f s).hq = s.hq := rfl
@[simp] theorem updOtd_dma (f : Otd → Otd) (s : State) : (updOtd f s).dma = s.dma := rfl
@[simp] theorem updOtd_irq (f : Otd → Otd) (s : State) : (updOtd f s).irq = s.irq := rfl
@[simp] theorem updOtd_pwr (f : Otd → Otd) (s : State) : (updOtd f s).pwr = s.pwr := rfl
@[simp] theorem updOtd_badger (f : Otd → Otd) (s : State) : (updOtd f s).badger = s.badger := rfl
@[simp] theorem updOtd_ctr (f : Otd → Otd) (s : State) : (updOtd f s).ctr = s.ctr := rfl
@[simp] theorem updOtd_hpt (f : Otd → Otd) (s : State) : (updOtd f s).hpt = s.hpt := rfl
@[simp] theorem updOtd_out (f : Otd → Otd) (s : State) : (updOtd f s).out = s.out := rfl
@[simp] theorem updOtd_fresh (f : Otd → Otd) (s : State) : (updOtd f s).fresh = s.fresh := rfl
@[simp] theorem updOtd_pending (f : Otd → Otd) (s : State) : (updOtd f s).pending = s.pending := rfl

@[simp] theorem updSez_build (f : Sezal → Sezal) (s : State) : (updSez f s).build = s.build := rfl
@[simp] theorem updSez_mb (f : Sezal → Sezal) (s : State) : (updSez f s).mb = s.mb := rfl
@[simp] theorem updSez_boot (f : Sezal → Sezal) (s : State) : (updSez f s).boot = s.boot := rfl
@[simp] theorem updSez_adm (f : Sezal → Sezal) (s : State) : (updSez f s).adm = s.adm := rfl
@[simp] theorem updSez_quad (f : Sezal → Sezal) (s : State) : (updSez f s).quad = s.quad := rfl
@[simp] theorem updSez_bank0 (f : Sezal → Sezal) (s : State) : (updSez f s).bank0 = s.bank0 := rfl
@[simp] theorem updSez_bank1 (f : Sezal → Sezal) (s : State) : (updSez f s).bank1 = s.bank1 := rfl
@[simp] theorem updSez_tables (f : Sezal → Sezal) (s : State) : (updSez f s).tables = s.tables := rfl
@[simp] theorem updSez_ports (f : Sezal → Sezal) (s : State) : (updSez f s).ports = s.ports := rfl
@[simp] theorem updSez_slices (f : Sezal → Sezal) (s : State) : (updSez f s).slices = s.slices := rfl
@[simp] theorem updSez_buf (f : Sezal → Sezal) (s : State) : (updSez f s).buf = s.buf := rfl
@[simp] theorem updSez_tm (f : Sezal → Sezal) (s : State) : (updSez f s).tm = s.tm := rfl
@[simp] theorem updSez_gate (f : Sezal → Sezal) (s : State) : (updSez f s).gate = s.gate := rfl
@[simp] theorem updSez_flows (f : Sezal → Sezal) (s : State) : (updSez f s).flows = s.flows := rfl
@[simp] theorem updSez_cap (f : Sezal → Sezal) (s : State) : (updSez f s).cap = s.cap := rfl
@[simp] theorem updSez_eng (f : Sezal → Sezal) (s : State) : (updSez f s).eng = s.eng := rfl
@[simp] theorem updSez_time (f : Sezal → Sezal) (s : State) : (updSez f s).time = s.time := rfl
@[simp] theorem updSez_otd (f : Sezal → Sezal) (s : State) : (updSez f s).otd = s.otd := rfl
@[simp] theorem updSez_sez (f : Sezal → Sezal) (s : State) : (updSez f s).sez = f s.sez := rfl
@[simp] theorem updSez_hq (f : Sezal → Sezal) (s : State) : (updSez f s).hq = s.hq := rfl
@[simp] theorem updSez_dma (f : Sezal → Sezal) (s : State) : (updSez f s).dma = s.dma := rfl
@[simp] theorem updSez_irq (f : Sezal → Sezal) (s : State) : (updSez f s).irq = s.irq := rfl
@[simp] theorem updSez_pwr (f : Sezal → Sezal) (s : State) : (updSez f s).pwr = s.pwr := rfl
@[simp] theorem updSez_badger (f : Sezal → Sezal) (s : State) : (updSez f s).badger = s.badger := rfl
@[simp] theorem updSez_ctr (f : Sezal → Sezal) (s : State) : (updSez f s).ctr = s.ctr := rfl
@[simp] theorem updSez_hpt (f : Sezal → Sezal) (s : State) : (updSez f s).hpt = s.hpt := rfl
@[simp] theorem updSez_out (f : Sezal → Sezal) (s : State) : (updSez f s).out = s.out := rfl
@[simp] theorem updSez_fresh (f : Sezal → Sezal) (s : State) : (updSez f s).fresh = s.fresh := rfl
@[simp] theorem updSez_pending (f : Sezal → Sezal) (s : State) : (updSez f s).pending = s.pending := rfl

@[simp] theorem updDma_build (c : Nat) (f : DmaCh → DmaCh) (s : State) : (updDma c f s).build = s.build := rfl
@[simp] theorem updDma_mb (c : Nat) (f : DmaCh → DmaCh) (s : State) : (updDma c f s).mb = s.mb := rfl
@[simp] theorem updDma_boot (c : Nat) (f : DmaCh → DmaCh) (s : State) : (updDma c f s).boot = s.boot := rfl
@[simp] theorem updDma_adm (c : Nat) (f : DmaCh → DmaCh) (s : State) : (updDma c f s).adm = s.adm := rfl
@[simp] theorem updDma_quad (c : Nat) (f : DmaCh → DmaCh) (s : State) : (updDma c f s).quad = s.quad := rfl
@[simp] theorem updDma_bank0 (c : Nat) (f : DmaCh → DmaCh) (s : State) : (updDma c f s).bank0 = s.bank0 := rfl
@[simp] theorem updDma_bank1 (c : Nat) (f : DmaCh → DmaCh) (s : State) : (updDma c f s).bank1 = s.bank1 := rfl
@[simp] theorem updDma_tables (c : Nat) (f : DmaCh → DmaCh) (s : State) : (updDma c f s).tables = s.tables := rfl
@[simp] theorem updDma_ports (c : Nat) (f : DmaCh → DmaCh) (s : State) : (updDma c f s).ports = s.ports := rfl
@[simp] theorem updDma_slices (c : Nat) (f : DmaCh → DmaCh) (s : State) : (updDma c f s).slices = s.slices := rfl
@[simp] theorem updDma_buf (c : Nat) (f : DmaCh → DmaCh) (s : State) : (updDma c f s).buf = s.buf := rfl
@[simp] theorem updDma_tm (c : Nat) (f : DmaCh → DmaCh) (s : State) : (updDma c f s).tm = s.tm := rfl
@[simp] theorem updDma_gate (c : Nat) (f : DmaCh → DmaCh) (s : State) : (updDma c f s).gate = s.gate := rfl
@[simp] theorem updDma_flows (c : Nat) (f : DmaCh → DmaCh) (s : State) : (updDma c f s).flows = s.flows := rfl
@[simp] theorem updDma_cap (c : Nat) (f : DmaCh → DmaCh) (s : State) : (updDma c f s).cap = s.cap := rfl
@[simp] theorem updDma_eng (c : Nat) (f : DmaCh → DmaCh) (s : State) : (updDma c f s).eng = s.eng := rfl
@[simp] theorem updDma_time (c : Nat) (f : DmaCh → DmaCh) (s : State) : (updDma c f s).time = s.time := rfl
@[simp] theorem updDma_otd (c : Nat) (f : DmaCh → DmaCh) (s : State) : (updDma c f s).otd = s.otd := rfl
@[simp] theorem updDma_sez (c : Nat) (f : DmaCh → DmaCh) (s : State) : (updDma c f s).sez = s.sez := rfl
@[simp] theorem updDma_hq (c : Nat) (f : DmaCh → DmaCh) (s : State) : (updDma c f s).hq = s.hq := rfl
@[simp] theorem updDma_dma (c : Nat) (f : DmaCh → DmaCh) (s : State) : (updDma c f s).dma = s.dma.upd c {} f := rfl
@[simp] theorem updDma_irq (c : Nat) (f : DmaCh → DmaCh) (s : State) : (updDma c f s).irq = s.irq := rfl
@[simp] theorem updDma_pwr (c : Nat) (f : DmaCh → DmaCh) (s : State) : (updDma c f s).pwr = s.pwr := rfl
@[simp] theorem updDma_badger (c : Nat) (f : DmaCh → DmaCh) (s : State) : (updDma c f s).badger = s.badger := rfl
@[simp] theorem updDma_ctr (c : Nat) (f : DmaCh → DmaCh) (s : State) : (updDma c f s).ctr = s.ctr := rfl
@[simp] theorem updDma_hpt (c : Nat) (f : DmaCh → DmaCh) (s : State) : (updDma c f s).hpt = s.hpt := rfl
@[simp] theorem updDma_out (c : Nat) (f : DmaCh → DmaCh) (s : State) : (updDma c f s).out = s.out := rfl
@[simp] theorem updDma_fresh (c : Nat) (f : DmaCh → DmaCh) (s : State) : (updDma c f s).fresh = s.fresh := rfl
@[simp] theorem updDma_pending (c : Nat) (f : DmaCh → DmaCh) (s : State) : (updDma c f s).pending = s.pending := rfl

@[simp] theorem updGate_build (p : Nat) (f : GateRt → GateRt) (s : State) : (updGate p f s).build = s.build := rfl
@[simp] theorem updGate_mb (p : Nat) (f : GateRt → GateRt) (s : State) : (updGate p f s).mb = s.mb := rfl
@[simp] theorem updGate_boot (p : Nat) (f : GateRt → GateRt) (s : State) : (updGate p f s).boot = s.boot := rfl
@[simp] theorem updGate_adm (p : Nat) (f : GateRt → GateRt) (s : State) : (updGate p f s).adm = s.adm := rfl
@[simp] theorem updGate_quad (p : Nat) (f : GateRt → GateRt) (s : State) : (updGate p f s).quad = s.quad := rfl
@[simp] theorem updGate_bank0 (p : Nat) (f : GateRt → GateRt) (s : State) : (updGate p f s).bank0 = s.bank0 := rfl
@[simp] theorem updGate_bank1 (p : Nat) (f : GateRt → GateRt) (s : State) : (updGate p f s).bank1 = s.bank1 := rfl
@[simp] theorem updGate_tables (p : Nat) (f : GateRt → GateRt) (s : State) : (updGate p f s).tables = s.tables := rfl
@[simp] theorem updGate_ports (p : Nat) (f : GateRt → GateRt) (s : State) : (updGate p f s).ports = s.ports := rfl
@[simp] theorem updGate_slices (p : Nat) (f : GateRt → GateRt) (s : State) : (updGate p f s).slices = s.slices := rfl
@[simp] theorem updGate_buf (p : Nat) (f : GateRt → GateRt) (s : State) : (updGate p f s).buf = s.buf := rfl
@[simp] theorem updGate_tm (p : Nat) (f : GateRt → GateRt) (s : State) : (updGate p f s).tm = s.tm := rfl
@[simp] theorem updGate_gate (p : Nat) (f : GateRt → GateRt) (s : State) : (updGate p f s).gate = s.gate.upd p {} f := rfl
@[simp] theorem updGate_flows (p : Nat) (f : GateRt → GateRt) (s : State) : (updGate p f s).flows = s.flows := rfl
@[simp] theorem updGate_cap (p : Nat) (f : GateRt → GateRt) (s : State) : (updGate p f s).cap = s.cap := rfl
@[simp] theorem updGate_eng (p : Nat) (f : GateRt → GateRt) (s : State) : (updGate p f s).eng = s.eng := rfl
@[simp] theorem updGate_time (p : Nat) (f : GateRt → GateRt) (s : State) : (updGate p f s).time = s.time := rfl
@[simp] theorem updGate_otd (p : Nat) (f : GateRt → GateRt) (s : State) : (updGate p f s).otd = s.otd := rfl
@[simp] theorem updGate_sez (p : Nat) (f : GateRt → GateRt) (s : State) : (updGate p f s).sez = s.sez := rfl
@[simp] theorem updGate_hq (p : Nat) (f : GateRt → GateRt) (s : State) : (updGate p f s).hq = s.hq := rfl
@[simp] theorem updGate_dma (p : Nat) (f : GateRt → GateRt) (s : State) : (updGate p f s).dma = s.dma := rfl
@[simp] theorem updGate_irq (p : Nat) (f : GateRt → GateRt) (s : State) : (updGate p f s).irq = s.irq := rfl
@[simp] theorem updGate_pwr (p : Nat) (f : GateRt → GateRt) (s : State) : (updGate p f s).pwr = s.pwr := rfl
@[simp] theorem updGate_badger (p : Nat) (f : GateRt → GateRt) (s : State) : (updGate p f s).badger = s.badger := rfl
@[simp] theorem updGate_ctr (p : Nat) (f : GateRt → GateRt) (s : State) : (updGate p f s).ctr = s.ctr := rfl
@[simp] theorem updGate_hpt (p : Nat) (f : GateRt → GateRt) (s : State) : (updGate p f s).hpt = s.hpt := rfl
@[simp] theorem updGate_out (p : Nat) (f : GateRt → GateRt) (s : State) : (updGate p f s).out = s.out := rfl
@[simp] theorem updGate_fresh (p : Nat) (f : GateRt → GateRt) (s : State) : (updGate p f s).fresh = s.fresh := rfl
@[simp] theorem updGate_pending (p : Nat) (f : GateRt → GateRt) (s : State) : (updGate p f s).pending = s.pending := rfl

@[simp] theorem addCtr_build (c : Ctr) (n : Nat) (s : State) : (addCtr c n s).build = s.build := rfl
@[simp] theorem addCtr_mb (c : Ctr) (n : Nat) (s : State) : (addCtr c n s).mb = s.mb := rfl
@[simp] theorem addCtr_boot (c : Ctr) (n : Nat) (s : State) : (addCtr c n s).boot = s.boot := rfl
@[simp] theorem addCtr_adm (c : Ctr) (n : Nat) (s : State) : (addCtr c n s).adm = s.adm := rfl
@[simp] theorem addCtr_quad (c : Ctr) (n : Nat) (s : State) : (addCtr c n s).quad = s.quad := rfl
@[simp] theorem addCtr_bank0 (c : Ctr) (n : Nat) (s : State) : (addCtr c n s).bank0 = s.bank0 := rfl
@[simp] theorem addCtr_bank1 (c : Ctr) (n : Nat) (s : State) : (addCtr c n s).bank1 = s.bank1 := rfl
@[simp] theorem addCtr_tables (c : Ctr) (n : Nat) (s : State) : (addCtr c n s).tables = s.tables := rfl
@[simp] theorem addCtr_ports (c : Ctr) (n : Nat) (s : State) : (addCtr c n s).ports = s.ports := rfl
@[simp] theorem addCtr_slices (c : Ctr) (n : Nat) (s : State) : (addCtr c n s).slices = s.slices := rfl
@[simp] theorem addCtr_buf (c : Ctr) (n : Nat) (s : State) : (addCtr c n s).buf = s.buf := rfl
@[simp] theorem addCtr_tm (c : Ctr) (n : Nat) (s : State) : (addCtr c n s).tm = s.tm := rfl
@[simp] theorem addCtr_gate (c : Ctr) (n : Nat) (s : State) : (addCtr c n s).gate = s.gate := rfl
@[simp] theorem addCtr_flows (c : Ctr) (n : Nat) (s : State) : (addCtr c n s).flows = s.flows := rfl
@[simp] theorem addCtr_cap (c : Ctr) (n : Nat) (s : State) : (addCtr c n s).cap = s.cap := rfl
@[simp] theorem addCtr_eng (c : Ctr) (n : Nat) (s : State) : (addCtr c n s).eng = s.eng := rfl
@[simp] theorem addCtr_time (c : Ctr) (n : Nat) (s : State) : (addCtr c n s).time = s.time := rfl
@[simp] theorem addCtr_otd (c : Ctr) (n : Nat) (s : State) : (addCtr c n s).otd = s.otd := rfl
@[simp] theorem addCtr_sez (c : Ctr) (n : Nat) (s : State) : (addCtr c n s).sez = s.sez := rfl
@[simp] theorem addCtr_hq (c : Ctr) (n : Nat) (s : State) : (addCtr c n s).hq = s.hq := rfl
@[simp] theorem addCtr_dma (c : Ctr) (n : Nat) (s : State) : (addCtr c n s).dma = s.dma := rfl
@[simp] theorem addCtr_irq (c : Ctr) (n : Nat) (s : State) : (addCtr c n s).irq = s.irq := rfl
@[simp] theorem addCtr_pwr (c : Ctr) (n : Nat) (s : State) : (addCtr c n s).pwr = s.pwr := rfl
@[simp] theorem addCtr_badger (c : Ctr) (n : Nat) (s : State) : (addCtr c n s).badger = s.badger := rfl
@[simp] theorem addCtr_ctr (c : Ctr) (n : Nat) (s : State) : (addCtr c n s).ctr = s.ctr.upd c 0 (fun v => (v + n) % 2 ^ 64) := rfl
@[simp] theorem addCtr_hpt (c : Ctr) (n : Nat) (s : State) : (addCtr c n s).hpt = s.hpt := rfl
@[simp] theorem addCtr_out (c : Ctr) (n : Nat) (s : State) : (addCtr c n s).out = s.out := rfl
@[simp] theorem addCtr_fresh (c : Ctr) (n : Nat) (s : State) : (addCtr c n s).fresh = s.fresh := rfl
@[simp] theorem addCtr_pending (c : Ctr) (n : Nat) (s : State) : (addCtr c n s).pending = s.pending := rfl

@[simp] theorem emit_build (o : Output) (s : State) : (emit o s).build = s.build := rfl
@[simp] theorem emit_mb (o : Output) (s : State) : (emit o s).mb = s.mb := rfl
@[simp] theorem emit_boot (o : Output) (s : State) : (emit o s).boot = s.boot := rfl
@[simp] theorem emit_adm (o : Output) (s : State) : (emit o s).adm = s.adm := rfl
@[simp] theorem emit_quad (o : Output) (s : State) : (emit o s).quad = s.quad := rfl
@[simp] theorem emit_bank0 (o : Output) (s : State) : (emit o s).bank0 = s.bank0 := rfl
@[simp] theorem emit_bank1 (o : Output) (s : State) : (emit o s).bank1 = s.bank1 := rfl
@[simp] theorem emit_tables (o : Output) (s : State) : (emit o s).tables = s.tables := rfl
@[simp] theorem emit_ports (o : Output) (s : State) : (emit o s).ports = s.ports := rfl
@[simp] theorem emit_slices (o : Output) (s : State) : (emit o s).slices = s.slices := rfl
@[simp] theorem emit_buf (o : Output) (s : State) : (emit o s).buf = s.buf := rfl
@[simp] theorem emit_tm (o : Output) (s : State) : (emit o s).tm = s.tm := rfl
@[simp] theorem emit_gate (o : Output) (s : State) : (emit o s).gate = s.gate := rfl
@[simp] theorem emit_flows (o : Output) (s : State) : (emit o s).flows = s.flows := rfl
@[simp] theorem emit_cap (o : Output) (s : State) : (emit o s).cap = s.cap := rfl
@[simp] theorem emit_eng (o : Output) (s : State) : (emit o s).eng = s.eng := rfl
@[simp] theorem emit_time (o : Output) (s : State) : (emit o s).time = s.time := rfl
@[simp] theorem emit_otd (o : Output) (s : State) : (emit o s).otd = s.otd := rfl
@[simp] theorem emit_sez (o : Output) (s : State) : (emit o s).sez = s.sez := rfl
@[simp] theorem emit_hq (o : Output) (s : State) : (emit o s).hq = s.hq := rfl
@[simp] theorem emit_dma (o : Output) (s : State) : (emit o s).dma = s.dma := rfl
@[simp] theorem emit_irq (o : Output) (s : State) : (emit o s).irq = s.irq := rfl
@[simp] theorem emit_pwr (o : Output) (s : State) : (emit o s).pwr = s.pwr := rfl
@[simp] theorem emit_badger (o : Output) (s : State) : (emit o s).badger = s.badger := rfl
@[simp] theorem emit_ctr (o : Output) (s : State) : (emit o s).ctr = s.ctr := rfl
@[simp] theorem emit_hpt (o : Output) (s : State) : (emit o s).hpt = s.hpt := rfl
@[simp] theorem emit_out (o : Output) (s : State) : (emit o s).out = s.out ++ [o] := rfl
@[simp] theorem emit_fresh (o : Output) (s : State) : (emit o s).fresh = s.fresh := rfl
@[simp] theorem emit_pending (o : Output) (s : State) : (emit o s).pending = s.pending := rfl

@[simp] theorem hptOk_build (v : Nat) (s : State) : (hptOk v s).build = s.build := rfl
@[simp] theorem hptOk_mb (v : Nat) (s : State) : (hptOk v s).mb = s.mb := rfl
@[simp] theorem hptOk_boot (v : Nat) (s : State) : (hptOk v s).boot = s.boot := rfl
@[simp] theorem hptOk_adm (v : Nat) (s : State) : (hptOk v s).adm = s.adm := rfl
@[simp] theorem hptOk_quad (v : Nat) (s : State) : (hptOk v s).quad = s.quad := rfl
@[simp] theorem hptOk_bank0 (v : Nat) (s : State) : (hptOk v s).bank0 = s.bank0 := rfl
@[simp] theorem hptOk_bank1 (v : Nat) (s : State) : (hptOk v s).bank1 = s.bank1 := rfl
@[simp] theorem hptOk_tables (v : Nat) (s : State) : (hptOk v s).tables = s.tables := rfl
@[simp] theorem hptOk_ports (v : Nat) (s : State) : (hptOk v s).ports = s.ports := rfl
@[simp] theorem hptOk_slices (v : Nat) (s : State) : (hptOk v s).slices = s.slices := rfl
@[simp] theorem hptOk_buf (v : Nat) (s : State) : (hptOk v s).buf = s.buf := rfl
@[simp] theorem hptOk_tm (v : Nat) (s : State) : (hptOk v s).tm = s.tm := rfl
@[simp] theorem hptOk_gate (v : Nat) (s : State) : (hptOk v s).gate = s.gate := rfl
@[simp] theorem hptOk_flows (v : Nat) (s : State) : (hptOk v s).flows = s.flows := rfl
@[simp] theorem hptOk_cap (v : Nat) (s : State) : (hptOk v s).cap = s.cap := rfl
@[simp] theorem hptOk_eng (v : Nat) (s : State) : (hptOk v s).eng = s.eng := rfl
@[simp] theorem hptOk_time (v : Nat) (s : State) : (hptOk v s).time = s.time := rfl
@[simp] theorem hptOk_otd (v : Nat) (s : State) : (hptOk v s).otd = s.otd := rfl
@[simp] theorem hptOk_sez (v : Nat) (s : State) : (hptOk v s).sez = s.sez := rfl
@[simp] theorem hptOk_hq (v : Nat) (s : State) : (hptOk v s).hq = s.hq := rfl
@[simp] theorem hptOk_dma (v : Nat) (s : State) : (hptOk v s).dma = s.dma := rfl
@[simp] theorem hptOk_irq (v : Nat) (s : State) : (hptOk v s).irq = s.irq := rfl
@[simp] theorem hptOk_pwr (v : Nat) (s : State) : (hptOk v s).pwr = s.pwr := rfl
@[simp] theorem hptOk_badger (v : Nat) (s : State) : (hptOk v s).badger = s.badger := rfl
@[simp] theorem hptOk_ctr (v : Nat) (s : State) : (hptOk v s).ctr = s.ctr := rfl
@[simp] theorem hptOk_hpt (v : Nat) (s : State) : (hptOk v s).hpt = { s.hpt with rsp := s.hpt.rsp ++ [⟨s.hpt.tag, 0, v⟩] } := rfl
@[simp] theorem hptOk_out (v : Nat) (s : State) : (hptOk v s).out = s.out := rfl
@[simp] theorem hptOk_fresh (v : Nat) (s : State) : (hptOk v s).fresh = s.fresh := rfl
@[simp] theorem hptOk_pending (v : Nat) (s : State) : (hptOk v s).pending = s.pending := rfl

@[simp] theorem hptErr_build (s : State) : (hptErr s).build = s.build := rfl
@[simp] theorem hptErr_mb (s : State) : (hptErr s).mb = s.mb := rfl
@[simp] theorem hptErr_boot (s : State) : (hptErr s).boot = s.boot := rfl
@[simp] theorem hptErr_adm (s : State) : (hptErr s).adm = s.adm := rfl
@[simp] theorem hptErr_quad (s : State) : (hptErr s).quad = s.quad := rfl
@[simp] theorem hptErr_bank0 (s : State) : (hptErr s).bank0 = s.bank0 := rfl
@[simp] theorem hptErr_bank1 (s : State) : (hptErr s).bank1 = s.bank1 := rfl
@[simp] theorem hptErr_tables (s : State) : (hptErr s).tables = s.tables := rfl
@[simp] theorem hptErr_ports (s : State) : (hptErr s).ports = s.ports := rfl
@[simp] theorem hptErr_slices (s : State) : (hptErr s).slices = s.slices := rfl
@[simp] theorem hptErr_buf (s : State) : (hptErr s).buf = s.buf := rfl
@[simp] theorem hptErr_tm (s : State) : (hptErr s).tm = s.tm := rfl
@[simp] theorem hptErr_gate (s : State) : (hptErr s).gate = s.gate := rfl
@[simp] theorem hptErr_flows (s : State) : (hptErr s).flows = s.flows := rfl
@[simp] theorem hptErr_cap (s : State) : (hptErr s).cap = s.cap := rfl
@[simp] theorem hptErr_eng (s : State) : (hptErr s).eng = s.eng := rfl
@[simp] theorem hptErr_time (s : State) : (hptErr s).time = s.time := rfl
@[simp] theorem hptErr_otd (s : State) : (hptErr s).otd = s.otd := rfl
@[simp] theorem hptErr_sez (s : State) : (hptErr s).sez = s.sez := rfl
@[simp] theorem hptErr_hq (s : State) : (hptErr s).hq = s.hq := rfl
@[simp] theorem hptErr_dma (s : State) : (hptErr s).dma = s.dma := rfl
@[simp] theorem hptErr_irq (s : State) : (hptErr s).irq = s.irq := rfl
@[simp] theorem hptErr_pwr (s : State) : (hptErr s).pwr = s.pwr := rfl
@[simp] theorem hptErr_badger (s : State) : (hptErr s).badger = s.badger := rfl
@[simp] theorem hptErr_ctr (s : State) : (hptErr s).ctr = s.ctr := rfl
@[simp] theorem hptErr_hpt (s : State) : (hptErr s).hpt = { s.hpt with rsp := s.hpt.rsp ++ [⟨s.hpt.tag, 1, 0⟩] } := rfl
@[simp] theorem hptErr_out (s : State) : (hptErr s).out = s.out := rfl
@[simp] theorem hptErr_fresh (s : State) : (hptErr s).fresh = s.fresh := rfl
@[simp] theorem hptErr_pending (s : State) : (hptErr s).pending = s.pending := rfl

@[simp] theorem updUnit_build (u : Nat) (f : UnitRt → UnitRt) (s : State) : (updUnit u f s).build = s.build := rfl
@[simp] theorem updUnit_mb (u : Nat) (f : UnitRt → UnitRt) (s : State) : (updUnit u f s).mb = s.mb := rfl
@[simp] theorem updUnit_boot (u : Nat) (f : UnitRt → UnitRt) (s : State) : (updUnit u f s).boot = s.boot := rfl
@[simp] theorem updUnit_adm (u : Nat) (f : UnitRt → UnitRt) (s : State) : (updUnit u f s).adm = s.adm := rfl
@[simp] theorem updUnit_quad (u : Nat) (f : UnitRt → UnitRt) (s : State) : (updUnit u f s).quad = s.quad := rfl
@[simp] theorem updUnit_bank0 (u : Nat) (f : UnitRt → UnitRt) (s : State) : (updUnit u f s).bank0 = s.bank0 := rfl
@[simp] theorem updUnit_bank1 (u : Nat) (f : UnitRt → UnitRt) (s : State) : (updUnit u f s).bank1 = s.bank1 := rfl
@[simp] theorem updUnit_tables (u : Nat) (f : UnitRt → UnitRt) (s : State) : (updUnit u f s).tables = s.tables := rfl
@[simp] theorem updUnit_ports (u : Nat) (f : UnitRt → UnitRt) (s : State) : (updUnit u f s).ports = s.ports := rfl
@[simp] theorem updUnit_slices (u : Nat) (f : UnitRt → UnitRt) (s : State) : (updUnit u f s).slices = s.slices := rfl
@[simp] theorem updUnit_buf (u : Nat) (f : UnitRt → UnitRt) (s : State) : (updUnit u f s).buf = s.buf := rfl
@[simp] theorem updUnit_tm (u : Nat) (f : UnitRt → UnitRt) (s : State) : (updUnit u f s).tm = s.tm := rfl
@[simp] theorem updUnit_gate (u : Nat) (f : UnitRt → UnitRt) (s : State) : (updUnit u f s).gate = s.gate := rfl
@[simp] theorem updUnit_flows (u : Nat) (f : UnitRt → UnitRt) (s : State) : (updUnit u f s).flows = s.flows := rfl
@[simp] theorem updUnit_cap (u : Nat) (f : UnitRt → UnitRt) (s : State) : (updUnit u f s).cap = s.cap := rfl
@[simp] theorem updUnit_eng (u : Nat) (f : UnitRt → UnitRt) (s : State) : (updUnit u f s).eng = s.eng := rfl
@[simp] theorem updUnit_time (u : Nat) (f : UnitRt → UnitRt) (s : State) : (updUnit u f s).time = s.time := rfl
@[simp] theorem updUnit_otd (u : Nat) (f : UnitRt → UnitRt) (s : State) : (updUnit u f s).otd = s.otd := rfl
@[simp] theorem updUnit_sez (u : Nat) (f : UnitRt → UnitRt) (s : State) : (updUnit u f s).sez = s.sez := rfl
@[simp] theorem updUnit_hq (u : Nat) (f : UnitRt → UnitRt) (s : State) : (updUnit u f s).hq = s.hq := rfl
@[simp] theorem updUnit_dma (u : Nat) (f : UnitRt → UnitRt) (s : State) : (updUnit u f s).dma = s.dma := rfl
@[simp] theorem updUnit_irq (u : Nat) (f : UnitRt → UnitRt) (s : State) : (updUnit u f s).irq = s.irq := rfl
@[simp] theorem updUnit_pwr (u : Nat) (f : UnitRt → UnitRt) (s : State) : (updUnit u f s).pwr = s.pwr := rfl
@[simp] theorem updUnit_badger (u : Nat) (f : UnitRt → UnitRt) (s : State) : (updUnit u f s).badger = { s.badger with units := s.badger.units.upd u {} f } := rfl
@[simp] theorem updUnit_ctr (u : Nat) (f : UnitRt → UnitRt) (s : State) : (updUnit u f s).ctr = s.ctr := rfl
@[simp] theorem updUnit_hpt (u : Nat) (f : UnitRt → UnitRt) (s : State) : (updUnit u f s).hpt = s.hpt := rfl
@[simp] theorem updUnit_out (u : Nat) (f : UnitRt → UnitRt) (s : State) : (updUnit u f s).out = s.out := rfl
@[simp] theorem updUnit_fresh (u : Nat) (f : UnitRt → UnitRt) (s : State) : (updUnit u f s).fresh = s.fresh := rfl
@[simp] theorem updUnit_pending (u : Nat) (f : UnitRt → UnitRt) (s : State) : (updUnit u f s).pending = s.pending := rfl

@[simp] theorem updEngine_build (g : Nat) (f : EngineRt → EngineRt) (s : State) : (updEngine g f s).build = s.build := rfl
@[simp] theorem updEngine_mb (g : Nat) (f : EngineRt → EngineRt) (s : State) : (updEngine g f s).mb = s.mb := rfl
@[simp] theorem updEngine_boot (g : Nat) (f : EngineRt → EngineRt) (s : State) : (updEngine g f s).boot = s.boot := rfl
@[simp] theorem updEngine_adm (g : Nat) (f : EngineRt → EngineRt) (s : State) : (updEngine g f s).adm = s.adm := rfl
@[simp] theorem updEngine_quad (g : Nat) (f : EngineRt → EngineRt) (s : State) : (updEngine g f s).quad = s.quad := rfl
@[simp] theorem updEngine_bank0 (g : Nat) (f : EngineRt → EngineRt) (s : State) : (updEngine g f s).bank0 = s.bank0 := rfl
@[simp] theorem updEngine_bank1 (g : Nat) (f : EngineRt → EngineRt) (s : State) : (updEngine g f s).bank1 = s.bank1 := rfl
@[simp] theorem updEngine_tables (g : Nat) (f : EngineRt → EngineRt) (s : State) : (updEngine g f s).tables = s.tables := rfl
@[simp] theorem updEngine_ports (g : Nat) (f : EngineRt → EngineRt) (s : State) : (updEngine g f s).ports = s.ports := rfl
@[simp] theorem updEngine_slices (g : Nat) (f : EngineRt → EngineRt) (s : State) : (updEngine g f s).slices = s.slices := rfl
@[simp] theorem updEngine_buf (g : Nat) (f : EngineRt → EngineRt) (s : State) : (updEngine g f s).buf = s.buf := rfl
@[simp] theorem updEngine_tm (g : Nat) (f : EngineRt → EngineRt) (s : State) : (updEngine g f s).tm = s.tm := rfl
@[simp] theorem updEngine_gate (g : Nat) (f : EngineRt → EngineRt) (s : State) : (updEngine g f s).gate = s.gate := rfl
@[simp] theorem updEngine_flows (g : Nat) (f : EngineRt → EngineRt) (s : State) : (updEngine g f s).flows = s.flows := rfl
@[simp] theorem updEngine_cap (g : Nat) (f : EngineRt → EngineRt) (s : State) : (updEngine g f s).cap = s.cap := rfl
@[simp] theorem updEngine_eng (g : Nat) (f : EngineRt → EngineRt) (s : State) : (updEngine g f s).eng = { s.eng with rt := s.eng.rt.upd g {} f } := rfl
@[simp] theorem updEngine_time (g : Nat) (f : EngineRt → EngineRt) (s : State) : (updEngine g f s).time = s.time := rfl
@[simp] theorem updEngine_otd (g : Nat) (f : EngineRt → EngineRt) (s : State) : (updEngine g f s).otd = s.otd := rfl
@[simp] theorem updEngine_sez (g : Nat) (f : EngineRt → EngineRt) (s : State) : (updEngine g f s).sez = s.sez := rfl
@[simp] theorem updEngine_hq (g : Nat) (f : EngineRt → EngineRt) (s : State) : (updEngine g f s).hq = s.hq := rfl
@[simp] theorem updEngine_dma (g : Nat) (f : EngineRt → EngineRt) (s : State) : (updEngine g f s).dma = s.dma := rfl
@[simp] theorem updEngine_irq (g : Nat) (f : EngineRt → EngineRt) (s : State) : (updEngine g f s).irq = s.irq := rfl
@[simp] theorem updEngine_pwr (g : Nat) (f : EngineRt → EngineRt) (s : State) : (updEngine g f s).pwr = s.pwr := rfl
@[simp] theorem updEngine_badger (g : Nat) (f : EngineRt → EngineRt) (s : State) : (updEngine g f s).badger = s.badger := rfl
@[simp] theorem updEngine_ctr (g : Nat) (f : EngineRt → EngineRt) (s : State) : (updEngine g f s).ctr = s.ctr := rfl
@[simp] theorem updEngine_hpt (g : Nat) (f : EngineRt → EngineRt) (s : State) : (updEngine g f s).hpt = s.hpt := rfl
@[simp] theorem updEngine_out (g : Nat) (f : EngineRt → EngineRt) (s : State) : (updEngine g f s).out = s.out := rfl
@[simp] theorem updEngine_fresh (g : Nat) (f : EngineRt → EngineRt) (s : State) : (updEngine g f s).fresh = s.fresh := rfl
@[simp] theorem updEngine_pending (g : Nat) (f : EngineRt → EngineRt) (s : State) : (updEngine g f s).pending = s.pending := rfl

end Sys2Proof.Machine
end

