-- ==== Sys2Proof/WellFormed.lean ====
section
/-! DEFINITION. Which commands and events can come from outside: their numbers are in the ranges that the manual gives the units. -/

namespace Sys2Proof

/-- Ports 0 to 1 023 and host ports 1 024 to 1 087 (R1, R430). -/
def isPort (p : Nat) : Bool := p < 1088
/-- Slices 0 to 31 (R21). -/
def isSlice (s : Nat) : Bool := s < 32
/-- Queues 0 to 15 of a port (R271). -/
def isQ (q : Nat) : Bool := q < 16
/-- Priorities 0 to 7 (R138). -/
def isPrio (p : Nat) : Bool := p < 8
/-- Lanes 0 to 15 of a slice (R45). -/
def isLane (k : Nat) : Bool := k < 16
/-- Sub-ports 0 to 3 of a lane (R46). -/
def isSub (j : Nat) : Bool := j < 4
/-- Queue numbers below 4 352 (R403). -/
def isQueue (q : Nat) : Bool := q < 4352
/-- Ring numbers below 4 352 (R403). -/
def isRing (r : Nat) : Bool := r < 4352
/-- Host targets 0 to 63 (R61). -/
def isTarget (t : Nat) : Bool := t < 64
/-- DMA channels 0 to 63 (R438). -/
def isChannel (c : Nat) : Bool := c < 64
/-- SET_ID 1 to 65 535 (R95). -/
def isSet (i : Nat) : Bool := 0 < i && i < 65536
/-- Engines 0 to 127 (R22). -/
def isEngine (g : Nat) : Bool := g < 128
/-- Power domains 0 to 66 (R67). -/
def isDomain (d : Nat) : Bool := d < 67
/-- Snapshot slots 0 to 3 (R157). -/
def isSnapSlot (k : Nat) : Bool := k < 4
/-- Timers 0 to 15 (R178). -/
def isTimer (t : Nat) : Bool := t < 16
/-- Shared interrupt sources 0 to 4 095 (R449). -/
def isSource (i : Nat) : Bool := i < 4096
/-- Words 0 to 127 of the shared source sets (R452). -/
def isSourceWord (k : Nat) : Bool := k < 128
/-- Instances 0 to 511 (R344). -/
def isInstance (i : Nat) : Bool := i < 512
/-- Redundancy nodes 0 to 31 (R341). -/
def isNode (n : Nat) : Bool := n < 32

/-- A command's envelope holds what its fields can hold, and its payload at most 65 536 bytes (R91, R95). -/
def Env.wf (e : Env) : Bool := e.setId < 65536 && e.plen < 65536 && e.payload.length ≤ 65536

/-- A received frame: a port, bytes no longer than the largest frame of R125 with the FCS, a hint of 8 bits, a first byte within the word. -/
def RxFrame.wf (f : RxFrame) : Bool := isPort f.port && f.bytes.length ≤ 65536 && f.hint < 256 && f.sofIndex < 128

/-- A fetched entry: 32 or 64 bytes. -/
def Fetched.wf (f : Fetched) : Bool := f.bytes.length = 32 || f.bytes.length = 64

/-- A command or event that can come from outside. -/
def Instr.wf : Instr → Bool
  | .sysInfo e => Env.wf e
  | .sysAdminqSet e => Env.wf e
  | .sysResetWarm e => Env.wf e
  | .sysResetCold e => Env.wf e
  | .sysResetSlice e => Env.wf e
  | .sysResetCtl e => Env.wf e
  | .sysEventCfg e => Env.wf e
  | .sysJournalStatus e => Env.wf e
  | .sysNop e => Env.wf e
  | .sysPatchLoad e => Env.wf e
  | .quadOpen e => Env.wf e
  | .quadCheck e => Env.wf e
  | .quadApplyNow e => Env.wf e
  | .quadApplyAtTime e => Env.wf e
  | .quadApplyAtDomain e => Env.wf e
  | .quadAbort e => Env.wf e
  | .quadStatus e => Env.wf e
  | .portCfg e => Env.wf e
  | .portAdminUp e => Env.wf e
  | .portAdminDown e => Env.wf e
  | .portStatus e => Env.wf e
  | .portCounters e => Env.wf e
  | .portFc e => Env.wf e
  | .portPreempt e => Env.wf e
  | .portEee e => Env.wf e
  | .portWakeFilter e => Env.wf e
  | .portLinkHold e => Env.wf e
  | .parseNodeSet e => Env.wf e
  | .parseNodeGet e => Env.wf e
  | .parseGraphDefault e => Env.wf e
  | .parseCounters e => Env.wf e
  | .tableCreate e => Env.wf e
  | .tableDelete e => Env.wf e
  | .entryWrite e => Env.wf e
  | .entryDelete e => Env.wf e
  | .entryRead e => Env.wf e
  | .keyProfileSet e => Env.wf e
  | .tableDump e => Env.wf e
  | .progLoad e => Env.wf e
  | .progUnload e => Env.wf e
  | .progBindMap e => Env.wf e
  | .progBindDefault e => Env.wf e
  | .engineStatus e => Env.wf e
  | .engineReset e => Env.wf e
  | .constSet e => Env.wf e
  | .scratchRead e => Env.wf e
  | .poolCreate e => Env.wf e
  | .poolDelete e => Env.wf e
  | .flowMinSet e => Env.wf e
  | .sharedLimitSet e => Env.wf e
  | .bufStatus e => Env.wf e
  | .cutThroughSet e => Env.wf e
  | .vlanSetVlan e => Env.wf e
  | .vlanSetPort e => Env.wf e
  | .macAdd e => Env.wf e
  | .macDelete e => Env.wf e
  | .macFlush e => Env.wf e
  | .learnCfgGlobal e => Env.wf e
  | .learnCfgPort e => Env.wf e
  | .mcastGroupSet e => Env.wf e
  | .lagSet e => Env.wf e
  | .macDump e => Env.wf e
  | .queueMapSet e => Env.wf e
  | .schedSet e => Env.wf e
  | .shaperSet e => Env.wf e
  | .policerSet e => Env.wf e
  | .streamFilterSet e => Env.wf e
  | .sampleCfg e => Env.wf e
  | .tmStatus e => Env.wf e
  | .gateListSet e => Env.wf e
  | .gateEnableOn e => Env.wf e
  | .gateEnableOff e => Env.wf e
  | .gateStatus e => Env.wf e
  | .gateOverheadSet e => Env.wf e
  | .flowAdd e => Env.wf e
  | .flowModify e => Env.wf e
  | .flowDelete e => Env.wf e
  | .flowRead e => Env.wf e
  | .flowCounters e => Env.wf e
  | .prpHsrSet e => Env.wf e
  | .stampPortCfg e => Env.wf e
  | .calRecordSet e => Env.wf e
  | .calRun e => Env.wf e
  | .ptpPortCfg e => Env.wf e
  | .timerSet e => Env.wf e
  | .ppsCfg e => Env.wf e
  | .syntCfg e => Env.wf e
  | .sezalCfg e => Env.wf e
  | .domainPortSet e => Env.wf e
  | .sezalStatus e => Env.wf e
  | .sezalMembers e => Env.wf e
  | .sezalResyncFollow e => Env.wf e
  | .sezalResyncForceApply e => Env.wf e
  | .sezalResyncForceDiscard e => Env.wf e
  | .keeperPrioSet e => Env.wf e
  | .ringCreate e => Env.wf e
  | .qpCreate e => Env.wf e
  | .cqCreate e => Env.wf e
  | .queueDisable e => Env.wf e
  | .queueEnable e => Env.wf e
  | .queueDestroy e => Env.wf e
  | .queueReset e => Env.wf e
  | .queueStatus e => Env.wf e
  | .rxFilterSet e => Env.wf e
  | .rssSet e => Env.wf e
  | .offloadSet e => Env.wf e
  | .pwrStateSet e => Env.wf e
  | .hibernate e => Env.wf e
  | .wakeSrcSet e => Env.wf e
  | .pwrStatus e => Env.wf e
  | .drainLimitSet e => Env.wf e
  | .badgerCfg e => Env.wf e
  | .badgerWindow e => Env.wf e
  | .badgerRun e _ _ => Env.wf e
  | .badgerStatus e => Env.wf e
  | .loopbackCal e => Env.wf e
  | .foxtrotRingSet e => Env.wf e
  | .capRuleSet e => Env.wf e
  | .mirrorSet e => Env.wf e
  | .capEnable e => Env.wf e
  | .memRead e => Env.wf e
  | .errCounters e => Env.wf e
  | .faultLog e => Env.wf e
  | .isolate e => Env.wf e
  | .restore e _ => Env.wf e
  | .osysInfo e => Env.wf e
  | .osysStatus e => Env.wf e
  | .otimeRead e => Env.wf e
  | .otimeSetInc e => Env.wf e
  | .otimeStep e => Env.wf e
  | .otimeAuthority e => Env.wf e
  | .omapSet e => Env.wf e
  | .omapRead e => Env.wf e
  | .omapClear e => Env.wf e
  | .orecordRingSet e => Env.wf e
  | .orecordInterval e => Env.wf e
  | .orecordStatus e => Env.wf e
  | .osealStatus e => Env.wf e
  | .osealSeal e => Env.wf e
  | .osealUnseal e => Env.wf e
  | .ologRead e => Env.wf e
  | .ologAck e => Env.wf e
  | .mbGo _ => true
  | .mbAck _ => true
  | .mbCmdWrite _ _ => true
  | .mbCommandDone => true
  | .ombGo _ => true
  | .ombAck _ => true
  | .oringConsWrite _ => true
  | .snapTimeLoRead slot _ => isSnapSlot slot
  | .ppsGlitchRead => true
  | .registerWrite _ _ _ _ _ => true
  | .sqDb queue _ => isQueue queue
  | .cqDb ring _ => isRing ring
  | .entryFetch queue entry => isQueue queue && Fetched.wf entry
  | .phaseRetry queue entry => isQueue queue && Fetched.wf entry
  | .tx queue => isQueue queue
  | .nop queue => isQueue queue
  | .alloc queue _ => isQueue queue
  | .share queue _ => isQueue queue
  | .release queue _ => isQueue queue
  | .handover queue _ => isQueue queue
  | .free queue _ => isQueue queue
  | .headWb queue => isQueue queue
  | .headWbAck queue => isQueue queue
  | .completionWrite queue _ => isQueue queue
  | .completionAck queue _ => isQueue queue
  | .txHostInject queue => isQueue queue
  | .rxDispatch port q => isPort port && isQ q
  | .rxWaitExpiry port q => isPort port && isQ q
  | .rxFrame frame => RxFrame.wf frame
  | .strayWord slice lane sub => isSlice slice && isLane lane && isSub sub
  | .pauseExpiry port prio => isPort port && isPrio prio
  | .denDrain slice => isSlice slice
  | .classify slice _ => isSlice slice
  | .cellWrite slice _ => isSlice slice
  | .xoffRefresh port prio => isPort port && isPrio prio
  | .admitFrame slice _ => isSlice slice
  | .handoff _ slice _ => isSlice slice
  | .gapTimeout slice _ => isSlice slice
  | .schedRelease port _ => isPort port
  | .e3Pass port _ => isPort port
  | .txStart port _ => isPort port
  | .txDone port => isPort port
  | .txStomp port _ => isPort port
  | .txHint port _ _ => isPort port
  | .hintMissing port => isPort port
  | .stall port => isPort port
  | .doneLogConsume slice => isSlice slice
  | .sliceCoreRecover slice => isSlice slice
  | .ageScan slice => isSlice slice
  | .lpiEnter port => isPort port
  | .lpiExit port => isPort port
  | .preemptVerify port _ => isPort port
  | .linkFault port _ => isPort port
  | .linkFaultClear port => isPort port
  | .linkUp port => isPort port
  | .linkHoldExpiry port => isPort port
  | .learnApply => true
  | .macAgeScan => true
  | .freezeExpiry _ _ => true
  | .mcastStoreExpiry slice _ => isSlice slice
  | .sample port => isPort port
  | .foxtrotRecordWrite ring => isRing ring
  | .foxtrotConsPoll ring _ => isRing ring
  | .coalesceTimer _ _ => true
  | .owlTick _ => true
  | .servoInc _ => true
  | .servoStep _ _ _ => true
  | .timerFire timer => isTimer timer
  | .ppsInEdge _ => true
  | .ppsOutEdge => true
  | .ppsOutFall => true
  | .calEval _ => true
  | .thermEval _ => true
  | .calRequestRx port _ _ => isPort port
  | .calRequestTx port => isPort port
  | .calReplyRx port _ => isPort port
  | .calExchangeTimeout port => isPort port
  | .calFail port => isPort port
  | .quadArmed set => isSet set
  | .quadFlip set => isSet set
  | .normalise set => isSet set
  | .quadIdleLimit set => isSet set
  | .gateListStart port => isPort port
  | .gateEntry port => isPort port
  | .holdAssert port => isPort port
  | .helloTx port => isPort port
  | .helloRx port _ => isPort port
  | .adjacencyTimeout port => isPort port
  | .memberTx => true
  | .memberRx port _ => isPort port
  | .leaveRx port _ => isPort port
  | .memberAge inst => isInstance inst
  | .syncReqTx _ => true
  | .syncReqRx port _ _ => isPort port
  | .syncRespRx port _ _ => isPort port
  | .holdoverExpiry => true
  | .proposeRepeat => true
  | .proposeRx port _ => isPort port
  | .voteRepeat => true
  | .voteRx port _ => isPort port
  | .voteDeadline => true
  | .outcomeRepeat => true
  | .outcomeRx port _ => isPort port
  | .outcomeQueryRx port _ => isPort port
  | .applyTimeNoOutcome set => isSet set
  | .intervalBoundary => true
  | .tapSummary _ => true
  | .otdRecordWriteAck => true
  | .otdRecordRetry => true
  | .unsealBlockExpiry => true
  | .sealSwitchChange _ => true
  | .otdPowerOn _ _ => true
  | .keyWord _ => true
  | .keyTimeout => true
  | .powerOnReset => true
  | .coldReset => true
  | .warmReset => true
  | .boot _ => true
  | .journalReplay => true
  | .debugEnChange _ => true
  | .vretLost => true
  | .pllFault _ _ => true
  | .brownOut => true
  | .brownOutEnd => true
  | .wakeReq => true
  | .retryFailed => true
  | .boAck => true
  | .autoSleepAsk domain => isDomain domain
  | .askAnswer domain _ _ => isDomain domain
  | .drainTimeout domain => isDomain domain
  | .badgerDelayEnd domain => isDomain domain
  | .sleepEntry domain => isDomain domain
  | .pswLate domain => isDomain domain
  | .wake domain => isDomain domain
  | .pswAck domain => isDomain domain
  | .regReady => true
  | .pllLock => true
  | .wakeTimeout domain _ => isDomain domain
  | .owlLatchEdge source => isSource source
  | .dmaGo ch => isChannel ch
  | .dmaShadowWrite ch _ _ => isChannel ch
  | .dmaLoad ch => isChannel ch
  | .dmaZeroLenDone ch => isChannel ch
  | .dmaBurstResponse ch _ => isChannel ch
  | .dmaAbort ch => isChannel ch
  | .dmaResume ch => isChannel ch
  | .dmaClear ch => isChannel ch
  | .chCauseRead ch => isChannel ch
  | .sliceCauseRead slice => isSlice slice
  | .sliceLinkRead slice => isSlice slice
  | .eventTake => true
  | .eventEoi slice _ => isSlice slice
  | .claim target => isTarget target
  | .eoi target _ => isTarget target
  | .pendSet k _ => isSourceWord k
  | .pendClr k _ => isSourceWord k
  | .enSet k _ => isSourceWord k
  | .enClr k _ => isSourceWord k
  | .srcCfgWrite source _ => isSource source
  | .privPendSet target _ => isTarget target
  | .privPendClr target _ => isTarget target
  | .privEnSet target _ => isTarget target
  | .privEnClr target _ => isTarget target
  | .targetCountsRead target => isTarget target
  | .tgtAwakeChange target _ => isTarget target
  | .wakeWaitExpiry source => isSource source
  | .msgWriteRetry target => isTarget target
  | .badgerSlot _ _ => true
  | .badgerOverdue _ => true
  | .badgerWindowEnd => true
  | .relocateDone _ _ => true
  | .rebuildDone _ => true
  | .engineFault engine _ => isEngine engine
  | .engineResetDone engine => isEngine engine
  | .sliceCoreFault slice => isSlice slice
  | .lockstepMismatch => true
  | .ctlRestartDone => true
  | .controlRamFault => true
  | .vretGoodRestored => true
  | .testAccess => true
  | .resyncFollowTimeout => true
  | .duplicateEntryForget node _ => isNode node
  | .partnerLpi port _ => isPort port

end Sys2Proof
end

