-- ==== Sys2Proof/Tests/Slice0.lean ====
section
/-! SUPPORT. Tests of the model, and for every statement of Certificates/Slice0/Obligations.lean that has hypotheses concrete operands and states that meet them:
the conjuncts of witness_<Name> stand in the order of the clauses of <Name>. -/

namespace Sys2Proof.Tests

open Sys2Proof Sys2Proof.Machine

set_option Elab.async false

/-- An immediate command on the boot mailbox. -/
def cmd (payload : List Byte) : Env := ⟨.mailbox, 0, 1, 0, payload.length, 7, 0, payload, false⟩

/-- A command whose payload PTR points at. -/
def cmdPtr (payload : List Byte) : Env := { cmd payload with flags := 4, plen := 12 }

/-- A command staged into set 1. -/
def stagedCmd (payload : List Byte) : Env := { cmd payload with flags := 1, setId := 1 }

/-- A command on the Otdiuri mailbox. -/
def ocmd (payload : List Byte) : Env := { cmd payload with path := .otd }

/-- Zero bytes. -/
def zeros (n : Nat) : List Byte := List.replicate n 0

/-- Reset, with a change made to the configuration. -/
def withCfg (f : Cfg → Cfg) : State := updCfg f State.reset

/-- Port 0 as PORT_CFG sets it: SPEED 3 on one lane. -/
def portZero : PortCfg := ⟨3, 0, 0, 1, 0, false, 1518⟩

/-- A port up and running: port 0. -/
def lit : State := { withCfg (fun c => { c with ports := [(0, portZero)] }) with ports := [(0, { admin := true, link := .up })], pwr := { dom := [(0, {})] } }

/-- A state at a RAW_T in ns. -/
def atNs (n : Nat) (s : State) : State := { s with time := { s.time with raw := BitVec.ofNat 80 (n * 65536) } }

/-- The state that an outcome goes on in. -/
def nextOf : Host.Outcome State Fault Refusal → Option State
  | .next s => some s
  | _ => none


/-- A command's turn has come and none of its checks fails. -/
abbrev cmdRuns (op : Nat) (len : Nat → Bool) (chk : Chk) (e : Env) (s : State) : Prop := inTurn e s = true ∧ cmdVerdict op len chk e s = none

/-- A stageable command's turn has come and none of its checks fails. -/
abbrev stageRuns (op : Nat) (len : Nat → Bool) (ch : Change) (chk : State → Chk) (e : Env) (s : State) : Prop :=
  inTurn e s = true ∧ stageVerdict op len ch chk e s = none
/-! The statements about every step, time and the mailboxes. -/

/-- A CLAIM waits for HST, in a state of its domain. -/
def claimWaits (st : DomState) (fail : Bool) : State :=
  { State.reset with hpt := { waiting := [(3, .claim 0)] }, pwr := { State.reset.pwr with dom := [(66, { st := st, wakeFail := fail })] } }

theorem witness_StepRunsFrontCommand : { State.reset with pending := [.boAck, .eventTake] }.pending = .boAck :: [.eventTake] ∧ State.reset.hpt.waiting = []
    ∧ ((claimWaits .doze false).hpt.waiting = (3, .claim 0) :: [] ∧ (dom (claimWaits .doze false) 66).wakeFail = false ∧ (dom (claimWaits .doze false) 66).st ≠ .run)
    ∧ ((dom (claimWaits .run false) 66).st = .run ∧ (nextOf (runAccess (.claim 0) { claimWaits .run false with hpt := { tag := 3, waiting := [] } })).isSome = true)
    ∧ (dom (claimWaits .doze true) 66).wakeFail = true := by decide +kernel

/-- A request that waited is answered with its own tag once HST runs. -/
theorem test_waiting_claim_answers : (nextOf (step (claimWaits .run false))).map (fun t => t.hpt) = some { rsp := [⟨3, 0, 0x0FFF⟩] } := by decide +kernel

/-- Reset with the last byte of the command page written. -/
def lastByte : State := { State.reset with mb := { cmd := [(255, 1)] }, pending := [.mbCmdWrite 255 [0]] }

theorem witness_EveryStepKeepsInvariant : lastByte.Inv ∧ (nextOf (step lastByte)).isSome = true := by
  unfold State.Inv pageOk
  decide +kernel

theorem witness_BuildNeverChanges : (nextOf (step { State.reset with pending := [.boAck] })).isSome = true := by decide +kernel

theorem witness_EveryCommandKeepsItsFrame : (nextOf (exec .boAck State.reset)).isSome = true ∧ StatePart.quad ∉ mayChange .boAck := by decide +kernel

theorem witness_TimeCounters : (nextOf (exec .boAck State.reset)).isSome = true := by decide +kernel

/-- Otdiuri as it reads its key. -/
def keyRead (words : List Word) : State := { State.reset with otd := { State.reset.otd with start := .keyRead, keyReq := some 0, keyWords := words } }

theorem witness_OtdPowerOnStartsTime : (keyRead [0, 0, 0, 0, 0, 0, 0]).otd.start = .keyRead ∧ (keyRead [0, 0, 0, 0, 0, 0, 0]).otd.keyReq = some 0
    ∧ (keyRead [0, 0, 0, 0, 0, 0, 0]).otd.cells < 16383 ∧ (keyRead [0, 0, 0, 0, 0, 0, 0]).otd.keyWords.length = 7
    ∧ (nextOf (exec .coldReset State.reset)).isSome = true := by decide +kernel

theorem witness_ResponsesOnTheirPath : (0x0106 < 2 ^ 16 ∧ 0 < 2 ^ 8) ∧ (cmd []).path = .mailbox ∧ ({ cmd [] with path := .admin 3 }).path = .admin 3
    ∧ (noRsp { cmd [] with path := .admin 3 } && decide ((okV []).status = 0)) = false ∧ noRsp { cmd [] with path := .admin 3, flags := 2 } = true
    ∧ (ocmd []).path = .otd ∧ tookEffect 0x0C = true ∧ tookEffect 0x08 = false := by decide +kernel

theorem witness_RefusedCommandsChangeNothing :
    (∃ t r took, exec (.sysInfo (cmd [0])) State.reset = .next t ∧ t.mb.ready = some (r, took) ∧ r.status = 0x03 ∧ commandOf (.sysInfo (cmd [0])) = some (0x0101, cmd [0]))
    ∧ ∃ t r, exec (.otimeRead (ocmd [0])) State.reset = .next t ∧ t.otd.done = true ∧ t.otd.orsp = some r ∧ r.status = 0x03
      ∧ commandOf (.otimeRead (ocmd [0])) = some (0x8101, ocmd [0]) := by
  refine ⟨⟨_, _, _, rfl, rfl, ?_, ?_⟩, ⟨_, _, rfl, ?_, rfl, ?_, ?_⟩⟩ <;> decide +kernel

/-- A change that configures port 0's flow control. -/
def fcPay : List Byte := leB 2 0 ++ leB 2 0 ++ leB 2 0 ++ leB 2 9 ++ leB 4 1 ++ leB 4 0 ++ leB 2 9 ++ leB 2 0

/-- The same change as a set holds it. -/
def fcChange (e : Env) : Change := ⟨.portFc e, [⟨0x0305, ePort e, 0⟩], false, true⟩

/-- Port 0 and two open sets, 1 empty and 2 with a change of port 0's flow control. -/
def twoSets : State := { lit with quad := { lit.quad with sets := [{ id := 1, domain := false, idleLimit := 0 },
  { id := 2, domain := false, idleLimit := 0, changes := [fcChange (stagedCmd fcPay)] }] } }

theorem witness_ClaimedTargetConflicts :
    (envVerdict 0x0305 true (lenIs 20) (cmd fcPay) twoSets = none ∧ (portFcChk (cmd fcPay) twoSets).present = true
      ∧ (portFcChk (cmd fcPay) twoSets).fields.find? (fun f => !f.2) = none ∧ (fcChange (cmd fcPay)).claims = (fcChange (stagedCmd fcPay)).claims
      ∧ twoSets.quad.sets.any (fun q => q.live && decide (q.id ≠ (cmd fcPay).setId) && decide (fcChange (stagedCmd fcPay) ∈ q.changes)) = true)
    ∧ ∃ s : State, ∃ q, findSet s 1 = some q ∧ q.st = .voting ∧ envVerdict 0x0305 true (lenIs 20) (stagedCmd fcPay) s = none
      ∧ (portFcChk (stagedCmd fcPay) (setView 1 s)).present = true ∧ (portFcChk (stagedCmd fcPay) (setView 1 s)).fields.find? (fun f => !f.2) = none
      ∧ claimHolder s 1 (fcChange (stagedCmd fcPay)).claims = none ∧ (portFcChk (stagedCmd fcPay) (setView 1 s)).busy = none :=
  ⟨by decide +kernel, { lit with quad := { lit.quad with sets := [{ id := 1, domain := false, idleLimit := 0, st := .voting }] } },
    { id := 1, domain := false, idleLimit := 0, st := .voting }, by decide +kernel⟩

theorem witness_StagedCommandsKeepTheBanks : stageEnv (.portFc (stagedCmd fcPay)) = some (stagedCmd fcPay) ∧ staged (stagedCmd fcPay) = true
    ∧ (nextOf (exec (.portFc (stagedCmd fcPay)) twoSets)).isSome = true := by decide +kernel

/-- Set 1 armed, its arming over. -/
def armedSet : State := atNs 1 { State.reset with quad := { sets := [{ id := 1, domain := false, idleLimit := 0, st := .armed }], parity := false } }

theorem witness_FlipPutsTheOtherBankInForce : (findSet armedSet 1).any (flipDue armedSet) = true ∧ (nextOf (exec (.quadFlip 1) armedSet)).isSome = true := by decide +kernel

/-- The boot mailbox with its page locked. -/
def lockedPage : State := { State.reset with boot := { State.reset.boot with ready := true }, mb := { busy := true, locked := true } }

theorem witness_MailboxTurnsAway : hptServed true State.reset = true ∧ (dom State.reset 65).wakeFail = false ∧ (dom State.reset 66).wakeFail = false ∧ State.reset.boot.ready = false
    ∧ (1#32).getLsbD 0 = true ∧ hptServed true lockedPage = true ∧ (dom lockedPage 65).wakeFail = false ∧ (dom lockedPage 66).wakeFail = false ∧ lockedPage.mb.busy = true
    ∧ lockedPage.mb.locked = true := by decide +kernel

/-- The boot mailbox with the response of a SYS_NOP. -/
def answered : State := { lockedPage with mb := { lockedPage.mb with ready := some (⟨0x0106, 0, 0, 0, 0, []⟩, true) } }

theorem witness_MailboxProtocol : hptServed true State.reset = true ∧ (dom State.reset 65).wakeFail = false ∧ (dom State.reset 66).wakeFail = false ∧ State.reset.mb.locked = false
    ∧ lockedPage.mb.locked = true ∧ Memory.wf State.reset.mb.cmd = true ∧ (253 + 3 ≤ 256) ∧ answered.mb.ready.isSome = true
    ∧ answered.mb.doneIrq = false ∧ { answered.mb with doneIrq := true }.doneIrq = true := by decide +kernel

theorem witness_MailboxProtocol_known : mailboxUnknown answered = answered := if_neg (by decide +kernel)

/-- Reset with HST and CTL in a state each. -/
def wakeDomains (hst ctl : Dom) : State := { State.reset with pwr := { State.reset.pwr with dom := [(65, ctl), (66, hst)] } }

theorem witness_RegisterWriteAnswers :
    ((pageOf State.reset 0).1 = .ident ∧ owlServed .ident = true ∧ (pageOf State.reset 0x1000).1 = .mailbox ∧ owlServed .mailbox = false
      ∧ hptServed true State.reset = true ∧ hptServed true (wakeDomains { st := .doze } {}) = false ∧ (dom (wakeDomains { st := .doze, wakeFail := true } {}) 66).wakeFail = true
      ∧ hptServed true (wakeDomains {} { wakeFail := true }) = true ∧ (dom (wakeDomains {} { wakeFail := true }) 65).wakeFail = true)
    ∧ ((3#8 ≠ 0x0F) ∧ (3#8 ≠ 0xF0) ∧ (3#8 ≠ 0xFF)) ∧ ((pageOf State.reset (0x100000 % 2 ^ 26 / 8 * 8)).1 = .debug ∧ State.reset.boot.debugEn = false)
    ∧ { State.reset with boot := { State.reset.boot with debugEn := true } }.boot.debugEn = true
    ∧ ((pageOf State.reset (0x3000 % 2 ^ 26 / 8 * 8)).1 ≠ .debug ∧ (0x3000, 0#32) ∈ requestWords (0x3000 % 2 ^ 26 / 8 * 8) 0x0F 0 ∧ mapped State.reset 0x3000 = false)
    ∧ ((pageOf State.reset (0x1200 % 2 ^ 26 / 8 * 8)).1 ≠ .debug ∧ ∀ w, w ∈ requestWords (0x1200 % 2 ^ 26 / 8 * 8) 0x0F 1 → mapped State.reset w.1 = true)
    ∧ (readEffect State.reset 0).isNone = true ∧ (pageOf State.reset 0xFFC).1 = .ident ∧ (pageOf State.reset 0x4FFC).1 = .time := by decide +kernel

/-- A read and a write of HPT are answered with the tag of the request, at the lowest page, at a page HST serves, and where nothing is mapped. -/
theorem test_requests_answer_their_tag :
    (nextOf (exec (.registerWrite 0x1200 0x0F 0 false 5) State.reset)).map (fun t => t.hpt.rsp.map HptRsp.id) = some [5]
    ∧ (nextOf (exec (.registerWrite 0x3000 0xFF 0 true 6) State.reset)).map (fun t => t.hpt.rsp) = some [⟨6, 2, 0⟩] := by decide +kernel

/-- The domain's time in holdover, for HOLDOVER's last ns. -/
def holding : State := atNs 1000000000 { State.reset with sez := { State.reset.sez with time := .holdover } }

/-- A block that has booted. -/
def booted : State := { State.reset with boot := { State.reset.boot with owed := 0, ready := true } }

theorem witness_ResetsComplete : (nextOf (exec .coldReset booted)).isSome = true ∧ State.reset.boot.owed = 1 ∧ (booted.boot.owed ≠ 1 ∧ booted.pwr.block = .run)
    ∧ ({ booted.pwr with block := .hibernate }).block ≠ .run ∧ (holding.sez.time = .holdover ∧ holding.sez.holdSince + 1000000000 ≤ rawNs holding)
    ∧ (rawNs { holding with time := State.reset.time } < holding.sez.holdSince + 1000000000) ∧ State.reset.sez.time ≠ .holdover := by decide +kernel

/-- A journalled SYS_NOP that is not done. -/
def replaying : State := { booted with adm := { booted.adm with replayOwed := true, journal := [{ index := 0, opcode := 0x0106, env := { cmd [] with path := .admin 0 }, again := true }] } }

theorem witness_BootAndReplay : (State.reset.badger.ctlHeld = 0 ∧ State.reset.boot.owed = 1) ∧ (replaying.adm.replayOwed = true ∧ replaying.boot.ready = true)
    ∧ (replayTodo replaying).length = 1 ∧ replayTodo booted = [] := by decide +kernel

/-- SYS_ADMINQ_SET: 16 entries, vector 256. -/
def adminPay : List Byte := zeros 32 ++ leB 4 16 ++ leB 2 256 ++ leB 2 0

theorem witness_SysCommandsComplete : cmdRuns 0x0101 (lenIs 0) {} (cmd []) State.reset
    ∧ cmdRuns 0x0102 (lenIs 40) (sysAdminqSetChk (cmd adminPay) State.reset) (cmd adminPay) State.reset
    ∧ cmdRuns 0x0103 (lenIs 4) (resetChk 0 (cmd [0, 0, 0, 0]) lit) (cmd [0, 0, 0, 0]) lit
    ∧ cmdRuns 0x0103 (lenIs 4) (resetChk 1 (cmd [1, 0, 0, 0]) { lit with boot := { lit.boot with owed := 0 } }) (cmd [1, 0, 0, 0]) { lit with boot := { lit.boot with owed := 0 } }
    ∧ cmdRuns 0x0103 (lenIs 4) (resetChk 2 (cmd [2, 0, 31, 0]) lit) (cmd [2, 0, 31, 0]) lit
    ∧ cmdRuns 0x0103 (lenIs 4) (resetChk 3 (cmd [3, 0, 0, 0]) lit) (cmd [3, 0, 0, 0]) lit
    ∧ cmdRuns 0x0105 (lenIs 0) {} (cmd []) State.reset ∧ cmdRuns 0x0106 (fun _ => !ptr (cmd [])) {} (cmd []) State.reset
    ∧ cmdRuns 0x0107 (fun _ => ptr (cmdPtr [0])) {} (cmdPtr [0]) State.reset := by decide +kernel

/-! The statements about Quadrille and the settings that can be staged. -/

/-- One set of ID 1. -/
def oneSet (st : SetSt) : State := { State.reset with quad := { sets := [{ id := 1, domain := false, idleLimit := 0, st := st }], parity := false } }

/-- A domain's set of ID 1, checked, in a block that takes part in its domain. -/
def domainSet : State := { State.reset with
  quad := { sets := [{ id := 1, domain := true, idleLimit := 0, st := .checked }], parity := false }
  sez := { State.reset.sez with enabled := true, time := .locked, present := [0, 4] } }

/-- QUAD_APPLY's payload: set 1, the mode, APPLY_TIME, the deadline. -/
def applyPay (mode time deadline : Nat) : List Byte := leB 2 1 ++ leB 1 mode ++ leB 1 0 ++ leB 8 time ++ leB 8 deadline

/-- The block waits for READY of arming set 1. -/
def applyingSet : State := { State.reset with quad := { sets := [{ id := 1, domain := false, idleLimit := 0, st := .checked, applying := true }], parity := false } }

theorem witness_QuadrilleCommandsComplete : cmdRuns 0x0201 (lenIs 8) (quadOpenChk (cmd (leB 2 1 ++ zeros 6)) State.reset) (cmd (leB 2 1 ++ zeros 6)) State.reset
    ∧ ((findSet (oneSet .opened) 1).any (fun q => !gateWaits (oneSet .opened) q && setLoose q && decide (judgeSet (retryHeld 1 (nameSet 1 (oneSet .opened))) q 0 = none)) = true
      ∧ cmdRuns 0x0202 (lenIs 4) {} (cmd (leB 2 1 ++ zeros 2)) (oneSet .opened))
    ∧ (findSet (oneSet .checked) 1).any (fun q => decide (cmdRuns 0x0203 (lenIs 20) (applyChk (cmd (applyPay 0 0 0)) 0 (some q) (oneSet .checked)) (cmd (applyPay 0 0 0)) (oneSet .checked))
      && decide (judgeSet (retryHeld 1 (nameSet 1 (oneSet .checked))) q 0 = none)) = true
    ∧ (findSet (oneSet .checked) 1).any (fun q => decide (cmdRuns 0x0203 (lenIs 20) (applyChk (cmd (applyPay 1 20000 0)) 1 (some q) (oneSet .checked)) (cmd (applyPay 1 20000 0)) (oneSet .checked))
      && decide (judgeSet (retryHeld 1 (nameSet 1 (oneSet .checked))) q 0 = none) && decide ((armBound q : Int) ≤ timeAhead (oneSet .checked) 20000)) = true
    ∧ (findSet domainSet 1).any (fun q => decide (cmdRuns 0x0203 (lenIs 20) (applyChk (cmd (applyPay 2 2000000 1000000)) 2 (some q) domainSet) (cmd (applyPay 2 2000000 1000000)) domainSet)
      && decide (judgeSet (retryHeld 1 (nameSet 1 domainSet)) q 0 = none) && decide (1000000 ≤ timeAhead domainSet 1000000)
      && decide (timeAhead domainSet 1000000 + 1000000 ≤ timeAhead domainSet 2000000)) = true
    ∧ ((findSet (oneSet .checked) 1).isSome = true ∧ cmdRuns 0x0204 (lenIs 2) {} (cmd (leB 2 1)) (oneSet .checked))
    ∧ ((findSet (oneSet .voting) 1).isSome = true ∧ cmdRuns 0x0205 (lenIs 2) {} (cmd (leB 2 1)) (oneSet .voting)) := by decide +kernel

/-- Set 1 loose with an idle limit of a second that has passed. -/
def idleSet : State := atNs 1000000000 { State.reset with quad := { sets := [{ id := 1, domain := false, idleLimit := 1 }], parity := false } }

theorem witness_QuadrilleEventsComplete : ((findSet applyingSet 1).any QSet.applying = true ∧ mayArm applyingSet 1 = true)
    ∧ (findSet armedSet 1).any (flipDue armedSet) = true
    ∧ ((findSet (oneSet .normalising) 1).any (fun q => decide (q.st = .normalising)) = true ∧ oldFrames (oneSet .normalising) = false)
    ∧ (findSet idleSet 1).any (fun q => setLoose q && decide (0 < q.idleLimit) && decide (q.named + q.idleLimit * 1000000000 ≤ rawNs idleSet)) = true := by decide +kernel

/-- `s` with set 1 open and empty. -/
def withSet (s : State) : State := { s with quad := { s.quad with sets := [{ id := 1, domain := false, idleLimit := 0 }] } }

/-- An immediate command of this payload passes its checks in `s`, and a staged one does with set 1 open. -/
abbrev bothPass (op : Nat) (len : Nat → Bool) (ch : Env → State → Change) (chk : Env → State → Chk) (payload : List Byte) (s : State) : Prop :=
  stageRuns op len (ch (cmd payload) s) (chk (cmd payload)) (cmd payload) s
  ∧ stageRuns op len (ch (stagedCmd payload) (withSet s)) (chk (stagedCmd payload)) (stagedCmd payload) (withSet s)

/-- The same for a payload that PTR points at. -/
abbrev bothPassPtr (op : Nat) (len : Nat → Bool) (ch : Env → State → Change) (chk : Env → State → Chk) (payload : List Byte) (s : State) : Prop :=
  stageRuns op len (ch (cmdPtr payload) s) (chk (cmdPtr payload)) (cmdPtr payload) s
  ∧ stageRuns op len (ch { cmdPtr payload with flags := 5, setId := 1 } (withSet s)) (chk { cmdPtr payload with flags := 5, setId := 1 })
    { cmdPtr payload with flags := 5, setId := 1 } (withSet s)

/-- Port 0 configured, admin-down. -/
def quiet : State := withCfg (fun c => { c with ports := [(0, portZero)] })

theorem witness_PortSettingsComplete : bothPass 0x0301 (lenIs 12) (fun e s => ⟨.portCfg e, (portCfgClaims e s), false, true⟩) portCfgChk (leB 2 0 ++ [3, 0, 0, 1, 0, 0] ++ leB 2 1518 ++ zeros 2) quiet
    ∧ bothPass 0x0305 (lenIs 20) (fun e _ => ⟨.portFc e, [⟨0x0305, ePort e, 0⟩], false, true⟩) portFcChk (fcPay) quiet
    ∧ bothPass 0x0306 (lenIs 10) (fun e _ => ⟨.portPreempt e, [⟨0x0306, ePort e, 0⟩], false, true⟩) portPreemptChk (zeros 8 ++ leB 2 128) quiet
    ∧ bothPass 0x0307 (lenIs 12) (fun e _ => ⟨.portEee e, [⟨0x0307, ePort e, 0⟩], false, true⟩) portEeeChk (zeros 4 ++ leB 2 1 ++ zeros 6) quiet
    ∧ bothPass 0x0308 (lenIs 48) (fun e _ => ⟨.portWakeFilter e, [⟨0x0308, byteAt e.payload 0, byteAt e.payload 1⟩], false, true⟩) portWakeFilterChk (zeros 48) quiet
    ∧ bothPass 0x0309 (lenIs 12) (fun e _ => ⟨.portLinkHold e, [⟨0x0309, ePort e, 0⟩], false, true⟩) portLinkHoldChk (zeros 12) quiet
    ∧ bothPass 0x0704 (lenIs 12) (fun e _ => ⟨.sharedLimitSet e, [⟨0x0704, (fld e.payload 0 4) / 16, (fld e.payload 0 4)⟩], false, true⟩) sharedLimitSetChk (zeros 12) quiet
    ∧ bothPass 0x0706 (lenIs 4) (fun e _ => ⟨.cutThroughSet e, [⟨0x0706, ePort e, 0⟩], false, true⟩) cutThroughSetChk (zeros 4) quiet
    ∧ bothPass 0x0A04 (lenIs 4) (fun e _ => ⟨.gateOverheadSet e, [⟨0x0A04, ePort e, 0⟩], false, true⟩) gateOverheadSetChk (zeros 4) quiet
    ∧ bothPass 0x0901 (lenIs 32) (fun e _ => ⟨.queueMapSet e, [⟨0x0901, ePort e, 0⟩], false, true⟩) queueMapSetChk (leB 2 0 ++ leB 2 1 ++ zeros 28) quiet
    ∧ bothPass 0x0903 (lenIs 24) (fun e _ => ⟨.shaperSet e, [⟨0x0903, ePort e, byteAt e.payload 2 * 32 + byteAt e.payload 3⟩], false, true⟩) shaperSetChk (zeros 24) quiet
    ∧ bothPass 0x0904 (lenIs 24) (fun e _ => ⟨.policerSet e, [⟨0x0904, byteAt e.payload 0, fld e.payload 2 2⟩], false, true⟩) policerSetChk (zeros 24) quiet
    ∧ bothPass 0x0905 (lenIs 16) (fun e _ => ⟨.streamFilterSet e, [⟨0x0905, byteAt e.payload 0, fld e.payload 2 2⟩], false, true⟩) streamFilterSetChk (zeros 16) quiet
    ∧ bothPass 0x0906 (lenIs 12) (fun e _ => ⟨.sampleCfg e, [⟨0x0906, ePort e, 0⟩], false, true⟩) sampleCfgChk (zeros 12) quiet := by decide +kernel

/-- Flow 5 on port 0, with nothing asked of it. -/
def flowFive : FlowCfg := ⟨false, false, false, 0, 0, 0, 0, [], 0, 0, 0, 0, 0, zeros 12, zeros 44, 0, 5, []⟩

/-- Port 0 and flow 5. -/
def oneFlow : State := withCfg (fun c => { c with ports := [(0, portZero)], flows := [(5, flowFive)] })

theorem witness_ForwardingSettingsComplete : bothPassPtr 0x0801 (lenIs 280) (fun e _ => ⟨.vlanSetVlan e, [⟨0x0801, fld e.payload 2 2, 0⟩], false, true⟩) vlanSetVlanChk ([0, 3] ++ leB 2 4094 ++ zeros 276) quiet
    ∧ bothPass 0x0801 (lenIs 8) (fun e _ => ⟨.vlanSetPort e, [⟨0x0801, fld e.payload 2 2, 1⟩], false, true⟩) vlanSetPortChk ([1, 0] ++ leB 2 0 ++ leB 2 4094 ++ zeros 2) quiet
    ∧ bothPass 0x0805 (lenIs 8) (fun e _ => ⟨.learnCfgPort e, [⟨0x0805, fld e.payload 2 2, 1⟩], false, true⟩) learnCfgPortChk ([1, 3] ++ leB 2 1087 ++ zeros 4) quiet
    ∧ bothPass 0x0806 (lenIs 156) (fun e _ => ⟨.mcastGroupSet e, [⟨0x0806, fld e.payload 0 2, 0⟩], false, true⟩) mcastGroupSetChk (zeros 156) quiet
    ∧ bothPass 0x0807 (fun n => n = 16 + 2 * byteAt ([127, 1] ++ zeros 6 ++ [1, 0, 0, 0] ++ leB 4 1 ++ leB 2 0) 8) (fun e _ => ⟨.lagSet e, [⟨0x0807, byteAt e.payload 0, 0⟩], false, true⟩) lagSetChk ([127, 1] ++ zeros 6 ++ [1, 0, 0, 0] ++ leB 4 1 ++ leB 2 0) quiet
    ∧ bothPass 0x0B06 (lenIs 16) (fun e _ => ⟨.prpHsrSet e, [⟨0x0B06, byteAt e.payload 0, 0⟩], false, true⟩) prpHsrSetChk (zeros 16) quiet
    ∧ bothPass 0x0703 (lenIs 8) (fun e _ => ⟨.flowMinSet e, [⟨0x0703, fld e.payload 0 4, 0⟩], false, true⟩) flowMinSetChk (leB 4 5 ++ leB 4 1) oneFlow
    ∧ bothPass 0x0401 (fun n => n = 28 + 8 * byteAt (leB 4 1 ++ [253, 0] ++ zeros 22) 24) (fun e _ => ⟨.parseNodeSet e, ((maskSlices e.payload 0).map (fun sl => ⟨0x0401, sl, byteAt e.payload 4⟩)), false, true⟩) parseNodeSetChk (leB 4 1 ++ [253, 0] ++ zeros 22) quiet
    ∧ bothPass 0x0403 (lenIs 4) (fun e _ => ⟨.parseGraphDefault e, ((maskSlices e.payload 0).flatMap (fun sl => (List.range 254).map (fun n => ⟨0x0401, sl, n⟩))), false, true⟩) parseGraphDefaultChk (leB 4 1) quiet
    ∧ bothPass 0x0506 (fun n => n = 16 + 8 * byteAt (zeros 14 ++ [4, 0]) 13) (fun e _ => ⟨.keyProfileSet e, (if byteAt e.payload 0 = 0 then (maskSlices e.payload 4).map (fun sl => ⟨0x0506, sl, byteAt e.payload 1⟩) else [⟨0x0606, fld e.payload 2 2, byteAt e.payload 1⟩]), false, true⟩) keyProfileSetChk (zeros 14 ++ [4, 0]) quiet
    ∧ bothPass 0x0602 (lenIs 20) (fun e _ => ⟨.progBindMap e, [⟨0x0602, fld e.payload 0 2, byteAt e.payload 3⟩], false, true⟩) progBindMapChk (zeros 3 ++ [63] ++ zeros 16) quiet
    ∧ bothPass 0x0602 (lenIs 20) (fun e _ => ⟨.progBindDefault e, ((bindPorts e.payload).map (fun x => ⟨0x0602, fld e.payload 0 2, 0x1000 + x⟩)), false, true⟩) progBindDefaultChk (zeros 20) quiet
    ∧ bothPass 0x0605 (fun n => n = 4 + 4 * byteAt (leB 2 0 ++ [63, 1] ++ leB 4 9) 3) (fun e _ => ⟨.constSet e, ((List.range (byteAt e.payload 3)).map (fun i => ⟨0x0605, (fld e.payload 0 2), byteAt e.payload 2 + i⟩)), false, true⟩) constSetChk (leB 2 0 ++ [63, 1] ++ leB 4 9) quiet := by decide +kernel

/-- Port 0, in a block that takes part in its domain. -/
def inDomain : State := { quiet with sez := { quiet.sez with enabled := true } }

theorem witness_EdgeSettingsComplete : bothPass 0x0C01 (lenIs 12) (fun e _ => ⟨.stampPortCfg e, [⟨0x0C01, ePort e, 0⟩], false, true⟩) stampPortCfgChk (zeros 12) quiet
    ∧ bothPass 0x0C04 (lenIs 24) (fun e _ => ⟨.ptpPortCfg e, [⟨0x0C04, ePort e, 0⟩], false, true⟩) ptpPortCfgChk (zeros 24) quiet
    ∧ bothPass 0x0D02 (lenIs 8) (fun e _ => ⟨.domainPortSet e, [⟨0x0D02, fld e.payload 0 2, 0⟩], false, true⟩) domainPortSetChk (leB 2 0 ++ [1, 15] ++ zeros 4) inDomain
    ∧ bothPass 0x0E07 (lenIs 24) (fun e _ => ⟨.rxFilterSet e, [⟨0x0E07, byteAt e.payload 0, byteAt e.payload 1⟩], false, true⟩) rxFilterChk (zeros 24) quiet
    ∧ bothPassPtr 0x0E08 (lenIs 272) (fun e _ => ⟨.rssSet e, [⟨0x0E08, byteAt e.payload 0, 0⟩], false, true⟩) rssSetChk (zeros 272) quiet
    ∧ bothPass 0x0E09 (lenIs 4) (fun e _ => ⟨.offloadSet e, [⟨0x0E09, byteAt e.payload 0, 0⟩], false, true⟩) offloadSetChk (zeros 4) quiet
    ∧ bothPass 0x1102 (lenIs 24) (fun e _ => ⟨.capRuleSet e, [⟨0x1102, byteAt e.payload 0, 0⟩], false, true⟩) capRuleSetChk (zeros 6 ++ leB 2 1 ++ zeros 16) quiet
    ∧ bothPass 0x1103 (lenIs 12) (fun e _ => ⟨.mirrorSet e, [⟨0x1103, byteAt e.payload 0, 0⟩], false, true⟩) mirrorSetChk (zeros 8 ++ leB 2 1 ++ zeros 2) quiet
    ∧ bothPass 0x1104 (lenIs 8) (fun e _ => ⟨.capEnable e, [⟨0x1104, 0, 0⟩], false, true⟩) (fun _ _ => {}) (zeros 8) quiet := by decide +kernel

/-! The statements about entries, flows, gates and ports. -/

/-- A table of exact keys of 4 bytes in cluster 0 that holds one entry, of key 0. -/
def tableOne : Table := ⟨1, 1, 4, 0, 0, 0, 8, 1, 16, [{ handle := 9, vis := 3, key := zeros 4, mask := [], prefixLen := 0, prio := 0, ranges := [], index := 0, next := 0, result := zeros 16, order := 0 }], [], []⟩

/-- Table 1 and a MAC entry of FID 0 and MAC 0. -/
def tabled : State := { oneFlow with tables := { tables := [(1, tableOne)], mac := [⟨0, 0, 0, false, false, false, false, 3, 0, 0, false, 0, none, [], [], 0⟩] } }

/-- ENTRY_WRITE of key 1 into table 1, and ENTRY_DELETE of key 0. -/
def entryPay (key : Nat) : List Byte := leB 2 1 ++ zeros 26 ++ leB 4 key

theorem witness_EntriesAndFlowsComplete :
    bothPass 0x0503 (fun n => !tabled.tables.tables.has 1 || n = entryLen tableOne)
      (fun e s => ⟨.entryWrite e, [entryClaim 1 (entryOfPayload (eTable e s) e.payload)], true, true⟩) entryWriteChk (entryPay 1) tabled
    ∧ entryStanding tabled tableOne 0 (entryOfPayload tableOne (entryPay 1)) = none
    ∧ (bothPass 0x0503 (fun n => n = entryLen tableOne) (fun e s => ⟨.entryWrite e, [entryClaim 1 (entryOfPayload (eTable e s) e.payload)], true, true⟩) entryWriteChk
        (leB 2 1 ++ [1] ++ zeros 29) tabled ∧ (entryStanding tabled tableOne 0 (entryOfPayload tableOne (entryPay 0))).isSome = true)
    ∧ (bothPass 0x0504 (fun n => n = entryLen tableOne) (fun e s => ⟨.entryDelete e, deleteClaims e (eTable e s), true, true⟩) entryDeleteChk (entryPay 0) tabled
      ∧ (entryNamed (cmd (entryPay 0)) tabled (eTable (cmd (entryPay 0)) tabled) 0).isSome = true)
    ∧ bothPass 0x0802 (lenIs 16) (fun e _ => ⟨.macAdd e, [macClaim (fld e.payload 0 2) (ePayMac e)], true, true⟩) macAddChk (zeros 16) State.reset
    ∧ tabled.tables.mac.any (fun x => macIs (cmd (zeros 16)) x && decide (x.staged = 0)) = true
    ∧ bothPass 0x0803 (lenIs 8) (fun e _ => ⟨.macDelete e, [macClaim (fld e.payload 0 2) (ePayMac e)], true, true⟩) macDeleteChk (zeros 8) tabled
    ∧ (flowChosen (cmd (zeros 92)) tabled = some 0
      ∧ bothPass 0x0B01 (lenIs 92) (fun e s => ⟨.flowAdd (flowAddEnv e 0 s), flowClaims 0, false, true⟩) flowAddChk (zeros 92) quiet)
    ∧ bothPass 0x0B02 (lenIs 48) (fun e _ => ⟨.flowModify e, flowModifyClaims e, false, true⟩) flowModifyChk (leB 4 5 ++ zeros 44) tabled
    ∧ bothPass 0x0B03 (lenIs 4) (fun e _ => ⟨.flowDelete e, flowClaims (fld e.payload 0 4), false, true⟩) flowDeleteChk (leB 4 5) tabled := by decide +kernel

/-- A list of one entry that opens every gate for its cycle of 1 µs. -/
def openList : GateList := ⟨0, 1000, 0, [⟨0xFFFF, 0, 1000⟩]⟩

/-- Port 0 with its list, gating off or on. -/
def gated (on : Bool) : State := withCfg (fun c => { c with ports := [(0, portZero)], gate := [(0, openList)], gateOn := if on then [0] else [] })

/-- GATE_LIST_SET of a list like it. -/
def gatePay : List Byte := leB 2 0 ++ leB 2 1 ++ zeros 12 ++ leB 4 1000 ++ zeros 4 ++ leB 2 0xFFFF ++ zeros 2 ++ leB 4 1000

theorem witness_GateAndSchedulingChangesComplete :
    (bothPass 0x0A01 (fun n => n = 24 + 8 * fld gatePay 2 2) (fun e _ => ⟨.gateListSet e, [⟨0x0A01, ePort e, 0⟩], false, true⟩) gateListSetChk gatePay (gated false)
      ∧ 0 ∉ (cfg (gated false)).gateOn ∧ bothPass 0x0A01 (fun n => n = 24 + 8 * fld gatePay 2 2) (fun e _ => ⟨.gateListSet e, [⟨0x0A01, ePort e, 0⟩], false, true⟩) gateListSetChk gatePay (gated true)
      ∧ 0 ∈ (cfg (gated true)).gateOn)
    ∧ (bothPass 0x0A02 (lenIs 4) (fun e _ => ⟨.gateEnableOn e, [⟨0x0A02, ePort e, 0⟩], false, true⟩) gateEnableChk [0, 0, 1, 0] (gated false)
      ∧ bothPass 0x0A02 (lenIs 4) (fun e _ => ⟨.gateEnableOn e, [⟨0x0A02, ePort e, 0⟩], false, true⟩) gateEnableChk [0, 0, 1, 0] (gated true)
      ∧ (cfg (gated false)).gate.get? 0 = some openList ∧ (cfg (gated true)).gate.get? 0 = some openList)
    ∧ bothPass 0x0A02 (lenIs 4) (fun e _ => ⟨.gateEnableOff e, [⟨0x0A02, ePort e, 0⟩], false, true⟩) gateEnableChk [0, 0, 0, 0] (gated true)
    ∧ bothPass 0x0902 (lenIs 100) (fun e _ => ⟨.schedSet e, [⟨0x0902, ePort e, 0⟩], false, true⟩) schedSetChk
        (zeros 68 ++ (List.replicate 8 [(0 : Byte), 1, 0, 0]).flatten) quiet
    ∧ bothPass 0x0805 (lenIs 12) (fun e _ => ⟨.learnCfgGlobal e, [⟨0x0805, 0xFFFF, 0⟩], false, true⟩) learnCfgGlobalChk (zeros 8 ++ leB 4 1) State.reset := by decide +kernel

/-- A plain frame of 60 bytes, received at port 0. -/
def plainFrame : Frame := { portIn := 0, data := zeros 60, stamp := 0, stampFlags := 0, epoch := false, rxLen := 64 }

/-- Port 0 up with a frame in its slice's den. -/
def denned : State := { lit with slices := [(0, { den := [⟨plainFrame, 64⟩] })] }

theorem witness_PortCommandsComplete :
    (cmdRuns 0x0302 (lenIs 4) (portAdminUpChk (cmd [0, 0, 1, 0]) quiet) (cmd [0, 0, 1, 0]) quiet ∧ (port quiet 0).admin = false
      ∧ cmdRuns 0x0302 (lenIs 4) (portAdminUpChk (cmd [0, 0, 1, 0]) lit) (cmd [0, 0, 1, 0]) lit ∧ (port lit 0).admin = true)
    ∧ (cmdRuns 0x0302 (lenIs 4) (portAdminDownChk (cmd [0, 0, 0, 0]) lit) (cmd [0, 0, 0, 0]) lit ∧ adminDownRefused lit 0 = false)
    ∧ (cmdRuns 0x0302 (lenIs 4) (portAdminDownChk (cmd [0, 0, 0, 0]) denned) (cmd [0, 0, 0, 0]) denned ∧ adminDownRefused denned 0 = true)
    ∧ cmdRuns 0x0303 (lenIs 2) (portStatusChk (cmd [0, 0]) lit) (cmd [0, 0]) lit
    ∧ (cmdRuns 0x0304 (lenIs 4) (portCountersChk (cmd [0, 1, 0, 0]) lit) (cmd [0, 1, 0, 0]) lit ∧ bitN (byteAt [0, 1, 0, 0] 1) 0 = true) := by decide +kernel

/-- Port 0 admin-up with a link state, at a time. -/
def linked (ns : Nat) (x : PortRt) : State := atNs ns { lit with ports := [(0, { x with admin := true })] }

theorem witness_PortEventsComplete :
    ((⟨false, false, false⟩ : LinkStat).linkUp = false ∧ (port lit 0).admin = true ∧ (port lit 0).link = .up)
    ∧ ((port (linked 0 { link := .comingUp }) 0).admin = true ∧ (port (linked 0 { link := .comingUp }) 0).link = .comingUp ∧ (⟨true, false, true⟩ : LinkStat).remoteFault = true)
    ∧ ((port (linked 0 {}) 0).link = .down ∧ (port (linked 0 { link := .flushed }) 0).link = .flushed)
    ∧ (debounced (linked 10000000 { link := .comingUp }) (port (linked 10000000 { link := .comingUp }) 0) = true
      ∧ debounced (linked 10000000 { link := .held }) (port (linked 10000000 { link := .held }) 0) = true)
    ∧ ((port (linked 1000 { link := .held, holdUs := 1, statUp := false }) 0).since + 1 * 1000 ≤ rawNs (linked 1000 { link := .held, holdUs := 1, statUp := false })
      ∧ debounced (linked 1000 { link := .held, holdUs := 1, statUp := false }) (port (linked 1000 { link := .held, holdUs := 1, statUp := false }) 0) = false)
    ∧ (port State.reset 0).admin = false
    ∧ ((port (linked 5 { paused := [(7, 5)] }) 0).paused.get? 7 = some 5 ∧ 5 ≤ rawNs (linked 5 { paused := [(7, 5)] }))
    ∧ (let s := linked 1000000000 { xoff := [(7, 0)], ingressCells := [(7, 9)] }
      (port s 0).xoff.get? 7 = some 0 ∧ (fcOf s 0).xon < ingressCount s 0 7 ∧ 0 + quantaNs s 0 (fcOf s 0).refresh ≤ rawNs s)
    ∧ (let s := updCfg (fun c => { c with eee := [(0, { enable := true, idle := 1 })] }) (linked 1000 { link := .up })
      ((cfg s).eee.getD 0 {}).enable = true ∧ (port s 0).link = .up ∧ (port s 0).lpiTx = none ∧ portEmpty s 0 = true
        ∧ (port s 0).emptySince + ((cfg s).eee.getD 0 {}).idle * 1000 ≤ rawNs s)
    ∧ (let s := linked 9 { link := .up, lpiTx := some 3, fifo := [.own (zeros 64) 1] }
      (port s 0).lpiTx = some 3 ∧ portEmpty s 0 = false)
    ∧ ((port lit 0).lpiRx = none ∧ (port (linked 9 { lpiRx := some 3 }) 0).lpiRx = some 3)
    ∧ (port (linked 0 { pre := .verifying }) 0).pre = .verifying
    ∧ (let s := linked 10000000 { pre := .verifying, verifyTries := 3 }
      3 ≤ (port s 0).verifyTries ∧ (port s 0).verifyAt + ((cfg s).preempt.getD 0 {}).verifyTime * 1000000 ≤ rawNs s)
    ∧ (let s := linked 10000000 { pre := .verifying, verifyTries := 2 }
      (port s 0).verifyTries < 3 ∧ (port s 0).verifyAt + ((cfg s).preempt.getD 0 {}).verifyTime * 1000000 ≤ rawNs s)
    ∧ (let s := updCfg (fun c => { c with preempt := [(0, { enable := true })] }) (linked 0 { link := .up })
      ((cfg s).preempt.getD 0 {}).enable = true ∧ (port s 0).link = .up)
    ∧ (let s := { State.reset with pwr := { dom := [(31, {})] } }
      31 < nSlices s ∧ (dom s 31).st = .run ∧ (cfg s).ports = [])
    ∧ (coreTakes lit 0 = true ∧ (slice lit 0).den = [])
    ∧ (coreTakes denned 0 = true ∧ (slice denned 0).den = [⟨plainFrame, 64⟩] ∧ stagingFill denned 0 + plainFrame.data.length + 4 ≤ 65536) := by decide +kernel

theorem witness_PortEventsStayOnTheirPort : (1 ≠ 0) ∧ (nextOf (exec (.stall 0) lit)).isSome = true ∧ ePort (cmd [0, 0, 1, 0]) = 0
    ∧ (nextOf (exec (.portAdminUp (cmd [0, 0, 1, 0])) lit)).isSome = true ∧ (nextOf (exec (.partnerLpi 0 true) lit)).isSome = true := by decide +kernel

/-! The statements about frames on their way. -/

/-- A frame whose bytes are `d` and the FCS that belongs to them, as port 0 receives it. -/
def good (d : List Byte) (ending : RxEnd) : RxFrame := ⟨0, d ++ fcsOf d, 0, 0, 0, ending⟩

theorem witness_ReceiveJudgesFrames : (receives lit 0 = true ∧ rxCase (cfg lit) (good (zeros 60) .eof) = 0)
    ∧ (rxCase (cfg lit) (good (zeros 12 ++ [0x88, 0x08, 0, 1] ++ zeros 44) .eof) = 7 ∧ rxCase (cfg lit) (good (zeros 12 ++ [0x88, 0x08, 1, 1] ++ zeros 44) .eof) = 8)
    ∧ (rxCase (cfg lit) (good (zeros 60) .newSof) = 6 ∧ (cfg lit).cut = []) ∧ receives State.reset 0 = false
    ∧ ((good [] .newSof).ending = .newSof)
    ∧ (RxFrame.bytes ⟨0, zeros 64, 0, 0, 0, .eof⟩).drop 60 ≠ fcsOf (zeros 60)
    ∧ ((good (zeros 59) .eof).bytes.drop 59 = fcsOf (zeros 59) ∧ (good (zeros 59) .eof).bytes.length < 64)
    ∧ (64 ≤ (good (zeros 60) .eof).bytes.length ∧ maxFrame { cfg lit with ports := [(0, { portZero with maxFrame := 20 })] } 0 < (good (zeros 60) .eof).bytes.length) := by
  decide +kernel

/-- A copy of stored frame 0 at port 0's queue 0. -/
def copyZero : Copy := { frame := 0, port := 0, q := 0, enq := 0, len := 60, data := zeros 60 }

/-- Port 0 up with something in its transmit FIFO or on its way out. -/
def sending (x : PortRt) : State := { lit with ports := [(0, { x with admin := true, link := .up })] }

/-- The same with a frame that the MAC queued in transmission. -/
def sendingOwn (tag : Nat) (wait : Bool) : TxCur := { item := .own (zeros 64) tag, stamp := 0, stampFlags := 0, hintWait := wait }

/-- And with a copy. -/
def sendingCopy : TxCur := { item := .copy copyZero, stamp := 0, stampFlags := 0, hintWait := false }

theorem witness_TransmitComplete :
    (let s := sending { fifo := [.own (zeros 64) 5] }
      let at' := stampOf (sampledEdge s 0 0) 0 0 (rateOf s (cfg s) 0) (port s 0).txLat 1
      txReady s 0 = true ∧ rateOf s (cfg s) 0 ≠ 0 ∧ (port s 0).cur = none ∧ txPick s 0 at' 0 (port (countLogHold 0 s) 0).fifo 0 = .start 0
        ∧ (txBytes (countLogHold 0 s) 0 (if legacyPort (countLogHold 0 s) 0 then at' else at' + hintPredOf (countLogHold 0 s) 0) (.own (zeros 64) 5)).isSome = true)
    ∧ txReady State.reset 0 = false
    ∧ ((port (sending { cur := some (sendingOwn 4 false) }) 0).cur = some { item := .own (zeros 64) 4, stamp := 0, stampFlags := 0, hintWait := false } ∧ 4 ≠ 1)
    ∧ ((port (sending { cur := some sendingCopy }) 0).cur = some sendingCopy ∧ sendingCopy.item = .copy copyZero
      ∧ badItem (sending { cur := some sendingCopy }) (.copy copyZero) = false)
    ∧ (sendingOwn 5 true).hintWait = true
    ∧ (stompDue lit 0 .fifoEmpty (sendingOwn 5 false) = true ∧ stompDue lit 0 .linkDown (sendingOwn 5 false) = false)
    ∧ ((port (sending { preempted := some (sendingOwn 5 false) }) 0).cur = none ∧ (port (sending { preempted := some (sendingOwn 5 false) }) 0).preempted = some (sendingOwn 5 false))
    ∧ ((port (sending { hints := [⟨false⟩], cur := some (sendingOwn 5 true) }) 0).hints = [⟨false⟩]
      ∧ (port (sending { hints := [⟨false⟩], cur := some (sendingOwn 5 true) }) 0).preempted = none ∧ (sendingOwn 5 true).pred = none)
    ∧ (port (sending { hints := [⟨true⟩] }) 0).hints = [⟨true⟩]
    ∧ wordWaits (sending { fifo := [.own (zeros 64) 5] }) 0 = true := by decide +kernel

/-- A port that waits with its first word counts a stall, and one with nothing to send does not. -/
theorem test_stall_counts :
    (nextOf (exec (.stall 0) (sending { fifo := [.own (zeros 64) 5] }))).map (fun t => ctrOf t (pCtr 0 19)) = some 1
    ∧ (nextOf (exec (.stall 0) (sending {}))).map (fun t => ctrOf t (pCtr 0 19)) = some 0 := by decide +kernel

/-- A classified frame of `n` bytes for port 0. -/
def sorted (n : Nat) : Classified := {
  frame := { plainFrame with data := zeros n }, m := [], copies := [(0, 0)], mirrors := [], single := true, flow := noFlow, guarded := false,
  seq := none, flood := false, cut := false, vid := 1, vtag := none, sezal := false, learn := none, parse := {}, node := none }

/-- Slice 0 at work. -/
def working (x : SliceRt) : State := { lit with slices := [(0, x)] }

/-- What writing a cell answers: the frame's cells so far, `none` for a wait, or the reason of its refusal. -/
def cellsOf (r : CellOut) : Option Nat ⊕ Nat :=
  match r with
  | .placed k _ => .inl (some k.cells.length)
  | .waits => .inl none
  | .refused e => .inr e

/-- The caches of the slice's banks of either group hold 10 cells each. -/
def cached (s : State) : State := { s with buf := { s.buf with cache := [(0, List.range 10), (1, (List.range 10).map (· + 8192))] } }

/-- No bank has to do anything else in this clock. -/
def quietBanks : BankClock := ⟨[], []⟩

/-- Frame 0 stored, marked for slice 0. -/
def stored (x : Stored) : State := { lit with buf := { lit.buf with frames := [(0, x)] } }

/-- Frame 0 as its handoff finds it, marked for slices. -/
def handed (marks : List Nat) : Stored := { c := sorted 60, marks := marks, left := 1 }

/-- A guarded frame of flow 5 by a domain port, in a member that is out of step. -/
def outOfStep : State := { updCfg (fun c => { c with domPort := [(0, ⟨0, 0⟩)] }) (working {}) with sez := { State.reset.sez with outOfStep := true } }

theorem witness_IngressComplete :
    ((slice (working { ingress := [plainFrame] }) 0).ingress = [plainFrame] ∧ coreRuns (working { ingress := [plainFrame] }) 0 = true
      ∧ engineHolds (working { ingress := [plainFrame] }) 0 = false ∧ engineHolds (working { ingress := [plainFrame] }) 1 = false)
    ∧ centreRuns (working { toWrite := [sorted 253] }) = true
    ∧ (cellsOf (writeCell 0 quietBanks (sorted 253) (cached (working { toWrite := [sorted 253] }))) = .inl (some 1) ∧ cellsNeeded (zeros 253) = 2)
    ∧ (cellsOf (writeCell 0 quietBanks (sorted 252) (cached (working { toWrite := [sorted 252] }))) = .inl (some 1) ∧ cellsNeeded (zeros 252) = 1 ∧ (sorted 252).admitted = none)
    ∧ { sorted 252 with admitted := some 3 }.admitted = some 3
    ∧ cellsOf (writeCell 0 ⟨List.range 1024, []⟩ (sorted 60) (working { toWrite := [sorted 60] })) = .inl none
    ∧ cellsOf (writeCell 0 quietBanks (sorted 60) { working { toWrite := [sorted 60] } with buf := { lit.buf with sharedCells := 0 } }) = .inr 1
    ∧ ((slice (working { written := [sorted 60] }) 0).written = [sorted 60] ∧ stepRefuses (working {}) (sorted 60) = false)
    ∧ stepRefuses outOfStep { sorted 60 with guarded := true } = true
    ∧ (storedOf (stored (handed [0])) 0 = some (handed [0]) ∧ coreRuns (stored (handed [0])) 0 = true ∧ (slice (stored (handed [0])) 0).reorder = [])
    ∧ (0 ∉ (handed []).marks)
    ∧ coreRuns (working { inReset := some 0 }) 0 = false := by decide +kernel

/-- PROG_LOAD of an image whose one bundle drops the frame, for engine 3. -/
def dropImage : List Byte := leB 2 1 ++ zeros 2 ++ leB 16 8 ++ zeros 4 ++ [0x45, 0x5A, 0x54, 0x32, 2, 15, 0, 0, 1] ++ zeros 15 ++ zeros 32 ++ leB 4 0xc3f4d0f9 ++ zeros 4
  ++ leB 32 0x1000008c3c3c3c000000003c3c3c000000003c3c3c000000003c3c3c000000

/-- Port 0 with copies paced and frame 0 stored; the program of E3 drops if `drop`. -/
def pacing (drop : Bool) (reset : Option Nat) : State := { updCfg (fun c => { c with progMap := [(3 * 64 + 1, 1)], progDef := if drop then [(3 * 2048, 1)] else [] }) lit with
  ports := [(0, { admin := true, link := .up, pacing := [copyZero] })]
  slices := [(0, { inReset := reset })]
  eng := { images := [(1, imageOfPayload dropImage)] }
  buf := { lit.buf with frames := [(0, { c := sorted 60, marks := [], left := 1, mcast := [(0, 0)] })] } }

/-- The state of E3's pass over the copy, once it left the pacing buffer. -/
def unpaced (drop : Bool) : State := updPort 0 (fun x => { x with pacing := [] }) (pacing drop none)

/-- Queue 0 of port 0 holds a copy. -/
def queued : State := { lit with tm := { lit.tm with queues := [(0, [copyZero])] } }

/-- What a release picks: the queue, and its first copy. -/
def picked (s : State) (p : Nat) : Option (Nat × Option Copy) := (nextRelease s p).map (fun r => (r.2.2.1.num, (queueOf s (qid p r.2.2.1.num)).head?))

/-- The end of a frame in slice 0's log. -/
def logged (done : Bool) : State := working { doneLog := [⟨noFlow, 0, 0, done, false, 0, copyZero⟩] }

theorem witness_EgressComplete :
    (coreRuns queued (sliceOf queued 0) = true ∧ centreRuns queued = true ∧ engineHolds queued (4 * sliceOf queued 0 + 2) = false ∧ portUp queued 0 = true ∧ picked queued 0 = some (0, some copyZero)
      ∧ nextRelease lit 0 = none)
    ∧ ((port (pacing true none) 0).pacing = [copyZero] ∧ coreRuns (pacing true none) 0 = true ∧ engineHolds (pacing true none) 3 = false
      ∧ (storedOf (unpaced true) 0).isSome = true ∧ (egressPass 3 copyZero (sorted 60) copyZero.data copyZero.m copyZero.hdrs ⟨[], [], [], [], []⟩ (unpaced true)).2.drop = true
      ∧ guardedCopy (egressPass 3 copyZero (sorted 60) copyZero.data copyZero.m copyZero.hdrs ⟨[], [], [], [], []⟩ (unpaced true)).1 copyZero = false)
    ∧ ((egressPass 3 copyZero (sorted 60) copyZero.data copyZero.m copyZero.hdrs ⟨[], [], [], [], []⟩ (unpaced false)).2.drop = false
      ∧ wireLen (cutMirror (unpaced false) copyZero (zeros 60)) + trailerBytes copyZero ≤ maxFrame (cfg (unpaced false)) 0)
    ∧ ((storedOf (atNs 10000 (pacing false none)) 0).any (fun x => decide (x.mcast.get? 0 = some 0)) = true ∧ 0 + 10000 ≤ rawNs (atNs 10000 (pacing false none)))
    ∧ (((slice (logged true) 0).doneLog.head?.map DoneEntry.done = some true) ∧ coreRuns (logged true) 0 = true)
    ∧ (((slice (logged false) 0).doneLog.head?.map DoneEntry.done = some false) ∧ coreRuns (logged false) 0 = true)
    ∧ (slice lit 0).inReset = none
    ∧ ((slice (pacing false (some 0)) 0).inReset = some 0 ∧ (dom (pacing false (some 0)) 32).st = .run ∧ (pacing false (some 0)).badger.sliceOwed.get? 0 = none
      ∧ (slice (pacing false (some 0)) 0).doneLog = []) := by decide +kernel

/-! The statements about tables, pools, programs, captures, calibration and flows. -/

/-- POOL_CREATE of pool 1: 16 buffers of 256 bytes at 0. -/
def poolPay : List Byte := [1, 8, 0, 0] ++ leB 4 16 ++ leB 8 0

/-- Pool 1 of 2 buffers, 0 held by queue 4. -/
def pooled (shares : Nat) : State := { tabled with buf := { tabled.buf with pools := [(1, { bufLog2 := 8, count := 2, base := 0, bufs := [(0, ⟨4, shares⟩)] })] } }

/-- A work entry of a queue. -/
def work (kind : WorkKind) (subop : Nat) (buf : Nat) : Work := { pos := 0, kind := kind, addr := 0, len := 60, flags := 0, subop := subop, refStamp := 0, poolId := 1, shareN := 255, bufIndex := buf, newOwner := 5, tag := 0, data := zeros 60, busErr := false }

/-- Queue 4 of the first generation. -/
def ringFour : SubQ := ⟨1, false, 0, 16, 0, 0, 0, 256, 1, 0, 1, 2048, 0, .enabled, 0, 0, 0, 0, 0, [], 0, false, 0, 0, none, false, 0, [], [], 0, 0⟩

/-- Queue 4 with a work entry under way. -/
def withWork (w : Work) (s : State) : State := { s with hq := { s.hq with sq := [(4, { ringFour with works := [w] })] } }

theorem witness_BufferAndMacComplete :
    (cmdRuns 0x0701 (lenIs 16) (poolCreateChk (cmd poolPay) State.reset) (cmd poolPay) State.reset ∧ poolIdOf (cmd poolPay) State.reset = some 1)
    ∧ (let s := { State.reset with buf := { State.reset.buf with pools := [(1, { bufLog2 := 8, count := 2, base := 0 })] } };
      cmdRuns 0x0702 (lenIs 4) (poolDeleteChk (cmd [1, 0, 0, 0]) s) (cmd [1, 0, 0, 0]) s)
    ∧ (cmdRuns 0x0705 (lenIs 8) (bufStatusChk (cmd (zeros 8)) lit) (cmd (zeros 8)) lit ∧ bitN (byteAt (zeros 8) 1) 0 = false
      ∧ cmdRuns 0x0705 (lenIs 8) (bufStatusChk (cmd ([3, 1] ++ zeros 6)) lit) (cmd ([3, 1] ++ zeros 6)) lit ∧ bitN (byteAt ([3, 1] ++ zeros 6) 1) 0 = true)
    ∧ cmdRuns 0x0804 (lenIs 8) (macFlushChk (cmd (zeros 8)) tabled) (cmd (zeros 8)) tabled
    ∧ cmdRuns 0x0808 (lenIs 8) (macDumpChk (cmd (zeros 8)) tabled) (cmd (zeros 8)) tabled
    ∧ ({ State.reset.tables with learn := [⟨0, 1, 2, 3, 3, 1⟩] }.learn = ⟨0, 1, 2, 3, 3, 1⟩ :: [] ∧ relocatingTable State.reset 0x0100 = false)
    ∧ ((cfg (atNs 75000000000 lit)).learnG.ageTime ≠ 0
      ∧ (atNs 75000000000 lit).tables.lastScan + (cfg (atNs 75000000000 lit)).learnG.ageTime * 250000000 ≤ rawNs (atNs 75000000000 lit)) := by decide +kernel

/-- Pool 1 in a round that has come to requester 5. -/
def roundPast : State := { State.reset with buf := { State.reset.buf with pools := [(1, { bufLog2 := 8, count := 2, base := 0, roundLast := 5 })] } }

theorem witness_PoolOperations :
    (hstRuns (withWork (work .poolOp 0 0) (pooled 0)) = true ∧ roundTakes (withWork (work .poolOp 0 0) (pooled 0)) 1 4 true true = true
      ∧ roundTakes (withWork (work .poolOp 0 0) (pooled 0)) 1 4 false true = true ∧ nextWork (withWork (work .poolOp 0 0) (pooled 0)) 4 .poolOp = some (work .poolOp 0 0) ∧ (work .poolOp 0 0).subop = 0
      ∧ (poolOf (withWork (work .poolOp 0 0) (pooled 0)) 1).any (fun p => decide (1 < p.count) && decide (p.bufs.get? 1 = none)) = true)
    ∧ (poolOf { pooled 0 with buf := { (pooled 0).buf with pools := [(1, { bufLog2 := 8, count := 1, base := 0, bufs := [(0, ⟨4, 0⟩)] })] } } 1).any (fun p => (List.range p.count).all (fun i => (p.bufs.get? i).isSome)) = true
    ∧ poolOf State.reset 1 = none
    ∧ (nextWork (withWork (work .poolOp 1 0) (pooled 0)) 4 .poolOp = some (work .poolOp 1 0) ∧ (work .poolOp 1 0).subop = 1
      ∧ (nextWork (withWork (work .poolOp 2 0) (pooled 1)) 4 .poolOp).any (fun w => decide (w.subop = 2)) = true
      ∧ (nextWork (withWork (work .poolOp 3 1) (pooled 0)) 4 .poolOp).any (fun w => decide (w.subop = 3)) = true
      ∧ (nextWork (withWork (work .poolOp 4 0) (pooled 0)) 4 .poolOp).any (fun w => decide (w.subop = 4)) = true)
    ∧ roundTakes roundPast 1 4 true true = false ∧ roundTakes roundPast 1 4 false true = false := by decide +kernel

/-- A running image: bound to engine 0, in the store as 1. -/
def imaged : State := { State.reset with eng := { images := [(1, imageOfPayload dropImage)] } }

/-- PROG_UNLOAD of image 1. -/
def unloadPay : List Byte := leB 2 1 ++ zeros 22

/-- Engine 0 in reset, with the command that asked for it or without. -/
def resetting (owed : Option Env) : State := { State.reset with eng := { rt := [(0, { resetAt := some 0, owed := owed })] } }

/-- The CRC of the image, in two halves. -/
theorem dropImage_crc : crc32 (patch (dropImage.drop 24) 56 [0, 0, 0, 0]) = 0xc3f4d0f9 := by
  have h1 : crcRun 0xEDB88320 0xFFFFFFFF ((patch (dropImage.drop 24) 56 [0, 0, 0, 0]).take 48) = 0xcb1d34b7 := by decide +kernel
  have h2 : ~~~ (crcRun 0xEDB88320 0xcb1d34b7 ((patch (dropImage.drop 24) 56 [0, 0, 0, 0]).drop 48)) = 0xc3f4d0f9 := by decide +kernel
  rw [← h2, ← h1, crc32, crcRun, crcRun, crcRun, ← List.foldl_append, List.take_append_drop]

/-- The image passes the verifier. -/
theorem dropImage_verified : ezVerify (loadEngines dropImage) dropImage = none := by
  have h : imageHead dropImage = none := by
    unfold imageHead
    dsimp only
    rw [dropImage_crc]
    decide +kernel
  unfold ezVerify
  dsimp only
  rw [h]
  decide +kernel

/-- PROG_LOAD's own checks: the remaining hypothesis of its clause. -/
theorem witness_ParseTableEngineComplete_load : loadVerdict (cmdPtr dropImage) State.reset = none := by
  have h : (cmdPtr dropImage).payload = dropImage := rfl
  unfold loadVerdict
  dsimp only
  rw [h, dropImage_verified]
  decide +kernel

theorem witness_ParseTableEngineComplete :
    cmdRuns 0x0402 (lenIs 4) (parseNodeGetChk (cmd (zeros 4)) State.reset) (cmd (zeros 4)) State.reset
    ∧ (cmdRuns 0x0404 (lenIs 4) (parseCountersChk (cmd [31, 1, 0, 0]) State.reset) (cmd [31, 1, 0, 0]) State.reset ∧ bitN (byteAt [31, 1, 0, 0] 1) 0 = true)
    ∧ (let e := cmd (leB 2 1 ++ [1, 1, 4, 0, 0, 0] ++ leB 4 16 ++ zeros 4);
      cmdRuns 0x0501 (lenIs 16) (tableCreateChk e State.reset) e State.reset ∧ tableIdOf e State.reset = some 1)
    ∧ cmdRuns 0x0502 (lenIs 4) (tableDeleteChk (cmd (leB 4 1)) tabled) (cmd (leB 4 1)) tabled
    ∧ (let e := cmd (leB 4 1 ++ leB 4 9);
      cmdRuns 0x0505 (lenIs 8) (entryReadChk e tabled) e tabled
        ∧ ((eTable e tabled).entries.find? (fun y => decide (y.handle = fld e.payload 4 4) && !decide ((byteAt e.payload 2, y.handle) ∈ (eTable e tabled).lost))).isSome = true)
    ∧ cmdRuns 0x0507 (lenIs 8) (tableDumpChk (cmd (leB 8 1)) tabled) (cmd (leB 8 1)) tabled
    ∧ (envVerdict 0x0601 false (fun n => ptr (cmdPtr dropImage) && progLoadLen dropImage n) (cmdPtr dropImage) State.reset = none
      ∧ loadIdOf (cmdPtr dropImage) State.reset = some 1)
    ∧ cmdRuns 0x0601 (fun k => ptr (cmdPtr unloadPay) && k = 24) (progUnloadChk (cmdPtr unloadPay) imaged) (cmdPtr unloadPay) imaged
    ∧ cmdRuns 0x0603 (lenIs 4) (engineStatusChk (cmd [127, 0, 1, 0]) State.reset) (cmd [127, 0, 1, 0]) State.reset
    ∧ cmdRuns 0x0604 (lenIs 4) (engineResetChk (cmd (zeros 4)) State.reset) (cmd (zeros 4)) State.reset
    ∧ ((engine (resetting (some (cmd []))) 0).resetAt = some 0 ∧ (engine (resetting (some (cmd []))) 0).owed = some (cmd []))
    ∧ ((engine (resetting none) 0).resetAt = some 0 ∧ (engine (resetting none) 0).owed = none)
    ∧ (let e := cmd (zeros 4 ++ leB 4 16383 ++ leB 2 1 ++ [1, 0]);
      cmdRuns 0x0606 (lenIs 12) (scratchReadChk e State.reset) e State.reset ∧ bitN (byteAt e.payload 10) 0 = true) := by decide +kernel

/-- FOXTROT_RING_SET of ring 15: 16 records. -/
def ringPay : List Byte := [15, 1] ++ leB 2 256 ++ leB 4 16 ++ zeros 16 ++ leB 2 1 ++ zeros 2

/-- Ring 15 with `fill` of its 16 records not consumed and a record that waits. -/
def ringed (fill : Nat) : State := { State.reset with cap := { rings := [(15, ⟨256, 16, 0, 0, 1, 0, fill, 0, true, [(0, zeros 128)], 1, 0, some 0, true⟩)] } }

/-- A calibration run on port 0 with a request out since 0, or none. -/
def calibrating (ns : Nat) (sent : Option Nat) : State := { atNs ns lit with badger := { lit.badger with
  runs := [(0, { slot := 0, sentAt := sent, start := 0 })]
  loop := [(0, { reflect := true })] } }

theorem witness_CaptureAndCalibrationComplete :
    cmdRuns 0x0907 (lenIs 8) (tmStatusChk (cmd (zeros 8)) lit) (cmd (zeros 8)) lit
    ∧ (let s := updCfg (fun c => { c with sample := [(0, ⟨1, 10, 0⟩)] }) (atNs 20000 { lit with tm := { lit.tm with sampled := [(0, 19999)] } })
      (cfg s).sample.get? 0 = some ⟨1, 10, 0⟩ ∧ s.tm.sampled.get? 0 = some 19999 ∧ 19999 < sampleInstant s 10 ∧ sampleInstant s 10 ≤ 20000)
    ∧ { State.reset.time with valid := true }.valid = true
    ∧ (cmdRuns 0x1101 (lenIs 28) (foxtrotRingSetChk (cmd ringPay) State.reset) (cmd ringPay) State.reset ∧ bitN (byteAt ringPay 1) 0 = true)
    ∧ (cmdRuns 0x1101 (lenIs 28) (foxtrotRingSetChk (cmd ([15] ++ zeros 27)) (ringed 0)) (cmd ([15] ++ zeros 27)) (ringed 0)
      ∧ ((ringed 0).cap.rings.get? 15).isSome = true)
    ∧ (((ringed 15).cap.rings.get? 15).any (fun r => !foxFull r && decide (r.fifo = [(0, zeros 128)])) = true)
    ∧ (((ringed 16).cap.rings.get? 15).any (fun r => foxFull r && decide (r.fifo = [(0, zeros 128)])) = true)
    ∧ (((atNs 1000 (ringed 16)).cap.rings.get? 15).any (fun r => foxFull r && r.lastPoll.all (fun last => decide (last + 1000 ≤ rawNs (atNs 1000 (ringed 16))))) = true)
    ∧ (cmdRuns 0x0C02 (lenIs 16) (calRecordSetChk (cmd (zeros 16)) lit) (cmd (zeros 16)) lit
      ∧ cmdRuns 0x0C02 (lenIs 16) (calRecordSetChk (cmd ([0, 0, 3, 1] ++ zeros 12)) lit) (cmd ([0, 0, 3, 1] ++ zeros 12)) lit)
    ∧ cmdRuns 0x0C03 (lenIs 4) (calRunChk (cmd [0, 0, 0xFF, 0]) lit) (cmd [0, 0, 0xFF, 0]) lit
    ∧ cmdRuns 0x1005 (lenIs 12) (loopbackCalChk (cmd ([0, 0, 1, 7] ++ zeros 8)) lit) (cmd ([0, 0, 1, 7] ++ zeros 8)) lit
    ∧ (atNs 1000000 lit).time.calEval + 1000000 ≤ rawNs (atNs 1000000 lit)
    ∧ ((calibrating 10000 none).badger.runs.get? 0).any (fun r => calMaySend (calibrating 10000 none) 0 r) = true
    ∧ (receives (calibrating 0 none) 0 = true ∧ ((calibrating 0 none).badger.loop.getD 0 {}).reflect = true)
    ∧ ((calibrating 0 (some 0)).badger.runs.get? 0).any (fun r => decide (r.sentAt = some 0) && decide (r.loops.length < 15)) = true
    ∧ 0 + 100000 ≤ rawNs (calibrating 100000 (some 0))
    ∧ ((calibrating 1000000000 none).badger.runs.get? 0).any (fun r => decide (r.start + 1000000000 ≤ rawNs (calibrating 1000000000 none))) = true := by decide +kernel

/-- Port 0's gates as they run. -/
def running (ns : Nat) (x : GateRt) (p : PortRt) : State := { atNs ns lit with gate := [(0, x)], ports := [(0, p)] }

/-- A list that asserts HOLD 1 ns ahead of its second entry. -/
def holdList : GateList := ⟨0, 2000, 1, [⟨0xFFFF, 2, 1000⟩, ⟨0xFFFF, 1, 1000⟩]⟩

/-- Flow 5's recovery in slice 0, with a frame in its gap. -/
def gapped (ns timeout : Nat) : State := { atNs ns (withCfg (fun c => { c with flows := [(5, { flowFive with recTimeout := timeout })] })) with
  flows := { State.reset.flows with recs := [((5, 0), { held := [(0, 1)] })] } }

theorem witness_GateAndFlowEventsComplete :
    cmdRuns 0x0A03 (lenIs 4) (gateStatusChk (cmd [0, 0, 1, 0]) State.reset) (cmd [0, 0, 1, 0]) State.reset
    ∧ ((gateRt (running 5 { next := some (openList, 5) } {}) 0).next = some (openList, 5) ∧ 5 ≤ timeNs (running 5 { next := some (openList, 5) } {}))
    ∧ timeNs (running 4 { next := some (openList, 5) } {}) < 5
    ∧ (let s := running 999 { run := some (openList, 0) } {};
      listAt (gateRt s 0) (timeSixteenths s) = some (openList, 0) ∧ (gateIn openList 0 (timeSixteenths s)).isSome = true)
    ∧ (let s := running 999 { run := some (holdList, 0) } { pre := .active };
      holdAt (gateRt s 0) (timeSixteenths s) = true ∧ (port s 0).pre = .active)
    ∧ holdAt (gateRt (running 4 {} {}) 0) (timeSixteenths (running 4 {} {})) = false
    ∧ (cmdRuns 0x0B04 (lenIs 8) (flowReadChk (cmd (leB 8 5)) oneFlow) (cmd (leB 8 5)) oneFlow
      ∧ cmdRuns 0x0B04 (lenIs 8) (flowReadChk (cmd (leB 4 5 ++ leB 4 1)) (gapped 0 1)) (cmd (leB 4 5 ++ leB 4 1)) (gapped 0 1))
    ∧ cmdRuns 0x0B05 (lenIs 8) (flowCountersChk (cmd (leB 4 0xFFFFFFFF ++ [1, 0xFF, 0, 0])) oneFlow) (cmd (leB 4 0xFFFFFFFF ++ [1, 0xFF, 0, 0])) oneFlow
    ∧ (((gapped 1000 1).flows.recs.get? (5, 0)).any (fun c => decide (c.held ≠ []) && decide (1 * 1000 ≤ gapAge (gapped 1000 1) c)) = true
      ∧ ((cfg (gapped 1000 1)).flows.get? 5).any (fun x => decide (x.recTimeout = 1)) = true)
    ∧ ((gapped 999 1).flows.recs.get? (5, 0)).any (fun c => decide (gapAge (gapped 999 1) c < 1 * 1000)) = true
    ∧ (let s := { withCfg (fun c => { c with prp := [(31, ⟨1, 0, 1, 400, zeros 6⟩)] }) with flows := { State.reset.flows with dup := [(31, [⟨7, 0, 0, 0⟩])] } };
      ((cfg s).prp.get? 31).isSome = true ∧ (s.flows.dup.get? 31).isSome = true) := by decide +kernel

/-! The statements about time and the domain. -/

/-- TIMER_SET of timer 15. -/
def timerPay (mode target period : Nat) : List Byte := leB 1 15 ++ leB 1 mode ++ zeros 2 ++ leB 8 target ++ leB 8 period

theorem witness_TimeCommandsComplete :
    cmdRuns 0x0C05 (lenIs 20) (timerSetChk (cmd (timerPay 0 0 0)) State.reset) (cmd (timerPay 0 0 0)) State.reset
    ∧ (cmdRuns 0x0C05 (lenIs 20) (timerSetChk (cmd (timerPay 1 0 0)) State.reset) (cmd (timerPay 1 0 0)) State.reset ∧ reached State.reset 0 = true
      ∧ cmdRuns 0x0C05 (lenIs 20) (timerSetChk (cmd (timerPay 1 (2 ^ 30) 0)) State.reset) (cmd (timerPay 1 (2 ^ 30) 0)) State.reset ∧ reached State.reset (2 ^ 30) = false)
    ∧ cmdRuns 0x0C06 (lenIs 8) (ppsCfgChk (cmd ([3, 0, 0, 0] ++ leB 4 500000)) State.reset) (cmd ([3, 0, 0, 0] ++ leB 4 500000)) State.reset
    ∧ cmdRuns 0x0C07 (lenIs 8) (syntCfgChk (cmd (zeros 8)) State.reset) (cmd (zeros 8)) State.reset
    ∧ cmdRuns 0x0104 (lenIs 8) (sysEventCfgChk (cmd (zeros 8)) State.reset) (cmd (zeros 8)) State.reset
    ∧ 3 < 4 := by decide +kernel

/-- Timer 15 armed for 7 ns in a mode, at 7 ns. -/
def timed (mode : Nat) : State := atNs 7 { State.reset with time := { State.reset.time with timers := [(15, ⟨mode, 7, 1000, false⟩)] } }

/-- PPS_IN enabled, with an edge `n` sixteenths of a ns before. -/
def pulsed (n : Nat) : State := atNs 1000 { State.reset with time := { State.reset.time with ppsInEn := true, ppsEdge := some (16000 - n) } }

theorem witness_TimeEventsComplete :
    ((dueTimers (timed 2)).head? = some (7, 15) ∧ (timed 2).time.timers.get? 15 = some ⟨2, 7, 1000, false⟩ ∧ (timed 2).quad.sets.any (flipDue (timed 2)) = false
      ∧ ppsBefore (timed 2) 7 = false ∧ (dueTimers (timed 1)).head? = some (7, 15))
    ∧ State.reset.time.ppsInEn = false
    ∧ ((pulsed 15999).time.ppsInEn = true ∧ (pulsed 15999).time.ppsEdge = some 1 ∧ rawSix (pulsed 15999) + 0 < 1 + 16000)
    ∧ ((pulsed 16000).time.ppsEdge = some 0 ∧ 0 + 16000 ≤ rawSix (pulsed 16000) + 0)
    ∧ (let s := atNs 1000000000 { State.reset with time := { State.reset.time with ppsOutEn := true, valid := true, ppsLast := some 0 } };
      s.time.ppsOutEn = true ∧ s.time.valid = true ∧ s.time.prev / 65536000000000 < time16 s / 65536000000000 ∧ 0 ≤ time16 s / 65536000000000
        ∧ ((0 : Nat) : Int) < time16 s / 65536000000000 ∧ s.quad.sets.any (flipDue s) = false ∧ dueTimers s = [])
    ∧ State.reset.time.valid = false
    ∧ (let s := atNs 9 { State.reset with time := { State.reset.time with ppsOut := some 9 } };
      s.time.ppsOut = some 9 ∧ 9 ≤ rawNs s)
    ∧ (atNs 1000000 State.reset).time.thermEval + 1000000 ≤ rawNs (atNs 1000000 State.reset)
    ∧ ({ State.reset.time with stepNext := some (-1, false, true) }.stepNext = some (-1, false, true)
      ∧ { State.reset.time with stepNext := some (1, true, false) }.stepNext = some (1, true, false) ∧ State.reset.time.stepNext = none) := by decide +kernel

/-- SEZAL_CFG: instance 511, EtherType 0x88B5, the flags, UID 1, 1 ms HELLO and sync, members aging at 1 s, 10 ns of tolerance. -/
def sezalPay (flags : Nat) : List Byte :=
  leB 2 511 ++ zeros 2 ++ leB 2 0x88B5 ++ leB 1 flags ++ zeros 1 ++ leB 8 1 ++ leB 4 1000 ++ leB 4 1000 ++ leB 4 1000 ++ leB 4 10000

/-- A block of instance 511 in its domain: port 0 is a domain port whose link and adjacency are up. -/
def member (f : Sezal → Sezal) : State := { updCfg (fun c => { c with domPort := [(0, ⟨15, 3⟩)] }) lit with
  sez := f { State.reset.sez with
    enabled := true
    inst := 511
    uid := 1
    adj := [(0, { st := .up, inst := 4, uid := 2 })] } }

/-- The domain's block has lost step over set 1. -/
def lostStep (q : QSet) : State := { member (fun z => { z with outOfStep := true, heldSet := some 1 }) with quad := { sets := [q], parity := false } }

theorem witness_SezalCommandsComplete :
    (cmdRuns 0x0D01 (lenIs 32) (sezalCfgChk (cmd (sezalPay 1)) State.reset) (cmd (sezalPay 1)) State.reset ∧ bitN (byteAt (sezalPay 1) 6) 0 = true)
    ∧ (cmdRuns 0x0D01 (lenIs 32) (sezalCfgChk (cmd (sezalPay 0)) (member id)) (cmd (sezalPay 0)) (member id) ∧ bitN (byteAt (sezalPay 0) 6) 0 = false
      ∧ (member id).sez.enabled = true)
    ∧ cmdRuns 0x0D01 (lenIs 32) (sezalCfgChk (cmd (sezalPay 0)) State.reset) (cmd (sezalPay 0)) State.reset
    ∧ cmdRuns 0x0D03 (lenIs 4) (sezalStatusChk (cmd [1, 0, 0, 0]) State.reset) (cmd [1, 0, 0, 0]) State.reset
    ∧ cmdRuns 0x0D04 (lenIs 4) (sezalMembersChk (cmd (leB 4 511)) (member id)) (cmd (leB 4 511)) (member id)
    ∧ cmdRuns 0x0D06 (lenIs 4) (keeperPrioSetChk (cmd (leB 4 255)) (member id)) (cmd (leB 4 255)) (member id)
    ∧ (resyncVerdict (cmd [1, 0, 0, 0]) (lostStep { id := 1, domain := true, idleLimit := 0, st := .voting }) = none ∧ (member id).sez.idConflict = false)
    ∧ (resyncVerdict (cmd [1, 0, 1, 0]) (lostStep { id := 1, domain := true, idleLimit := 0, st := .voting }) = none
      ∧ votingSet (lostStep { id := 1, domain := true, idleLimit := 0, st := .voting }) 1 = true)
    ∧ (resyncVerdict (cmd [1, 0, 2, 0]) (lostStep { id := 1, domain := true, idleLimit := 0, st := .voting }) = none
      ∧ flippedSet (lostStep { id := 1, domain := true, idleLimit := 0, st := .voting }) 1 = false)
    ∧ (let s := atNs 10000000 (member (fun z => { z with following := some (cmd [1, 0, 0, 0], 1, 0) }));
      s.sez.following = some (cmd [1, 0, 0, 0], 1, 0) ∧ 0 + 10000000 ≤ rawNs s) := by decide +kernel

/-- A control message of instance 4: its MSG, whether it is flooded, a destination, a number, its body. -/
def ctlFrame (msg : Nat) (flooded : Bool) (dst num : Nat) (body : List Byte) : List Byte :=
  zeros 12 ++ [0x88, 0xB5, 1] ++ leB 1 (if flooded then 6 else 2) ++ beB 4 (4 * 2 ^ 23 + dst * 2 ^ 14) ++ zeros 4 ++ beB 2 num ++ zeros 2 ++ leB 1 msg
    ++ leB 1 body.length ++ body ++ zeros 16

theorem witness_SezalEventsComplete :
    (let s := atNs 1000000 (member id);
      isDomainPort s 0 = true ∧ linkIsUp s 0 = true ∧ (adjOf s 0).sent + 1000 * s.sez.helloUs ≤ rawNs s)
    ∧ (let s := atNs 4000000 (member id);
      (adjOf s 0).st ≠ .down ∧ (adjOf s 0).heard + 4000 * s.sez.helloUs ≤ rawNs s)
    ∧ (let s := atNs 100000000 (member id);
      s.sez.enabled = true ∧ s.sez.memberSent + 100000000 ≤ rawNs s)
    ∧ (let s := atNs 1000000000 (member (fun z => { z with members := [(4, ⟨2, 0, 0, false, false, [], 0⟩)] }));
      s.sez.members.get? 4 = some ⟨2, 0, 0, false, false, [], 0⟩ ∧ 0 + 1000000 * s.sez.memberAgeMs ≤ rawNs s)
    ∧ (let s := atNs 1000000 (member (fun z => { z with upstream := some 0 }));
      s.sez.upstream = some 0 ∧ s.sez.idConflict = false ∧ adjUp s 0 = true ∧ s.sez.syncSent + 1000 * s.sez.syncUs ≤ rawNs s)
    ∧ (proposeDue (atNs 200000 (member (fun z => { z with coord := [⟨1, 900000, 300000, [4], [], 0⟩] })))).isSome = true
    ∧ (let s := atNs 200000 (member (fun z => { z with voting := [⟨1, 4, 0, 900000, 300000, 0⟩] }));
      (s.sez.voting.find? (fun v => decide (v.sent + 200000 ≤ rawNs s) && decide (0 < timeAhead s v.deadline))).isSome = true)
    ∧ (let s := atNs 300000 (member (fun z => { z with coord := [⟨1, 900000, 300000, [4], [], 0⟩] }));
      (s.sez.coord.find? (fun c => decide (timeAhead s c.deadline ≤ 0))).isSome = true)
    ∧ (let s := atNs 100000 (member (fun z => { z with outcomes := [⟨1, 511, 0, 0xFFFF, 0, 1, 0⟩] }));
      (s.sez.outcomes.find? (fun o => decide (0 < o.floods) && decide (o.sent + 100000 ≤ rawNs s))).isSome = true)
    ∧ (let s := atNs 900000 (member (fun z => { z with voting := [⟨1, 4, 0, 900000, 300000, 0⟩] }));
      (s.sez.voting.find? (fun v => decide (v.set = 1))).any (fun v => decide (timeAhead s v.applyTime ≤ 0) && decide (v.vote = 0)) = true ∧ s.sez.heldSet ≠ some 1)
    ∧ (let d := ctlFrame 1 false 0 0 (beB 8 2 ++ zeros 12);
      goodCtl 1 0 d (member id) ∧ linkIsUp (tookCtl 0 d (member id)) 0 = true ∧ nfld (ctlOf d).body 0 8 ≠ (member id).sez.uid)
    ∧ (let d := ctlFrame 2 true 0 9 (beB 8 2 ++ zeros 8);
      goodCtl 2 0 d (member id) ∧ (ctlOf d).src ≠ (member id).sez.inst ∧ (ctlOf d).num ∉ (member id).sez.seen.getD (ctlOf d).src [])
    ∧ (let d := ctlFrame 3 true 0 9 (beB 8 2);
      let s := member (fun z => { z with members := [(4, ⟨2, 0, 0, false, false, [], 0⟩)] });
      goodCtl 3 0 d s ∧ (s.sez.members.get? (ctlOf d).src).any (fun x => decide (x.uid = nfld (ctlOf d).body 0 8)) = true ∧ (ctlOf d).num ∉ s.sez.seen.getD (ctlOf d).src [])
    ∧ (let d := ctlFrame 4 false 511 0 (beB 2 1);
      goodCtl 4 0 d (member id) ∧ adjUp (tookCtl 0 d (member id)) 0 = true)
    ∧ (let d := ctlFrame 5 false 511 0 (beB 2 1 ++ zeros 22);
      let s := member (fun z => { z with req := some (1, 0), upstream := some 0, follow := true });
      goodCtl 5 0 d s ∧ nfld (ctlOf d).body 0 2 = 1 ∧ ((cfg s).domPort.get? 0).isSome = true)
    ∧ (let d := ctlFrame 6 true 0 9 (beB 2 1 ++ zeros 22);
      let s := member (fun z => { z with present := [4, 511] });
      goodCtl 6 0 d s ∧ newFlood s (ctlOf d) = true ∧ (ctlOf d).src ∈ (forwardFlood 0 d (noteSeen (ctlOf d) (tookCtl 0 d s))).sez.present
        ∧ (forwardFlood 0 d (noteSeen (ctlOf d) (tookCtl 0 d s))).sez.voting = [] ∧ (forwardFlood 0 d (noteSeen (ctlOf d) (tookCtl 0 d s))).sez.outcomes = [])
    ∧ (let d := ctlFrame 7 false 511 0 (beB 2 1 ++ [0]);
      let s := member (fun z => { z with coord := [⟨1, 900000, 300000, [4], [], 0⟩] });
      goodCtl 7 0 d s ∧ (ctlOf d).dst = some (tookCtl 0 d s).sez.inst
        ∧ ((tookCtl 0 d s).sez.coord.find? (fun c => decide (c.set = nfld (ctlOf d).body 0 2))).any (fun c => decide ((ctlOf d).src ∈ c.voters)
          && decide (0 < timeAhead (tookCtl 0 d s) c.deadline)) = true)
    ∧ (let d := ctlFrame 8 true 0 9 (beB 2 1 ++ zeros 4);
      goodCtl 8 0 d (member id) ∧ newFlood (member id) (ctlOf d) = true ∧ (forwardFlood 0 d (noteSeen (ctlOf d) (tookCtl 0 d (member id)))).sez.following = none)
    ∧ (let d := ctlFrame 9 true 0 9 (beB 2 1 ++ beB 2 511);
      let s := member (fun z => { z with outcomes := [⟨1, 511, 0, 0xFFFF, 0, 0, 0⟩] });
      goodCtl 9 0 d s ∧ newFlood s (ctlOf d) = true
        ∧ (outcomeKnown (forwardFlood 0 d (noteSeen (ctlOf d) (tookCtl 0 d s))) (nfld (ctlOf d).body 0 2) (nfld (ctlOf d).body 2 2)).isSome = true)
    ∧ (let d := ctlFrame 1 false 0 0 (beB 8 2);
      isDomainPort (member id) 0 = true ∧ sezalTagged (member id) d = true ∧ bitN (byteAt d 15) 1 = true ∧ 30 ≤ d.length ∧ byteAt d 28 = 1 ∧ ctlLenOk 1 d = false) := by
  unfold goodCtl
  repeat' apply And.intro
  all_goals decide +kernel

/-! The statements about Otdiuri. -/

/-- Otdiuri with something of its state set. -/
def meter (f : Otd → Otd) : State := { State.reset with otd := f State.reset.otd }

/-- An Otdiuri command passes its checks. -/
abbrev otdPass (op : Nat) (len : Nat → Bool) (fields : Env → State → List (Nat × Bool)) (more : Env → State → List (Option Verdict)) (payload : List Byte) (s : State) : Prop :=
  otdVerdict op len (fields (ocmd payload) s) (more (ocmd payload) s) (ocmd payload) s = none

/-- NOM_INC at 25 MHz in 2^-16: 40 ns. -/
def incForty : List Byte := leB 5 (40 * 2 ^ 32)

/-- Otdiuri takes the servo's actions, of port 0. -/
def servoed : State := { updCfg (fun c => { c with ptp := [(0, { ptpCfgOf (zeros 24) with role := 4 })] }) lit with otd := { State.reset.otd with authority := true } }

theorem witness_MeterTimeComplete :
    otdPass 0x8001 (lenIs 0) (fun _ _ => []) (fun _ _ => []) [] State.reset
    ∧ otdPass 0x8002 (lenIs 4) osysStatusFields (fun _ _ => []) [1, 0, 0, 0] State.reset
    ∧ otdPass 0x8101 (lenIs 0) (fun _ _ => []) (fun _ _ => []) [] State.reset
    ∧ otdPass 0x8102 (lenIs 8) otimeSetIncFields otimeSetIncMore (incForty ++ zeros 3) State.reset
    ∧ otdPass 0x8103 (lenIs 12) otimeStepFields otimeStepMore (zeros 10 ++ [1, 0]) State.reset
    ∧ otdPass 0x8104 (lenIs 4) otimeAuthorityFields otimeAuthorityMore [1, 0, 0, 0] State.reset
    ∧ (servoRefused (meter (fun o => { o with authority := true })) = false ∧ servoRuns servoed = true ∧ servoPorts servoed = [0] ∧ followsDomain servoed = false
      ∧ servoRefused servoed = false ∧ incInRange (meter (fun o => { o with authority := true })) (40 * 2 ^ 32) = true)
    ∧ (servoRefused State.reset = true ∧ incInRange (meter (fun o => { o with authority := true })) 0 = false)
    ∧ State.reset.time.stepNext = none := by decide +kernel

/-- A ring of 16 records whose producer stands at `prod`. -/
def oring (prod : Nat) (stopping : Bool) : ORing := ⟨256, 16, 0, prod, stopping⟩

/-- Otdiuri as it writes a record: its first or its second half. -/
def writing (ns : Nat) (second : Bool) : State :=
  atNs ns (meter (fun o => { o with ring := some (oring 15 false), writing := [⟨zeros 128, true⟩], write := some ⟨second, 0⟩ }))

/-- OMAP_SET of flow 5 to account 9. -/
def mapPay : List Byte := [0, 1] ++ zeros 6 ++ leB 4 5 ++ leB 4 9 ++ leB 4 7

/-- An event of flow 5 in port 0's tap, and its summary. -/
def tapped (f : Otd → Otd) : State := meter (fun o => f { o with map := { flows := [(5, ⟨9, 9, true, true⟩)], ports := [] }, taps := [⟨⟨0, false, 5, 0, false⟩, 1, 64, false, false⟩] })

/-- 900 s of Otdiuri's time, so that an interval ends. -/
def intervalEnd (f : Otd → Otd) : State := atNs 900000000000 (meter (fun o => f { o with incSumAt := 900000000000 }))

/-- A boundary that has begun at 5 ns. -/
def closingAt (ns : Nat) : State := atNs ns (meter (fun o => { o with closing := some ⟨ns, ns * 65536, 0, false, false⟩ }))

/-- The witnesses of the statement's ring clauses, and of its summaries and intervals. -/
theorem witness_MeteringComplete :
    otdPass 0x8201 (fun k => decide (8 ≤ k) && decide (k = 8 + 12 * byteAt mapPay 1)) omapSetFields omapSetMore mapPay State.reset
    ∧ otdPass 0x8202 (lenIs 8) omapReadFields (fun _ _ => []) [1, 1, 0, 0, 0, 0, 0, 0] State.reset
    ∧ otdPass 0x8203 (lenIs 4) omapClearFields omapClearMore [2, 0, 0, 0] State.reset
    ∧ (otdPass 0x8301 (lenIs 16) orecordRingSetFields orecordRingSetMore ([1, 0] ++ leB 2 256 ++ leB 4 16 ++ zeros 8) State.reset
      ∧ bitN (byteAt ([1, 0] ++ leB 2 256 ++ leB 4 16 ++ zeros 8) 0) 0 = true)
    ∧ otdPass 0x8301 (lenIs 16) orecordRingSetFields orecordRingSetMore (zeros 16) State.reset
    ∧ otdPass 0x8302 (lenIs 4) orecordIntervalFields orecordIntervalMore (leB 4 3600) State.reset
    ∧ otdPass 0x8303 (lenIs 0) (fun _ _ => []) (fun _ _ => []) [] State.reset
    ∧ (15 < (oring 16 false).size ∧ ((oring 16 false).prod + 2 * 16 - (15 + 0)) % (2 * 16) ≤ 16)
    ∧ (oring 0 false).size ≤ (16#32).toNat % 65536
    ∧ ((writing 0 false).otd.write = some ⟨false, 0⟩ ∧ (writing 0 false).otd.ring = some (oring 15 false) ∧ (writing 0 false).otd.writing = [⟨zeros 128, true⟩])
    ∧ ((writing 0 true).otd.write = some ⟨true, 0⟩ ∧ (oring 15 false).stopping = false)
    ∧ 0 + 1000000 ≤ rawNs (writing 1000000 false)
    ∧ ((tapped id).otd.taps.find? (named (tapped id).otd ⟨0, false, 5, 0, false⟩)).isSome = true
    ∧ State.reset.otd.taps.find? (named State.reset.otd ⟨0, false, 5, 0, false⟩) = none
    ∧ accountOf (tapped id).otd.map 0 5 false = some 9
    ∧ (State.reset.otd.closing = none ∧ boundaryDue (atNs 899999999999 State.reset) = false)
    ∧ (let s := intervalEnd id
      s.otd.start = .ready ∧ s.otd.closing = none ∧ boundaryDue s = true ∧ (waiting (beginClose s)).any lateFrame = false)
    ∧ (let s := { intervalEnd id with slices := [(0, { ingress := [plainFrame] })] }
      boundaryDue s = true ∧ (waiting (beginClose s)).any lateFrame = true)
    ∧ (let s := { closingAt 5 with slices := [(0, { ingress := [{ plainFrame with tap := .old }] })] }
      s.otd.closing.isSome = true ∧ (waiting s).any lateFrame = true ∧ ¬ 5 + 1000000 ≤ rawNs s)
    ∧ ((closingAt 5).otd.closing.isSome = true ∧ (waiting (closingAt 5)).any lateFrame = false) := by decide +kernel

/-- A sealed meter of an all-zero key and NONCE 0, with the AUTH that HMAC-SHA-256 gives for them. -/
def sealedMeter : State := meter (fun o => { o with key := some (zeros 32), nonce := 0, sealSt := .isSealed, ledger := [1] })

/-- The AUTH of OSEAL_UNSEAL at the sealed meter (computed outside the model). -/
def goodAuth : List Byte := [0x34, 0xEE, 0x92, 0x15, 0xF7, 0x83, 0x9B, 0xC4, 0x40, 0xE4, 0x44, 0x3F, 0x74, 0xE2, 0xBC, 0x6C]

theorem witness_SealComplete :
    otdPass 0x8401 (lenIs 0) (fun _ _ => []) (fun _ _ => []) [] State.reset
    ∧ otdPass 0x8402 (lenIs 4) osealSealFields osealSealMore (leB 4 1) (meter (fun o => { o with key := some (zeros 32) }))
    ∧ (otdPass 0x8403 (lenIs 16) (fun _ _ => []) (fun _ s => [fullVerdict s, unlessOk (s.otd.sealSt ≠ .isUnsealed) (stateV 0), unlessOk (!unsealBlocked s) (refusedV 3)]) goodAuth sealedMeter
      ∧ authGood sealedMeter goodAuth = true)
    ∧ (otdPass 0x8403 (lenIs 16) (fun _ _ => []) (fun _ s => [fullVerdict s, unlessOk (s.otd.sealSt ≠ .isUnsealed) (stateV 0), unlessOk (!unsealBlocked s) (refusedV 3)]) (zeros 16) sealedMeter
      ∧ authGood sealedMeter (zeros 16) = false)
    ∧ ((meter (fun o => { o with blockUntil := some 7 })).otd.blockUntil = some 7 ∧ 7 ≤ rawNs (atNs 7 (meter (fun o => { o with blockUntil := some 7 })))
      ∧ rawNs (atNs 6 (meter (fun o => { o with blockUntil := some 7 }))) < 7)
    ∧ (sealedMeter.otd.start = .ready ∧ sealedMeter.otd.switch = true ∧ sealedMeter.otd.sealSt = .isSealed)
    ∧ (State.reset.otd.start = .ready ∧ State.reset.otd.switch = (!false) ∧ State.reset.otd.sealSt = .isUnsealed)
    ∧ (sealedMeter.otd.switch = true) ∧ sealedMeter.otd.sealSt ≠ .isUnsealed := by decide +kernel

theorem witness_MeterLogAndStartComplete :
    otdPass 0x8501 (lenIs 4) (fun _ _ => []) (fun _ _ => []) (leB 4 1) State.reset
    ∧ otdPass 0x8502 (lenIs 4) (fun _ _ => []) ologAckMore (leB 4 1) (meter (fun o => { o with logRead := 2 }))
    ∧ (State.reset.otd.lost = 0 ∧ State.reset.otd.log.length < 4096)
    ∧ ((keyRead [0, 0, 0, 0, 0, 0]).otd.keyWords.length < 7 ∧ (keyRead [0, 0, 0, 0, 0, 0]).otd.start = .keyRead ∧ (keyRead [0, 0, 0, 0, 0, 0]).otd.keyReq = some 0)
    ∧ (((keyRead [0, 0, 0, 0, 0, 0, 0]).otd.keyWords ++ [1#32]).length = 8)
    ∧ State.reset.otd.start ≠ .keyRead := by decide +kernel

/-! The statements about the host side and interrupts. -/

/-- RING_CREATE of queue 4: 16 entries, transmit. -/
def ringCreatePay : List Byte := leB 2 4 ++ zeros 2 ++ leB 4 16 ++ zeros 16 ++ leB 2 256 ++ leB 2 1 ++ zeros 12

/-- QP_CREATE of queue 4: 16 entries, transmit, no completion ring bound. -/
def qpCreatePay : List Byte := leB 2 4 ++ zeros 2 ++ leB 4 16 ++ zeros 24

/-- CQ_CREATE of ring 4: 16 entries. -/
def cqCreatePay : List Byte := leB 2 4 ++ zeros 2 ++ leB 4 16 ++ zeros 8 ++ leB 2 256 ++ leB 2 1 ++ zeros 4

/-- Queue 4 as given. -/
def queuedAs (x : SubQ) : State := { State.reset with hq := { State.reset.hq with sq := [(4, x)] } }

/-- Completion ring 4 as given. -/
def ringedAs (x : CompQ) : State := { State.reset with hq := { State.reset.hq with cq := [(4, x)] } }

/-- A completion ring of 16 entries. -/
def compFour : CompQ := { size := 16, base := 0, vector := 256, coalesce := 1, coalUs := 1 }

/-- QUEUE_CTL's payload for queue or ring 4. -/
def ctlPay (ring act : Nat) : List Byte := leB 2 4 ++ leB 1 ring ++ leB 1 act

theorem witness_HostCommandsComplete :
    cmdRuns 0x0E01 (lenIs 40) (ringCreateChk (cmd ringCreatePay) State.reset) (cmd ringCreatePay) State.reset
    ∧ cmdRuns 0x0E02 (lenIs 32) (qpCreateChk (cmd (qpCreatePay.set 24 4)) (ringedAs compFour)) (cmd (qpCreatePay.set 24 4)) (ringedAs compFour)
    ∧ cmdRuns 0x0E03 (lenIs 24) (cqCreateChk (cmd cqCreatePay) State.reset) (cmd cqCreatePay) State.reset
    ∧ (cmdRuns 0x0E04 (lenIs 4) (queueCtlChk 0 (cmd (ctlPay 1 0)) (ringedAs compFour)) (cmd (ctlPay 1 0)) (ringedAs compFour) ∧ onRing (cmd (ctlPay 1 0)) = true)
    ∧ (cmdRuns 0x0E04 (lenIs 4) (queueCtlChk 0 (cmd (ctlPay 0 0)) (queuedAs ringFour)) (cmd (ctlPay 0 0)) (queuedAs ringFour) ∧ onRing (cmd (ctlPay 0 0)) = false
      ∧ sqOf (queuedAs ringFour) 4 = some ringFour ∧ ringFour.st = .enabled)
    ∧ (cmdRuns 0x0E04 (lenIs 4) (queueCtlChk 0 (cmd (ctlPay 0 0)) (queuedAs { ringFour with st := .error })) (cmd (ctlPay 0 0)) (queuedAs { ringFour with st := .error }))
    ∧ (cmdRuns 0x0E04 (lenIs 4) (queueCtlChk 1 (cmd (ctlPay 0 1)) (queuedAs { ringFour with st := .disabled })) (cmd (ctlPay 0 1)) (queuedAs { ringFour with st := .disabled }))
    ∧ (cmdRuns 0x0E04 (lenIs 4) (queueCtlChk 1 (cmd (ctlPay 1 1)) (ringedAs compFour)) (cmd (ctlPay 1 1)) (ringedAs compFour))
    ∧ (cmdRuns 0x0E04 (lenIs 4) (queueDestroyChk (cmd (ctlPay 0 2)) (queuedAs { ringFour with st := .disabled })) (cmd (ctlPay 0 2)) (queuedAs { ringFour with st := .disabled })
      ∧ cmdRuns 0x0E04 (lenIs 4) (queueDestroyChk (cmd (ctlPay 1 2)) (ringedAs { compFour with enabled := false })) (cmd (ctlPay 1 2)) (ringedAs { compFour with enabled := false }))
    ∧ (cmdRuns 0x0E05 (lenIs 4) (queueResetChk (cmd (ctlPay 0 0)) (queuedAs { ringFour with st := .error })) (cmd (ctlPay 0 0)) (queuedAs { ringFour with st := .error })
      ∧ ringFour.works = [] ∧ cmdRuns 0x0E05 (lenIs 4) (queueResetChk (cmd (ctlPay 1 0)) (ringedAs { compFour with enabled := false })) (cmd (ctlPay 1 0)) (ringedAs { compFour with enabled := false }))
    ∧ cmdRuns 0x0E06 (lenIs 4) (queueStatusChk (cmd (ctlPay 0 1)) (queuedAs ringFour)) (cmd (ctlPay 0 1)) (queuedAs ringFour) := by decide +kernel

/-- HST that failed to wake. -/
def hstDead : State := { State.reset with pwr := { dom := [(66, { wakeFail := true })] } }

/-- An entry of 32 bytes with its phase bit. -/
def entryOf (phase : Bool) : Fetched := ⟨zeros 15 ++ [if phase then 0x80 else 0] ++ zeros 16, zeros 60, [], 0⟩

theorem witness_DoorbellsAndFetching :
    (hptServed false hstDead = true ∧ (dom hstDead 66).wakeFail = true)
    ∧ (hptServed false State.reset = true ∧ hptServed false (queuedAs ringFour) = true ∧ hptServed false (ringedAs compFour) = true ∧ (dom State.reset 66).wakeFail = false ∧ sqOf (hptOk 0 (askWake 66 State.reset)) 4 = none)
    ∧ sqOf (hptOk 0 (askWake 66 (queuedAs { ringFour with st := .error }))) 4 = some { ringFour with st := .error }
    ∧ (sqOf (hptOk 0 (askWake 66 (queuedAs ringFour))) 4 = some ringFour
      ∧ 16 < posDist 16 0 (posOf 16 (bitsN (0x10001#32).toNat 15 0) (bitN (0x10001#32).toNat 16))
      ∧ (posDist 16 0 (posOf 16 (bitsN (16#32).toNat 15 0) (bitN (16#32).toNat 16)) ≤ 16 ∧ 16 ≤ bitsN (16#32).toNat 15 0)
      ∧ (posDist 16 0 (posOf 16 (bitsN (0x10000#32).toNat 15 0) (bitN (0x10000#32).toNat 16)) ≤ 16 ∧ bitsN (0x10000#32).toNat 15 0 < 16 ∧ outstandingOf ringFour = 0))
    ∧ (cqOf (hptOk 0 (askWake 66 (ringedAs { compFour with prod := 16 }))) 4 = some { compFour with prod := 16 } ∧ 16 ≤ bitsN (16#32).toNat 15 0
      ∧ (bitsN (0x10000#32).toNat 15 0 < 16 ∧ posDist 16 (posOf 16 (bitsN (0x10000#32).toNat 15 0) (bitN (0x10000#32).toNat 16)) 16 ≤ posDist 16 0 16))
    ∧ (mayFetch (queuedAs { ringFour with tail := 1 }) 4 { ringFour with tail := 1 } = true ∧ placeFree (queuedAs { ringFour with tail := 1 }) { ringFour with tail := 1 } = true
      ∧ phaseGood { ringFour with tail := 1 } 0 (entryOf true) = true)
    ∧ (phaseGood { ringFour with tail := 1 } 0 (entryOf false) = false ∧ 0 < outstandingOf { ringFour with tail := 1 })
    ∧ (mayFetch (queuedAs ringFour) 4 ringFour = true ∧ phaseGood ringFour 0 (entryOf false) = false ∧ outstandingOf ringFour ≤ 0)
    ∧ (let x : SubQ := { ringFour with gen := 2, tail := 1 }
      mayFetch (queuedAs x) 4 x = true ∧ placeFree (queuedAs x) x = false)
    ∧ (let s := atNs 1000 (queuedAs { ringFour with tail := 1, phaseWait := some 0 });
      (sqOf s 4).any (fun x => decide (x.phaseWait = some 0) && hstRuns s && decide (x.st = .enabled) && decide (x.phaseAt + 1000 ≤ rawNs s)
        && phaseGood x 0 (entryOf true) && !phaseGood x 0 (entryOf false)) = true)
    ∧ (let s := queuedAs { ringFour with tail := 1, fetched := [work .tx 0 0] };
      (sqOf s 4).any (fun x => decide (x.fetched = [work .tx 0 0]) && hstRuns s && decide (outstandingOf x ≠ 0) && placeFree s x) = true
        ∧ stagedBytes s + (work .tx 0 0).data.length ≤ 524288) := by decide +kernel

/-- A NOP that has ended and whose head is acknowledged. -/
def endedNop (ack : Nat) : SubQ := { ringFour with works := [{ work .nop 0 0 with result := some 0 }], ackN := ack }

theorem witness_WorkEntriesComplete :
    nextWork (queuedAs { ringFour with works := [work .nop 0 0] }) 4 .nop = some (work .nop 0 0)
    ∧ (hstRuns (queuedAs { ringFour with wbState := true }) = true ∧ headDue (queuedAs { ringFour with wbState := true }) { ringFour with wbState := true } = true
      ∧ hpiRoom 1 (queuedAs { ringFour with wbState := true }) = true)
    ∧ (sqOf (queuedAs { ringFour with wbOpens := [1] }) 4).any (fun x => decide (x.wbOpens = [1])) = true
    ∧ (((endedNop 1).works.find? (fun w => decide (w.pos = 0) && !w.issued)).any (fun w => decide (w.result ≠ none) && shown (endedNop 1) w
      && inQueueOrder 4 (endedNop 1) w) = true ∧ hstRuns (queuedAs (endedNop 1)) = true ∧ hpiRoom 1 (queuedAs (endedNop 1)) = true)
    ∧ ((endedNop 0).works.find? (fun w => decide (w.pos = 0) && !w.issued)).any (fun w => !shown (endedNop 0) w) = true
    ∧ State.reset.hq.open' = []
    ∧ (let s := { State.reset with hq := { State.reset.hq with open' := [⟨4, 0, 0, zeros 32⟩] } };
      s.hq.open'.find? (fun o => decide (o.queue = 4) && decide (o.pos = 0)) = some ⟨4, 0, 0, zeros 32⟩ ∧ sqOf s 4 = none)
    ∧ (let t := queuedAs { ringFour with works := [{ work .nop 0 0 with result := some 0, issued := true }] }
      let s := { t with hq := { t.hq with open' := [⟨4, 0, 0, zeros 32⟩] } }
      (s.hq.open'.find? (fun o => decide (o.queue = 4) && decide (o.pos = 0))).isSome = true
        ∧ (sqOf s 4).any (fun x => (x.works.find? (fun w => decide (w.pos = 0) && w.issued)).isSome) = true)
    ∧ (let s := atNs 1000 { State.reset with cap := { State.reset.cap with rings := [(15, ⟨256, 16, 0, 0, 2, 1, 1, 0, true, [], 1, 0, none, true⟩)] } };
      (s.cap.rings.get? 15).any (fun r => decide (0 < r.since) && decide (0 < r.coalUs) && decide (r.sinceAt + r.coalUs * 1000 ≤ rawNs s)) = true)
    ∧ (let s := atNs 1000 (queuedAs { ringFour with since := 1, coalUs := 1 });
      (sqOf s 4).any (fun x => decide (x.gen = 1) && decide (0 < x.since) && decide (x.sinceAt + x.coalUs * 1000 ≤ rawNs s)) = true)
    ∧ (let s := atNs 1000 (ringedAs { compFour with since := 1 });
      (cqOf s 4).any (fun x => decide (0 < x.since) && decide (0 < x.coalUs) && decide (x.sinceAt + x.coalUs * 1000 ≤ rawNs s)) = true) := by decide +kernel

/-- Queue 4 with a frame staged for host port 0. -/
def staging : State := queuedAs { ringFour with works := [work .tx 0 0] }

/-- Receive queue 4 of host port 0 with the works given. -/
def receiving (maxRx : Nat) (works : List Work) (filter : Bool) (waited : Bool) : State :=
  { updCfg (fun c => { c with rxFilter := if filter then [(0, ⟨false, 0, 0, 0, 0, 0, 0, 4⟩)] else [] })
      (queuedAs { ringFour with rx := true, maxRx := maxRx, works := works }) with
    ports := [(1024, { fifo := [.copy { copyZero with port := 1024 }] })]
    buf := { State.reset.buf with frames := [(0, handed [])] }
    hq := { (queuedAs { ringFour with rx := true, maxRx := maxRx, works := works }).hq with rxWaitAt := if waited then [(qid 1024 0, 0)] else [] } }

/-- How a copy for host port 0 is judged. -/
def judged (s : State) : RxVerdict := judgeData s 1024 0 (sorted 60) (padded (zeros 60)) []

theorem witness_HostPortsComplete :
    ((sqOf staging 4).bind stagedHead = some (work .tx 0 0) ∧ hstRuns staging = true ∧ nextTxQueue staging 0 = some 4 ∧ coreTakes staging (sliceOf staging 1024) = true
      ∧ (slice staging (sliceOf staging 1024)).den = [] ∧ stagingFill staging (sliceOf staging 1024) + (60 + 4) ≤ 65536)
    ∧ (sqOf (queuedAs ringFour) 4).bind stagedHead = none
    ∧ (hstRuns (receiving 2048 [work .rxPost 0 0] true false) = true ∧ isHostPort 1024 = true ∧ (hostHead (receiving 2048 [work .rxPost 0 0] true false) 1024 0).isSome = true
      ∧ (storedOf (receiving 2048 [work .rxPost 0 0] true false) 0).any (fun k => decide (k.c = sorted 60)) = true
      ∧ judged (receiving 2048 [work .rxPost 0 0] true false) = .fill 4 (work .rxPost 0 0) ∧ judged (receiving 59 [work .rxPost 0 0] true false) = .tooLong 4
      ∧ judged (receiving 2048 [] true false) = .wait 4 false ∧ judged (receiving 2048 [] false false) = .noQueue)
    ∧ (judged (receiving 2048 [] true true) = .wait 4 false ∧ (receiving 2048 [] true true).hq.rxWaitAt.get? (qid 1024 0) = some 0)
    ∧ State.reset.hq.rxWaitAt.get? (qid 1024 0) = none := by decide +kernel

/-- DMA channel 63 as given. -/
def channel (x : DmaCh) : State := { State.reset with dma := [(63, x)] }

/-- A copy of 64 bytes from 0 to 0x1000. -/
def copy64 : DmaSet := { src := 0, dst := 0x1000, len := 64 }

/-- A channel under way, with what it has read, its writes that are out, those of its last transfer, and the failed attempts at one address. -/
def underWay (read : Nat) (writes : KMap Nat (List Byte)) (old : List (Nat × List Byte)) (tries : Nat) : State :=
  channel { st := .busy, active := copy64, readPos := read, writes := writes, oldWrites := old, tries := [(0x1000, tries)] }

theorem witness_DmaChannelsComplete : ((63 < 64) ∧ hptServed false State.reset = true ∧ (dom State.reset 66).wakeFail = false)
    ∧ ((dmaOf State.reset 63).shadowValid = false ∧ (dmaOf (channel { shadowValid := true }) 63).shadowValid = true)
    ∧ ((dmaOf (channel { shadow := copy64, shadowValid := true }) 63).st = .idle ∧ hstWorks 7 (channel { shadow := copy64, shadowValid := true }) = true
      ∧ badRange (dmaOf (channel { shadow := copy64, shadowValid := true }) 63).shadow = false)
    ∧ badRange { copy64 with dst := 63 } = true
    ∧ ((dmaOf (channel { st := .busy }) 63).st = .busy ∧ (dmaOf (channel { st := .busy }) 63).active.len = 0 ∧ hstWorks 7 (channel { st := .busy }) = true)
    ∧ ((dmaOf (underWay 0 [] [] 0) 63).st = .busy ∧ dmaNext (dmaOf (underWay 0 [] [] 0) 63) = (zeros 64).length ∧ (zeros 64).length ≠ 0
      ∧ hpiRoom (dmaWrites 0x1000 (zeros 64)).length (underWay 0 [] [] 0) = true)
    ∧ openWrite (dmaOf (underWay 64 [(0x1000, zeros 64)] [] 0) 63) 0x1000 = some (false, zeros 64)
    ∧ ((dmaOf (channel { st := .aborting, writes := [(0x1000, zeros 64)] }) 63).st = .aborting)
    ∧ (openWrite (dmaOf (underWay 64 [] [(0x1000, zeros 64)] 0) 63) 0x1000 = some (true, zeros 64))
    ∧ ((dmaOf (underWay 0 [] [] 2) 63).tries.getD 0x1000 0 < (dmaOf (underWay 0 [] [] 2) 63).retryMax
      ∧ ¬ (dmaOf (underWay 0 [] [] 3) 63).tries.getD 0x1000 0 < (dmaOf (underWay 0 [] [] 3) 63).retryMax)
    ∧ (0 + 64 = (dmaOf (underWay 0 [] [] 0) 63).active.len ∧ 0 + 63 ≠ (dmaOf (underWay 0 [] [] 0) 63).active.len)
    ∧ (let s := channel { st := .halted, haltKind := 2, errAddr := 0x1000, writes := [(0x1000, zeros 64)] }
      (dmaOf s 63).st = .halted ∧ (dmaOf s 63).haltKind = 2 ∧ openWrite (dmaOf s 63) (dmaOf s 63).errAddr = some (false, zeros 64) ∧ hptServed false s = true)
    ∧ (dmaOf (channel { st := .halted, haltKind := 3 }) 63).haltKind ≠ 2 := by decide +kernel

theorem witness_DmaLoadRules :
    ((dmaOf (channel { shadowValid := true }) 63).st = .idle ∧ (dmaOf (channel { shadowValid := true }) 63).shadowValid = true ∧ hstWorks 7 (channel { shadowValid := true }) = true
      ∧ (dmaOf (channel { shadowValid := true }) 63).shadow.len = 0 ∧ (dmaOf (channel { shadowValid := true }) 63).shadow.src ≤ 2 ^ 64)
    ∧ ((dmaOf (channel { st := .busy }) 63).st = .busy ∧ (dmaOf (channel { st := .busy }) 63).active.len = 0)
    ∧ (2 ^ 64 < ({ copy64 with src := 2 ^ 64 - 63 }).src + 64 ∧ 2 ^ 64 < ({ copy64 with dst := 2 ^ 64 - 63 }).dst + 64 ∧ (0 ≤ 63 ∧ 63 < 0 + 64 ∧ 63 ≤ 63 ∧ 63 < 63 + 64)) := by decide +kernel

/-- The distributor as given. -/
def distributor (q : Irq) : State := { State.reset with irq := q }

/-- Source 4095 pends and is enabled; target 0 is on, with what runs on it. -/
def pendingLast (stack : List RunEntry) : Irq := { enable := true, pend := [4095], en := BitVec.allOnes 4096, tgt := [(0, { enable := true, stack := stack })] }

theorem witness_EventControllersComplete : (hptServed false State.reset = true ∧ (dom State.reset 66).wakeFail = false)
    ∧ (eventOffer { evPend := [⟨0, 3⟩] } = some ⟨0, 3⟩ ∧ firmwareRuns State.reset = true)
    ∧ ({ evStack := [⟨31, 3⟩] : Irq }.evStack = ⟨31, 3⟩ :: [] ∧ (⟨31, 3⟩ : SliceCauseId) ≠ ⟨31, 2⟩)
    ∧ winner (pendingLast []) 0 = some (4095, 0x80)
    ∧ winner State.reset.irq 63 = none
    ∧ ((tgtOf (pendingLast [⟨4095, 0x80⟩]) 0).stack = ⟨4095, 0x80⟩ :: [] ∧ (0x10FFF#32).toNat % 65536 = 4095 ∧ (0x10FFF#32).getLsbD 16 = true ∧ (0x0FFF#32).getLsbD 16 = false)
    ∧ (4095 < 4096 ∧ 63 < 64)
    ∧ (let s := atNs 50000 (distributor { waits := [(5, 0)] });
      s.irq.waits.get? 5 = some 0 ∧ 0 + 1000 * (tgtOf s.irq (srcCfgOf s.irq 5).target).wakeWait ≤ rawNs s)
    ∧ (let s := atNs 49999 (distributor { waits := [(5, 0)] });
      rawNs s < 0 + 1000 * (tgtOf s.irq (srcCfgOf s.irq 5).target).wakeWait)
    ∧ ((tgtOf { tgt := [(63, { msgOpen := true })] } 63).msgOpen = true ∧ (tgtOf {} 63).msgOpen = false) := by decide +kernel

theorem witness_ClaimAndEoi : hptServed false (distributor (pendingLast [])) = true ∧ eligible (pendingLast []) 0 ≠ [] ∧ eligible State.reset.irq 63 = []
    ∧ eligible { enable := true, tgt := [(63, { enable := true, privPend := 1, privEn := 1 })] } 63 ≠ []
    ∧ ((tgtOf (pendingLast []) 0).awake = true)
    ∧ ((tgtOf (pendingLast [⟨4095, 0x80⟩]) 0).stack = ⟨4095, 0x80⟩ :: [] ∧ 4095 = (0x10FFF#32).toNat % 65536 ∧ (0x10FFF#32).getLsbD 16 = true)
    ∧ ((0x1101F#32).toNat % 65536 = 0x101F ∧ 0x1000 ≤ 0x101F ∧ 0x101F < 0x1020)
    ∧ (tgtOf State.reset.irq 63).stack = [] := by decide +kernel

/-! The statements about power, tests and recovery. -/

/-- Domains in the states given. -/
def domains (f : Pwr → Pwr) : State := { State.reset with pwr := f State.reset.pwr }

/-- PWR_STATE_SET: domain, target, NOW. -/
def pwrPay (d target now : Nat) : List Byte := leB 1 d ++ leB 1 target ++ leB 1 now ++ zeros 1 ++ leB 4 100 ++ leB 4 10

theorem witness_PowerCommandsComplete :
    (cmdRuns 0x0F01 (lenIs 12) (pwrStateSetChk (cmd (pwrPay 63 2 0)) State.reset) (cmd (pwrPay 63 2 0)) State.reset
      ∧ cmdRuns 0x0F01 (lenIs 12) (pwrStateSetChk (cmd (pwrPay 63 0 1)) State.reset) (cmd (pwrPay 63 0 1)) State.reset
      ∧ cmdRuns 0x0F01 (lenIs 12) (pwrStateSetChk (cmd (pwrPay 32 1 1)) State.reset) (cmd (pwrPay 32 1 1)) State.reset
      ∧ (namedCores State.reset 32).filter (fun d => decide (depthOf (dom State.reset d).st < depthOf (targetState 1))) = [32]
      ∧ (namedCores (domains (fun p => { p with dom := [(32, { st := .nap })] })) 32).filter (fun d => decide (depthOf (dom (domains (fun p => { p with dom := [(32, { st := .nap })] })) d).st < depthOf (targetState 1))) = [])
    ∧ (cmdRuns 0x0F02 (lenIs 0) (hibernateChk (cmd []) State.reset) (cmd []) State.reset ∧ State.reset.pwr.rounds = [])
    ∧ cmdRuns 0x0F04 (lenIs 4) (pwrStatusChk (cmd [1, 0, 0, 0]) State.reset) (cmd [1, 0, 0, 0]) State.reset
    ∧ cmdRuns 0x0F05 (lenIs 8) (drainLimitSetChk (cmd ([66, 0, 0, 0] ++ leB 4 10000)) State.reset) (cmd ([66, 0, 0, 0] ++ leB 4 10000)) State.reset
    ∧ cmdRuns 0x0F03 (lenIs 24) {} (cmd (zeros 24)) State.reset := by decide +kernel

/-- A round that asks domain 63, with blocks 3 and 2 still to answer and what the blocks would refuse. -/
def askOf (refuse : List (Nat × Nat × Nat)) : AskRound := { by' := .auto, target := .doze, domains := [63], waitingFor := [(63, 3), (63, 2)], refuse := refuse, start := 0 }

/-- A block in that round. -/
def asking (refuse : List (Nat × Nat × Nat)) (ns : Nat) : State := atNs ns (domains (fun p => { p with rounds := [askOf refuse] }))

/-- Domain 63's block 2 has a frame: it delays. -/
def delaying (ns : Nat) : State := { asking [] ns with slices := [(31, { ingress := [plainFrame] })] }

/-- Domain `d` as given. -/
def domainAs (d : Nat) (x : Dom) : State := domains (fun p => { p with dom := [(d, x)] })

/-- The block as it leaves HIBERNATE. -/
def exiting (retried : Bool) : State := domains (fun p => { p with block := .exiting, regReady := false, regRetried := retried, dom := [(64, { st := .doze }), (66, { trans := .wakePsw, st := .doze })], wakePend := [65] })

theorem witness_SleepAndWakeComplete :
    (let s := atNs 100000 (domainAs 63 { target := 2, dozeIdle := 100 });
      63 ∈ sleepers s ∧ unsettled s 63 = false ∧ 63 ∉ s.pwr.wakePend ∧ domainIdle s 63 = true ∧ policyAsks s 63 = some .doze)
    ∧ domainIdle (delaying 0) 63 = false
    ∧ (let s := domains (fun p => { p with dom := (List.range 32).map (fun i => (32 + i, { st := .nap })) })
      centreFollows s [] .run = some .nap ∧ unsettled s 64 = false ∧ 64 ∉ s.pwr.wakePend)
    ∧ centreFollows State.reset [] .run = none
    ∧ (roundOf (asking [] 0) 63 2 = some (askOf []) ∧ blockDelays (asking [] 0) (askOf []) 63 2 = false)
    ∧ (roundOf (delaying 0) 63 2 = some (askOf []) ∧ blockDelays (delaying 0) (askOf []) 63 2 = true)
    ∧ (roundOf (asking [(63, 2, 5)] 0) 63 2).any (fun r => (r.refuse.find? (fun x => decide (x.1 = 63) && decide (x.2.1 = 2))).isSome) = true
    ∧ (roundOf (asking [] 2000000) 63 3 = some (askOf []) ∧ blockDelays (asking [] 2000000) (askOf []) 63 3 = false)
    ∧ (((delaying 100000).pwr.rounds.find? (fun r => decide (63 ∈ r.domains) && decide (r.start + 1000 * (dom (delaying 100000) 63).drain ≤ rawNs (delaying 100000)))) = some (askOf [])
      ∧ ((askOf []).waitingFor.find? (fun x => decide (x.1 = 63) && decide (x.2 ≠ 3) && blockDelays (delaying 100000) (askOf []) x.1 x.2)) = some (63, 2))
    ∧ (let s := domainAs 63 { trans := .entry .nap };
      (dom s 63).trans = .entry .nap ∧ (s.pwr.handover.map (delivered s)).getD true = true ∧ entersNext s 63 .nap = true)
    ∧ (let s := domainAs 65 { trans := .entry .doze };
      (dom s 65).trans = .entry .doze ∧ entersNext s 65 .doze = true)
    ∧ entersNext (domainAs 64 { trans := .entry .doze }) 64 .doze = false
    ∧ (let s := domainAs 63 { st := .doze, pswEn := false };
      (dom s 63).st = .doze ∧ (dom s 63).pswEn = false ∧ (dom s 63).trans = .none ∧ (dom s 63).lateLogged = false)
    ∧ (let s := domains (fun p => { p with dom := [(63, { st := .nap })], wakePend := [63] });
      63 ∈ s.pwr.wakePend ∧ s.pwr.block = .run ∧ (dom s 63).trans = .none ∧ s.pwr.rounds = [] ∧ (dom s 63).st = .nap ∧ mayWake s 63 = true)
    ∧ (let s := domains (fun p => { p with block := .hibernate, wakePend := [66] });
      66 ∈ s.pwr.wakePend ∧ s.pwr.block = .hibernate)
    ∧ (let s := domainAs 66 { st := .doze };
      (dom s 66).st = .doze ∧ (dom s 66).stateLost = false)
    ∧ (dom (domainAs 31 { st := .off, trans := .wakePsw }) 31).trans = .wakePsw
    ∧ (dom (domainAs 63 { trans := .wakePsw, stateLost := true }) 63).stateLost = true
    ∧ ((dom (domainAs 63 { trans := .wakePsw }) 63).trans = .wakePsw ∧ (domainAs 63 { trans := .wakePsw }).pwr.block ≠ .exiting ∧ (dom (exiting false) 66).trans = .wakePsw)
    ∧ ((exiting false).pwr.block = .exiting ∧ (exiting false).pwr.regReady = false)
    ∧ State.reset.pwr.regReady = true
    ∧ (let s := domainAs 64 { st := .doze, trans := .wakePll };
      (dom s 64).trans = .wakePll ∧ pllGood s 64 = true ∧ (sleepers s).all (fun d => decide (d = 64) || decide ((dom (domUp 64 s) d).trans ≠ .wakePll)) = true
        ∧ (dom (domUp 64 s) 64).trans ≠ .wakePll)
    ∧ ((sleepers State.reset).all (fun d => decide ((dom State.reset d).trans ≠ .wakePll)) = true)
    ∧ ((dom (domainAs 63 { trans := .wakePsw }) 63).retried = false ∧ (dom (domainAs 63 { trans := .wakePsw, retried := true }) 63).retried = true)
    ∧ (exiting true).pwr.regRetried = true
    ∧ (191 < 192 ∧ hstAsleep (domainAs 66 { st := .doze }) = true ∧ hstAsleep State.reset = false)
    ∧ ((domains (fun p => { p with block := .entering })).pwr.block = .entering ∧ State.reset.pwr.block = .run)
    ∧ (63 ∈ sleepers State.reset ∧ (dom (domainAs 63 { wakeFail := true }) 63).wakeFail = true ∧ (dom (domainAs 63 { wakeFail := true }) 63).stateLost = false) := by
  repeat' apply And.intro
  all_goals decide +kernel

theorem witness_SupplyEventsComplete : (State.reset.pwr.vretGood = true ∧ State.reset.pwr.rounds = [] ∧ enteringDoze State.reset = [])
    ∧ (domains (fun p => { p with vretGood := false })).pwr.vretGood = false
    ∧ (let s := domains (fun p => { p with pll := [(0, {})] });
      s.pwr.block ≠ .hibernate ∧ pairDomains s 0 ≠ [] ∧ s.pwr.pll.get? 0 = some {} ∧ ({} : PllPair).aOk = true ∧ ({} : PllPair).bOk = true ∧ ({} : PllPair).onB = false)
    ∧ (domains (fun p => { p with block := .hibernate })).pwr.block = .hibernate
    ∧ ((domains (fun p => { p with ldoLow := true })).pwr.ldoLow = true ∧ (domains (fun p => { p with ldoLow := true })).pwr.boTrip = none)
    ∧ (domains (fun p => { p with boTrip := some 0 })).pwr.boTrip = some 0 := by decide +kernel

/-- Badger with something of its state set. -/
def badger (f : Badger → Badger) (s : State) : State := { s with badger := f s.badger }

theorem witness_TestAndRecoveryComplete :
    cmdRuns 0x1001 (lenIs 4) (badgerCfgChk (cmd [3, 16, 255, 0]) State.reset) (cmd [3, 16, 255, 0]) State.reset
    ∧ (let e := cmd (leB 2 831 ++ leB 2 1 ++ leB 4 10000);
      cmdRuns 0x1002 (lenIs 8) (badgerWindowChk e State.reset) e State.reset)
    ∧ (cmdRuns 0x1003 (lenIs 4) (badgerRunChk (cmd (leB 4 767)) State.reset) (cmd (leB 4 767)) State.reset ∧ 1000000 ≤ 1000000 ∧ 1000000 < 1000001)
    ∧ cmdRuns 0x1004 (lenIs 4) (unitChk (cmd (zeros 4)) State.reset) (cmd (zeros 4)) State.reset
    ∧ cmdRuns 0x1201 (lenIs 8) (memReadChk (cmd (zeros 8)) State.reset) (cmd (zeros 8)) State.reset
    ∧ cmdRuns 0x1202 (lenIs 4) (errCountersChk (cmd [0, 0, 1, 0]) State.reset) (cmd [0, 0, 1, 0]) State.reset
    ∧ cmdRuns 0x1203 (lenIs 4) {} (cmd (zeros 4)) State.reset
    ∧ cmdRuns 0x1204 (lenIs 4) (isolateChk (cmd (zeros 4)) State.reset) (cmd (zeros 4)) State.reset
    ∧ (let s := badger (fun b => { b with units := [(0, { isolated := true })] }) State.reset;
      cmdRuns 0x1205 (lenIs 4) (restoreChk (cmd (zeros 4)) s) (cmd (zeros 4)) s)
    ∧ (mayTest State.reset 0 = true ∧ mayTest State.reset 832 = false)
    ∧ (let s := atNs 86400000000001 State.reset;
      s.badger.enabled = true ∧ unitHere s 0 = true ∧ (unitRt s 0).isolated = false ∧ unitOverdue s 0 = true ∧ (unitRt s 0).overdue = false)
    ∧ (let s := atNs 7 (badger (fun b => { b with window := some ⟨0, 1, 0, 7⟩ }) State.reset);
      s.badger.window = some ⟨0, 1, 0, 7⟩ ∧ 7 ≤ rawNs s)
    ∧ State.reset.badger.window = none
    ∧ { State.reset.tables with relocating := [(384, 1)] }.relocating.get? 384 = some 1
    ∧ 640 ∈ (badger (fun b => { b with rebuilding := [640] }) State.reset).badger.rebuilding
    ∧ (31 < nSlices State.reset ∧ (slice State.reset 31).inReset = none)
    ∧ (State.reset.badger.ctlHeld ≠ 2 ∧ ([] ++ [rawNs State.reset]).length < 3
      ∧ 3 ≤ (((badger (fun b => { b with mismatches := [0, 0] }) State.reset).badger.mismatches.filter (fun t => decide (rawNs State.reset < t + 10000000000))) ++ [rawNs State.reset]).length)
    ∧ ((badger (fun b => { b with ctlHeld := 1 }) State.reset).badger.ctlHeld = 1 ∧ State.reset.badger.ctlHeld ≠ 1) := by decide +kernel

/-! An ill-formed term for each check of WellFormed, which the check refuses, beside the last one it lets pass. -/

theorem test_wf_ports : Instr.wf (.stall 1088) = false ∧ Instr.wf (.stall 1087) = true := by decide
theorem test_wf_slices : Instr.wf (.denDrain 32) = false ∧ Instr.wf (.denDrain 31) = true := by decide
theorem test_wf_queues_of_a_port : Instr.wf (.rxDispatch 0 16) = false ∧ Instr.wf (.rxDispatch 1087 15) = true := by decide
theorem test_wf_priorities : Instr.wf (.pauseExpiry 0 8) = false ∧ Instr.wf (.pauseExpiry 0 7) = true := by decide
theorem test_wf_lanes : Instr.wf (.strayWord 0 16 0) = false ∧ Instr.wf (.strayWord 0 0 4) = false ∧ Instr.wf (.strayWord 31 15 3) = true := by decide
theorem test_wf_queues : Instr.wf (.tx 4352) = false ∧ Instr.wf (.tx 4351) = true := by decide
theorem test_wf_rings : Instr.wf (.cqDb 4352 0) = false ∧ Instr.wf (.cqDb 4351 0) = true := by decide
theorem test_wf_targets : Instr.wf (.claim 64) = false ∧ Instr.wf (.claim 63) = true := by decide
theorem test_wf_channels : Instr.wf (.dmaGo 64) = false ∧ Instr.wf (.dmaGo 63) = true := by decide
theorem test_wf_sets : Instr.wf (.quadFlip 0) = false ∧ Instr.wf (.quadFlip 65536) = false ∧ Instr.wf (.quadFlip 65535) = true := by decide
theorem test_wf_engines : Instr.wf (.engineResetDone 128) = false ∧ Instr.wf (.engineResetDone 127) = true := by decide
theorem test_wf_domains : Instr.wf (.wake 67) = false ∧ Instr.wf (.wake 66) = true := by decide
theorem test_wf_snap_slots : Instr.wf (.snapTimeLoRead 4 true) = false ∧ Instr.wf (.snapTimeLoRead 3 true) = true := by decide
theorem test_wf_timers : Instr.wf (.timerFire 16) = false ∧ Instr.wf (.timerFire 15) = true := by decide
theorem test_wf_sources : Instr.wf (.wakeWaitExpiry 4096) = false ∧ Instr.wf (.wakeWaitExpiry 4095) = true := by decide
theorem test_wf_source_words : Instr.wf (.pendSet 128 0) = false ∧ Instr.wf (.pendSet 127 0) = true := by decide
theorem test_wf_instances : Instr.wf (.memberAge 512) = false ∧ Instr.wf (.memberAge 511) = true := by decide
theorem test_wf_nodes : Instr.wf (.duplicateEntryForget 32 0) = false ∧ Instr.wf (.duplicateEntryForget 31 0) = true := by decide
theorem test_wf_envelope : Instr.wf (.sysNop { cmd [] with setId := 65536 }) = false ∧ Instr.wf (.sysNop { cmd [] with plen := 65536 }) = false ∧ Instr.wf (.sysNop (cmd [])) = true := by
  decide
theorem test_wf_received_frame : Instr.wf (.rxFrame ⟨0, zeros 64, 0, 256, 0, .eof⟩) = false ∧ Instr.wf (.rxFrame ⟨0, zeros 64, 0, 0, 128, .eof⟩) = false
    ∧ Instr.wf (.rxFrame ⟨0, zeros 64, 0, 255, 127, .eof⟩) = true := by decide +kernel
theorem test_wf_fetched : Instr.wf (.entryFetch 1 ⟨zeros 31, [], [], 0⟩) = false ∧ Instr.wf (.entryFetch 1 (entryOf true)) = true := by decide

/-! Small runs of one command, on values that the manual gives. -/

/-- No row of the table has bits: no word spells a command. -/
theorem test_no_word_spells_a_command : decodeTableWord 32 0 = none ∧ State.reset.withFetchWord 32 0 = State.reset := ⟨rfl, rfl⟩

/-- SYS_NOP on the boot mailbox answers OK with its tag (R96, R120). -/
theorem test_sys_nop : (nextOf (exec (.sysNop (cmd [])) State.reset)).any (fun t => decide (t.mb.ready = some (⟨0x0106, 0, 0, 0xFFFF, 7, []⟩, true))) = true := by decide +kernel

/-- A command of Otdiuri's on the boot mailbox is BAD_OPCODE, naming OPCODE (R97). -/
theorem test_otd_command_on_the_boot_mailbox : cmdVerdict 0x0101 (lenIs 0) {} (ocmd []) State.reset = some { status := 2, off := 0xFF00 } := by decide +kernel

/-- PORT_ADMIN up of a configured port (R136). -/
theorem test_port_admin_up : (nextOf (exec (.portAdminUp (cmd [0, 0, 1, 0])) quiet)).any (fun t => (port t 0).admin && decide ((port t 0).link = .down)) = true := by decide +kernel

/-- A flip changes the parity (R110). -/
theorem test_quad_flip : (nextOf (exec (.quadFlip 1) armedSet)).any (fun t => t.quad.parity) = true := by decide +kernel

/-- GO takes the mailbox, and a second one is lost (R84, R85). -/
theorem test_mb_go : (nextOf (exec (.mbGo 1) { State.reset with boot := { State.reset.boot with ready := true } })).any (fun t => t.mb.busy && t.mb.locked && !t.mb.goLost) = true
    ∧ (nextOf (exec (.mbGo 1) lockedPage)).any (fun t => t.mb.goLost) = true := by decide +kernel

/-- A tick at 25 MHz adds 40 ns to RAW_T (R147). -/
theorem test_owl_tick : (nextOf (exec (.owlTick []) State.reset)).any (fun t => decide (t.time.raw = 40 * 65536)) = true := by decide +kernel

/-- A claim of source 4095 reads its ID, PRIORITY 0x80 and VALID, and pushes it (R457). -/
theorem test_claim : (nextOf (exec (.claim 0) (distributor (pendingLast [])))).any (fun t => decide (t.hpt.rsp = [⟨0, 0, 0x80010FFF⟩]) && decide ((tgtOf t.irq 0).stack = [⟨4095, 0x80⟩])) = true := by
  decide +kernel

/-- A transfer whose destination overlaps its source halts at the load (R443). -/
theorem test_dma_overlap : (nextOf (exec (.dmaLoad 63) (channel { shadow := { copy64 with dst := 63 }, shadowValid := true }))).any (fun t => decide ((dmaOf t 63).st = .halted)
    && decide ((dmaOf t 63).haltKind = 4)) = true := by decide +kernel

/-- OSEAL_UNSEAL with the right AUTH unseals (R380). -/
theorem test_unseal : (nextOf (exec (.osealUnseal (ocmd goodAuth)) sealedMeter)).any (fun t => decide (t.otd.sealSt = .isUnsealed) && decide (t.otd.ledger = [1, 2])) = true := by
  decide +kernel

/-- HMAC-SHA-256's first test vector of RFC 4231. -/
theorem test_hmac : hmac (List.replicate 20 0x0B) (ascii "Hi There") = [0xB0, 0x34, 0x4C, 0x61, 0xD8, 0xDB, 0x38, 0x53, 0x5C, 0xA8, 0xAF, 0xCE, 0xAF, 0x0B, 0xF1, 0x2B,
    0x88, 0x1D, 0xC2, 0x00, 0xC9, 0x83, 0x3D, 0xA7, 0x26, 0xE9, 0x37, 0x6C, 0x2E, 0x32, 0xCF, 0xF7] := by decide +kernel

/-- The FCS of IEEE 802.3's check string. -/
theorem test_crc32 : crc32 (ascii "123456789") = 0xCBF43926 ∧ crc32c 0xFFFFFFFF (ascii "123456789") = 0xE3069283 := by decide +kernel

/-- A debug window answers ERR while it is not mapped, and a write of it is answered while it is (R57, R77). -/
theorem test_debug_window : (nextOf (exec (.registerWrite 0x100000 0x0F 0 true 5) State.reset)).any (fun t => decide (t.hpt.rsp = [⟨5, 1, 0⟩])) = true
    ∧ (nextOf (exec (.registerWrite 0x100000 0x0F 0 true 5) { State.reset with boot := { State.reset.boot with debugEn := true } })).any
        (fun t => decide (t.hpt.rsp = [⟨5, 0, 0⟩])) = true := by decide +kernel

end Sys2Proof.Tests
end

section
/-! SUPPORT. Accesses to the boot mailbox that HST and CTL serve (R56, R57, R84, R85, R476). -/

namespace Sys2Proof.Machine

/-- An access to the boot mailbox that waits for nothing acts on the state that keeps HST and CTL awake (R57, R476). -/
theorem viaCtl_of_served (i : HptAccess) (f : State → State) {s : State} (served : hptServed true s = true)
    (ctlWakes : (dom s 65).wakeFail = false) (hstWakes : (dom s 66).wakeFail = false) : viaCtl i f s = f (askWake 65 (askWake 66 s)) := by
  simp [viaCtl, served, ctlWakes, hstWakes, atCtl, atHst]

/-- The mailbox accepts a GO only with READY 1, BUSY 0 and DONE 0 (R85). -/
theorem go_accepted_eq_false {s : State} (refused : s.boot.ready = false ∨ s.mb.busy = true ∨ s.mb.done = true) :
    (s.boot.ready && !s.mb.busy && !s.mb.done) = false := by
  rcases refused with notReady | busy | done
  · simp [notReady]
  · simp [busy]
  · simp [done]

/-- MB_GO with GO 1 that the mailbox does not accept sets GO_LOST alone (R85). -/
theorem exec_mbGo_of_refused {data : Word} {s : State} (served : hptServed true s = true) (ctlWakes : (dom s 65).wakeFail = false)
    (hstWakes : (dom s 66).wakeFail = false) (refused : s.boot.ready = false ∨ s.mb.busy = true ∨ s.mb.done = true) (go : data.getLsbD 0 = true) :
    exec (.mbGo data) s = .next (hptOk 0 { askWake 65 (askWake 66 s) with mb := { s.mb with goLost := true } }) := by
  change execMbGo data s = _
  rw [execMbGo, viaCtl_of_served _ _ served ctlWakes hstWakes]
  simp only [go, askWake_keeps, go_accepted_eq_false refused, Bool.not_true, Bool.false_eq_true, if_false]

/-- MB_CMD_WRITE leaves a locked CMD as it is (R84). -/
theorem exec_mbCmdWrite_of_locked (off : Nat) (bytes : List Byte) {s : State} (served : hptServed true s = true)
    (ctlWakes : (dom s 65).wakeFail = false) (hstWakes : (dom s 66).wakeFail = false) (locked : s.mb.locked = true) :
    exec (.mbCmdWrite off bytes) s = .next (hptOk 0 (askWake 65 (askWake 66 s))) := by
  change execMbCmdWrite off bytes s = _
  rw [execMbCmdWrite, viaCtl_of_served _ _ served ctlWakes hstWakes]
  simp [locked]

/-- Settles O16: each half is the rule of its access, once HST and CTL serve it. -/
theorem mailboxTurnsAway : Obligations.MailboxTurnsAway := by
  unfold Obligations.MailboxTurnsAway
  intro data off bytes s served ctlWakes hstWakes
  exact ⟨exec_mbGo_of_refused served ctlWakes hstWakes, exec_mbCmdWrite_of_locked off bytes served ctlWakes hstWakes⟩

end Sys2Proof.Machine
end

section
/-! SUPPORT. What a command leaves of the core of the state. Most leave all of it, by the laws of their meanings; the resets of the whole block and the
writes of a command page leave all but the two pages; the tick and OTD's power-on alone write the time counters. -/

namespace Sys2Proof.Machine

/-- The commands that may change the core of the state. -/
def touchesCore : Instr → Bool
  | .owlTick _ | .otdPowerOn _ _ | .coldReset | .powerOnReset | .mbCmdWrite _ _ | .registerWrite _ _ _ _ _ => true
  | _ => false

/-- Every other command leaves the core alone: the law of its own meaning, in the order of the dispatch. -/
theorem core_exec {i : Instr} {s t : State} (h : exec i s = .next t) (away : touchesCore i = false) : coreOf t = coreOf s := by
  unfold exec at h
  split at h
  exacts [core_execSysInfo (h := h) .., core_execSysAdminqSet (h := h) .., core_execSysResetWarm (h := h) .., core_execSysResetCold (h := h) ..,
    core_execSysResetSlice (h := h) .., core_execSysResetCtl (h := h) .., core_execSysEventCfg (h := h) .., core_execSysJournalStatus (h := h) ..,
    core_execSysNop (h := h) .., core_execSysPatchLoad (h := h) .., core_execQuadOpen (h := h) .., core_execQuadCheck (h := h) ..,
    core_execQuadApplyNow (h := h) .., core_execQuadApplyAtTime (h := h) .., core_execQuadApplyAtDomain (h := h) .., core_execQuadAbort (h := h) ..,
    core_execQuadStatus (h := h) .., core_execPortCfg (h := h) .., core_execPortAdminUp (h := h) .., core_execPortAdminDown (h := h) ..,
    core_execPortStatus (h := h) .., core_execPortCounters (h := h) .., core_execPortFc (h := h) .., core_execPortPreempt (h := h) ..,
    core_execPortEee (h := h) .., core_execPortWakeFilter (h := h) .., core_execPortLinkHold (h := h) .., core_execParseNodeSet (h := h) ..,
    core_execParseNodeGet (h := h) .., core_execParseGraphDefault (h := h) .., core_execParseCounters (h := h) .., core_execTableCreate (h := h) ..,
    core_execTableDelete (h := h) .., core_execEntryWrite (h := h) .., core_execEntryDelete (h := h) .., core_execEntryRead (h := h) ..,
    core_execKeyProfileSet (h := h) .., core_execTableDump (h := h) .., core_execProgLoad (h := h) .., core_execProgUnload (h := h) ..,
    core_execProgBindMap (h := h) .., core_execProgBindDefault (h := h) .., core_execEngineStatus (h := h) .., core_execEngineReset (h := h) ..,
    core_execConstSet (h := h) .., core_execScratchRead (h := h) .., core_execPoolCreate (h := h) .., core_execPoolDelete (h := h) ..,
    core_execFlowMinSet (h := h) .., core_execSharedLimitSet (h := h) .., core_execBufStatus (h := h) .., core_execCutThroughSet (h := h) ..,
    core_execVlanSetVlan (h := h) .., core_execVlanSetPort (h := h) .., core_execMacAdd (h := h) .., core_execMacDelete (h := h) ..,
    core_execMacFlush (h := h) .., core_execLearnCfgGlobal (h := h) .., core_execLearnCfgPort (h := h) .., core_execMcastGroupSet (h := h) ..,
    core_execLagSet (h := h) .., core_execMacDump (h := h) .., core_execQueueMapSet (h := h) .., core_execSchedSet (h := h) ..,
    core_execShaperSet (h := h) .., core_execPolicerSet (h := h) .., core_execStreamFilterSet (h := h) .., core_execSampleCfg (h := h) ..,
    core_execTmStatus (h := h) .., core_execGateListSet (h := h) .., core_execGateEnableOn (h := h) .., core_execGateEnableOff (h := h) ..,
    core_execGateStatus (h := h) .., core_execGateOverheadSet (h := h) .., core_execFlowAdd (h := h) .., core_execFlowModify (h := h) ..,
    core_execFlowDelete (h := h) .., core_execFlowRead (h := h) .., core_execFlowCounters (h := h) .., core_execPrpHsrSet (h := h) ..,
    core_execStampPortCfg (h := h) .., core_execCalRecordSet (h := h) .., core_execCalRun (h := h) .., core_execPtpPortCfg (h := h) ..,
    core_execTimerSet (h := h) .., core_execPpsCfg (h := h) .., core_execSyntCfg (h := h) .., core_execSezalCfg (h := h) ..,
    core_execDomainPortSet (h := h) .., core_execSezalStatus (h := h) .., core_execSezalMembers (h := h) .., core_execSezalResyncFollow (h := h) ..,
    core_execSezalResyncForceApply (h := h) .., core_execSezalResyncForceDiscard (h := h) .., core_execKeeperPrioSet (h := h) ..,
    core_execRingCreate (h := h) .., core_execQpCreate (h := h) .., core_execCqCreate (h := h) .., core_execQueueDisable (h := h) ..,
    core_execQueueEnable (h := h) .., core_execQueueDestroy (h := h) .., core_execQueueReset (h := h) .., core_execQueueStatus (h := h) ..,
    core_execRxFilterSet (h := h) .., core_execRssSet (h := h) .., core_execOffloadSet (h := h) .., core_execPwrStateSet (h := h) ..,
    core_execHibernate (h := h) .., core_execWakeSrcSet (h := h) .., core_execPwrStatus (h := h) .., core_execDrainLimitSet (h := h) ..,
    core_execBadgerCfg (h := h) .., core_execBadgerWindow (h := h) .., core_execBadgerRun (h := h) .., core_execBadgerStatus (h := h) ..,
    core_execLoopbackCal (h := h) .., core_execFoxtrotRingSet (h := h) .., core_execCapRuleSet (h := h) .., core_execMirrorSet (h := h) ..,
    core_execCapEnable (h := h) .., core_execMemRead (h := h) .., core_execErrCounters (h := h) .., core_execFaultLog (h := h) ..,
    core_execIsolate (h := h) .., core_execRestore (h := h) .., core_execOsysInfo (h := h) .., core_execOsysStatus (h := h) ..,
    core_execOtimeRead (h := h) .., core_execOtimeSetInc (h := h) .., core_execOtimeStep (h := h) .., core_execOtimeAuthority (h := h) ..,
    core_execOmapSet (h := h) .., core_execOmapRead (h := h) .., core_execOmapClear (h := h) .., core_execOrecordRingSet (h := h) ..,
    core_execOrecordInterval (h := h) .., core_execOrecordStatus (h := h) .., core_execOsealStatus (h := h) .., core_execOsealSeal (h := h) ..,
    core_execOsealUnseal (h := h) .., core_execOlogRead (h := h) .., core_execOlogAck (h := h) .., core_execMbGo (h := h) .., core_execMbAck (h := h) ..,
    (nomatch away), core_execMbCommandDone (h := h) .., core_execOmbGo (h := h) .., core_execOmbAck (h := h) .., core_execOringConsWrite (h := h) ..,
    core_execSnapTimeLoRead (h := h) .., core_execPpsGlitchRead (h := h) .., (nomatch away), core_execSqDb (h := h) .., core_execCqDb (h := h) ..,
    core_execEntryFetch (h := h) .., core_execPhaseRetry (h := h) .., core_execTx (h := h) .., core_execNop (h := h) .., core_execAlloc (h := h) ..,
    core_execShare (h := h) .., core_execRelease (h := h) .., core_execHandover (h := h) .., core_execFree (h := h) .., core_execHeadWb (h := h) ..,
    core_execHeadWbAck (h := h) .., core_execCompletionWrite (h := h) .., core_execCompletionAck (h := h) .., core_execTxHostInject (h := h) ..,
    core_execRxDispatch (h := h) .., core_execRxWaitExpiry (h := h) .., core_execRxFrame (h := h) .., core_execStrayWord (h := h) ..,
    core_execPauseExpiry (h := h) .., core_execDenDrain (h := h) .., core_execClassify (h := h) .., core_execCellWrite (h := h) ..,
    core_execXoffRefresh (h := h) .., core_execAdmit (h := h) .., core_execHandoff (h := h) .., core_execGapTimeout (h := h) ..,
    core_execSchedRelease (h := h) .., core_execE3Pass (h := h) .., core_execTxStart (h := h) .., core_execTxDone (h := h) ..,
    core_execTxStomp (h := h) .., core_execTxHint (h := h) .., core_execHintMissing (h := h) .., core_execStall (h := h) ..,
    core_execDoneLogConsume (h := h) .., core_execSliceCoreRecover (h := h) .., core_execAgeScan (h := h) .., core_execLpiEnter (h := h) ..,
    core_execLpiExit (h := h) .., core_execPreemptVerify (h := h) .., core_execLinkFault (h := h) .., core_execLinkFaultClear (h := h) ..,
    core_execLinkUp (h := h) .., core_execLinkHoldExpiry (h := h) .., core_execLearnApply (h := h) .., core_execMacAgeScan (h := h) ..,
    core_execFreezeExpiry (h := h) .., core_execMcastStoreExpiry (h := h) .., core_execSample (h := h) .., core_execFoxtrotRecordWrite (h := h) ..,
    core_execFoxtrotConsPoll (h := h) .., core_execCoalesceTimer (h := h) .., (nomatch away), core_execServoInc (h := h) ..,
    core_execServoStep (h := h) .., core_execTimerFire (h := h) .., core_execPpsInEdge (h := h) .., core_execPpsOutEdge (h := h) ..,
    core_execPpsOutFall (h := h) .., core_execCalEval (h := h) .., core_execThermEval (h := h) .., core_execCalRequestRx (h := h) ..,
    core_execCalRequestTx (h := h) .., core_execCalReplyRx (h := h) .., core_execCalExchangeTimeout (h := h) .., core_execCalFail (h := h) ..,
    core_execQuadArmed (h := h) .., core_execQuadFlip (h := h) .., core_execNormalise (h := h) .., core_execQuadIdleLimit (h := h) ..,
    core_execGateListStart (h := h) .., core_execGateEntry (h := h) .., core_execHoldAssert (h := h) .., core_execHelloTx (h := h) ..,
    core_execHelloRx (h := h) .., core_execAdjacencyTimeout (h := h) .., core_execMemberTx (h := h) .., core_execMemberRx (h := h) ..,
    core_execLeaveRx (h := h) .., core_execMemberAge (h := h) .., core_execSyncReqTx (h := h) .., core_execSyncReqRx (h := h) ..,
    core_execSyncRespRx (h := h) .., core_execHoldoverExpiry (h := h) .., core_execProposeRepeat (h := h) .., core_execProposeRx (h := h) ..,
    core_execVoteRepeat (h := h) .., core_execVoteRx (h := h) .., core_execVoteDeadline (h := h) .., core_execOutcomeRepeat (h := h) ..,
    core_execOutcomeRx (h := h) .., core_execOutcomeQueryRx (h := h) .., core_execApplyTimeNoOutcome (h := h) .., core_execIntervalBoundary (h := h) ..,
    core_execTapSummary (h := h) .., core_execOtdRecordWriteAck (h := h) .., core_execOtdRecordRetry (h := h) .., core_execUnsealBlockExpiry (h := h) ..,
    core_execSealSwitchChange (h := h) .., (nomatch away), core_execKeyWord (h := h) .., core_execKeyTimeout (h := h) .., (nomatch away), (nomatch away),
    core_execWarmReset (h := h) .., core_execBoot (h := h) .., core_execJournalReplay (h := h) .., core_execDebugEnChange (h := h) ..,
    core_execVretLost (h := h) .., core_execPllFault (h := h) .., core_execBrownOut (h := h) .., core_execBrownOutEnd (h := h) ..,
    core_execWakeReq (h := h) .., core_execRetryFailed (h := h) .., core_execBoAck (h := h) .., core_execAutoSleepAsk (h := h) ..,
    core_execAskAnswer (h := h) .., core_execDrainTimeout (h := h) .., core_execBadgerDelayEnd (h := h) .., core_execSleepEntry (h := h) ..,
    core_execPswLate (h := h) .., core_execWake (h := h) .., core_execPswAck (h := h) .., core_execRegReady (h := h) .., core_execPllLock (h := h) ..,
    core_execWakeTimeout (h := h) .., core_execOwlLatchEdge (h := h) .., core_execDmaGo (h := h) .., core_execDmaShadowWrite (h := h) ..,
    core_execDmaLoad (h := h) .., core_execDmaZeroLenDone (h := h) .., core_execDmaBurstResponse (h := h) .., core_execDmaAbort (h := h) ..,
    core_execDmaResume (h := h) .., core_execDmaClear (h := h) .., core_execChCauseRead (h := h) .., core_execSliceCauseRead (h := h) ..,
    core_execSliceLinkRead (h := h) .., core_execEventTake (h := h) .., core_execEventEoi (h := h) .., core_execClaim (h := h) ..,
    core_execEoi (h := h) .., core_execPendSet (h := h) .., core_execPendClr (h := h) .., core_execEnSet (h := h) .., core_execEnClr (h := h) ..,
    core_execSrcCfgWrite (h := h) .., core_execPrivPendSet (h := h) .., core_execPrivPendClr (h := h) .., core_execPrivEnSet (h := h) ..,
    core_execPrivEnClr (h := h) .., core_execTargetCountsRead (h := h) .., core_execTgtAwakeChange (h := h) .., core_execWakeWaitExpiry (h := h) ..,
    core_execMsgWriteRetry (h := h) .., core_execBadgerSlot (h := h) .., core_execBadgerOverdue (h := h) .., core_execBadgerWindowEnd (h := h) ..,
    core_execRelocateDone (h := h) .., core_execRebuildDone (h := h) .., core_execEngineFault (h := h) .., core_execEngineResetDone (h := h) ..,
    core_execSliceCoreFault (h := h) .., core_execLockstepMismatch (h := h) .., core_execCtlRestartDone (h := h) .., core_execControlRamFault (h := h) ..,
    core_execVretGoodRestored (h := h) .., core_execTestAccess (h := h) .., core_execResyncFollowTimeout (h := h) ..,
    core_execDuplicateEntryForget (h := h) .., core_execPartnerLpi (h := h) ..]

/-- The core without the two command pages: the build, the queue and the time counters. -/
def pagelessOf (s : State) : Build × List Instr × BitVec 80 × BitVec 96 × BitVec 80 × BitVec 40 :=
  (s.build, s.pending, s.time.raw, s.time.corr, s.time.offset, s.time.discInc)

theorem pageless_of_core {s t : State} (h : coreOf t = coreOf s) : pagelessOf t = pagelessOf s := by
  simp only [coreOf, Prod.mk.injEq] at h
  simp [pagelessOf, h]

section
variable {s : State} {o : Host.Outcome State Fault Refusal}

theorem core_after (h : ∀ t, o = .next t → coreOf t = coreOf s) : coreOf (after o s) = coreOf s := by
  cases o with
  | next t => exact h t rfl
  | _ => rfl

theorem core_afterIf (c : Bool) (h : ∀ t, o = .next t → coreOf t = coreOf s) : coreOf (if c then after o s else s) = coreOf s := by
  cases c with
  | true => exact core_after h
  | false => rfl

theorem pageless_after (h : ∀ t, o = .next t → pagelessOf t = pagelessOf s) : pagelessOf (after o s) = pagelessOf s := by
  cases o with
  | next t => exact h t rfl
  | _ => rfl

end

theorem core_atHst {f : State → State} (h : ∀ s, coreOf (f s) = coreOf s) (s : State) : coreOf (atHst f s) = coreOf s :=
  (h _).trans (core_askWake 66 s)

theorem pageless_atHst {f : State → State} (h : ∀ s, pagelessOf (f s) = pagelessOf s) (s : State) : pagelessOf (atHst f s) = pagelessOf s :=
  (h _).trans (pageless_of_core (core_askWake 66 s))

theorem core_atCtl {f : State → State} (h : ∀ s, coreOf (f s) = coreOf s) (s : State) : coreOf (atCtl f s) = coreOf s :=
  core_atHst (fun s => (h _).trans (core_askWake 65 s)) s

theorem pageless_atCtl {f : State → State} (h : ∀ s, pagelessOf (f s) = pagelessOf s) (s : State) : pagelessOf (atCtl f s) = pagelessOf s :=
  pageless_atHst (fun s => (h _).trans (pageless_of_core (core_askWake 65 s))) s

/-! Writes and reads of words, page by page. -/

theorem core_targetWrite (n r : Nat) (v : Word) (s : State) : coreOf (targetWrite n r v s) = coreOf s := by
  unfold targetWrite
  split
  · exact core_after fun _ h => core_execEoi n v s h
  · exact core_after fun _ h => core_execPrivPendSet n v s h
  · exact core_after fun _ h => core_execPrivPendClr n v s h
  · exact core_after fun _ h => core_execPrivEnSet n v s h
  · exact core_after fun _ h => core_execPrivEnClr n v s h
  · exact core_atHst (core_privWrite n _) s

theorem core_distWrite (r : Nat) (v : Word) (s : State) : coreOf (distWrite r v s) = coreOf s := by
  unfold distWrite
  dsimp only
  repeat' split
  · exact core_atHst (core_hptOk 0) s
  · exact core_targetWrite _ _ v s
  · exact core_after fun _ h => core_execSrcCfgWrite _ v s h
  · exact core_atHst (core_hptOk 0) s
  · exact core_after fun _ h => core_execEnClr _ v s h
  · exact core_after fun _ h => core_execEnSet _ v s h
  · exact core_after fun _ h => core_execPendClr _ v s h
  · exact core_after fun _ h => core_execPendSet _ v s h
  · exact core_atHst (fun s => ((core_hptOk 0 _).trans (core_settle _)).trans (core_updIrq _ s)) s
  · exact core_atHst (core_hptOk 0) s

theorem core_doorbellWrite (n r : Nat) (v : Word) (s : State) : coreOf (doorbellWrite n r v s) = coreOf s := by
  unfold doorbellWrite
  split
  · exact core_after fun _ h => core_execSqDb n v s h
  · exact core_after fun _ h => core_execCqDb n v s h
  · exact core_atHst (core_hptOk 0) s

theorem core_dmaCommand (c : Nat) (v : Word) (s : State) : coreOf (dmaCommand c v s) = coreOf s := by
  unfold dmaCommand
  dsimp only
  rw [core_afterIf _ fun _ h => core_execDmaClear c _ h, core_afterIf _ fun _ h => core_execDmaResume c _ h,
    core_afterIf _ fun _ h => core_execDmaAbort c _ h, core_afterIf _ fun _ h => core_execDmaGo c _ h]

theorem core_dmaWrite (c r : Nat) (v : Word) (s : State) : coreOf (dmaWrite c r v s) = coreOf s := by
  unfold dmaWrite
  split
  · exact core_after fun _ h => core_execDmaShadowWrite c r v s h
  · split
    · exact core_atHst (fun s => (core_hptOk 0 _).trans (core_dmaCommand c v s)) s
    · exact core_atHst (fun s => core_hptOk 0 _) s
    · exact core_atHst (core_hptOk 0) s

theorem core_powerWrite (r : Nat) (v : Word) (s : State) : coreOf (powerWrite r v s) = coreOf s := by
  unfold powerWrite
  dsimp only
  split
  · rw [core_hptOk, core_afterIf _ fun _ h => core_execBoAck _ h, core_afterIf _ fun _ h => core_execRetryFailed _ h,
      core_afterIf _ fun _ h => core_execWakeReq _ h]
  · exact core_hptOk 0 s

theorem core_readEffect {s t : State} {a : Nat} {o : Host.Outcome State Fault Refusal} (acts : readEffect s a = some o) (h : o = .next t) :
    coreOf t = coreOf s := by
  subst h
  unfold readEffect at acts
  split at acts
  · split_ifs at acts
    · exact core_execSnapTimeLoRead _ _ s (Option.some.inj acts)
    · exact core_execPpsGlitchRead s (Option.some.inj acts)
  · split_ifs at acts
    · exact core_execSliceLinkRead _ s (Option.some.inj acts)
    · exact core_execSliceCauseRead _ s (Option.some.inj acts)
    · exact core_execClaim _ s (Option.some.inj acts)
    · exact core_execTargetCountsRead _ s (Option.some.inj acts)
  · split_ifs at acts
    exact core_execChCauseRead _ s (Option.some.inj acts)
  · exact nomatch acts

theorem core_readOne (a : Nat) (s : State) : coreOf (readOne a s).2 = coreOf s := by
  unfold readOne
  split
  · next o acts => exact core_after fun _ h => core_readEffect acts h
  · rfl

theorem core_readWords (a : Nat) (be : BitVec 8) (s : State) : coreOf (readWords a be s).2 = coreOf s := by
  have one (b : Bool) (a : Nat) (s : State) : coreOf (if b then readOne a s else (0, s)).2 = coreOf s := by
    cases b with
    | true => exact core_readOne a s
    | false => rfl
  unfold readWords
  exact (one ..).trans (one ..)

/-- The boot mailbox holds nothing of the core but its command page. -/
theorem pageless_mb (m : Mailbox) (s : State) : pagelessOf { s with mb := m } = pagelessOf s := rfl

theorem pageless_execMbCmdWrite (off : Nat) (data : List Byte) (s : State) {t : State} (h : execMbCmdWrite off data s = .next t) :
    pagelessOf t = pagelessOf s := by
  cases h
  unfold viaCtl
  split_ifs
  · exact pageless_of_core (core_hptDefer _ true s)
  · exact pageless_of_core (core_hptErr s)
  · refine pageless_atCtl (fun s => (pageless_of_core (core_hptOk 0 _)).trans ?_) s
    split
    · rfl
    · exact pageless_mb _ s

theorem pageless_mailboxWrite (r : Nat) (v : Word) (s : State) : pagelessOf (mailboxWrite r v s) = pagelessOf s := by
  unfold mailboxWrite
  split
  · exact pageless_after fun _ h => pageless_execMbCmdWrite r _ s h
  · split
    · exact pageless_of_core (core_after fun _ h => core_execMbGo v s h)
    · exact pageless_of_core (core_after fun _ h => core_execMbAck v s h)
    · exact pageless_atCtl (fun s => (pageless_of_core (core_hptOk 0 _)).trans (pageless_mb _ s)) s
    · exact pageless_of_core (core_atCtl (core_hptOk 0) s)

theorem pageless_otdWrite (r : Nat) (v : Word) (s : State) : pagelessOf (otdWrite r v s) = pagelessOf s := by
  unfold otdWrite
  split
  · refine (pageless_of_core (core_hptOk 0 _)).trans ?_
    split <;> rfl
  · split
    · exact pageless_of_core (core_after fun _ h => core_execOmbGo v s h)
    · exact pageless_of_core (core_after fun _ h => core_execOmbAck v s h)
    · exact pageless_of_core (core_after fun _ h => core_execOringConsWrite v s h)
    · exact pageless_of_core (core_hptOk 0 s)

theorem pageless_writeWord (a : Nat) (v : Word) (s : State) : pagelessOf (writeWord a v s) = pagelessOf s := by
  unfold writeWord
  split
  · exact pageless_of_core (core_hptOk 0 s)
  · exact pageless_mailboxWrite _ v s
  · exact pageless_otdWrite _ v s
  · exact pageless_of_core (core_hptOk 0 s)
  · exact pageless_of_core (core_distWrite _ v s)
  · exact pageless_of_core (core_doorbellWrite _ _ v s)
  · exact pageless_of_core (core_doorbellWrite _ _ v s)
  · exact pageless_of_core (core_dmaWrite _ _ v s)
  · exact pageless_of_core (core_powerWrite _ v s)
  · exact pageless_of_core (core_atHst (core_hptOk 0) s)
  · rfl
  · rfl

theorem pageless_writeWords (words : List (Nat × Word)) (s : State) :
    pagelessOf (words.foldl (fun s w => writeWord w.1 w.2 s) s) = pagelessOf s := by
  induction words generalizing s with
  | nil => rfl
  | cons w words ih => exact (ih _).trans (pageless_writeWord w.1 w.2 s)

theorem pageless_runRequest (q : HptReq) (s : State) : pagelessOf (runRequest q s) = pagelessOf s := by
  unfold runRequest
  dsimp only
  split_ifs
  · exact pageless_of_core (core_hptErr s)
  · exact pageless_of_core (core_hptErr s)
  · exact pageless_of_core (core_hptOk 0 s)
  · exact pageless_of_core (core_hptOk _ _)
  · exact pageless_of_core (core_hptAnswer 2 0 s)
  · exact pageless_writeWords _ s
  · exact pageless_of_core ((core_hptOk _ _).trans (core_readWords _ _ s))

theorem pageless_hptRequest (q : HptReq) (s : State) {t : State} (h : hptRequest q s = .next t) : pagelessOf t = pagelessOf s := by
  cases h
  split_ifs
  · exact pageless_runRequest q _
  · exact pageless_of_core (core_hptDefer _ _ _)
  · exact pageless_of_core (core_hptErr _)
  · exact pageless_atHst (pageless_runRequest q) _

theorem pageless_coldState (s : State) : pagelessOf (coldState s) = pagelessOf s := rfl

/-- Only the tick and OTD's power-on reach the build, the queue or the time counters. -/
theorem pageless_exec {i : Instr} {s t : State} (notTick : ∀ skewed, i ≠ .owlTick skewed) (notPowerOn : ∀ romOk level, i ≠ .otdPowerOn romOk level)
    (h : exec i s = .next t) : pagelessOf t = pagelessOf s := by
  cases away : touchesCore i with
  | false => exact pageless_of_core (core_exec h away)
  | true =>
    unfold touchesCore at away
    split at away
    · exact absurd rfl (notTick _)
    · exact absurd rfl (notPowerOn _ _)
    · cases h
      exact (pageless_coldState _).trans (pageless_of_core (core_stompAll s))
    · cases h
      exact (pageless_coldState _).trans (pageless_of_core (core_stompAll s))
    · exact pageless_execMbCmdWrite _ _ s h
    · exact pageless_hptRequest _ s h
    · exact nomatch away

end Sys2Proof.Machine
end

section
/-! SUPPORT. The time counters (R147): what a tick makes of them, and TIME as their sum. -/

namespace Sys2Proof.Machine

section
variable (owlHz : Nat) (t : TimeUnit)

@[simp] theorem tickCounters_raw : (tickCounters owlHz t).raw = t.raw + BitVec.ofNat 80 (nomInc owlHz) := by
  unfold tickCounters
  split <;> rfl

@[simp] theorem tickCounters_discInc : (tickCounters owlHz t).discInc = t.incNext.getD t.discInc := by
  unfold tickCounters
  split <;> rfl

@[simp] theorem tickCounters_corr :
    (tickCounters owlHz t).corr = t.corr + ((t.incNext.getD t.discInc).setWidth 96 - BitVec.ofNat 96 (nomInc owlHz * 65536)) := by
  unfold tickCounters
  split <;> rfl

theorem tickCounters_offset_of_none (h : t.stepNext = none) : (tickCounters owlHz t).offset = t.offset := by
  simp [tickCounters, h]

theorem tickCounters_offset_of_some {amount : Int} {flags : Bool × Bool} (h : t.stepNext = some (amount, flags)) :
    (tickCounters owlHz t).offset = t.offset + BitVec.ofInt 80 amount := by
  simp [tickCounters, h]

end

/-- Of the core, a tick changes the time counters alone, and as `tickCounters` says. -/
theorem core_tickTime (skewed : List Nat) (s : State) : coreOf (tickTime skewed s) = coreOf { s with time := tickCounters s.build.owlHz s.time } := by
  unfold tickTime
  dsimp only
  rw [core_holdoverTick, core_otdTick, core_foldl _ (core_checkReceiver skewed), core_stepTick, core_latchTick, core_noteInterval, core_latTick,
    core_syntTick]
  rfl

theorem exec_owlTick_counters (skewed : List Nat) (s : State) : ∃ t, exec (.owlTick skewed) s = .next t
    ∧ t.time.raw = (tickCounters s.build.owlHz s.time).raw ∧ t.time.corr = (tickCounters s.build.owlHz s.time).corr
    ∧ t.time.offset = (tickCounters s.build.owlHz s.time).offset ∧ t.time.discInc = (tickCounters s.build.owlHz s.time).discInc := by
  have core : coreOf (noteIdle (tickTime skewed s)) = _ := (core_noteIdle _).trans (core_tickTime skewed s)
  simp only [coreOf, Prod.mk.injEq] at core
  obtain ⟨-, -, -, -, raw, corr, offset, discInc⟩ := core
  exact ⟨_, rfl, raw, corr, offset, discInc⟩

/-- The sum's whole parts come out of its truncation to 16 fraction bits. -/
theorem time16_eq_sum (s : State) : time16 s = (s.time.raw.toNat : Int) + s.time.corr.toInt / 2 ^ 16 + s.time.offset.toInt := by
  unfold time16 timeOf
  omega

theorem counters_of_pageless {s t : State} (h : pagelessOf t = pagelessOf s) :
    t.time.raw = s.time.raw ∧ t.time.corr = s.time.corr ∧ t.time.offset = s.time.offset ∧ t.time.discInc = s.time.discInc := by
  simp only [pagelessOf, Prod.mk.injEq] at h
  obtain ⟨-, -, counters⟩ := h
  exact counters

/-- Settles O8: a tick by `tickCounters`, every other command by the core that it leaves alone. -/
theorem timeCounters : Obligations.TimeCounters := by
  unfold Obligations.TimeCounters
  refine ⟨fun skewed s => ?_, time16_eq_sum, fun i s t notTick notPowerOn h => counters_of_pageless (pageless_exec notTick notPowerOn h)⟩
  obtain ⟨t, next, raw, corr, offset, discInc⟩ := exec_owlTick_counters skewed s
  rw [tickCounters_discInc] at discInc
  refine ⟨t, next, by rw [raw, tickCounters_raw], discInc, by rw [corr, tickCounters_corr, discInc], ?_⟩
  rw [offset]
  cases step : s.time.stepNext with
  | none => exact tickCounters_offset_of_none _ _ step
  | some amount => exact tickCounters_offset_of_some _ _ step

end Sys2Proof.Machine
end

section
/-! SUPPORT. Resets and the time unit (R64, R149, R376): OTD's own power-on sets it and the end of its start counts it; the others leave its counters. -/

namespace Sys2Proof.Machine

theorem exec_otdPowerOn_time (romOk level : Bool) (s : State) : ∃ t, exec (.otdPowerOn romOk level) s = .next t
    ∧ t.time.raw = 0 ∧ t.time.corr = 0 ∧ t.time.offset = 0 ∧ t.time.discInc = BitVec.ofNat 40 (nomInc s.build.owlHz * 65536) ∧ t.time.valid = false := by
  refine ⟨_, rfl, ?_⟩
  cases s.time.valid <;> simp [nom32]

/-! The end of the start. -/

@[simp] theorem pushLog_cells (code source detail : Nat) (s : State) : (pushLog code source detail s).otd.cells = s.otd.cells := by
  unfold pushLog
  dsimp only
  split <;> simp

@[simp] theorem otdLog_cells (code source detail : Nat) (s : State) : (otdLog code source detail s).otd.cells = s.otd.cells := by
  unfold otdLog
  dsimp only
  split_ifs <;> simp [loseLog]

/-- The end of the start writes one cell of the power-on counter while any is left, and DISCONT_COUNT shows it. -/
theorem otdFinish_counts (key : Option (List Byte)) (s : State) : (otdFinish key s).otd.cells = min 16383 (s.otd.cells + 1)
    ∧ (otdFinish key s).time.discont = BitVec.ofNat 16 (min 16383 (s.otd.cells + 1)) := by
  unfold otdFinish
  dsimp only
  split_ifs <;> simp

theorem otdFinish_counts_of_spare (key : Option (List Byte)) {s : State} (spare : s.otd.cells < 16383) :
    (otdFinish key s).otd.cells = s.otd.cells + 1 ∧ (otdFinish key s).time.discont = BitVec.ofNat 16 (s.otd.cells + 1) := by
  have counts := otdFinish_counts key s
  rwa [Nat.min_eq_right (by omega)] at counts

section
variable {s : State} {asked : Nat} (reads : s.otd.start = .keyRead) (owes : s.otd.keyReq = some asked)
include reads owes

/-- KEY_TIMEOUT while a key word is owed ends the start without a key (R73). -/
theorem exec_keyTimeout_of_keyRead : exec .keyTimeout s = .next (otdFinish none s) := by
  change execKeyTimeout s = _
  simp [execKeyTimeout, reads, owes]

/-- The eighth key word ends the start (R73). -/
theorem exec_keyWord_of_last (word : Word) (last : s.otd.keyWords.length = 7) : ∃ key, exec (.keyWord word) s = .next (otdFinish key s) := by
  change ∃ key, execKeyWord word s = _
  simp only [execKeyWord, reads, owes, List.length_append, last, List.length_singleton, Host.Outcome.next.injEq]
  exact ⟨_, rfl⟩

end

/-! The other resets: all that they do but for clearing registers leaves the time unit alone. -/

/-- Every part of the state but the time unit. -/
def allButTime (p : StatePart) : Bool := p != .time

theorem time_of_view {s t : State} (h : view allButTime t = view allButTime s) : t.time = s.time := agree_of_view h .time rfl

theorem time_stompAll (s : State) : (stompAll s).time = s.time := time_of_view (view_stompAll rfl rfl rfl rfl rfl rfl rfl rfl rfl s)

theorem time_clearCores (own : Bool) (cores : List Nat) (s : State) : (cores.foldl (fun s sl => clearCore own sl s) s).time = s.time :=
  time_of_view (view_foldl _ (fun s sl => view_clearCore rfl rfl rfl rfl rfl rfl rfl rfl rfl rfl own sl s) cores s)

theorem time_warmSets (s : State) : (warmSets s).time = s.time := time_of_view (view_warmSets rfl rfl rfl rfl rfl rfl rfl rfl rfl s)

theorem time_warmQueues (s : State) : (warmQueues s).time = s.time := time_of_view (view_warmQueues rfl rfl s)

theorem time_dmaReset (s : State) : (dmaReset s).time = s.time := time_of_view (view_dmaReset rfl rfl rfl rfl s)

theorem time_updDoms (f : Dom → Dom) (ds : List Nat) (s : State) : (ds.foldl (fun s d => updDom d f s) s).time = s.time :=
  time_of_view (view_foldl _ (fun s d => view_updDom rfl d f s) ds s)

theorem time_causeWakes (ds : List Nat) (s : State) : (ds.foldl (fun s d => causeWake d s) s).time = s.time :=
  time_of_view (view_foldl _ (fun s d => view_causeWake rfl d s) ds s)

theorem coldState_discont (s : State) : (coldState s).time.discont = s.time.discont := rfl

theorem coldState_stompAll_discont (s : State) : (coldState (stompAll s)).time.discont = s.time.discont :=
  (coldState_discont _).trans (congrArg TimeUnit.discont (time_stompAll s))

theorem warmRegisters_discont (s : State) : (warmRegisters s).time.discont = s.time.discont := rfl

theorem warmReset_discont (s : State) : (warmReset s).time.discont = s.time.discont := by
  unfold warmReset
  dsimp only
  rw [time_dmaReset, time_warmQueues, warmRegisters_discont, time_warmSets, time_clearCores]
  exact congrArg TimeUnit.discont (time_stompAll s)

theorem warmEntry_discont (s : State) : (warmEntry s).time.discont = s.time.discont := by
  have released (rounds : List AskRound) (f : Dom → Dom) (s : State) :
      (rounds.foldl (fun s r => r.domains.foldl (fun s d => updDom d f s) s) s).time = s.time := by
    induction rounds generalizing s with
    | nil => rfl
    | cons r rounds ih => exact (ih _).trans (time_updDoms f r.domains s)
  unfold warmEntry
  simp only [warmReset_discont, releaseLatches_keeps, updPwr_time, released]

theorem exec_warmReset_discont {s t : State} (h : exec .warmReset s = .next t) : t.time.discont = s.time.discont := by
  cases h
  split_ifs
  · rfl
  · exact warmEntry_discont s
  · exact congrArg TimeUnit.discont (time_causeWakes ..)

/-- A reset pin leaves DISCONT_COUNT: the time unit stays with Otdiuri (R64, R149). -/
theorem exec_reset_discont {i : Instr} {s t : State} (resets : i = .coldReset ∨ i = .powerOnReset ∨ i = .warmReset) (h : exec i s = .next t) :
    t.time.discont = s.time.discont := by
  rcases resets with rfl | rfl | rfl
  · cases h
    exact coldState_stompAll_discont s
  · cases h
    exact coldState_stompAll_discont s
  · exact exec_warmReset_discont h

/-- Settles O9: OTD's power-on and the end of its start by their equations; of the other resets, the counters by the core that they leave alone. -/
theorem otdPowerOnStartsTime : Obligations.OtdPowerOnStartsTime := by
  unfold Obligations.OtdPowerOnStartsTime
  refine ⟨exec_otdPowerOn_time, fun asked s reads owes spare => ⟨?_, fun word last => ?_⟩, fun i s t resets h => ?_⟩
  · exact ⟨_, exec_keyTimeout_of_keyRead reads owes, otdFinish_counts_of_spare none spare⟩
  · obtain ⟨key, finishes⟩ := exec_keyWord_of_last reads owes word last
    exact ⟨_, finishes, otdFinish_counts_of_spare key spare⟩
  · have notTick (skewed : List Nat) : i ≠ .owlTick skewed := by
      rintro rfl
      simp at resets
    have notPowerOn (romOk level : Bool) : i ≠ .otdPowerOn romOk level := by
      rintro rfl
      simp at resets
    obtain ⟨raw, corr, offset, discInc⟩ := counters_of_pageless (pageless_exec notTick notPowerOn h)
    exact ⟨raw, corr, offset, discInc, exec_reset_discont resets h⟩

end Sys2Proof.Machine
end

section
/-! SUPPORT. Pools (R252 to R255): what a pool's cache and round leave of its buffers, which index an ALLOC takes, how an operation ends. -/

namespace Sys2Proof.Machine

/-! The choice of a number that is not taken. -/

/-- Counting up from any start in a cycle of `n` comes to every number below `n`. -/
theorem exists_lt_add_mod_eq {n i : Nat} (k : Nat) (below : i < n) : ∃ d, d < n ∧ (k + d) % n = i := by
  have rem : k % n < n := Nat.mod_lt k (by omega)
  refine ⟨(i + (n - k % n)) % n, Nat.mod_lt _ (by omega), ?_⟩
  calc (k + (i + (n - k % n)) % n) % n
      = (k % n + (i + (n - k % n))) % n := by rw [Nat.add_mod_mod, Nat.mod_add_mod]
    _ = (i + n) % n := by congr 1; omega
    _ = i := by rw [Nat.add_mod_right, Nat.mod_eq_of_lt below]

theorem pickFree_isSome {lo n fuel k d : Nat} {taken : Nat → Bool} (reached : d < fuel) (free : taken (lo + (k + d) % n) = false) :
    (pickFree lo n taken fuel k).isSome := by
  induction fuel generalizing k d with
  | zero => omega
  | succ fuel ih =>
    rw [pickFree]
    split
    · next busy =>
      cases d with
      | zero => simp_all
      | succ d => exact ih (d := d) (by omega) (by rwa [Nat.add_right_comm])
    · rfl

theorem pickFree_spec {lo n fuel k j : Nat} {taken : Nat → Bool} (pos : 0 < n) (h : pickFree lo n taken fuel k = some j) :
    j < lo + n ∧ taken j = false := by
  induction fuel generalizing k with
  | zero => simp [pickFree] at h
  | succ fuel ih =>
    rw [pickFree] at h
    split at h
    · exact ih h
    · next free =>
      cases h
      exact ⟨by have := Nat.mod_lt k pos; omega, by simpa using free⟩

/-! What stands after a change of one pool or of one queue. -/

@[simp] theorem poolOf_setPool_same (id : Nat) (x : Pool) (s : State) : poolOf (setPool id x s) id = some x := KMap.get?_set_same _ id x

theorem poolOf_setPool_other {id k : Nat} (x : Pool) (s : State) (h : k ≠ id) : poolOf (setPool id x s) k = poolOf s k := KMap.get?_set_other _ x h

@[simp] theorem poolOf_updSq (n k : Nat) (f : SubQ → SubQ) (s : State) : poolOf (updSq n f s) k = poolOf s k := by simp [poolOf]

@[simp] theorem poolOf_finish (n num status detail k : Nat) (s : State) : poolOf (finish n num status detail s) k = poolOf s k := by simp [poolOf]

@[simp] theorem poolOf_bump (c : Ctr) (b : Nat) (s : State) : poolOf (bump c s) b = poolOf s b := by simp [poolOf]

@[simp] theorem sqOf_updSq_same (n : Nat) (f : SubQ → SubQ) (s : State) : sqOf (updSq n f s) n = (sqOf s n).map f := by
  unfold updSq sqOf
  cases found : s.hq.sq.get? n with
  | none => simp [found]
  | some x => simp

theorem bufs_poolFree {id : Nat} {pool : Pool} (i : Nat) {s : State} (found : poolOf s id = some pool) :
    (poolOf (poolFree id i s) id).map Pool.bufs = some (pool.bufs.del i) := by
  simp [poolFree, found]

/-! The round of a pool (R254, R255). -/

theorem roundTakes_of_absent {id : Nat} (n : Nat) (alloc same : Bool) {s : State} (absent : poolOf s id = none) :
    roundTakes s id n alloc same = true := by
  simp [roundTakes, absent]

theorem noteRound_of_absent {id : Nat} (n k : Nat) (same : Bool) {s : State} (absent : poolOf s id = none) : noteRound id n k same s = s := by
  simp [noteRound, absent]

theorem poolOf_noteRound_other {id b : Nat} (n k : Nat) (same : Bool) (s : State) (h : b ≠ id) : poolOf (noteRound id n k same s) b = poolOf s b := by
  unfold noteRound
  split
  · rfl
  · exact poolOf_setPool_other _ s h

/-- A round's notes stand beside the pool's size and its buffers. -/
theorem poolOf_noteRound_same (id n k : Nat) (same : Bool) (s : State) : poolOf (noteRound id n k same s) id
    = (poolOf s id).map (fun x => { x with roundLast := n, roundAllocs := (if same then x.roundAllocs else 0) + k }) := by
  unfold noteRound
  split
  · next absent => simp [absent]
  · next x found => simp [found]

theorem bufs_noteRound (id n k : Nat) (same : Bool) (b : Nat) (s : State) :
    (poolOf (noteRound id n k same s) b).map Pool.bufs = (poolOf s b).map Pool.bufs := by
  by_cases h : b = id
  · subst h
    rw [poolOf_noteRound_same, Option.map_map]
    rfl
  · rw [poolOf_noteRound_other n k same s h]

theorem bufAt_noteRound (id n k : Nat) (same : Bool) (b i : Nat) (s : State) :
    (poolOf (noteRound id n k same s) b).bind (fun x => x.bufs.get? i) = (poolOf s b).bind (fun x => x.bufs.get? i) := by
  simpa [Option.bind_map] using congrArg (fun m : Option (KMap Nat PoolBuf) => m.bind (KMap.get? · i)) (bufs_noteRound id n k same b s)

theorem sqOf_noteRound (id n k : Nat) (same : Bool) (m : Nat) (s : State) : sqOf (noteRound id n k same s) m = sqOf s m := by
  unfold noteRound sqOf
  split <;> simp

theorem ctr_noteRound (id n k : Nat) (same : Bool) (s : State) : (noteRound id n k same s).ctr = s.ctr := by
  unfold noteRound
  split <;> simp

/-! A pool's cache (R254): it grows alone, and holds a FREE index after a refill when there is one. -/

/-- A pool with more indices in its cache. -/
def Pool.withCached (x : Pool) (l : List Nat) : Pool := { x with cache := x.cache ++ l }

/-- Of the pools, pool `id` alone differs, and its cache alone has grown. -/
def CacheGrows (id : Nat) (s t : State) : Prop :=
  (∃ l, poolOf t id = (poolOf s id).map (·.withCached l)) ∧ ∀ k, k ≠ id → poolOf t k = poolOf s k

theorem CacheGrows.refl (id : Nat) (s : State) : CacheGrows id s s :=
  ⟨⟨[], by cases poolOf s id <;> simp [Pool.withCached]⟩, fun _ _ => rfl⟩

theorem CacheGrows.trans {id : Nat} {s t u : State} (first : CacheGrows id s t) (second : CacheGrows id t u) : CacheGrows id s u := by
  obtain ⟨⟨l, grown⟩, others⟩ := first
  obtain ⟨⟨m, grownAgain⟩, othersAgain⟩ := second
  refine ⟨⟨l ++ m, ?_⟩, fun k h => (othersAgain k h).trans (others k h)⟩
  rw [grownAgain, grown, Option.map_map]
  congr 1
  funext x
  simp [Pool.withCached]

theorem cacheGrows_poolNext (id : Nat) (s : State) : CacheGrows id s (poolNext id s) := by
  unfold poolNext
  split
  · exact .refl id s
  · next x found =>
    split
    · exact .refl id s
    · next i picked =>
      refine ⟨⟨[i], ?_⟩, fun k h => poolOf_setPool_other _ s h⟩
      rw [found]
      exact poolOf_setPool_same id _ s

theorem cacheGrows_iterate_poolNext (id m : Nat) (s : State) : CacheGrows id s ((poolNext id)^[m] s) := by
  induction m with
  | zero => exact .refl id s
  | succ m ih => exact Function.iterate_succ_apply' (poolNext id) m s ▸ ih.trans (cacheGrows_poolNext id _)

theorem poolRefill_eq_or (id : Nat) (s : State) :
    (poolRefill id s = s ∧ ∃ x, poolOf s id = some x ∧ poolReady x ≠ []) ∨ poolRefill id s = (poolNext id)^[16] s := by
  rw [poolRefill, List.foldl_const, List.length_range]
  cases found : poolOf s id with
  | none => exact .inr (if_neg (Nat.not_lt_zero 8))
  | some x =>
    by_cases ready : 8 < (poolReady x).length
    · exact .inl ⟨if_pos ready, x, rfl, fun empty => by simp [empty] at ready⟩
    · exact .inr (if_neg ready)

theorem cacheGrows_poolRefill (id : Nat) (s : State) : CacheGrows id s (poolRefill id s) := by
  rcases poolRefill_eq_or id s with ⟨same, -⟩ | burst
  · rw [same]
    exact .refl id s
  · rw [burst]
    exact cacheGrows_iterate_poolNext id 16 s

theorem mem_poolReady {x : Pool} {i : Nat} : i ∈ poolReady x ↔ i ∈ x.cache ∧ i < x.count ∧ x.bufs.get? i = none := by
  simp [poolReady, KMap.has]

section
variable {id : Nat} {x : Pool} {s : State} (found : poolOf s id = some x) {i : Nat} (below : i < x.count) (free : x.bufs.get? i = none)
include found below free

/-- While a FREE index lies outside the cache, the cache takes one. -/
theorem poolNext_takes_free (outside : i ∉ x.cache) :
    ∃ j, poolOf (poolNext id s) id = some (x.withCached [j]) ∧ j < x.count ∧ x.bufs.get? j = none := by
  obtain ⟨d, reached, comes⟩ := exists_lt_add_mod_eq (Config.freeBuffer s.fresh) below
  have picks : (pickFree 0 x.count (fun i => x.bufs.has i || decide (i ∈ x.cache)) x.count (Config.freeBuffer s.fresh)).isSome :=
    pickFree_isSome reached (by simp [comes, KMap.has, free, outside])
  obtain ⟨j, picked⟩ := Option.isSome_iff_exists.mp picks
  obtain ⟨jBelow, jFree⟩ := pickFree_spec (by omega) picked
  refine ⟨j, ?_, by omega, by simp_all [KMap.has]⟩
  simp only [poolNext, found, picked]
  exact poolOf_setPool_same id _ s

/-- A cache that takes the next index is ready: a FREE index stood in it or enters it. -/
theorem poolNext_ready : ∃ x', poolOf (poolNext id s) id = some x' ∧ poolReady x' ≠ [] := by
  by_cases inside : i ∈ x.cache
  · obtain ⟨⟨l, grown⟩, -⟩ := cacheGrows_poolNext id s
    rw [found] at grown
    exact ⟨_, grown, List.ne_nil_of_mem (mem_poolReady.mpr ⟨List.mem_append_left l inside, below, free⟩)⟩
  · obtain ⟨j, takes, jBelow, jFree⟩ := poolNext_takes_free found below free inside
    exact ⟨_, takes, List.ne_nil_of_mem (mem_poolReady.mpr ⟨List.mem_append_right x.cache (List.mem_singleton_self j), jBelow, jFree⟩)⟩

/-- The last index of a burst is enough. -/
theorem poolRefill_ready : ∃ x', poolOf (poolRefill id s) id = some x' ∧ poolReady x' ≠ [] := by
  rcases poolRefill_eq_or id s with ⟨same, ready⟩ | burst
  · rwa [same]
  · obtain ⟨⟨l, grown⟩, -⟩ := cacheGrows_iterate_poolNext id 15 s
    rw [found] at grown
    rw [burst, Function.iterate_succ_apply']
    exact poolNext_ready grown (i := i) below free

end

/-! ALLOC (R253, R254). -/

/-- A pool has a FREE buffer. -/
def Pool.hasFree (x : Pool) : Prop := ∃ i, i < x.count ∧ x.bufs.get? i = none

theorem poolAlloc_of_ready {id i : Nat} {rest : List Nat} {x : Pool} (req : Nat) {s : State} (refilled : poolOf (poolRefill id s) id = some x)
    (ready : poolReady x = i :: rest) :
    poolAlloc id req s = some (i, setPool id { x with bufs := x.bufs.set i ⟨req, 0⟩, cache := rest } (poolRefill id s)) := by
  simp [poolAlloc, refilled, ready]

/-- An ALLOC takes a FREE index, which its requester then owns; of the pools nothing else changes but the cache. -/
theorem poolAlloc_of_free {id : Nat} {x : Pool} (req : Nat) {s : State} (found : poolOf s id = some x) (free : x.hasFree) :
    ∃ i t, poolAlloc id req s = some (i, t) ∧ i < x.count ∧ x.bufs.get? i = none
      ∧ (poolOf t id).map Pool.bufs = some (x.bufs.set i ⟨req, 0⟩) ∧ ∀ k, k ≠ id → poolOf t k = poolOf s k := by
  obtain ⟨k, below, kFree⟩ := free
  obtain ⟨⟨l, grown⟩, others⟩ := cacheGrows_poolRefill id s
  obtain ⟨x', refilled, ready⟩ := poolRefill_ready found below kFree
  rw [found, refilled, Option.map_some] at grown
  cases grown
  obtain ⟨i, rest, readies⟩ := List.exists_cons_of_ne_nil ready
  obtain ⟨-, iBelow, iFree⟩ := mem_poolReady.mp (readies ▸ List.mem_cons_self)
  refine ⟨i, _, poolAlloc_of_ready req refilled readies, iBelow, iFree, ?_, fun k h => ?_⟩
  · rw [poolOf_setPool_same]
    rfl
  · rw [poolOf_setPool_other _ _ h, others k h]

/-- An ALLOC fails where no buffer is FREE, and so at an absent pool (log 81). -/
theorem poolAlloc_of_not_free {id : Nat} (req : Nat) {s : State} (full : ∀ x, poolOf s id = some x → ¬ x.hasFree) : poolAlloc id req s = none := by
  obtain ⟨⟨l, grown⟩, -⟩ := cacheGrows_poolRefill id s
  cases found : poolOf s id with
  | none => simp [poolAlloc, grown, found]
  | some x =>
    have empty : poolReady (x.withCached l) = [] := List.eq_nil_iff_forall_not_mem.mpr fun i ready => by
      obtain ⟨-, below, free⟩ := mem_poolReady.mp ready
      exact full x found ⟨i, below, free⟩
    simp [poolAlloc, grown, found, empty]

theorem ctr_poolAlloc {id req i : Nat} {s t : State} (h : poolAlloc id req s = some (i, t)) : t.ctr = s.ctr :=
  agree_of_view (view_poolAlloc_some (μ := fun p => p == .buf || p == .fresh) rfl rfl h) .ctr rfl

theorem hq_poolAlloc {id req i : Nat} {s t : State} (h : poolAlloc id req s = some (i, t)) : t.hq = s.hq :=
  agree_of_view (view_poolAlloc_some (μ := fun p => p == .buf || p == .fresh) rfl rfl h) .hq rfl

/-- What follows an ALLOC that took index `i`: its entry names the index and has the result OK, and the round counts a grant. -/
def finishAlloc (n i : Nat) (w : Work) (s : State) : State :=
  finish n w.num 0 0 (noteRound w.poolId n 1 true
    (updSq n (fun x => { x with works := x.works.map (fun v => if v.num = w.num then { v with outIndex := i } else v) }) s))

theorem bufs_finishAlloc (n i : Nat) (w : Work) (s : State) : (poolOf (finishAlloc n i w s) w.poolId).map Pool.bufs = (poolOf s w.poolId).map Pool.bufs := by
  rw [finishAlloc, poolOf_finish, bufs_noteRound, poolOf_updSq]

theorem poolOf_finishAlloc_other (n i : Nat) {k : Nat} {w : Work} (s : State) (h : k ≠ w.poolId) : poolOf (finishAlloc n i w s) k = poolOf s k := by
  rw [finishAlloc, poolOf_finish, poolOf_noteRound_other n 1 true _ h, poolOf_updSq]

theorem ctr_finishAlloc (n i : Nat) (w : Work) (s : State) : (finishAlloc n i w s).ctr = s.ctr := by
  simp [finishAlloc, ctr_noteRound]

/-- The two writes to the entry are one. -/
theorem sqOf_finishAlloc (n i : Nat) (w : Work) (s : State) : sqOf (finishAlloc n i w s) n = (sqOf s n).map (fun x =>
    { x with works := x.works.map (fun v => if v.num = w.num then { v with outIndex := i, result := some 0, detail := 0 } else v) }) := by
  rw [finishAlloc, finish, sqOf_updSq_same, sqOf_noteRound, sqOf_updSq_same, Option.map_map]
  congr 1
  funext x
  simp only [Function.comp_apply, List.map_map]
  congr 2
  funext v
  by_cases h : v.num = w.num <;> simp [h]

section
variable {n : Nat} {same : Bool} {w : Work} {s : State} (next : nextWork s n .poolOp = some w)
include next

theorem exec_alloc_of_takes {i : Nat} {t : State} (runs : hstRuns s = true) (sub : w.subop = 0) (turn : roundTakes s w.poolId n true same = true)
    (takes : poolAlloc w.poolId n (noteRound w.poolId n 0 same s) = some (i, t)) : exec (.alloc n same) s = .next (finishAlloc n i w t) := by
  change execAlloc n s same = _
  simp [execAlloc, finishAlloc, next, runs, sub, turn, takes]

theorem exec_alloc_of_free {pool : Pool} (runs : hstRuns s = true) (sub : w.subop = 0) (turn : roundTakes s w.poolId n true same = true)
    (found : poolOf s w.poolId = some pool) (free : pool.hasFree) : ∃ i t, exec (.alloc n same) s = .next t ∧ i < pool.count ∧ pool.bufs.get? i = none
      ∧ (poolOf t w.poolId).map Pool.bufs = some (pool.bufs.set i ⟨n, 0⟩) ∧ (∀ k, k ≠ w.poolId → poolOf t k = poolOf s k) ∧ t.ctr = s.ctr
      ∧ sqOf t n = (sqOf s n).map (fun x =>
        { x with works := x.works.map (fun v => if v.num = w.num then { v with outIndex := i, result := some 0, detail := 0 } else v) }) := by
  have noted := poolOf_noteRound_same w.poolId n 0 same s
  rw [found, Option.map_some] at noted
  obtain ⟨i, t, takes, below, iFree, owned, others⟩ := poolAlloc_of_free n noted free
  have queue : sqOf t n = sqOf s n := by rw [sqOf, hq_poolAlloc takes, ← sqOf, sqOf_noteRound]
  refine ⟨i, _, exec_alloc_of_takes next runs sub turn takes, below, iFree, (bufs_finishAlloc n i w t).trans owned, fun k h => ?_, ?_, ?_⟩
  · rw [poolOf_finishAlloc_other n i t h, others k h, poolOf_noteRound_other n 0 same s h]
  · rw [ctr_finishAlloc, ctr_poolAlloc takes, ctr_noteRound]
  · rw [sqOf_finishAlloc, queue]

theorem exec_alloc_of_not_free (runs : hstRuns s = true) (sub : w.subop = 0) (turn : roundTakes s w.poolId n true same = true)
    (full : ∀ x, poolOf s w.poolId = some x → ¬ x.hasFree) :
    exec (.alloc n same) s = .next (finish n w.num 3 0 (poolEmpty w.poolId (noteRound w.poolId n 0 same s))) := by
  have fails : poolAlloc w.poolId n (noteRound w.poolId n 0 same s) = none := by
    refine poolAlloc_of_not_free n fun x noted => ?_
    rw [poolOf_noteRound_same] at noted
    obtain ⟨y, found, rfl⟩ := Option.map_eq_some_iff.mp noted
    exact full y found
  change execAlloc n s same = _
  simp [execAlloc, next, runs, sub, turn, fails]

theorem exec_alloc_of_no_turn (waits : roundTakes s w.poolId n true same = false) : exec (.alloc n same) s = .next s := by
  change execAlloc n s same = _
  simp [execAlloc, next, waits]

end

/-! The operations on one buffer (R253, R255). -/

/-- How an operation on a buffer ends: rejected with its reason and counted, the buffer freed, or the buffer changed. -/
def endPoolOp (n : Nat) (w : Work) (s : State) : Nat ⊕ Option PoolBuf → State
  | .inl r => finish n w.num 4 r (bump ⟨.pool, w.poolId, 0, 1⟩ s)
  | .inr none => finish n w.num 0 0 (poolFree w.poolId w.bufIndex s)
  | .inr (some x) => finish n w.num 0 0 (updPool w.poolId (fun m => m.set w.bufIndex x) s)

section
variable {n : Nat} {same : Bool} {w : Work} {s : State} (next : nextWork s n .poolOp = some w)
include next

theorem runPoolOp_of_turn (f : Work → Option PoolBuf → Nat ⊕ Option PoolBuf) {sub : Nat} (runs : hstRuns s = true) (is : w.subop = sub)
    (turn : roundTakes s w.poolId n false same = true) : runPoolOp n sub same f s
      = endPoolOp n w (noteRound w.poolId n 0 same s) (f w ((poolOf s w.poolId).bind (fun x => x.bufs.get? w.bufIndex))) := by
  simp only [runPoolOp, next, runs, turn, bufAt_noteRound, is, ne_eq, not_true, decide_false, Bool.not_true, Bool.or_self, Bool.false_eq_true,
    if_false]
  rfl

theorem runPoolOp_of_no_turn (sub : Nat) (f : Work → Option PoolBuf → Nat ⊕ Option PoolBuf) (waits : roundTakes s w.poolId n false same = false) :
    runPoolOp n sub same f s = s := by
  simp [runPoolOp, next, waits]

section
variable (runs : hstRuns s = true) (turn : roundTakes s w.poolId n false same = true) {b : Option PoolBuf}
  (meets : (poolOf s w.poolId).bind (fun x => x.bufs.get? w.bufIndex) = b)
include runs turn meets

theorem exec_share_of_turn (is : w.subop = 1) : exec (.share n same) s = .next (endPoolOp n w (noteRound w.poolId n 0 same s) (shareOp n w b)) :=
  congrArg Host.Outcome.next (meets ▸ runPoolOp_of_turn next (shareOp n) runs is turn)

theorem exec_release_of_turn (is : w.subop = 2) : exec (.release n same) s = .next (endPoolOp n w (noteRound w.poolId n 0 same s) (releaseOp w b)) :=
  congrArg Host.Outcome.next (meets ▸ runPoolOp_of_turn next releaseOp runs is turn)

theorem exec_handover_of_turn (is : w.subop = 3) : exec (.handover n same) s = .next (endPoolOp n w (noteRound w.poolId n 0 same s) (handoverOp n w b)) :=
  congrArg Host.Outcome.next (meets ▸ runPoolOp_of_turn next (handoverOp n) runs is turn)

theorem exec_free_of_turn (is : w.subop = 4) : exec (.free n same) s = .next (endPoolOp n w (noteRound w.poolId n 0 same s) (freeOp n w b)) :=
  congrArg Host.Outcome.next (meets ▸ runPoolOp_of_turn next (freeOp n) runs is turn)

end

end

/-- Settles O37: an ALLOC by what the pool holds, the other operations by how each judges its buffer, and an operation out of its turn by its wait. -/
theorem poolOperations : Obligations.PoolOperations := by
  unfold Obligations.PoolOperations
  refine ⟨fun n same w pool s next runs sub turn found free => exec_alloc_of_free next runs sub turn found free,
    fun n same w pool s next runs sub turn found full => ?_, fun n same w s next runs sub absent => ?_,
    fun n same w b s s1 r next runs turn meets hs1 hr => ?_, fun n same w s next waits _ => exec_alloc_of_no_turn next waits,
    fun n same w s next waits => ?_, fun id i pool s found => bufs_poolFree i found, bufs_noteRound,
    fun pool b s => ⟨poolOf_bump _ b s, ctrOf_bump_same _ s⟩⟩
  · refine exec_alloc_of_not_free next runs sub turn fun x holds => ?_
    cases found.symm.trans holds
    exact fun ⟨i, below, free⟩ => full i below free
  · rw [exec_alloc_of_not_free next runs sub (roundTakes_of_absent n true same absent) (by simp [absent]), noteRound_of_absent n 0 same absent]
  · subst hs1 hr
    refine ⟨fun is => (exec_share_of_turn next runs turn meets is).trans ?_, fun is => (exec_release_of_turn next runs turn meets is).trans ?_,
      fun is => (exec_handover_of_turn next runs turn meets is).trans ?_, fun is => (exec_free_of_turn next runs turn meets is).trans ?_⟩
    all_goals
      cases b with
      | none => rfl
      | some x =>
        simp only [shareOp, releaseOp, handoverOp, freeOp]
        split_ifs <;> rfl
  · exact ⟨congrArg _ (runPoolOp_of_no_turn next 1 _ waits), congrArg _ (runPoolOp_of_no_turn next 2 _ waits),
      congrArg _ (runPoolOp_of_no_turn next 3 _ waits), congrArg _ (runPoolOp_of_no_turn next 4 _ waits)⟩

end Sys2Proof.Machine
end

section
/-! SUPPORT. DMA channels (R438 to R443): what stands after a change of one channel, a load and its range check, the end of a transfer of no bytes. -/

namespace Sys2Proof.Machine

/-- What a load makes of a channel (R439): the shadow set becomes the active one and the transfer starts anew. -/
def DmaCh.loaded (x : DmaCh) : DmaCh :=
  { x with
    active := x.shadow, shadowValid := false, bytesDone := 0, acked := 0, readPos := 0, halfSeen := false, tries := [], writes := []
    oldWrites := x.oldWrites ++ x.writes, st := .busy }

@[simp] theorem dmaOf_updDma_same (c : Nat) (f : DmaCh → DmaCh) (s : State) : dmaOf (updDma c f s) c = f (dmaOf s c) :=
  KMap.getD_upd_same s.dma c {} f

/-- The range check as R443 words it: past 2^64, or a byte that is of the source and of the destination. -/
theorem badRange_iff (d : DmaSet) : badRange d = true ↔
    2 ^ 64 < d.src + d.len ∨ 2 ^ 64 < d.dst + d.len ∨ ∃ a, d.src ≤ a ∧ a < d.src + d.len ∧ d.dst ≤ a ∧ a < d.dst + d.len := by
  have overlap : (∃ a, d.src ≤ a ∧ a < d.src + d.len ∧ d.dst ≤ a ∧ a < d.dst + d.len) ↔ 0 < d.len ∧ d.src < d.dst + d.len ∧ d.dst < d.src + d.len := by
    constructor
    · rintro ⟨a, srcFrom, srcTo, dstFrom, dstTo⟩
      omega
    · rintro ⟨nonempty, srcFirst, dstFirst⟩
      exact ⟨max d.src d.dst, by omega, by omega, by omega, by omega⟩
  simp only [badRange, overlap, Bool.or_eq_true, Bool.and_eq_true, decide_eq_true_eq, or_assoc, and_assoc]

/-- A range of no bytes overlaps nothing (R442, R443). -/
theorem badRange_of_empty {d : DmaSet} (empty : d.len = 0) (src : d.src ≤ 2 ^ 64) (dst : d.dst ≤ 2 ^ 64) : badRange d = false := by
  simpa [badRange, empty] using And.intro src dst

section
variable {c : Nat} {s : State} (below : c < 64) (works : hstWorks 7 s = true)
include below works

/-- A load halts the channel or starts the transfer, as the range check says (R439, R443). -/
theorem exec_dmaLoad (idle : (dmaOf s c).st = .idle) (valid : (dmaOf s c).shadowValid = true) :
    exec (.dmaLoad c) s = .next (if badRange (dmaOf s c).shadow = true then dmaHalt c 4 (dmaOf s c).shadow.dst (updDma c DmaCh.loaded s)
      else updDma c DmaCh.loaded s) := by
  change execDmaLoad c s = _
  simp only [execDmaLoad, onDma, below, idle, valid, works]
  rfl

/-- A transfer of no bytes completes, whatever BARRIER holds (R442). -/
theorem exec_dmaZeroLenDone (busy : (dmaOf s c).st = .busy) (empty : (dmaOf s c).active.len = 0) :
    exec (.dmaZeroLenDone c) s = .next (dmaComplete c false s) := by
  change execDmaZeroLenDone c s = _
  simp [execDmaZeroLenDone, onDma, below, busy, empty, works]

end

/-- A transfer that completes without reaching its half raises its source under IRQ_FULL alone (R441, R442). -/
theorem dmaComplete_without_half (c : Nat) (s : State) : dmaComplete c false s =
    if (dmaOf s c).active.flags.getLsbD 1 = true
    then fire (64 + c) (updDma c (fun x => { x with st := .idle, doneCount := x.doneCount + 1, cause := x.cause ||| 2#6 }) s)
    else updDma c (fun x => { x with st := .idle, doneCount := x.doneCount + 1, cause := x.cause ||| 2#6 }) s := by
  simp only [dmaComplete, Bool.false_and, Bool.or_false]
  rfl

/-- Settles O54: the load by its range check, which an empty range passes; the empty transfer by its completion. -/
theorem dmaLoadRules : Obligations.DmaLoadRules := by
  unfold Obligations.DmaLoadRules
  refine ⟨fun c s below idle valid works empty src dst => ?_, fun c s below busy empty works => ?_, fun c s d below idle valid works hd bad => ?_⟩
  · refine ⟨updDma c DmaCh.loaded s, ?_, ?_⟩
    · rw [exec_dmaLoad below works idle valid, badRange_of_empty empty src dst]
      rfl
    · simp [DmaCh.loaded]
  · refine ⟨_, rfl, ?_, rfl⟩
    rw [exec_dmaZeroLenDone below works busy empty, dmaComplete_without_half]
  · subst hd
    refine ⟨updDma c (fun x => dmaCause 2 { x with st := .halted, haltKind := 4, errAddr := (dmaOf s c).shadow.dst }) (updDma c DmaCh.loaded s), ?_, ?_⟩
    · rw [exec_dmaLoad below works idle valid, if_pos ((badRange_iff _).mpr bad)]
      rfl
    · simp [DmaCh.loaded, dmaCause]

end Sys2Proof.Machine
end

section
/-! SUPPORT. CLAIM and EOI at a target (R455 to R458): what a settling leaves of the sources and the targets, which claim IDs are eligible, what a claim
takes and an EOI ends. -/

namespace Sys2Proof.Laws

open Sys2Proof.Machine

/-! What `SameSources` says of one field. -/

section
variable {s t : State} (same : SameSources s t)
include same

theorem SameSources.pend_eq : t.irq.pend = s.irq.pend := by rw [same.1]

theorem SameSources.active_eq : t.irq.active = s.irq.active := by rw [same.1]

theorem SameSources.stack_eq (n : Nat) : (tgtOf t.irq n).stack = (tgtOf s.irq n).stack := by rw [same.2 n]

theorem SameSources.privPend_eq (n : Nat) : (tgtOf t.irq n).privPend = (tgtOf s.irq n).privPend := by rw [same.2 n]

theorem SameSources.privActive_eq (n : Nat) : (tgtOf t.irq n).privActive = (tgtOf s.irq n).privActive := by rw [same.2 n]

theorem SameSources.spurious_eq (n : Nat) : (tgtOf t.irq n).spurious = (tgtOf s.irq n).spurious := by rw [same.2 n]

end

section
variable (n k : Nat) (s : State)

@[simp] theorem pend_settleAgain : (settleAgain n s).irq.pend = s.irq.pend := (sameSources_settleAgain n s).pend_eq

@[simp] theorem active_settleAgain : (settleAgain n s).irq.active = s.irq.active := (sameSources_settleAgain n s).active_eq

@[simp] theorem stack_settleAgain : (tgtOf (settleAgain n s).irq k).stack = (tgtOf s.irq k).stack := (sameSources_settleAgain n s).stack_eq k

@[simp] theorem privPend_settleAgain : (tgtOf (settleAgain n s).irq k).privPend = (tgtOf s.irq k).privPend := (sameSources_settleAgain n s).privPend_eq k

@[simp] theorem privActive_settleAgain : (tgtOf (settleAgain n s).irq k).privActive = (tgtOf s.irq k).privActive :=
  (sameSources_settleAgain n s).privActive_eq k

@[simp] theorem spurious_settleAgain : (tgtOf (settleAgain n s).irq k).spurious = (tgtOf s.irq k).spurious := (sameSources_settleAgain n s).spurious_eq k

end

end Sys2Proof.Laws

namespace Sys2Proof.Machine

open Sys2Proof.Laws

/-- An access that HST serves acts on the state that keeps HST awake (R57, R476). -/
theorem viaHst_of_served (i : HptAccess) (f : State → State) {s : State} (served : hptServed false s = true) (wakes : (dom s 66).wakeFail = false) :
    viaHst i f s = f (askWake 66 s) := by
  simp [viaHst, served, wakes, atHst]

/-! Lists without repeats, and single bits of a word. -/

section
variable {α : Type} [DecidableEq α] (l : List α) (a b : α)

theorem mem_addTo_self : a ∈ addTo l a := by
  by_cases h : a ∈ l <;> simp [addTo, h]

@[simp] theorem mem_dropFrom : b ∈ dropFrom l a ↔ b ∈ l ∧ b ≠ a := by simp [dropFrom]

end

theorem getLsbD_bit {p : Nat} (h : p < 32) : (BitVec.ofNat 32 (2 ^ p)).getLsbD p = true := by
  rw [BitVec.getLsbD_ofNat, Nat.testBit_two_pow_self, decide_eq_true h, Bool.and_self]

theorem getLsbD_or_bit {p : Nat} (h : p < 32) (w : BitVec 32) : (w ||| BitVec.ofNat 32 (2 ^ p)).getLsbD p = true := by
  rw [BitVec.getLsbD_or, getLsbD_bit h, Bool.or_true]

theorem getLsbD_and_not_bit {p : Nat} (h : p < 32) (w : BitVec 32) : (w &&& ~~~BitVec.ofNat 32 (2 ^ p)).getLsbD p = false := by
  rw [BitVec.getLsbD_and, BitVec.getLsbD_not, getLsbD_bit h, Bool.not_true, Bool.and_false, Bool.and_false]

/-! What a change of one target leaves of the distributor. -/

section
variable (n : Nat) (f : Target → Target) (s : State)

@[simp] theorem tgtOf_updTarget_same : tgtOf (updTarget n f s).irq n = f (tgtOf s.irq n) := KMap.getD_upd_same s.irq.tgt n {} f

theorem tgtOf_updTarget_other {k : Nat} (h : k ≠ n) : tgtOf (updTarget n f s).irq k = tgtOf s.irq k := KMap.getD_set_other _ _ _ h

theorem irq_updTarget : (updTarget n f s).irq = { s.irq with tgt := (updTarget n f s).irq.tgt } := rfl

@[simp] theorem pend_updTarget : (updTarget n f s).irq.pend = s.irq.pend := rfl

@[simp] theorem active_updTarget : (updTarget n f s).irq.active = s.irq.active := rfl

end

@[simp] theorem hpt_settleAgain (n : Nat) (s : State) : (settleAgain n s).hpt = s.hpt := by simp [settleAgain]

/-! Eligible sources (R455 to R457). -/

/-- A claim ID names a shared source that EN holds, or one of the 32 sources of the target's own (R457, R462). -/
theorem id_lt_of_mem_eligible {q : Irq} {n : Nat} {e : Nat × Nat} (h : e ∈ eligible q n) : e.1 < 0x1020 := by
  simp only [eligible, List.mem_append, List.mem_map, List.mem_filter, Bool.and_eq_true] at h
  rcases h with ⟨i, ⟨-, -, fits⟩, rfl⟩ | ⟨p, ⟨inRange, -⟩, rfl⟩
  · simp only [sharedFits, Bool.and_eq_true] at fits
    obtain ⟨⟨⟨-, enabled⟩, -⟩, -⟩ := fits
    have := BitVec.lt_of_getLsbD enabled
    omega
  · have := List.mem_range.mp inRange
    omega

theorem exists_winner {q : Irq} {n : Nat} (nonempty : eligible q n ≠ []) : ∃ id prio, winner q n = some (id, prio) := by
  obtain ⟨⟨id, prio⟩, won⟩ := Option.ne_none_iff_exists'.mp (mt (winner_none q n).mp nonempty)
  exact ⟨id, prio, won⟩

theorem offeredNow_of_eligible {q : Irq} {n : Nat} (awake : (tgtOf q n).awake = true) (nonempty : eligible q n ≠ []) : offeredNow q n = true := by
  obtain ⟨id, prio, won⟩ := exists_winner nonempty
  simp [offeredNow, awake, won]

/-! A claim (R457). -/

section
variable (n id prio : Nat) (s : State)

@[simp] theorem hpt_takeClaim : (takeClaim n id prio s).hpt = s.hpt := by
  unfold takeClaim
  split <;> rfl

@[simp] theorem stack_takeClaim :
    (tgtOf (takeClaim n id prio s).irq n).stack = ⟨id, prio / 2 ^ (tgtOf s.irq n).bp⟩ :: (tgtOf s.irq n).stack := by
  unfold takeClaim
  split
  · rw [tgtOf_updTarget_same]
    rfl
  · rw [tgtOf_updTarget_same]

end

/-- A claimed shared source leaves pending and becomes active; what pends of the target's own sources stands. -/
theorem takeClaim_of_shared (n prio : Nat) {id : Nat} (s : State) (shared : id < 0x1000) :
    id ∉ (takeClaim n id prio s).irq.pend ∧ id ∈ (takeClaim n id prio s).irq.active
      ∧ (tgtOf (takeClaim n id prio s).irq n).privPend = (tgtOf s.irq n).privPend := by
  rw [takeClaim, if_pos shared]
  exact ⟨fun pends => ((mem_dropFrom _ _ _).mp pends).2 rfl, mem_addTo_self _ id, by rw [tgtOf_updTarget_same]; rfl⟩

/-- A claimed source of the target's own leaves pending and becomes active at its target; the shared sources stand. -/
theorem takeClaim_of_private (n prio : Nat) {id : Nat} (s : State) (isPrivate : 0x1000 ≤ id) (below : id < 0x1020) :
    (tgtOf (takeClaim n id prio s).irq n).privPend.getLsbD (id - 0x1000) = false
      ∧ (tgtOf (takeClaim n id prio s).irq n).privActive.getLsbD (id - 0x1000) = true
      ∧ (takeClaim n id prio s).irq.pend = s.irq.pend ∧ (takeClaim n id prio s).irq.active = s.irq.active := by
  have bit : id - 0x1000 < 32 := by omega
  rw [takeClaim, if_neg (by omega), tgtOf_updTarget_same]
  exact ⟨getLsbD_and_not_bit bit _, getLsbD_or_bit bit _, rfl, rfl⟩

/-! The end of an active state (R458). -/

section
variable {n id : Nat} (s : State)

/-- The end of a source's active state changes no target but the one it is given. -/
theorem tgtOf_endActive_other {k : Nat} (h : k ≠ n) : tgtOf (endActive n id s).irq k = tgtOf s.irq k := by
  unfold endActive
  split
  · rfl
  · exact tgtOf_updTarget_other n _ s h

@[simp] theorem pend_endActive : (endActive n id s).irq.pend = s.irq.pend := by
  unfold endActive
  split <;> rfl

@[simp] theorem stack_endActive : (tgtOf (endActive n id s).irq n).stack = (tgtOf s.irq n).stack := by
  unfold endActive
  split
  · rfl
  · rw [tgtOf_updTarget_same]

theorem active_endActive_of_shared (shared : id < 0x1000) : (endActive n id s).irq.active = dropFrom s.irq.active id := by
  rw [endActive, if_pos shared]
  rfl

theorem active_endActive_of_private (isPrivate : 0x1000 ≤ id) : (endActive n id s).irq.active = s.irq.active := by
  rw [endActive, if_neg (by omega)]
  rfl

theorem privActive_endActive_of_private (isPrivate : 0x1000 ≤ id) (below : id < 0x1020) :
    (tgtOf (endActive n id s).irq n).privActive.getLsbD (id - 0x1000) = false := by
  rw [endActive, if_neg (by omega), tgtOf_updTarget_same]
  exact getLsbD_and_not_bit (by omega) _

end

/-! The two accesses at a target that HST serves. -/

section
variable {n : Nat} {s : State} (below : n < 64) (served : hptServed false s = true) (wakes : (dom s 66).wakeFail = false)
include below served wakes

theorem exec_claim_of_winner {id prio : Nat} (won : winner s.irq n = some (id, prio)) :
    exec (.claim n) s = .next (hptOk (id + 2 ^ 16 + prio * 2 ^ 24) (settleAgain n (takeClaim n id prio (askWake 66 s)))) := by
  change execClaim n s = _
  rw [execClaim, viaHst_of_served _ _ served wakes]
  simp [below, won]

theorem exec_claim_of_spurious (empty : eligible s.irq n = []) :
    exec (.claim n) s = .next (hptOk 0x0FFF (settleAgain n (updTarget n (fun t => { t with spurious := min 0xFFFF (t.spurious + 1) }) (askWake 66 s)))) := by
  change execClaim n s = _
  rw [execClaim, viaHst_of_served _ _ served wakes]
  simp [below, (winner_none s.irq n).mpr empty]

theorem exec_eoi_of_top {data : Word} {x : RunEntry} {rest : List RunEntry} (top : (tgtOf s.irq n).stack = x :: rest)
    (named : x.id = data.toNat % 65536) (valid : data.getLsbD 16 = true) : exec (.eoi n data) s
      = .next (hptOk 0 (settleAgain n (endActive n x.id (updTarget n (fun t => { t with stack := rest }) (askWake 66 s))))) := by
  change execEoi n data s = _
  rw [execEoi, viaHst_of_served _ _ served wakes]
  simp [Nat.not_le.mpr below, top, ← named, valid]

/-- An EOI without EOI_VALID, or that does not name the top of the stack, only counts. -/
theorem exec_eoi_of_ignored {data : Word}
    (ignored : data.getLsbD 16 = false ∨ ∀ x rest, (tgtOf s.irq n).stack = x :: rest → x.id ≠ data.toNat % 65536) :
    exec (.eoi n data) s = .next (hptOk 0 (updTarget n (fun t => { t with eoiErr := min 0xFF (t.eoiErr + 1) }) (askWake 66 s))) := by
  change execEoi n data s = _
  rw [execEoi, viaHst_of_served _ _ served wakes, if_neg (Nat.not_le.mpr below), askWake_irq]
  cases stack : (tgtOf s.irq n).stack with
  | nil => rfl
  | cons x rest =>
    have notTop : ¬ (decide (x.id = data.toNat % 65536) && data.getLsbD 16) = true := by
      rw [Bool.and_eq_true, decide_eq_true_eq]
      rintro ⟨named, valid⟩
      rcases ignored with invalid | other
      · exact Bool.false_ne_true (invalid.symm.trans valid)
      · exact other x rest stack named
    dsimp only
    rw [if_neg notTop]

end

/-- Settles O56: a claim by the winner, or by its absence; an EOI by the top of the stack. -/
theorem claimAndEoi : Obligations.ClaimAndEoi := by
  unfold Obligations.ClaimAndEoi
  refine ⟨fun n s below served wakes nonempty => ?_, fun n s below served wakes empty => ?_, fun q n => offeredNow_of_eligible,
    fun n data x rest s below served wakes top named valid => ?_, fun n data s below served wakes ignored => ?_⟩
  · obtain ⟨id, prio, won⟩ := exists_winner nonempty
    obtain ⟨member, least⟩ := winner_some won
    refine ⟨_, id, prio, exec_claim_of_winner below served wakes won, member, least, by simp, by simp, fun shared => ?_, fun isPrivate => ?_⟩
    · simpa using takeClaim_of_shared n prio (askWake 66 s) shared
    · simpa using takeClaim_of_private n prio (askWake 66 s) isPrivate (id_lt_of_mem_eligible member)
  · exact ⟨_, exec_claim_of_spurious below served wakes empty, by simp⟩
  · refine ⟨_, exec_eoi_of_top below served wakes top named valid, by simp, by simp, fun shared => ?_, fun isPrivate inRange => ?_, fun k other => ?_⟩
    · simp +contextual [active_endActive_of_shared _ shared]
    · simp [active_endActive_of_private _ isPrivate, privActive_endActive_of_private _ isPrivate inRange]
    · simp [tgtOf_endActive_other _ other, tgtOf_updTarget_other n _ _ other]
  · refine ⟨_, exec_eoi_of_ignored below served wakes ignored, ?_, ?_, fun k other => ?_⟩
    · rw [hptOk_irq, irq_updTarget, askWake_irq]
    · rw [hptOk_irq, tgtOf_updTarget_same, askWake_irq]
    · rw [hptOk_irq, tgtOf_updTarget_other n _ _ other, askWake_irq]

end Sys2Proof.Machine
end

section
/-! SUPPORT. A step (R1, R57): every command and every step goes on, what a step runs, the build and the queue that it leaves, and the two command pages. -/

namespace Sys2Proof.Machine

/-! Every command goes on. The meanings that judge the state first answer in each of their branches. -/

theorem execRxFrame_goes_on (f : RxFrame) (s : State) : ∃ t, execRxFrame f s = .next t := by
  unfold execRxFrame
  dsimp only
  split_ifs <;> exact ⟨_, rfl⟩

theorem execLearnApply_goes_on (s : State) : ∃ t, execLearnApply s = .next t := by
  unfold execLearnApply
  split <;> exact ⟨_, rfl⟩

theorem execMacAgeScan_goes_on (s : State) : ∃ t, execMacAgeScan s = .next t := by
  unfold execMacAgeScan
  dsimp only
  split_ifs <;> exact ⟨_, rfl⟩

theorem execSample_goes_on (p : Nat) (s : State) : ∃ t, execSample p s = .next t := by
  unfold execSample
  dsimp only
  repeat' split
  all_goals exact ⟨_, rfl⟩

theorem execFoxtrotRecordWrite_goes_on (ring : Nat) (s : State) : ∃ t, execFoxtrotRecordWrite ring s = .next t := by
  unfold execFoxtrotRecordWrite
  repeat' split
  all_goals exact ⟨_, rfl⟩

theorem execFoxtrotConsPoll_goes_on (ring : Nat) (word : Word) (s : State) : ∃ t, execFoxtrotConsPoll ring word s = .next t := by
  unfold execFoxtrotConsPoll
  repeat' split
  all_goals exact ⟨_, rfl⟩

theorem execGateListStart_goes_on (p : Nat) (s : State) : ∃ t, execGateListStart p s = .next t := by
  unfold execGateListStart
  dsimp only
  repeat' split
  all_goals exact ⟨_, rfl⟩

theorem execGateEntry_goes_on (p : Nat) (s : State) : ∃ t, execGateEntry p s = .next t := by
  unfold execGateEntry
  repeat' split
  all_goals exact ⟨_, rfl⟩

/-- Every other meaning answers a next state outright. -/
theorem exec_goes_on (i : Instr) (s : State) : ∃ t, exec i s = .next t := by
  cases i with
  | rxFrame f => exact execRxFrame_goes_on f s
  | learnApply => exact execLearnApply_goes_on s
  | macAgeScan => exact execMacAgeScan_goes_on s
  | sample p => exact execSample_goes_on p s
  | foxtrotRecordWrite ring => exact execFoxtrotRecordWrite_goes_on ring s
  | foxtrotConsPoll ring word => exact execFoxtrotConsPoll_goes_on ring word s
  | gateListStart p => exact execGateListStart_goes_on p s
  | gateEntry p => exact execGateEntry_goes_on p s
  | _ => exact ⟨_, rfl⟩

/-- An access that waited is served like its own row. -/
theorem runAccess_goes_on (i : HptAccess) (s : State) : ∃ t, runAccess i s = .next t := by
  cases i <;> exact ⟨_, rfl⟩

/-! What a step does. -/

theorem step_of_pending {s : State} {i : Instr} {rest : List Instr} (front : s.pending = i :: rest) : step s = exec i { s with pending := rest } := by
  simp only [step, front]

theorem step_of_empty {s : State} (empty : s.pending = []) : step s = answerWaiting s := by
  simp only [step, empty]

/-- The access that has waited longest may be answered: HST is in RUN, or its wake has failed. -/
def mayAnswer (s : State) : Prop := (dom s 66).wakeFail = true ∨ (dom s 66).st = .run

theorem answerWaiting_of_none {s : State} (none : s.hpt.waiting = []) : answerWaiting s = .next s := by
  simp only [answerWaiting, none]

theorem answerWaiting_of_asleep {s : State} {x : Nat × HptAccess} {rest : List (Nat × HptAccess)} (waits : s.hpt.waiting = x :: rest)
    (asleep : ¬ mayAnswer s) : answerWaiting s = .next s := by
  simp only [mayAnswer, not_or, Bool.not_eq_true] at asleep
  simp [answerWaiting, waits, asleep]

/-- The oldest access is served with its own tag, and the others go on waiting. -/
theorem answerWaiting_of_served {s t : State} {x : Nat × HptAccess} {rest : List (Nat × HptAccess)} (waits : s.hpt.waiting = x :: rest)
    (may : mayAnswer s) (served : runAccess x.2 { s with hpt := { s.hpt with tag := x.1, waiting := [] } } = .next t) :
    answerWaiting s = .next { t with hpt := { t.hpt with tag := s.hpt.tag, waiting := t.hpt.waiting ++ rest } } := by
  have awake : ¬ (!(dom s 66).wakeFail && decide ((dom s 66).st ≠ .run)) = true := by
    rcases may with failed | runs
    · simp [failed]
    · simp [runs]
  simp only [answerWaiting, waits, awake, served]
  rfl

/-- An idle step leaves the state, or serves one access that waited. -/
theorem answerWaiting_cases {s t : State} (h : answerWaiting s = .next t) : t = s ∨ ∃ (x : Nat × HptAccess) (rest : List (Nat × HptAccess)) (u : State),
    runAccess x.2 { s with hpt := { s.hpt with tag := x.1, waiting := [] } } = .next u
      ∧ t = { u with hpt := { u.hpt with tag := s.hpt.tag, waiting := u.hpt.waiting ++ rest } } := by
  cases waits : s.hpt.waiting with
  | nil =>
    rw [answerWaiting_of_none waits] at h
    exact .inl (Host.Outcome.next.inj h).symm
  | cons x rest =>
    by_cases may : mayAnswer s
    · obtain ⟨u, served⟩ := runAccess_goes_on x.2 { s with hpt := { s.hpt with tag := x.1, waiting := [] } }
      rw [answerWaiting_of_served waits may served] at h
      exact .inr ⟨x, rest, u, served, (Host.Outcome.next.inj h).symm⟩
    · rw [answerWaiting_of_asleep waits may] at h
      exact .inl (Host.Outcome.next.inj h).symm

theorem step_goes_on (s : State) : ∃ t, step s = .next t := by
  cases front : s.pending with
  | cons i rest => rw [step_of_pending front]; exact exec_goes_on i _
  | nil =>
    rw [step_of_empty front]
    cases waits : s.hpt.waiting with
    | nil => exact ⟨s, answerWaiting_of_none waits⟩
    | cons x rest =>
      by_cases may : mayAnswer s
      · obtain ⟨u, served⟩ := runAccess_goes_on x.2 { s with hpt := { s.hpt with tag := x.1, waiting := [] } }
        exact ⟨_, answerWaiting_of_served waits may served⟩
      · exact ⟨s, answerWaiting_of_asleep waits may⟩

/-- Settles O7: every meaning answers a next state, and so does every access that waited. -/
theorem everyCommandGoesOn : Obligations.EveryCommandGoesOn :=
  ⟨exec_goes_on, step_goes_on⟩

/-- Settles O1: the front command by the step's own equation, the empty queue by the access that has waited longest. -/
theorem stepRunsFrontCommand : Obligations.StepRunsFrontCommand := by
  unfold Obligations.StepRunsFrontCommand
  refine ⟨fun c rest s front => step_of_pending front, fun s empty none => ?_, fun s x rest empty waits alive asleep => ?_,
    fun s x rest t empty waits may served => ?_⟩
  · rw [step_of_empty empty, answerWaiting_of_none none]
  · rw [step_of_empty empty, answerWaiting_of_asleep waits (by simp [mayAnswer, alive, asleep])]
  · rw [step_of_empty empty, answerWaiting_of_served waits may served]

/-- Settles O3: both command pages are empty. -/
theorem resetMeetsInvariant : Obligations.ResetMeetsInvariant :=
  ⟨⟨rfl, nofun⟩, ⟨rfl, nofun⟩⟩

end Sys2Proof.Machine
end

section
/-! SUPPORT. The invariant of every step (R83, R400): both command pages stay canonical within their 256 bytes; the build and the queue (R1, R78). -/

namespace Sys2Proof.Machine

/-! A write into a command page. -/

/-- A write lists no cell but those that stood there and its own. -/
theorem Memory.mem_write {a : Nat} {b : Byte} {m : List Host.Cell} {c : Host.Cell} (h : c ∈ Memory.write a b m) : c ∈ m ∨ c = (a, b) := by
  induction m with
  | nil =>
    simp only [Memory.write] at h
    split_ifs at h
    · exact .inl h
    · exact .inr (List.mem_singleton.mp h)
  | cons d m ih =>
    simp only [Memory.write] at h
    split_ifs at h
    · exact .inl h
    · exact (List.mem_cons.mp h).symm
    · exact .inl (List.mem_cons_of_mem d h)
    · exact (List.mem_cons.mp h).symm.imp_left (List.mem_cons_of_mem d)
    · rcases List.mem_cons.mp h with rfl | h
      · exact .inl List.mem_cons_self
      · exact (ih h).imp_left (List.mem_cons_of_mem d)

theorem pageOk_write {m : List Host.Cell} {a : Nat} (b : Byte) (below : a < 256) (ok : pageOk m) : pageOk (Memory.write a b m) := by
  refine ⟨Memory.wf_write a b ok.1, fun c written => ?_⟩
  rcases Memory.mem_write written with stood | rfl
  · exact ok.2 c stood
  · exact below

theorem pageOk_pageWrite (off : Nat) (l : List Byte) {m : List Host.Cell} (ok : pageOk m) : pageOk (pageWrite off l m) := by
  induction l generalizing off m with
  | nil => exact ok
  | cons b l ih =>
    rw [pageWrite]
    split_ifs with below
    · exact ih (off + 1) (pageOk_write b below ok)
    · exact ih (off + 1) ok

/-! What keeps the invariant. -/

theorem inv_of_core {s t : State} (h : coreOf t = coreOf s) (inv : s.Inv) : t.Inv := by
  simp only [coreOf, Prod.mk.injEq] at h
  obtain ⟨-, -, cmd, ocmd, -⟩ := h
  rwa [State.Inv, cmd, ocmd]

theorem inv_after {s : State} {o : Host.Outcome State Fault Refusal} (inv : s.Inv) (h : ∀ t, o = .next t → t.Inv) : (after o s).Inv := by
  cases o with
  | next t => exact h t rfl
  | _ => exact inv

theorem inv_atHst {f : State → State} (h : ∀ s, s.Inv → (f s).Inv) {s : State} (inv : s.Inv) : (atHst f s).Inv :=
  h _ (inv_of_core (core_askWake 66 s) inv)

theorem inv_atCtl {f : State → State} (h : ∀ s, s.Inv → (f s).Inv) {s : State} (inv : s.Inv) : (atCtl f s).Inv :=
  inv_atHst (fun s inv => h _ (inv_of_core (core_askWake 65 s) inv)) inv

/-- A write of a locked CMD changes nothing, any other keeps the page canonical (R84). -/
theorem inv_execMbCmdWrite {off : Nat} {data : List Byte} {s t : State} (inv : s.Inv) (h : execMbCmdWrite off data s = .next t) : t.Inv := by
  cases h
  unfold viaCtl
  split_ifs
  · exact inv_of_core (core_hptDefer _ true s) inv
  · exact inv_of_core (core_hptErr s) inv
  · refine inv_atCtl (fun s inv => inv_of_core (core_hptOk 0 _) ?_) inv
    split
    · exact inv
    · exact ⟨pageOk_pageWrite off data inv.1, inv.2⟩

theorem inv_mailboxWrite (r : Nat) (v : Word) {s : State} (inv : s.Inv) : (mailboxWrite r v s).Inv := by
  unfold mailboxWrite
  split
  · exact inv_after inv fun _ h => inv_execMbCmdWrite inv h
  · split
    · exact inv_of_core (core_after fun _ h => core_execMbGo v s h) inv
    · exact inv_of_core (core_after fun _ h => core_execMbAck v s h) inv
    · exact inv_atCtl (fun s inv => inv_of_core (core_hptOk 0 _) inv) inv
    · exact inv_of_core (core_atCtl (core_hptOk 0) s) inv

theorem inv_otdWrite (r : Nat) (v : Word) {s : State} (inv : s.Inv) : (otdWrite r v s).Inv := by
  unfold otdWrite
  split
  · refine inv_of_core (core_hptOk 0 _) ?_
    split
    · exact inv
    · exact ⟨inv.1, pageOk_pageWrite r _ inv.2⟩
  · split
    · exact inv_of_core (core_after fun _ h => core_execOmbGo v s h) inv
    · exact inv_of_core (core_after fun _ h => core_execOmbAck v s h) inv
    · exact inv_of_core (core_after fun _ h => core_execOringConsWrite v s h) inv
    · exact inv_of_core (core_hptOk 0 s) inv

theorem inv_writeWord (a : Nat) (v : Word) {s : State} (inv : s.Inv) : (writeWord a v s).Inv := by
  unfold writeWord
  split
  · exact inv_of_core (core_hptOk 0 s) inv
  · exact inv_mailboxWrite _ v inv
  · exact inv_otdWrite _ v inv
  · exact inv_of_core (core_hptOk 0 s) inv
  · exact inv_of_core (core_distWrite _ v s) inv
  · exact inv_of_core (core_doorbellWrite _ _ v s) inv
  · exact inv_of_core (core_doorbellWrite _ _ v s) inv
  · exact inv_of_core (core_dmaWrite _ _ v s) inv
  · exact inv_of_core (core_powerWrite _ v s) inv
  · exact inv_of_core (core_atHst (core_hptOk 0) s) inv
  · exact inv
  · exact inv

theorem inv_writeWords (words : List (Nat × Word)) {s : State} (inv : s.Inv) : (words.foldl (fun s w => writeWord w.1 w.2 s) s).Inv := by
  induction words generalizing s with
  | nil => exact inv
  | cons w words ih => exact ih (inv_writeWord w.1 w.2 inv)

theorem inv_runRequest (q : HptReq) {s : State} (inv : s.Inv) : (runRequest q s).Inv := by
  unfold runRequest
  dsimp only
  split_ifs
  · exact inv_of_core (core_hptErr s) inv
  · exact inv_of_core (core_hptErr s) inv
  · exact inv_of_core (core_hptOk 0 s) inv
  · exact inv_of_core (core_hptOk _ _) inv
  · exact inv_of_core (core_hptAnswer 2 0 s) inv
  · exact inv_writeWords _ inv
  · exact inv_of_core ((core_hptOk _ _).trans (core_readWords _ _ s)) inv

theorem inv_hptRequest {q : HptReq} {s t : State} (inv : s.Inv) (h : hptRequest q s = .next t) : t.Inv := by
  cases h
  split_ifs
  · exact inv_runRequest q inv
  · exact inv_of_core (core_hptDefer _ _ _) inv
  · exact inv_of_core (core_hptErr _) inv
  · exact inv_atHst (fun _ inv => inv_runRequest q inv) inv

/-- A cold reset empties the command page of the boot mailbox, and leaves OTD (R20, R64). -/
theorem inv_coldState {s : State} (inv : s.Inv) : (coldState s).Inv :=
  ⟨resetMeetsInvariant.1, inv.2⟩

/-- Every command keeps the invariant: the two page writes by `pageOk_pageWrite`, the resets by the empty page, the others by the core. -/
theorem inv_exec {i : Instr} {s t : State} (inv : s.Inv) (h : exec i s = .next t) : t.Inv := by
  cases away : touchesCore i with
  | false => exact inv_of_core (core_exec h away) inv
  | true =>
    unfold touchesCore at away
    split at away
    · cases h
      exact inv_of_core ((core_noteIdle _).trans (core_tickTime _ s)) inv
    · cases h
      split
      · exact inv_of_core (core_fire 25 _) ⟨inv.1, resetMeetsInvariant.2⟩
      · exact ⟨inv.1, resetMeetsInvariant.2⟩
    · cases h
      exact inv_coldState (s := stompAll s) (inv_of_core (core_stompAll s) inv)
    · cases h
      exact inv_coldState (s := stompAll s) (inv_of_core (core_stompAll s) inv)
    · exact inv_execMbCmdWrite inv h
    · exact inv_hptRequest inv h
    · exact nomatch away

/-! A step. -/

/-- The row of the table whose access waited. (Not compiled: `Instr` has more constructors than the code generator numbers.) -/
noncomputable def rowOf : HptAccess → Instr
  | .request q => .registerWrite q.addr q.be q.data q.write q.id
  | .mbGo data => .mbGo data
  | .mbAck data => .mbAck data
  | .mbCmdWrite off data => .mbCmdWrite off data
  | .sqDb n data => .sqDb n data
  | .cqDb r data => .cqDb r data
  | .dmaGo c => .dmaGo c
  | .dmaShadowWrite c off data => .dmaShadowWrite c off data
  | .dmaAbort c => .dmaAbort c
  | .dmaResume c => .dmaResume c
  | .dmaClear c => .dmaClear c
  | .chCauseRead c => .chCauseRead c
  | .sliceCauseRead sl => .sliceCauseRead sl
  | .sliceLinkRead sl => .sliceLinkRead sl
  | .claim n => .claim n
  | .eoi n data => .eoi n data
  | .pendSet k data => .pendSet k data
  | .pendClr k data => .pendClr k data
  | .enSet k data => .enSet k data
  | .enClr k data => .enClr k data
  | .srcCfgWrite i data => .srcCfgWrite i data
  | .privPendSet n data => .privPendSet n data
  | .privPendClr n data => .privPendClr n data
  | .privEnSet n data => .privEnSet n data
  | .privEnClr n data => .privEnClr n data
  | .targetCountsRead n => .targetCountsRead n

theorem runAccess_eq_exec (a : HptAccess) (s : State) : runAccess a s = exec (rowOf a) s := by
  cases a <;> rfl

theorem inv_step {s t : State} (inv : s.Inv) (h : step s = .next t) : t.Inv := by
  cases front : s.pending with
  | cons i rest =>
    rw [step_of_pending front] at h
    exact inv_exec (s := { s with pending := rest }) inv h
  | nil =>
    rw [step_of_empty front] at h
    rcases answerWaiting_cases h with rfl | ⟨x, rest, u, served, rfl⟩
    · exact inv
    · rw [runAccess_eq_exec] at served
      have kept : u.Inv := inv_exec (s := { s with hpt := { s.hpt with tag := x.1, waiting := [] } }) inv served
      exact kept

/-- Settles O4: a step is a command, or an access that waited, and each keeps both pages. -/
theorem everyStepKeepsInvariant : Obligations.EveryStepKeepsInvariant :=
  fun _ _ => inv_step

/-- What no command reaches: the build, and the queue behind it. -/
def BuildAndQueueKept (s t : State) : Prop := t.build = s.build ∧ t.pending = s.pending

theorem kept_of_pageless {s t : State} (h : pagelessOf t = pagelessOf s) : BuildAndQueueKept s t := by
  simp only [pagelessOf, Prod.mk.injEq] at h
  exact ⟨h.1, h.2.1⟩

theorem kept_of_view {μ : StatePart → Bool} {s t : State} (h : view μ t = view μ s) : BuildAndQueueKept s t :=
  by
  have build := congrArg (fun x => x.build) h
  have queue := congrArg (fun x => x.pending) h
  exact ⟨build, queue⟩

theorem exec_keeps_build_and_queue {i : Instr} {s t : State} (h : exec i s = .next t) : BuildAndQueueKept s t := by
  by_cases tick : ∃ skewed, i = .owlTick skewed
  · obtain ⟨skewed, rfl⟩ := tick
    exact kept_of_view (view_execOwlTick (μ := fun _ => true) (h := h) rfl rfl rfl rfl rfl rfl rfl rfl rfl rfl rfl)
  · by_cases powerOn : ∃ romOk level, i = .otdPowerOn romOk level
    · obtain ⟨romOk, level, rfl⟩ := powerOn
      exact kept_of_view (view_execOtdPowerOn (μ := fun _ => true) (h := h) rfl rfl rfl rfl rfl)
    · exact kept_of_pageless (pageless_exec (fun _ is => tick ⟨_, is⟩) (fun _ _ is => powerOn ⟨_, _, is⟩) h)

theorem step_keeps_build_and_tail {s t : State} (h : step s = .next t) : t.build = s.build ∧ t.pending = s.pending.tail := by
  cases front : s.pending with
  | cons i rest =>
    rw [step_of_pending front] at h
    exact exec_keeps_build_and_queue h
  | nil =>
    rw [step_of_empty front] at h
    rcases answerWaiting_cases h with rfl | ⟨x, rest, u, served, rfl⟩
    · exact ⟨rfl, front⟩
    · rw [runAccess_eq_exec] at served
      obtain ⟨build, queue⟩ := exec_keeps_build_and_queue served
      exact ⟨build, queue.trans front⟩

/-- Settles O5: a step runs the front command, or an access that waited, and neither reaches the build or the queue. -/
theorem buildNeverChanges : Obligations.BuildNeverChanges :=
  fun _ _ => step_keeps_build_and_tail

end Sys2Proof.Machine
end

section
/-! SUPPORT. Frames (R98): a command changes no part of the state but those that `mayChange` names. -/

namespace Sys2Proof.Machine

/-- The mask of the parts that a command may change. -/
def frameOf (i : Instr) (p : StatePart) : Bool := decide (p ∈ mayChange i)

/-- Of a command that may change every part, nothing is left to say. -/
theorem frame_of_whole {i : Instr} (whole : ∀ p, p ∈ mayChange i) {p : StatePart} (unnamed : p ∉ mayChange i) {s t : State} :
    view (frameOf i) t = view (frameOf i) s :=
  absurd (whole p) unnamed

theorem mem_all_parts (p : StatePart) : p ∈ mayChange .coldReset := by
  cases p <;> decide

/-- Outside the parts named for it a command leaves the state alike: the frame of its own meaning, in the order of the dispatch. -/
theorem frame_exec {i : Instr} {s t : State} (h : exec i s = .next t) {p : StatePart} (unnamed : p ∉ mayChange i) :
    view (frameOf i) t = view (frameOf i) s := by
  unfold exec at h
  split at h
  exacts [view_execSysInfo (h := h) rfl rfl rfl rfl rfl, view_execSysAdminqSet (h := h) rfl rfl rfl rfl rfl, view_execSysResetWarm (h := h) rfl rfl
    rfl rfl rfl rfl, view_execSysResetCold (h := h) rfl rfl rfl rfl rfl rfl, view_execSysResetSlice (h := h) rfl rfl rfl rfl rfl rfl rfl rfl rfl rfl
    rfl rfl rfl, view_execSysResetCtl (h := h) rfl rfl rfl rfl rfl rfl rfl rfl rfl rfl rfl rfl, view_execSysEventCfg (h := h) rfl rfl rfl rfl rfl rfl,
    view_execSysJournalStatus (h := h) rfl rfl rfl rfl rfl, view_execSysNop (h := h) rfl rfl rfl rfl rfl, view_execSysPatchLoad (h := h) rfl rfl rfl
    rfl rfl rfl, view_execQuadOpen (h := h) rfl rfl rfl rfl rfl rfl rfl, view_execQuadCheck (h := h) rfl rfl rfl rfl rfl rfl rfl rfl rfl rfl rfl rfl
    rfl rfl rfl rfl rfl rfl rfl rfl, view_execQuadApplyNow (h := h) rfl rfl rfl rfl rfl rfl rfl rfl rfl rfl rfl rfl rfl rfl rfl rfl rfl rfl rfl rfl,
    view_execQuadApplyAtTime (h := h) rfl rfl rfl rfl rfl rfl rfl rfl rfl rfl rfl rfl rfl rfl rfl rfl rfl rfl rfl rfl, view_execQuadApplyAtDomain (h
    := h) rfl rfl rfl rfl rfl rfl rfl rfl rfl rfl rfl rfl rfl rfl rfl rfl rfl rfl rfl rfl rfl, view_execQuadAbort (h := h) rfl rfl rfl rfl rfl rfl rfl
    rfl rfl rfl rfl rfl rfl rfl, view_execQuadStatus (h := h) rfl rfl rfl rfl rfl rfl, view_execPortCfg (h := h) rfl rfl rfl rfl rfl rfl rfl rfl rfl
    rfl rfl rfl rfl rfl rfl rfl rfl rfl rfl, view_execPortAdminUp (h := h) rfl rfl rfl rfl rfl rfl rfl, view_execPortAdminDown (h := h) rfl rfl rfl
    rfl rfl rfl rfl rfl rfl rfl rfl rfl rfl rfl rfl rfl rfl, view_execPortStatus (h := h) rfl rfl rfl rfl rfl, view_execPortCounters (h := h) rfl rfl
    rfl rfl rfl rfl rfl, view_execPortFc (h := h) rfl rfl rfl rfl rfl rfl rfl rfl rfl rfl rfl rfl rfl rfl rfl rfl rfl rfl rfl, view_execPortPreempt (h
    := h) rfl rfl rfl rfl rfl rfl rfl rfl rfl rfl rfl rfl rfl rfl rfl rfl rfl rfl rfl, view_execPortEee (h := h) rfl rfl rfl rfl rfl rfl rfl rfl rfl
    rfl rfl rfl rfl rfl rfl rfl rfl rfl rfl, view_execPortWakeFilter (h := h) rfl rfl rfl rfl rfl rfl rfl rfl rfl rfl rfl rfl rfl rfl rfl rfl rfl rfl
    rfl, view_execPortLinkHold (h := h) rfl rfl rfl rfl rfl rfl rfl rfl rfl rfl rfl rfl rfl rfl rfl rfl rfl rfl rfl, view_execParseNodeSet (h := h)
    rfl rfl rfl rfl rfl rfl rfl rfl rfl rfl rfl rfl rfl rfl rfl rfl rfl rfl rfl, view_execParseNodeGet (h := h) rfl rfl rfl rfl rfl,
    view_execParseGraphDefault (h := h) rfl rfl rfl rfl rfl rfl rfl rfl rfl rfl rfl rfl rfl rfl rfl rfl rfl rfl rfl, view_execParseCounters (h := h)
    rfl rfl rfl rfl rfl rfl, view_execTableCreate (h := h) rfl rfl rfl rfl rfl rfl rfl, view_execTableDelete (h := h) rfl rfl rfl rfl rfl rfl,
    view_execEntryWrite (h := h) rfl rfl rfl rfl rfl rfl rfl rfl rfl rfl rfl rfl rfl rfl rfl rfl rfl rfl rfl rfl, view_execEntryDelete (h := h) rfl
    rfl rfl rfl rfl rfl rfl rfl rfl rfl rfl rfl rfl rfl rfl rfl rfl rfl rfl rfl, view_execEntryRead (h := h) rfl rfl rfl rfl rfl,
    view_execKeyProfileSet (h := h) rfl rfl rfl rfl rfl rfl rfl rfl rfl rfl rfl rfl rfl rfl rfl rfl rfl rfl rfl, view_execTableDump (h := h) rfl rfl
    rfl rfl rfl, view_execProgLoad (h := h) rfl rfl rfl rfl rfl rfl rfl, view_execProgUnload (h := h) rfl rfl rfl rfl rfl rfl, view_execProgBindMap (h
    := h) rfl rfl rfl rfl rfl rfl rfl rfl rfl rfl rfl rfl rfl rfl rfl rfl rfl rfl rfl, view_execProgBindDefault (h := h) rfl rfl rfl rfl rfl rfl rfl
    rfl rfl rfl rfl rfl rfl rfl rfl rfl rfl rfl rfl, view_execEngineStatus (h := h) rfl rfl rfl rfl rfl rfl, view_execEngineReset (h := h) rfl rfl rfl
    rfl rfl rfl rfl rfl rfl rfl rfl rfl rfl rfl rfl rfl rfl rfl rfl rfl, view_execConstSet (h := h) rfl rfl rfl rfl rfl rfl rfl rfl rfl rfl rfl rfl
    rfl rfl rfl rfl rfl rfl rfl, view_execScratchRead (h := h) rfl rfl rfl rfl rfl rfl, view_execPoolCreate (h := h) rfl rfl rfl rfl rfl rfl rfl,
    view_execPoolDelete (h := h) rfl rfl rfl rfl rfl rfl, view_execFlowMinSet (h := h) rfl rfl rfl rfl rfl rfl rfl rfl rfl rfl rfl rfl rfl rfl rfl rfl
    rfl rfl rfl, view_execSharedLimitSet (h := h) rfl rfl rfl rfl rfl rfl rfl rfl rfl rfl rfl rfl rfl rfl rfl rfl rfl rfl rfl, view_execBufStatus (h
    := h) rfl rfl rfl rfl rfl rfl, view_execCutThroughSet (h := h) rfl rfl rfl rfl rfl rfl rfl rfl rfl rfl rfl rfl rfl rfl rfl rfl rfl rfl rfl,
    view_execVlanSetVlan (h := h) rfl rfl rfl rfl rfl rfl rfl rfl rfl rfl rfl rfl rfl rfl rfl rfl rfl rfl rfl, view_execVlanSetPort (h := h) rfl rfl
    rfl rfl rfl rfl rfl rfl rfl rfl rfl rfl rfl rfl rfl rfl rfl rfl rfl, view_execMacAdd (h := h) rfl rfl rfl rfl rfl rfl rfl rfl rfl rfl rfl rfl rfl
    rfl rfl rfl rfl rfl rfl rfl, view_execMacDelete (h := h) rfl rfl rfl rfl rfl rfl rfl rfl rfl rfl rfl rfl rfl rfl rfl rfl rfl rfl rfl rfl,
    view_execMacFlush (h := h) rfl rfl rfl rfl rfl rfl rfl rfl rfl rfl, view_execLearnCfgGlobal (h := h) rfl rfl rfl rfl rfl rfl rfl rfl rfl rfl rfl
    rfl rfl rfl rfl rfl rfl rfl rfl rfl, view_execLearnCfgPort (h := h) rfl rfl rfl rfl rfl rfl rfl rfl rfl rfl rfl rfl rfl rfl rfl rfl rfl rfl rfl,
    view_execMcastGroupSet (h := h) rfl rfl rfl rfl rfl rfl rfl rfl rfl rfl rfl rfl rfl rfl rfl rfl rfl rfl rfl, view_execLagSet (h := h) rfl rfl rfl
    rfl rfl rfl rfl rfl rfl rfl rfl rfl rfl rfl rfl rfl rfl rfl rfl rfl, view_execMacDump (h := h) rfl rfl rfl rfl rfl, view_execQueueMapSet (h := h)
    rfl rfl rfl rfl rfl rfl rfl rfl rfl rfl rfl rfl rfl rfl rfl rfl rfl rfl rfl, view_execSchedSet (h := h) rfl rfl rfl rfl rfl rfl rfl rfl rfl rfl
    rfl rfl rfl rfl rfl rfl rfl rfl rfl, view_execShaperSet (h := h) rfl rfl rfl rfl rfl rfl rfl rfl rfl rfl rfl rfl rfl rfl rfl rfl rfl rfl rfl,
    view_execPolicerSet (h := h) rfl rfl rfl rfl rfl rfl rfl rfl rfl rfl rfl rfl rfl rfl rfl rfl rfl rfl rfl, view_execStreamFilterSet (h := h) rfl
    rfl rfl rfl rfl rfl rfl rfl rfl rfl rfl rfl rfl rfl rfl rfl rfl rfl rfl, view_execSampleCfg (h := h) rfl rfl rfl rfl rfl rfl rfl rfl rfl rfl rfl
    rfl rfl rfl rfl rfl rfl rfl rfl, view_execTmStatus (h := h) rfl rfl rfl rfl rfl rfl rfl, view_execGateListSet (h := h) rfl rfl rfl rfl rfl rfl rfl
    rfl rfl rfl rfl rfl rfl rfl rfl rfl rfl rfl rfl, view_execGateEnableOn (h := h) rfl rfl rfl rfl rfl rfl rfl rfl rfl rfl rfl rfl rfl rfl rfl rfl
    rfl rfl rfl, view_execGateEnableOff (h := h) rfl rfl rfl rfl rfl rfl rfl rfl rfl rfl rfl rfl rfl rfl rfl rfl rfl rfl rfl, view_execGateStatus (h
    := h) rfl rfl rfl rfl rfl rfl, view_execGateOverheadSet (h := h) rfl rfl rfl rfl rfl rfl rfl rfl rfl rfl rfl rfl rfl rfl rfl rfl rfl rfl rfl,
    view_execFlowAdd (h := h) rfl rfl rfl rfl rfl rfl rfl rfl rfl rfl rfl rfl rfl rfl rfl rfl rfl rfl rfl rfl, view_execFlowModify (h := h) rfl rfl
    rfl rfl rfl rfl rfl rfl rfl rfl rfl rfl rfl rfl rfl rfl rfl rfl rfl, view_execFlowDelete (h := h) rfl rfl rfl rfl rfl rfl rfl rfl rfl rfl rfl rfl
    rfl rfl rfl rfl rfl rfl rfl rfl, view_execFlowRead (h := h) rfl rfl rfl rfl rfl, view_execFlowCounters (h := h) rfl rfl rfl rfl rfl rfl rfl,
    view_execPrpHsrSet (h := h) rfl rfl rfl rfl rfl rfl rfl rfl rfl rfl rfl rfl rfl rfl rfl rfl rfl rfl rfl, view_execStampPortCfg (h := h) rfl rfl
    rfl rfl rfl rfl rfl rfl rfl rfl rfl rfl rfl rfl rfl rfl rfl rfl rfl, view_execCalRecordSet (h := h) rfl rfl rfl rfl rfl rfl, view_execCalRun (h :=
    h) rfl rfl rfl rfl rfl rfl, view_execPtpPortCfg (h := h) rfl rfl rfl rfl rfl rfl rfl rfl rfl rfl rfl rfl rfl rfl rfl rfl rfl rfl rfl rfl,
    view_execTimerSet (h := h) rfl rfl rfl rfl rfl rfl, view_execPpsCfg (h := h) rfl rfl rfl rfl rfl rfl, view_execSyntCfg (h := h) rfl rfl rfl rfl
    rfl rfl, view_execSezalCfg (h := h) rfl rfl rfl rfl rfl rfl rfl rfl rfl rfl rfl rfl rfl, view_execDomainPortSet (h := h) rfl rfl rfl rfl rfl rfl
    rfl rfl rfl rfl rfl rfl rfl rfl rfl rfl rfl rfl rfl rfl rfl, view_execSezalStatus (h := h) rfl rfl rfl rfl rfl rfl, view_execSezalMembers (h := h)
    rfl rfl rfl rfl rfl, view_execSezalResyncFollow (h := h) rfl rfl rfl rfl rfl rfl rfl rfl, view_execSezalResyncForceApply (h := h) rfl rfl rfl rfl
    rfl rfl rfl, view_execSezalResyncForceDiscard (h := h) rfl rfl rfl rfl rfl rfl rfl rfl rfl rfl rfl rfl, view_execKeeperPrioSet (h := h) rfl rfl
    rfl rfl rfl rfl rfl rfl rfl, view_execRingCreate (h := h) rfl rfl rfl rfl rfl rfl, view_execQpCreate (h := h) rfl rfl rfl rfl rfl rfl,
    view_execCqCreate (h := h) rfl rfl rfl rfl rfl rfl, view_execQueueDisable (h := h) rfl rfl rfl rfl rfl, view_execQueueEnable (h := h) rfl rfl rfl
    rfl rfl rfl rfl rfl, view_execQueueDestroy (h := h) rfl rfl rfl rfl rfl, view_execQueueReset (h := h) rfl rfl rfl rfl rfl rfl rfl rfl rfl,
    view_execQueueStatus (h := h) rfl rfl rfl rfl rfl rfl, view_execRxFilterSet (h := h) rfl rfl rfl rfl rfl rfl rfl rfl rfl rfl rfl rfl rfl rfl rfl
    rfl rfl rfl rfl, view_execRssSet (h := h) rfl rfl rfl rfl rfl rfl rfl rfl rfl rfl rfl rfl rfl rfl rfl rfl rfl rfl rfl, view_execOffloadSet (h :=
    h) rfl rfl rfl rfl rfl rfl rfl rfl rfl rfl rfl rfl rfl rfl rfl rfl rfl rfl rfl, view_execPwrStateSet (h := h) rfl rfl rfl rfl rfl rfl rfl rfl rfl,
    view_execHibernate (h := h) rfl rfl rfl rfl rfl rfl rfl rfl rfl, view_execWakeSrcSet (h := h) rfl rfl rfl rfl rfl rfl, view_execPwrStatus (h := h)
    rfl rfl rfl rfl rfl rfl rfl rfl, view_execDrainLimitSet (h := h) rfl rfl rfl rfl rfl rfl, view_execBadgerCfg (h := h) rfl rfl rfl rfl rfl rfl,
    view_execBadgerWindow (h := h) rfl rfl rfl rfl rfl rfl, view_execBadgerRun (h := h) rfl rfl rfl rfl rfl rfl rfl rfl rfl rfl rfl rfl rfl rfl rfl
    rfl rfl rfl rfl rfl, view_execBadgerStatus (h := h) rfl rfl rfl rfl rfl, view_execLoopbackCal (h := h) rfl rfl rfl rfl rfl rfl,
    view_execFoxtrotRingSet (h := h) rfl rfl rfl rfl rfl rfl, view_execCapRuleSet (h := h) rfl rfl rfl rfl rfl rfl rfl rfl rfl rfl rfl rfl rfl rfl rfl
    rfl rfl rfl rfl, view_execMirrorSet (h := h) rfl rfl rfl rfl rfl rfl rfl rfl rfl rfl rfl rfl rfl rfl rfl rfl rfl rfl rfl, view_execCapEnable (h :=
    h) rfl rfl rfl rfl rfl rfl rfl rfl rfl rfl rfl rfl rfl rfl rfl rfl rfl rfl rfl, view_execMemRead (h := h) rfl rfl rfl rfl rfl rfl,
    view_execErrCounters (h := h) rfl rfl rfl rfl rfl rfl, view_execFaultLog (h := h) rfl rfl rfl rfl rfl, view_execIsolate (h := h) rfl rfl rfl rfl
    rfl rfl rfl rfl rfl rfl rfl rfl, view_execRestore (h := h) rfl rfl rfl rfl rfl rfl rfl rfl rfl rfl rfl rfl rfl, view_execOsysInfo (h := h) rfl rfl
    rfl rfl rfl, view_execOsysStatus (h := h) rfl rfl rfl rfl rfl rfl, view_execOtimeRead (h := h) rfl rfl rfl rfl rfl, view_execOtimeSetInc (h := h)
    rfl rfl rfl rfl rfl rfl, view_execOtimeStep (h := h) rfl rfl rfl rfl rfl rfl, view_execOtimeAuthority (h := h) rfl rfl rfl rfl rfl rfl rfl,
    view_execOmapSet (h := h) rfl rfl rfl rfl rfl rfl rfl rfl rfl, view_execOmapRead (h := h) rfl rfl rfl rfl rfl, view_execOmapClear (h := h) rfl rfl
    rfl rfl rfl rfl rfl rfl rfl, view_execOrecordRingSet (h := h) rfl rfl rfl rfl rfl rfl, view_execOrecordInterval (h := h) rfl rfl rfl rfl rfl rfl
    rfl, view_execOrecordStatus (h := h) rfl rfl rfl rfl rfl, view_execOsealStatus (h := h) rfl rfl rfl rfl rfl, view_execOsealSeal (h := h) rfl rfl
    rfl rfl rfl rfl rfl, view_execOsealUnseal (h := h) rfl rfl rfl rfl rfl rfl rfl rfl, view_execOlogRead (h := h) rfl rfl rfl rfl rfl,
    view_execOlogAck (h := h) rfl rfl rfl rfl rfl rfl rfl, view_execMbGo (h := h) rfl rfl rfl, view_execMbAck (h := h) rfl rfl rfl,
    view_execMbCmdWrite (h := h) rfl rfl rfl, view_execMbCommandDone (h := h) rfl rfl rfl rfl rfl rfl rfl rfl rfl rfl rfl rfl, view_execOmbGo (h := h)
    rfl rfl rfl rfl rfl rfl, view_execOmbAck (h := h) rfl rfl, view_execOringConsWrite (h := h) rfl rfl rfl rfl rfl, view_execSnapTimeLoRead (h := h)
    rfl rfl, view_execPpsGlitchRead (h := h) rfl rfl, frame_of_whole mem_all_parts unnamed, view_execSqDb (h := h) rfl rfl rfl rfl rfl rfl rfl, view_execCqDb (h := h) rfl
    rfl rfl rfl rfl rfl rfl, view_execEntryFetch (h := h) rfl rfl rfl rfl rfl rfl, view_execPhaseRetry (h := h) rfl rfl rfl rfl rfl rfl, view_execTx
    (h := h) rfl rfl rfl rfl rfl rfl, view_execNop (h := h) rfl, view_execAlloc (h := h) rfl rfl rfl rfl rfl rfl rfl, view_execShare (h := h) rfl rfl
    rfl, view_execRelease (h := h) rfl rfl rfl, view_execHandover (h := h) rfl rfl rfl, view_execFree (h := h) rfl rfl rfl, view_execHeadWb (h := h)
    rfl rfl, view_execHeadWbAck (h := h) rfl, view_execCompletionWrite (h := h) rfl rfl rfl rfl rfl rfl rfl rfl rfl, view_execCompletionAck (h := h)
    rfl rfl rfl rfl rfl rfl rfl rfl rfl rfl rfl rfl rfl rfl rfl, view_execTxHostInject (h := h) rfl rfl rfl rfl rfl rfl rfl, view_execRxDispatch (h :=
    h) rfl rfl rfl rfl rfl rfl rfl rfl rfl rfl, view_execRxWaitExpiry (h := h) rfl rfl rfl rfl rfl rfl rfl rfl rfl rfl, view_execRxFrame (h := h) rfl
    rfl rfl rfl rfl rfl rfl, view_execStrayWord (h := h) rfl, view_execPauseExpiry (h := h) rfl, view_execDenDrain (h := h) rfl rfl rfl rfl rfl rfl,
    view_execClassify (h := h) rfl rfl rfl rfl rfl rfl rfl rfl rfl rfl rfl rfl rfl rfl rfl rfl rfl rfl, view_execCellWrite (h := h) rfl rfl rfl rfl
    rfl rfl rfl rfl rfl, view_execXoffRefresh (h := h) rfl, view_execAdmit (h := h) rfl rfl rfl rfl rfl rfl rfl rfl rfl rfl rfl rfl rfl rfl rfl,
    view_execHandoff (h := h) rfl rfl rfl rfl rfl rfl rfl rfl rfl rfl rfl rfl rfl rfl rfl, view_execGapTimeout (h := h) rfl rfl rfl rfl rfl rfl rfl
    rfl rfl rfl, view_execSchedRelease (h := h) rfl rfl rfl rfl rfl rfl rfl rfl rfl rfl rfl rfl rfl rfl rfl rfl rfl rfl rfl rfl rfl, view_execE3Pass
    (h := h) rfl rfl rfl rfl rfl rfl rfl rfl rfl rfl rfl rfl rfl, view_execTxStart (h := h) rfl rfl rfl rfl rfl, view_execTxDone (h := h) rfl rfl rfl
    rfl rfl rfl rfl rfl rfl, view_execTxStomp (h := h) rfl rfl rfl rfl rfl rfl rfl rfl rfl, view_execTxHint (h := h) rfl rfl, view_execHintMissing (h
    := h) rfl rfl, view_execStall (h := h) rfl, view_execDoneLogConsume (h := h) rfl rfl rfl rfl rfl rfl, view_execSliceCoreRecover (h := h) rfl rfl
    rfl rfl rfl rfl rfl rfl rfl rfl rfl, view_execAgeScan (h := h) rfl rfl rfl rfl rfl rfl rfl rfl rfl rfl, view_execLpiEnter (h := h) rfl rfl,
    view_execLpiExit (h := h) rfl rfl rfl, view_execPreemptVerify (h := h) rfl, view_execLinkFault (h := h) rfl rfl rfl rfl rfl rfl rfl rfl rfl rfl
    rfl rfl rfl rfl, view_execLinkFaultClear (h := h) rfl rfl, view_execLinkUp (h := h) rfl rfl rfl, view_execLinkHoldExpiry (h := h) rfl rfl rfl rfl
    rfl rfl rfl rfl rfl rfl rfl, view_execLearnApply (h := h) rfl rfl rfl rfl rfl rfl, view_execMacAgeScan (h := h) rfl, view_execFreezeExpiry (h :=
    h) rfl, view_execMcastStoreExpiry (h := h) rfl, view_execSample (h := h) rfl rfl rfl rfl, view_execFoxtrotRecordWrite (h := h) rfl rfl rfl rfl
    rfl, view_execFoxtrotConsPoll (h := h) rfl rfl, view_execCoalesceTimer (h := h) rfl rfl rfl rfl rfl, view_execOwlTick (h := h) rfl rfl rfl rfl rfl
    rfl rfl rfl rfl rfl rfl, view_execServoInc (h := h) rfl rfl rfl, view_execServoStep (h := h) rfl rfl rfl, view_execTimerFire (h := h) rfl rfl rfl
    rfl rfl, view_execPpsInEdge (h := h) rfl rfl rfl rfl, view_execPpsOutEdge (h := h) rfl rfl, view_execPpsOutFall (h := h) rfl, view_execCalEval (h
    := h) rfl rfl rfl rfl rfl rfl, view_execThermEval (h := h) rfl rfl rfl rfl rfl, view_execCalRequestRx (h := h) rfl rfl, view_execCalRequestTx (h
    := h) rfl rfl, view_execCalReplyRx (h := h) rfl rfl rfl rfl rfl rfl rfl, view_execCalExchangeTimeout (h := h) rfl, view_execCalFail (h := h) rfl
    rfl rfl rfl, view_execQuadArmed (h := h) rfl rfl rfl rfl rfl rfl rfl rfl rfl rfl rfl rfl rfl rfl rfl rfl rfl rfl rfl rfl, view_execQuadFlip (h :=
    h) rfl rfl rfl rfl rfl rfl rfl rfl rfl rfl rfl rfl rfl rfl rfl rfl rfl rfl, view_execNormalise (h := h) rfl rfl rfl rfl rfl rfl rfl,
    view_execQuadIdleLimit (h := h) rfl rfl rfl rfl rfl rfl rfl, view_execGateListStart (h := h) rfl rfl rfl rfl, view_execGateEntry (h := h) rfl rfl
    rfl, view_execHoldAssert (h := h) rfl rfl rfl, view_execHelloTx (h := h) rfl rfl rfl, view_execHelloRx (h := h) rfl rfl rfl rfl rfl rfl,
    view_execAdjacencyTimeout (h := h) rfl rfl rfl rfl rfl, view_execMemberTx (h := h) rfl rfl rfl, view_execMemberRx (h := h) rfl rfl rfl rfl rfl rfl
    rfl, view_execLeaveRx (h := h) rfl rfl rfl rfl rfl rfl rfl, view_execMemberAge (h := h) rfl rfl rfl rfl rfl, view_execSyncReqTx (h := h) rfl rfl
    rfl, view_execSyncReqRx (h := h) rfl rfl rfl, view_execSyncRespRx (h := h) rfl rfl rfl rfl rfl rfl rfl rfl, view_execHoldoverExpiry (h := h) rfl
    rfl rfl rfl rfl, view_execProposeRepeat (h := h) rfl rfl rfl, view_execProposeRx (h := h) rfl rfl rfl rfl rfl rfl rfl rfl rfl rfl rfl rfl rfl rfl
    rfl rfl rfl rfl, view_execVoteRepeat (h := h) rfl rfl rfl, view_execVoteRx (h := h) rfl rfl rfl rfl rfl rfl rfl rfl rfl rfl, view_execVoteDeadline
    (h := h) rfl rfl rfl rfl rfl rfl rfl rfl rfl rfl, view_execOutcomeRepeat (h := h) rfl rfl rfl, view_execOutcomeRx (h := h) rfl rfl rfl rfl rfl rfl
    rfl rfl rfl rfl rfl rfl rfl rfl, view_execOutcomeQueryRx (h := h) rfl rfl rfl, view_execApplyTimeNoOutcome (h := h) rfl rfl rfl rfl rfl rfl rfl
    rfl, view_execIntervalBoundary (h := h) rfl rfl rfl rfl rfl rfl, view_execTapSummary (h := h) rfl rfl, view_execOtdRecordWriteAck (h := h) rfl rfl
    rfl rfl, view_execOtdRecordRetry (h := h) rfl rfl rfl rfl rfl, view_execUnsealBlockExpiry (h := h) rfl, view_execSealSwitchChange (h := h) rfl rfl
    rfl rfl, view_execOtdPowerOn (h := h) rfl rfl rfl rfl rfl, view_execKeyWord (h := h) rfl rfl rfl rfl rfl, view_execKeyTimeout (h := h) rfl rfl rfl
    rfl rfl, frame_of_whole mem_all_parts unnamed, frame_of_whole mem_all_parts unnamed, view_execWarmReset (h := h) rfl rfl rfl rfl rfl rfl rfl rfl rfl rfl rfl rfl rfl rfl rfl rfl rfl rfl rfl
    rfl rfl rfl rfl rfl, view_execBoot (h := h) rfl rfl rfl rfl rfl, frame_of_whole mem_all_parts unnamed, view_execDebugEnChange (h := h) rfl, view_execVretLost (h := h)
    rfl rfl rfl rfl rfl rfl rfl, view_execPllFault (h := h) rfl rfl rfl rfl rfl rfl, view_execBrownOut (h := h) rfl rfl rfl rfl, view_execBrownOutEnd
    (h := h) rfl rfl rfl rfl, view_execWakeReq (h := h) rfl rfl, view_execRetryFailed (h := h) rfl rfl, view_execBoAck (h := h) rfl rfl,
    view_execAutoSleepAsk (h := h) rfl rfl rfl rfl rfl rfl rfl rfl rfl, view_execAskAnswer (h := h) rfl rfl rfl rfl rfl rfl rfl, view_execDrainTimeout
    (h := h) rfl rfl rfl rfl rfl rfl rfl, view_execBadgerDelayEnd (h := h) rfl rfl rfl rfl rfl rfl, view_execSleepEntry (h := h) rfl, view_execPswLate
    (h := h) rfl, view_execWake (h := h) rfl rfl rfl rfl rfl rfl rfl rfl rfl rfl rfl rfl rfl rfl rfl rfl rfl rfl rfl rfl rfl rfl rfl rfl rfl,
    view_execPswAck (h := h) rfl rfl rfl rfl rfl rfl rfl rfl rfl rfl rfl rfl rfl rfl rfl rfl rfl rfl rfl rfl rfl rfl rfl rfl rfl, view_execRegReady (h
    := h) rfl rfl rfl rfl rfl rfl rfl rfl rfl rfl rfl rfl rfl rfl rfl rfl rfl rfl rfl rfl rfl rfl rfl rfl rfl, view_execPllLock (h := h) rfl rfl rfl
    rfl rfl rfl rfl rfl rfl rfl rfl rfl rfl rfl rfl rfl rfl rfl rfl rfl rfl rfl rfl rfl rfl, view_execWakeTimeout (h := h) rfl rfl rfl rfl rfl rfl rfl
    rfl rfl rfl rfl rfl rfl rfl rfl rfl rfl rfl rfl rfl rfl rfl rfl rfl, view_execOwlLatchEdge (h := h) rfl rfl rfl, view_execDmaGo (h := h) rfl rfl
    rfl, view_execDmaShadowWrite (h := h) rfl rfl rfl, view_execDmaLoad (h := h) rfl rfl rfl rfl, view_execDmaZeroLenDone (h := h) rfl rfl rfl rfl,
    view_execDmaBurstResponse (h := h) rfl rfl rfl rfl, view_execDmaAbort (h := h) rfl rfl rfl, view_execDmaResume (h := h) rfl rfl rfl rfl,
    view_execDmaClear (h := h) rfl rfl rfl, view_execChCauseRead (h := h) rfl rfl rfl, view_execSliceCauseRead (h := h) rfl rfl rfl rfl,
    view_execSliceLinkRead (h := h) rfl rfl rfl, view_execEventTake (h := h) rfl, view_execEventEoi (h := h) rfl, view_execClaim (h := h) rfl rfl rfl
    rfl, view_execEoi (h := h) rfl rfl rfl rfl, view_execPendSet (h := h) rfl rfl rfl rfl, view_execPendClr (h := h) rfl rfl rfl rfl, view_execEnSet
    (h := h) rfl rfl rfl rfl, view_execEnClr (h := h) rfl rfl rfl rfl, view_execSrcCfgWrite (h := h) rfl rfl rfl rfl, view_execPrivPendSet (h := h)
    rfl rfl rfl rfl, view_execPrivPendClr (h := h) rfl rfl rfl rfl, view_execPrivEnSet (h := h) rfl rfl rfl rfl, view_execPrivEnClr (h := h) rfl rfl
    rfl rfl, view_execTargetCountsRead (h := h) rfl rfl rfl, view_execTgtAwakeChange (h := h) rfl rfl, view_execWakeWaitExpiry (h := h) rfl rfl,
    view_execMsgWriteRetry (h := h) rfl rfl, view_execBadgerSlot (h := h) rfl rfl rfl rfl rfl rfl rfl rfl rfl rfl rfl rfl rfl rfl rfl rfl rfl rfl,
    view_execBadgerOverdue (h := h) rfl rfl rfl rfl, view_execBadgerWindowEnd (h := h) rfl, view_execRelocateDone (h := h) rfl rfl rfl rfl rfl,
    view_execRebuildDone (h := h) rfl rfl rfl rfl rfl rfl rfl, view_execEngineFault (h := h) rfl rfl rfl rfl rfl rfl rfl rfl rfl rfl rfl rfl rfl rfl
    rfl rfl rfl rfl, view_execEngineResetDone (h := h) rfl rfl rfl rfl rfl rfl, view_execSliceCoreFault (h := h) rfl rfl rfl rfl rfl rfl rfl rfl rfl
    rfl rfl rfl rfl, view_execLockstepMismatch (h := h) rfl rfl rfl rfl rfl rfl rfl rfl rfl rfl rfl, view_execCtlRestartDone (h := h) rfl rfl rfl rfl
    rfl, view_execControlRamFault (h := h) rfl rfl rfl rfl rfl rfl, view_execVretGoodRestored (h := h) rfl, view_execTestAccess (h := h) rfl rfl rfl
    rfl rfl, view_execResyncFollowTimeout (h := h) rfl rfl rfl rfl rfl rfl, view_execDuplicateEntryForget (h := h) rfl, view_execPartnerLpi (h := h)
    rfl rfl]

/-- Settles O6: states that look alike outside the named parts agree on every part that is not named. -/
theorem everyCommandKeepsItsFrame : Obligations.EveryCommandKeepsItsFrame :=
  fun _ _ _ _ h unnamed => agree_of_view (frame_exec h unnamed) _ (decide_eq_false unnamed)

end Sys2Proof.Machine
end

section
/-! SUPPORT. Refusals (R97, R98): a command answers a refusal and nothing else, or takes its effect, or does not answer yet. -/

namespace Sys2Proof.Machine

/-- What a command of an opcode can make of a state: the response alone, its effect with OK or TIME_ADJUSTED, or, for a command whose turn has not come
or whose response is still owed, no response. -/
inductive Answers (op : Nat) (e : Env) (s : State) : State → Prop
  | alone (v : Verdict) : Answers op e s (respond e op v s)
  | tookEffect (v : Verdict) (u : State) (took : tookEffect v.status = true) : Answers op e s (respond e op v u)
  | silent (t : State) (mailbox : e.path = .mailbox → t.mb.ready = s.mb.ready) (otd : e.path = .otd → t.otd.done = s.otd.done) : Answers op e s t

section
variable {op : Nat} {len : Nat → Bool} {chk : Chk} {e : Env} {s : State}

theorem Answers.waits : Answers op e s s := .silent s (fun _ => rfl) (fun _ => rfl)

theorem answers_ifTurn {f : State → State} (h : Answers op e s (f s)) : Answers op e s (ifTurn e f s) := by
  unfold ifTurn
  split
  · exact h
  · exact .waits

theorem answers_runCmd {eff : State → State} (h : cmdVerdict op len chk e s = none → Answers op e s (eff s)) : Answers op e s (runCmd op len chk e eff s) := by
  refine answers_ifTurn ?_
  split
  · exact .alone _
  · next passed => exact h passed

theorem answers_runOk (data : State → List Byte) (eff : State → State) : Answers op e s (runOk op len chk e data eff s) :=
  answers_runCmd fun _ => .tookEffect _ _ rfl

theorem answers_runStagedV {i : Instr} {claims : List Claim} {table : Bool} {chk : State → Chk} {atStage : State → State} {stagedData : List Byte}
    {imm : State → State × Verdict} (took : ∀ s, tookEffect (imm s).2.status = true) :
    Answers op e s (runStagedV i op len claims table chk atStage stagedData imm e s) := by
  unfold runStagedV
  refine answers_ifTurn ?_
  split
  · exact .alone _
  · split
    · exact .tookEffect _ _ rfl
    · exact .tookEffect _ _ (took s)

theorem answers_runStaged (i : Instr) (claims : List Claim) (chk : State → Chk) (side : State → State) :
    Answers op e s (runStaged i op len claims chk side e s) :=
  answers_runStagedV fun _ => rfl

theorem answers_runOtd (fields : List (Nat × Bool)) (more : List (Option Verdict)) (eff : State → State × List Byte) :
    Answers op e s (runOtd op len fields more eff e s) := by
  unfold runOtd
  split
  · exact .alone _
  · exact .tookEffect _ _ rfl

/-! The path that a command whose checks pass has come on (R86). -/

theorem firstOf_cons_eq_none {o : Option Verdict} {l : List (Option Verdict)} : firstOf (o :: l) = none ↔ o = none ∧ firstOf l = none := by
  cases o <;> simp [firstOf]

theorem unlessOk_eq_none {ok : Bool} {v : Verdict} : unlessOk ok v = none ↔ ok = true := by
  cases ok <;> simp [unlessOk]

/-- A command below class 0x80 that passes its checks has not come on Otdiuri's mailbox. -/
theorem path_ne_otd_of_passed (passed : cmdVerdict op len chk e s = none) (below : op < 0x8000) : e.path ≠ .otd := by
  rw [cmdVerdict, firstOf_cons_eq_none, envVerdict, firstOf_cons_eq_none, pathVerdict, unlessOk_eq_none] at passed
  obtain ⟨⟨fits, -⟩, -⟩ := passed
  intro otd
  simp [otd, Nat.not_le.mpr below] at fits

end

/-- What looks alike outside the boot mailbox's mask has the same boot mailbox. -/
theorem mb_of_view {s t : State} (h : view (fun p => p != .mb) t = view (fun p => p != .mb) s) : t.mb = s.mb :=
  agree_of_view h .mb rfl

/-! The commands that are no plain runs: those that may refuse past their checks, those whose response is owed, and those that may adjust a time. -/

section
variable (e : Env) (s : State)

theorem answers_execSysResetSlice {t : State} (h : execSysResetSlice e s = .next t) : Answers 0x0103 e s t := by
  cases h
  exact answers_runCmd fun passed => .silent _ (fun _ => congrArg Mailbox.ready (mb_of_view (by simp)))
    (fun otd => absurd otd (path_ne_otd_of_passed passed (by decide)))

/-- On the mailbox the reset of the control pair waits for the response to be taken (R501). -/
theorem answers_execSysResetCtl {t : State} (h : execSysResetCtl e s = .next t) : Answers 0x0103 e s t := by
  cases h
  refine answers_runCmd fun passed => ?_
  have notOtd := path_ne_otd_of_passed passed (by decide)
  cases path : e.path with
  | otd => exact absurd path notOtd
  | admin i => exact .silent _ (fun mailbox => nomatch path.symm.trans mailbox) (fun otd => absurd otd notOtd)
  | mailbox =>
    have stays : ctlDue (askReset 3 0x0103 e s) = askReset 3 0x0103 e s := by
      simp [ctlDue, askReset, respond, path, delivered]
    rw [stays]
    exact .tookEffect _ _ rfl

theorem answers_execSysPatchLoad {t : State} (h : execSysPatchLoad e s = .next t) : Answers 0x0107 e s t := by
  cases h
  refine answers_runCmd fun _ => ?_
  split_ifs
  · exact .alone _
  · exact .alone _
  · exact .alone _
  · exact .tookEffect _ _ rfl

theorem answers_execPortAdminDown {t : State} (h : execPortAdminDown e s = .next t) : Answers 0x0302 e s t := by
  cases h
  refine answers_runCmd fun _ => ?_
  split_ifs
  · exact .alone _
  · exact .tookEffect _ _ rfl

theorem answers_execEngineReset {t : State} (h : execEngineReset e s = .next t) : Answers 0x0604 e s t := by
  cases h
  exact answers_runCmd fun passed => .silent _ (fun _ => congrArg Mailbox.ready (mb_of_view (by simp)))
    (fun otd => absurd otd (path_ne_otd_of_passed passed (by decide)))

theorem tookEffect_adjusted_or_ok (moved : Bool) (data : List Byte) :
    tookEffect (if moved = true then adjustedV data else okV data).status = true := by
  cases moved <;> rfl

theorem answers_execTimerSet {t : State} (h : execTimerSet e s = .next t) : Answers 0x0C05 e s t := by
  cases h
  refine answers_runCmd fun _ => ?_
  split_ifs
  · exact .tookEffect _ _ rfl
  · exact .tookEffect _ _ (tookEffect_adjusted_or_ok _ _)

theorem answers_execIsolate {t : State} (h : execIsolate e s = .next t) : Answers 0x1204 e s t := by
  cases h
  refine answers_runCmd fun _ => ?_
  split_ifs
  · exact .alone _
  · exact .tookEffect _ _ rfl

theorem answers_execProgLoad {t : State} (h : execProgLoad e s = .next t) : Answers 0x0601 e s t := by
  cases h
  refine answers_ifTurn ?_
  split
  · exact .alone _
  · exact .tookEffect _ _ rfl

theorem tookEffect_gateArm (p : Nat) (g : GateList) (s : State) : tookEffect (gateArm p g s).2.status = true := by
  exact tookEffect_adjusted_or_ok _ _

theorem answers_execGateListSet {t : State} (h : execGateListSet e s = .next t) : Answers 0x0A01 e s t := by
  cases h
  refine answers_runStagedV fun s => ?_
  dsimp only
  split
  · exact tookEffect_gateArm _ _ _
  · rfl

theorem answers_execGateEnableOn {t : State} (h : execGateEnableOn e s = .next t) : Answers 0x0A02 e s t := by
  cases h
  refine answers_runStagedV fun s => ?_
  split
  · rfl
  · split
    · rfl
    · exact tookEffect_gateArm _ _ _

end

/-- Every command that decides at once answers so, in the order of the table. -/
theorem answers_exec {i : Instr} {op : Nat} {e : Env} {s t : State} (found : commandOf i = some (op, e)) (h : exec i s = .next t) : Answers op e s t := by
  unfold commandOf at found
  split at found
  all_goals cases found
  all_goals cases h
  exacts [answers_runOk .., answers_runOk .., answers_runCmd fun _ => .tookEffect _ _ rfl, answers_runCmd fun _ => .tookEffect _ _ rfl,
    answers_execSysResetSlice e s rfl, answers_execSysResetCtl e s rfl, answers_runCmd fun _ => .tookEffect _ _ rfl, answers_runOk .., answers_runOk
    .., answers_execSysPatchLoad e s rfl, answers_runOk .., answers_runStaged .., answers_runOk .., answers_execPortAdminDown e s rfl, answers_runOk
    .., answers_runOk .., answers_runStaged .., answers_runStaged .., answers_runStaged .., answers_runStaged .., answers_runStaged ..,
    answers_runStaged .., answers_runOk .., answers_runStaged .., answers_runOk .., answers_runOk .., answers_runOk .., answers_runStagedV fun _ =>
    rfl, answers_runStagedV fun _ => rfl, answers_runOk .., answers_runStaged .., answers_runOk .., answers_execProgLoad e s rfl, answers_runOk ..,
    answers_runStaged .., answers_runStaged .., answers_runOk .., answers_execEngineReset e s rfl, answers_runStaged .., answers_runOk ..,
    answers_runOk .., answers_runOk .., answers_runStaged .., answers_runStaged .., answers_runOk .., answers_runStaged .., answers_runStaged ..,
    answers_runStaged .., answers_runStagedV fun _ => rfl, answers_runStagedV fun _ => rfl, answers_runCmd fun _ => .tookEffect _ _ rfl,
    answers_runStagedV fun _ => rfl, answers_runStaged .., answers_runStaged .., answers_runStaged .., answers_runOk .., answers_runStaged ..,
    answers_runStagedV fun _ => rfl, answers_runStaged .., answers_runStaged .., answers_runStaged .., answers_runStaged .., answers_runOk ..,
    answers_execGateListSet e s rfl, answers_execGateEnableOn e s rfl, answers_runStagedV fun _ => rfl, answers_runOk .., answers_runStaged ..,
    answers_runStagedV fun _ => rfl, answers_runStagedV fun _ => rfl, answers_runStagedV fun _ => rfl, answers_runOk .., answers_runOk ..,
    answers_runStaged .., answers_runStaged .., answers_runOk .., answers_runOk .., answers_runStaged .., answers_execTimerSet e s rfl, answers_runOk
    .., answers_runOk .., answers_runOk .., answers_runStaged .., answers_runOk .., answers_runOk .., answers_runOk .., answers_runOk ..,
    answers_runOk .., answers_runOk .., answers_runCmd fun _ => .tookEffect _ _ rfl, answers_runCmd fun _ => .tookEffect _ _ rfl, answers_runOk ..,
    answers_runOk .., answers_runOk .., answers_runStaged .., answers_runStaged .., answers_runStaged .., answers_runOk .., answers_runOk ..,
    answers_runOk .., answers_runOk .., answers_runOk .., answers_runOk .., answers_runOk .., answers_runOk .., answers_runStaged ..,
    answers_runStaged .., answers_runStaged .., answers_runOk .., answers_runOk .., answers_runOk .., answers_execIsolate e s rfl, answers_runOtd ..,
    answers_runOtd .., answers_runOtd .., answers_runOtd .., answers_runOtd .., answers_runOtd .., answers_runOtd .., answers_runOtd ..,
    answers_runOtd .., answers_runOtd .., answers_runOtd .., answers_runOtd .., answers_runOtd .., answers_runOtd .., answers_runOtd ..,
    answers_runOtd ..]

/-- Of the two paths that hold their response, none shows a refusal with another effect. -/
theorem refusal_on_mailbox {op : Nat} {e : Env} {s t : State} {r : Response} {took : Bool} (ans : Answers op e s t) (path : e.path = .mailbox)
    (idle : s.mb.ready = none) (stands : t.mb.ready = some (r, took)) (refused : tookEffect r.status = false) :
    t = { s with mb := { s.mb with ready := some (r, false) } } ∧ r.opcode = op ∧ r.tag = e.tag := by
  cases ans with
  | alone v =>
    simp only [respond, path, Option.some.injEq, Prod.mk.injEq] at stands ⊢
    obtain ⟨rfl, -⟩ := stands
    exact ⟨by rw [refused], rfl, rfl⟩
  | tookEffect v u took =>
    simp only [respond, path, Option.some.injEq, Prod.mk.injEq] at stands
    obtain ⟨rfl, -⟩ := stands
    exact absurd took (by simp [refused])
  | silent t mailbox otd => simp [mailbox path, idle] at stands

theorem refusal_on_otd {op : Nat} {e : Env} {s t : State} {r : Response} (ans : Answers op e s t) (path : e.path = .otd)
    (idle : s.otd.done = false) (done : t.otd.done = true) (stands : t.otd.orsp = some r) (refused : tookEffect r.status = false) :
    t = { s with otd := { s.otd with orsp := some r, done := true, busy := false } } ∧ r.opcode = op ∧ r.tag = e.tag := by
  cases ans with
  | alone v =>
    simp only [respond, path, Option.some.injEq] at stands ⊢
    subst stands
    exact ⟨by simp only [refused, Bool.false_eq_true, if_false], rfl, rfl⟩
  | tookEffect v u took =>
    simp only [respond, path, Option.some.injEq] at stands
    subst stands
    exact absurd took (by simp [refused])
  | silent t mailbox otd => simp [otd path, idle] at done

theorem tookEffect_eq_false {status : Nat} (notOk : status ≠ 0) (notAdjusted : status ≠ 0x0C) : tookEffect status = false := by
  simp [Machine.tookEffect, notOk, notAdjusted]

/-- Settles O12: every such command answers as `Answers` says, which leaves of a refusal the response alone. -/
theorem refusedCommandsChangeNothing : Obligations.RefusedCommandsChangeNothing := by
  unfold Obligations.RefusedCommandsChangeNothing
  refine ⟨fun i op e s t r took found path idle h stands notOk notAdjusted => ?_,
    fun i op e s t r found path idle h done stands notOk notAdjusted => ?_⟩
  · exact refusal_on_mailbox (answers_exec found h) path idle stands (tookEffect_eq_false notOk notAdjusted)
  · exact refusal_on_otd (answers_exec found h) path idle done stands (tookEffect_eq_false notOk notAdjusted)

end Sys2Proof.Machine
end

section
/-! SUPPORT. Staging (R101 to R104, R110): what a stageable command that passes its checks does, the claims of other sets, the banks and the flip. -/

namespace Sys2Proof.Machine

/-! What a stageable command does once its checks pass. -/

section
variable {op : Nat} {len : Nat → Bool} {e : Env} {s : State} {i : Instr} {claims : List Claim} {chk : State → Chk}

theorem runStagedV_of_passed {table : Bool} {atStage : State → State} {stagedData : List Byte} {imm : State → State × Verdict} (turn : inTurn e s = true)
    (passed : stageVerdict op len ⟨i, claims, table, true⟩ chk e s = none) :
    runStagedV i op len claims table chk atStage stagedData imm e s
      = if staged e = true then respond e op (okV stagedData) (stageChange e.setId ⟨i, claims, table, true⟩ (atStage s))
        else respond e op (imm s).2 (imm s).1 := by
  simp only [runStagedV, ifTurn, turn, passed, if_true]

/-- Register-like changes answer OK with no data, staged or at once. -/
theorem runStaged_of_passed {side : State → State} (turn : inTurn e s = true) (passed : stageVerdict op len ⟨i, claims, false, true⟩ chk e s = none) :
    runStaged i op len claims chk side e s = respond e op (okV []) (if staged e = true then stageChange e.setId ⟨i, claims, false, true⟩ s
      else side (updCfg (cfgUpd s.build i) s)) := by
  rw [runStaged, runStagedV_of_passed turn passed]
  split <;> rfl

end

/-! Claims (R103). -/

section
variable {s : State} {q : QSet} {o : Change} {k : Claim} {me : Nat} {cs : List Claim}

/-- When another live set claims a target, a claim is held, and by such a set. -/
theorem claimHolder_of_claimed (member : q ∈ s.quad.sets) (live : q.live = true) (other : q.id ≠ me) (change : o ∈ q.changes) (claim : k ∈ o.claims)
    (wanted : k ∈ cs) : ∃ p o k, p ∈ s.quad.sets ∧ p.live = true ∧ p.id ≠ me ∧ o ∈ p.changes ∧ k ∈ o.claims ∧ k ∈ cs
      ∧ claimHolder s me cs = some p.id := by
  have holds : (q.live && decide (q.id ≠ me) && q.changes.any (fun ch => ch.claims.any (fun c => decide (c ∈ cs)))) = true := by
    simp only [live, other, Bool.true_and, ne_eq, not_false_eq_true, decide_true, List.any_eq_true, decide_eq_true_eq]
    exact ⟨o, change, k, claim, wanted⟩
  cases found : s.quad.sets.find? (fun q => q.live && decide (q.id ≠ me) && q.changes.any (fun ch => ch.claims.any (fun c => decide (c ∈ cs)))) with
  | none => exact absurd holds (List.find?_eq_none.mp found q member)
  | some p =>
    have held := List.find?_some found
    simp only [Bool.and_eq_true, decide_eq_true_eq, List.any_eq_true] at held
    obtain ⟨⟨pLive, pOther⟩, po, pChange, pk, pClaim, pWanted⟩ := held
    exact ⟨p, po, pk, List.mem_of_find?_eq_some found, pLive, pOther, pChange, pClaim, pWanted, by rw [claimHolder, found]; rfl⟩

end

section
variable {c : Chk} (present : c.present = true) (fields : c.fields.find? (fun f => !f.2) = none)
include present fields

/-- Once its fields pass, the holder of a claim decides (R99). -/
theorem chkVerdict_of_held {id : Nat} (held : c.held = some id) : chkVerdict c = some (heldV id) := by
  simp [chkVerdict, firstOf, unlessOk, fieldVerdict, present, fields, held]

theorem chkVerdict_of_state {d : Nat} (free : c.held = none) (noQuad : c.needQuad = none) (idle : c.busy = none) (st : c.st = some d) :
    chkVerdict c = some (stateV d) := by
  simp [chkVerdict, firstOf, unlessOk, fieldVerdict, present, fields, free, noQuad, idle, st]

end

theorem setCommitted_of_st {s : State} {id : Nat} {q : QSet} (found : findSet s id = some q) (st : q.st = .voting ∨ q.st = .armed ∨ q.st = .normalising) :
    setCommitted s id = true := by
  rcases st with st | st | st <;> simp [setCommitted, found, st]

/-- A command that stages nothing names no set (R95, R101). -/
theorem setId_of_not_staged {op : Nat} {stageable : Bool} {len : Nat → Bool} {e : Env} {s : State} (env : envVerdict op stageable len e s = none)
    (immediate : staged e = false) : e.setId = 0 := by
  simp only [envVerdict, firstOf_cons_eq_none, headerVerdict, unlessOk_eq_none, immediate] at env
  obtain ⟨-, ⟨-, -, -, named, -⟩, -⟩ := env
  simpa using named

theorem firstOf_pair_of_none {a b : Option Verdict} (none : a = none) : firstOf [a, b] = b := by
  subst none
  cases b <;> rfl

/-- Settles O13: the claim's holder by `claimHolder`, the committed set by its state. -/
theorem claimedTargetConflicts : Obligations.ClaimedTargetConflicts := by
  unfold Obligations.ClaimedTargetConflicts
  refine ⟨fun op len ch chk e s q o k member live other change claim wanted env present fields => ?_,
    fun op len ch chk e s q isStaged found st env present fields free idle => ?_⟩
  · obtain ⟨p, po, pk, pMember, pLive, pOther, pChange, pClaim, pWanted, holder⟩ := claimHolder_of_claimed member live other change claim wanted
    refine ⟨p, po, pk, pMember, pLive, pOther, pChange, pClaim, pWanted, ?_⟩
    rw [stageVerdict, firstOf_pair_of_none env]
    cases isStaged : staged e with
    | true =>
      simp only [isStaged, if_true] at present fields
      exact chkVerdict_of_held (by exact present) (by exact fields) holder
    | false =>
      simp only [isStaged, Bool.false_eq_true, if_false] at present fields
      rw [setId_of_not_staged env isStaged] at holder
      exact chkVerdict_of_held (by exact present) (by exact fields) holder
  · rw [stageVerdict, firstOf_pair_of_none env, if_pos isStaged]
    exact chkVerdict_of_state (by exact present) (by exact fields) (by exact free) rfl (by exact idle) (if_pos (setCommitted_of_st found st))

/-! The banks (R103, R104, R110). -/

/-- The mask that leaves the two banks and the sets. -/
def bankMask (p : StatePart) : Bool := p != .quad && p != .bank0 && p != .bank1

theorem banks_of_view {s t : State} (h : view bankMask t = view bankMask s) : t.bank0 = s.bank0 ∧ t.bank1 = s.bank1 ∧ t.quad = s.quad :=
  ⟨agree_of_view h .bank0 rfl, agree_of_view h .bank1 rfl, agree_of_view h .quad rfl⟩

/-- Neither a bank nor the parity changes, and no set comes or goes. -/
def BanksKept (s t : State) : Prop :=
  t.bank0 = s.bank0 ∧ t.bank1 = s.bank1 ∧ t.quad.parity = s.quad.parity ∧ t.quad.sets.length = s.quad.sets.length

section
variable {s t u : State}

theorem BanksKept.trans (h : BanksKept s t) (g : BanksKept t u) : BanksKept s u := by
  obtain ⟨h0, h1, hp, hn⟩ := h
  obtain ⟨g0, g1, gp, gn⟩ := g
  exact ⟨g0.trans h0, g1.trans h1, gp.trans hp, gn.trans hn⟩

theorem banksKept_of_view (h : view bankMask t = view bankMask s) : BanksKept s t := by
  obtain ⟨b0, b1, quad⟩ := banks_of_view h
  exact ⟨b0, b1, by rw [quad], by rw [quad]⟩

theorem banksKept_respond (e : Env) (op : Nat) (v : Verdict) (s : State) : BanksKept s (respond e op v s) :=
  banksKept_of_view (view_respond rfl rfl rfl rfl rfl e op v s)

theorem banksKept_updSet (id : Nat) (f : QSet → QSet) (s : State) : BanksKept s (updSet id f s) :=
  ⟨rfl, rfl, rfl, List.length_map _⟩

theorem banksKept_runStagedV {op : Nat} {len : Nat → Bool} {e : Env} {i : Instr} {claims : List Claim} {chk : State → Chk} {table : Bool}
    {atStage : State → State} {stagedData : List Byte} {imm : State → State × Verdict} (isStaged : staged e = true) (stage : BanksKept s (atStage s)) :
    BanksKept s (runStagedV i op len claims table chk atStage stagedData imm e s) := by
  unfold runStagedV
  dsimp only
  unfold ifTurn
  split
  · dsimp only
    split
    · exact banksKept_respond e op _ s
    · exact (stage.trans (banksKept_updSet _ _ _)).trans (banksKept_respond e op _ _)
  · exact ⟨rfl, rfl, rfl, rfl⟩

theorem banksKept_runStaged {op : Nat} {len : Nat → Bool} {e : Env} {i : Instr} {claims : List Claim} {chk : State → Chk} {side : State → State}
    (isStaged : staged e = true) : BanksKept s (runStaged i op len claims chk side e s) :=
  banksKept_runStagedV isStaged ⟨rfl, rfl, rfl, rfl⟩

end

/-! The table changes of staging reach no bank (R104). -/

section
variable (s : State)

theorem banksKept_entryStage (id setId : Nat) (x : Entry) : BanksKept s (entryStage id setId x s) :=
  banksKept_of_view (view_entryStage rfl rfl id setId x s)

theorem banksKept_entryStageOut (id setId : Nat) (x : Option Entry) :
    BanksKept s (match x with | some y => updTable id (entryStageOut s.quad.parity setId y) s | none => s) := by
  cases x with
  | some y => exact banksKept_of_view (view_updTable rfl id _ s)
  | none => exact ⟨rfl, rfl, rfl, rfl⟩

theorem banksKept_macStageDelete (e : Env) : BanksKept s (macStageDelete e s) :=
  banksKept_of_view (view_macStageDelete rfl e s)

theorem banksKept_macStage (x : MacEntry) (e : Env) : BanksKept s (macInsert x (macStageDelete e s)) :=
  (banksKept_macStageDelete s e).trans (banksKept_of_view (view_macInsert rfl rfl x _))

theorem banksKept_stageKey (f set : Nat) (ins : Option FlowCfg) : BanksKept s (stageKey f set ins s) :=
  banksKept_of_view (view_stageKey rfl f set ins s)

/-- A draw of a free value beside it reaches none either. -/
theorem banksKept_stageKey_drawn (f set : Nat) (ins : Option FlowCfg) (c : Bool) :
    BanksKept s (stageKey f set ins (if c = true then { s with fresh := s.fresh + 1 } else s)) := by
  refine BanksKept.trans ?_ (banksKept_stageKey _ f set ins)
  split <;> exact ⟨rfl, rfl, rfl, rfl⟩

end

/-- Every stageable command keeps the banks when it is staged: its run, in the order of the table, with what staging does to the tables alone. -/
theorem banksKept_exec {i : Instr} {e : Env} {s t : State} (found : stageEnv i = some e) (isStaged : staged e = true) (h : exec i s = .next t) :
    BanksKept s t := by
  unfold stageEnv at found
  split at found
  all_goals cases found
  all_goals cases h
  exacts [banksKept_runStaged isStaged, banksKept_runStaged isStaged, banksKept_runStaged isStaged, banksKept_runStaged isStaged, banksKept_runStaged
    isStaged, banksKept_runStaged isStaged, banksKept_runStaged isStaged, banksKept_runStaged isStaged, banksKept_runStagedV isStaged
    (banksKept_entryStage ..), banksKept_runStagedV isStaged (banksKept_entryStageOut ..), banksKept_runStaged isStaged, banksKept_runStaged isStaged,
    banksKept_runStaged isStaged, banksKept_runStaged isStaged, banksKept_runStaged isStaged, banksKept_runStaged isStaged, banksKept_runStaged
    isStaged, banksKept_runStaged isStaged, banksKept_runStaged isStaged, banksKept_runStagedV isStaged (banksKept_macStage ..), banksKept_runStagedV
    isStaged (banksKept_macStageDelete ..), banksKept_runStagedV isStaged ⟨rfl, rfl, rfl, rfl⟩, banksKept_runStaged isStaged, banksKept_runStaged isStaged,
    banksKept_runStaged isStaged, banksKept_runStaged isStaged, banksKept_runStagedV isStaged ⟨rfl, rfl, rfl, rfl⟩, banksKept_runStaged isStaged,
    banksKept_runStaged isStaged, banksKept_runStaged isStaged, banksKept_runStaged isStaged, banksKept_runStagedV isStaged ⟨rfl, rfl, rfl, rfl⟩,
    banksKept_runStagedV isStaged ⟨rfl, rfl, rfl, rfl⟩, banksKept_runStagedV isStaged ⟨rfl, rfl, rfl, rfl⟩, banksKept_runStaged isStaged,
    banksKept_runStagedV isStaged (banksKept_stageKey_drawn ..), banksKept_runStagedV isStaged ⟨rfl, rfl, rfl, rfl⟩, banksKept_runStagedV isStaged
    (banksKept_stageKey ..), banksKept_runStaged isStaged, banksKept_runStaged isStaged, banksKept_runStaged isStaged, banksKept_runStaged isStaged,
    banksKept_runStaged isStaged, banksKept_runStaged isStaged, banksKept_runStaged isStaged, banksKept_runStaged isStaged, banksKept_runStaged
    isStaged, banksKept_runStaged isStaged]

/-- Settles O14: staging adds to a set, and the table changes of staging reach no bank. -/
theorem stagedCommandsKeepTheBanks : Obligations.StagedCommandsKeepTheBanks :=
  fun _ _ _ _ found isStaged h => banksKept_exec found isStaged h

/-- A change of one set leaves the parity, so the same bank stays in force. -/
@[simp] theorem updSet_parity (id : Nat) (f : QSet → QSet) (s : State) : (updSet id f s).quad.parity = s.quad.parity := rfl

/-- A flip turns the parity and leaves both banks. -/
theorem exec_quadFlip_banks {id : Nat} {q : QSet} {s : State} (found : findSet s id = some q) (due : flipDue s q = true) :
    ∃ t, exec (.quadFlip id) s = .next t ∧ t.quad.parity = (!s.quad.parity) ∧ t.bank0 = s.bank0 ∧ t.bank1 = s.bank1 := by
  refine ⟨_, rfl, ?_⟩
  rw [found]
  simp only [due, Bool.not_true, Bool.false_eq_true, if_false, updSet_parity, updSet_keeps]
  have same : view bankMask (q.changes.foldl (fun s ch => sideUpd ch.cmd s)
        (turnVis id { s with quad := { s.quad with parity := !s.quad.parity, flipAt := some (raw16 s) } }))
      = view bankMask { s with quad := { s.quad with parity := !s.quad.parity, flipAt := some (raw16 s) } } := by
    rw [view_foldl _ fun s ch => ?_, view_turnVis rfl]
    exact view_sideUpd rfl rfl rfl rfl rfl rfl rfl rfl rfl rfl rfl rfl rfl rfl rfl rfl rfl ch.cmd s
  obtain ⟨b0, b1, quad⟩ := banks_of_view same
  exact ⟨by rw [quad], b0, b1⟩

/-- Settles O15: the flip turns the parity, and the bank that comes into force holds what it held. -/
theorem flipPutsTheOtherBankInForce : Obligations.FlipPutsTheOtherBankInForce := by
  unfold Obligations.FlipPutsTheOtherBankInForce
  intro id q s t found due h
  obtain ⟨u, next, parity, b0, b1⟩ := exec_quadFlip_banks found due
  obtain rfl := Host.Outcome.next.inj (next.symm.trans h)
  simp only [cfg, cfgAt, parity, b0, b1]

end Sys2Proof.Machine
end

section
/-! SUPPORT. Events of one port and the other ports (R50 to R52, R136 to R141). -/

namespace Sys2Proof.Machine

/-- Every port but `p` is as it was. -/
def OtherPortsKept (p : Nat) (s t : State) : Prop := ∀ q, q ≠ p → port t q = port s q

section
variable {p : Nat} {s t u : State}

theorem OtherPortsKept.refl (p : Nat) (s : State) : OtherPortsKept p s s := fun _ _ => rfl

theorem OtherPortsKept.trans (h : OtherPortsKept p s t) (g : OtherPortsKept p t u) : OtherPortsKept p s u :=
  fun q other => (g q other).trans (h q other)

theorem otherPortsKept_of_ports (h : t.ports = s.ports) : OtherPortsKept p s t := fun q _ => port_congr h q

theorem otherPortsKept_updPort (p : Nat) (f : PortRt → PortRt) (s : State) : OtherPortsKept p s (updPort p f s) := fun q other => by
  rw [port_updPort, if_neg other]

theorem OtherPortsKept.updPort (h : OtherPortsKept p s t) (f : PortRt → PortRt) : OtherPortsKept p s (updPort p f t) :=
  h.trans (otherPortsKept_updPort p f t)

/-- What follows a change of the port and leaves every port leaves the others too. -/
theorem OtherPortsKept.then_ports (h : OtherPortsKept p s t) (g : u.ports = t.ports) : OtherPortsKept p s u :=
  h.trans (otherPortsKept_of_ports g)

theorem OtherPortsKept.emit (h : OtherPortsKept p s t) (o : Output) : OtherPortsKept p s (emit o t) := h.then_ports rfl

theorem OtherPortsKept.addCtr (h : OtherPortsKept p s t) (c : Ctr) (n : Nat) : OtherPortsKept p s (addCtr c n t) := h.then_ports rfl

theorem OtherPortsKept.bump (h : OtherPortsKept p s t) (c : Ctr) : OtherPortsKept p s (bump c t) := h.then_ports rfl

theorem OtherPortsKept.linkWake (h : OtherPortsKept p s t) (q : Nat) : OtherPortsKept p s (linkWake q t) := h.then_ports (by simp)

theorem otherPortsKept_ite {c : Prop} [Decidable c] {a b : State} (ha : OtherPortsKept p s a) (hb : OtherPortsKept p s b) :
    OtherPortsKept p s (if c then a else b) := by
  split
  · exact ha
  · exact hb

end

section
variable (p : Nat) (s : State)

theorem otherPortsKept_execPauseExpiry (prio : Nat) {t : State} (h : execPauseExpiry p prio s = .next t) : OtherPortsKept p s t := by
  cases h
  split
  · exact otherPortsKept_ite (otherPortsKept_updPort p _ s) (.refl p s)
  · exact .refl p s

theorem otherPortsKept_sendPause (quanta : Nat) (prio : Option Nat) : OtherPortsKept p s (sendPause p quanta prio s) :=
  otherPortsKept_updPort p _ s

theorem otherPortsKept_execXoffRefresh (prio : Nat) {t : State} (h : execXoffRefresh p prio s = .next t) : OtherPortsKept p s t := by
  cases h
  split
  · exact otherPortsKept_ite ((otherPortsKept_updPort p _ s).trans (otherPortsKept_sendPause p _ _ _)) (.refl p s)
  · exact .refl p s

theorem otherPortsKept_execLpiEnter {t : State} (h : execLpiEnter p s = .next t) : OtherPortsKept p s t := by
  cases h
  exact otherPortsKept_ite ((otherPortsKept_updPort p _ s).emit _) (.refl p s)

theorem otherPortsKept_endLpi : OtherPortsKept p s (endLpi p s) := by
  unfold endLpi
  split
  · exact .refl p s
  · exact ((otherPortsKept_updPort p _ s).addCtr _ _).emit _

theorem otherPortsKept_leaveLpi : OtherPortsKept p s (leaveLpi p s) :=
  otherPortsKept_ite (.refl p s) ((otherPortsKept_endLpi p s).updPort _)

theorem otherPortsKept_execLpiExit {t : State} (h : execLpiExit p s = .next t) : OtherPortsKept p s t := by
  cases h
  exact otherPortsKept_ite (otherPortsKept_leaveLpi p s) (.refl p s)

theorem otherPortsKept_execPartnerLpi (level : Bool) {t : State} (h : execPartnerLpi p level s = .next t) : OtherPortsKept p s t := by
  cases h
  split
  · exact otherPortsKept_updPort p _ s
  · exact (otherPortsKept_updPort p _ s).addCtr _ _
  · exact .refl p s

theorem otherPortsKept_sendVerify (tag : Nat) : OtherPortsKept p s (sendVerify p tag s) := otherPortsKept_updPort p _ s

theorem otherPortsKept_execPreemptVerify (event : VerifyEvent) {t : State} (h : execPreemptVerify p event s = .next t) : OtherPortsKept p s t := by
  cases h
  split_ifs
  · exact otherPortsKept_sendVerify p s 6
  · exact .refl p s
  · exact .refl p s
  · exact otherPortsKept_updPort p _ s
  · exact .refl p s
  · exact (otherPortsKept_updPort p _ s).trans (otherPortsKept_sendVerify p _ 5)
  · exact otherPortsKept_updPort p _ s

/-- The settling of a hint counts what was predicted, and changes no port. -/
theorem settleHint_ports (hint : Nat) (arrived early : Bool) (x : TxCur) : (settleHint p hint arrived early x s).2.ports = s.ports := by
  have counted : (countPred p x s).ports = s.ports := by
    unfold countPred
    split <;> rfl
  unfold settleHint
  split
  · rfl
  · split_ifs
    · rfl
    · unfold raiseCtr
      split <;> exact counted
    · exact counted

theorem otherPortsKept_takeHint (hint : Nat) (arrived early : Bool) : OtherPortsKept p s (takeHint p hint arrived early s) := by
  unfold takeHint
  split
  · exact .refl p s
  · dsimp only
    repeat' split
    · exact otherPortsKept_updPort p _ s
    · exact ((otherPortsKept_updPort p _ s).then_ports (settleHint_ports p _ _ _ _ _)).updPort _
    · exact ((otherPortsKept_updPort p _ s).then_ports (settleHint_ports p _ _ _ _ _)).updPort _
    · exact otherPortsKept_updPort p _ s

theorem otherPortsKept_execTxHint (hint : Nat) (early : Bool) {t : State} (h : execTxHint p hint s early = .next t) : OtherPortsKept p s t := by
  cases h
  exact otherPortsKept_ite (.refl p s) ((otherPortsKept_updPort p _ s).trans (otherPortsKept_takeHint p _ _ _ _))

theorem otherPortsKept_execHintMissing {t : State} (h : execHintMissing p s = .next t) : OtherPortsKept p s t := by
  cases h
  exact otherPortsKept_ite (.refl p s) ((otherPortsKept_takeHint p s _ _ _).bump _)

theorem otherPortsKept_execStall {t : State} (h : execStall p s = .next t) : OtherPortsKept p s t := by
  cases h
  exact otherPortsKept_ite (otherPortsKept_of_ports rfl) (.refl p s)

theorem otherPortsKept_adminUp : OtherPortsKept p s (adminUp p s) :=
  (otherPortsKept_of_ports rfl).updPort _

theorem otherPortsKept_enterComingUp : OtherPortsKept p s (enterComingUp p s) :=
  (otherPortsKept_updPort p _ s).linkWake p

theorem otherPortsKept_execLinkFaultClear {t : State} (h : execLinkFaultClear p s = .next t) : OtherPortsKept p s t := by
  cases h
  have cleared := otherPortsKept_updPort p (fun x => { x with statUp := true, localFault := false, remoteFault := false, clearSince := if noFault x then x.clearSince else rawNs s }) s
  split
  · exact cleared
  · split
    · exact cleared.trans (otherPortsKept_enterComingUp p _)
    · exact cleared.trans (otherPortsKept_enterComingUp p _)
    · exact cleared

end

/-- A command changes the ports that its effect changes: neither its refusal nor its response reaches one. -/
theorem otherPortsKept_runOk {op : Nat} {len : Nat → Bool} {chk : Chk} {e : Env} {p : Nat} {data : State → List Byte} {eff : State → State} {s : State}
    (h : OtherPortsKept p s (eff s)) : OtherPortsKept p s (runOk op len chk e data eff s) := by
  unfold runOk runCmd ifTurn
  split
  · dsimp only
    split
    · exact otherPortsKept_of_ports (by simp)
    · exact h.then_ports (by simp)
  · exact .refl p s

theorem otherPortsKept_execPortAdminUp (e : Env) (s : State) {t : State} (h : execPortAdminUp e s = .next t) : OtherPortsKept (ePort e) s t := by
  cases h
  exact otherPortsKept_runOk (otherPortsKept_adminUp (ePort e) s)

/-- Settles O31: each of the eleven commands changes its own port alone. -/
theorem portEventsStayOnTheirPort : Obligations.PortEventsStayOnTheirPort := by
  unfold Obligations.PortEventsStayOnTheirPort
  intro p q s t other
  refine ⟨fun prio h => otherPortsKept_execPauseExpiry p s prio h q other, fun prio h => otherPortsKept_execXoffRefresh p s prio h q other,
    fun h => otherPortsKept_execLpiEnter p s h q other, fun h => otherPortsKept_execLpiExit p s h q other,
    fun level h => otherPortsKept_execPartnerLpi p s level h q other, fun event h => otherPortsKept_execPreemptVerify p s event h q other,
    fun hint early h => otherPortsKept_execTxHint p s hint early h q other, fun h => otherPortsKept_execHintMissing p s h q other,
    fun h => otherPortsKept_execStall p s h q other, fun e own h => ?_, fun h => otherPortsKept_execLinkFaultClear p s h q other⟩
  subst own
  exact otherPortsKept_execPortAdminUp e s h q other

end Sys2Proof.Machine
end

section
/-! SUPPORT. The state after reset (R20, R64, R88), the order of the checks (R97, R99), and where a response goes (R84, R94, R96, R400). -/

namespace Sys2Proof.Machine

/-- Settles O2: what a reset leaves empty reads as its default, and every other value stands in `State.resetOf`. -/
theorem resetValues : Obligations.ResetValues := by
  unfold Obligations.ResetValues
  refine ⟨rfl, rfl, rfl, rfl, rfl, rfl, rfl, rfl, rfl, rfl, rfl, rfl, rfl, rfl, fun p => ⟨rfl, rfl⟩, fun c => rfl, fun n => rfl, fun c => ⟨rfl, rfl⟩, rfl,
    rfl, rfl, fun n => ⟨rfl, rfl⟩, rfl, fun d front => ?_, fun d core => ?_, rfl, rfl, rfl, rfl, rfl, rfl⟩
  · change (if d < 32 then ({ st := .off, pswEn := false } : Dom) else {}).st = .off
    rw [if_pos front]
  · change (if d < 32 then ({ st := .off, pswEn := false } : Dom) else {}).st = .run
    rw [if_neg (Nat.not_lt.mpr core)]

/-! The order of the checks (R97, R99). -/

theorem ofNat_ne_zero_iff (n : Nat) : BitVec.ofNat 8 n ≠ 0 ↔ n % 2 ^ 8 ≠ 0 := by
  simp [← BitVec.toNat_inj]

/-- The first byte of a little-endian field of 4 bytes that is not 0. -/
theorem findIdx?_leB_four (n : Nat) (below : n < 2 ^ 32) : (leB 4 n).findIdx? (· ≠ 0)
    = if n % 2 ^ 8 ≠ 0 then some 0 else if n / 2 ^ 8 % 2 ^ 8 ≠ 0 then some 1 else if n / 2 ^ 16 % 2 ^ 8 ≠ 0 then some 2
      else if n / 2 ^ 24 ≠ 0 then some 3 else none := by
  have first : n / 256 = n / 2 ^ 8 := rfl
  have second : n / 2 ^ 8 / 256 = n / 2 ^ 16 := Nat.div_div_eq_div_mul n (2 ^ 8) 256
  have third : n / 2 ^ 16 / 256 = n / 2 ^ 24 := Nat.div_div_eq_div_mul n (2 ^ 16) 256
  have small : n / 2 ^ 24 % 2 ^ 8 = n / 2 ^ 24 := Nat.mod_eq_of_lt (Nat.div_lt_of_lt_mul below)
  rw [leB, leB, leB, leB, leB, first, second, third, List.findIdx?_cons, List.findIdx?_cons, List.findIdx?_cons, List.findIdx?_cons, List.findIdx?_nil]
  simp only [decide_eq_true_eq, ofNat_ne_zero_iff, small]
  split_ifs <;> rfl

theorem cmdVerdict_eq (op : Nat) (len : Nat → Bool) (chk : Chk) (e : Env) (s : State) : cmdVerdict op len chk e s = match pathVerdict op e with
    | some v => some v
    | none => match headerVerdict false e s with
      | some v => some v
      | none => match lengthVerdict len e s with
        | some v => some v
        | none => if ptr e = true ∧ e.ptrFault = true then some (faultV 0x20) else chkVerdict chk := by
  rw [cmdVerdict, envVerdict]
  cases pathVerdict op e with
  | some v => rfl
  | none => cases headerVerdict false e s with
    | some v => rfl
    | none => cases lengthVerdict len e s with
      | some v => rfl
      | none =>
        cases ptr e with
        | false => cases e.ptrFault <;> cases chkVerdict chk <;> rfl
        | true => cases e.ptrFault <;> cases chkVerdict chk <;> rfl

theorem firstOf_unlessOk (ok : Bool) (v : Verdict) (l : List (Option Verdict)) : firstOf (unlessOk ok v :: l) = if ok then firstOf l else some v := by
  cases ok <;> rfl

theorem firstOf_ite (c : Prop) [Decidable c] (v : Verdict) (o : Option Verdict) (l : List (Option Verdict)) :
    firstOf ((if c then some v else o) :: l) = if c then some v else firstOf (o :: l) := by
  split_ifs <;> rfl

theorem headerVerdict_eq (st : Bool) (e : Env) (s : State) : headerVerdict st e s =
      if e.fmt ≠ 1 then some (badFieldV 0xFF03)
      else if 8 ≤ e.flags.toNat then some (badFieldV 0xFF02)
      else if e.rsvd.toNat % 2 ^ 8 ≠ 0 then some (badFieldV 0xFF0C)
      else if e.rsvd.toNat / 2 ^ 8 % 2 ^ 8 ≠ 0 then some (badFieldV 0xFF0D)
      else if e.rsvd.toNat / 2 ^ 16 % 2 ^ 8 ≠ 0 then some (badFieldV 0xFF0E)
      else if e.rsvd.toNat / 2 ^ 24 ≠ 0 then some (badFieldV 0xFF0F)
      else if (staged e = true ∧ e.setId = 0) ∨ (staged e = false ∧ e.setId ≠ 0) then some (badFieldV 0xFF02)
      else if staged e = true ∧ st = false then some (badFieldV 0xFF02)
      else if staged e = true ∧ findSet s e.setId = none then some (badFieldV 0xFF04) else none := by
  have marks : (staged e == decide (e.setId ≠ 0)) = !decide ((staged e = true ∧ e.setId = 0) ∨ (staged e = false ∧ e.setId ≠ 0)) := by
    cases staged e <;> by_cases zero : e.setId = 0 <;> simp [zero]
  have known : (!staged e || (findSet s e.setId).isSome) = !decide (staged e = true ∧ findSet s e.setId = none) := by
    cases staged e <;> cases findSet s e.setId <;> simp
  have allowed : (!staged e || st) = !decide (staged e = true ∧ st = false) := by cases staged e <;> cases st <;> rfl
  have rows : headerVerdict st e s = firstOf [unlessOk (e.fmt = 1) (badFieldV 0xFF03), unlessOk (e.flags.toNat < 8) (badFieldV 0xFF02),
      ((leB 4 e.rsvd.toNat).findIdx? (· ≠ 0)).map (fun k => badFieldV (0xFF0C + k)), unlessOk (staged e == decide (e.setId ≠ 0)) (badFieldV 0xFF02),
      unlessOk (!staged e || st) (badFieldV 0xFF02), unlessOk (!staged e || (findSet s e.setId).isSome) (badFieldV 0xFF04)] := by
    rw [headerVerdict]
    cases (leB 4 e.rsvd.toNat).findIdx? (· ≠ 0) <;> rfl
  rw [rows, findIdx?_leB_four _ e.rsvd.isLt, marks, known, allowed]
  simp only [firstOf_unlessOk, firstOf_ite, firstOf, apply_ite (Option.map (fun k => badFieldV (0xFF0C + k))), Option.map_some, Option.map_none]
  simp only [decide_eq_true_eq, ite_not, Bool.not_eq_true', decide_eq_false_iff_not, ne_eq, ← Nat.not_lt]

theorem chkVerdict_eq (c : Chk) : chkVerdict c = if c.present = false then some absentV else match c.fields.find? (fun f => !f.2) with
      | some f => some (badFieldV f.1)
      | none => match c.held, c.needQuad, c.busy, c.st, c.pair, c.resource with
        | some id, _, _, _, _, _ => some (heldV id)
        | none, some code, _, _, _, _ => some (needQuadV code)
        | none, none, some d, _, _, _ => some (busyV d)
        | none, none, none, some d, _, _ => some (stateV d)
        | none, none, none, none, some p, _ => some (pairV p.1 p.2)
        | none, none, none, none, none, some d => some (noResV d)
        | none, none, none, none, none, none => none := by
  rw [chkVerdict, fieldVerdict]
  cases c.present with
  | false => rfl
  | true => cases c.fields.find? (fun f => !f.2) with
    | some f => rfl
    | none => cases c.held with
      | some id => rfl
      | none => cases c.needQuad with
        | some code => rfl
        | none => cases c.busy with
          | some d => rfl
          | none => cases c.st with
            | some d => rfl
            | none => cases c.pair with
              | some p => rfl
              | none => cases c.resource <;> rfl

/-- Settles O10: each list of checks is taken apart check by check. -/
theorem firstFailingCheckDecides : Obligations.FirstFailingCheckDecides :=
  ⟨cmdVerdict_eq, headerVerdict_eq, chkVerdict_eq⟩

/-! The response header, and where a response goes (R84, R94, R96, R400). -/

@[simp] theorem length_leB (n v : Nat) : (leB n v).length = n := by
  induction n generalizing v with
  | zero => rfl
  | succ n ih => simp [leB, ih]

theorem leNat_leB (n v : Nat) : leNat (leB n v) = v % 256 ^ n := by
  induction n generalizing v with
  | zero => simp [leB, leNat, Nat.mod_one]
  | succ n ih =>
    rw [leB, leNat, ih, BitVec.toNat_ofNat, Nat.pow_succ' (m := 256) (n := n), Nat.mod_mul]

theorem leNat_leB_of_lt {n v : Nat} (below : v < 256 ^ n) : leNat (leB n v) = v := by rw [leNat_leB, Nat.mod_eq_of_lt below]

theorem rspBytes_fields {r : Response} (op : r.opcode < 2 ^ 16) (status : r.status < 2 ^ 8) (detail : r.detail < 2 ^ 8) (off : r.fieldOffset < 2 ^ 16)
    (len : r.data.length < 2 ^ 16) : fld (rspBytes r) 0 2 = r.opcode ∧ byteAt (rspBytes r) 2 = r.status ∧ byteAt (rspBytes r) 3 = r.detail
      ∧ fld (rspBytes r) 4 2 = r.data.length ∧ fld (rspBytes r) 6 2 = r.fieldOffset ∧ fld (rspBytes r) 8 4 = r.tag.toNat ∧ fld (rspBytes r) 12 4 = 0
      ∧ (rspBytes r).drop 16 = r.data := by
  refine ⟨?_, ?_, ?_, ?_, ?_, ?_, ?_, rfl⟩
  · change leNat (leB 2 r.opcode) = _
    exact leNat_leB_of_lt (op.trans_eq (by norm_num))
  · change (BitVec.ofNat 8 r.status).toNat = _
    exact Nat.mod_eq_of_lt status
  · change (BitVec.ofNat 8 r.detail).toNat = _
    exact Nat.mod_eq_of_lt detail
  · change leNat (leB 2 r.data.length) = _
    exact leNat_leB_of_lt (len.trans_eq (by norm_num))
  · change leNat (leB 2 r.fieldOffset) = _
    exact leNat_leB_of_lt (off.trans_eq (by norm_num))
  · change leNat (leB 4 r.tag.toNat) = _
    exact leNat_leB_of_lt (r.tag.isLt.trans_eq (by norm_num))
  · change leNat (leB 4 0) = 0
    rfl

section
variable {e : Env} (op : Nat) (v : Verdict) (s : State)

theorem respond_of_mailbox (path : e.path = .mailbox) :
    respond e op v s = { s with mb := { s.mb with ready := some (⟨op, v.status, v.detail, v.off, e.tag, v.data⟩, tookEffect v.status) } } := by
  simp only [respond, path]

theorem respond_of_otd (path : e.path = .otd) : respond e op v s = { s with otd := { s.otd with
    orsp := some ⟨op, v.status, v.detail, v.off, e.tag, v.data⟩, done := true, busy := false, lastTag := if tookEffect v.status then e.tag else s.otd.lastTag } } := by
  simp only [respond, path]

theorem out_respond_of_admin {i : Nat} (path : e.path = .admin i) : (respond e op v s).out
    = (if noRsp e && v.status = 0 then s else hpiWrite (s.adm.rspBase + 256 * i) (rspBytes ⟨op, v.status, v.detail, v.off, e.tag, v.data⟩) s).out := by
  simp only [respond, path]

end

/-- Settles O11: the fields of the header are read back byte by byte, and each path's answer is its own branch of `respond`. -/
theorem responsesOnTheirPath : Obligations.ResponsesOnTheirPath := by
  refine ⟨fun r op status detail off len => rspBytes_fields op status detail off len, ?_, ?_, ?_, ?_, ?_⟩
  · exact fun e op v s path => ⟨_, respond_of_mailbox op v s path, rfl, rfl, rfl, rfl, rfl, rfl, rfl⟩
  · intro e op v i s path answered
    rw [out_respond_of_admin op v s path, answered]; rfl
  · intro e op v i s path silent ok
    rw [out_respond_of_admin op v s path, silent, ok]; rfl
  · intro e op v s path
    exact ⟨_, respond_of_otd op v s path, rfl, rfl, rfl, fun refused => by simp [refused], fun took => by simp [took], rfl⟩
  · intro e op v s
    obtain ⟨-, -, quad, bank0, bank1, tables, -, -, -, -, -, -, -, -, -, -, -, irq, pwr, -, ctr, -, -, -⟩ := respond_keeps e op v s
    exact ⟨quad, bank0, bank1, tables, irq, pwr, ctr⟩

end Sys2Proof.Machine
end

section
/-! SUPPORT. The two mailboxes (R83 to R85, R98, R400) and the requests on HPT (R20, R55 to R57, R77). -/

namespace Sys2Proof.Machine

theorem askWake_mb (s : State) : { askWake 65 (askWake 66 s) with mb := s.mb } = askWake 65 (askWake 66 s) := by
  have same : s.mb = (askWake 65 (askWake 66 s)).mb := by simp
  rw [same]

section
variable {s : State} (served : hptServed true s = true) (ctlWakes : (dom s 65).wakeFail = false) (hstWakes : (dom s 66).wakeFail = false)
include served ctlWakes hstWakes

theorem exec_mbGo (data : Word) : exec (.mbGo data) s = .next (hptOk 0 { askWake 65 (askWake 66 s) with
    mb := if data.getLsbD 0 = false then s.mb
      else if s.boot.ready = true ∧ s.mb.busy = false ∧ s.mb.done = false then { s.mb with busy := true, locked := true }
      else { s.mb with goLost := true } }) := by
  change execMbGo data s = _
  rw [execMbGo, viaCtl_of_served _ _ served ctlWakes hstWakes]
  cases data.getLsbD 0 with
  | false => exact congrArg (fun t => Host.Outcome.next (hptOk 0 t)) (askWake_mb s).symm
  | true =>
    simp only [askWake_keeps, Bool.and_eq_true, Bool.not_eq_true', and_assoc, Bool.true_eq_false, Bool.not_true, Bool.false_eq_true, if_false]
    split_ifs <;> rfl

theorem exec_mbAck (data : Word) : exec (.mbAck data) s = .next (hptOk 0 { askWake 65 (askWake 66 s) with
    mb := if data.getLsbD 0 = false then s.mb else { s.mb with done := false, goLost := false, locked := s.mb.busy } }) := by
  change execMbAck data s = _
  rw [execMbAck, viaCtl_of_served _ _ served ctlWakes hstWakes]
  cases data.getLsbD 0 with
  | false => exact congrArg (fun t => Host.Outcome.next (hptOk 0 t)) (askWake_mb s).symm
  | true => simp [askWake_keeps]

theorem exec_mbCmdWrite (off : Nat) (bytes : List Byte) : exec (.mbCmdWrite off bytes) s = .next (hptOk 0 { askWake 65 (askWake 66 s) with
    mb := { s.mb with cmd := if s.mb.locked then s.mb.cmd else pageWrite off bytes s.mb.cmd } }) := by
  cases locked : s.mb.locked with
  | true =>
    rw [exec_mbCmdWrite_of_locked off bytes served ctlWakes hstWakes locked]
    exact congrArg (fun t => Host.Outcome.next (hptOk 0 t)) (askWake_mb s).symm
  | false =>
    change execMbCmdWrite off bytes s = _
    rw [execMbCmdWrite, viaCtl_of_served _ _ served ctlWakes hstWakes]
    simp [locked]

end

/-- A response that stands ready is delivered: with DONE and, where it is asked for, source 16. -/
theorem exec_mbCommandDone {r : Response} {took : Bool} {s : State} (judged : mailboxUnknown s = s) (ready : s.mb.ready = some (r, took)) :
    exec .mbCommandDone s = .next (ctlDue (let t := { s with mb := { s.mb with
      rsp := some r, lastTag := if took then r.tag else s.mb.lastTag, done := true, busy := false, ready := none } }
      if s.mb.doneIrq then fire 16 t else t)) := by
  change execMbCommandDone s = _
  simp only [execMbCommandDone, judged, ready]

/-- Settles O17: the accesses by `viaCtl_of_served`, CMD by the laws of `pageWrite`, the delivery by `exec_mbCommandDone`. -/
theorem mailboxProtocol : Obligations.MailboxProtocol := by
  refine ⟨fun data s served ctlWakes hstWakes => exec_mbGo served ctlWakes hstWakes data, fun data s served ctlWakes hstWakes => exec_mbAck served ctlWakes hstWakes data,
    ?_, ?_, ?_, ?_⟩
  · intro off bytes s served ctlWakes hstWakes
    refine ⟨_, exec_mbCmdWrite served ctlWakes hstWakes off bytes, fun locked => if_pos locked, fun a outside => ?_, fun free canonical k inside below => ?_⟩
    · cases s.mb.locked with
      | true => rfl
      | false => exact pageWrite_read_other off bytes s.mb.cmd outside
    · rw [free]
      exact pageWrite_read off bytes canonical inside below
  · intro r took s judged ready
    refine ⟨_, exec_mbCommandDone judged ready, ?_, ?_, ?_⟩
    · cases s.mb.doneIrq <;> simp
    · intro quiet; simp [quiet]
    · intro asks; simp [asks]
  · intro data s
    change execOmbGo data s = _
    rw [execOmbGo]
    cases data.getLsbD 0 with
    | false => rfl
    | true => simp [otdUnknown]; rfl
  · intro data s
    change execOmbAck data s = _
    rw [execOmbAck]
    cases data.getLsbD 0 <;> rfl

/-! Register requests. -/

theorem exec_registerWrite (q : HptReq) (s : State) : exec (.registerWrite q.addr q.be q.data q.write q.id) s = hptRequest q s := rfl

theorem runRequest_of_bad_be {q : HptReq} (low : q.be ≠ 0x0F) (high : q.be ≠ 0xF0) (both : q.be ≠ 0xFF) (s : State) : runRequest q s = hptErr s := by
  simp only [runRequest, low, high, both, decide_true, Bool.and_self, if_true, ne_eq, not_false_eq_true]

/-- The words of a request whose byte enables name whole words, off the debug windows. -/
theorem runRequest_of_words {q : HptReq} {s : State} (be : q.be = 0x0F ∨ q.be = 0xF0 ∨ q.be = 0xFF)
    (page : (pageOf s (q.addr % 2 ^ 26 / 8 * 8)).1 ≠ .debug) : runRequest q s =
      if (requestWords (q.addr % 2 ^ 26 / 8 * 8) q.be q.data).all (fun w => mapped s w.1) = false then hptAnswer 2 0 s
      else if q.write = true then
        hptOk 0 { (requestWords (q.addr % 2 ^ 26 / 8 * 8) q.be q.data).foldl (fun s w => writeWord w.1 w.2 s) s with hpt := s.hpt }
      else hptOk (readWords (q.addr % 2 ^ 26 / 8 * 8) q.be s).1 (readWords (q.addr % 2 ^ 26 / 8 * 8) q.be s).2 := by
  have whole : (q.be ≠ 0x0F && q.be ≠ 0xF0 && q.be ≠ 0xFF) = false := by
    rcases be with be | be | be <;> rw [be] <;> decide
  simp only [runRequest, whole, page, Bool.false_eq_true, if_false, Bool.not_eq_true']

theorem runRequest_of_debug {q : HptReq} {s : State} (be : q.be = 0x0F ∨ q.be = 0xF0 ∨ q.be = 0xFF)
    (page : (pageOf s (q.addr % 2 ^ 26 / 8 * 8)).1 = .debug) : runRequest q s =
      if s.boot.debugEn = false then hptErr s else if q.write = true then hptOk 0 s
      else hptOk (Config.debugRead s.fresh).toNat { s with fresh := s.fresh + 1 } := by
  have whole : (q.be ≠ 0x0F && q.be ≠ 0xF0 && q.be ≠ 0xFF) = false := by
    rcases be with be | be | be <;> rw [be] <;> decide
  simp only [runRequest, whole, page, Bool.false_eq_true, if_false, Bool.not_eq_true', if_true]

/-- Settles O18: `hptRequest` by who serves the page, `runRequest` by its byte enables and its page. -/
theorem registerWriteAnswers : Obligations.RegisterWriteAnswers := by
  refine ⟨?_, fun q s low high both => runRequest_of_bad_be low high both s, ?_, ?_, ?_, ?_, ?_⟩
  · rintro q s s1 page ctl rfl rfl rfl
    simp only [exec_registerWrite, hptRequest]
    refine ⟨fun owl => by rw [if_pos owl], fun other asleep => ?_, fun other served failed => ?_, fun other served hst ctl => ?_⟩
    · simp only [other, asleep, Bool.not_false, if_true, Bool.false_eq_true, if_false]
    · have fails : ((dom s 66).wakeFail || (decide ((pageOf { s with hpt := { s.hpt with tag := q.id % 64 } } (q.addr % 2 ^ 26 / 8 * 8)).1 = .mailbox)
          && (dom s 65).wakeFail)) = true := by
        rcases failed with hst | ⟨mailbox, ctl⟩
        · rw [hst]; rfl
        · rw [mailbox, ctl, Bool.and_self, Bool.or_true]
      simp only [other, served, Bool.not_true, Bool.false_eq_true, if_false]
      exact congrArg _ (if_pos fails)
    · have wakes : ((dom s 66).wakeFail || (decide ((pageOf { s with hpt := { s.hpt with tag := q.id % 64 } } (q.addr % 2 ^ 26 / 8 * 8)).1 = .mailbox)
          && (dom s 65).wakeFail)) = false := by
        rcases ctl with elsewhere | ctl
        · rw [hst, elsewhere]; rfl
        · rw [hst, ctl, Bool.and_false]; rfl
      simp only [other, served, Bool.not_true, Bool.false_eq_true, if_false]
      exact congrArg _ (if_neg (Bool.eq_false_iff.mp wakes))
  · intro q s be page
    rw [runRequest_of_debug be page]
    exact ⟨fun off => if_pos off, fun on write => by rw [on, write]; rfl, fun on read => ⟨_, by rw [on, read]; rfl⟩⟩
  · intro q s w be page member unmapped
    rw [runRequest_of_words be page, if_pos (List.all_eq_false.mpr ⟨w, member, by rw [unmapped]; exact Bool.false_ne_true⟩)]; rfl
  · intro q s be page all
    rw [runRequest_of_words be page, if_neg (by rw [List.all_eq_true.mpr all]; decide)]
    exact ⟨fun write => if_pos write, fun read => ⟨_, rfl, by rw [read]; rfl⟩⟩
  · intro a s plain
    simp only [readOne, plain]
  · rintro a v s (page | page)
    · obtain ⟨r, found⟩ : ∃ r, pageOf s a = (.ident, r) := ⟨_, Prod.ext page rfl⟩
      simp only [writeWord, found]
    · obtain ⟨r, found⟩ : ∃ r, pageOf s a = (.time, r) := ⟨_, Prod.ext page rfl⟩
      simp only [writeWord, found]

end Sys2Proof.Machine
end

section
/-! SUPPORT. Cold, power-on and warm reset (R63 to R65, R499, R500), the boot and the journal's replay (R77, R88, R89, R93). -/

namespace Sys2Proof.Machine

/-! What a reset leaves of the power unit but for the wakes it asks for. -/

/-- The power unit without the wakes that wait. -/
def wakeless (s : State) : Pwr := { s.pwr with wakePend := [], blockWake := false }

/-- The mask of every part but the power unit. -/
def notPwr (p : StatePart) : Bool := p != .pwr

@[simp] theorem notPwr_eq : notPwr .mb ∧ notPwr .boot ∧ notPwr .adm ∧ notPwr .quad ∧ notPwr .bank0 ∧ notPwr .bank1 ∧ notPwr .tables ∧ notPwr .ports ∧
    notPwr .slices ∧ notPwr .buf ∧ notPwr .tm ∧ notPwr .gate ∧ notPwr .flows ∧ notPwr .cap ∧ notPwr .eng ∧ notPwr .time ∧ notPwr .otd ∧ notPwr .sez ∧
    notPwr .hq ∧ notPwr .dma ∧ notPwr .irq ∧ notPwr .badger ∧ notPwr .ctr ∧ notPwr .hpt ∧ notPwr .out ∧ notPwr .fresh := by decide

theorem wakeless_of_view {s t : State} (h : view notPwr t = view notPwr s) : wakeless t = wakeless s :=
  congrArg (fun p : Pwr => { p with wakePend := [], blockWake := false }) (agree_of_view h .pwr rfl)

theorem rounds_of_wakeless {s t : State} (h : wakeless t = wakeless s) : t.pwr.rounds = s.pwr.rounds := by
  have same : (wakeless t).rounds = (wakeless s).rounds := by rw [h]
  exact same

theorem wakeless_foldl {α : Type} (g : State → α → State) (h : ∀ s a, wakeless (g s a) = wakeless s) (l : List α) (s : State) :
    wakeless (l.foldl g s) = wakeless s := by
  induction l generalizing s with
  | nil => rfl
  | cons a l ih => rw [List.foldl_cons, ih, h]

theorem wakeless_askWake (d : Nat) (s : State) : wakeless (askWake d s) = wakeless s := by
  unfold askWake; split <;> rfl

theorem wakeless_settle (s : State) : wakeless (settle s) = wakeless s :=
  wakeless_of_view (view_settle rfl rfl s)

theorem wakeless_fire (i : Nat) (s : State) : wakeless (fire i s) = wakeless s := by
  unfold fire
  split
  · rfl
  · split
    · dsimp only
      split
      · exact wakeless_askWake _ _
      · rfl
    · exact wakeless_settle _

theorem wakeless_enqueueCopy (c : Copy) (s : State) : wakeless (enqueueCopy c s) = wakeless s := by
  unfold enqueueCopy
  dsimp only
  generalize entered : freshDeficit c.port c.q _ = u
  have kept : wakeless u = wakeless s := by
    rw [← entered, wakeless_of_view (view_freshDeficit rfl ..), wakeless_of_view (view_settleCredit rfl ..), wakeless_askWake, wakeless_askWake]
  split
  · rw [wakeless_of_view (view_updQstat rfl ..), wakeless_of_view (view_setQueue rfl rfl ..), kept]
  · rw [wakeless_of_view (view_capEvent rfl rfl rfl ..), wakeless_of_view (view_updQstat rfl ..), wakeless_of_view (view_setQueue rfl rfl ..), kept]

theorem wakeless_enqueueMirror (x : Copy) (s : State) : wakeless (enqueueMirror x s) = wakeless s := by
  unfold enqueueMirror
  extract_lets sess room
  split_ifs
  · exact wakeless_enqueueCopy x s
  · exact wakeless_of_view (by simp)

theorem wakeless_discardHere (sl f : Nat) (s : State) : wakeless (discardHere sl f s) = wakeless s := by
  unfold discardHere
  split
  · rfl
  · next x _ =>
    dsimp only
    rw [wakeless_of_view (view_dropMark rfl rfl rfl ..), releaseMirrors, wakeless_foldl _ (fun s a => wakeless_enqueueMirror a s)]
    exact wakeless_of_view (view_updStored rfl ..)

theorem wakeless_clearCore (own : Bool) (sl : Nat) (s : State) : wakeless (clearCore own sl s) = wakeless s := by
  unfold clearCore
  dsimp only
  rw [wakeless_foldl _ (fun s f => wakeless_discardHere sl f s)]
  exact wakeless_of_view (by simp)

theorem wakeless_abortQuietly (q : QSet) (s : State) : wakeless (abortQuietly q s) = wakeless s := by
  have first : wakeless (goOutOfStep q.id s) = wakeless s := by
    unfold goOutOfStep
    split
    · rfl
    · exact wakeless_fire 30 _
  unfold abortQuietly
  dsimp only
  change wakeless (if q.st = .armed then copyBanks _ else _) = _
  split <;> split <;> first | exact first | rfl

theorem wakeless_dmaHalt (c kind addr : Nat) (s : State) : wakeless (dmaHalt c kind addr s) = wakeless s := wakeless_fire _ _

theorem wakeless_warmReset (s : State) : wakeless (warmReset s) = wakeless s := by
  unfold warmReset
  dsimp only
  rw [dmaReset, wakeless_foldl _ (fun s x => (wakeless_dmaHalt ..).trans (wakeless_of_view (view_updDma rfl ..)))]
  rw [wakeless_of_view (view_warmQueues rfl rfl _)]
  change wakeless (warmSets _) = _
  unfold warmSets
  change wakeless (List.foldl _ _ _) = _
  rw [wakeless_foldl _ (fun s q => wakeless_abortQuietly q s), wakeless_foldl _ (fun s sl => wakeless_clearCore false sl s)]
  exact wakeless_of_view (view_stompAll rfl rfl rfl rfl rfl rfl rfl rfl rfl s)

/-! The live sets after a warm reset: those that normalise (R499). -/

theorem sets_abortQuietly (q : QSet) (s : State) : (abortQuietly q s).quad.sets
    = s.quad.sets.map (fun x => if x.live && decide (x.id = q.id) then { x with st := .aborted, since := rawNs s, applying := false, owed := none } else x) := by
  have first : (if q.domain && (q.st = .voting || q.st = .armed) then goOutOfStep q.id s else s).quad = s.quad := by
    split_ifs
    · simp
    · rfl
  have second : (if q.st = .armed then copyBanks (if q.domain && (q.st = .voting || q.st = .armed) then goOutOfStep q.id s else s)
      else if q.domain && (q.st = .voting || q.st = .armed) then goOutOfStep q.id s else s).quad = s.quad := by
    split_ifs at first ⊢ <;> exact first
  exact congrArg (fun u : Quad => u.sets.map _) second

/-- A set that is live after the sets of a list were aborted stood before, and under no ID of the list. -/
theorem mem_foldl_abortQuietly {l : List QSet} {s : State} {x : QSet} (member : x ∈ (l.foldl (fun s q => abortQuietly q s) s).quad.sets) (live : x.live = true) :
    x ∈ s.quad.sets ∧ ∀ q ∈ l, q.id ≠ x.id := by
  induction l generalizing s with
  | nil => exact ⟨member, fun q absurd => nomatch absurd⟩
  | cons a l ih =>
    obtain ⟨before, others⟩ := ih member
    rw [sets_abortQuietly, List.mem_map] at before
    obtain ⟨y, stood, kept⟩ := before
    by_cases hit : (y.live && decide (y.id = a.id)) = true
    · rw [if_pos hit] at kept
      rw [← kept] at live
      exact absurd live Bool.false_ne_true
    · rw [if_neg hit] at kept
      subst kept
      refine ⟨stood, fun q hq => ?_⟩
      rcases List.mem_cons.mp hq with rfl | hq
      · exact fun same => hit (by rw [live, same]; simp)
      · exact others q hq

theorem normalising_of_warmSets {s : State} {x : QSet} (member : x ∈ (warmSets s).quad.sets) (live : x.live = true) : x.st = .normalising := by
  obtain ⟨stood, spared⟩ := mem_foldl_abortQuietly (l := s.quad.sets.filter (fun q => q.live && decide (q.st ≠ .normalising))) member live
  by_contra other
  exact spared x (List.mem_filter.mpr ⟨stood, by simp [live, other]⟩) rfl

/-! The parts that a warm reset leaves. -/

theorem hq_warmQueues (s : State) : (warmQueues s).hq
    = { s.hq with sq := s.hq.sq.mapV (fun _ x => { x with fetched := [], phaseWait := none, specMiss := false }) } := by
  have written {α : Type} (l : List α) (a : α → Nat) (b : α → List Byte) (u : State) : (l.foldl (fun s x => hpiWrite (a x) (b x) s) u).hq = u.hq :=
    agree_of_view (μ := fun p => p == .out) (view_foldl _ (fun s x => view_hpiWrite rfl (a x) (b x) s) l u) .hq rfl
  unfold warmQueues
  dsimp only
  rw [written, written]

theorem rounds_warmEntry (s : State) : (warmEntry s).pwr.rounds = [] := by
  unfold warmEntry
  dsimp only
  rw [rounds_of_wakeless (wakeless_warmReset _), rounds_of_wakeless (wakeless_of_view (view_releaseLatches rfl rfl _))]
  rfl

theorem raw_warmReset (s : State) : (warmReset s).time.raw = s.time.raw := by
  unfold warmReset
  dsimp only
  rw [time_dmaReset, time_warmQueues]
  change (warmSets _).time.raw = _
  rw [time_warmSets, time_clearCores]
  exact congrArg TimeUnit.raw (time_stompAll s)

theorem raw_warmEntry (s : State) : (warmEntry s).time.raw = s.time.raw := by
  have released (rounds : List AskRound) (f : Dom → Dom) (s : State) :
      (rounds.foldl (fun s r => r.domains.foldl (fun s d => updDom d f s) s) s).time = s.time := by
    induction rounds generalizing s with
    | nil => rfl
    | cons r rounds ih => exact (ih _).trans (time_updDoms f r.domains s)
  unfold warmEntry
  simp only [raw_warmReset, releaseLatches_keeps, updPwr_time, released]

/-- The mask of what the queues and the DMA channels change in a reset. -/
def queueMask (p : StatePart) : Bool := p == .hq || p == .dma || p == .irq || p == .pwr || p == .out

/-- A warm reset's registers stand as `warmRegisters` sets them: the queues' and the channels' reset leaves them. -/
theorem view_warmReset_registers (s : State) : ∃ w, view queueMask (warmReset s) = view queueMask (warmRegisters (warmSets w)) :=
  ⟨_, (view_dmaReset rfl rfl rfl rfl _).trans (view_warmQueues rfl rfl _)⟩

theorem warmReset_quad (s : State) {x : QSet} (member : x ∈ (warmReset s).quad.sets) (live : x.live = true) : x.st = .normalising := by
  obtain ⟨w, same⟩ := view_warmReset_registers s
  have quad : (warmReset s).quad = (warmSets w).quad := agree_of_view same .quad rfl
  exact normalising_of_warmSets (quad ▸ member) live

theorem warmReset_hq (s : State) : ∃ h : HostQ, (warmReset s).hq
    = { h with sq := h.sq.mapV (fun _ x => { x with fetched := [], phaseWait := none, specMiss := false }) } := by
  unfold warmReset
  dsimp only
  rw [show ∀ u, (dmaReset u).hq = u.hq from fun u => agree_of_view (μ := fun p => p == .dma || p == .irq || p == .pwr || p == .out) (view_dmaReset rfl rfl rfl rfl u) .hq rfl, hq_warmQueues]
  exact ⟨_, rfl⟩

theorem warmReset_fetched (s : State) {id : Nat} {x : SubQ} (found : (warmReset s).hq.sq.get? id = some x) : x.fetched = [] := by
  obtain ⟨h, same⟩ := warmReset_hq s
  rw [same, KMap.get?_mapV, Option.map_eq_some_iff] at found
  obtain ⟨y, -, rfl⟩ := found
  rfl

/-- What a warm reset leaves of the registers. -/
theorem warmReset_registers (s : State) : (warmReset s).adm.lastReset = 1 ∧ (warmReset s).boot.ready = false ∧ (warmReset s).boot.owed = 2
    ∧ (warmReset s).mb.busy = false ∧ (warmReset s).mb.done = false ∧ (warmReset s).time.snaps = [] := by
  obtain ⟨w, same⟩ := view_warmReset_registers s
  have adm : (warmReset s).adm = (warmRegisters (warmSets w)).adm := agree_of_view same .adm rfl
  have boot : (warmReset s).boot = (warmRegisters (warmSets w)).boot := agree_of_view same .boot rfl
  have mb : (warmReset s).mb = (warmRegisters (warmSets w)).mb := agree_of_view same .mb rfl
  have time : (warmReset s).time = (warmRegisters (warmSets w)).time := agree_of_view same .time rfl
  rw [adm, boot, mb, time]
  exact ⟨rfl, rfl, rfl, rfl, rfl, rfl⟩

theorem warmEntry_registers (s : State) : (warmEntry s).adm.lastReset = 1 ∧ (warmEntry s).boot.ready = false ∧ (warmEntry s).boot.owed = 2
    ∧ (warmEntry s).mb.busy = false ∧ (warmEntry s).mb.done = false ∧ (warmEntry s).time.snaps = []
    ∧ (∀ x ∈ (warmEntry s).quad.sets, x.live = true → x.st = .normalising) ∧ ∀ id x, (warmEntry s).hq.sq.get? id = some x → x.fetched = [] := by
  unfold warmEntry
  dsimp only
  obtain ⟨lastReset, ready, owed, busy, done, snaps⟩ := warmReset_registers (releaseLatches (updPwr (fun p => { p with rounds := [], handover := none })
    (s.pwr.rounds.foldl (fun s r => r.domains.foldl (fun s d => updDom d (fun x => { x with trans := if x.trans = .ask then .none else x.trans }) s) s) s)))
  exact ⟨lastReset, ready, owed, busy, done, snaps, fun x member live => warmReset_quad _ member live, fun id x found => warmReset_fetched _ found⟩

/-! The cold reset. -/

theorem rawNs_congr {s t : State} (time : t.time = s.time) : rawNs t = rawNs s := by
  simp only [rawNs, raw16, rawT, time]

theorem coldState_stompAll (s : State) : coldState (stompAll s) = { State.resetOf s.build with
      ports := (stompAll s).ports.mapV (fun _ x => { statUp := x.statUp, localFault := x.localFault, remoteFault := x.remoteFault })
      boot := { (State.resetOf s.build).boot with debugEn := s.boot.debugEn }
      irq := { (State.resetOf s.build).irq with tgt := s.irq.tgt.mapV (fun _ t => { awake := t.awake }) }
      badger := { (State.resetOf s.build).badger with epoch := rawNs s }
      time := coldTime s.time
      otd := (stompAll s).otd
      pwr := coldPwr s.pwr
      hpt := { s.hpt with waiting := [] }, out := (stompAll s).out, fresh := (stompAll s).fresh, pending := s.pending } := by
  have same := view_stompAll (μ := fun p => p == .ports || p == .slices || p == .buf || p == .cap || p == .otd || p == .hq || p == .ctr || p == .out || p == .fresh)
    rfl rfl rfl rfl rfl rfl rfl rfl rfl s
  obtain ⟨build, pending⟩ := kept_of_view same
  have boot : (stompAll s).boot = s.boot := agree_of_view same .boot rfl
  have irq : (stompAll s).irq = s.irq := agree_of_view same .irq rfl
  have pwr : (stompAll s).pwr = s.pwr := agree_of_view same .pwr rfl
  have hpt : (stompAll s).hpt = s.hpt := agree_of_view same .hpt rfl
  rw [coldState, build, boot, irq, pwr, hpt, pending, time_stompAll, rawNs_congr (time_stompAll s)]
  rfl

theorem exec_warmReset_of_asleep {s : State} (notCold : s.boot.owed ≠ 1) (asleep : s.pwr.block ≠ .run) :
    ∃ t, exec .warmReset s = .next t ∧ t.boot.ready = false ∧ t.boot.warmWaits = true ∧ t.pwr.block = s.pwr.block := by
  have woken (ds : List Nat) (u : State) : (ds.foldl (fun s d => causeWake d s) u).boot = u.boot ∧ (ds.foldl (fun s d => causeWake d s) u).pwr.block = u.pwr.block := by
    induction ds generalizing u with
    | nil => exact ⟨rfl, rfl⟩
    | cons d ds ih =>
      have one : (causeWake d u).boot = u.boot ∧ (causeWake d u).pwr.block = u.pwr.block := by
        unfold causeWake
        split <;> exact ⟨rfl, rfl⟩
      exact ⟨(ih _).1.trans one.1, (ih _).2.trans one.2⟩
  refine ⟨(sleepers s).foldl (fun s d => causeWake d s) { s with boot := { s.boot with ready := false, warmWaits := true } }, ?_, ?_⟩
  · change execWarmReset s = _
    rw [execWarmReset, if_neg notCold, if_neg asleep]
  · obtain ⟨boot, block⟩ := woken (sleepers s) { s with boot := { s.boot with ready := false, warmWaits := true } }
    rw [boot, block]
    exact ⟨rfl, rfl, rfl⟩

/-- Settles O19: the cold reset field by field from what `stompAll` leaves, the warm one from `warmReset_registers`, `normalising_of_warmSets` and
`rounds_warmEntry`. -/
theorem resetsComplete : Obligations.ResetsComplete := by
  refine ⟨?_, fun t => ⟨rfl, rfl, rfl, rfl, rfl, rfl, rfl, rfl⟩, fun p => ⟨rfl, rfl, rfl, rfl, rfl, rfl, rfl⟩, ?_, ?_, ?_, ?_, ?_, ?_, ?_⟩
  · rintro s u r rfl rfl
    exact congrArg Host.Outcome.next (coldState_stompAll s)
  · intro s t h
    cases h
    rfl
  · intro s cold
    change execWarmReset s = _
    rw [execWarmReset, if_pos cold]
  · intro s notCold runs
    refine ⟨warmEntry s, ?_, ?_⟩
    · change execWarmReset s = _
      rw [execWarmReset, if_neg notCold, if_pos runs]
    · obtain ⟨lastReset, ready, owed, busy, done, snaps, quad, fetched⟩ := warmEntry_registers s
      exact ⟨lastReset, ready, owed, busy, done, snaps, raw_warmEntry s, rounds_warmEntry s, fun q member live => quad q member live, fun id x found => fetched id x found⟩
  · exact fun s notCold asleep => exec_warmReset_of_asleep notCold asleep
  · intro s holds late
    change execHoldoverExpiry s = _
    rw [execHoldoverExpiry, if_pos (by simp [holds, late])]
  · intro s holds early
    change execHoldoverExpiry s = _
    rw [execHoldoverExpiry, if_neg (by simp [holds, early])]
  · intro s other
    change execHoldoverExpiry s = _
    rw [execHoldoverExpiry, if_neg (by simp [other])]

/-! Boot, and the journal's replay. -/

theorem exec_boot (result : BootResult) {s : State} (free : s.badger.ctlHeld = 0) (owed : s.boot.owed = 1 ∨ s.boot.owed = 2) : exec (.boot result) s = .next
    (match result with
      | .step => { s with boot := { s.boot with stage := nextStage s } }
      | .ok =>
        let t := { s with boot := { s.boot with stage := 0x0F, err := 0, warm := decide (s.boot.owed = 2), ready := true, owed := 0, abortIrq := false } }
        if s.boot.abortIrq = true then fire 18 t else t
      | .failed err =>
        if !(1 ≤ err && err ≤ 4) then s
        else { s with fresh := s.fresh + 1, boot := { s.boot with stage := max s.boot.stage (failedStage s err), err, ready := false, owed := 0 } }) := by
  have runs : ¬ (decide (s.badger.ctlHeld ≠ 0) || !(decide (s.boot.owed = 1) || decide (s.boot.owed = 2))) = true := by
    rcases owed with owed | owed <;> simp [free, owed]
  change execBoot result s = _
  rw [execBoot.eq_def]
  refine (congrArg Host.Outcome.next (if_neg runs)).trans ?_
  cases result <;> rfl

/-- Settles O20: the boot by `exec_boot`, the replay by its own equations. -/
theorem bootAndReplay : Obligations.BootAndReplay := by
  refine ⟨fun s free owed => exec_boot .step free owed, fun s free owed => exec_boot .ok free owed, ?_, ?_, ?_, ?_, fun level s => rfl⟩
  · intro err s free owed low high
    refine ⟨failedStage s err, ?_, ?_, ?_, ?_⟩
    · rw [exec_boot (.failed err) free owed]
      simp only [low, high, decide_true, Bool.and_self, Bool.not_true, Bool.false_eq_true, if_false]
    all_goals
      rintro rfl
      rfl
  · intro s replays ready
    change execJournalReplay s = _
    rw [execJournalReplay, replays, ready]
    simp only [Bool.not_true, Bool.or_self, Bool.false_eq_true, if_false, Bool.or_eq_true, Bool.not_eq_true', List.isEmpty_eq_false_iff]
    by_cases through : replayTodo (replayFrom 64 s) = [] ∧ commandRuns (replayFrom 64 s) = false
    · rw [if_pos through, if_neg (by simp [through])]
    · rw [if_neg through, if_pos (by simpa [or_iff_not_imp_left] using through)]
  · intro k s j rest todo
    rw [replayFrom, todo]
  · intro k s empty
    cases k with
    | zero => rfl
    | succ k => rw [replayFrom, empty]

end Sys2Proof.Machine
end

section
/-! SUPPORT. The settings that can be staged (R101, R103): staged ones join their set, immediate ones write their fields. -/

namespace Sys2Proof.Machine

theorem next_runStaged {op : Nat} {len : Nat → Bool} {e : Env} {s : State} {i : Instr} {claims : List Claim} {chk : State → Chk} {side : State → State}
    (turn : inTurn e s = true) (passed : stageVerdict op len ⟨i, claims, false, true⟩ chk e s = none) :
    (.next (runStaged i op len claims chk side e s) : Host.Outcome State Fault Refusal)
      = .next (respond e op (okV []) (if staged e = true then stageChange e.setId ⟨i, claims, false, true⟩ s else side (updCfg (cfgUpd s.build i) s))) :=
  congrArg _ (runStaged_of_passed turn passed)

/-- Settles O24: every setting is a register-like change, by `runStaged_of_passed`. -/
theorem portSettingsComplete : Obligations.PortSettingsComplete := by
  unfold Obligations.PortSettingsComplete
  refine ⟨?_, ?_, ?_, ?_, ?_, ?_, ?_, ?_, ?_, ?_, ?_, ?_, ?_, ?_⟩ <;> exact fun e s turn passed => next_runStaged turn passed

/-- Settles O25: every setting is a register-like change, by `runStaged_of_passed`. -/
theorem forwardingSettingsComplete : Obligations.ForwardingSettingsComplete := by
  unfold Obligations.ForwardingSettingsComplete
  refine ⟨?_, ?_, ?_, ?_, ?_, ?_, ?_, ?_, ?_, ?_, ?_, ?_, ?_⟩ <;> exact fun e s turn passed => next_runStaged turn passed

/-- Settles O26: every setting is a register-like change, by `runStaged_of_passed`. -/
theorem edgeSettingsComplete : Obligations.EdgeSettingsComplete := by
  unfold Obligations.EdgeSettingsComplete
  refine ⟨?_, ?_, ?_, ?_, ?_, ?_, ?_, ?_, ?_⟩ <;> exact fun e s turn passed => next_runStaged turn passed

end Sys2Proof.Machine
end

section
/-! SUPPORT. Entries, flows, gate lists and scheduling that can be staged (R101, R103, R204, R259, R301, R320). -/

namespace Sys2Proof.Machine

theorem cfg_updCfg (f : Cfg → Cfg) (s : State) : cfg (updCfg f s) = f (cfg s) := by
  unfold cfg cfgAt updCfg
  cases s.quad.parity <;> rfl

section
variable {op : Nat} {len : Nat → Bool} {e : Env} {s : State} {i : Instr} {claims : List Claim} {chk : State → Chk} {table : Bool} {atStage : State → State}
  {imm : State → State × Verdict}

theorem next_runStagedV {data : List Byte} (turn : inTurn e s = true) (passed : stageVerdict op len ⟨i, claims, table, true⟩ chk e s = none) :
    (.next (runStagedV i op len claims table chk atStage data imm e s) : Host.Outcome State Fault Refusal)
      = .next (if staged e = true then respond e op (okV data) (stageChange e.setId ⟨i, claims, table, true⟩ (atStage s)) else respond e op (imm s).2 (imm s).1) :=
  congrArg _ (runStagedV_of_passed turn passed)

/-- A stageable command that answers the same data staged and at once. -/
theorem next_runStagedV_same {data : List Byte} {now : State → State} (turn : inTurn e s = true) (passed : stageVerdict op len ⟨i, claims, table, true⟩ chk e s = none) :
    (.next (runStagedV i op len claims table chk atStage data (fun s => (now s, okV data)) e s) : Host.Outcome State Fault Refusal)
      = .next (respond e op (okV data) (if staged e = true then stageChange e.setId ⟨i, claims, table, true⟩ (atStage s) else now s)) := by
  rw [next_runStagedV turn passed]
  split <;> rfl

end

/-! Entries of tables and of the MAC table. -/

theorem exec_entryWrite {e : Env} {s : State} (turn : inTurn e s = true)
    (passed : stageVerdict 0x0503 (fun n => !s.tables.tables.has (fld e.payload 0 2) || n = entryLen (eTable e s))
      ⟨.entryWrite e, [entryClaim (fld e.payload 0 2) (entryOfPayload (eTable e s) e.payload)], true, true⟩ (entryWriteChk e) e s = none) :
    exec (.entryWrite e) s = .next (respond e 0x0503
      (okV (leB 4 (if staged e = true then newHandle s (eTable e s) else match entryStanding s (eTable e s) 0 (entryOfPayload (eTable e s) e.payload) with
        | some y => y.handle
        | none => newHandle s (eTable e s))))
      (if staged e = true then stageChange e.setId ⟨.entryWrite e, [entryClaim (fld e.payload 0 2) (entryOfPayload (eTable e s) e.payload)], true, true⟩
          (entryStage (fld e.payload 0 2) e.setId (entryOfPayload (eTable e s) e.payload) s)
        else { updTable (fld e.payload 0 2) (entryPut s (entryOfPayload (eTable e s) e.payload)) s with fresh := s.fresh + 1 })) := by
  change execEntryWrite e s = _
  have drawn : (updTable (fld e.payload 0 2) (entryPut s (entryOfPayload (eTable e s) e.payload)) s).fresh = s.fresh := by simp
  rw [execEntryWrite, next_runStagedV turn passed, ← drawn]
  split <;> rfl

theorem exec_entryDelete {e : Env} {s : State} {y : Entry} (named : entryNamed e (if staged e then setView e.setId s else s) (eTable e s) (eSet e) = some y)
    (turn : inTurn e s = true)
    (passed : stageVerdict 0x0504 (fun n => if bitN (byteAt e.payload 2) 2 then n = 12 else !s.tables.tables.has (fld e.payload 0 2) || n = entryLen (eTable e s))
      ⟨.entryDelete e, deleteClaims e (eTable e s), true, true⟩ (entryDeleteChk e) e s = none) :
    exec (.entryDelete e) s = .next (respond e 0x0504 (okV []) (if staged e = true
      then stageChange e.setId ⟨.entryDelete e, deleteClaims e (eTable e s), true, true⟩ (updTable (fld e.payload 0 2) (entryStageOut s.quad.parity e.setId y) s)
      else updTable (fld e.payload 0 2) (fun t => { t with entries := t.entries.filter (fun z => z ≠ y) }) s)) := by
  change execEntryDelete e s = _
  rw [execEntryDelete, named]
  exact next_runStagedV_same turn passed

theorem macAddNow_of_new {e : Env} {s : State} (new : ∀ x, x ∈ s.tables.mac → macIs e x = true → x.staged ≠ 0) :
    macAddNow e s = macInsert (macAddEntry e 3 0) s := by
  have none : s.tables.mac.any (fun x => macIs e x && decide (x.staged = 0)) = false :=
    List.any_eq_false.mpr fun x member => by simpa using new x member
  rw [macAddNow]
  dsimp only
  rw [if_neg (Bool.eq_false_iff.mp none)]

theorem macAddNow_of_standing {e : Env} {x : MacEntry} {s : State} (member : x ∈ s.tables.mac) (is : macIs e x = true) (inForce : x.staged = 0) :
    { macAddEntry e 3 0 with slot := x.slot } ∈ (macAddNow e s).tables.mac ∧ (macAddNow e s).tables.mac.length = s.tables.mac.length := by
  have old : (macIs e x && decide (x.staged = 0)) = true := by simp [is, inForce]
  have some : s.tables.mac.any (fun x => macIs e x && decide (x.staged = 0)) = true := List.any_eq_true.mpr ⟨x, member, old⟩
  rw [macAddNow]
  dsimp only
  rw [if_pos some]
  exact ⟨List.mem_map.mpr ⟨x, member, if_pos old⟩, List.length_map _⟩

/-! Flows. -/

theorem exec_flowAdd {e : Env} {s : State} {f : Nat} (chosen : flowChosen e s = some f) (turn : inTurn e s = true)
    (passed : stageVerdict 0x0B01 (lenIs 92) ⟨.flowAdd (flowAddEnv e f s), flowClaims f, false, true⟩ (flowAddChk e) e s = none) :
    ∃ k l, exec (.flowAdd e) s = .next (respond e 0x0B01 (okV (leB 4 f)) (if staged e = true
      then stageChange e.setId ⟨.flowAdd (flowAddEnv e f s), flowClaims f, false, true⟩
        (stageKey f e.setId ((cfgUpd s.build (.flowAdd (flowAddEnv e f s)) (cfg s)).flows.get? f) { s with fresh := k })
      else { flowNow (.flowAdd (flowAddEnv e f s)) f s with fresh := l })) := by
  have drawn (c : Bool) (u : State) : ∃ k, (if c then { u with fresh := u.fresh + 1 } else u) = { u with fresh := k } := by
    cases c
    · exact ⟨u.fresh, rfl⟩
    · exact ⟨u.fresh + 1, rfl⟩
  obtain ⟨k, atStage⟩ := drawn (fld e.payload 0 4 = 0xFFFFFFFF || foreignFlow s f) s
  obtain ⟨l, atOnce⟩ := drawn (fld e.payload 0 4 = 0xFFFFFFFF || foreignFlow (flowNow (.flowAdd (flowAddEnv e f s)) f s) f)
    (flowNow (.flowAdd (flowAddEnv e f s)) f s)
  refine ⟨k, l, ?_⟩
  change execFlowAdd e s = _
  rw [execFlowAdd, chosen]
  dsimp only [Option.getD_some]
  rw [next_runStagedV_same turn passed, atStage, atOnce]

theorem flowNow_modify (e : Env) (s : State) : flowNow (.flowModify e) (fld e.payload 0 4) s
    = flowSettle (fld e.payload 0 4) ((cfg s).flows.get? (fld e.payload 0 4)) (((cfg s).flows.get? (fld e.payload 0 4)).map (flowModified e.payload))
        (updCfg (fun c => { c with flows := c.flows.mapV (fun f x => if f = fld e.payload 0 4 then flowModified e.payload x else x) }) s) := by
  have found : (cfg (updCfg (cfgUpd s.build (.flowModify e)) s)).flows.get? (fld e.payload 0 4)
      = ((cfg s).flows.get? (fld e.payload 0 4)).map (flowModified e.payload) := by
    rw [cfg_updCfg]
    refine (KMap.get?_mapV (cfg s).flows _ (fun f x => if f = fld e.payload 0 4 then flowModified e.payload x else x)).trans ?_
    simp only [if_true]
  rw [flowNow, found]
  rfl

theorem flowNow_delete (e : Env) (s : State) : flowNow (.flowDelete e) (fld e.payload 0 4) s
    = flowSettle (fld e.payload 0 4) ((cfg s).flows.get? (fld e.payload 0 4)) none (updCfg (fun c => { c with flows := c.flows.del (fld e.payload 0 4) }) s) := by
  have gone : (cfg (updCfg (cfgUpd s.build (.flowDelete e)) s)).flows.get? (fld e.payload 0 4) = none := by
    rw [cfg_updCfg]
    exact KMap.get?_del_same (cfg s).flows _
  rw [flowNow, gone]
  rfl

/-- Settles O27: each change by `runStagedV_of_passed`. -/
theorem entriesAndFlowsComplete : Obligations.EntriesAndFlowsComplete := by
  unfold Obligations.EntriesAndFlowsComplete
  refine ⟨?_, fun e s y named turn passed => exec_entryDelete named turn passed, fun e s turn passed => next_runStagedV_same turn passed, fun e s new => macAddNow_of_new new,
    fun e x s member is inForce => macAddNow_of_standing member is inForce, fun e s turn passed => next_runStagedV_same turn passed, ?_, ?_, ?_⟩
  · rintro e s t x rfl rfl ch turn passed
    refine ⟨_, exec_entryWrite turn passed, fun new => ?_, fun y atOnce standing => ?_⟩
    · rcases new with isStaged | none
      · rw [if_pos isStaged]
      · rw [none]; split <;> rfl
    · rw [if_neg (Bool.eq_false_iff.mp atOnce), standing]
  · intro e s f chosen ch turn passed
    obtain ⟨k, l, run⟩ := exec_flowAdd chosen turn passed
    exact ⟨_, run, fun isStaged => ⟨k, if_pos isStaged⟩, fun atOnce => ⟨l, if_neg (Bool.eq_false_iff.mp atOnce)⟩⟩
  · intro e s ch turn passed
    rw [← flowNow_modify]
    exact next_runStagedV_same turn passed
  · intro e s ch turn passed
    rw [← flowNow_delete]
    exact next_runStagedV_same turn passed

/-! Gate lists and scheduling. -/

/-- What starting a list on a port leaves and answers. -/
theorem gateArm_eq (p : Nat) (g : GateList) (s : State) : ∃ start v, gateArm p g s
    = (settleHold p (changeLists p (fun x => { x with next := some (g, start), flipWait := false }) s), v) ∧ (v.status = 0x00 ∨ v.status = 0x0C) := by
  refine ⟨_, _, rfl, ?_⟩
  split
  · exact .inr rfl
  · exact .inl rfl

theorem gateOn_gateListSet (e : Env) (s : State) : (cfg (updCfg (cfgUpd s.build (.gateListSet e)) s)).gateOn = (cfg s).gateOn := by
  rw [cfg_updCfg]; rfl

/-- Settles O28: each change by `runStagedV_of_passed`, the start of a list by `gateArm_eq`. -/
theorem gateAndSchedulingChangesComplete : Obligations.GateAndSchedulingChangesComplete := by
  unfold Obligations.GateAndSchedulingChangesComplete
  refine ⟨?_, ?_, fun e s turn passed => next_runStagedV_same turn passed, fun e s turn passed => next_runStagedV_same turn passed,
    fun e s turn passed => next_runStagedV_same turn passed⟩
  · intro e s ch turn passed
    have run : exec (.gateListSet e) s = .next _ := next_runStagedV turn passed
    rw [run]
    dsimp only
    rw [gateOn_gateListSet]
    by_cases isStaged : staged e = true
    · rw [if_pos isStaged]
      exact ⟨_, _, rfl, .inl rfl, fun _ => ⟨rfl, rfl⟩, fun atOnce => absurd isStaged (Bool.eq_false_iff.mp atOnce), fun atOnce => absurd isStaged (Bool.eq_false_iff.mp atOnce)⟩
    · rw [if_neg isStaged]
      by_cases on : ePort e ∈ (cfg s).gateOn
      · obtain ⟨start, v, armed, status⟩ := gateArm_eq (ePort e) (gateListOf e.payload) (updCfg (cfgUpd s.build (.gateListSet e)) s)
        rw [if_pos on, armed]
        exact ⟨_, _, rfl, status, fun h => absurd h isStaged, fun _ off => absurd on off, fun _ _ => ⟨start, rfl⟩⟩
      · rw [if_neg on]
        exact ⟨_, _, rfl, .inl rfl, fun h => absurd h isStaged, fun _ _ => rfl, fun _ h => absurd h on⟩
  · intro e s g list ch turn passed
    have run : exec (.gateEnableOn e) s = .next _ := next_runStagedV turn passed
    rw [run, list]
    by_cases isStaged : staged e = true
    · rw [if_pos isStaged]
      exact ⟨_, _, rfl, .inl rfl, fun _ => rfl, fun atOnce => absurd isStaged (Bool.eq_false_iff.mp atOnce), fun atOnce => absurd isStaged (Bool.eq_false_iff.mp atOnce)⟩
    · rw [if_neg isStaged]
      by_cases on : ePort e ∈ (cfg s).gateOn
      · rw [if_pos on]
        exact ⟨_, _, rfl, .inl rfl, fun h => absurd h isStaged, fun _ _ => rfl, fun _ off => absurd on off⟩
      · obtain ⟨start, v, armed, status⟩ := gateArm_eq (ePort e) g (updCfg (cfgUpd s.build (.gateEnableOn e)) s)
        rw [if_neg on]
        dsimp only
        rw [armed]
        exact ⟨_, _, rfl, status, fun h => absurd h isStaged, fun _ h => absurd h on, fun _ _ => ⟨start, rfl⟩⟩

end Sys2Proof.Machine
end

section
/-! SUPPORT. SYS and QUAD commands (R90, R94, R101 to R121, R499, R501) and the events of a set. -/

namespace Sys2Proof.Machine

/-! What a command does once its checks pass. -/

section
variable {op : Nat} {len : Nat → Bool} {chk : Chk} {e : Env} {s : State}

theorem runCmd_of_passed {eff : State → State} (turn : inTurn e s = true) (passed : cmdVerdict op len chk e s = none) : runCmd op len chk e eff s = eff s := by
  simp only [runCmd, ifTurn, turn, passed, if_true]

theorem runOk_of_passed {data : State → List Byte} {eff : State → State} (turn : inTurn e s = true) (passed : cmdVerdict op len chk e s = none) :
    runOk op len chk e data eff s = respond e op (okV (data s)) (eff s) := runCmd_of_passed turn passed

theorem next_runCmd {eff : State → State} (turn : inTurn e s = true) (passed : cmdVerdict op len chk e s = none) :
    (.next (runCmd op len chk e eff s) : Host.Outcome State Fault Refusal) = .next (eff s) := congrArg _ (runCmd_of_passed turn passed)

theorem next_runOk {data : State → List Byte} {eff : State → State} (turn : inTurn e s = true) (passed : cmdVerdict op len chk e s = none) :
    (.next (runOk op len chk e data eff s) : Host.Outcome State Fault Refusal) = .next (respond e op (okV (data s)) (eff s)) := congrArg _ (runOk_of_passed turn passed)

theorem next_runOtd {fields : List (Nat × Bool)} {more : List (Option Verdict)} {eff : State → State × List Byte}
    (passed : otdVerdict op len fields more e s = none) :
    (.next (runOtd op len fields more eff e s) : Host.Outcome State Fault Refusal) = .next (respond e op (okV (eff s).2) (eff s).1) := by
  rw [runOtd, passed]

end

/-- Settles O21: each command by `runCmd_of_passed`. -/
theorem sysCommandsComplete : Obligations.SysCommandsComplete := by
  unfold Obligations.SysCommandsComplete
  refine ⟨fun e s turn passed => next_runOk turn passed, fun e s turn passed => ⟨_, next_runOk turn passed, rfl, rfl, rfl, rfl, rfl, KMap.get?_set_same _ _ _⟩,
    fun e s turn passed => next_runCmd turn passed, fun e s turn passed => next_runCmd turn passed, fun e s turn passed => next_runCmd turn passed,
    fun e s turn passed => ⟨_, rfl, ?_⟩, fun e s turn passed => next_runOk turn passed, fun e s turn passed => next_runOk turn passed,
    fun e s turn passed => ?_⟩
  · refine (next_runCmd turn passed).trans ?_
    have asked : (askReset 3 0x0103 e s).boot.resetAsked = some (3, e) := by simp [askReset]
    rw [ctlDue, asked]; rfl
  · refine (next_runCmd turn passed).trans ?_
    simp only [Bool.or_eq_true, decide_eq_true_eq]

/-! The sets. -/

theorem exec_quadCheck {e : Env} {q : QSet} {s : State} (found : findSet s (fld e.payload 0 2) = some q) (noGate : gateWaits s q = false) (loose : setLoose q = true)
    (turn : inTurn e s = true) (passed : cmdVerdict 0x0202 (lenIs 4) {} e s = none)
    (judged : judgeSet (retryHeld (fld e.payload 0 2) (nameSet (fld e.payload 0 2) s)) q (fld e.payload 2 2) = none) :
    exec (.quadCheck e) s = .next (respond e 0x0202 (okV (leB 2 q.id ++ leB 2 0 ++ leB 4 (changeCount q.changes)))
        (updSet (fld e.payload 0 2) (fun x => { x with st := .checked }) (retryHeld (fld e.payload 0 2) (nameSet (fld e.payload 0 2) s)))) := by
  change execQuadCheck e s = _
  simp only [execQuadCheck, found, ifTurn, turn, noGate, loose, Bool.false_eq_true, if_false, if_true, passed, judged, checkData, List.length_nil, List.drop_nil,
    List.take_nil, List.flatMap_nil, List.append_nil]

theorem runApply_of_passed {e : Env} {mode : Nat} {q : QSet} {refused : QSet → State → Bool} {go : QSet → State → State} {s : State}
    (found : findSet s (fld e.payload 0 2) = some q) (turn : inTurn e s = true) (passed : cmdVerdict 0x0203 (lenIs 20) (applyChk e mode (some q) s) e s = none)
    (judged : judgeSet (retryHeld (fld e.payload 0 2) (nameSet (fld e.payload 0 2) s)) q 0 = none) (inTime : refused q s = false) :
    runApply e mode refused go s = go q (retryHeld (fld e.payload 0 2) (nameSet (fld e.payload 0 2) s)) := by
  simp only [runApply, ifTurn, turn, found, passed, judged, inTime, Bool.false_eq_true, if_false, if_true]

theorem exec_quadAbort {e : Env} {q : QSet} {s : State} (found : findSet s (fld e.payload 0 2) = some q) (turn : inTurn e s = true)
    (passed : cmdVerdict 0x0204 (lenIs 2) {} e s = none) (live : q.st ≠ .normalising) (early : ¬ (q.st = .armed ∧ nearFlip s q = true)) :
    exec (.quadAbort e) s = .next (respond e 0x0204 (okV []) (abortSet (fld e.payload 0 2) (answerOwed q (cancelVote (fld e.payload 0 2) s)))) := by
  have standing : (if q.st = .normalising || (q.st = .armed && nearFlip s q) then some 2 else none) = (none : Option Nat) := if_neg (by simpa [live] using early)
  change execQuadAbort e s = _
  simp only [execQuadAbort, found, standing]
  exact next_runOk turn passed

theorem exec_quadStatus {e : Env} {q : QSet} {s : State} (found : findSet s (fld e.payload 0 2) = some q) (turn : inTurn e s = true)
    (passed : cmdVerdict 0x0205 (lenIs 2) {} e s = none) :
    exec (.quadStatus e) s = .next (respond e 0x0205 (okV (leB 1 (setStNum q.st) ++ leB 1 0 ++ leB 4 (changeCount q.changes) ++ leB 8 (q.effective / 65536)
      ++ leB 2 (q.effective % 65536) ++ if q.domain then leB 2 q.culprit else [])) (nameSet (fld e.payload 0 2) s)) := by
  have checks : cmdVerdict 0x0205 (lenIs 2) (quadStatusChk e s) e s = none := by
    rw [← passed]
    simp only [quadStatusChk, found]
    rfl
  change execQuadStatus e s = _
  rw [execQuadStatus, found]
  exact next_runOk turn checks

/-- Settles O22: each command by `runOk_of_passed` or `runApply_of_passed`. -/
theorem quadrilleCommandsComplete : Obligations.QuadrilleCommandsComplete := by
  unfold Obligations.QuadrilleCommandsComplete
  refine ⟨?_, fun e q s found noGate loose turn passed judged => exec_quadCheck found noGate loose turn passed judged, ?_, ?_, ?_, ?_, ?_⟩
  · intro e s turn passed
    refine ⟨(openId e s).getD 0, _, next_runOk turn passed, rfl, fun named => ?_⟩
    rw [openId, if_pos named]; rfl
  · exact fun e q s found turn passed judged => congrArg Host.Outcome.next (runApply_of_passed found turn passed judged rfl)
  · exact fun e q s found turn passed judged inTime =>
      ⟨_, rfl, congrArg Host.Outcome.next (runApply_of_passed found turn passed judged (decide_eq_false (not_lt.mpr inTime)))⟩
  · intro e q s found turn passed judged deadline inTime
    have sez : (retryHeld (fld e.payload 0 2) (nameSet (fld e.payload 0 2) s)).sez = s.sez :=
      agree_of_view (μ := fun p => p == .tables || p == .fresh || p == .quad) ((view_retryHeld rfl rfl _ _).trans (view_nameSet rfl _ s)) .sez rfl
    have late : (decide (timeAhead s (fld e.payload 12 8) < 1000000)
        || decide (timeAhead s (fld e.payload 4 8) < timeAhead s (fld e.payload 12 8) + 1000000)) = false := by
      rw [decide_eq_false (not_lt.mpr deadline), decide_eq_false (not_lt.mpr inTime)]; rfl
    exact ⟨_, _, rfl, rfl, rfl, rfl, by rw [sez], rfl, congrArg Host.Outcome.next (runApply_of_passed found turn passed judged late)⟩
  · exact fun e q s found turn passed live early => exec_quadAbort found turn passed live early
  · exact fun e q s found turn passed => ⟨_, exec_quadStatus found turn passed, rfl⟩

/-! The events of a set. -/

theorem cfgAt_other_of_flip (s : State) (c : Cfg) :
    cfgAt (if s.quad.parity then { s with bank0 := c } else { s with bank1 := c }) (!s.quad.parity) = c
    ∧ cfgAt (if s.quad.parity then { s with bank0 := c } else { s with bank1 := c }) s.quad.parity = cfg s := by
  cases parity : s.quad.parity <;> simp [cfg, cfgAt, parity]

theorem exec_quadArmed {id : Nat} {q : QSet} {s : State} (found : findSet s id = some q) (applying : q.applying = true) (may : mayArm s id = true) :
    ∃ t, exec (.quadArmed id) s = .next t
      ∧ BanksKept (if s.quad.parity then { s with bank0 := setCfg s.build q.changes (cfg s) } else { s with bank1 := setCfg s.build q.changes (cfg s) }) t := by
  refine ⟨_, rfl, ?_⟩
  rw [found]
  simp only [applying, may, Bool.not_true, Bool.or_self, Bool.false_eq_true, if_false]
  have missed (u : State) : BanksKept u (missedFlip q u) := banksKept_of_view (view_missedFlip rfl rfl rfl rfl q u)
  generalize (if s.quad.parity then _ else _ : State) = prepared
  cases q.owed with
  | none => exact (banksKept_updSet _ _ _).trans (missed _)
  | some a => exact ((banksKept_updSet _ _ _).trans (missed _)).trans (banksKept_respond _ _ _ _)

/-- Settles O23: the banks after arming and after the flip, and the end of a set by its own branch. -/
theorem quadrilleEventsComplete : Obligations.QuadrilleEventsComplete := by
  unfold Obligations.QuadrilleEventsComplete
  refine ⟨?_, fun id q s found due => exec_quadFlip_banks found due, ?_, ?_⟩
  · intro id q s found applying may
    obtain ⟨t, run, b0, b1, parity, -⟩ := exec_quadArmed found applying may
    obtain ⟨other, same⟩ := cfgAt_other_of_flip s (setCfg s.build q.changes (cfg s))
    refine ⟨t, run, ?_, ?_, parity.trans (by split <;> rfl)⟩
    · rw [← other]; simp only [cfgAt, b0, b1]
    · rw [← same]; simp only [cfgAt, b0, b1]
  · intro id q s found st passed
    change execNormalise id s = _
    simp only [execNormalise, found, st, passed, ne_eq, not_true_eq_false, decide_false, Bool.or_self, Bool.false_eq_true, if_false, finishSet]
  · intro id q s found loose limit late
    change execQuadIdleLimit id s = _
    simp only [execQuadIdleLimit, found, loose, limit, late, decide_true, Bool.and_self, if_true]

end Sys2Proof.Machine
end

section
/-! SUPPORT. PORT commands, the link state machine and the events of a port front (R35, R106, R136 to R144, R506). -/

namespace Sys2Proof.Machine

/-! Bringing a port up. -/

section
variable (p : Nat) (s : State)

theorem dom_adminUp : dom (adminUp p s) (p / 32) = if (dom s (p / 32)).st = .run then dom s (p / 32) else { dom s (p / 32) with pswEn := true, trans := .wakePsw } :=
  dom_updDom_same (p / 32) (fun d => if d.st = .run then d else { d with pswEn := true, trans := .wakePsw }) s

theorem port_adminUp (q : Nat) : port (adminUp p s) q = if q = p then
    (if (port s p).admin then port s p else { port s p with admin := true, link := .down, since := rawNs s, lfDown := false }) else port s q :=
  port_updPort p q _ _

/-! Reading the counters of a port. -/

theorem ctrOf_portCountersRead (scope id : Nat) (clear : Bool) (c : Ctr) : ctrOf (portCountersRead scope id clear s) c
    = if decide (c.fam = if scope = 0 then .port else .slice) && decide (c.unit = id) && (clear || decide (c.idx = if scope = 0 then 26 else 1)) then 0 else ctrOf s c := by
  refine Eq.trans ?_ (ctrOf_clearCtrs (fun c => decide (c.fam = if scope = 0 then .port else .slice) && decide (c.unit = id)
    && (clear || decide (c.idx = if scope = 0 then 26 else 1))) s c)
  unfold portCountersRead
  dsimp only
  split <;> rfl

end

/-- Settles O29: each command by `runOk_of_passed`, the port by `port_adminUp`, the counters by `ctrOf_portCountersRead`. -/
theorem portCommandsComplete : Obligations.PortCommandsComplete := by
  unfold Obligations.PortCommandsComplete
  refine ⟨?_, ?_, ?_, fun e s turn passed => next_runOk turn passed, ?_⟩
  · intro e s turn passed
    refine ⟨_, next_runOk turn passed, ?_, fun runs => ?_, fun off => ?_, fun down => ?_, fun up => ?_, fun q other => ?_⟩
    · rw [port_adminUp, if_pos rfl]
      split
      · assumption
      · rfl
    · rw [dom_adminUp, if_pos runs]
    · rw [dom_adminUp, if_neg off]; exact ⟨rfl, rfl⟩
    · rw [port_adminUp, if_pos rfl, down]; exact ⟨rfl, rfl⟩
    · rw [port_adminUp, if_pos rfl, if_pos up]
    · rw [port_adminUp, if_neg other]
  · exact fun e s turn passed allowed => (next_runCmd turn passed).trans (congrArg _ (if_neg (Bool.eq_false_iff.mp allowed)))
  · exact fun e s turn passed refused => (next_runCmd turn passed).trans (congrArg _ (if_pos refused))
  · intro e s turn passed
    refine ⟨_, _, next_runOk turn passed, rfl, rfl, fun clear scope i => ?_, fun scope p i other => ?_⟩
    · rw [ctrOf_portCountersRead, scope, clear]
      exact if_pos (by simp [pCtr])
    · rw [ctrOf_portCountersRead]
      exact if_neg (by simp [pCtr, other])

/-! The link state machine. -/

section
variable {p : Nat} {stat : LinkStat} {s : State} (fault : stat.linkUp = false ∨ stat.localFault = true ∨ stat.remoteFault = true)

/-- What a fault writes into the port's status. -/
def faultStat (p : Nat) (stat : LinkStat) (s : State) : State :=
  updPort p (fun x => { x with statUp := stat.linkUp, localFault := stat.localFault, remoteFault := stat.remoteFault }) s

include fault in
theorem exec_linkFault : exec (.linkFault p stat) s = .next (if (port s p).admin = false then faultStat p stat s
    else match (port s p).link with
      | .up => enterHeld p (faultStat p stat s)
      | .comingUp => linkWake p (updPort p (fun x => { x with link := .down, since := rawNs s }) (faultStat p stat s))
      | _ => faultStat p stat s) := by
  have faulty : (stat.linkUp && !stat.localFault && !stat.remoteFault) = false := by
    rcases fault with h | h | h <;> simp [h]
  change execLinkFault p stat s = _
  simp only [execLinkFault, faulty, Bool.false_eq_true, if_false, Bool.not_eq_true'] <;> rfl

end

theorem exec_linkFaultClear {p : Nat} {s : State} (admin : (port s p).admin = true) (link : (port s p).link = .down ∨ (port s p).link = .flushed) :
    exec (.linkFaultClear p) s = .next (enterComingUp p
      (updPort p (fun x => { x with statUp := true, localFault := false, remoteFault := false, clearSince := if noFault x then x.clearSince else rawNs s }) s)) := by
  change execLinkFaultClear p s = _
  rcases link with link | link <;> simp only [execLinkFaultClear, admin, link, Bool.not_true, Bool.false_eq_true, if_false]

theorem port_linkWake (p q : Nat) (s : State) : port (linkWake p s) q = port s q := port_congr (by simp) q

theorem sendVerify_eq (p tag : Nat) (s : State) : sendVerify p tag s = updPort p (fun x => { x with fifo := .own (padded []) tag :: x.fifo }) s := rfl

theorem exec_lpiExit {p t : Nat} {s : State} (low : (port s p).lpiTx = some t) (waits : portEmpty s p = false) :
    exec (.lpiExit p) s = .next (updPort p (fun x => { x with lpiReady := rawNs s + twOf s p })
        (emit (.lpi p false) (addCtr (pCtr p 21) ((rawNs s - t) / 1000) (updPort p (fun x => { x with lpiTx := none }) s)))) := by
  change execLpiExit p s = _
  simp only [execLpiExit, leaveLpi, endLpi, low, waits, Option.isSome_some, Option.isNone_some, Bool.not_false, Bool.true_or, Bool.and_self, if_true,
    Bool.false_eq_true, if_false]

/-! Preemption verification (R143). -/

section
variable {p : Nat} {s : State} (verifying : (port s p).pre = .verifying)
include verifying

theorem exec_preemptVerify_of_response : exec (.preemptVerify p .response) s = .next (updPort p (fun x => { x with pre := .active }) s) := by
  change execPreemptVerify p .response s = _
  simp [execPreemptVerify, verifying]

theorem exec_preemptVerify_of_timer
    (due : (port s p).verifyTries = 0 ∨ (port s p).verifyAt + ((cfg s).preempt.getD p {}).verifyTime * 1000000 ≤ rawNs s) :
    exec (.preemptVerify p .timer) s = .next (if (port s p).verifyTries < 3 then
      sendVerify p 5 (updPort p (fun x => { x with verifyTries := x.verifyTries + 1, verifyAt := rawNs s }) s)
      else updPort p (fun x => { x with pre := .failed }) s) := by
  change execPreemptVerify p .timer s = _
  have isDue : (decide ((port s p).verifyTries = 0) || decide ((port s p).verifyAt + ((cfg s).preempt.getD p {}).verifyTime * 1000000 ≤ rawNs s)) = true := by
    simpa using due
  simp only [execPreemptVerify, verifying, isDue, reduceCtorEq, if_false, ne_eq, not_true_eq_false, Bool.not_true, Bool.false_eq_true]

end

theorem exec_denDrain {sl : Nat} {d : DenFrame} {rest : List DenFrame} {s : State} (takes : coreTakes s sl = true) (den : (slice s sl).den = d :: rest)
    (room : stagingFill s sl + d.frame.data.length + 4 ≤ 65536) :
    exec (.denDrain sl) s = .next (if denFill (toIngress d.frame (updSlice sl (fun x => { x with den := rest }) s)) sl < 524288
      then updSlice sl (fun x => { x with denLf := false }) (toIngress d.frame (updSlice sl (fun x => { x with den := rest }) s))
      else toIngress d.frame (updSlice sl (fun x => { x with den := rest }) s)) := by
  change execDenDrain sl s = _
  simp only [execDenDrain, takes, den, Bool.not_true, Bool.false_eq_true, if_false, not_lt.mpr room]

/-- Settles O30: each event by the branch of its meaning that the premises choose. -/
theorem portEventsComplete : Obligations.PortEventsComplete := by
  unfold Obligations.PortEventsComplete
  refine ⟨?_, ?_, ?_, ?_, ?_, ?_, ?_, ?_, ?_, fun p t s low waits => exec_lpiExit low waits, ?_, ?_,
    fun p s verifying => exec_preemptVerify_of_response verifying, ?_, ?_, ?_, ?_, ?_, ?_⟩
  · intro p stat s fault admin link
    refine ⟨_, _, exec_linkFault fault, ?_, rfl⟩
    rw [admin, link]; rfl
  · intro p stat s fault admin link
    refine ⟨_, exec_linkFault fault, ?_⟩
    rw [admin, link, if_neg Bool.noConfusion]
    refine ⟨?_, fun q other => ?_⟩
    · rw [port_linkWake, port_updPort, if_pos rfl]
    · rw [port_linkWake, port_updPort, if_neg other, faultStat, port_updPort, if_neg other]
  · intro p s admin link
    refine ⟨_, exec_linkFaultClear admin link, ?_, ?_, fun q other => ?_⟩
    · rw [enterComingUp, port_linkWake, port_updPort, if_pos rfl]; rfl
    · rw [enterComingUp, port_linkWake, port_updPort, if_pos rfl]; rfl
    · rw [enterComingUp, port_linkWake, port_updPort, if_neg other, port_updPort, if_neg other]
  · intro p s admin link settled
    change execLinkUp p s = _
    rcases link with link | link <;> simp [execLinkUp, admin, link, settled]
  · intro p s admin link expired unsettled
    change execLinkHoldExpiry p s = _
    simp [execLinkHoldExpiry, admin, link, expired, unsettled]
  · intro p stat s off
    refine ⟨_, rfl, ?_⟩
    simp only [off, Bool.not_false, if_true]
    split
    · rfl
    · rw [port_updPort, if_pos rfl]
  · intro p prio t s paused past
    change execPauseExpiry p prio s = _
    simp only [execPauseExpiry, paused, past, if_true]
  · intro p prio t s xoff filled past
    change execXoffRefresh p prio s = _
    simp only [execXoffRefresh, xoff, filled, past, decide_true, Bool.and_self, if_true]
  · intro p s enabled link none empty idle
    change execLpiEnter p s = _
    simp only [execLpiEnter, enabled, link, none, empty, idle, Option.isNone_none, decide_true, Bool.and_self, if_true]
  · intro p s awake
    change execPartnerLpi p true s = _
    simp only [execPartnerLpi, awake]
  · intro p t s low
    change execPartnerLpi p false s = _
    simp only [execPartnerLpi, low]
  · intro p s verifying tries past
    rw [exec_preemptVerify_of_timer verifying (.inr past), if_neg (not_lt.mpr tries)]
  · intro p s verifying tries due
    rw [exec_preemptVerify_of_timer verifying due, if_pos tries, sendVerify_eq]
  · intro p s enabled link
    change execPreemptVerify p .request s = _
    simp only [execPreemptVerify, enabled, link, decide_true, Bool.and_self, if_true, sendVerify_eq]
  · intro sl lane sub s slice lane16 runs noPort
    change execStrayWord sl lane sub s = _
    rw [execStrayWord, List.any_eq_false.mpr fun x member => by simp [noPort x member]]
    simp only [slice, lane16, runs, decide_true, Bool.not_false, Bool.and_self, if_true]
  · intro sl s takes empty
    change execDenDrain sl s = _
    simp only [execDenDrain, takes, empty, Bool.not_true, Bool.false_eq_true, if_false]
  · exact fun sl d rest s takes den room => ⟨_, rfl, exec_denDrain takes den room⟩

end Sys2Proof.Machine
end

section
/-! SUPPORT. Frames on the wire: received ones are judged and counted (R126, R127, R163), sent ones carry their stamp and their hint (R50 to R54, R170 to R173). -/

namespace Sys2Proof.Machine

/-! Received frames. -/

section
variable {f : RxFrame} {s : State}

theorem exec_rxFrame_of_good (takes : receives s f.port = true) (good : rxCase (cfg s) f = 0) : exec (.rxFrame f) s = .next (passOn (rxStamped f false (countLoad f.port false f.bytes.length s))
    (addCtr (pCtr f.port 1) (min f.bytes.length (maxFrame (cfg s) f.port + 1)) (bump (pCtr f.port 0) (countLoad f.port false f.bytes.length s)))) := by
  change execRxFrame f s = _
  have good' : rxCase (cfg (countLoad f.port false f.bytes.length s)) f = 0 := good
  rw [execRxFrame, takes, if_neg (by decide)]
  dsimp only
  rw [good']
  rfl

/-- A pause or PFC frame ends at the MAC. -/
theorem exec_rxFrame_of_pause (takes : receives s f.port = true) (pause : rxCase (cfg s) f = 7 ∨ rxCase (cfg s) f = 8) : ∃ t n outcome, exec (.rxFrame f) s
      = .next (meterEvent f.port false n outcome noFlow (bump (pCtr f.port (rxCase (cfg s) f)) t))
    ∧ view (fun p => p == .ports) t = view (fun p => p == .ports) s := by
  have rxCase_eq : rxCase (cfg (countLoad f.port false f.bytes.length s)) f = rxCase (cfg s) f := rfl
  refine ⟨if rxCase (cfg s) f = 7 then actPause f.port f.bytes (countLoad f.port false f.bytes.length s) else actPfc f.port f.bytes (countLoad f.port false f.bytes.length s),
    min f.bytes.length (maxFrame (cfg s) f.port + 1), 7, ?_, ?_⟩
  · change execRxFrame f s = _
    rw [execRxFrame, takes, if_neg (by decide)]
    dsimp only
    rw [rxCase_eq, if_pos (by simpa using pause)]
    rfl
  · split
    · exact (view_actPause rfl ..).trans (view_countLoad rfl ..)
    · exact (view_actPfc rfl ..).trans (view_countLoad rfl ..)

/-- A bad frame, with no cut-through pair, ends where it is counted. -/
theorem exec_rxFrame_of_bad (takes : receives s f.port = true) (low : 1 < rxCase (cfg s) f) (high : rxCase (cfg s) f < 7) (noCut : (cfg s).cut = []) :
    exec (.rxFrame f) s = .next (meterEvent f.port false (min f.bytes.length (maxFrame (cfg s) f.port + 1)) (rxOutcome (rxCase (cfg s) f)) noFlow
      (bump (pCtr f.port (rxCase (cfg s) f)) (countLoad f.port false f.bytes.length s))) := by
  have rxCase_eq : rxCase (cfg (countLoad f.port false f.bytes.length s)) f = rxCase (cfg s) f := rfl
  have cut_eq : (cfg (countLoad f.port false f.bytes.length s)).cut = [] := noCut
  have notPause : (decide (rxCase (cfg s) f = 7) || decide (rxCase (cfg s) f = 8)) = false := by
    simp only [Bool.or_eq_false_iff, decide_eq_false_iff_not]
    omega
  change execRxFrame f s = _
  rw [execRxFrame, takes, if_neg (by decide)]
  dsimp only
  rw [rxCase_eq, notPause, cut_eq, if_neg Bool.false_ne_true, if_neg (by omega), if_neg (by simp)]
  rfl

end

theorem ctrOf_meterEvent (p : Nat) (transmit : Bool) (len outcome flow : Nat) (s : State) (c : Ctr) : ctrOf (meterEvent p transmit len outcome flow s) c = ctrOf s c :=
  ctrOf_congr (agree_of_view (μ := fun p => p == .otd) (view_meterEvent rfl p transmit len outcome flow s) .ctr rfl) c

/-- Settles O32: the cases of a frame by `exec_rxFrame_of_good`, `_of_pause`, `_of_bad`, and `rxCase` branch by branch. -/
theorem receiveJudgesFrames : Obligations.ReceiveJudgesFrames := by
  unfold Obligations.ReceiveJudgesFrames
  refine ⟨fun f s takes good => ⟨_, rfl, exec_rxFrame_of_good takes good⟩, ?_, ?_, ?_, ?_, ?_, ?_, ?_, ?_, ?_⟩
  · intro f s takes pause
    obtain ⟨t, n, outcome, run, same⟩ := exec_rxFrame_of_pause takes pause
    have slices : t.slices = s.slices := agree_of_view same .slices rfl
    have buf : t.buf = s.buf := agree_of_view same .buf rfl
    have ctr : t.ctr = s.ctr := agree_of_view same .ctr rfl
    refine ⟨_, run, ?_, ?_, ?_⟩
    · exact (agree_of_view (μ := fun p => p == .otd) (view_meterEvent rfl ..) .slices rfl : (meterEvent ..).slices = _).trans slices
    · exact (agree_of_view (μ := fun p => p == .otd) (view_meterEvent rfl ..) .buf rfl : (meterEvent ..).buf = _).trans buf
    · rw [ctrOf_meterEvent, ctrOf_bump_same, ctrOf_congr ctr]
  · intro f s takes low high noCut
    refine ⟨_, exec_rxFrame_of_bad takes low high noCut, ?_, ?_, ?_⟩
    · exact (agree_of_view (μ := fun p => p == .otd) (view_meterEvent rfl ..) .slices rfl : (meterEvent ..).slices = _)
    · exact (agree_of_view (μ := fun p => p == .otd) (view_meterEvent rfl ..) .ports rfl : (meterEvent ..).ports = _)
    · rw [ctrOf_meterEvent, ctrOf_bump_same]; rfl
  · intro f s off
    change execRxFrame f s = _
    rw [execRxFrame, off]; rfl
  · intro c f cut short
    rw [rxCase]; simp only [cut, short, if_true]
  · intro c f cut long over'
    rw [rxCase]; simp only [cut, not_lt.mpr long, over', if_true, if_false]
  · intro c f cut long fits
    rw [rxCase]; simp only [cut, not_lt.mpr long, not_lt.mpr fits, if_true, if_false]
  · intro c f whole bad
    rw [rxCase]; simp only [whole, bad, if_false, ne_eq, not_false_eq_true, if_true]
  · intro c f whole good short
    rw [rxCase]; simp only [whole, good, short, if_false, ne_eq, not_true_eq_false, if_true]
  · intro c f whole good long over'
    rw [rxCase]; simp only [whole, good, not_lt.mpr long, over', if_false, ne_eq, not_true_eq_false, if_true]

/-! Sent frames. -/

theorem port_bump (c : Ctr) (s : State) (p : Nat) : port (bump c s) p = port s p := rfl

theorem ports_countLogHold (p : Nat) (s : State) : (countLogHold p s).ports = s.ports :=
  agree_of_view (μ := fun q => q == .slices || q == .ctr) (view_countLogHold rfl rfl p s) .ports rfl

/-- The frame that begins at `t0` with the bytes `d` (R50, R173). -/
def begun (s : State) (p : Nat) (t0 : Int) (x : TxItem) (d : List Byte) (written : Bool) : TxCur where
  item := withData x d
  stamp := t0
  stampFlags := stampFlags s p
  hintWait := !legacyPort s p
  pred := if written && !legacyPort s p then some (hintPredOf s p, txData x) else none

/-- A frame of the queue begins: it leaves the queue, and its hint is owed where the port front sends hints. -/
theorem beginItem_of_bytes {p i : Nat} {t0 : Int} {x : TxItem} {d : List Byte} {written : Bool} {s : State} (stands : (port s p).fifo[i]? = some x)
    (bytes : txBytes s p (if legacyPort s p then t0 else t0 + hintPredOf s p) x = some (d, written)) :
    (port (beginItem p i t0 s) p).fifo = (port s p).fifo.eraseIdx i
    ∧ (port (beginItem p i t0 s) p).cur = some (begun s p t0 x d written)
    ∧ (port (beginItem p i t0 s) p).hints = if legacyPort s p = true then (port s p).hints else (port s p).hints ++ [⟨false⟩] := by
  have slot (c : Copy) (u : State) : (port (takeSlot p c u) p).fifo = (port u p).fifo ∧ (port (takeSlot p c u) p).hints = (port u p).hints := by
    unfold takeSlot
    split
    · exact ⟨rfl, rfl⟩
    · dsimp only
      rw [port_updPort, if_pos rfl]
      split <;> exact ⟨rfl, rfl⟩
  have overrun (x : TxItem) (len : Nat) (u : State) : port (countOverrun p t0 x len u) p = port u p :=
    port_congr (agree_of_view (μ := fun q => q == .ctr) (view_countOverrun rfl p t0 x len u) .ports rfl) p
  rw [beginItem, stands]
  dsimp only
  rw [bytes]
  dsimp only
  have hints (l : List OwedHint) : (if !legacyPort s p then l ++ [({} : OwedHint)] else l) = if legacyPort s p = true then l else l ++ [⟨false⟩] := by
    cases legacyPort s p <;> rfl
  cases x with
  | copy c =>
    rw [port_updPort, if_pos rfl, overrun]
    refine ⟨?_, rfl, ?_⟩
    · rw [(slot c _).1, port_updPort, if_pos rfl]
    · dsimp only
      rw [hints, (slot c _).2, port_updPort, if_pos rfl]
  | own data tag =>
    rw [port_updPort, if_pos rfl, overrun, port_updPort, if_pos rfl]
    exact ⟨rfl, rfl, hints _⟩

/-- A frame that nothing holds back begins on a port that sends nothing. -/
theorem exec_txStart_of_idle {p : Nat} {tx : TxFirst} {i : Nat} {s : State} (ready : txReady s p = true) (rate : rateOf s (cfg s) p ≠ 0) (idle : (port s p).cur = none)
    (pick : txPick (countLogHold p s) p (stampOf (sampledEdge s (p / 32) tx.edge) 0 tx.sofIndex (rateOf s (cfg s) p) (port s p).txLat 1) 0
      (port (countLogHold p s) p).fifo 0 = .start i) :
    exec (.txStart p tx) s = .next (beginItem p i (stampOf (sampledEdge s (p / 32) tx.edge) 0 tx.sofIndex (rateOf s (cfg s) p) (port s p).txLat 1) (countLogHold p s)) := by
  change execTxStart p tx s = _
  rw [execTxStart]
  dsimp only
  rw [ready, if_neg (by simpa using rate), idle]
  dsimp only
  rw [startNext]
  dsimp only
  rw [pick]

theorem out_noteEmpty (p : Nat) (s : State) : (noteEmpty p s).out = s.out :=
  agree_of_view (μ := fun q => q == .ports) (view_noteEmpty rfl p s) .out rfl

theorem ctrOf_noteEmpty (p : Nat) (s : State) (c : Ctr) : ctrOf (noteEmpty p s) c = ctrOf s c :=
  ctrOf_congr (agree_of_view (μ := fun q => q == .ports) (view_noteEmpty rfl p s) .ctr rfl) c

theorem cur_noteEmpty (p : Nat) (s : State) : (port (noteEmpty p s) p).cur = (port s p).cur := by
  unfold noteEmpty
  split
  · rw [port_updPort, if_pos rfl]
  · rfl

theorem view_countSent_ctr (p : Nat) (x : TxItem) (len : Nat) (s : State) : view (fun q => q == .ctr) (countSent p x len s) = view (fun q => q == .ctr) s :=
  view_countSent rfl p x len s

/-- What the end of a frame of the port's own does: the port is free, the frame is out whole, and it counts by its tag. -/
theorem exec_txDone_of_own {p tag flags : Nat} {d : List Byte} {t0 : Int} {s : State}
    (cur : (port s p).cur = some { item := .own d tag, stamp := t0, stampFlags := flags, hintWait := false }) :
    exec (.txDone p) s = .next (noteEmpty p (meterSent p (.own d tag) (wireLen d) (countSent p (.own d tag) (wireLen d) (countLoad p true (wireLen d)
      (emit (.frame p (wholeFrame d) false) (updPort p (fun x => { x with cur := none }) s)))))) := by
  change execTxDone p s = _
  rw [execTxDone, cur]
  rfl

theorem countSent_of_own {p tag len : Nat} {d : List Byte} (s : State) (pause : tag ≠ 1) (pfc : tag ≠ 2) (verify : tag ≠ 5) (response : tag ≠ 6) :
    countSent p (.own d tag) len s = addCtr (pCtr p 10) len (bump (pCtr p 9) s) := by
  unfold countSent
  split <;> first | rfl | simp_all

theorem exec_txDone_of_copy {p : Nat} {c : Copy} {x : TxCur} {s : State} (cur : (port s p).cur = some x) (item : x.item = .copy c) (settled : x.hintWait = false)
    (good : badItem s (.copy c) = false) :
    exec (.txDone p) s = .next (noteEmpty p (copySent p x c (meterSent p (.copy c) (wireLen c.data) (countPred p x (countSent p (.copy c) (wireLen c.data)
        (countLoad p true (wireLen c.data) (emit (.frame p (wholeFrame c.data) false) (updPort p (fun x => { x with cur := none }) s)))))))) := by
  change execTxDone p s = _
  rw [execTxDone, cur]
  dsimp only
  rw [item, settled, good]
  rfl

/-- The frame that a cause stomps: the one that is sent before the one that waits. -/
theorem exec_txStomp (p : Nat) (cause : StompCause) (s : State) : exec (.txStomp p cause) s
    = .next (match (port s p).cur.filter (stompDue s p cause), (port s p).preempted.filter (stompDue s p cause) with
    | some t, _ => stompFor p cause t (updPort p (fun x => { x with cur := none }) s)
    | none, some t => stompFor p cause t (updPort p (fun x => { x with preempted := none }) s)
    | none, none => s) := rfl

theorem filter_stompDue_eq_none {p : Nat} {cause : StompCause} {o : Option TxCur} {s : State} (early : ∀ x, o = some x → stompDue s p cause x = false) :
    o.filter (stompDue s p cause) = none := by
  cases o with
  | none => rfl
  | some x => exact Option.filter_some_neg (early x rfl)

/-! The hints that are owed. -/

section
variable {p : Nat} {h : OwedHint} {rest : List OwedHint} {s : State} (owed : (port s p).hints = h :: rest)
include owed

theorem takeHint_of_gone (hint : Nat) (arrived early : Bool) (gone : h.gone = true) : takeHint p hint arrived early s = updPort p (fun x => { x with hints := rest }) s := by
  rw [takeHint, owed]
  dsimp only
  rw [if_pos gone]

/-- The oldest frame that awaits its hint is the one that is sent, with no field written ahead of it. -/
theorem takeHint_of_cur {x : TxCur} (hint : Nat) (arrived early : Bool) (kept : h.gone = false) (settled : ∀ y, (port s p).preempted = some y → y.hintWait = false)
    (cur : (port s p).cur = some x) (waits : x.hintWait = true) (plain : x.pred = none) : takeHint p hint arrived early s
      = updPort p (fun y => { y with cur := some { x with stamp := x.stamp + hint, hintWait := false, pred := none } }) (updPort p (fun x => { x with hints := rest }) s) := by
  have noOther : (port s p).preempted.filter TxCur.hintWait = none := by
    cases other : (port s p).preempted with
    | none => rfl
    | some y => exact Option.filter_some_neg (settled y other)
  rw [takeHint, owed]
  dsimp only
  rw [if_neg (Bool.eq_false_iff.mp kept), noOther, cur, Option.filter_some_pos waits]
  dsimp only
  rw [settleHint, plain]

/-- A hint that is settled leaves the queue of hints, and nothing else of it. -/
theorem hints_takeHint (hint : Nat) (arrived early : Bool) :
    (port (takeHint p hint arrived early s) p).hints = rest ∧ (port (takeHint p hint arrived early s) p).hintLog = (port s p).hintLog := by
  have settled (x : TxCur) (f : PortRt → PortRt) (keeps : ∀ y, (f y).hints = y.hints ∧ (f y).hintLog = y.hintLog) :
      (port (updPort p f (settleHint p hint arrived early x (updPort p (fun x => { x with hints := rest }) s)).2) p).hints = rest
      ∧ (port (updPort p f (settleHint p hint arrived early x (updPort p (fun x => { x with hints := rest }) s)).2) p).hintLog = (port s p).hintLog := by
    rw [port_updPort, if_pos rfl, (keeps _).1, (keeps _).2, port_congr (settleHint_ports ..), port_updPort, if_pos rfl]
    exact ⟨rfl, rfl⟩
  rw [takeHint, owed]
  dsimp only
  split
  · rw [port_updPort, if_pos rfl]; exact ⟨rfl, rfl⟩
  · split
    · exact settled _ _ fun y => ⟨rfl, rfl⟩
    · exact settled _ _ fun y => ⟨rfl, rfl⟩
    · rw [port_updPort, if_pos rfl]; exact ⟨rfl, rfl⟩

/-- A missing hint counts nothing but the field that was written ahead of it. -/
theorem ctrOf_takeHint_missing {c : Ctr} (other : c ≠ pCtr p 25) : ctrOf (takeHint p 0 false false s) c = ctrOf s c := by
  have settled (x : TxCur) (u : State) : ctrOf (settleHint p 0 false false x u).2 c = ctrOf u c := by
    unfold settleHint
    dsimp only
    split
    · rfl
    · rw [if_neg Bool.false_ne_true, if_neg Bool.false_ne_true]
      unfold countPred
      split
      · rw [ctrOf_bump, if_neg other]
      · rfl
  rw [takeHint, owed]
  dsimp only
  split
  · rfl
  · split
    · exact settled _ _
    · exact settled _ _
    · rfl

end

theorem exec_txHint {p hint : Nat} {early : Bool} {h : OwedHint} {rest : List OwedHint} {s : State} (owed : (port s p).hints = h :: rest) :
    exec (.txHint p hint early) s = .next (takeHint p (hint % 256) true early (updPort p (fun x => { x with hintLog := (hint % 256 :: x.hintLog).take 256 }) s)) := by
  change execTxHint p hint s early = _
  rw [execTxHint, owed]; rfl

theorem exec_hintMissing {p : Nat} {h : OwedHint} {rest : List OwedHint} {s : State} (owed : (port s p).hints = h :: rest) :
    exec (.hintMissing p) s = .next (bump (pCtr p 18) (takeHint p 0 false false s)) := by
  change execHintMissing p s = _
  rw [execHintMissing, owed]; rfl

/-- Settles O33: a frame begins by `beginItem_of_bytes`, a hint is settled by `takeHint_of_gone` and `takeHint_of_cur`. -/
theorem transmitComplete : Obligations.TransmitComplete := by
  unfold Obligations.TransmitComplete
  refine ⟨?_, ?_, ?_, ?_, ?_, ?_, ?_, ?_, ?_, ?_, ?_, ?_⟩
  · rintro p tx i x d w s s0 t0 ready rate idle rfl rfl pick stands bytes
    obtain ⟨fifo, cur, hints⟩ := beginItem_of_bytes stands bytes
    have same : port (countLogHold p s) p = port s p := port_congr (ports_countLogHold p s) p
    refine ⟨_, exec_txStart_of_idle ready rate idle pick, ?_, cur, ?_⟩
    · rw [fifo, same]
    · rw [hints, same]
  · intro p tx s busy
    change execTxStart p tx s = _
    rw [execTxStart]
    dsimp only
    rw [busy]
    rfl
  · intro p d tag flags t0 s cur
    refine ⟨_, exec_txDone_of_own cur, ?_, ?_, fun pause pfc verify response => ?_⟩
    · rw [cur_noteEmpty, port_congr (agree_of_view (μ := fun q => q == .otd) (view_meterSent rfl ..) .ports rfl),
        port_congr (agree_of_view (view_countSent_ctr ..) .ports rfl), countLoad, port_updPort, if_pos rfl, if_pos rfl]
      exact congrArg PortRt.cur ((port_updPort p p (fun x => { x with cur := none }) s).trans (if_pos rfl))
    · rw [out_noteEmpty]
      exact (agree_of_view (μ := fun q => q == .otd) (view_meterSent rfl ..) .out rfl : (meterSent ..).out = _).trans (agree_of_view (view_countSent_ctr ..) .out rfl)
    · rw [ctrOf_noteEmpty, ctrOf_congr (agree_of_view (μ := fun q => q == .otd) (view_meterSent rfl ..) .ctr rfl), countSent_of_own _ pause pfc verify response,
        ctrOf_addCtr, if_neg (by simp [pCtr]), ctrOf_bump_same]
      rfl
  · exact fun p c x s cur item settled good => ⟨_, rfl, exec_txDone_of_copy cur item settled good⟩
  · intro p x s cur waits
    change execTxDone p s = _
    rw [execTxDone, cur]
    dsimp only
    rw [waits]; rfl
  · intro p cause x s cur due
    refine ⟨_, rfl, ?_⟩
    rw [exec_txStomp, cur, Option.filter_some_pos due]
    rfl
  · intro p cause x s none cur due
    refine ⟨_, rfl, ?_⟩
    rw [exec_txStomp, none, cur, Option.filter_some_pos due]
    rfl
  · intro p cause s cur preempted
    rw [exec_txStomp, filter_stompDue_eq_none cur, filter_stompDue_eq_none preempted]
  · intro p hint early h rest s owed
    have logged : port (updPort p (fun x => { x with hintLog := (hint % 256 :: x.hintLog).take 256 }) s) p
        = { port s p with hintLog := (hint % 256 :: (port s p).hintLog).take 256 } := by rw [port_updPort, if_pos rfl]
    have owed' : (port (updPort p (fun x => { x with hintLog := (hint % 256 :: x.hintLog).take 256 }) s) p).hints = h :: rest := by rw [logged]; exact owed
    obtain ⟨hints, log⟩ := hints_takeHint owed' (hint % 256) true early
    refine ⟨_, exec_txHint owed, hints, by rw [log, logged], fun gone => ?_, fun x kept settled cur waits plain => ?_⟩
    · rw [takeHint_of_gone owed' _ _ _ gone, port_updPort, if_pos rfl, logged]
      exact ⟨rfl, rfl, fun c => rfl⟩
    · rw [takeHint_of_cur (x := x) owed' _ _ _ kept (by rw [logged]; exact settled) (by rw [logged]; exact cur) waits plain, port_updPort, if_pos rfl, ← plain]
      exact ⟨rfl, fun c => rfl⟩
  · intro p h rest s owed
    refine ⟨_, exec_hintMissing owed, (hints_takeHint owed 0 false false).1, ?_, fun gone => ?_, fun x kept settled cur waits plain => ?_⟩
    · rw [ctrOf_bump_same, ctrOf_takeHint_missing owed (by simp [pCtr])]
    · rw [takeHint_of_gone owed 0 false false gone, port_bump, port_updPort, if_pos rfl]
      exact ⟨rfl, rfl⟩
    · rw [takeHint_of_cur owed 0 false false kept settled cur waits plain, port_bump, port_updPort, if_pos rfl, ← plain]
      simp
  · intro p s waits
    change execStall p s = _
    rw [execStall, if_pos waits]
  · intro p x s cur
    rw [wordWaits, cur]; rfl

end Sys2Proof.Machine
end

section
/-! SUPPORT. Ingress, egress, the buffer and the MAC table (R23 to R30, R133, R208, R222, R243 to R249, R259 to R266, R277 to R284, R330 to R337, R368). -/

namespace Sys2Proof.Machine

/-! Classification, the buffer's cells and admission. -/

theorem exec_classify {sl : Nat} {f : Frame} {rest : List Frame} {s : State} (faults : LookupFaults) (ingress : (slice s sl).ingress = f :: rest)
    (runs : coreRuns s sl = true) (e0 : engineHolds s (4 * sl) = false) (e1 : engineHolds s (4 * sl + 1) = false) :
    exec (.classify sl faults) s
      = .next (memErrors faults.corrected faults.bad (classifyFrame sl none faults f (updSlice sl (fun x => { x with ingress := rest }) s))) := by
  change execClassify sl faults s = _
  simp only [execClassify, ingress, runs, e0, e1, Bool.not_true, Bool.or_self, Bool.false_eq_true, if_false]

section
variable {sl : Nat} {banks : BankClock} {k : Classified} {rest : List Classified} {s : State} (waits : (slice s sl).toWrite = k :: rest)
  (runs : coreRuns s sl = true) (centre : centreRuns s = true)
include waits runs centre

theorem exec_cellWrite_of_waits (none : writeCell sl banks k s = .waits) : exec (.cellWrite sl banks) s = .next s := by
  change execCellWrite sl s banks = _
  simp only [execCellWrite, waits, runs, centre, none, Bool.not_true, Bool.or_self, Bool.false_eq_true, if_false]

theorem exec_cellWrite_of_refused {reason : Nat} (refused : writeCell sl banks k s = .refused reason) :
    exec (.cellWrite sl banks) s = .next (refuseFrame sl reason k (updSlice sl (fun x => { x with toWrite := rest }) s)) := by
  change execCellWrite sl s banks = _
  simp only [execCellWrite, waits, runs, centre, refused, Bool.not_true, Bool.or_self, Bool.false_eq_true, if_false]

theorem exec_cellWrite_of_placed {k1 : Classified} {s1 : State} (placed : writeCell sl banks k s = .placed k1 s1) : exec (.cellWrite sl banks) s
    = .next (noteCells k1 (cellsNeeded k1.frame.data ≤ k1.cells.length)
        (if k1.cells.length < cellsNeeded k1.frame.data then updSlice sl (fun x => { x with toWrite := k1 :: rest }) (countIngress k1 s1)
        else if k1.admitted.isSome then updSlice sl (fun x => { x with toWrite := rest }) (countIngress k1 s1)
        else updSlice sl (fun x => { x with toWrite := rest, written := x.written ++ [k1] }) (countIngress k1 s1))) := by
  change execCellWrite sl s banks = _
  simp only [execCellWrite, waits, runs, centre, placed, Bool.not_true, Bool.or_self, Bool.false_eq_true, if_false, Bool.not_eq_true', decide_eq_false_iff_not, not_le]

end

theorem exec_admitFrame {sl : Nat} {k : Classified} {rest : List Classified} {s : State} (reads : CtxReads) (written : (slice s sl).written = k :: rest)
    (runs : coreRuns s sl = true) : exec (.admitFrame sl reads) s = .next (if stepRefuses s k = true
      then refuseFrame sl 1 k (sezCount 6 (updSlice sl (fun x => { x with written := rest }) s))
      else memErrors reads.corrected reads.bad (admitNow sl false k
        (if k.guarded then loseContext reads.bad k.flow (updSlice sl (fun x => { x with written := rest }) s) else updSlice sl (fun x => { x with written := rest }) s))) := by
  change execAdmit sl s reads = _
  simp only [execAdmit, written, runs, Bool.not_true, Bool.false_eq_true, if_false]

/-- Settles O34: each step by the branch of its meaning that the premises choose. -/
theorem ingressComplete : Obligations.IngressComplete := by
  unfold Obligations.IngressComplete
  refine ⟨fun sl faults f rest s ingress runs e0 e1 => exec_classify faults ingress runs e0 e1, ?_, ?_, ?_,
    fun sl banks k rest s waits runs centre none => exec_cellWrite_of_waits waits runs centre none,
    fun sl banks k rest reason s waits runs centre refused => exec_cellWrite_of_refused waits runs centre refused, ?_, ?_, ?_, ?_⟩
  · intro sl banks k rest k1 s1 s waits runs centre placed more
    rw [exec_cellWrite_of_placed waits runs centre placed, if_pos more, decide_eq_false (not_le.mpr more)]
  · intro sl banks k rest k1 s1 s waits runs centre placed done new
    rw [exec_cellWrite_of_placed waits runs centre placed, if_neg (not_lt.mpr done), new, if_neg (by decide), noteCells, new]
  · intro sl banks k rest k1 s1 n s waits runs centre placed done admitted
    rw [exec_cellWrite_of_placed waits runs centre placed, if_neg (not_lt.mpr done), admitted, if_pos Option.isSome_some, decide_eq_true done]
  · intro sl reads k rest s written runs
    exact ⟨_, rfl, fun passes => (exec_admitFrame reads written runs).trans (congrArg _ (if_neg (Bool.eq_false_iff.mp passes))),
      fun refuses => (exec_admitFrame reads written runs).trans (congrArg _ (if_pos refuses))⟩
  · intro f sl reads x s stored marked runs free
    change execHandoff f sl s reads = _
    simp only [execHandoff, stored, marked, runs, free, decide_true, Bool.not_true, Bool.or_self, Bool.false_eq_true, if_false]
  · intro f sl reads x s stored held
    change execHandoff f sl s reads = _
    simp only [execHandoff, stored]
    rw [if_pos (by rcases held with h | h | h <;> simp [h])]
  · intro sl faults banks reads s stopped
    refine ⟨?_, ?_, ?_⟩
    · change execClassify sl faults s = _
      rw [execClassify]
      split
      · rfl
      · rw [stopped]; rfl
    · change execCellWrite sl s banks = _
      rw [execCellWrite]
      split
      · rfl
      · rw [stopped]; rfl
    · change execAdmit sl s reads = _
      rw [execAdmit]
      split
      · rfl
      · rw [stopped]; rfl

/-! Release, E3, the multicast store, the DONE log, recovery and ageing. -/

section
variable {p : Nat} {s : State} (reads : CellReads) (runs : coreRuns s (sliceOf s p) = true) (centre : centreRuns s = true)
  (e2 : engineHolds s (4 * sliceOf s p + 2) = false) (up : portUp s p = true)
include runs centre e2 up

theorem exec_schedRelease_of_none (none : nextRelease ((List.range 16).foldl (fun s q => sweepGate p q (queueOf s (qid p q)).length s) s) p = none) :
    exec (.schedRelease p reads) s = .next ((List.range 16).foldl (fun s q => sweepGate p q (queueOf s (qid p q)).length s) s) := by
  change execSchedRelease p reads s = _
  rw [execSchedRelease]
  dsimp only
  rw [runs, centre, e2, up, if_neg (by decide), none]

theorem exec_schedRelease_of_copy {s0 : State} {h : Nat} {n q : Child} {d : Drr} {c : Copy} {rest : List Copy}
    (swept : s0 = (List.range 16).foldl (fun s q => sweepGate p q (queueOf s (qid p q)).length s) s) (next : nextRelease s0 p = some (h, n, q, d))
    (queue : queueOf s0 (qid p q.num) = c :: rest) :
    exec (.schedRelease p reads) s = .next (releaseCopy h c q.len reads (chargeRelease p h n q d s0)) := by
  change execSchedRelease p reads s = _
  rw [execSchedRelease]
  dsimp only
  rw [runs, centre, e2, up, if_neg (by decide), ← swept, next]
  dsimp only
  rw [queue]

end

/-! E3 on the oldest copy that paces out. -/

section
variable {p : Nat} {faults : LookupFaults} {c : Copy} {rest : List Copy} {x : Stored} {s s1 : State} {r : EzPass} (pacing : (port s p).pacing = c :: rest)
  (runs : coreRuns s (sliceOf s p) = true) (e3 : engineHolds s (4 * sliceOf s p + 3) = false)
  (stored : storedOf (updPort p (fun x => { x with pacing := rest }) s) c.frame = some x)
  (passed : egressPass 3 c x.c c.data c.m c.hdrs faults (updPort p (fun x => { x with pacing := rest }) s) = (s1, r))
include pacing runs e3 stored passed

theorem exec_e3Pass_of_dropped (drop : r.drop = true) (loose : guardedCopy s1 c = false) :
    exec (.e3Pass p faults) s = .next (discardCopy 8 c (bump (engCtr (4 * sliceOf s1 c.port + 3) 1) s1)) := by
  change execE3Pass p faults s = _
  rw [execE3Pass]
  dsimp only
  rw [pacing]
  dsimp only
  rw [runs, e3, if_neg (by decide), stored]
  dsimp only
  rw [passed]
  dsimp only
  rw [egressDrop, drop, loose, if_neg (by decide), if_neg (by decide)]

theorem exec_e3Pass_of_kept (keeps : r.drop = false) : exec (.e3Pass p faults) s
    = .next (if (!isHostPort p && decide (maxFrame (cfgAt s1 c.epoch) p < wireLen (cutMirror s1 c r.data) + trailerBytes c)) = true
      then noteEmpty p (copyEnds c.frame (countLoss c x (dropInFlight (sliceOf s p) [c] (bump (pCtr p 12) s1))))
      else updPort p (fun x => { x with fifo := x.fifo ++ [.copy { c with data := cutMirror s1 c r.data, m := r.m, hdrs := r.hdrs }] }) s1) := by
  change execE3Pass p faults s = _
  rw [execE3Pass]
  dsimp only
  rw [pacing]
  dsimp only
  rw [runs, e3, if_neg (by decide), stored]
  dsimp only
  rw [passed]
  dsimp only
  rw [egressDrop, keeps, if_pos (by decide)]

end

theorem exec_doneLogConsume {sl : Nat} {e : DoneEntry} {rest : List DoneEntry} {s : State} (log : (slice s sl).doneLog = e :: rest) (runs : coreRuns s sl = true) :
    exec (.doneLogConsume sl) s = .next (if e.done = true
      then consumeDone sl e (updSlice sl (fun x => { x with doneLog := rest, stallFrom := if rest.length < 512 then none else x.stallFrom }) (countStall sl s))
      else resend sl [e.copy] (updSlice sl (fun x => { x with doneLog := rest, stallFrom := if rest.length < 512 then none else x.stallFrom }) (countStall sl s))) := by
  change execDoneLogConsume sl s = _
  simp only [execDoneLogConsume, log, runs, Bool.not_true, Bool.false_eq_true, if_false]

theorem badger_resend (sl : Nat) (cs : List Copy) (s : State) : (resend sl cs s).badger = s.badger :=
  agree_of_view (μ := fun p => p == .ports || p == .slices || p == .tm || p == .ctr) (view_resend rfl rfl rfl rfl sl cs s) .badger rfl

theorem exec_sliceCoreRecover {sl started : Nat} {s : State} (inReset : (slice s sl).inReset = some started) (runs : (dom s (32 + sl)).st = .run)
    (owed : s.badger.sliceOwed.get? sl = none) (empty : (slice s sl).doneLog = []) :
    ∃ cut, exec (.sliceCoreRecover sl) s = .next (resend sl cut (updSlice sl (fun x => { x with inReset := none, doneLog := [] }) s)) := by
  have awake : ((slice s sl).inReset.isNone || decide ((dom s (32 + sl)).st ≠ .run)) = false := by simp [inReset, runs]
  change ∃ cut, execSliceCoreRecover sl s = _
  rw [execSliceCoreRecover, awake, if_neg Bool.false_ne_true]
  dsimp only
  rw [empty, badger_resend]
  dsimp only [List.filter_nil, List.map_nil, List.foldl_nil, List.nil_append]
  rw [show (updSlice sl (fun x => { x with inReset := none, doneLog := [] }) s).badger = s.badger from rfl, owed]
  exact ⟨_, rfl⟩

/-- Settles O35: each step by the branch of its meaning that the premises choose. -/
theorem egressComplete : Obligations.EgressComplete := by
  unfold Obligations.EgressComplete
  refine ⟨?_, ?_, ?_, ?_, ?_, ?_, fun sl started s inReset runs owed empty => exec_sliceCoreRecover inReset runs owed empty, ?_⟩
  · exact fun p reads s runs centre e2 up => ⟨_, rfl, fun none => exec_schedRelease_of_none reads runs centre e2 up none,
      fun h n q d c rest next queue => exec_schedRelease_of_copy reads runs centre e2 up rfl next queue⟩
  · rintro p faults c rest x s s0 pacing runs e3 rfl stored drop loose
    exact exec_e3Pass_of_dropped pacing runs e3 stored rfl drop loose
  · rintro p faults c rest x r s s0 s1 c1 pacing runs e3 rfl stored passed keeps rfl
    have run := exec_e3Pass_of_kept pacing runs e3 stored passed keeps
    refine ⟨fun fits => run.trans (congrArg _ (if_neg ?_)), fun wire long => run.trans (congrArg _ (if_pos ?_))⟩
    · rcases fits with host | fits
      · simp [host]
      · simp [not_lt.mpr fits]
    · simp [wire, long]
  · intro sl f x since s stored held old
    change execMcastStoreExpiry sl f s = _
    simp only [execMcastStoreExpiry, stored, Option.bind_some, held, old, if_true]
  · intro sl e rest s log runs
    exact ⟨_, rfl, fun done => (exec_doneLogConsume log runs).trans (congrArg _ (if_pos done)),
      fun stomped => (exec_doneLogConsume log runs).trans (congrArg _ (if_neg (Bool.eq_false_iff.mp stomped)))⟩
  · intro sl s none
    change execSliceCoreRecover sl s = _
    rw [execSliceCoreRecover, none]
    rfl
  · intro sl s runs
    change execAgeScan sl s = _
    rw [execAgeScan, runs]
    rfl

/-! The buffer and the MAC table. -/

/-- Settles O36: the commands by `runOk_of_passed`, the events by the branch of their meaning that the premises choose. -/
theorem bufferAndMacComplete : Obligations.BufferAndMacComplete := by
  unfold Obligations.BufferAndMacComplete
  refine ⟨?_, fun e s turn passed => next_runOk turn passed, ?_, fun e s turn passed => ⟨_, rfl, next_runCmd turn passed⟩,
    fun e s turn passed => ⟨_, _, next_runOk turn passed, rfl, rfl⟩, ?_, ?_, ?_⟩
  · intro e id s turn passed found
    change execPoolCreate e s = _
    rw [execPoolCreate, found]
    exact next_runOk turn passed
  · intro e s turn passed
    refine ⟨_, next_runOk turn passed, fun keep => ?_, fun wipe scope c => ?_⟩
    · rw [keep]; rfl
    · rw [wipe, scope]
      refine (ctrOf_clearCtrs (fun c => decide (c.fam = .fwd) && decide (c.unit = fld e.payload 4 4) && (CtrFam.fwd ≠ .queue || c.idx = 4)) s c).trans ?_
      simp
  · intro v l s learn free
    change execLearnApply s = _
    rw [execLearnApply, learn]
    dsimp only
    rw [free]
    rfl
  · intro s on due
    change execMacAgeScan s = _
    rw [execMacAgeScan]
    dsimp only
    rw [decide_eq_false on, decide_eq_false (not_lt.mpr due), if_neg (by decide)]
    have kept (x : MacEntry) : (!(!x.static && decide (4 ≤ x.age))) = (x.static || !decide (4 ≤ x.age)) := by rw [Bool.not_and, Bool.not_not]
    simp only [macDrop, macMap, if_true, kept]
  · intro fid mac s
    have held (o : Option Nat) : (match o with | some t => decide (t ≤ rawNs s) | none => false) = o.any (fun t => decide (t ≤ rawNs s)) := by cases o <;> rfl
    have same (x : MacEntry) : (decide (x.fid = fid) && decide (x.mac = mac) && (match x.frozen with | some t => decide (t ≤ rawNs s) | none => false))
        = (decide (x.fid = fid) && decide (x.mac = mac) && x.frozen.any (fun t => decide (t ≤ rawNs s))) := congrArg _ (held x.frozen)
    change Host.Outcome.next (macMap (fun x => decide (x.fid = fid) && decide (x.mac = mac) && (match x.frozen with | some t => decide (t ≤ rawNs s) | none => false))
      (fun x => { x with frozen := none }) s) = _
    rw [funext same]
    rfl

end Sys2Proof.Machine
end

section
/-! SUPPORT. Parse, table and engine commands (R188 to R207, R222 to R241). -/

namespace Sys2Proof.Machine

/-- A map without the keys of a predicate reads as its default there, and as before elsewhere. -/
theorem KMap.getD_filter_key {κ α : Type} [DecidableEq κ] (m : KMap κ α) (q : κ → Bool) (k : κ) (d : α) :
    KMap.getD (m.filter (fun x => !q x.1)) k d = if q k then d else KMap.getD m k d := by
  induction m with
  | nil => exact (ite_self d).symm
  | cons a m ih =>
    obtain ⟨j, v⟩ := a
    by_cases dropped : q j = true
    · by_cases same : j = k
      · subst same; simp_all [KMap.getD]
      · simp_all [KMap.getD, KMap.get?]
    · by_cases same : j = k
      · subst same; simp_all [KMap.getD, KMap.get?]
      · simp_all [KMap.getD, KMap.get?]

theorem tables_takeBanks (id n : Nat) (cs : List Nat) (s : State) :
    (cs.foldl (takeBanks id n) s).tables.tables = s.tables.tables ∧ (cs.foldl (takeBanks id n) s).tables.mac = s.tables.mac := by
  induction cs generalizing s with
  | nil => exact ⟨rfl, rfl⟩
  | cons c cs ih =>
    rw [List.foldl_cons, (ih _).1, (ih _).2]
    exact ⟨rfl, rfl⟩

theorem engine_updEngine_same (g : Nat) (f : EngineRt → EngineRt) (s : State) : engine (updEngine g f s) g = f (engine s g) :=
  KMap.getD_upd_same s.eng.rt g {} f

/-- Settles O38: each command by `runOk_of_passed`, the counters it clears by `ctrOf_clearCtrs`, the words it clears by `KMap.getD_filter_key`. -/
theorem parseTableEngineComplete : Obligations.ParseTableEngineComplete := by
  unfold Obligations.ParseTableEngineComplete
  refine ⟨fun e s turn passed => next_runOk turn passed, fun e s turn passed => ⟨_, next_runOk turn passed, fun keep => ?_, fun wipe c => ?_⟩, ?_,
    fun e s turn passed => next_runOk turn passed, ?_, fun e s turn passed => ⟨_, _, next_runOk turn passed⟩, ?_,
    fun e s turn passed => ⟨_, next_runOk turn passed⟩, fun e s turn passed => ⟨_, _, next_runOk turn passed, rfl, fun keep => ?_, fun wipe c => ?_⟩,
    fun e s turn passed => next_runCmd turn passed, ?_, ?_, fun e s turn passed => ⟨_, next_runOk turn passed, fun keep => ?_, fun wipe a => ?_⟩, fun g fault s => rfl⟩
  · rw [if_neg (Bool.eq_false_iff.mp keep)]
  · rw [if_pos wipe, ctrOf_clearCtrs]
    simp
  · intro e s id turn passed found
    obtain ⟨tables, mac⟩ := tables_takeBanks id (tableOfPayload e.payload).banks ((List.range 4).filter (bitN (byteAt e.payload 3))) s
    have run : exec (.tableCreate e) s = .next _ := next_runOk turn passed
    rw [found] at run
    refine ⟨_, _, rfl, run, KMap.get?_set_same _ _ _, fun k other => ?_, mac⟩
    exact (KMap.get?_set_other _ _ other).trans (congrArg (KMap.get? · k) tables)
  · intro e x s turn passed found
    change execEntryRead e s = _
    rw [execEntryRead, found]
    exact next_runOk turn passed
  · intro e id s turn env load found
    have none : firstOf [envVerdict 0x0601 false (fun n => ptr e && progLoadLen e.payload n) e s, loadVerdict e s] = none := by rw [env, load]; rfl
    change execProgLoad e s = _
    simp only [execProgLoad, found, ifTurn, turn, none, if_true, Option.getD_some]
  · rw [if_neg (Bool.eq_false_iff.mp keep)]
  · rw [if_pos wipe, ctrOf_clearCtrs]
    simp
  · intro g t0 e s resets owed
    change execEngineResetDone g s = _
    simp only [execEngineResetDone, resets, owed]
  · intro g t0 s resets owed
    change execEngineResetDone g s = _
    simp only [execEngineResetDone, resets, owed]
  · rw [if_neg (Bool.eq_false_iff.mp keep)]
  · rw [if_pos wipe]
    have words : (engine (updEngine (fld e.payload 0 2) (fun r => { r with scratch := r.scratch.filter (fun x =>
        !(decide (fld e.payload 4 4 ≤ x.1) && decide (x.1 < fld e.payload 4 4 + fld e.payload 8 2))) }) s) (fld e.payload 0 2)).scratch
        = (engine s (fld e.payload 0 2)).scratch.filter (fun x => !(decide (fld e.payload 4 4 ≤ x.1) && decide (x.1 < fld e.payload 4 4 + fld e.payload 8 2))) :=
      congrArg EngineRt.scratch (engine_updEngine_same ..)
    rw [words, KMap.getD_filter_key _ (fun k => decide (fld e.payload 4 4 ≤ k) && decide (k < fld e.payload 4 4 + fld e.payload 8 2))]
    simp only [Bool.and_eq_true, decide_eq_true_eq]

end Sys2Proof.Machine
end

section
/-! SUPPORT. Sampling, the Foxtrot rings and calibration (R162 to R174, R289 to R300, R490 to R493). -/

namespace Sys2Proof.Machine

/-! Sampling. -/

theorem sampleInstant_of_valid {us : Nat} {s : State} (valid : s.time.valid = true) (pos : 0 < us) :
    ∃ k, sampleInstant s us = 1000 * us * k ∧ sampleInstant s us ≤ timeNs s ∧ timeNs s < sampleInstant s us + 1000 * us := by
  have step : (0 : Int) < 1000 * us := by omega
  have eq : sampleInstant s us = timeNs s / (1000 * us) * (1000 * us) := by
    unfold sampleInstant
    dsimp only
    rw [if_pos valid]
  refine ⟨timeNs s / (1000 * us), by rw [eq, Int.mul_comm], ?_, ?_⟩
  · rw [eq]; exact Int.ediv_mul_le _ step.ne'
  · rw [eq]; exact Int.lt_ediv_add_one_mul_self _ step |>.trans_eq (by rw [Int.add_mul, Int.one_mul])

theorem exec_sample {p : Nat} {c : SampleCfg} {last : Int} {s : State} (on : (cfg s).sample.get? p = some c) (interval : c.intervalUs ≠ 0)
    (sampled : s.tm.sampled.get? p = some last) : exec (.sample p) s = .next (if last < sampleInstant s c.intervalUs
      then (setBits 16 c.qMask).foldl (sampleQueue p (sampleInstant s c.intervalUs)) { s with tm := { s.tm with sampled := s.tm.sampled.set p (timeNs s) } }
      else { s with tm := { s.tm with sampled := s.tm.sampled.set p (timeNs s) } }) := by
  change execSample p s = _
  rw [execSample, on]
  dsimp only
  rw [if_neg interval, KMap.getD, sampled, Option.getD_some]
  split <;> rfl

/-! The Foxtrot rings. -/

section
variable {ring sl : Nat} {r : Foxtrot} {bytes : List Byte} {rest : List (Nat × List Byte)} {s : State} (found : s.cap.rings.get? ring = some r)
include found

theorem exec_foxtrotRecordWrite_of_full (waits : r.fifo = (sl, bytes) :: rest) (full : foxFull r = true) : ∃ t, exec (.foxtrotRecordWrite ring) s = .next t
    ∧ t.cap.rings.get? ring = some { r with fifo := rest } ∧ t.out = s.out
    ∧ ctrOf t ⟨.ring, ring, 0, 1⟩ = (ctrOf s ⟨.ring, ring, 0, 1⟩ + 1) % 2 ^ 64 := by
  change ∃ t, execFoxtrotRecordWrite ring s = .next t ∧ _
  rw [execFoxtrotRecordWrite, found]
  dsimp only
  rw [waits]
  dsimp only
  rw [if_pos full]
  exact ⟨_, rfl, KMap.get?_set_same _ _ _, rfl, by rw [ctrOf_bump_same]; rfl⟩

theorem exec_foxtrotRecordWrite_of_room (waits : r.fifo = (sl, bytes) :: rest) (room : foxFull r = false) : ∃ t r', exec (.foxtrotRecordWrite ring) s = .next t
    ∧ t.cap.rings.get? ring = some r' ∧ r'.fifo = rest ∧ r'.prod = (r.prod + 1) % (2 * r.size) ∧ r'.base = r.base ∧ r'.size = r.size ∧ r'.cons = r.cons
    ∧ r'.phase = (if (r.prod + 1) % (2 * r.size) % r.size = 0 then !r.phase else r.phase)
    ∧ ctrOf t ⟨.ring, ring, 0, 0⟩ = (ctrOf s ⟨.ring, ring, 0, 0⟩ + 1) % 2 ^ 64 := by
  have fired (c : Prop) [Decidable c] (v : Nat) (u : State) : (if c then fire v u else u).cap = u.cap ∧ (if c then fire v u else u).ctr = u.ctr := by
    split <;> simp
  change ∃ t r', execFoxtrotRecordWrite ring s = .next t ∧ _
  rw [execFoxtrotRecordWrite, found]
  dsimp only
  rw [waits]
  dsimp only
  rw [room, if_neg Bool.false_ne_true]
  refine ⟨_, { r with
    fifo := rest, prod := (r.prod + 1) % (2 * r.size), phase := if (r.prod + 1) % (2 * r.size) % r.size = 0 then !r.phase else r.phase
    since := if r.coalesce ≤ r.since + 1 then 0 else r.since + 1, sinceAt := if r.since = 0 then rawNs s else r.sinceAt },
    rfl, ?_, rfl, rfl, rfl, rfl, rfl, rfl, ?_⟩
  · rw [(fired ..).1, show ∀ c u, (bump c u).cap = u.cap from fun _ _ => rfl]
    simp only [hpiWrite_keeps]
    exact KMap.get?_set_same _ _ _
  · rw [ctrOf_congr (fired ..).2, ctrOf_bump_same, ctrOf_congr (t := hpiWrite _ _ _) (s := s) (by simp only [hpiWrite_keeps])]

theorem exec_foxtrotConsPoll (w : Word) (full : foxFull r = true) (due : ∀ last, r.lastPoll = some last → last + 1000 ≤ rawNs s) :
    exec (.foxtrotConsPoll ring w) s = .next (hpiRead r.consAddr 4 { s with cap := { s.cap with rings := s.cap.rings.set ring { r with
      cons := (w.toNat % 65536) % r.size + (if bitN w.toNat 16 = true then r.size else 0)
      lastPoll := if foxFull { r with cons := (w.toNat % 65536) % r.size + (if bitN w.toNat 16 = true then r.size else 0) } = true then some (rawNs s) else none } } }) := by
  have isDue : pollDue s r = true := by
    unfold pollDue
    split
    · rfl
    · next last polled => exact decide_eq_true (due last polled)
  change execFoxtrotConsPoll ring w s = _
  rw [execFoxtrotConsPoll, found]
  dsimp only
  rw [full, isDue]
  rfl

end

/-! Calibration. -/

theorem exec_calRequestRx {p reqId t2 : Nat} {s : State} (takes : receives s p = true) (reflect : (s.badger.loop.getD p {}).reflect = true) :
    exec (.calRequestRx p reqId t2) s
      = .next (updPort p (fun x => { x with fifo := .own (calFrame p 2 reqId (stampTen t2)) 4 :: x.fifo }) (meterEvent p false 64 7 noFlow s)) := by
  change execCalRequestRx p reqId t2 s = _
  simp only [execCalRequestRx, takes, reflect, Bool.not_true, Bool.false_eq_true, if_false, if_true]

theorem ports_meterEvent (p : Nat) (transmit : Bool) (len outcome flow : Nat) (s : State) : (meterEvent p transmit len outcome flow s).ports = s.ports :=
  agree_of_view (μ := fun q => q == .otd) (view_meterEvent rfl ..) .ports rfl

theorem badger_meterEvent (p : Nat) (transmit : Bool) (len outcome flow : Nat) (s : State) : (meterEvent p transmit len outcome flow s).badger = s.badger :=
  agree_of_view (μ := fun q => q == .otd) (view_meterEvent rfl ..) .badger rfl

theorem exec_calReplyRx {p : Nat} {reply : CalReply} {r : CalRun} {t0 : Nat} {s : State} (runs : s.badger.runs.get? p = some r) (sent : r.sentAt = some t0)
    (takes : receives s p = true) (more : r.loops.length < 15) : exec (.calReplyRx p reply) s = .next (meterEvent p false 64 7 noFlow { s with badger := { s.badger with
      runs := s.badger.runs.set p { r with loops := r.loops ++ [calLoop (s.badger.loop.getD p {}) reply], sentAt := none } } }) := by
  change execCalReplyRx p reply s = _
  rw [execCalReplyRx, runs]
  dsimp only
  rw [sent, takes, if_neg (by simp), if_neg (by rw [List.length_append]; simp only [List.length_cons, List.length_nil]; omega)]

/-- Settles O39: the commands by `runOk_of_passed`, each event by the branch of its meaning that the premises choose. -/
theorem captureAndCalibrationComplete : Obligations.CaptureAndCalibrationComplete := by
  unfold Obligations.CaptureAndCalibrationComplete
  refine ⟨fun e s turn passed => next_runOk turn passed, fun p c last s on interval sampled due => (exec_sample on interval sampled).trans (congrArg _ (if_pos due)),
    fun p c last s on interval sampled past => (exec_sample on interval sampled).trans (congrArg _ (if_neg (not_lt.mpr past))),
    fun us s valid pos => sampleInstant_of_valid valid pos, ?_, ?_, fun ring r sl bytes rest s found waits room => exec_foxtrotRecordWrite_of_room found waits room,
    fun ring r sl bytes rest s found waits full => exec_foxtrotRecordWrite_of_full found waits full,
    fun ring r w s found full due => ⟨_, _, rfl, rfl, exec_foxtrotConsPoll found w full due⟩,
    fun e s turn passed => ⟨_, fun x => rfl, next_runOk turn passed⟩, fun e s turn passed => next_runOk turn passed,
    fun e s turn passed => ⟨_, _, rfl, rfl, next_runOk turn passed⟩, ?_, ?_, ?_, ?_, ?_, ?_⟩
  · intro e s turn passed valid
    refine ⟨_, rfl, (next_runOk turn passed).trans ?_⟩
    rw [valid, if_pos rfl]
  · intro e x s turn passed off found
    refine (next_runOk turn passed).trans ?_
    rw [off, found, if_neg Bool.false_ne_true]
  · intro temps s due
    change execCalEval temps s = _
    rw [execCalEval, if_neg (not_lt.mpr due)]
  · intro p r s runs may
    change execCalRequestTx p s = _
    simp only [execCalRequestTx, runs, may, Bool.not_true, Bool.false_eq_true, if_false]
  · intro p reqId t2 s takes reflect
    refine ⟨_, exec_calRequestRx takes reflect, ?_⟩
    rw [port_updPort, if_pos rfl, port_congr (ports_meterEvent ..)]
  · intro p reply r t0 s runs sent takes more
    refine ⟨_, exec_calReplyRx runs sent takes more, ?_⟩
    rw [badger_meterEvent]
    exact KMap.get?_set_same _ _ _
  · intro p r t0 s runs sent late
    change execCalExchangeTimeout p s = _
    simp only [execCalExchangeTimeout, runs, sent, late, if_true]
  · intro p r s runs late
    change execCalFail p s = _
    simp only [execCalFail, runs, late, if_true]

end Sys2Proof.Machine
end

section
/-! SUPPORT. Gate lists as they run, and the events of guarded flows (R301 to R310, R314, R325 to R328, R341, R342). -/

namespace Sys2Proof.Machine

/-! The gate state of a port. -/

theorem gateRt_updGate (p q : Nat) (f : GateRt → GateRt) (s : State) : gateRt (updGate p f s) q = if q = p then f (gateRt s p) else gateRt s q :=
  KMap.getD_upd s.gate p q {} f

theorem gateRt_congr {s t : State} (same : t.gate = s.gate) (p : Nat) : gateRt t p = gateRt s p := by rw [gateRt, same, gateRt]

theorem gateRt_cutFragment (p q : Nat) (s : State) : gateRt (cutFragment p s) q = gateRt s q :=
  gateRt_congr (agree_of_view (μ := fun x => x == .ports || x == .ctr) (view_cutFragment rfl rfl p s) .gate rfl) q

theorem view_settleGateCredits_tm (p : Nat) (s : State) : view (fun x => x == .tm) (settleGateCredits p s) = view (fun x => x == .tm) s :=
  view_settleGateCredits rfl p s

theorem gateRt_settleGateCredits (p q : Nat) (s : State) : gateRt (settleGateCredits p s) q = gateRt s q :=
  gateRt_congr (agree_of_view (view_settleGateCredits_tm p s) .gate rfl) q

theorem timeSixteenths_congr {s t : State} (same : t.time = s.time) : timeSixteenths t = timeSixteenths s := by
  simp only [timeSixteenths, time16, same]

/-- Settles O40: the gate state by `gateRt_updGate`, the commands by `runOk_of_passed`. -/
theorem gateAndFlowEventsComplete : Obligations.GateAndFlowEventsComplete := by
  unfold Obligations.GateAndFlowEventsComplete
  refine ⟨fun e s turn passed => ⟨_, next_runOk turn passed, fun keep => ?_, fun wipe c => ?_⟩, ?_, ?_, ?_, ?_, ?_, ?_,
    fun e s turn passed => next_runOk turn passed, ?_, ?_, ?_⟩
  · rw [if_neg (Bool.eq_false_iff.mp keep)]
  · rw [if_pos wipe, ctrOf_clearCtrs]
    simp
  · intro p g st s next due
    have past : timeSixteenths (settleGateCredits p s) = timeSixteenths s :=
      timeSixteenths_congr (agree_of_view (view_settleGateCredits_tm p s) .time rfl)
    change ∃ t hold entry, execGateListStart p s = .next t ∧ _
    rw [execGateListStart, next]
    dsimp only
    rw [if_neg (not_lt.mpr due)]
    refine ⟨_, holdOp s p ((gateIn g st (timeSixteenths s)).elim 0 (·.2.1.op)) (gateRt s p).hold, (gateIn g st (timeSixteenths s)).elim 0 (·.1), rfl, ?_, fun q other => ?_⟩
    · rw [gateRt_cutFragment, changeLists, gateRt_updGate, if_pos rfl, gateRt_settleGateCredits, past, next]
    · rw [gateRt_cutFragment, changeLists, gateRt_updGate, if_neg other, gateRt_settleGateCredits]
  · intro p g st s next early
    change execGateListStart p s = _
    rw [execGateListStart, next]
    dsimp only
    rw [if_pos early]
  · intro p g st k x left s list entry
    change ∃ t hold, execGateEntry p s = .next t ∧ _
    rw [execGateEntry, list]
    dsimp only
    rw [entry]
    refine ⟨_, holdOp s p x.op (gateRt s p).hold, rfl, ?_, fun q other => ?_⟩
    · rw [gateRt_cutFragment, gateRt_updGate, if_pos rfl]
    · rw [gateRt_cutFragment, gateRt_updGate, if_neg other]
  · intro p s hold active
    change ∃ t, execHoldAssert p s = .next t ∧ _
    rw [execHoldAssert, hold, active, if_pos (by decide)]
    refine ⟨_, rfl, ?_, fun q other => ?_⟩
    · rw [gateRt_cutFragment, gateRt_updGate, if_pos rfl]
    · rw [gateRt_cutFragment, gateRt_updGate, if_neg other]
  · intro p s away
    change execHoldAssert p s = _
    rw [execHoldAssert, if_neg (by rcases away with h | h <;> simp [h])]
  · intro e s turn passed
    refine ⟨_, next_runOk turn passed, fun x found part => ?_, fun x r found part record => ?_⟩
    · rw [found]
      exact if_pos part
    · rw [found]
      dsimp only
      rw [if_neg part, record]
  · intro sl flow c x s context found held due
    change execGapTimeout sl flow s = _
    simp [execGapTimeout, context, found, held, due]
  · intro sl flow c x s context found early
    change execGapTimeout sl flow s = _
    simp [execGapTimeout, context, found, not_le.mpr early]
  · intro node sa n s found
    change ∃ t, execDuplicateEntryForget node sa s = .next t ∧ _
    rw [execDuplicateEntryForget, found]
    refine ⟨_, rfl, fun l entries => ?_, fun k other => ?_⟩
    · rw [KMap.get?_mapV, entries]
      exact congrArg some (if_pos rfl)
    · rw [KMap.get?_mapV]
      simp only [other, if_false, Option.map_id']

end Sys2Proof.Machine
end

section
/-! SUPPORT. Timers, PPS, temperature and TIME_VALID (R70, R81, R118, R151, R157 to R161, R176 to R178). -/

namespace Sys2Proof.Machine

/-! The time unit's commands. -/

section
variable {e : Env} {s : State} (turn : inTurn e s = true) (passed : cmdVerdict 0x0C05 (lenIs 20) (timerSetChk e s) e s = none)
include turn passed

theorem exec_timerSet_of_off (off : byteAt e.payload 1 = 0) :
    exec (.timerSet e) s = .next (respond e 0x0C05 (okV (leB 8 0)) { s with time := { s.time with timers := s.time.timers.del (byteAt e.payload 0) } }) :=
  (next_runCmd turn passed).trans (congrArg _ (if_pos off))

theorem exec_timerSet_of_on (on : byteAt e.payload 1 ≠ 0) : exec (.timerSet e) s = .next (respond e 0x0C05
    (if (timerTarget e s).2 then adjustedV (leB 8 (timerTarget e s).1) else okV (leB 8 (timerTarget e s).1)) { s with time := { s.time with
      timers := s.time.timers.set (byteAt e.payload 0) ⟨byteAt e.payload 1, (timerTarget e s).1, fld e.payload 12 8, false⟩ } }) :=
  (next_runCmd turn passed).trans (congrArg _ (if_neg on))

end

theorem timerTarget_of_future {e : Env} {s : State} (future : reached s (fld e.payload 4 8) = false) : (timerTarget e s).2 = false := by
  rw [timerTarget, future]; rfl

theorem timerTarget_of_past {e : Env} {s : State} (past : reached s (fld e.payload 4 8) = true) (once : byteAt e.payload 1 ≠ 2) : timerTarget e s = (nextTickNs s, true) := by
  rw [timerTarget]
  dsimp only
  rw [past, if_neg (by decide), if_neg once]

/-- Settles O41: each command by `runOk_of_passed`, a timer's target by `timerTarget_of_past` and `timerTarget_of_future`. -/
theorem timeCommandsComplete : Obligations.TimeCommandsComplete := by
  unfold Obligations.TimeCommandsComplete
  refine ⟨fun e s turn passed off => exec_timerSet_of_off turn passed off, ?_, fun e s turn passed => next_runOk turn passed, fun e s turn passed => next_runOk turn passed,
    fun e s turn passed => ⟨_, next_runCmd turn passed, rfl⟩, ?_, fun s => rfl⟩
  · intro e s turn passed on
    refine ⟨_, _, exec_timerSet_of_on turn passed on, rfl, ?_, ?_, fun past once => ?_, fun future => ?_⟩
    · split <;> rfl
    · split
      · exact .inr rfl
      · exact .inl rfl
    · rw [timerTarget_of_past past once]; exact ⟨rfl, rfl⟩
    · rw [timerTarget_of_future future]; rfl
  · intro slot wide s low
    refine ⟨{ time := unsignedN 80 (time16 s), raw := rawT s, valid := s.time.valid }, ?_, rfl, rfl, rfl⟩
    change execSnapTimeLoRead slot wide s = _
    rw [execSnapTimeLoRead, if_neg (Nat.not_le.mpr low)]
    cases wide <;> rfl

/-! TIME_VALID follows a step (R151). -/

/-- TIME_VALID, TIME_UNCERTAIN and STEP_COUNT. -/
def validity (s : State) : Bool × Bool × BitVec 16 := (s.time.valid, s.time.uncertain, s.time.stepCount)

theorem validity_of_time {s t : State} (same : t.time = s.time) : validity t = validity s := by rw [validity, same, validity]

theorem validity_takeStep (src : Nat) (amount : Int) (valid invalidate : Bool) (s : State) : validity (takeStep src amount valid invalidate s) = validity s := rfl

theorem validity_holdoverTick (s : State) : validity (holdoverTick s) = validity s := by
  unfold holdoverTick
  split
  · rfl
  · split
    · rfl
    · split
      · unfold servoStep
        split <;> rfl
      · rfl

theorem validity_checkReceiver (bad : List Nat) (s : State) (sl : Nat) : validity (checkReceiver bad s sl) = validity s := by
  have logged (u : State) : validity (logFault 8 0 (800 + sl) u) = validity u := validity_of_time (by simp)
  unfold checkReceiver
  dsimp only
  split
  · split
    · exact logged _
    · rfl
  · split
    · split <;> rfl
    · rfl

theorem validity_checkReceivers (bad slices : List Nat) (s : State) : validity (slices.foldl (checkReceiver bad) s) = validity s := by
  induction slices generalizing s with
  | nil => rfl
  | cons a slices ih => exact (ih _).trans (validity_checkReceiver bad s a)

theorem validity_tickTime (skewed : List Nat) (s : State) : validity (tickTime skewed s)
    = ((tickCounters s.build.owlHz s.time).valid, (tickCounters s.build.owlHz s.time).uncertain, (tickCounters s.build.owlHz s.time).stepCount) := by
  unfold tickTime
  dsimp only
  rw [validity_holdoverTick, validity_of_time (time_of_view (view_otdTick rfl rfl rfl rfl _)), validity_checkReceivers,
    validity_of_time (time_of_view (view_stepTick rfl rfl rfl rfl rfl rfl ..))]
  rfl

theorem tickCounters_validity_of_none {owlHz : Nat} {t : TimeUnit} (none : t.stepNext = none) :
    (tickCounters owlHz t).valid = t.valid ∧ (tickCounters owlHz t).uncertain = t.uncertain ∧ (tickCounters owlHz t).stepCount = t.stepCount := by
  simp only [tickCounters, none, and_self]

theorem tickCounters_validity_of_some {owlHz : Nat} {t : TimeUnit} {d : Int} {valid invalidate : Bool} (step : t.stepNext = some (d, valid, invalidate)) :
    (tickCounters owlHz t).valid = (if invalidate then false else valid || t.valid) ∧ (tickCounters owlHz t).uncertain = false
    ∧ (tickCounters owlHz t).stepCount = t.stepCount + BitVec.ofNat 16 t.stepsNext := by
  simp only [tickCounters, step, and_self]

theorem exec_owlTick_validity (skewed : List Nat) (s : State) : ∃ t, exec (.owlTick skewed) s = .next t
    ∧ t.time.valid = (tickCounters s.build.owlHz s.time).valid ∧ t.time.uncertain = (tickCounters s.build.owlHz s.time).uncertain
    ∧ t.time.stepCount = (tickCounters s.build.owlHz s.time).stepCount := by
  have all : validity (noteIdle (tickTime skewed s)) = _ := (validity_of_time (time_of_view (view_noteIdle rfl _))).trans (validity_tickTime skewed s)
  simp only [validity, Prod.mk.injEq] at all
  exact ⟨_, rfl, all⟩

/-! Timers, PPS and temperature. -/

theorem exec_timerFire {n x : Nat} {t : Timer} {s : State} (first : (dueTimers s).head? = some (x, n)) (set : s.time.timers.get? n = some t)
    (noFlip : s.quad.sets.any (flipDue s) = false) (noEdge : ppsBefore s t.target = false) : exec (.timerFire n) s = .next (fire (32 + n) { s with time := { s.time with
      timers := if t.mode = 2 then s.time.timers.set n { t with target := periodicFrom t.target t.period (timeNs s + 1), hit := false } else s.time.timers.del n } }) := by
  change execTimerFire n s = _
  rw [execTimerFire, first, set]
  dsimp only
  rw [noFlip, noEdge, if_neg (by simp)]

section
variable {n : Nat} {s : State} (on : s.time.ppsInEn = true)
include on

theorem exec_ppsInEdge_of_glitch {x : Nat} (edge : s.time.ppsEdge = some x) (soon : rawSix s + n < x + 16000) :
    exec (.ppsInEdge n) s = .next { s with time := { s.time with ppsGlitch := min 0xFFFF (s.time.ppsGlitch + 1) } } := by
  change execPpsInEdge n s = _
  simp only [execPpsInEdge, on, edge, soon, decide_true, Bool.not_true, Bool.false_eq_true, if_false, if_true]

theorem exec_ppsInEdge_of_edge (clear : ∀ x, s.time.ppsEdge = some x → x + 16000 ≤ rawSix s + n) : exec (.ppsInEdge n) s
    = .next (fire 26 { s with time := { s.time with
        ppsIn := unsignedN 80 ((timeSixteenths s + n) * 4096), ppsValid := s.time.valid, ppsSeq := s.time.ppsSeq + 1, ppsEdge := some (rawSix s + n) } }) := by
  change execPpsInEdge n s = _
  cases edge : s.time.ppsEdge with
  | none => simp only [execPpsInEdge, on, edge, Bool.not_true, Bool.false_eq_true, if_false]
  | some x =>
    simp only [execPpsInEdge, on, edge, decide_eq_false (not_lt.mpr (clear x edge)), Bool.not_true, Bool.false_eq_true, if_false]

end

theorem ppsDue_of_due {s : State} (on : s.time.ppsOutEn = true) (valid : s.time.valid = true) (new : s.time.prev / 65536000000000 < time16 s / 65536000000000)
    (past : 0 ≤ time16 s / 65536000000000) (last : ∀ k, s.time.ppsLast = some k → (k : Int) < time16 s / 65536000000000) :
    ppsDue s = some (s.time.prev / 65536000000000 + 1) := by
  have fresh : (match s.time.ppsLast with | some k => decide ((k : Int) < time16 s / 65536000000000) | none => true) = true := by
    cases edge : s.time.ppsLast with
    | none => rfl
    | some k => exact decide_eq_true (last k edge)
  have due : (s.time.ppsOutEn && s.time.valid && decide (s.time.prev / 65536000000000 < time16 s / 65536000000000)
      && (match s.time.ppsLast with | some k => decide ((k : Int) < time16 s / 65536000000000) | none => true) && decide (0 ≤ time16 s / 65536000000000)) = true := by
    rw [on, valid, fresh, decide_eq_true new, decide_eq_true past]; rfl
  exact if_pos due

theorem ppsDue_of_invalid {s : State} (invalid : s.time.valid = false) : ppsDue s = none := by
  simp only [ppsDue, invalid, Bool.and_false, Bool.false_and, Bool.false_eq_true, if_false]

/-- What the sensors' readings leave, before an alert (R81). -/
def thermRead (l : List Int) (alert : Bool) (since : Option Nat) (s : State) : State := { s with
  boot := { s.boot with sensors := l, thermAlert := alert }
  time := { s.time with thermEval := rawNs s, coolSince := since } }

theorem alert_of_thermRead {l : List Int} {hot fall fall' : Bool} {since since' : Option Nat} {s : State} (same : since = since') (falls : fall = fall') :
    (if hot && !s.boot.thermAlert then fire 4 (thermRead l (hot || (s.boot.thermAlert && !fall)) since s) else thermRead l (hot || (s.boot.thermAlert && !fall)) since s)
      = if hot = true ∧ s.boot.thermAlert = false then fire 4 (thermRead l (hot || (s.boot.thermAlert && !fall')) since' s)
        else thermRead l (hot || (s.boot.thermAlert && !fall')) since' s := by
  rw [same, falls]
  exact if_congr (by simp) rfl rfl

/-- The readings stand away from the limit, whatever the condition on the time held: `p` stays closed, so that no literal of it is counted down. -/
theorem coolHeld_any (p : Nat → Bool) (cool : Bool) (held : Option Nat) (now : Nat) :
    (match (if cool then (match held with | some t => some t | none => some now) else none) with | some t => p t | none => false)
      = (if cool = true then some (held.getD now) else none).any p := by
  cases cool <;> cases held <;> rfl

/-- What an evaluation of the sensors finds (R81). -/
theorem exec_thermEval {l : List Int} {s : State} (due : s.time.thermEval + 1000000 ≤ rawNs s) : ∃ hot cool since falls : _,
      (hot = true ↔ ∃ v, v ∈ l.take (nSlices s + 2) ∧ s.boot.thermLimit < v)
      ∧ (cool = true ↔ ∀ v, v ∈ l.take (nSlices s + 2) → v ≤ s.boot.thermLimit - s.boot.thermHyst)
      ∧ since = (if cool = true then some (s.time.coolSince.getD (rawNs s)) else none)
      ∧ (falls = true ↔ ∃ c, since = some c ∧ c + 1000000 ≤ rawNs s)
      ∧ exec (.thermEval l) s = .next (
          let t := { s with
            boot := { s.boot with sensors := l.take (nSlices s + 2), thermAlert := hot || (s.boot.thermAlert && !falls) }
            time := { s.time with thermEval := rawNs s, coolSince := since } }
          if hot = true ∧ s.boot.thermAlert = false then fire 4 t else t) := by
  refine ⟨(l.take (nSlices s + 2)).any (fun t => decide (s.boot.thermLimit < t)), (l.take (nSlices s + 2)).all (fun t => decide (t ≤ s.boot.thermLimit - s.boot.thermHyst)),
    _, (if (l.take (nSlices s + 2)).all (fun t => decide (t ≤ s.boot.thermLimit - s.boot.thermHyst)) = true then some (s.time.coolSince.getD (rawNs s)) else none).any
      (fun t => decide (t + 1000000 ≤ rawNs s)), ?_, ?_, rfl, ?_, ?_⟩
  · simp [List.any_eq_true]
  · simp [List.all_eq_true]
  · rw [Option.any_eq_true]
    simp only [decide_eq_true_eq]
  · change execThermEval l s = _
    rw [execThermEval]
    refine congrArg Host.Outcome.next ((if_neg (not_lt.mpr due)).trans ?_)
    refine alert_of_thermRead ?_ ?_
    · cases s.time.coolSince <;> rfl
    · exact coolHeld_any (fun t => decide (t + 1000000 ≤ rawNs s)) ..

/-- Settles O42: each event by the branch of its meaning that the premises choose, TIME_VALID by `exec_owlTick_validity`. -/
theorem timeEventsComplete : Obligations.TimeEventsComplete := by
  unfold Obligations.TimeEventsComplete
  refine ⟨?_, ?_, fun n x s on edge soon => exec_ppsInEdge_of_glitch on edge soon, fun n s on clear => ⟨_, exec_ppsInEdge_of_edge on clear, rfl⟩, ?_, ?_, ?_,
    fun l s due => exec_thermEval due, ?_⟩
  · intro n k t s x first set noFlip noEdge mode
    exact ⟨_, exec_timerFire first set noFlip noEdge, fun once => if_neg (by rw [mode]; exact once), fun periodic => if_pos (by rw [mode]; exact periodic)⟩
  · intro n s off
    change execPpsInEdge n s = _
    rw [execPpsInEdge]
    rw [off]
    rfl
  · intro s on valid new past last noFlip timers
    have noTimer : (dueTimers s).any (fun t => decide ((t.1 : Int) < (s.time.prev / 65536000000000 + 1) * 1000000000)) = false :=
      List.any_eq_false.mpr fun t member => by simpa using timers t member
    change execPpsOutEdge s = _
    rw [execPpsOutEdge, ppsDue_of_due on valid new past last]
    dsimp only
    rw [noFlip, noTimer]
    rfl
  · intro s invalid
    change execPpsOutEdge s = _
    rw [execPpsOutEdge, ppsDue_of_invalid invalid]
  · intro t s high past
    change execPpsOutFall s = _
    simp only [execPpsOutFall, high, past, if_true]
  · intro skewed s
    obtain ⟨t, run, valid, uncertain, count⟩ := exec_owlTick_validity skewed s
    refine ⟨t, run, fun none => ?_, fun d v i step => ?_⟩
    · rw [valid, uncertain, count]
      exact tickCounters_validity_of_none none
    · rw [valid, uncertain, count]
      exact tickCounters_validity_of_some step

end Sys2Proof.Machine
end

section
/-! SUPPORT. The Sezal domain (R189, R344, R352 to R368). -/

namespace Sys2Proof.Machine

/-! Commands. -/

theorem timeStNum_lt (t : TimeSt) : timeStNum t < 256 := by cases t <;> decide

theorem settleApplied_of_voting {e : Env} {id : Nat} {s : State} (votes : votingSet s id = true) : settleApplied e id s = respond e 0x0D05 (okV [0])
    (backInStep (takeApply id 0 0 none (updSez (fun z => { z with voting := z.voting.filter (fun v => decide (v.set ≠ id)), following := none }) s))) := by
  rw [settleApplied, if_pos votes]

theorem settleDiscarded_of_not_flipped {e : Env} {id : Nat} {s : State} (pending : flippedSet s id = false) : settleDiscarded e id s = respond e 0x0D05 (okV [1])
    (backInStep (abortSet id (updSez (fun z => { z with voting := z.voting.filter (fun v => decide (v.set ≠ id)), following := none }) s))) := by
  rw [settleDiscarded, if_neg (Bool.eq_false_iff.mp pending)]

/-- Settles O43: each command by `runOk_of_passed`, the resync commands by their settlement. -/
theorem sezalCommandsComplete : Obligations.SezalCommandsComplete := by
  unfold Obligations.SezalCommandsComplete
  refine ⟨?_, ?_, ?_, ?_, ?_, fun e s turn passed => next_runOk turn passed, ?_, ?_, ?_, ?_⟩
  · intro e s turn passed on
    refine (next_runOk turn passed).trans ?_
    dsimp only
    rw [on, if_neg (by simp), if_pos rfl]
  · intro e s turn passed off enabled
    refine (next_runOk turn passed).trans ?_
    dsimp only
    rw [off, if_pos (by rw [show (updCfg (sezalGraphs (fld e.payload 4 2)) s).sez = s.sez from rfl, enabled]; rfl)]
  · intro e s turn passed off disabled
    refine (next_runOk turn passed).trans ?_
    dsimp only
    rw [off, if_neg (by rw [show (updCfg (sezalGraphs (fld e.payload 4 2)) s).sez = s.sez from rfl, disabled]; simp), if_neg (by simp)]
  · intro e s turn passed
    refine ⟨_, next_runOk turn passed, ?_, ?_⟩
    · change (BitVec.ofNat 8 (if !s.sez.enabled then 0 else if s.sez.idConflict then 3 else if s.sez.present.length ≤ 1 then 1 else 2)).toNat = _
      rw [BitVec.toNat_ofNat, Nat.mod_eq_of_lt (by split_ifs <;> decide)]
      simp only [Bool.not_eq_true']
    · change (BitVec.ofNat 8 (timeStNum s.sez.time)).toNat = _
      exact Nat.mod_eq_of_lt (timeStNum_lt _)
  · intro e s turn passed
    exact ⟨_, next_runOk turn passed, _, _, rfl, rfl⟩
  · intro e s turn passed
    change ∃ coord, execSezalResyncFollow e s = _ ∧ _
    simp only [execSezalResyncFollow, ifTurn, turn, passed, if_true]
    exact ⟨_, rfl, fun v found => by rw [found]⟩
  · intro e s turn passed votes
    change execSezalResyncForceApply e s = _
    simp only [execSezalResyncForceApply, ifTurn, turn, passed, if_true, settleApplied_of_voting votes]
  · intro e s turn passed pending
    change execSezalResyncForceDiscard e s = _
    simp only [execSezalResyncForceDiscard, ifTurn, turn, passed, if_true, settleDiscarded_of_not_flipped pending]
  · intro e id t0 s following late
    change execResyncFollowTimeout s = _
    simp only [execResyncFollowTimeout, following, not_lt.mpr late, if_false]


/-! Control messages. -/

section
variable {msg p : Nat} {d : List Byte} {s : State}

/-- A good control message reaches its effect. -/
theorem receiveCtl_of_good {eff : CtlMsg → State → State} (good : goodCtl msg p d s) : receiveCtl msg p d eff s = eff (ctlOf d) (tookCtl p d s) := by
  obtain ⟨domain, tagged, ctl, long, number, lenOk, faultless⟩ := good
  simp only [receiveCtl, tookCtl, domain, tagged, ctl, long, number, lenOk, faultless, Bool.and_self, Bool.not_true, Bool.or_self, Bool.false_eq_true, ne_eq, not_true,
    decide_false, decide_true, Bool.and_false, if_false]

theorem receiveFlood_of_new {eff : CtlMsg → State → State} (good : goodCtl msg p d s) (new : newFlood s (ctlOf d) = true) :
    receiveFlood msg p d eff s = eff (ctlOf d) (forwardFlood p d (noteSeen (ctlOf d) (tookCtl p d s))) := by
  rw [receiveFlood, receiveCtl_of_good good]
  exact if_pos new

/-- A control message whose length does not fit counts as malformed and ends there (R352). -/
theorem receiveCtl_of_misfit {eff : CtlMsg → State → State} (domain : isDomainPort s p = true) (tagged : sezalTagged s d = true) (ctl : bitN (byteAt d 15) 1 = true)
    (long : 30 ≤ d.length) (number : byteAt d 28 = msg) (faultless : tagFault s p d = none) (misfit : ctlLenOk msg d = false) :
    receiveCtl msg p d eff s = sezBump 0 (takeInbox p d s) := by
  simp only [receiveCtl, domain, tagged, ctl, long, number, misfit, faultless, Bool.and_self, Bool.not_true, Bool.or_self, Bool.false_eq_true, ne_eq, not_true,
    decide_false, decide_true, Bool.and_false, if_false, Bool.not_false, if_true]

/-- Our own message, or one whose number we have seen, is not taken again (R352). -/
theorem ownOrSeen_eq_false {m : CtlMsg} {u : Nat} (other : ¬ (m.src = s.sez.inst ∧ u = s.sez.uid)) (new : m.num ∉ s.sez.seen.getD m.src []) :
    (decide (m.src = s.sez.inst) && decide (u = s.sez.uid) || decide (m.num ∈ s.sez.seen.getD m.src [])) = false := by
  rw [← Bool.decide_and, decide_eq_false other, decide_eq_false new]
  rfl

end

theorem length_beB (n v : Nat) : (beB n v).length = n := by
  rw [beB, List.length_reverse, length_leB]

/-- The set's culprit at its deadline: a voter that is not ready (R365). -/
theorem culprit_of_deadline {voters ready : List Nat} {v : Nat} (voter : v ∈ voters) (silent : v ∉ ready) :
    ((voters.find? (fun v => !decide (v ∈ ready))).getD 0xFFFF) ∈ voters ∧ ((voters.find? (fun v => !decide (v ∈ ready))).getD 0xFFFF) ∉ ready := by
  cases found : voters.find? (fun v => !decide (v ∈ ready)) with
  | none => exact absurd (List.find?_eq_none.mp found v voter) (by simp [silent])
  | some w => exact ⟨List.mem_of_find?_eq_some found, by simpa using List.find?_some found⟩

/-- Whether a hello brings an adjacency up or down or shows another member there (R354). -/
def turnedAdj (a n : Adj) : Bool := decide ((a.st = .up) ≠ (n.st = .up)) || decide (a.inst ≠ n.inst)

/-- Settles O44: the timers clause by clause, the messages by `receiveCtl_of_good` and `receiveFlood_of_new`. -/
theorem sezalEventsComplete : Obligations.SezalEventsComplete := by
  unfold Obligations.SezalEventsComplete
  refine ⟨?_, ?_, ?_, ?_, ?_, ?_, ?_, ?_, ?_, ?_, ?_, ?_, ?_, ?_, ?_, ?_, ?_, ?_, ?_, ?_⟩
  · intro p s domain up due
    change execHelloTx p s = _
    simp only [execHelloTx, domain, up, decide_eq_false (not_lt.mpr due), Bool.not_true, Bool.or_self, Bool.false_eq_true, if_false]
  · intro p s known silent
    change execAdjacencyTimeout p s = _
    simp only [execAdjacencyTimeout, ne_eq, known, silent, not_false_eq_true, decide_true, Bool.or_true, Bool.and_self, if_true]
  · intro s enabled due
    have owed : (s.sez.memberDirty || decide (s.sez.memberSent + 100000000 ≤ rawNs s)) = true := by simpa using due
    change ∃ body, execMemberTx s = _ ∧ _
    simp only [execMemberTx, enabled, owed, Bool.not_true, Bool.or_self, Bool.false_eq_true, if_false]
    refine ⟨_, rfl, ?_⟩
    simp only [List.append_assoc]
    exact List.take_left' (length_beB 8 _)
  · intro i x s member aged
    change ∃ rival, execMemberAge i s = _
    simp only [execMemberAge, member, aged, decide_true, Bool.true_or, if_true]
    exact ⟨_, rfl⟩
  · intro t1 p s upstream enabled clear adjacent due
    change execSyncReqTx t1 s = _
    simp only [execSyncReqTx, upstream, enabled, clear, adjacent, decide_eq_false (not_lt.mpr due), Bool.not_true, Bool.or_self, Bool.false_eq_true, if_false]
  · intro c s due
    change execProposeRepeat s = _
    simp only [execProposeRepeat, due]
  · intro v s due
    change execVoteRepeat s = _
    simp only [execVoteRepeat, due]
  · intro c s due
    change ∃ culprit, execVoteDeadline s = _ ∧ _
    simp only [execVoteDeadline, due]
    exact ⟨_, rfl, fun v => culprit_of_deadline⟩
  · intro o s due
    change execOutcomeRepeat s = _
    simp only [execOutcomeRepeat, due]
  · intro set v s voting due free ready
    change execApplyTimeNoOutcome set s = _
    simp only [execApplyTimeNoOutcome, voting, not_lt.mpr due, free, ready, decide_false, Bool.or_self, Bool.false_eq_true, if_false, if_true]
  · intro p d s good up other
    refine ⟨s.sez.memberDirty || turnedAdj (adjOf s p) (heardHello (tookCtl p d s) (ctlOf d) (adjOf s p)), (congrArg Host.Outcome.next (receiveCtl_of_good good)).trans ?_⟩
    exact congrArg Host.Outcome.next ((if_neg other).trans (if_neg (by rw [up]; simp)))
  · intro p d s good other new
    refine (congrArg Host.Outcome.next (receiveCtl_of_good good)).trans ?_
    exact congrArg Host.Outcome.next (if_neg (Bool.eq_false_iff.mp (ownOrSeen_eq_false other new)))
  · intro p d x s good other new member uid
    have found : (tookCtl p d s).sez.members.get? (ctlOf d).src = some x := member
    change ∃ rival, execLeaveRx p d s = _
    simp only [execLeaveRx, receiveCtl_of_good good, ownOrSeen_eq_false (s := tookCtl p d s) other new, found, uid, decide_true, Bool.false_eq_true, if_false]
    exact ⟨_, rfl⟩
  · intro p d t2 s good up
    refine (congrArg Host.Outcome.next (receiveCtl_of_good good)).trans ?_
    exact congrArg Host.Outcome.next (if_neg (by rw [up]; simp))
  · intro p d t4 id t1 s good asked upstream follow answers
    have asked' : (tookCtl p d s).sez.req = some (id, t1) := asked
    have upstream' : (tookCtl p d s).sez.upstream = some p := upstream
    have follow' : (tookCtl p d s).sez.follow = true := follow
    change ∃ asym, execSyncRespRx p d t4 s = _ ∧ _
    simp only [execSyncRespRx, receiveCtl_of_good good, asked', upstream', follow', answers, ne_eq, not_true, decide_false, Bool.not_true, Bool.or_self,
      Bool.false_eq_true, if_false]
    refine ⟨_, rfl, fun none => ?_, fun x some => ?_⟩
    · rw [show (cfg (tookCtl p d s)).domPort.get? p = _ from none]
    · rw [show (cfg (tookCtl p d s)).domPort.get? p = _ from some]
  · intro p d s r good new r_eq present fresh unknown
    subst r_eq
    refine ⟨_, _, rfl, rfl, ?_⟩
    refine (congrArg Host.Outcome.next (receiveFlood_of_new good new)).trans ?_
    exact congrArg Host.Outcome.next (if_neg (by rw [decide_eq_true present, fresh, unknown]; simp))
  · intro p d c s r good r_eq ours coord voter ahead
    subst r_eq
    refine ⟨_, rfl, ?_⟩
    change execVoteRx p d s = _
    simp only [execVoteRx, receiveCtl_of_good good, ours, coord, voter, ne_eq, not_true, if_false, decide_true, Bool.not_true, decide_eq_false (not_le.mpr ahead),
      Bool.or_self, Bool.false_eq_true]
  · intro p d s r good new r_eq free
    subst r_eq
    change ∃ r1, execOutcomeRx p d s = _ ∧ _
    simp only [execOutcomeRx, receiveFlood_of_new good new, free]
    exact ⟨_, rfl, rfl, rfl⟩
  · intro p d o s r good new r_eq known
    subst r_eq
    change execOutcomeQueryRx p d s = _
    simp only [execOutcomeQueryRx, receiveFlood_of_new good new, known]
  · intro p d s domain tagged ctl long number faultless misfit
    exact congrArg Host.Outcome.next (receiveCtl_of_misfit domain tagged ctl long number faultless misfit)

end Sys2Proof.Machine
end

section
/-! SUPPORT. Otdiuri's time commands and the servo port (R147, R148, R384, R386). -/

namespace Sys2Proof.Machine

theorem length_ten (v : Int) : (ten v).length = 10 := by
  rw [ten, List.length_append, length_leB, length_leB]

/-- The servo port refuses what meets no authority, a full log, or a rate out of range (R175). -/
theorem execServoInc_of_refused {inc : BitVec 40} {s : State} (refused : servoRefused s = true ∨ incInRange s inc.toNat = false) :
    execServoInc inc s = .next (otdCount 7 1 s) := by
  have some : (servoRefused s || !incInRange s inc.toNat) = true := by simpa using refused
  rw [execServoInc, if_pos some]

theorem execServoInc_of_taken {inc : BitVec 40} {s : State} (free : servoRefused s = false) (fits : incInRange s inc.toNat = true) :
    execServoInc inc s = .next (if servoRuns s = true then takeInc 2 inc.toNat (servoActed s.time.lock s) else s) := by
  simp only [execServoInc, free, fits, Bool.not_true, Bool.or_self, Bool.false_eq_true, if_false]
  cases servoRuns s <;> simp

theorem servoStep_of_taken {amount : Int} {valid invalidate : Bool} {s : State} (free : servoRefused s = false) (one : (valid && invalidate) = false) :
    servoStep amount valid invalidate s = takeStep 2 amount valid invalidate s := by
  rw [servoStep, free, one, if_neg (by simp)]

theorem execServoStep_of_idle {amount : BitVec 80} {valid invalidate : Bool} {s : State} (free : servoRefused s = false) (one : (valid && invalidate) = false)
    (idle : servoPorts s = [] ∨ followsDomain s = true) : execServoStep amount valid invalidate s = .next s := by
  have none : ((servoPorts s).isEmpty || followsDomain s) = true := by simpa using idle
  simp only [execServoStep, free, one, none, Bool.or_self, Bool.false_eq_true, if_false, if_true]

theorem execServoStep_of_refused {amount : BitVec 80} {valid invalidate : Bool} {s : State} (refused : servoRefused s = true ∨ (valid && invalidate) = true) :
    execServoStep amount valid invalidate s = .next (otdCount 7 1 s) := by
  have some : (servoRefused s || (valid && invalidate)) = true := by simpa only [Bool.or_eq_true] using refused
  rw [execServoStep, if_pos some]

/-- Settles O45: the commands by `next_runOtd`, the servo port by its four cases. -/
theorem meterTimeComplete : Obligations.MeterTimeComplete := by
  unfold Obligations.MeterTimeComplete
  refine ⟨fun e s passed => next_runOtd passed, fun e s passed => next_runOtd passed, fun e s passed => ⟨_, next_runOtd passed, ?_, ?_⟩, fun e s passed => next_runOtd passed,
    fun e s passed => ⟨_, next_runOtd passed, rfl⟩, fun e s passed => next_runOtd passed, fun inc s => execServoInc_of_taken, fun inc s => execServoInc_of_refused, ?_,
    fun amount valid invalidate s => execServoStep_of_idle, fun amount valid invalidate s => execServoStep_of_refused, fun src inc s => ⟨rfl, rfl, rfl⟩, ?_⟩
  · dsimp only
    simp only [List.append_assoc]
    rw [← List.append_assoc (ten (rawT s))]
    exact List.take_left' (by simp [length_ten, length_leB])
  · simp [length_ten, length_leB]
  · intro amount valid invalidate s free one ports apart
    have some : ((servoPorts s).isEmpty || followsDomain s) = false := by simp [ports, apart]
    change execServoStep amount valid invalidate s = _
    simp only [execServoStep, free, one, some, Bool.or_self, Bool.false_eq_true, if_false]
    refine congrArg Host.Outcome.next (servoStep_of_taken ?_ one)
    cases invalidate <;> exact free
  · intro src amount valid invalidate s free
    simp only [takeStep, free]
    rfl

end Sys2Proof.Machine
end

section
/-! SUPPORT. Metering: account map, record ring, summaries, intervals (R387 to R395, R401). -/

namespace Sys2Proof.Machine

theorem length_insertBy {α : Type} (key : α → Nat) (a : α) (l : List α) : (insertBy key a l).length = l.length + 1 := by
  induction l with
  | nil => rfl
  | cons b l ih =>
    rw [insertBy]
    split
    · rfl
    · rw [List.length_cons, ih, List.length_cons]

theorem length_foldl_insertBy {α : Type} (key : α → Nat) (as l : List α) : (as.foldl (fun l a => insertBy key a l) l).length = l.length + as.length := by
  induction as generalizing l with
  | nil => rfl
  | cons a as ih => rw [List.foldl_cons, ih, length_insertBy, List.length_cons]; omega

theorem length_accountRecord (c : Closing) (s : State) (a : Nat) : (accountRecord c s a).otd.pending.length = s.otd.pending.length + 1 :=
  List.length_append

theorem length_foldl_accountRecord (c : Closing) (as : List Nat) (s : State) :
    (as.foldl (accountRecord c) s).otd.pending.length = s.otd.pending.length + as.length := by
  induction as generalizing s with
  | nil => rfl
  | cons a as ih => rw [List.foldl_cons, ih, length_accountRecord, List.length_cons]; omega

/-- A record for each active account, and a summary (R392). -/
theorem length_closeInterval (c : Closing) (s : State) : (closeInterval c s).otd.pending.length = s.otd.pending.length + s.otd.accounts.length + 1 := by
  calc (closeInterval c s).otd.pending.length
      = (((activeAccounts s.otd).foldl (fun l a => insertBy id a l) []).foldl (accountRecord c) s).otd.pending.length + 1 := List.length_append
    _ = s.otd.pending.length + ((activeAccounts s.otd).foldl (fun l a => insertBy id a l) []).length + 1 := by rw [length_foldl_accountRecord]
    _ = _ := by rw [length_foldl_insertBy, activeAccounts, KMap.keys, List.length_map, List.length_nil, Nat.zero_add]

/-- A good frame counts with the account of its flow or port, and with no other (R388). -/
theorem accounts_chargeHeld {h : TapHeld} {a : Nat} {s : State} (whole : h.key.spilled = false) (good : h.key.outcome = 0)
    (account : accountOf s.otd.map h.key.port h.key.flow h.key.transmit = some a) :
    (chargeHeld h s).otd.accounts = s.otd.accounts.upd a {} (fun k => if h.key.transmit then { k with txFrames := k.txFrames + h.frames, txBytes := k.txBytes + h.bytes }
      else { k with rxFrames := k.rxFrames + h.frames, rxBytes := k.rxBytes + h.bytes }) := by
  have kept : accountOf (otdCount 11 1 s).otd.map h.key.port h.key.flow h.key.transmit = some a := account
  simp only [chargeHeld, whole, good, kept, Option.isSome_some, Bool.false_eq_true, if_false, if_true, OfNat.zero_ne_ofNat]
  change (chargeGood h.key h.frames h.bytes (otdCount 11 1 s).otd).accounts = _
  simp only [chargeGood, kept]
  rfl

theorem time_beginClose (s : State) : (beginClose s).time = s.time :=
  agree_of_view (μ := fun p => p != .time) (view_beginClose rfl rfl rfl rfl rfl rfl s) .time rfl

/-- What the boundary begins to close (R390). -/
theorem intervalBoundary_of_due {s : State} {c : Closing} (ready : s.otd.start = .ready) (free : s.otd.closing = none) (due : boundaryDue s = true)
    (begun : (beginClose s).otd.closing = some c) : execIntervalBoundary s =
      .next (if !(waiting (beginClose s)).any lateFrame || decide (c.at' + 1000000 ≤ rawNs (beginClose s)) then finishClose c (beginClose s) else beginClose s) := by
  simp only [execIntervalBoundary, ready, free, due, begun, ne_eq, not_true, if_false, Option.isSome_none, Bool.false_eq_true, if_true]

theorem intervalBoundary_of_closing {s : State} {c : Closing} (ready : s.otd.start = .ready) (closing : s.otd.closing = some c) : execIntervalBoundary s =
      .next (if !(waiting s).any lateFrame || decide (c.at' + 1000000 ≤ rawNs s) then finishClose c s else s) := by
  simp only [execIntervalBoundary, ready, closing, ne_eq, not_true, if_false, Option.isSome_some, if_true]

/-- Settles O46: the commands by `next_runOtd`, the boundary by `intervalBoundary_of_due` and `intervalBoundary_of_closing`. -/
theorem meteringComplete : Obligations.MeteringComplete := by
  unfold Obligations.MeteringComplete
  refine ⟨?_, ?_, fun e s passed => ⟨_, next_runOtd passed, rfl, rfl⟩, ?_, ?_, fun e s passed => next_runOtd passed, fun e s passed => next_runOtd passed, ?_, ?_, ?_, ?_, ?_, ?_, ?_, ?_, ?_,
    ?_, ?_, ?_, ?_, fun c a s => ⟨length_accountRecord c s a, rfl⟩, fun c s => ⟨length_closeInterval c s, rfl⟩⟩
  · intro e m s passed entries
    subst entries
    exact next_runOtd passed
  · intro e l s passed entries
    subst entries
    refine ⟨_, next_runOtd passed, fun short => ?_⟩
    simp only [List.drop_eq_nil_of_le short]
  · intro e r s passed valid ring
    subst ring
    refine (next_runOtd passed).trans ?_
    simp only [valid, if_true]
  · intro e s passed invalid
    refine (next_runOtd passed).trans ?_
    simp only [invalid, Bool.false_eq_true, if_false]
  · intro data r s ring fits ahead
    change execOringConsWrite data s = _
    simp only [execOringConsWrite, ring, fits, ahead, decide_true, Bool.and_self, if_true]
  · intro data r s ring past
    change execOringConsWrite data s = _
    simp only [execOringConsWrite, ring, not_lt.mpr past, decide_false, Bool.false_and, Bool.false_eq_true, if_false]
  · intro w r x rest s write ring writing first
    change execOtdRecordWriteAck s = _
    simp only [execOtdRecordWriteAck, write, ring, writing, first, Bool.not_false, if_true]
  · intro w r x rest s write ring writing second on
    refine ⟨_, rfl, ?_⟩
    change execOtdRecordWriteAck s = _
    simp only [execOtdRecordWriteAck, write, ring, writing, second, on, Bool.not_true, Bool.false_eq_true, if_false]
  · intro w s write due
    change execOtdRecordRetry s = _
    simp only [execOtdRecordRetry, write, not_lt.mpr due, if_false]
  · intro x h s found
    change execTapSummary x s = _
    simp only [execTapSummary, found]
  · intro x s missing
    change execTapSummary x s = _
    simp only [execTapSummary, missing]
  · intro h a s t whole good account charged
    subst charged
    rw [accounts_chargeHeld whole good account]
    exact ⟨by rw [KMap.getD_upd_same], fun k other => by rw [KMap.getD_upd, if_neg other]⟩
  · intro s start
    exact congrArg Host.Outcome.next (if_pos start)
  · intro s free idle
    change execIntervalBoundary s = _
    simp only [execIntervalBoundary, free, idle, Option.isSome_none, Bool.false_eq_true, if_false, ite_self]
  · intro s ready free due
    refine ⟨_, _, rfl, rfl, rfl, rfl, rfl, rfl, rfl, rfl, rfl, fun late => ?_, fun none => ?_⟩
    · refine (intervalBoundary_of_due ready free due rfl).trans ?_
      dsimp only
      rw [late, rawNs_congr (time_beginClose s), decide_eq_false (by omega), if_neg (by simp)]
    · refine (intervalBoundary_of_due ready free due rfl).trans ?_
      rw [none, if_pos (by simp)]
  · intro c s ready closing past
    refine (intervalBoundary_of_closing ready closing).trans ?_
    rw [if_pos (by simpa using past)]
  · intro c s ready closing late early
    refine (intervalBoundary_of_closing ready closing).trans ?_
    rw [late, decide_eq_false early, if_neg (by simp)]

end Sys2Proof.Machine
end

section
/-! SUPPORT. The seal, Otdiuri's log and its start (R72, R73, R149, R375 to R383, R397 to R399). -/

namespace Sys2Proof.Machine

/-- What Otdiuri holds besides its log. -/
def unlogged (o : Otd) : Otd := { o with log := [], logNext := 0, lastLogTag := [], lost := 0, logLost := false }

/-- What the log leaves of the seal and the start. -/
theorem fields_of_unlogged {a b : Otd} (h : unlogged a = unlogged b) : a.start = b.start ∧ a.key = b.key ∧ a.switch = b.switch ∧ a.sealSt = b.sealSt ∧ a.cells = b.cells
    ∧ a.ledger = b.ledger ∧ a.meterId = b.meterId ∧ a.nonce = b.nonce ∧ a.blockUntil = b.blockUntil ∧ a.ctr = b.ctr := by
  simp only [unlogged, Otd.mk.injEq] at h
  simp only [h, and_self]

theorem otd_fire (i : Nat) (s : State) : (fire i s).otd = s.otd := by simp

theorem otd_pushLog (code source detail : Nat) (s : State) : ∃ tag, (pushLog code source detail s).otd = { s.otd with
    log := s.otd.log ++ [⟨s.otd.logNext, code, source, s.time.discont.toNat, rawT s / 65536, timeNs s, detail, tag⟩], logNext := (s.otd.logNext + 1) % 2 ^ 32, lastLogTag := tag }
    ∧ tag = otdTag s.otd.key (ascii "OTDL" ++ logHead ⟨s.otd.logNext, code, source, s.time.discont.toNat, rawT s / 65536, timeNs s, detail, []⟩ ++ s.otd.lastLogTag) := by
  refine ⟨_, ?_, rfl⟩
  unfold pushLog
  dsimp only
  split
  · exact otd_fire ..
  · rfl

theorem otdLog_of_room {s : State} (code source detail : Nat) (whole : s.otd.lost = 0) (room : s.otd.log.length < 4096) :
    otdLog code source detail s = pushLog code source detail s := by
  simp only [otdLog, whole, room, lt_irrefl, decide_false, Bool.false_and, Bool.false_eq_true, if_false, if_true]

@[simp] theorem unlogged_pushLog (code source detail : Nat) (s : State) : unlogged (pushLog code source detail s).otd = unlogged s.otd := by
  obtain ⟨tag, otd, _⟩ := otd_pushLog code source detail s
  rw [otd]
  rfl

@[simp] theorem unlogged_loseLog (s : State) : unlogged (loseLog s).otd = unlogged s.otd := by
  unfold loseLog
  simp only [fire_keeps]
  rfl

/-- A record of the log changes nothing else that Otdiuri holds (R397). -/
@[simp] theorem unlogged_otdLog (code source detail : Nat) (s : State) : unlogged (otdLog code source detail s).otd = unlogged s.otd := by
  unfold otdLog
  dsimp only
  split_ifs <;> simp <;> rfl

/-! The seal. -/

/-- The seal as OSEAL_SEAL sets it (R378). -/
def sealNow (id : Nat) (s : State) : State :=
  let s1 := writeLedger 1 (updOtd (fun o => { o with sealSt := .isSealed, meterId := id }) s)
  fire 48 (otdLog 0x03 1 (id + 2 ^ 32 * sealEvents s1) s1)

theorem unlogged_sealNow (id : Nat) (s : State) :
    unlogged (sealNow id s).otd = unlogged { s.otd with sealSt := .isSealed, meterId := id, ledger := s.otd.ledger ++ [1] } := by
  rw [sealNow, otd_fire, unlogged_otdLog]
  rfl

theorem unlogged_unsealNow (s : State) : unlogged (unsealNow s).otd =
    unlogged { s.otd with sealSt := .isUnsealed, ledger := s.otd.ledger ++ [2], nonce := Config.nonce s.otd.draws, draws := s.otd.draws + 1 } := by
  rw [unsealNow, otd_fire, unlogged_otdLog]
  rfl

theorem unlogged_unsealDenied (s : State) : unlogged (unsealDenied s).otd =
    unlogged (otdCount 10 1 (drawNonce (updOtd (fun o => { o with blockUntil := some (rawNs s + 10000000000) }) s))).otd := by
  rw [unsealDenied, unlogged_otdLog]

theorem osealUnseal_of_passed {e : Env} {s : State}
    (passed : otdVerdict 0x8403 (lenIs 16) [] [fullVerdict s, unlessOk (s.otd.sealSt ≠ .isUnsealed) (stateV 0), unlessOk (!unsealBlocked s) (refusedV 3)] e s = none) :
    execOsealUnseal e s = .next (if authGood s (e.payload.take 16) then respond e 0x8403 (okV []) (unsealNow s) else respond e 0x8403 (refusedV 2) (unsealDenied s)) := by
  simp only [execOsealUnseal, passed]

/-- The seal as the switch leaves it when it opens on a sealed block. -/
def brokenNow (s : State) : State := writeLedger 3 (updOtd (fun o => { o with sealSt := .isBroken }) (updOtd (fun o => { o with switch := false }) s))

/-- The switch opened on a sealed block breaks the seal (R379). -/
theorem sealSwitchChange_of_broken {s : State} (ready : s.otd.start = .ready) (closed : s.otd.switch = true) (isSealed : s.otd.sealSt = .isSealed) :
    execSealSwitchChange false s = .next (fire 48 (otdLog 0x05 3 (sealEvents (brokenNow s)) (brokenNow s))) := by
  simp only [execSealSwitchChange, brokenNow, ready, closed, isSealed, Bool.false_eq_true, decide_false, ne_eq, not_true, Bool.or_self, if_false]

theorem sealSwitchChange_of_unchanged {level : Bool} {s : State}
    (idle : s.otd.start ≠ .ready ∨ s.otd.switch = level ∨ s.otd.sealSt = .isBroken ∨ (s.otd.sealSt = .isSealed ∧ level = true)) :
    execSealSwitchChange level s = .next (updOtd (fun o => { o with switch := level }) s) := by
  refine congrArg Host.Outcome.next (ite_eq_left_iff.mpr fun live => ?_)
  obtain ⟨moved, ready⟩ : level ≠ s.otd.switch ∧ s.otd.start = .ready := by simpa using live
  obtain notReady | same | broken | ⟨held, rfl⟩ := idle
  · exact absurd ready notReady
  · exact absurd same.symm moved
  · simp only [broken]
  · simp only [held, if_true]

/-- Settles O47: the commands by `next_runOtd`, the seal by what the log leaves (`unlogged_otdLog`). -/
theorem sealComplete : Obligations.SealComplete := by
  unfold Obligations.SealComplete
  refine ⟨fun e s passed => next_runOtd passed, fun e s passed => ⟨sealNow (fld e.payload 0 4) s, next_runOtd passed, ?_⟩,
    fun e s passed good => ⟨unsealNow s, (osealUnseal_of_passed passed).trans ?_, ?_⟩, fun e s passed bad => ⟨unsealDenied s, (osealUnseal_of_passed passed).trans ?_, ?_⟩, ?_, ?_, ?_, ?_, fun level s => sealSwitchChange_of_unchanged, ?_⟩
  · obtain ⟨-, key, -, sealed, -, ledger, meterId, -⟩ := fields_of_unlogged (unlogged_sealNow (fld e.payload 0 4) s)
    exact ⟨sealed, meterId, ledger, key⟩
  · rw [if_pos good]
  · obtain ⟨-, -, -, unsealed, -, ledger, -, nonce, -⟩ := fields_of_unlogged (unlogged_unsealNow s)
    exact ⟨unsealed, ledger, nonce⟩
  · rw [if_neg (Bool.eq_false_iff.mp bad)]
  · obtain ⟨-, -, -, held, -, ledger, -, -, block, ctr⟩ := fields_of_unlogged (unlogged_unsealDenied s)
    exact ⟨held, ledger, block, (congrArg (fun c => KMap.getD c 10 0) ctr).trans (KMap.getD_upd_same s.otd.ctr 10 0 (fun v => (v + 1) % 2 ^ 64))⟩
  · intro until' s blocked past
    change execUnsealBlockExpiry s = _
    simp only [execUnsealBlockExpiry, unsealBlocked, blocked, not_lt.mpr past, decide_false, Bool.not_false, Option.isSome_some, Bool.and_self, if_true]
  · intro until' s blocked early
    change execUnsealBlockExpiry s = _
    simp only [execUnsealBlockExpiry, unsealBlocked, blocked, early, decide_true, Bool.not_true, Bool.and_false, Bool.false_eq_true, if_false]
  · intro s ready closed isSealed
    refine ⟨_, sealSwitchChange_of_broken ready closed isSealed, ?_⟩
    rw [otd_fire]
    obtain ⟨-, -, switch, broken, -, ledger, -⟩ := fields_of_unlogged (unlogged_otdLog 0x05 3 (sealEvents (brokenNow s)) (brokenNow s))
    exact ⟨broken, ledger, switch⟩
  · intro level s ready moved unsealed
    change execSealSwitchChange level s = _
    simp only [execSealSwitchChange, ready, moved, unsealed, Bool.eq_not_self, decide_false, ne_eq, not_true, Bool.or_self, Bool.false_eq_true, if_false]
  · intro s s1 opened
    subst opened
    change execTestAccess s = _
    simp only [execTestAccess, ← Bool.decide_and, decide_eq_true_eq]

/-! The log and the start. -/

theorem otd_otdFinish (key : Option (List Byte)) (s : State) : unlogged (otdFinish key s).otd = unlogged { s.otd with
    start := .ready, key, keyReq := none, keyWords := [], cells := min 16383 (s.otd.cells + 1)
    ledger := if s.otd.ledger.getLast? = some 1 ∨ s.otd.ledger.getLast? = some 3 then s.otd.ledger ++ [2] else s.otd.ledger
    startRaw := rawT s, startTime := time16 s, baseRaw := rawT s, baseTime := time16 s, sawInvalid := !s.time.valid } := by
  unfold otdFinish
  dsimp only
  cases last : s.otd.ledger.getLast? with
  | none => cases key <;> simp
  | some c => by_cases owed : c = 1 ∨ c = 3 <;> cases key <;> simp [owed]

/-- Settles O48: the commands by `next_runOtd`, a record by `otd_pushLog`, the end of the start by `otd_otdFinish`. -/
theorem meterLogAndStartComplete : Obligations.MeterLogAndStartComplete := by
  unfold Obligations.MeterLogAndStartComplete
  refine ⟨?_, fun e s passed => ⟨_, next_runOtd passed, rfl⟩, ?_, ?_, ?_, ?_, ?_, ?_⟩
  · intro e l s passed records
    subst records
    exact ⟨_, _, next_runOtd passed, rfl, fun none => if_pos (List.isEmpty_iff.mpr none), fun some => if_neg (by rwa [List.isEmpty_iff])⟩
  · intro code source detail s whole room
    obtain ⟨tag, otd, tag_eq⟩ := otd_pushLog code source detail s
    rw [otdLog_of_room code source detail whole room, otd]
    exact ⟨_, rfl, rfl, rfl, rfl, rfl, rfl, rfl, tag_eq, rfl, rfl⟩
  · intro romOk level s
    refine ⟨_, rfl, ?_⟩
    cases s.time.valid <;> simp [nom32]
  · intro word k s reading asked short
    have short' : s.otd.keyWords.length + 1 < 8 := by omega
    change execKeyWord word s = _
    simp only [execKeyWord, reading, asked, short', ne_eq, not_true, decide_false, Option.isNone_some, Bool.or_self, Bool.false_eq_true, if_false, if_true,
      List.length_append, List.length_singleton]
  · intro word k l s reading asked words full
    subst words
    change ∃ t, execKeyWord word s = _ ∧ _
    simp only [execKeyWord, reading, asked, full, lt_irrefl, ne_eq, not_true, decide_false, Option.isNone_some, Bool.or_self, Bool.false_eq_true, if_false]
    obtain ⟨start, key, -, -, cells, -⟩ := fields_of_unlogged (otd_otdFinish (if ((s.otd.keyWords ++ [word]).all (· = 0) || (s.otd.keyWords ++ [word]).all (· = BitVec.allOnes 32))
      then none else some ((s.otd.keyWords ++ [word]).flatMap (fun w => leB 4 w.toNat))) s)
    refine ⟨_, rfl, start, cells, key.trans ?_⟩
    exact if_congr (by simp only [Bool.or_eq_true, List.all_eq_true, decide_eq_true_eq]) rfl rfl
  · intro k s reading asked
    obtain ⟨start, key, -, -, cells, ledger, -⟩ := fields_of_unlogged (otd_otdFinish none s)
    exact ⟨_, exec_keyTimeout_of_keyRead reading asked, start, key, cells, (otdFinish_counts none s).2, ledger⟩
  · intro word s started
    exact ⟨congrArg Host.Outcome.next (if_pos (by simp [started])), congrArg Host.Outcome.next (if_pos (by simp [started]))⟩

end Sys2Proof.Machine
end

section
/-! SUPPORT. The host queues' commands, doorbells and fetches (R403 to R410, R414, R420 to R429). -/

namespace Sys2Proof.Machine

/-! Writes on HPI. -/

theorem out_emit_congr (o : Output) {s t : State} (out : s.out = t.out) : (emit o s).out = (emit o t).out := by
  rw [emit, emit, out]

theorem hpiTag_congr {s t : State} (out : s.out = t.out) : hpiTag s = hpiTag t := by
  rw [hpiTag, hpiTag, out]

/-- What a write puts on HPI turns on what stands there already, and on nothing else. -/
theorem out_hpiWrite_congr (addr : Nat) (bytes : List Byte) {s t : State} (out : s.out = t.out) : (hpiWrite addr bytes s).out = (hpiWrite addr bytes t).out := by
  unfold hpiWrite
  generalize burstsAt addr bytes.length = l
  induction l generalizing s t with
  | nil => exact out
  | cons x l ih =>
    refine ih ?_
    dsimp only
    rw [hpiTag_congr out]
    exact out_emit_congr _ out

/-! A queue's state. -/

section
variable {n : Nat} {x : SubQ} {s : State}

theorem updSq_of_found (f : SubQ → SubQ) (found : sqOf s n = some x) : updSq n f s = { s with hq := { s.hq with sq := s.hq.sq.set n (f x) } } := by
  have found' : s.hq.sq.get? n = some x := found
  simp only [updSq, found']

theorem out_updSq (f : SubQ → SubQ) : (updSq n f s).out = s.out := by simp

theorem setQueueState_of_found {st : QueueSt} (found : sqOf s n = some x) : setQueueState n st s =
    updSq n (fun y => { y with wbN := y.accepted, wbAt := rawNs s, wbState := false, wbOpens := y.wbOpens ++ [y.accepted] })
      (hpiWrite x.headWb (headWord { x with st }) (updSq n (fun x => { x with st }) s)) := by
  have entered : sqOf (updSq n (fun x => { x with st }) s) n = some { x with st } := by rw [sqOf_updSq_same, found]; rfl
  have now : rawNs (updSq n (fun x => { x with st }) s) = rawNs s := rawNs_congr (by simp)
  simp only [setQueueState, writeHead, entered, now]

theorem sqOf_hpiWrite (addr : Nat) (bytes : List Byte) (k : Nat) (s : State) : sqOf (hpiWrite addr bytes s) k = sqOf s k := by simp [sqOf]

/-- A queue that enters a state has its head word written (R412). -/
theorem sqOf_setQueueState {st : QueueSt} (found : sqOf s n = some x) : sqOf (setQueueState n st s) n
    = some { x with st, wbN := x.accepted, wbAt := rawNs s, wbState := false, wbOpens := x.wbOpens ++ [x.accepted] } := by
  rw [setQueueState_of_found found, sqOf_updSq_same, sqOf_hpiWrite, sqOf_updSq_same, found]
  rfl

theorem out_setQueueState {st : QueueSt} (found : sqOf s n = some x) :
    (setQueueState n st s).out = (hpiWrite x.headWb (headWord { x with st }) s).out := by
  rw [setQueueState_of_found found, out_updSq]
  exact out_hpiWrite_congr _ _ (out_updSq _)

end

theorem sqOf_createQueue_same (x : SubQ) (n : Nat) (s : State) : sqOf (createQueue x n s) n = some x := KMap.get?_set_same ..

theorem sqOf_createQueue_other {x : SubQ} {n k : Nat} {s : State} (h : k ≠ n) : sqOf (createQueue x n s) k = sqOf s k := KMap.get?_set_other _ _ h

theorem queueNum_of_named {e : Env} {s : State} (named : fld e.payload 0 2 ≠ 0xFFFF) : (queueNum e s).getD 0 = fld e.payload 0 2 := by
  rw [queueNum, if_pos named]; rfl

theorem cqNum_of_named {e : Env} {s : State} (named : fld e.payload 0 2 ≠ 0xFFFF) : (cqNum e s).getD 0 = fld e.payload 0 2 := by
  rw [cqNum, if_pos named]; rfl

section
variable {e : Env} {x : SubQ} {s : State} (queue : onRing e = false) (found : sqOf s (fld e.payload 0 2) = some x)
include queue found

theorem disableUnit_of_enabled (on : x.st = .enabled) :
    disableUnit e s = setQueueState (fld e.payload 0 2) .disabled (updSq (fld e.payload 0 2) (fun x => { x with fetched := [], phaseWait := none }) s) := by
  simp only [disableUnit, queue, found, on, Bool.false_eq_true, if_false, if_true]

theorem disableUnit_of_off (off : x.st ≠ .enabled) : disableUnit e s = s := by
  simp only [disableUnit, queue, found, off, Bool.false_eq_true, if_false]

theorem enableUnit_of_off (off : x.st ≠ .enabled) : enableUnit e s = setQueueState (fld e.payload 0 2) .enabled
    (updSq (fld e.payload 0 2) (fun x => { x with tail := x.head, reason := 0, fetched := [], phaseWait := none, specMiss := true }) s) := by
  simp only [enableUnit, queue, found, off, Bool.false_eq_true, if_false]

theorem resetUnit_of_idle (idle : x.works = []) : resetUnit e s = setQueueState (fld e.payload 0 2) .disabled
    (updSq (fld e.payload 0 2) (fun x => { x with head := 0, tail := 0, reason := 0, fetched := [], phaseWait := none }) s) := by
  simp only [resetUnit, queue, found, idle, List.length_nil, flushPosted, Bool.false_eq_true, if_false]

end

/-- Settles O49: the commands by `next_runOk` and `next_runCmd`, the actions by what a queue's new state leaves. -/
theorem hostCommandsComplete : Obligations.HostCommandsComplete := by
  unfold Obligations.HostCommandsComplete
  refine ⟨fun e s turn passed => ⟨_, _, next_runOk turn passed, sqOf_createQueue_same .., queueNum_of_named, fun k => sqOf_createQueue_other, rfl⟩,
    fun e s turn passed => ⟨_, _, next_runOk turn passed, sqOf_createQueue_same .., queueNum_of_named, fun k => sqOf_createQueue_other, rfl⟩,
    fun e s turn passed => ⟨_, _, _, next_runOk turn passed, KMap.get?_set_same .., rfl, rfl, rfl, rfl, rfl, cqNum_of_named, fun k other => KMap.get?_set_other _ _ other, rfl⟩,
    fun e s turn passed ring => ⟨_, rfl, (next_runCmd turn passed).trans ?_⟩, ?_, ?_, ?_, fun e s turn passed ring => ⟨_, rfl, next_runCmd turn passed⟩, ?_, ?_, ?_⟩
  · have whole : disableUnit e s = updCq (fld e.payload 0 2) (fun x => { x with enabled := false }) s := if_pos ring
    simp only [whole]
  · intro e x s turn passed queue found on
    have cleared := sqOf_updSq_same (fld e.payload 0 2) (fun x => { x with fetched := [], phaseWait := none }) s
    rw [found] at cleared
    have disabled := disableUnit_of_enabled queue found on
    exact ⟨disableUnit e s, _, next_runCmd turn passed, (congrArg (sqOf · _) disabled).trans (sqOf_setQueueState cleared), rfl, rfl, rfl, rfl,
      ((congrArg State.out disabled).trans (out_setQueueState cleared)).trans (out_hpiWrite_congr _ _ (out_updSq _))⟩
  · intro e x s turn passed queue found off
    refine (next_runCmd turn passed).trans ?_
    simp only [disableUnit_of_off queue found off]
  · intro e x s turn passed queue found off
    have cleared := sqOf_updSq_same (fld e.payload 0 2) (fun x => { x with tail := x.head, reason := 0, fetched := [], phaseWait := none, specMiss := true }) s
    rw [found] at cleared
    exact ⟨enableUnit e s, _, next_runCmd turn passed, (congrArg (sqOf · _) (enableUnit_of_off queue found off)).trans (sqOf_setQueueState cleared), rfl, rfl, rfl, rfl, rfl, rfl⟩
  · intro e s turn passed
    exact ⟨_, next_runOk turn passed, fun ring => if_pos ring, fun queue => if_neg (Bool.eq_false_iff.mp queue)⟩
  · intro e s turn passed
    refine ⟨resetUnit e s, next_runOk turn passed, fun ring => if_pos ring, fun x queue found idle => ?_⟩
    have cleared := sqOf_updSq_same (fld e.payload 0 2) (fun x => { x with head := 0, tail := 0, reason := 0, fetched := [], phaseWait := none }) s
    rw [found] at cleared
    exact ⟨_, (congrArg (sqOf · _) (resetUnit_of_idle queue found idle)).trans (sqOf_setQueueState cleared), rfl, rfl, rfl, rfl⟩
  · intro e s turn passed
    refine ⟨_, next_runOk turn passed, fun keep => if_neg (Bool.eq_false_iff.mp keep), fun clear c => ?_⟩
    rw [if_pos clear, ctrOf_clearCtrs]
    exact if_congr (by simp [and_assoc]) rfl rfl

/-! Doorbells. -/

theorem viaHst_of_failed (i : HptAccess) (f : State → State) {s : State} (served : hptServed false s = true) (fails : (dom s 66).wakeFail = true) :
    viaHst i f s = hptErr s := by
  simp only [viaHst, served, fails, Bool.not_true, Bool.false_eq_true, if_false, if_true]

section
variable {n : Nat} {data : Word} {s s0 : State} (served : hptServed false s = true) (wakes : (dom s 66).wakeFail = false)
include served wakes

section
variable {x : SubQ} (answered : s0 = hptOk 0 (if n = 0 then askWake 65 (askWake 66 s) else askWake 66 s))
include answered

theorem execSqDb_of_missing (missing : sqOf s0 n = none) : execSqDb n data s = .next (bump strayCtr s0) := by
  subst answered
  simp only [execSqDb, viaHst_of_served _ _ served wakes, missing]

variable (found : sqOf s0 n = some x)
include found

theorem execSqDb_of_off (off : x.st ≠ .enabled) : execSqDb n data s = .next (bump (hqCtr n 0 4) s0) := by
  subst answered
  simp only [execSqDb, viaHst_of_served _ _ served wakes, found, ne_eq, off, not_false_eq_true, if_true]

/-- What an index does to an enabled queue (R405, R406). -/
theorem execSqDb_of_enabled {pos : Nat} (on : x.st = .enabled) (at_pos : pos = posOf x.size (bitsN data.toNat 15 0) (bitN data.toNat 16)) : execSqDb n data s = .next (
    if x.size < posDist x.size x.head pos then queueError n 1 s0
    else if x.size ≤ bitsN data.toNat 15 0 ∨ posDist x.size x.head pos < outstandingOf x then queueError n 2 s0
    else advance n (updSq n (fun x => { x with tail := pos, specMiss := x.specMiss && decide (x.tail = pos) }) s0)) := by
  subst answered at_pos
  simp only [execSqDb, viaHst_of_served _ _ served wakes, found, ne_eq, on, not_true, if_false, Bool.or_eq_true, decide_eq_true_eq]

end

/-- What the consumer's index does to a completion ring (R420, R421). -/
theorem execCqDb_of_found {x : CompQ} {pos : Nat} (answered : s0 = hptOk 0 (askWake 66 s)) (found : cqOf s0 n = some x)
    (at_pos : pos = posOf x.size (bitsN data.toNat 15 0) (bitN data.toNat 16)) : execCqDb n data s = .next (
    if x.size ≤ bitsN data.toNat 15 0 ∨ posDist x.size x.cons x.prod < posDist x.size pos x.prod then bump (hqCtr n 1 2) s0
    else (boundQueues (flushBacklog n 64 (updCq n (fun x => { x with cons := pos }) s0)) n).foldl (fun s n => advance n s)
      (flushBacklog n 64 (updCq n (fun x => { x with cons := pos }) s0))) := by
  subst answered at_pos
  simp only [execCqDb, viaHst_of_served _ _ served wakes, found, Bool.or_eq_true, decide_eq_true_eq]

end

/-! Fetches. -/

/-- What a fetch reads, when it may (R407, R408). -/
theorem execEntryFetch_of_free {n : Nat} {entry : Fetched} {x : SubQ} {s : State} (found : sqOf s n = some x) (may : mayFetch s n x = true) (free : placeFree s x = true) :
    execEntryFetch n entry s = .next (if phaseGood x (fetchPos x) entry then takeEntry n x entry (readEntry x (fetchPos x) s)
      else if x.fetched.length < outstandingOf x then
        updSq n (fun x => { x with phaseWait := some (fetchPos x), phaseAt := rawNs s }) (readEntry x (fetchPos x) s)
      else updSq n (fun x => { x with specMiss := true }) (readEntry x (fetchPos x) s)) := by
  simp only [execEntryFetch, found, may, free, Bool.not_true, Bool.false_eq_true, if_false]

/-- What the retry of a wrong phase reads (R409). -/
theorem execPhaseRetry_of_due {n : Nat} {entry : Fetched} {x : SubQ} {pos : Nat} {s : State} (found : sqOf s n = some x) (waits : x.phaseWait = some pos)
    (runs : hstRuns s = true) (on : x.st = .enabled) (due : x.phaseAt + 1000 ≤ rawNs s) :
    execPhaseRetry n entry s = .next (if phaseGood x pos entry then takeEntry n x entry (readEntry x pos s)
      else advance n (updSq n (fun y => { y with fetched := y.fetched ++ [{ workOf x pos entry with bad := 3 }], phaseWait := none }) (readEntry x pos s))) := by
  simp only [execPhaseRetry, found, waits, runs, on, ne_eq, not_true, decide_false, decide_eq_false (not_lt.mpr due), Bool.not_true, Bool.or_self, Bool.false_eq_true, if_false]

/-- Settles O50: the doorbells by what HST answers, the fetches by their branch. -/
theorem doorbellsAndFetching : Obligations.DoorbellsAndFetching := by
  unfold Obligations.DoorbellsAndFetching
  refine ⟨fun n data s served fails => ⟨congrArg Host.Outcome.next (viaHst_of_failed _ _ served fails), congrArg Host.Outcome.next (viaHst_of_failed _ _ served fails)⟩,
    fun n data s s0 => execSqDb_of_missing, fun n data x s s0 served wakes answered => execSqDb_of_off served wakes answered, ?_, ?_, ?_, ?_, ?_, ?_⟩
  · intro n data x pos s s0 served wakes answered found on at_pos
    refine ⟨fun far => ?_, fun near bad => ?_, fun near fits grown => ?_⟩ <;> refine (execSqDb_of_enabled served wakes answered found on at_pos).trans ?_
    · rw [if_pos far]
    · rw [if_neg (not_lt.mpr near), if_pos bad]
    · rw [if_neg (not_lt.mpr near), if_neg (by omega)]
  · intro r data x pos s s0 served wakes answered found at_pos
    refine ⟨fun bad => ?_, fun fits behind => ⟨_, rfl, ?_⟩⟩ <;> refine (execCqDb_of_found served wakes answered found at_pos).trans ?_
    · rw [if_pos bad]
    · rw [if_neg (by omega)]
  · intro n entry x s found may free
    refine ⟨fun good => ?_, fun bad owed => ?_, fun bad spec => ?_⟩ <;> refine (execEntryFetch_of_free found may free).trans ?_
    · rw [if_pos good]
    · rw [if_neg (Bool.eq_false_iff.mp bad), if_pos owed]
    · rw [if_neg (Bool.eq_false_iff.mp bad), if_neg (not_lt.mpr spec)]
  · intro n entry x s found may full
    change execEntryFetch n entry s = _
    simp only [execEntryFetch, found, may, full, Bool.not_true, Bool.not_false, Bool.false_eq_true, if_false, if_true]
  · intro n entry x pos s found waits runs on due
    refine ⟨fun good => ?_, fun bad => ⟨_, rfl, ?_⟩⟩ <;> refine (execPhaseRetry_of_due found waits runs on due).trans ?_
    · rw [if_pos good]
    · rw [if_neg (Bool.eq_false_iff.mp bad)]
  · intro n x w rest s found fetched runs on owed kind good
    refine ⟨fun free room => ?_, fun full => ?_⟩ <;> change execTx n s = _
    · simp only [execTx, found, fetched, runs, on, owed, kind, good, free, not_lt.mpr room, ne_eq, not_true, decide_false, Bool.not_true, Bool.or_self, Bool.false_eq_true, if_false]
    · simp only [execTx, found, fetched, runs, on, owed, kind, good, full, ne_eq, not_true, decide_false, Bool.not_true, Bool.not_false, Bool.or_self, Bool.false_eq_true, if_false, if_true]

end Sys2Proof.Machine
end

section
/-! SUPPORT. Work entries, completions and host ports (R412 to R437). -/

namespace Sys2Proof.Machine

section
variable {n : Nat} {x : SubQ} {s : State} (found : sqOf s n = some x)
include found

theorem writeHead_of_found : writeHead n s =
    updSq n (fun x => { x with wbN := x.accepted, wbAt := rawNs s, wbState := false, wbOpens := x.wbOpens ++ [x.accepted] }) (hpiWrite x.headWb (headWord x) s) := by
  simp only [writeHead, found]

theorem sqOf_writeHead : sqOf (writeHead n s) n = some { x with wbN := x.accepted, wbAt := rawNs s, wbState := false, wbOpens := x.wbOpens ++ [x.accepted] } := by
  rw [writeHead_of_found found, sqOf_updSq_same, sqOf_hpiWrite, found]
  rfl

theorem out_writeHead : (writeHead n s).out = (hpiWrite x.headWb (headWord x) s).out := by
  rw [writeHead_of_found found, out_updSq]

section
variable {pos : Nat} {w : Work} (known : n = 0 → answerUnknown s = s) (owed : x.works.find? (fun w => decide (w.pos = pos) && !w.issued) = some w)
include known owed

/-- A completion is written in its turn (R415 to R418). -/
theorem execCompletionWrite_of_found : execCompletionWrite n pos s = .next (
    if !hstRuns s || w.result.isNone || !shown x w || !inQueueOrder n x w || !hpiRoom 1 s then s else if x.gen = 2 then completeGen2 n x w s else completeGen1 n x w s) := by
  have asked : (if n = 0 then answerUnknown s else s) = s := ite_eq_right_iff.mpr known
  simp only [execCompletionWrite, asked, found, owed]

end
end

/-- Settles O51: each event by its branch, the head word by `writeHead_of_found`. -/
theorem workEntriesComplete : Obligations.WorkEntriesComplete := by
  unfold Obligations.WorkEntriesComplete
  refine ⟨?_, ?_, ?_, ?_, ?_, ?_, ?_, ?_, ?_, ?_, ?_⟩
  · intro n w s waits runs
    change execNop n s = _
    simp only [execNop, waits, runs, Bool.not_true, Bool.false_eq_true, if_false]
  · intro n x s found runs due room
    refine ⟨writeHead n s, ?_, out_writeHead found, sqOf_writeHead found⟩
    change execHeadWb n s = _
    simp only [execHeadWb, found, runs, due, room, Bool.and_self, if_true]
  · intro n x k rest s found opens
    refine ⟨_, rfl, ?_⟩
    simp only [sqOf_updSq_same, found, Option.map_some, opens]
  · intro n pos x w s known found owed runs done ready turn room
    refine (execCompletionWrite_of_found found known owed).trans ?_
    rw [if_neg (by simp [runs, done, ready, turn, room])]
  · intro n pos x w s known found owed early
    refine (execCompletionWrite_of_found found known owed).trans ?_
    rw [if_pos (by rcases early with h | h | h <;> simp [h])]
  · intro n pos s missing
    change execCompletionAck n pos s = _
    simp only [execCompletionAck, missing]
  · intro n pos o s opened missing
    change execCompletionAck n pos s = _
    simp only [execCompletionAck, opened, show ∀ h, sqOf { s with hq := { s.hq with open' := h } } n = none from fun _ => missing]
  · intro n pos o x w s opened found issued
    refine ⟨_, _, fun v => rfl, rfl, ?_⟩
    change execCompletionAck n pos s = _
    simp only [execCompletionAck, opened, issued, show ∀ h, sqOf { s with hq := { s.hq with open' := h } } n = some x from fun _ => found]
  · intro id r s found pending timed due
    change execCoalesceTimer .foxtrot id s = _
    simp only [execCoalesceTimer, found, pending, timed, due, decide_true, Bool.and_self, if_true]
  · intro id x s found gen pending timed due
    change execCoalesceTimer .gen1 id s = _
    simp only [execCoalesceTimer, found, gen, pending, timed, due, decide_true, Bool.and_self, if_true]
  · intro id x s found pending timed due
    change execCoalesceTimer .cq id s = _
    simp only [execCoalesceTimer, found, pending, timed, due, decide_true, Bool.and_self, if_true]

/-! Host ports. -/

theorem slices_updSq (n : Nat) (f : SubQ → SubQ) (s : State) : (updSq n f s).slices = s.slices := by simp

theorem lastTx_updSq (n : Nat) (f : SubQ → SubQ) (s : State) : (updSq n f s).hq.lastTx = s.hq.lastTx := by
  unfold updSq
  split <;> rfl

theorem ctr_updSq (n : Nat) (f : SubQ → SubQ) (s : State) : (updSq n f s).ctr = s.ctr := by simp

theorem stagingFill_congr {s t : State} (slices : t.slices = s.slices) (sl : Nat) : stagingFill t sl = stagingFill s sl := by
  simp only [stagingFill, slice, slices]

theorem sliceOf_congr {s t : State} (build : t.build = s.build) (p : Nat) : sliceOf t p = sliceOf s p := by
  simp only [sliceOf, nSlices, build]

/-- A frame that fits in the staging joins the ingress of its slice, and counts nothing (R42). -/
theorem ctr_toIngress_of_room {f : Frame} {s : State} (room : stagingFill s (sliceOf s f.portIn) + (f.data.length + 4) ≤ 65536) : (toIngress f s).ctr = s.ctr := by
  rw [toIngress, if_pos room]
  rfl

theorem ctrOf_toIngress_congr {f : Frame} {s t : State} (slices : t.slices = s.slices) (build : t.build = s.build) (ctr : t.ctr = s.ctr)
    (room : stagingFill s (sliceOf s f.portIn) + (f.data.length + 4) ≤ 65536) (c : Ctr) : ctrOf (toIngress f t) c = ctrOf s c := by
  refine ctrOf_congr ((ctr_toIngress_of_room ?_).trans ctr) c
  rwa [sliceOf_congr build, stagingFill_congr slices]

/-- Settles O52: the injection by `toIngress_of_room`, the others by their branch. -/
theorem hostPortsComplete : Obligations.HostPortsComplete := by
  unfold Obligations.HostPortsComplete
  refine ⟨?_, ?_, ?_, ?_, ?_⟩
  · intro n x w s sl d found staged slice_eq runs turn takes den data room
    subst slice_eq data
    change ∃ t f, execTxHostInject n s = _ ∧ _
    simp only [execTxHostInject, found, staged, runs, turn, takes, den, not_lt.mpr room, ne_eq, not_true, decide_false, List.isEmpty_nil, Bool.not_true, Bool.or_self,
      Bool.false_eq_true, if_false]
    refine ⟨_, _, rfl, rfl, ⟨_, rfl, slices_updSq .., lastTx_updSq ..⟩, ?_⟩
    rw [ctrOf_addCtr_same, ctrOf_congr (ctr_updSq ..)]
    rw [ctrOf_toIngress_congr (s := s) (t := { s with hq := { s.hq with lastTx := s.hq.lastTx.set x.hostPort n } }) rfl rfl rfl ?_]
    exact room
  · intro n x s found none
    change execTxHostInject n s = _
    simp only [execTxHostInject, found, none]
  · intro p q c k s runs host head stored
    refine ⟨fun n w judged => ?_, fun n judged => ?_, fun n empty judged => ?_, fun judged => ?_⟩ <;> change execRxDispatch p q s = _ <;>
      simp only [execRxDispatch, runs, host, head, stored, judged, Bool.not_true, Bool.or_self, Bool.false_eq_true, if_false]
  · intro p q since c k n empty s waits head stored judged
    change execRxWaitExpiry p q s = _
    simp only [execRxWaitExpiry, waits, head, stored, judged, Bool.or_eq_true, Bool.not_eq_true']
  · intro p q s none
    change execRxWaitExpiry p q s = _
    simp only [execRxWaitExpiry, none]

end Sys2Proof.Machine
end

section
/-! SUPPORT. DMA channels (R438 to R446). -/

namespace Sys2Proof.Machine

/-! One channel. -/

section
variable {c : Nat} {s : State}

theorem updDma_updDma (f g : DmaCh → DmaCh) : updDma c f (updDma c g s) = updDma c (fun x => f (g x)) s :=
  congrArg (fun dma => ({ s with dma } : State)) (KMap.upd_upd ..)

theorem updDma_congr {f g : DmaCh → DmaCh} (same : f (dmaOf s c) = g (dmaOf s c)) : updDma c f s = updDma c g s :=
  congrArg (fun x => ({ s with dma := s.dma.set c x } : State)) same

theorem dmaOf_congr {t : State} (dma : t.dma = s.dma) : dmaOf t c = dmaOf s c := by rw [dmaOf, dma, dmaOf]

theorem dmaOf_fire (i : Nat) : dmaOf (fire i s) c = dmaOf s c := dmaOf_congr (by simp)

theorem dmaOf_ite_fire {p : Prop} [Decidable p] (i : Nat) : dmaOf (if p then fire i s else s) c = dmaOf s c := by
  split
  · exact dmaOf_fire i
  · rfl

theorem dmaOf_askWake (d : Nat) : dmaOf (askWake d s) c = dmaOf s c := dmaOf_congr (by simp)

theorem onDma_of_lt {f : DmaCh → State → State} (below : c < 64) : onDma c f s = f (dmaOf s c) s := if_pos below

end

/-! Its ends. -/

theorem dmaOf_dmaComplete (c : Nat) (half : Bool) (s : State) :
    dmaOf (dmaComplete c half s) c = dmaCause 1 { dmaOf s c with st := .idle, doneCount := (dmaOf s c).doneCount + 1 } := by
  rw [dmaComplete, dmaOf_ite_fire, dmaOf_updDma_same]

/-- A channel after `n` bytes more, past half of the transfer or not (R441). -/
def DmaCh.advanced (half : Bool) (n : Nat) (x : DmaCh) : DmaCh :=
  (if half then dmaCause 0 else id) { x with bytesDone := x.bytesDone + n, halfSeen := x.halfSeen || half }

theorem DmaCh.advanced_fields (half : Bool) (n : Nat) (x : DmaCh) : (x.advanced half n).bytesDone = x.bytesDone + n ∧ (x.advanced half n).st = x.st
    ∧ (x.advanced half n).doneCount = x.doneCount := by
  cases half <;> exact ⟨rfl, rfl, rfl⟩

theorem dmaOf_dmaDone_of_end {c n : Nat} {s : State} (last : (dmaOf s c).bytesDone + n = (dmaOf s c).active.len) : ∃ half, dmaOf (dmaDone c n s) c =
    dmaCause 1 { (dmaOf s c).advanced half n with st := .idle, doneCount := ((dmaOf s c).advanced half n).doneCount + 1 } := by
  refine ⟨!(dmaOf s c).halfSeen && decide (ceilDiv (dmaOf s c).active.len 2 ≤ (dmaOf s c).bytesDone + n), ?_⟩
  rw [dmaDone, if_pos last, dmaOf_dmaComplete, dmaOf_updDma_same]
  rfl

theorem dmaOf_dmaDone_of_more {c n : Nat} {s : State} (more : (dmaOf s c).bytesDone + n ≠ (dmaOf s c).active.len) :
    ∃ half, dmaOf (dmaDone c n s) c = (dmaOf s c).advanced half n := by
  refine ⟨!(dmaOf s c).halfSeen && decide (ceilDiv (dmaOf s c).active.len 2 ≤ (dmaOf s c).bytesDone + n), ?_⟩
  rw [dmaDone, if_neg more, dmaOf_ite_fire, dmaOf_updDma_same]
  rfl

/-- What bytes done leave of a channel (R441, R442). -/
theorem dmaOf_dmaDone (c n : Nat) (s : State) : (dmaOf (dmaDone c n s) c).bytesDone = (dmaOf s c).bytesDone + n
    ∧ ((dmaOf s c).bytesDone + n = (dmaOf s c).active.len → (dmaOf (dmaDone c n s) c).st = .idle ∧ (dmaOf (dmaDone c n s) c).doneCount = (dmaOf s c).doneCount + 1
      ∧ (dmaOf (dmaDone c n s) c).cause.getLsbD 1 = true)
    ∧ ((dmaOf s c).bytesDone + n ≠ (dmaOf s c).active.len → (dmaOf (dmaDone c n s) c).st = (dmaOf s c).st ∧ (dmaOf (dmaDone c n s) c).doneCount = (dmaOf s c).doneCount) := by
  by_cases last : (dmaOf s c).bytesDone + n = (dmaOf s c).active.len
  · obtain ⟨half, done⟩ := dmaOf_dmaDone_of_end last
    obtain ⟨bytes, -, count⟩ := DmaCh.advanced_fields half n (dmaOf s c)
    rw [done]
    exact ⟨bytes, fun _ => ⟨rfl, congrArg (· + 1) count, by simp [dmaCause]⟩, fun more => absurd last more⟩
  · obtain ⟨half, done⟩ := dmaOf_dmaDone_of_more last
    obtain ⟨bytes, st, count⟩ := DmaCh.advanced_fields half n (dmaOf s c)
    rw [done]
    exact ⟨bytes, fun done => absurd done last, fun _ => ⟨st, count⟩⟩

theorem dmaOf_dmaHalt (c kind addr : Nat) (s : State) :
    dmaOf (dmaHalt c kind addr s) c = dmaCause 2 { dmaOf s c with st := .halted, haltKind := kind, errAddr := addr } := by
  rw [dmaHalt, dmaOf_fire, dmaOf_updDma_same]

section
variable {c : Nat} {s : State}

theorem dmaFailed_of_left {addr status kind : Nat} {again : State → State} (left : (dmaOf s c).tries.getD addr 0 < (dmaOf s c).retryMax) :
    dmaFailed c addr status kind again s = again (updDma c (fun x => { x with hpiStatus := status % 4, tries := x.tries.set addr (x.tries.getD addr 0 + 1) }) s) := by
  rw [dmaFailed, if_pos left, updDma_updDma]
  exact congrArg again (updDma_congr rfl)

theorem dmaFailed_of_spent {addr status kind : Nat} {again : State → State} (spent : ¬ (dmaOf s c).tries.getD addr 0 < (dmaOf s c).retryMax) :
    dmaFailed c addr status kind again s = dmaHalt c kind addr (updDma c (fun x => { x with hpiStatus := status % 4 }) s) := if_neg spent

/-- An abort ends at once when no write is open (R446). -/
theorem dmaAbortEnds_of_aborting : dmaAbortEnds c (updDma c (fun x => { x with st := .aborting }) s) = updDma c (fun x =>
    if x.writes.isEmpty && x.oldWrites.isEmpty then { x with st := .idle, cause := x.cause ||| 32#6 } else { x with st := .aborting }) s := by
  rw [dmaAbortEnds, dmaOf_updDma_same]
  dsimp only
  cases open' : (dmaOf s c).writes.isEmpty && (dmaOf s c).oldWrites.isEmpty with
  | true =>
    rw [if_pos (by simpa using open'), updDma_updDma]
    exact updDma_congr (by rw [open', if_pos rfl]; rfl)
  | false =>
    rw [if_neg (by simpa using open')]
    exact updDma_congr (by rw [open', if_neg (by simp)])

end

/-! The answers of bursts. -/

section
variable {c : Nat} {b : Burst} {s : State} (below : c < 64)
include below

theorem execDmaBurstResponse_of_read (read : b.write = false) : execDmaBurstResponse c b s = .next (dmaReadAnswer c b s) := by
  simp only [execDmaBurstResponse, onDma_of_lt below, read, Bool.false_eq_true, if_false]

theorem execDmaBurstResponse_of_write (write : b.write = true) : execDmaBurstResponse c b s = .next (dmaWriteAnswer c b s) := by
  simp only [execDmaBurstResponse, onDma_of_lt below, write, if_true]

end

/-- Settles O53: the accesses by what HST serves, the bursts' answers by their branch, the ends of a transfer by what they leave of its channel. -/
theorem dmaChannelsComplete : Obligations.DmaChannelsComplete := by
  unfold Obligations.DmaChannelsComplete
  refine ⟨?_, ?_, ?_, ?_, ?_, ?_, ?_, fun c n s => dmaOf_dmaDone c n s, ?_, ?_, ?_, ?_⟩
  · intro c off data s below served wakes
    refine ⟨(congrArg Host.Outcome.next (viaHst_of_served _ _ served wakes)).trans ?_, (congrArg Host.Outcome.next (viaHst_of_served _ _ served wakes)).trans ?_⟩
      <;> rw [onDma_of_lt below] <;> rfl
  · intro c s s1 below idle valid works loaded
    subst loaded
    refine ⟨fun fits => (exec_dmaLoad below works idle valid).trans ?_, fun bad => (exec_dmaLoad below works idle valid).trans ?_⟩
    · rw [if_neg (Bool.eq_false_iff.mp fits)]
      rfl
    · rw [if_pos bad]
      rfl
  · intro c s below busy empty works
    refine ⟨_, exec_dmaZeroLenDone below works busy empty, ?_⟩
    rw [dmaOf_dmaComplete]
    exact ⟨rfl, rfl, rfl⟩
  · intro c b at' s s0 s1 below read busy addr more at_eq room asked written
    subst at_eq asked written
    refine ⟨fun failed => (execDmaBurstResponse_of_read below read).trans ?_, fun good whole => (execDmaBurstResponse_of_read below read).trans ?_⟩
    · simp only [dmaReadAnswer, busy, addr, more, room, failed, ne_eq, not_true, not_false_eq_true, decide_false, Bool.not_true, Bool.or_self, Bool.false_eq_true, if_false, if_true]
    · simp only [dmaReadAnswer, busy, addr, more, room, good, whole, ne_eq, not_true, decide_false, Bool.not_true, Bool.or_self, Bool.false_eq_true, if_false]
  · intro c b d s s1 below write opened taken
    subst taken
    refine ⟨fun failed live => (execDmaBurstResponse_of_write below write).trans ?_, fun aborting => (execDmaBurstResponse_of_write below write).trans ?_,
      fun good live => (execDmaBurstResponse_of_write below write).trans ?_⟩
    · simp only [dmaWriteAnswer, opened, failed, live, ne_eq, not_false_eq_true, decide_true, Bool.and_self, if_true]
    · simp only [dmaWriteAnswer, opened, aborting, ne_eq, not_true, decide_false, Bool.and_false, Bool.false_eq_true, if_false, if_true]
    · simp only [dmaWriteAnswer, opened, good, live, ne_eq, not_true, decide_false, Bool.false_and, Bool.false_eq_true, if_false]
  · intro c b d s s1 below write opened settled taken
    subst taken
    refine (execDmaBurstResponse_of_write below write).trans ?_
    have through : (decide (b.status ≠ 0) && decide ((dmaOf s c).st ≠ .aborting)) = false := by
      rcases settled with good | aborting
      · simp [good]
      · simp [aborting]
    simp only [dmaWriteAnswer, opened, through, Bool.false_eq_true, if_false, if_true]
  · intro c addr status kind again s
    refine ⟨dmaFailed_of_left, fun spent => ⟨_, dmaFailed_of_spent spent, ?_⟩⟩
    rw [dmaOf_updDma_same, dmaOf_updDma_same]
    rfl
  · intro c s below served wakes busy
    refine (congrArg Host.Outcome.next (viaHst_of_served _ _ served wakes)).trans ?_
    rw [onDma_of_lt below, dmaOf_askWake, if_pos busy, dmaAbortEnds_of_aborting]
  · intro c s s1 below served wakes halted kind resumed
    subst resumed
    refine ⟨fun old d failed opened => ?_, fun other => ?_⟩ <;> change execDmaResume c s = _
    · simp only [execDmaResume, viaHst_of_served _ _ served wakes, onDma_of_lt below, dmaOf_askWake, halted, failed, opened, ne_eq, not_true, decide_false, Bool.false_or,
        Nat.reduceEqDiff, Bool.false_eq_true, if_false]
    · simp only [execDmaResume, viaHst_of_served _ _ served wakes, onDma_of_lt below, dmaOf_askWake, halted, kind, ne_eq, not_true, decide_false, Bool.or_self,
        Bool.false_eq_true, if_false]
      split
      · rename_i failed _
        exact absurd failed other
      · rfl
  · intro c s below served wakes halted
    refine (congrArg Host.Outcome.next (viaHst_of_served _ _ served wakes)).trans ?_
    rw [onDma_of_lt below, dmaOf_askWake, if_pos halted]
  · intro c s below served wakes
    refine (congrArg Host.Outcome.next (viaHst_of_served _ _ served wakes)).trans ?_
    rw [if_pos below, dmaOf_askWake]

end Sys2Proof.Machine
end

section
/-! SUPPORT. Power commands, PLLs, retention and brown-out (R33, R68, R398, R464 to R484). -/

namespace Sys2Proof.Machine

/-! What the wakes leave of the power unit. -/

/-- What no wake touches. -/
theorem fields_of_wakeless {s t : State} (h : wakeless t = wakeless s) : t.pwr.dom = s.pwr.dom ∧ t.pwr.rounds = s.pwr.rounds ∧ t.pwr.last = s.pwr.last
    ∧ t.pwr.vretGood = s.pwr.vretGood ∧ t.pwr.pll = s.pwr.pll ∧ t.pwr.block = s.pwr.block ∧ t.pwr.log = s.pwr.log ∧ t.pwr.logTotal = s.pwr.logTotal
    ∧ t.pwr.ldoLow = s.pwr.ldoLow ∧ t.pwr.boPending = s.pwr.boPending ∧ t.pwr.boCount = s.pwr.boCount ∧ t.pwr.brownOuts = s.pwr.brownOuts ∧ t.pwr.boTrip = s.pwr.boTrip := by
  simp only [wakeless, Pwr.mk.injEq] at h
  simp only [h, and_self]

theorem dom_congr {s t : State} (doms : t.pwr.dom = s.pwr.dom) (d : Nat) : dom t d = dom s d := by rw [dom, doms, dom]

theorem dom_of_wakeless {s t : State} (h : wakeless t = wakeless s) (d : Nat) : dom t d = dom s d :=
  dom_congr (fields_of_wakeless h).1 d

theorem wakeless_causeWake (d : Nat) (s : State) : wakeless (causeWake d s) = wakeless s := by
  unfold causeWake
  split <;> rfl

theorem pwr_answerAsk (by' : AskBy) (v : Verdict) (s : State) : (answerAsk by' v s).pwr = s.pwr :=
  agree_of_view (μ := fun p => p == .mb || p == .adm || p == .otd || p == .hq || p == .out) (view_answerAsk rfl rfl rfl rfl rfl by' v s) .pwr rfl

theorem pwr_releaseLatches (s : State) : (releaseLatches s).pwr = s.pwr :=
  agree_of_view (μ := fun p => p == .irq || p == .out) (view_releaseLatches rfl rfl s) .pwr rfl

/-! A change of several domains. -/

theorem foldl_keep {α β : Type} (g : State → β) (f : State → α → State) (same : ∀ s a, g (f s a) = g s) (l : List α) (s : State) : g (l.foldl f s) = g s := by
  induction l generalizing s with
  | nil => rfl
  | cons a l ih => rw [List.foldl_cons, ih, same]

/-- Each domain of a list changed by `f`. -/
theorem dom_foldl {f : Dom → Dom} {g : State → Nat → State} (step : ∀ s d, (g s d).pwr.dom = (updDom d f s).pwr.dom) (same : ∀ x, f (f x) = f x)
    (ds : List Nat) (s : State) (d : Nat) : dom (ds.foldl g s) d = if d ∈ ds then f (dom s d) else dom s d := by
  induction ds generalizing s with
  | nil => simp
  | cons e ds ih =>
    rw [List.foldl_cons, ih, dom_congr (step s e)]
    by_cases h : d = e
    · subst h
      simp [dom_updDom_same, same]
    · simp [dom_updDom_other f s h, h]

/-! Commands. -/

theorem targetState_eq_run_iff (k : Nat) : targetState k = .run ↔ k = 0 := by
  match k with
  | 0 => simp [targetState]
  | 1 => simp [targetState]
  | k + 2 => simp [targetState]

theorem last_refusedIrq (by' : AskBy) (s : State) : (refusedIrq by' s).pwr.last = s.pwr.last := by
  have raised (i : Nat) (t : State) : (fire i t).pwr.last = t.pwr.last := (fields_of_wakeless (wakeless_fire i t)).2.2.1
  unfold refusedIrq
  split
  · split
    · rfl
    · exact raised ..
  · rfl
  · exact raised ..

theorem last_foldl_updDom (f : State → Dom → Dom) (ds : List Nat) (s : State) : (ds.foldl (fun s d => updDom d (f s) s) s).pwr.last = s.pwr.last :=
  foldl_keep (fun s => s.pwr.last) (fun s d => updDom d (f s) s) (fun _ _ => rfl) ds s

theorem seq_refuseEntry (by' : AskBy) (ds : List Nat) (d b detail : Nat) (s : State) : (refuseEntry by' ds d b detail s).pwr.last.seq = s.pwr.last.seq := by
  unfold refuseEntry
  rw [pwr_answerAsk, last_refusedIrq]
  exact congrArg (·.seq) (last_foldl_updDom (fun s x => { x with idleSince := rawNs s, trans := if x.trans = .ask then .none else x.trans }) _ _)

/-- Each round that starts has its number (R466). -/
theorem seq_startRound (by' : AskBy) (hib : Bool) (t : DomState) (ds : List Nat) (s : State) :
    (startRound by' hib t ds s).pwr.last.seq = s.pwr.last.seq + 1 := by
  unfold startRound
  dsimp only
  split
  · exact seq_refuseEntry ..
  · exact congrArg (·.seq) (last_foldl_updDom (fun _ x => { x with trans := .ask }) _ _)

theorem seq_takeOver (rs : List AskRound) (s : State) : (rs.foldl (fun s r => answerAsk r.by' (busyV 3)
    (r.domains.foldl (fun s d => updDom d (fun x => { x with trans := .none }) s) (dropRound r s))) s).pwr.last.seq = s.pwr.last.seq := by
  refine foldl_keep (fun s => s.pwr.last.seq) _ (fun s r => ?_) rs s
  rw [pwr_answerAsk]
  exact congrArg (·.seq) (last_foldl_updDom (fun _ x => { x with trans := .none }) _ _)

/-- Settles O57: the commands by `next_runCmd` and `next_runOk`, the number of a hibernation's round by `seq_startRound`. -/
theorem powerCommandsComplete : Obligations.PowerCommandsComplete := by
  unfold Obligations.PowerCommandsComplete
  refine ⟨?_, ?_, fun e s turn passed => ⟨_, next_runCmd turn passed, ?_⟩, fun e s turn passed => ⟨_, _, next_runOk turn passed, rfl, ?_, ?_⟩,
    fun e s turn passed => next_runOk turn passed, fun e s turn passed => next_runOk turn passed⟩
  · intro e s s1 ds turn passed named set
    subst named set
    refine ⟨fun later => (next_runCmd turn passed).trans (congrArg Host.Outcome.next (if_neg (by omega))), fun now run => ?_, fun todo now sleeps asked => ⟨fun none => ?_, fun some => ?_⟩⟩
      <;> refine (next_runCmd turn passed).trans (congrArg Host.Outcome.next ((if_pos now).trans ?_))
    · exact if_pos ((targetState_eq_run_iff _).mpr run)
    · subst asked
      exact (if_neg (mt (targetState_eq_run_iff _).mp sleeps)).trans (if_pos (by rw [none]; rfl))
    · subst asked
      exact (if_neg (mt (targetState_eq_run_iff _).mp sleeps)).trans (if_neg (by simpa using some))
  · intro e s turn passed none
    refine (next_runCmd turn passed).trans ?_
    rw [none]
    rfl
  · rw [seq_startRound, seq_takeOver]
  · exact fun keep => if_neg (by omega)
  · exact fun clear => if_pos clear

/-! Retention. -/

/-- VRET_GOOD, and which domains lost their state. -/
def retentionOf (s : State) : Bool × (Nat → Bool) := (s.pwr.vretGood, fun d => (dom s d).stateLost)

theorem retentionOf_congr {s t : State} (doms : t.pwr.dom = s.pwr.dom) (vret : t.pwr.vretGood = s.pwr.vretGood) : retentionOf t = retentionOf s := by
  simp only [retentionOf, dom, doms, vret]

theorem retentionOf_of_wakeless {s t : State} (h : wakeless t = wakeless s) : retentionOf t = retentionOf s := by
  obtain ⟨doms, -, -, vret, -⟩ := fields_of_wakeless h
  exact retentionOf_congr doms vret

theorem retentionOf_updDom {d : Nat} {f : Dom → Dom} {s : State} (kept : ∀ x, (f x).stateLost = x.stateLost) : retentionOf (updDom d f s) = retentionOf s := by
  refine Prod.ext rfl (funext fun k => ?_)
  by_cases h : k = d
  · subst h
    exact (congrArg Dom.stateLost (dom_updDom_same ..)).trans (kept _)
  · exact congrArg Dom.stateLost (dom_updDom_other f s h)

theorem retentionOf_foldl_updDom {f : State → Dom → Dom} (kept : ∀ s x, (f s x).stateLost = x.stateLost) (ds : List Nat) (s : State) :
    retentionOf (ds.foldl (fun s d => updDom d (f s) s) s) = retentionOf s :=
  foldl_keep retentionOf (fun s d => updDom d (f s) s) (fun s _ => retentionOf_updDom (kept s)) ds s

theorem retentionOf_refusedIrq (by' : AskBy) (s : State) : retentionOf (refusedIrq by' s) = retentionOf s := by
  unfold refusedIrq
  split
  · split
    · rfl
    · exact (retentionOf_of_wakeless (wakeless_fire ..)).trans rfl
  · rfl
  · exact retentionOf_of_wakeless (wakeless_fire ..)

theorem retentionOf_refuseEntry (by' : AskBy) (ds : List Nat) (d b detail : Nat) (s : State) : retentionOf (refuseEntry by' ds d b detail s) = retentionOf s := by
  unfold refuseEntry
  rw [retentionOf_congr (congrArg Pwr.dom (pwr_answerAsk ..)) (congrArg Pwr.vretGood (pwr_answerAsk ..)), retentionOf_refusedIrq]
  exact retentionOf_foldl_updDom (f := fun s x => { x with idleSince := rawNs s, trans := if x.trans = .ask then .none else x.trans }) (fun _ _ => rfl) ds s

theorem retentionOf_abortRound (r : AskRound) (d b detail : Nat) (s : State) : retentionOf (abortRound r d b detail s) = retentionOf s := by
  rw [abortRound, retentionOf_congr (congrArg Pwr.dom (pwr_releaseLatches _)) (congrArg Pwr.vretGood (pwr_releaseLatches _)), retentionOf_refuseEntry]
  rfl

theorem retentionOf_cutEntries (s : State) : retentionOf (cutEntries s) = retentionOf s := by
  unfold cutEntries
  dsimp only
  have cut := retentionOf_foldl_updDom (f := fun s x => { x with trans := .none, idleSince := rawNs s }) (fun _ _ => rfl) (enteringDoze s) s
  split
  · rfl
  · rw [retentionOf_congr (congrArg Pwr.dom (pwr_releaseLatches _)) (congrArg Pwr.vretGood (pwr_releaseLatches _))]
    split
    · exact (retentionOf_of_wakeless (wakeless_fire ..)).trans cut
    · exact cut

/-- A domain that has lost its state. -/
def stateLostDom (x : Dom) : Dom := { x with stateLost := true, cause := if x.wakeFail then 4 else x.cause }

def loseState (s : State) (d : Nat) : State := owlLog 0x04 d 0 (updDom d stateLostDom s)

/-- The domains that retention held, once it is lost (R482). -/
def unretained (s : State) : State := (retained s).foldl loseState (updPwr (fun p => { p with vretGood := false }) s)

theorem dom_unretained (s : State) (d : Nat) : dom (unretained s) d = if d ∈ retained s then stateLostDom (dom s d) else dom s d :=
  dom_foldl (g := loseState) (fun _ _ => rfl) (fun x => by cases fails : x.wakeFail <;> simp [stateLostDom, fails]) ..

theorem build_unretained (s : State) : (unretained s).build = s.build := foldl_keep State.build loseState (fun _ _ => rfl) ..

theorem rounds_unretained (s : State) : (unretained s).pwr.rounds = s.pwr.rounds := foldl_keep (fun s => s.pwr.rounds) loseState (fun _ _ => rfl) ..

theorem vretGood_unretained (s : State) : (unretained s).pwr.vretGood = false := foldl_keep (fun s => s.pwr.vretGood) loseState (fun _ _ => rfl) ..

theorem execVretLost_of_good {s : State} (good : s.pwr.vretGood = true) : execVretLost s = .next (cutEntries
    ((s.pwr.rounds.filter (fun r => decide (r.target = .doze))).foldl (fun s r => abortRound r (r.domains.headD 66) 0 4 s) (unretained s))) :=
  congrArg Host.Outcome.next (if_neg (by rw [good]; simp))

theorem enteringDoze_unretained (s : State) : enteringDoze (unretained s) = enteringDoze s := by
  have trans (d : Nat) : (dom (unretained s) d).trans = (dom s d).trans := by
    rw [dom_unretained]
    split <;> rfl
  simp only [enteringDoze, sleepers, coreDomains, nSlices, build_unretained, trans]

theorem cutEntries_of_none {s : State} (none : enteringDoze s = []) : cutEntries s = s := by
  rw [cutEntries, none]
  rfl

/-! PLLs. -/

section
variable {k : Nat} {p : PllPair} {s : State} (pair : s.pwr.pll.get? k = some p) (b : p.bOk = true) (onA : p.onB = false)
include pair b onA

/-- A pair that loses PLL A runs on PLL B (R483). -/
theorem pllLost_of_a : pllLost k false s = (pairDomains s k).foldl (fun s d => updDom d (fun x => { x with partner := true }) s)
    (updPwr (fun w => { w with pll := w.pll.set k { p with aOk := false, onB := true }, pllSwitch := w.pllSwitch.set k (rawNs s) }) s) := by
  have known : s.pwr.pll.getD k {} = p := by rw [KMap.getD, pair]; rfl
  simp only [pllLost, known, b, onA, Bool.false_eq_true, if_false, decide_true, Bool.and_self, if_true, Bool.not_false]
  rfl

theorem pll_pllLost_of_a : (pllLost k false s).pwr.pll.get? k = some { p with aOk := false, onB := true } := by
  rw [pllLost_of_a pair b onA]
  exact (congrArg (KMap.get? · k) (foldl_keep (fun s => s.pwr.pll) (fun s d => updDom d (fun x => { x with partner := true }) s) (fun _ _ => rfl) ..)).trans (KMap.get?_set_same ..)

theorem partner_pllLost_of_a {d : Nat} (member : d ∈ pairDomains s k) : (dom (pllLost k false s) d).partner = true := by
  rw [pllLost_of_a pair b onA, dom_foldl (f := fun x => { x with partner := true }) (g := fun s d => updDom d (fun x => { x with partner := true }) s) (fun _ _ => rfl) (fun _ => rfl), if_pos member]

end

theorem wakeless_badger (b : Badger) (s : State) : wakeless { s with badger := b } = wakeless s := rfl

theorem wakeless_logFaultAt (code action unit addr : Nat) (s : State) : wakeless (logFaultAt code action unit addr s) = wakeless s := by
  rw [logFaultAt, wakeless_fire, wakeless_badger]

theorem wakeless_logFault (code action unit : Nat) (s : State) : wakeless (logFault code action unit s) = wakeless s := by
  rw [logFault, wakeless_logFaultAt]
  rfl

/-- The pair's domains go on after a fault of PLL A (R483). -/
theorem pllGood_pllLost_of_a {k d : Nat} {p : PllPair} {s t : State} (pair : s.pwr.pll.get? k = some p) (b : p.bOk = true) (onA : p.onB = false)
    (member : d ∈ pairDomains s k) (logged : wakeless t = wakeless (pllLost k false s)) : pllGood t d = true := by
  have of : pairOf d = some k := by simpa using (List.mem_filter.mp member).2
  have stands : t.pwr.pll.getD k {} = { p with aOk := false, onB := true } := by
    rw [KMap.getD, (fields_of_wakeless logged).2.2.2.2.1, pll_pllLost_of_a pair b onA]
    rfl
  simp only [pllGood, of, stands, b, if_true]

theorem headD_mem {α : Type} {l : List α} (some : l ≠ []) (d : α) : l.headD d ∈ l := by
  cases l with
  | nil => exact absurd rfl some
  | cons a l => exact List.mem_cons_self

/-- The state once a brown-out is recorded (R398, R495). -/
def brownedOut (s : State) : State :=
  let s1 := updPwr (fun p => { p with
    ldoLow := false, boPending := true, boCount := min 0xFFFF (p.boCount + 1), brownOuts := p.brownOuts + 1
    boTrip := some (rawNs s), lastBoNs := unsignedN 64 (timeNs s) }) s
  owlLog 0x03 0x7F 0 { s1 with time := { s1.time with uncertain := true } }

theorem execBrownOut_of_low {s : State} (low : s.pwr.ldoLow = true) (calm : s.pwr.boTrip = none) : execBrownOut s = .next (fire 3 (causeWake 66 (brownedOut s))) :=
  congrArg Host.Outcome.next (if_neg (by rw [low, calm]; simp))

/-- Settles O59: the loss of retention by what `unretained` leaves, a PLL's fault by `pllLost_of_a`, a brown-out by what no wake touches. -/
theorem supplyEventsComplete : Obligations.SupplyEventsComplete := by
  unfold Obligations.SupplyEventsComplete
  refine ⟨?_, ?_, ?_, fun s => rfl, ?_, ?_, ?_, ?_, fun s => rfl⟩
  · intro s good
    have kept : retentionOf (cutEntries ((s.pwr.rounds.filter (fun r => decide (r.target = .doze))).foldl (fun s r => abortRound r (r.domains.headD 66) 0 4 s) (unretained s)))
        = retentionOf (unretained s) :=
      (retentionOf_cutEntries _).trans (foldl_keep retentionOf _ (fun s r => retentionOf_abortRound ..) _ _)
    refine ⟨_, execVretLost_of_good good, (congrArg Prod.fst kept).trans (vretGood_unretained s), fun d member => (congrFun (congrArg Prod.snd kept) d).trans ?_⟩
    exact congrArg Dom.stateLost ((dom_unretained s d).trans (if_pos member))
  · intro s good shallow none
    have noDoze : s.pwr.rounds.filter (fun r => decide (r.target = .doze)) = [] := List.filter_eq_nil_iff.mpr fun r member => by simpa using shallow r member
    refine ⟨unretained s, (execVretLost_of_good good).trans ?_, rounds_unretained s, fun d other => (dom_unretained s d).trans (if_neg other)⟩
    rw [noDoze, List.foldl_nil, cutEntries_of_none ((enteringDoze_unretained s).trans none)]
  · intro s lost
    exact congrArg Host.Outcome.next (if_pos (by rw [lost]; rfl))
  · intro k p s run some pair a b onA
    refine ⟨?_, pll_pllLost_of_a pair b onA, fun d => partner_pllLost_of_a pair b onA⟩
    have known : s.pwr.pll.getD k {} = p := by rw [KMap.getD, pair]; rfl
    have good : pllGood (fire 1 (logFault 0x07 0 0xFFFF (pllLost k false s))) ((pairDomains s k).headD 66) = true :=
      pllGood_pllLost_of_a pair b onA (headD_mem some 66) ((wakeless_fire ..).trans (wakeless_logFault ..))
    change execPllFault k false s = _
    simp only [execPllFault, run, known, a, good, List.isEmpty_eq_false_iff.mpr some, decide_false, Bool.not_true, Bool.or_self, Bool.false_eq_true, if_false, if_true]
  · intro k pll s hib
    exact congrArg Host.Outcome.next (if_pos (by simp [hib]))
  · intro s low calm
    refine ⟨_, execBrownOut_of_low low calm, ?_⟩
    obtain ⟨-, -, -, -, -, -, -, total, low', pending, count, outs, trip⟩ := fields_of_wakeless ((wakeless_fire 3 _).trans (wakeless_causeWake 66 (brownedOut s)))
    have time : (fire 3 (causeWake 66 (brownedOut s))).time = (brownedOut s).time := by
      rw [time_of_view (view_fire rfl rfl rfl ..), time_of_view (view_causeWake rfl ..)]
    exact ⟨low', pending, count, outs, trip, congrArg TimeUnit.uncertain time, total⟩
  · intro since s trip
    refine ⟨_, rfl, ?_⟩
    change execBrownOutEnd s = _
    simp only [execBrownOutEnd, trip]

end Sys2Proof.Machine
end

section
/-! SUPPORT. Ask rounds, entries and wakes (R36, R463 to R484). -/

namespace Sys2Proof.Machine

/-! The answers of blocks. -/

section
variable {d b : Nat} {r : AskRound} {s : State} (asked : roundOf s d b = some r)
include asked

theorem ackNow_of_free (willing : r.refuse.any (fun x => decide (x.1 = d) && decide (x.2.1 = b)) = false) (free : blockDelays s r d b = false) :
    ackNow d b s = takeAck r d b s := by
  simp only [ackNow, asked, willing, free, Bool.or_self, Bool.false_eq_true, if_false]

theorem ackNow_of_delay (delays : blockDelays s r d b = true) : ackNow d b s = s := by
  simp only [ackNow, asked, delays, Bool.or_true, if_true]

theorem execAskAnswer_of_refused {x : Nat × Nat × Nat} (refuses : r.refuse.find? (fun x => decide (x.1 = d) && decide (x.2.1 = b)) = some x) :
    execAskAnswer d b .refused s = .next (abortRound r d b x.2.2 s) := by
  simp only [execAskAnswer, asked, refuses]

end

theorem execAskAnswer_of_delay (d b : Nat) (s : State) : execAskAnswer d b .delay s = .next s := by
  unfold execAskAnswer
  cases roundOf s d b <;> rfl

/-! Entries. -/

/-- A domain that has entered DOZE (R472). -/
def dozed (x : Dom) : Dom := { x with st := .doze, trans := .none, pswEn := false, lateLogged := false }

section
variable {d : Nat} {s : State} (told : (s.pwr.handover.map (delivered s)).getD true = true)
include told

theorem execSleepEntry_of_nap (entering : (dom s d).trans = .entry .nap) (next : entersNext s d .nap = true) : execSleepEntry d s = .next (settleEntry
    (updDom d (fun x => { x with st := .nap, trans := .none }) (updPwr (fun p => { p with handover := none, last := { p.last with detail := 0 } }) s))) := by
  simp only [execSleepEntry, entering, told, next, Bool.not_true, Bool.or_self, Bool.false_eq_true, if_false]

theorem execSleepEntry_of_doze (entering : (dom s d).trans = .entry .doze) (next : entersNext s d .doze = true) : execSleepEntry d s = .next (settleEntry
    (updPwr (fun p => { p with dozeEntries := p.dozeEntries + 1 }) (updDom d dozed
      (updPwr (fun p => { p with handover := none, last := { p.last with detail := 0 } }) s)))) := by
  simp only [execSleepEntry, entering, told, next, Bool.not_true, Bool.or_self, Bool.false_eq_true, if_false]
  rfl

end

/-! Wakes. -/

theorem block_markFail (d cause : Nat) (s : State) : (markFail d cause s).pwr.block = s.pwr.block := by
  unfold markFail
  rw [(fields_of_wakeless (wakeless_fire ..)).2.2.2.2.2.1]
  split <;> rfl

theorem block_regFails (s : State) : (regFails s).pwr.block = .hibernate :=
  foldl_keep (fun s => s.pwr.block) (fun s d => markFail d 3 s) (fun s d => block_markFail d 3 s) ..

theorem leaveSleep_of_doze {d : Nat} {s : State} (which : d = 65 ∨ d = 66) (doze : (dom s d).st = .doze) (whole : (dom s d).stateLost = false) :
    leaveSleep d s = closeSwitch d s := by
  have past : ¬ d < 64 := by omega
  simp only [leaveSleep, past, decide_false, Bool.and_false, Bool.false_and, Bool.false_eq_true, if_false, doze, reduceCtorEq, leaveDoze, whole]

/-- A failed wake that is tried again (R481). -/
def retried (s : State) (d : Nat) : State := updDom d (fun x => { x with again := true })
  (updPwr (fun p => { p with wakePend := addTo p.wakePend d, blockWake := p.blockWake || decide (p.block = .hibernate) }) s)

theorem mem_wakePend_foldl_retried {d : Nat} {l : List Nat} {s : State} (member : d ∈ l ∨ d ∈ s.pwr.wakePend) : d ∈ (l.foldl retried s).pwr.wakePend := by
  induction l generalizing s with
  | nil => exact member.resolve_left (List.not_mem_nil)
  | cons e l ih =>
    refine ih ?_
    obtain here | waits := member
    · obtain rfl | later := List.mem_cons.mp here
      · exact .inr (mem_addTo_self ..)
      · exact .inl later
    · refine .inr ?_
      change d ∈ addTo s.pwr.wakePend e
      rw [addTo]
      split
      · exact waits
      · exact List.mem_append_left _ waits

theorem dom_foldl_retried (l : List Nat) (s : State) (d : Nat) : dom (l.foldl retried s) d = if d ∈ l then { dom s d with again := true } else dom s d :=
  dom_foldl (f := fun x => { x with again := true }) (g := retried) (fun _ _ => rfl) (fun _ => rfl) ..

theorem hpt_foldl_retried (l : List Nat) (s : State) : (l.foldl retried s).hpt = s.hpt := foldl_keep State.hpt retried (fun _ _ => rfl) ..

/-! The lock of a PLL. -/

section
variable {s : State}

/-- No domain waits for its PLL once the centre is up: the lock ends the exit (R479). -/
theorem execPllLock_of_centre (waits : (dom s 64).trans = .wakePll) (good : pllGood s 64 = true)
    (none : ∀ d, d ∈ sleepers s → d ≠ 64 → (dom (domUp 64 (if (dom s 64).retried = true then retryWorked 64 2 s else s)) d).trans ≠ .wakePll)
    (centre : (dom (domUp 64 (if (dom s 64).retried = true then retryWorked 64 2 s else s)) 64).trans ≠ .wakePll) :
    execPllLock s = .next (settleExit (domUp 64 (if (dom s 64).retried = true then retryWorked 64 2 s else s))) := by
  simp only [execPllLock, waits, good, decide_true, Bool.and_self, if_true]
  rw [List.filter_eq_nil_iff.mpr fun d member => ?_, List.foldl_nil]
  by_cases h : d = 64
  · subst h
    simp [centre]
  · simp [none d member h]

theorem execPllLock_of_none (none : ∀ d, d ∈ sleepers s → (dom s d).trans ≠ .wakePll) (centre : (dom s 64).trans ≠ .wakePll) :
    execPllLock s = .next (settleExit s) := by
  simp only [execPllLock, centre, decide_false, Bool.false_and, Bool.false_eq_true, if_false]
  rw [List.filter_eq_nil_iff.mpr fun d member => by simp [none d member], List.foldl_nil]

end

/-- Settles O58: each event by its branch, the retry of the failed wakes by what `retried` leaves. -/
theorem sleepAndWakeComplete : Obligations.SleepAndWakeComplete := by
  unfold Obligations.SleepAndWakeComplete
  refine ⟨?_, ?_, ?_, ?_, fun d b r s asked willing free => congrArg Host.Outcome.next (ackNow_of_free asked willing free),
    fun d b r s asked delays => congrArg Host.Outcome.next (ackNow_of_delay asked delays), execAskAnswer_of_delay, fun d b r x s asked => execAskAnswer_of_refused asked,
    fun d r s asked willing free => congrArg Host.Outcome.next (ackNow_of_free asked willing free), ?_, ?_, ?_, ?_, ?_, ?_, ?_, ?_, ?_, ?_, ?_, ?_, ?_, ?_, ?_, ?_, ?_, ?_, ?_,
    ?_, ?_, ?_, ?_⟩
  · intro d target s sleeper other settled awake idle policy
    change execAutoSleepAsk d s = _
    simp only [execAutoSleepAsk, other, sleeper, settled, awake, idle, policy, if_false, decide_true, decide_false, Bool.not_true, Bool.or_self, Bool.false_eq_true]
  · intro d s other busy
    change execAutoSleepAsk d s = _
    simp only [execAutoSleepAsk, other, busy, if_false, Bool.not_false, Bool.or_true, if_true]
  · intro target s follows settled awake
    change execAutoSleepAsk 64 s = _
    simp only [execAutoSleepAsk, follows, settled, awake, if_true, decide_false, Bool.or_self, Bool.false_eq_true, if_false]
  · intro s stays
    change execAutoSleepAsk 64 s = _
    simp only [execAutoSleepAsk, stays, if_true]
  · intro d r x s late holds
    change execDrainTimeout d s = _
    simp only [execDrainTimeout, late, holds]
  · intro d s entering told next
    refine ⟨_, execSleepEntry_of_nap told entering next, ?_, ?_, fun k other => dom_updDom_other _ _ other, rfl⟩ <;> rw [dom_updDom_same]
  · intro d s entering told next
    refine ⟨_, execSleepEntry_of_doze told entering next, ?_⟩
    have entered := dom_updDom_same d dozed (updPwr (fun p => { p with handover := none, last := { p.last with detail := 0 } }) s)
    exact ⟨congrArg Dom.st entered, congrArg Dom.trans entered, congrArg Dom.pswEn entered,
      fun k other => dom_updDom_other dozed (updPwr (fun p => { p with handover := none, last := { p.last with detail := 0 } }) s) other, rfl⟩
  · intro d target s entering waits
    change execSleepEntry d s = _
    simp only [execSleepEntry, entering, waits, Bool.not_false, Bool.or_true, if_true]
  · intro d s doze off free silent
    refine ⟨_, congrArg Host.Outcome.next (if_pos (by simp [doze, off, free, silent])), rfl, rfl, ?_⟩
    exact congrArg Dom.lateLogged (dom_updDom_same d (fun x => { x with lateLogged := true }) s)
  · intro d s pending run free asked sleeps may
    have asleep : ((dom s d).st = .run || (dom s d).st = .off) = false := by rcases sleeps with h | h <;> simp [h]
    change execWake d s = _
    simp only [execWake, pending, run, free, asked, asleep, may, ne_eq, not_true, decide_true, decide_false, Bool.true_or, Bool.not_true, Bool.or_self,
      Bool.false_eq_true, if_false]
  · intro d s s1 pending hib left
    subst left
    change execWake d s = _
    simp only [execWake, pending, hib, decide_true, Bool.true_or, Bool.not_true, Bool.false_eq_true, if_false]
    rfl
  · intro d s which doze whole
    refine ⟨_, leaveSleep_of_doze which doze whole, ?_⟩
    have closed := dom_updDom_same d (fun x => { x with trans := .wakePsw, pswEn := true, retried := false }) s
    exact ⟨congrArg Dom.trans closed, congrArg Dom.pswEn closed, fun waits => ((mem_dropFrom ..).mp waits).2 rfl⟩
  · intro d s low waits
    change execPswAck d s = _
    simp only [execPswAck, waits, low, ne_eq, not_true, if_false, if_true]
  · intro d s high waits lost
    change execPswAck d s = _
    simp only [execPswAck, waits, not_lt.mpr high, lost, ne_eq, not_true, if_false, if_true]
  · intro d s s1 high waits whole retried
    subst retried
    refine ⟨fun run => ?_, fun exits => ?_⟩ <;> change execPswAck d s = _
    · simp only [execPswAck, waits, not_lt.mpr high, whole, run, ne_eq, not_true, Bool.false_eq_true, if_false]
    · simp only [execPswAck, waits, not_lt.mpr high, whole, exits, ne_eq, not_true, Bool.false_eq_true, if_false, if_true]
  · intro s s1 ready
    subst ready
    refine ⟨fun exits new => congrArg Host.Outcome.next (if_pos (by rw [exits, new]; rfl)), fun other => congrArg Host.Outcome.next (if_neg ?_)⟩
    rcases other with h | h <;> simp [h]
  · intro s s1 ds retried pending
    subst retried pending
    rfl
  · intro s s1 waits good up none centre
    subst up
    exact execPllLock_of_centre waits good none centre
  · intro s none centre
    exact execPllLock_of_none none centre
  · intro d s high waits first
    change execWakeTimeout d (.pswAck false) s = _
    simp only [execWakeTimeout, decide_eq_false (not_lt.mpr high), waits, first, ne_eq, not_true, decide_false, Bool.or_self, Bool.false_eq_true, if_false]
  · intro d s high waits second
    change execWakeTimeout d (.pswAck true) s = _
    simp only [execWakeTimeout, decide_eq_false (not_lt.mpr high), waits, second, ne_eq, not_true, decide_false, Bool.or_self, Bool.false_eq_true, if_false, if_true]
  · intro d s exits waits retried
    refine ⟨regFails s, ?_, block_regFails s⟩
    change execWakeTimeout d (.regReady true) s = _
    simp only [execWakeTimeout, exits, waits, retried, ne_eq, not_true, decide_false, Bool.or_self, Bool.false_eq_true, if_false, if_true]
  · intro i s low asleep
    exact congrArg Host.Outcome.next (if_pos (by simp [low, asleep]))
  · intro i s awake
    exact congrArg Host.Outcome.next (if_neg (by simp [awake]))
  · intro s asleep
    exact congrArg (fun t => Host.Outcome.next (hptOk 0 t)) (if_pos (by simpa using asleep))
  · intro s run
    exact congrArg (fun t => Host.Outcome.next (hptOk 0 t)) (if_neg (by simp [run]))
  · intro s
    refine ⟨_, rfl, ?_, fun d sleeper fails whole => ?_, fun d out => ?_⟩
    · change (List.foldl retried s _).hpt.rsp ++ [⟨(List.foldl retried s _).hpt.tag, 0, 0⟩] = _
      rw [hpt_foldl_retried]
    · have member : d ∈ (sleepers s).filter (fun d => (dom s d).wakeFail && !(dom s d).stateLost) := List.mem_filter.mpr ⟨sleeper, by simp [fails, whole]⟩
      exact ⟨congrArg Dom.again ((dom_foldl_retried _ s d).trans (if_pos member)), mem_wakePend_foldl_retried (.inl member)⟩
    · refine (dom_foldl_retried _ s d).trans (if_neg fun member => ?_)
      obtain ⟨sleeper, fails⟩ := List.mem_filter.mp member
      simp only [Bool.and_eq_true, Bool.not_eq_true'] at fails
      rcases out with h | h | h
      · exact h sleeper
      · exact absurd fails.1 (by simp [h])
      · exact absurd fails.2 (by simp [h])

end Sys2Proof.Machine
end

section
/-! SUPPORT. Badger, tests, diagnosis and repairs (R340, R485 to R503). -/

namespace Sys2Proof.Machine

/-! Units. -/

section
variable {u v : Nat} {f : UnitRt → UnitRt} {s : State}

theorem unitRt_congr {t : State} (units : t.badger.units = s.badger.units) (u : Nat) : unitRt t u = unitRt s u := by
  rw [unitRt, units, unitRt]

theorem unitRt_updUnit_same : unitRt (updUnit u f s) u = f (unitRt s u) := KMap.getD_upd_same s.badger.units u {} f

theorem unitRt_updUnit_other (other : v ≠ u) : unitRt (updUnit u f s) v = unitRt s v := by
  rw [unitRt, updUnit, KMap.getD_upd, if_neg other, unitRt]

end

/-- A unit's record but for the cycle in which it was tested. -/
def uncycled (x : UnitRt) : UnitRt := { x with cycled := false }

theorem unitRt_mapV_uncycled (s : State) (v : Nat) : uncycled ((s.badger.units.mapV (fun _ x => uncycled x)).getD v {}) = uncycled (unitRt s v) := by
  rw [unitRt, KMap.getD, KMap.getD, KMap.get?_mapV]
  cases s.badger.units.get? v <;> rfl

theorem badger_fire (i : Nat) (s : State) : (fire i s).badger = s.badger := by simp

theorem uncycled_cycleDone (s : State) (v : Nat) : uncycled (unitRt (cycleDone s) v) = uncycled (unitRt s v) := by
  unfold cycleDone
  split
  · rw [unitRt_congr (congrArg Badger.units (badger_fire ..))]
    exact unitRt_mapV_uncycled s v
  · rfl

/-- A unit's record after a test (R487, R488). -/
def testedUnit (result corrected : Nat) (s : State) (x : UnitRt) : UnitRt := { x with
  running := false, result, last := rawNs s, lastNs := timeNs s, overdue := false, cycled := true, tests := x.tests + 1, corrected := x.corrected + corrected
  fails := x.fails + (if result = 2 then 1 else 0) }

theorem badger_ite {p : Prop} [Decidable p] {f : State → State} (kept : ∀ t, (f t).badger = t.badger) (t : State) : (if p then f t else t).badger = t.badger := by
  split
  · exact kept t
  · rfl

theorem uncycled_testDone (u result corrected v : Nat) (s : State) :
    uncycled (unitRt (testDone u result corrected s) v) = uncycled (unitRt (updUnit u (testedUnit result corrected s) s) v) := by
  unfold testDone
  rw [uncycled_cycleDone]
  refine congrArg uncycled (unitRt_congr (congrArg Badger.units ?_) v)
  exact (badger_ite (f := addCtr _ _) (fun _ => rfl) _).trans (badger_ite (f := bump _) (fun _ => rfl) _)

theorem fields_of_uncycled {x y : UnitRt} (h : uncycled x = uncycled y) : x.tests = y.tests ∧ x.result = y.result ∧ x.last = y.last ∧ x.corrected = y.corrected ∧ x.fails = y.fails := by
  simp only [uncycled, UnitRt.mk.injEq] at h
  simp only [h, and_self]

theorem unitRt_testDone_same (u r c : Nat) (s : State) : (unitRt (testDone u r c s) u).tests = (unitRt s u).tests + 1 ∧ (unitRt (testDone u r c s) u).result = r
    ∧ (unitRt (testDone u r c s) u).last = rawNs s ∧ (unitRt (testDone u r c s) u).corrected = (unitRt s u).corrected + c
    ∧ (unitRt (testDone u r c s) u).fails = (unitRt s u).fails + (if r = 2 then 1 else 0) := by
  have tested := fields_of_uncycled (uncycled_testDone u r c u s)
  rwa [unitRt_updUnit_same] at tested

theorem unitRt_testDone_other {u v : Nat} (r c : Nat) (s : State) (other : v ≠ u) :
    (unitRt (testDone u r c s) v).tests = (unitRt s v).tests ∧ (unitRt (testDone u r c s) v).result = (unitRt s v).result := by
  obtain ⟨tests, result, -⟩ := fields_of_uncycled (uncycled_testDone u r c v s)
  rw [unitRt_updUnit_other other] at tests result
  exact ⟨tests, result⟩

/-! Faults. -/

theorem rebuilding_logFault (code action unit : Nat) (s : State) : (logFault code action unit s).badger.rebuilding = s.badger.rebuilding := by
  rw [logFault, logFaultAt, badger_fire]

/-- A guarded flow that a rebuilt bank does not take back (R340). -/
def unmirrorFlow (s : State) (f : Nat) : State :=
  flowEvent f 4 { s with flows := { s.flows with rt := s.flows.rt.upd f {} (fun r => { r with mirrored := false }) } }

theorem kept_unmirrorFlow (s : State) (f : Nat) : (unmirrorFlow s f).badger = s.badger ∧ (unmirrorFlow s f).cap = s.cap := by
  have kept := view_flowEvent (μ := fun p => p == .flows || p == .irq || p == .pwr || p == .out) rfl rfl rfl rfl f 4
    { s with flows := { s.flows with rt := s.flows.rt.upd f {} (fun r => { r with mirrored := false }) } }
  exact ⟨agree_of_view kept .badger rfl, agree_of_view kept .cap rfl⟩

theorem cap_logFault (code action unit : Nat) (s : State) : (logFault code action unit s).cap = s.cap :=
  agree_of_view (μ := fun p => p == .irq || p == .pwr || p == .badger || p == .out || p == .fresh) (view_logFault rfl rfl rfl rfl rfl code action unit s) .cap rfl

/-- Settles O60: the commands by `next_runOk` and `next_runCmd`, a test by `uncycled_testDone`, the repairs by their branch. -/
theorem testAndRecoveryComplete : Obligations.TestAndRecoveryComplete := by
  unfold Obligations.TestAndRecoveryComplete
  refine ⟨fun e s turn passed => next_runOk turn passed, ?_, ?_, ?_, ?_, fun e s turn passed => next_runOk turn passed, fun e s turn passed => next_runOk turn passed, ?_, ?_, ?_,
    fun e c s turn passed => next_runCmd turn passed, fun e s turn passed => next_runCmd turn passed, fun e s turn passed => next_runCmd turn passed, ?_, ?_,
    fun u r c s => ⟨_, rfl, ?_⟩, ?_, ?_, ?_, ?_, ?_, ?_, ?_, ?_, ?_, fun s => ⟨_, rfl, rfl, rfl⟩⟩
  · intro e w s turn passed window
    subst window
    exact next_runOk turn passed
  · intro e c us s turn passed inTime
    exact (next_runCmd turn passed).trans (congrArg Host.Outcome.next (if_neg (not_lt.mpr inTime)))
  · intro e us s turn passed inTime
    exact (next_runCmd turn passed).trans (congrArg Host.Outcome.next (if_neg (not_lt.mpr inTime)))
  · intro e outcome us s turn passed late
    exact (next_runCmd turn passed).trans (congrArg Host.Outcome.next (if_pos late))
  · intro e s turn passed
    refine ⟨_, next_runOk turn passed, fun keep => if_neg (by omega), fun clear c => ?_⟩
    rw [if_pos clear, ctrOf_clearCtrs]
    exact if_congr (by simp) rfl rfl
  · intro e l s turn passed records
    subst records
    refine ⟨_, next_runOk turn passed, fun none => ?_, fun x last => ?_⟩
    · simp only [none, List.getLast?_nil]
    · simp only [last]
  · intro e s turn passed
    exact next_runCmd turn passed
  · intro u s may
    refine ⟨?_, fun c => ?_, ?_⟩ <;> exact congrArg Host.Outcome.next (if_neg (by simp [may]))
  · intro u outcome s waits
    exact congrArg Host.Outcome.next (if_pos (by simp [waits]))
  · obtain ⟨tests, result, last, corrected, fails⟩ := unitRt_testDone_same u r c s
    exact ⟨tests, result, last, corrected, fails, fun v => unitRt_testDone_other r c s⟩
  · intro u s on here whole late new
    exact congrArg Host.Outcome.next (if_pos (by simp [on, here, whole, late, new]))
  · intro w s window past
    change execBadgerWindowEnd s = _
    simp only [execBadgerWindowEnd, window, past, decide_true, Bool.or_true, if_true]
  · intro s none
    change execBadgerWindowEnd s = _
    simp only [execBadgerWindowEnd, none]
  · intro u owner lost s moves
    change execRelocateDone u lost s = _
    simp only [execRelocateDone, moves]
  · intro u s member
    refine ⟨_, congrArg Host.Outcome.next (if_neg (by simp [member])), ?_, ?_⟩
    · refine (congrArg Badger.rebuilding (foldl_keep State.badger unmirrorFlow (fun s f => (kept_unmirrorFlow s f).1) _ _)).trans ?_
      exact rebuilding_logFault ..
    · refine (foldl_keep State.cap unmirrorFlow (fun s f => (kept_unmirrorFlow s f).2) _ _).trans ?_
      exact cap_logFault ..
  · intro sl s here idle
    exact congrArg Host.Outcome.next (if_neg (by simp [here, idle]))
  · intro s l live records
    subst records
    refine ⟨_, congrArg Host.Outcome.next (if_neg live), fun few => if_neg (by omega), fun many => ?_⟩
    rw [if_pos many]
    exact ⟨rfl, rfl⟩
  · intro s held
    exact congrArg Host.Outcome.next (if_neg (by simp [held]))
  · intro s free
    exact congrArg Host.Outcome.next (if_pos free)

end Sys2Proof.Machine
end
